-- ==== Sys2Proof/Word.lean ====
section
/-! DEFINITION. The words of the module: the byte, and the plainest arithmetic over natural numbers that stand for
fixed-width fields. -/

namespace Sys2Proof

/-- One byte of a value, a frame, a record or a memory. -/
abbrev Byte := BitVec 8

/-- A byte string: a value of the dictionary, a body, a record, in the order the bytes are sent. -/
abbrev Bytes := List Byte

/-- 2^32, the modulus of short time, of trigger indexes and of sequence numbers (R31, R66). -/
abbrev wrap32 : Nat := 4294967296

/-- 2^31, the largest distance that counts as ahead (R31, R66). -/
abbrev half32 : Nat := 2147483648

end Sys2Proof
end

