-- ==== Sys2Proof/Syntax.lean ====
section
/-! DEFINITION. The commands of the module: one constructor for each row of the operation table. Every command carries,
first, `dt`: the nanoseconds of module time that have passed since the command before it (DESIGN CHOICE, log entry 1). -/

namespace Sys2Proof

/-- Where a dictionary request comes from: the I3C path with its TAG byte (R54), or the YDP path with the Ethernet port,
the source address and port, the SESSION field and SEQ of its header (R62). -/
inductive Src where
  | i3c (tag : Nat)
  | ydp (eth ip port session seq : Nat)
  deriving DecidableEq, Repr

/-- What a session is called: the I3C path is one session, a YDP session has its number (R64, R68). -/
inductive SessId where
  | i3c
  | ydp (number : Nat)
  deriving DecidableEq, Repr

/-- The wake causes of LAST_WAKE (R482, R487, R498), in the order of their codes 1 to 8. -/
inductive WakeCause where
  | trigger | encoder | dictionary | dma | key | touch | lane | i3c
  deriving DecidableEq, Repr

/-- What the outside of the control cluster contributes to one run of the boot (R541, R543, R546): which steps the boot
reaches before the next command, which images verify, which units fail their self-test, which stacks and PLLs come up,
the keys held at the end and the supply's first readings. -/
structure BootInputs where
  /-- the last boot step that ends before the next command, 1 to 10 -/
  last : Nat
  imageAValid : Bool
  imageBValid : Bool
  /-- the step at which a PLL does not lock (2 or 4) or a stack does not train (5); 0 none -/
  lossStep : Nat
  /-- units that fail the self-test at step 0x07: UNIT and INSTANCE of R509 -/
  selfTestFailed : List (Nat × Nat)
  /-- KEY0 to KEY7 held at the end of BOOT (R527), bit k -/
  keysHeld : Nat
  deriving DecidableEq, Repr

/-- The header of an HLP packet (R126). -/
structure HlpHeader where
  lastInLine : Bool
  frameStart : Bool
  frameEnd : Bool
  phase : Nat
  index : Nat
  offset : Nat
  camLane : Nat
  pseq : Nat
  camStatus : Nat
  deriving DecidableEq, Repr

/-- What the header of a packet of a camera says of its lane and its camera: PSEQ and CAM_STATUS (R126, R128). -/
structure PacketTail where
  pseq : Nat
  camStatus : Nat
  deriving DecidableEq, Repr

/-- Where a packet of a camera comes in, and the tail of its header (R126, R134). -/
structure PacketHead where
  port : Nat
  lane : Nat
  tail : PacketTail
  deriving DecidableEq, Repr

/-- The header of a CoaXPress line-scan packet: the image's width, bits and bands (R135, R144), and the slice's place. -/
structure CxpHeader where
  width : Nat
  bits : Nat
  bands : Nat
  slice : HlpHeader
  deriving DecidableEq, Repr

/-- A record of a COMET packet (R145): the 128 bytes of a comet, edge record or fragment (R284, R287, R288), or the valve-open time of a
comet that the owner of its valves returns (R319; the form is the model's: log entry 38). -/
inductive LinkRecord where
  | record (b : Bytes)
  | opened (comet time : Nat)
  deriving DecidableEq, Repr

/-- The lane of a packet of the system link, and its PSEQ (R145, R147). -/
structure LinkHead where
  lane : Nat
  pseq : Nat
  deriving DecidableEq, Repr

/-- A datagram to YDP_PORT of an Ethernet port (R62, R63): its source, its bytes, and whether its checksums are right. -/
structure UdpPacket where
  eth : Nat
  ip : Nat
  port : Nat
  bytes : Bytes
  checksumOk : Bool
  deriving DecidableEq, Repr

/-- The levels of A and B of an encoder channel (R162, R163). -/
structure EdgeLevels where
  a : Bool
  b : Bool
  deriving DecidableEq, Repr

/-- An edge of Z: the channel, and the samples for which Z has stood at its new level (R162, R167). -/
structure IndexEdge where
  channel : Nat
  samples : Nat
  deriving DecidableEq, Repr

/-- A bank of a view's sort table (R251, R256). -/
structure ViewBank where
  view : Nat
  bank : Nat
  deriving DecidableEq, Repr

/-- An ARP frame as received (R456, R457). -/
inductive ArpKind where
  | request
  | reply
  deriving DecidableEq, Repr

/-- What a PTP message carries beside its time: its correction in ns, whether it is two-step (R463), the transport it comes over (the
codes of TRANSPORT), its domain and its sequence number (R456, R462). -/
structure PtpFields where
  correction : Int
  twoStep : Bool
  transport : Nat
  domain : Nat
  sequence : Nat
  deriving DecidableEq, Repr

/-- Who announces: the grandmaster's identity, the transport and the domain of the Announce (R456, R462, R465). -/
structure AnnounceHead where
  identity : Nat
  transport : Nat
  domain : Nat
  deriving DecidableEq, Repr

/-- What follows an IPv4 header (R456): an ICMP echo request of a payload, other ICMP, a UDP datagram to a port, anything else. -/
inductive IpBody where
  | echo (payload : Nat)
  | icmp
  | udp (port : Nat)
  | other
  deriving DecidableEq, Repr

/-- A frame that a port receives, as R456 tells frames apart: ARP; IPv4 with its destination, the bytes of its header, whether its
checksum is right and whether it is a fragment; EtherType 0x88F7 with its MAC destination; anything else, tagged and jumbo frames among
them (R455). -/
inductive RxFrame where
  | arp (kind : ArpKind) (senderIp targetIp : Nat)
  | ipv4 (destination headerBytes : Nat) (checksumOk fragment : Bool) (body : IpBody)
  | ptp (destination : Nat)
  | other
  deriving DecidableEq, Repr

/-- A frame and the port it comes in at. -/
structure RxPacket where
  port : Nat
  frame : RxFrame
  deriving DecidableEq, Repr

/-- The kinds of a CoaXPress stream packet the port distinguishes (R135, R136): a slice of a line of a supported
line-scan image, a line-scan header with an unsupported pixel format, or a packet of an unsupported kind. -/
inductive CxpKind where
  | lineSlice
  | unsupportedFormat
  | unsupported
  deriving DecidableEq, Repr

/-- The outcome of an HBM access as the stack reports it (R392, R393): clean, a corrected word and an uncorrectable one (syndrome in
bits 7:0, word within the burst in bits 10:8), a parity error whose retry succeeds, one whose retry fails. -/
inductive HbmOutcome where
  | clean
  | corrected (syndrome : Nat)
  | uncorrectable (syndrome : Nat)
  | parityRetried
  | parityFailed
  deriving DecidableEq, Repr

/-- The PTP messages besides Sync and Announce that the profile knows (R462); `other` is a management or signaling
message. -/
inductive PtpKind where
  | followUp | delayReq | delayResp | pdelayReq | pdelayResp | pdelayRespFollowUp | other
  deriving DecidableEq, Repr

/-- A PTP message besides Sync and Announce: its kind, the time it carries in ns, and its further fields (R462, R463). -/
structure PtpMessage where
  kind : PtpKind
  time : Int
  fields : PtpFields
  deriving DecidableEq, Repr

/-- The periodic PTP messages the module sends (R462). -/
inductive PtpSendKind where
  | announce | sync | delayReq | pdelayReq
  deriving DecidableEq, Repr

/-- The commands: one constructor for each row of the operation table, in its order. -/
inductive Instr where
  | read (dt : Nat) (src : Src) (index sub : Nat) (staged : Bool)
  | write (dt : Nat) (src : Src) (index sub : Nat) (data : Bytes)
  | segRead (dt : Nat) (src : Src) (index sub offset : Nat)
  | segWrite (dt : Nat) (src : Src) (index sub offset : Nat) (final : Bool) (data : Bytes)
  | blockStart (dt : Nat) (src : Src) (index sub : Nat) (data : Bytes)
  | blockData (dt : Nat) (src : Src) (index sub offset : Nat) (data : Bytes)
  | blockEnd (dt : Nat) (src : Src) (index sub : Nat) (data : Bytes)
  | blockRead (dt : Nat) (src : Src) (index sub offset : Nat)
  | sessionOpen (dt eth ip port seq : Nat) (data : Bytes)
  | sessionClose (dt : Nat) (src : Src)
  | sessionIdle (dt number : Nat)
  | frameCheck (dt : Nat) (frame : Bytes)
  | datagramDrop (dt : Nat) (packet : UdpPacket)
  | responseRead (dt : Nat)
  | ibiDelivery (dt : Nat)
  | setdasa (dt address : Nat)
  | entdaa (dt address : Nat)
  | wakeTransfer (dt : Nat) (byte : Byte)
  | ydpPort (dt : Nat) (src : Src) (value : Nat)
  | challenge (dt : Nat) (src : Src)
  | response (dt : Nat) (src : Src) (value : Nat)
  | nonceExpiry (dt : Nat) (session : SessId)
  | lockoutEnd (dt : Nat)
  | dropLevel (dt : Nat) (src : Src) (value : Nat)
  | restoreDefaults (dt : Nat) (src : Src) (value : Nat)
  | rcClear (dt : Nat) (src : Src) (index sub : Nat) (data : Bytes)
  | ack (dt : Nat) (src : Src) (index seq : Nat)
  | heartbeat (dt : Nat) (src : Src) (value : Nat)
  | period (dt : Nat) (src : Src) (value : Nat)
  | heartbeatLate (dt : Nat)
  | hostLost (dt : Nat)
  | openStaging (dt : Nat) (src : Src)
  | releaseStaging (dt : Nat) (src : Src)
  | seize (dt : Nat) (src : Src)
  | stagingIdle (dt : Nat)
  | commit (dt : Nat) (src : Src)
  | checkOnly (dt : Nat) (src : Src)
  | commitCheckEnd (dt : Nat)
  | commitInstant (dt : Nat)
  | digestStart (dt : Nat) (src : Src) (value : Nat)
  | digestResult (dt : Nat)
  | mirrorWrite (dt : Nat)
  | logWrite (dt : Nat)
  | powerUp (dt vinMv : Nat) (id bootsel : Nat)
  | bootStart (dt : Nat) (inputs : BootInputs)
  | firmwareTimeout (dt : Nat)
  | resetNAssert (dt : Nat)
  | resetNRise (dt id bootsel : Nat)
  | brownOut (dt : Nat)
  | supplyFault (dt : Nat)
  | supplyReturn (dt : Nat)
  | thermalTrip (dt sensor : Nat)
  | thermalRestart (dt : Nat)
  | pllLoss (dt : Nat)
  | housekeepingRound (dt : Nat) (readings : List Nat)
  | guaranteeHeld (dt : Nat)
  | idleTimer (dt : Nat)
  | selfRefreshEntry (dt pch : Nat)
  | deepEntry (dt : Nat)
  | wake (dt : Nat) (cause : WakeCause)
  | deepExit (dt tcxoCycles : Nat)
  | standbyWake (dt : Nat) (cause : WakeCause)
  | pipelineGate (dt region : Nat)
  | tileLight (dt tile : Nat)
  | noSignal (dt lane : Nat)
  | signalDetect (dt lane : Nat)
  | aligned (dt lane : Nat)
  | alignmentLoss (dt lane : Nat) (crc : Bool)
  | laneExit (dt lane : Nat)
  | eyeMeasure (dt lane height width : Nat)
  | eyeFloor (dt lane : Nat)
  | eyeScan (dt : Nat) (src : Src) (lane dwell : Nat)
  | eyeScanDone (dt : Nat) (counts : List Nat)
  | adopt (dt : Nat) (src : Src) (port value : Nat)
  | regRead (dt : Nat) (src : Src) (port words : Nat)
  | regWrite (dt : Nat) (src : Src) (port words : Nat)
  | regTimeout (dt port : Nat)
  | regResponse (dt : Nat) (head : PacketHead) (tag address status : Nat) (data : Bytes)
  | linePacket (dt port lane : Nat) (header : HlpHeader) (payload : Bytes) (crcOk : Bool)
  | cameraEvent (dt : Nat) (head : PacketHead) (payload : Bytes)
  | statusPacket (dt port lane : Nat) (tail : PacketTail)
  | cxpImagePacket (dt port : Nat) (kind : CxpKind) (header : CxpHeader) (payload : Bytes)
  | cxpControlResponse (dt port status : Nat) (data : Bytes)
  | trigAck (dt port : Nat)
  | cxpHeartbeat (dt port time : Nat)
  | reasmWindow (dt port index : Nat)
  | trigEnd (dt view : Nat)
  | seam (dt lane view index offset pseq : Nat) (last : Bool) (payload : Bytes)
  | cometPacket (dt lane pseq : Nat) (records : List LinkRecord)
  | eventPacket (dt lane pseq : Nat) (events : List (Nat × Nat × Nat))
  | linkStatus (dt : Nat) (head : LinkHead) (sender epoch : Nat)
  | linkStatusSend (dt : Nat)
  | linkStatusTimeout (dt lane : Nat)
  | seamLate (dt view index : Nat)
  | edgeLate (dt view index : Nat)
  | countEdge (dt channel samples : Nat) (levels : EdgeLevels)
  | indexEdge (dt : Nat) (edge : IndexEdge)
  | speedTimeout (dt channel : Nat)
  | syntheticCount (dt channel : Nat)
  | positionSet (dt : Nat) (src : Src) (channel value : Nat)
  | pgoPulse (dt output : Nat)
  | triggerHeldIssue (dt view : Nat)
  | frameLines (dt : Nat) (src : Src) (view value : Nat)
  | lineCorrection (dt port : Nat)
  | calCaptureDark (dt : Nat) (src : Src) (port : Nat)
  | calCaptureFlat (dt : Nat) (src : Src) (port : Nat)
  | calCaptureTimeout (dt port : Nat)
  | stitchLine (dt view : Nat) (eccCells : List (Nat × Nat × Bool))
  | cometRelease (dt view : Nat)
  | fuseHold (dt comet : Nat)
  | histClear (dt : Nat) (src : Src) (view mask : Nat)
  | build (dt : Nat) (src : Src) (view mask : Nat)
  | buildUnit (dt view tile brick : Nat)
  | buildTimeout (dt view : Nat)
  | tableVerify (dt : Nat) (bank : ViewBank) (mismatches : List (Nat × Nat))
  | dispatch (dt : Nat)
  | cropFetch (dt tile brick : Nat)
  | runEnd (dt tile brick : Nat)
  | tDecExpiry (dt comet : Nat)
  | brickUpset (dt tile brick : Nat)
  | sramError (dt tile : Nat) (corrected : Bool) (slot : Nat)
  | tileReset (dt tile : Nat)
  | regionReset (dt region : Nat)
  | modelCheck (dt slot : Nat)
  | norStored (dt slot : Nat)
  | clear (dt : Nat) (src : Src) (slot value : Nat)
  | tickStart (dt bus : Nat)
  | statusFrame (dt bus : Nat) (frame : Bytes)
  | statusJudge (dt bus : Nat)
  | vbPresAssert (dt bus : Nat)
  | vbPresRelease (dt bus : Nat)
  | busStartIdle (dt bus : Nat)
  | testEnable (dt : Nat) (src : Src) (bus value : Nat)
  | safeNAssert (dt : Nat)
  | safeNRelease (dt : Nat)
  | timedEdge (dt output : Nat)
  | edges (dt : Nat) (src : Src) (output : Nat) (data : Bytes)
  | flush (dt : Nat) (src : Src) (output value : Nat)
  | hbmRequest (dt port pch pa : Nat) (data : Option Bytes) (outcome : HbmOutcome)
  | lineWriteDrop (dt region : Nat)
  | stackTemperature (dt stack : Nat) (celsius : Int)
  | refresh (dt pch : Nat)
  | powerDown (dt pch : Nat)
  | patrolScrub (dt pch : Nat) (outcome : HbmOutcome)
  | start (dt : Nat) (src : Src) (channel descriptor : Nat)
  | stop (dt : Nat) (src : Src) (channel value : Nat)
  | flightEntry (dt : Nat)
  | descriptorFetch (dt channel : Nat)
  | followReady (dt channel : Nat)
  | descriptorDone (dt channel : Nat)
  | busError (dt channel : Nat)
  | codecBlock (dt : Nat) (selfCheckFails : Bool)
  | checkUnitGrant (dt unit : Nat)
  | eventDelivery (dt : Nat)
  | ethLinkUp (dt port : Nat)
  | ethLinkDown (dt port : Nat)
  | arpFrame (dt port : Nat) (kind : ArpKind) (senderIp senderMac targetIp : Nat)
  | icmpEcho (dt port sourceIp : Nat) (payload : Bytes)
  | arpRetry (dt port ip : Nat)
  | arpRefresh (dt port ip : Nat)
  | arpExpiry (dt port ip : Nat)
  | sync (dt port : Nat) (origin : Int) (fields : PtpFields)
  | announce (dt port : Nat) (source : AnnounceHead) (rank : Nat) (utcOffset : Int)
  | ptpMessage (dt port : Nat) (message : PtpMessage)
  | ptpSend (dt port : Nat) (kind : PtpSendKind)
  | syncTimeout (dt : Nat)
  | announceTimeout (dt port : Nat)
  | step (dt : Nat) (src : Src) (value : Nat)
  | stepWithdraw (dt : Nat)
  | keyPress (dt key : Nat)
  | keyRelease (dt key : Nat)
  | longPress (dt key : Nat)
  | touchScan (dt : Nat) (raw : List Nat)
  | touchStuck (dt channel : Nat)
  | lampBlink (dt lamp : Nat)
  | campwrFlt (dt port : Nat)
  | pwrRetry (dt port : Nat)
  | pwrStagger (dt : Nat)
  | pwrEnable (dt : Nat) (src : Src) (port value : Nat)
  | pwrReset (dt : Nat) (src : Src) (port value : Nat)
  | clearRetirements (dt : Nat) (src : Src) (value : Nat)
  | preferred (dt : Nat) (src : Src) (value : Nat)
  | fwProgrammed (dt slot : Nat)
  | dieBridgeFailure (dt : Nat)
  | watchdog (dt : Nat)
  | dmaParityError (dt channel : Nat)
  | eventChannelParityError (dt channel : Nat)
  | rxDropped (dt : Nat) (packet : RxPacket)
  deriving DecidableEq, Repr

end Sys2Proof
end

