-- ==== Sys2Proof/Decode.lean ====
section
/-! DEFINITION. The decoder over the rows of the operation table that give bits. The table gives bits to none of its rows: a
command reaches the module as a request, a packet, an edge or a time, not as a word. -/

namespace Sys2Proof

/-- The command a word of `nbits` bits spells: none, as no row of the table gives bits (log entry 7). -/
def decodeTableWord (_nbits _w : Nat) : Option Instr := none

end Sys2Proof
end

