-- ==== Sys2Proof/Machine/Bytes.lean ====
section
/-! DEFINITION. Byte strings and fixed-width numbers: little-endian fields (R6, R39), two's complement, lists taken as
arrays. Every function recurses on its list or on a count, so that the kernel can evaluate it. -/

namespace Sys2Proof.Machine

/-- The `n` bytes of `v`, least significant first (R6). -/
def leBytes : Nat → Nat → Bytes
  | 0, _ => []
  | n + 1, v => BitVec.ofNat 8 v :: leBytes n (v / 256)

/-- The number a little-endian byte string spells (R6). -/
def leNat : Bytes → Nat
  | [] => 0
  | b :: r => b.toNat + 256 * leNat r

/-- The `n` bytes of `b` from offset `o`. -/
def slice (b : Bytes) (o n : Nat) : Bytes := (b.drop o).take n

/-- The little-endian field of `n` bytes at offset `o`; bytes beyond the end count as 0. -/
def fieldAt (b : Bytes) (o n : Nat) : Nat := leNat (slice b o n)

def u8At (b : Bytes) (o : Nat) : Nat := fieldAt b o 1
def u16At (b : Bytes) (o : Nat) : Nat := fieldAt b o 2
def u32At (b : Bytes) (o : Nat) : Nat := fieldAt b o 4
def u64At (b : Bytes) (o : Nat) : Nat := fieldAt b o 8

/-- The two's-complement reading of a field of `w` bits. -/
def toSigned (w n : Nat) : Int := if 2 ^ (w - 1) ≤ n then (n : Int) - (2 ^ w : Nat) else n

/-- The field of `w` bits that holds an integer, two's complement. -/
def ofSigned (w : Nat) (i : Int) : Nat := (i % (2 ^ w : Nat)).toNat

def i16At (b : Bytes) (o : Nat) : Int := toSigned 16 (u16At b o)
def i32At (b : Bytes) (o : Nat) : Int := toSigned 32 (u32At b o)
def i64At (b : Bytes) (o : Nat) : Int := toSigned 64 (u64At b o)

/-- Bytes of zeros. -/
def zeros (n : Nat) : Bytes := List.replicate n 0

/-- `b` with the bytes `d` in place of those from offset `o`. -/
def splice (b : Bytes) (o : Nat) (d : Bytes) : Bytes := b.take o ++ d ++ b.drop (o + d.length)

/-- Bit `k` of a number. -/
def bitOf (n k : Nat) : Bool := n.testBit k

/-- `n` with bit `k` set. -/
def setBit (n k : Nat) : Nat := n ||| 2 ^ k

/-- `n` with bit `k` clear. -/
def clearBit (n k : Nat) : Nat := if n.testBit k then n - 2 ^ k else n

/-- `n` without the bits that `m` has. -/
def andNot (n m : Nat) : Nat := n - (n &&& m)

/-- How many bits of `n` below bit `k` are 1. -/
def popCount : Nat → Nat → Nat
  | 0, _ => 0
  | k + 1, n => popCount k n + (if n.testBit k then 1 else 0)

/-- The value clamped to a range of natural numbers. -/
def clampNat (x : Int) (lo hi : Nat) : Nat := if x < lo then lo else if x > hi then hi else x.toNat

/-- The value clamped to a range of integers. -/
def clampInt (x lo hi : Int) : Int := if x < lo then lo else if x > hi then hi else x

/-- The sign-saturated I32. -/
def sat32s (i : Int) : Int := clampInt i (-2147483648) 2147483647

/-- Arithmetic shift right: rounding towards minus infinity. -/
def asr (x : Int) (k : Nat) : Int := x / ((2 ^ k : Nat) : Int)

/-- Division rounded up. -/
def ceilDiv (a b : Nat) : Nat := (a + b - 1) / b

/-- Truncating division, as the pseudocode's integer division of signed values. -/
def truncDiv (a b : Int) : Int := a.tdiv b

/-- One step of the integer square root of `n`: the digit of weight `2^k`. -/
def isqrtFrom : Nat → Nat → Nat → Nat
  | 0, _, r => r
  | k + 1, n, r =>
    let t := r + 2 ^ k
    isqrtFrom k n (if t * t ≤ n then t else r)

/-- The integer square root of a number below 2^128. -/
def isqrt (n : Nat) : Nat := isqrtFrom 64 n 0

/-- Entry `i` of a list of numbers; 0 outside. -/
def natAt (l : List Nat) (i : Nat) : Nat := l.getD i 0

/-- Entry `i` of a list of integers; 0 outside. -/
def intAt (l : List Int) (i : Nat) : Int := l.getD i 0

/-- A list with entry `i` set; unchanged when `i` is outside. -/
def setAt {α : Type} (l : List α) (i : Nat) (a : α) : List α := l.set i a

/-- The value of a key in an association list. -/
def assoc {α β : Type} [DecidableEq α] (l : List (α × β)) (k : α) : Option β :=
  match l with
  | [] => none
  | (a, b) :: r => if a = k then some b else assoc r k

/-- An association list with a key's value replaced, or the pair added at the end. -/
def assocPut {α β : Type} [DecidableEq α] (l : List (α × β)) (k : α) (v : β) : List (α × β) :=
  match l with
  | [] => [(k, v)]
  | (a, b) :: r => if a = k then (k, v) :: r else (a, b) :: assocPut r k v

/-- An association list without a key. -/
def assocDrop {α β : Type} [DecidableEq α] (l : List (α × β)) (k : α) : List (α × β) :=
  l.filter (fun p => p.1 ≠ k)

/-- The numbers of `a` up to but not including `a + n`. -/
def rangeFrom (a n : Nat) : List Nat := (List.range n).map (a + ·)

/-- Later in the sense of R66 and R31: ahead by 1 to 2^31 modulo 2^32. -/
def later (a b : Nat) : Bool :=
  let d := (a + wrap32 - b % wrap32) % wrap32
  decide (0 < d) && decide (d ≤ half32)

/-- How far `a` lies ahead of `b` modulo 2^32, as a signed distance: above 2^31 ahead counts as behind (R31). -/
def diff32 (a b : Nat) : Int :=
  let d := (a + wrap32 - b % wrap32) % wrap32
  if d ≤ half32 then d else (d : Int) - wrap32

/-- Characters of a text as bytes (ASCII texts of the manual). -/
def asciiBytes (t : String) : Bytes := t.toList.map (fun c => BitVec.ofNat 8 c.toNat)

/-- Whether a byte continues a UTF-8 sequence. -/
def isCont (b : Byte) : Bool := b.toNat / 64 = 2

/-- Well-formed UTF-8 (R39): `k` is how many continuation bytes are due, `lo` and `hi` bound the next one. -/
def utf8From : Bytes → Nat → Nat → Nat → Bool
  | [], k, _, _ => k = 0
  | b :: r, 0, _, _ =>
    let n := b.toNat
    if n < 0x80 then utf8From r 0 0 0
    else if 0xC2 ≤ n ∧ n ≤ 0xDF then utf8From r 1 0x80 0xBF
    else if n = 0xE0 then utf8From r 2 0xA0 0xBF
    else if n = 0xED then utf8From r 2 0x80 0x9F
    else if 0xE1 ≤ n ∧ n ≤ 0xEF then utf8From r 2 0x80 0xBF
    else if n = 0xF0 then utf8From r 3 0x90 0xBF
    else if 0xF1 ≤ n ∧ n ≤ 0xF3 then utf8From r 3 0x80 0xBF
    else if n = 0xF4 then utf8From r 3 0x80 0x8F
    else false
  | b :: r, k + 1, lo, hi =>
    if lo ≤ b.toNat ∧ b.toNat ≤ hi ∧ isCont b then utf8From r k 0x80 0xBF else false

/-- Well-formed UTF-8 (R39). -/
def utf8Valid (b : Bytes) : Bool := utf8From b 0 0 0

end Sys2Proof.Machine
end

