-- ==== Sys2Proof/Machine/Crc.lean ====
section
/-! DEFINITION. The cyclic redundancy checks of the module's own formats: CRC-32C (R44, R73, R106, R109), CRC-32 (R433), CRC-16 (R361,
R433), and the CRC-8 of the I3C frames (R54). Bit by bit, as their polynomials are given. -/

namespace Sys2Proof.Machine

/-- `k` steps of a reflected CRC with polynomial `poly` (already reflected). -/
def crcReflBits (poly : Nat) : Nat → Nat → Nat
  | 0, c => c
  | k + 1, c => crcReflBits poly k (if c % 2 = 1 then (c / 2) ^^^ poly else c / 2)

/-- A reflected CRC register after a byte string. -/
def crcRefl (poly : Nat) (b : Bytes) (c : Nat) : Nat :=
  b.foldl (fun acc x => crcReflBits poly 8 (acc ^^^ x.toNat)) c

/-- CRC-32C: polynomial 0x1EDC6F41 reflected, initial value and final XOR all ones. -/
def crc32c (b : Bytes) : Nat := crcRefl 0x82F63B78 b 0xFFFFFFFF ^^^ 0xFFFFFFFF

/-- CRC-32 (IEEE 802.3): polynomial 0x04C11DB7 reflected, initial value and final XOR all ones. -/
def crc32 (b : Bytes) : Nat := crcRefl 0xEDB88320 b 0xFFFFFFFF ^^^ 0xFFFFFFFF

/-- `k` steps of an unreflected CRC of width `w` with polynomial `poly`. -/
def crcFwdBits (w poly : Nat) : Nat → Nat → Nat
  | 0, c => c
  | k + 1, c =>
    crcFwdBits w poly k
      (if c.testBit (w - 1) then ((c * 2) % 2 ^ w) ^^^ poly else (c * 2) % 2 ^ w)

/-- An unreflected CRC register of width `w` (a multiple of 8) after a byte string. -/
def crcFwd (w poly : Nat) (b : Bytes) (c : Nat) : Nat :=
  b.foldl (fun acc x => crcFwdBits w poly 8 (acc ^^^ (x.toNat * 2 ^ (w - 8)))) c

/-- The CRC-8 of R54: polynomial 0x07, initial value 0, no reflection, no final XOR. -/
def crc8 (b : Bytes) : Nat := crcFwd 8 0x07 b 0

/-- The CRC-16 of R361: polynomial 0x1021, initial value 0xFFFF, no reflection, no final XOR. -/
def crc16 (b : Bytes) : Nat := crcFwd 16 0x1021 b 0xFFFF

end Sys2Proof.Machine
end

