-- ==== Sys2Proof/Config.lean ====
section
/-! DEFINITION. What an implementation fixes and what the manual leaves open: constants without a body, so that no proof
can see a value. A value that is open anew each time is applied to the state's counter `free` (log entry 3). -/

namespace Sys2Proof

/-- The challenge nonce of R44, fresh at each read. -/
opaque Config.nonce : Nat → BitVec 32

/-- The characters of SERIAL (0x1000:03), factory set. -/
opaque Config.serial : Nat → BitVec 8

/-- HW_REV (0x1000:04), factory set. -/
opaque Config.hwRev : BitVec 16

/-- DICT_VERSION (0x1000:07), set by the firmware. -/
opaque Config.dictVersion : BitVec 32

/-- The MAC address of Ethernet port p (N+0x00:04), factory set. -/
opaque Config.mac : Nat → BitVec 48

/-- The CTLE setting the lane receiver settles at (R112): the manual gives the search, not the eye it searches. -/
opaque Config.ctle : Nat → BitVec 4

/-- The DFE tap k the lane receiver settles at (R112). -/
opaque Config.dfeTap : Nat → Nat → BitVec 8

/-- Bytes a DMA transfer gets from a source that the manual gives no contents for. -/
opaque Config.openByte : Nat → BitVec 8

/-- How far a DMA transfer has come when a STOP reaches it (R420): the manual leaves the engines' progress open. -/
opaque Config.dmaProgress : Nat → BitVec 32

/-- INDEX and SUB of a journal entry of KIND k that answers no request (R103): the manual gives none. -/
opaque Config.ownEntryKey : Nat → BitVec 24

/-- The code of data type t, in the order of R38's table, in the stream of the state digest (R109): the manual gives none. -/
opaque Config.typeCode : Nat → BitVec 8

/-- T_OPEN and T_CLOSE of an entry that leaves without a planned tick (R353): the manual gives them for planned ticks. -/
opaque Config.unplanned : Nat → BitVec 32

/-- Whether a firmware image carries a valid signature (R546, R547): the manual gives no signature scheme. -/
opaque Config.imageSigned : List (BitVec 8) → Bool

/-- The version a firmware image carries (R547): the manual does not say where. -/
opaque Config.imageVersion : List (BitVec 8) → BitVec 32

/-- The time in ns that the rewriting of a table copy takes which mismatched at a region's rejoin (R263). -/
opaque Config.copyRewrite : Nat → BitVec 32

/-- The speed in µm/s that R345 gives a pair whose fronts pass both scan lines at one time, by VIEW_DROP: a quotient by 0, which the rule
does not state. -/
opaque Config.speedAtZeroDelay : Nat → BitVec 32

end Sys2Proof
end

