-- ==== Sys2Proof/Machine/Catalog.lean ====
section
/-! DEFINITION. The object tables of the manual: for every object its type, access, level, persistence, default, range
and when a written value applies. One row stands for one line of a table, over every instance and subindex it names. -/

namespace Sys2Proof.Machine

/-- The data types (R38). -/
inductive Ty where
  | bool | u8 | u16 | u32 | u64 | i16 | i32 | i64 | f32 | stime | ftime | text | octets | blob
  deriving DecidableEq, Repr

/-- The access codes (R40). -/
inductive Acc where
  | ro | rw | rs | wo | rc | ex
  deriving DecidableEq, Repr

/-- The Default column: a number, bytes of zeros, the empty string, nothing to read, or a value `specialDefault` gives. -/
inductive Dflt where
  | num (n : Nat)
  | zeros (len : Nat)
  | empty
  | none
  | special
  deriving DecidableEq, Repr

/-- The Range column: a numeric range; 0 or a range in multiples; a range or one more value; a mask of defined bits (for
an RC object: its flags); multiples; a signed range; a list; byte lengths in multiples; or a check of its own. -/
inductive Rng where
  | any
  | nat (lo hi : Nat)
  | zeroOr (lo hi mult : Nat)
  | alt (lo hi v : Nat)
  | mask (m : Nat)
  | mult (lo hi m : Nat)
  | int (lo hi : Int)
  | oneOf (l : List Nat)
  | len (lo hi mult : Nat)
  | special
  deriving DecidableEq, Repr

/-- The Applies at column. -/
inductive Applies where
  | endOfBoot | atOnce | anyMode | commit | frameBoundary | nextSession | testOnly | configTeach
  deriving DecidableEq, Repr

/-- The level of the Level column. -/
inductive RowLevel where
  | operator | integrator
  deriving DecidableEq, Repr

/-- One row of an object table: index of instance k is `base + stride * k`, subindexes `lo` to `hi`. -/
structure ObjRow where
  base : Nat
  stride : Nat
  count : Nat
  lo : Nat
  hi : Nat
  ty : Ty
  acc : Acc
  level : RowLevel
  persistent : Bool
  dflt : Dflt
  range : Rng
  applies : Applies
  deriving DecidableEq, Repr

/-- The object tables of spec file 00, part 0: 0x1010:01 PRESENCE (R3). -/
def Catalog.rows00_0 : List ObjRow := [
  ⟨0x1010, 1, 1, 0x01, 0x01, .u32, .ro, .operator, false, .special, .any, .endOfBoot⟩]

/-- The object tables of spec file 02, part 0: 0x1000:01 VENDOR (R79); 0x1000:02 PART (R79); 0x1000:03 SERIAL (R79); 0x1000:04 HW_REV (R79); 0x1000:05 FW_VERSION (R79); 0x1000:06 FW_SLOT (R79); 0x1000:07 DICT_VERSION (R79); 0x1000:08 MODULE_ID (R79); 0x1010:02 LANES_FITTED (R79); 0x1010:03 PORTS_FITTED (R79); 0x1010:04 REGIONS_FITTED (R79); 0x1010:05 TILES_FITTED (R79); 0x1010:06 PCH_FITTED (R79); 0x1010:07 SYSLINK_FITTED (R79); 0x1020:01 LEVEL (R79); 0x1020:02 CHALLENGE (R79); 0x1020:03 RESPONSE (R79); 0x1020:04 DROP_LEVEL (R79); 0x1020:05 INTEGRATOR_CODE (R79); 0x1020:06 RESTORE_DEFAULTS (R79). -/
def Catalog.rows02_0 : List ObjRow := [
  ⟨0x1000, 1, 1, 0x01, 0x01, .text, .ro, .operator, false, .special, .any, .endOfBoot⟩,
  ⟨0x1000, 1, 1, 0x02, 0x02, .text, .ro, .operator, false, .special, .any, .endOfBoot⟩,
  ⟨0x1000, 1, 1, 0x03, 0x03, .text, .ro, .operator, false, .special, .any, .endOfBoot⟩,
  ⟨0x1000, 1, 1, 0x04, 0x04, .u16, .ro, .operator, false, .special, .any, .endOfBoot⟩,
  ⟨0x1000, 1, 1, 0x05, 0x05, .u32, .ro, .operator, false, .special, .any, .endOfBoot⟩,
  ⟨0x1000, 1, 1, 0x06, 0x06, .u8, .ro, .operator, false, .special, .any, .endOfBoot⟩,
  ⟨0x1000, 1, 1, 0x07, 0x07, .u32, .ro, .operator, false, .special, .any, .endOfBoot⟩,
  ⟨0x1000, 1, 1, 0x08, 0x08, .u8, .ro, .operator, false, .special, .any, .endOfBoot⟩,
  ⟨0x1010, 1, 1, 0x02, 0x02, .u64, .ro, .operator, false, .special, .any, .endOfBoot⟩,
  ⟨0x1010, 1, 1, 0x03, 0x03, .u16, .ro, .operator, false, .special, .any, .endOfBoot⟩,
  ⟨0x1010, 1, 1, 0x04, 0x04, .u16, .ro, .operator, false, .special, .any, .endOfBoot⟩,
  ⟨0x1010, 1, 1, 0x05, 0x05, .u64, .ro, .operator, false, .special, .any, .endOfBoot⟩,
  ⟨0x1010, 1, 1, 0x06, 0x06, .u64, .ro, .operator, false, .special, .any, .endOfBoot⟩,
  ⟨0x1010, 1, 1, 0x07, 0x07, .u8, .ro, .operator, false, .special, .any, .endOfBoot⟩,
  ⟨0x1020, 1, 1, 0x01, 0x01, .u8, .ro, .operator, false, .special, .any, .atOnce⟩,
  ⟨0x1020, 1, 1, 0x02, 0x02, .u32, .ro, .operator, false, .special, .any, .atOnce⟩,
  ⟨0x1020, 1, 1, 0x03, 0x03, .u32, .wo, .operator, false, .none, .any, .anyMode⟩,
  ⟨0x1020, 1, 1, 0x04, 0x04, .u8, .ex, .operator, false, .none, .nat 1 1, .anyMode⟩,
  ⟨0x1020, 1, 1, 0x05, 0x05, .u32, .wo, .integrator, true, .num 0, .nat 0 99999999, .atOnce⟩,
  ⟨0x1020, 1, 1, 0x06, 0x06, .u32, .ex, .integrator, false, .none, .nat 1 1, .atOnce⟩]

/-- The object tables of spec file 02, part 1: 0x1030:01 YDP_PORT (R79); 0x1030:02 IDLE_TIME (R79); 0x1030:03 SESSIONS_OPEN (R79); 0x1040:01 STATIC_ADDR (R79); 0x1040:02 DYNAMIC_ADDR (R79); 0x1040:03 BCR (R79); 0x1040:04 DCR (R79); 0x1040:05 IBI_ENABLE (R79); 0x1050:01 REJECTED_I3C (R79); 0x1050:02 REJECTED_YDP (R79); 0x1050:03 CACHED_RESPONSES (R79); 0x1050:04 DATAGRAMS_DROPPED (R79); 0x1050:05 STRAY_WAKES (R79). -/
def Catalog.rows02_1 : List ObjRow := [
  ⟨0x1030, 1, 1, 0x01, 0x01, .u16, .rw, .integrator, true, .num 41396, .nat 1024 65535, .atOnce⟩,
  ⟨0x1030, 1, 1, 0x02, 0x02, .u16, .rw, .integrator, true, .num 60, .nat 5 3600, .nextSession⟩,
  ⟨0x1030, 1, 1, 0x03, 0x03, .u8, .ro, .operator, false, .num 0, .any, .atOnce⟩,
  ⟨0x1040, 1, 1, 0x01, 0x01, .u8, .ro, .operator, false, .special, .any, .endOfBoot⟩,
  ⟨0x1040, 1, 1, 0x02, 0x02, .u8, .ro, .operator, false, .special, .any, .atOnce⟩,
  ⟨0x1040, 1, 1, 0x03, 0x03, .u8, .ro, .operator, false, .num 38, .any, .endOfBoot⟩,
  ⟨0x1040, 1, 1, 0x04, 0x04, .u8, .ro, .operator, false, .num 0, .any, .endOfBoot⟩,
  ⟨0x1040, 1, 1, 0x05, 0x05, .u8, .rw, .operator, true, .num 127, .special, .anyMode⟩,
  ⟨0x1050, 1, 1, 0x01, 0x01, .u32, .rc, .operator, false, .num 0, .any, .anyMode⟩,
  ⟨0x1050, 1, 1, 0x02, 0x02, .u32, .rc, .operator, false, .num 0, .any, .anyMode⟩,
  ⟨0x1050, 1, 1, 0x03, 0x03, .u32, .rc, .operator, false, .num 0, .any, .anyMode⟩,
  ⟨0x1050, 1, 1, 0x04, 0x04, .u32, .rc, .operator, false, .num 0, .any, .anyMode⟩,
  ⟨0x1050, 1, 1, 0x05, 0x05, .u32, .rc, .operator, false, .num 0, .any, .anyMode⟩]

/-- The object tables of spec file 03, part 0: 0x1100:01 MODE (R87); 0x1100:02 MODE_REQUEST (R87); 0x1100:03 BOOT_STATUS (R87); 0x1100:04 PREVIOUS_MODE (R87); 0x1100:05 LAST_CAUSE (R87); 0x1100:06 MODE_TIME (R87); 0x1100:07 HALT_CAUSE (R87); 0x1150:01 PERIOD (R90); 0x1150:02 ACTION (R90); 0x1150:03 HEARTBEAT (R90); 0x1150:04 SOURCES (R90); 0x1150:05 HOST_LOST (R90); 0x1150:06 LOSS_COUNT (R90); 0x1110:01 STAGING (R94); 0x1110:02 HOLDER_PATH (R94); 0x1110:03 STAGED_COUNT (R94); 0x1110:04 STAGING_IDLE (R94); 0x1110:05 HOLDER_SESSION (R94); 0x1120:01 COMMIT (R101); 0x1120:02 INSTANT_KIND (R101). -/
def Catalog.rows03_0 : List ObjRow := [
  ⟨0x1100, 1, 1, 0x01, 0x01, .u8, .ro, .operator, false, .num 0, .any, .atOnce⟩,
  ⟨0x1100, 1, 1, 0x02, 0x02, .u8, .rs, .operator, false, .num 2, .nat 1 6, .commit⟩,
  ⟨0x1100, 1, 1, 0x03, 0x03, .u32, .ro, .operator, false, .num 0, .any, .atOnce⟩,
  ⟨0x1100, 1, 1, 0x04, 0x04, .u8, .ro, .operator, false, .num 0, .any, .atOnce⟩,
  ⟨0x1100, 1, 1, 0x05, 0x05, .u8, .ro, .operator, false, .num 2, .any, .atOnce⟩,
  ⟨0x1100, 1, 1, 0x06, 0x06, .stime, .ro, .operator, false, .num 0, .any, .atOnce⟩,
  ⟨0x1100, 1, 1, 0x07, 0x07, .u8, .ro, .operator, true, .num 0, .any, .endOfBoot⟩,
  ⟨0x1150, 1, 1, 0x01, 0x01, .u32, .rw, .integrator, true, .num 2000, .zeroOr 100 60000 1, .anyMode⟩,
  ⟨0x1150, 1, 1, 0x02, 0x02, .u8, .rw, .integrator, true, .num 0, .nat 0 1, .anyMode⟩,
  ⟨0x1150, 1, 1, 0x03, 0x03, .u8, .wo, .operator, false, .none, .nat 0 255, .anyMode⟩,
  ⟨0x1150, 1, 1, 0x04, 0x04, .u8, .rw, .integrator, true, .num 3, .nat 1 3, .anyMode⟩,
  ⟨0x1150, 1, 1, 0x05, 0x05, .bool, .ro, .operator, false, .num 0, .any, .atOnce⟩,
  ⟨0x1150, 1, 1, 0x06, 0x06, .u32, .rc, .operator, false, .num 0, .any, .anyMode⟩,
  ⟨0x1110, 1, 1, 0x01, 0x01, .u8, .ex, .operator, false, .none, .nat 1 3, .anyMode⟩,
  ⟨0x1110, 1, 1, 0x02, 0x02, .u8, .ro, .operator, false, .num 0, .any, .atOnce⟩,
  ⟨0x1110, 1, 1, 0x03, 0x03, .u16, .ro, .operator, false, .num 0, .any, .atOnce⟩,
  ⟨0x1110, 1, 1, 0x04, 0x04, .u16, .rw, .integrator, true, .num 60, .nat 5 3600, .anyMode⟩,
  ⟨0x1110, 1, 1, 0x05, 0x05, .u16, .ro, .operator, false, .num 0, .any, .atOnce⟩,
  ⟨0x1120, 1, 1, 0x01, 0x01, .u8, .ex, .operator, false, .none, .nat 1 2, .anyMode⟩,
  ⟨0x1120, 1, 1, 0x02, 0x02, .u8, .rw, .operator, false, .num 1, .nat 0 3, .anyMode⟩]

/-- The object tables of spec file 03, part 1: 0x1120:03 VIEW_MASK (R101); 0x1120:04 to :07 TRIGGER_A to TRIGGER_D (R101); 0x1120:08 AT_TIME (R101); 0x1130:01 RESULT (R101); 0x1130:02 ACK (R101); 0x1140:01 LAST_EPOCH (R101); 0x1140:02 IN_FLIGHT (R101); 0x1140:03 to :06 VIEW_EPOCH_A to VIEW_EPOCH_D (R101); 0x1140:07 to :0A BOUND_A to BOUND_D (R101); 0x1160:01 HEAD (R109); 0x1160:02 OLDEST (R109); 0x1160:03 CURSOR (R109); 0x1160:04 ENTRIES (R109); 0x1160:05 MIRROR_HEAD (R109); 0x1160:06 MIRROR_LAG (R109); 0x1160:07 MIRROR_PASSES (R109); 0x1160:08 DIGEST_START (R109); 0x1160:09 TORN_DISCARDED (R109); 0x1170:01 RESULT (R109); 0x1170:02 ACK (R109). -/
def Catalog.rows03_1 : List ObjRow := [
  ⟨0x1120, 1, 1, 0x03, 0x03, .u8, .rw, .operator, false, .num 0, .nat 0 15, .anyMode⟩,
  ⟨0x1120, 1, 1, 0x04, 0x07, .u32, .rw, .operator, false, .num 0, .nat 0 4294967295, .anyMode⟩,
  ⟨0x1120, 1, 1, 0x08, 0x08, .ftime, .rw, .operator, false, .num 0, .any, .anyMode⟩,
  ⟨0x1130, 1, 1, 0x01, 0x01, .octets, .ro, .operator, false, .none, .any, .atOnce⟩,
  ⟨0x1130, 1, 1, 0x02, 0x02, .u32, .wo, .operator, false, .none, .any, .anyMode⟩,
  ⟨0x1140, 1, 1, 0x01, 0x01, .u16, .ro, .operator, false, .num 0, .any, .atOnce⟩,
  ⟨0x1140, 1, 1, 0x02, 0x02, .u8, .ro, .operator, false, .num 0, .any, .atOnce⟩,
  ⟨0x1140, 1, 1, 0x03, 0x06, .u16, .ro, .operator, false, .num 0, .any, .atOnce⟩,
  ⟨0x1140, 1, 1, 0x07, 0x0A, .u32, .ro, .operator, false, .num 0, .any, .atOnce⟩,
  ⟨0x1160, 1, 1, 0x01, 0x01, .u32, .ro, .operator, false, .special, .any, .atOnce⟩,
  ⟨0x1160, 1, 1, 0x02, 0x02, .u32, .ro, .operator, false, .none, .any, .atOnce⟩,
  ⟨0x1160, 1, 1, 0x03, 0x03, .u32, .rw, .operator, false, .num 0, .any, .anyMode⟩,
  ⟨0x1160, 1, 1, 0x04, 0x04, .octets, .ro, .operator, false, .none, .any, .atOnce⟩,
  ⟨0x1160, 1, 1, 0x05, 0x05, .u32, .ro, .operator, false, .none, .any, .atOnce⟩,
  ⟨0x1160, 1, 1, 0x06, 0x06, .u16, .ro, .operator, false, .num 0, .any, .atOnce⟩,
  ⟨0x1160, 1, 1, 0x07, 0x07, .u32, .ro, .operator, true, .num 0, .any, .atOnce⟩,
  ⟨0x1160, 1, 1, 0x08, 0x08, .u8, .ex, .operator, false, .none, .nat 1 1, .anyMode⟩,
  ⟨0x1160, 1, 1, 0x09, 0x09, .u32, .rc, .operator, true, .num 0, .any, .anyMode⟩,
  ⟨0x1170, 1, 1, 0x01, 0x01, .octets, .ro, .operator, false, .none, .any, .atOnce⟩,
  ⟨0x1170, 1, 1, 0x02, 0x02, .u32, .wo, .operator, false, .none, .any, .anyMode⟩]

/-- The object tables of spec file 04, part 0: 0x2380:01 RESULT (R118); 0x2380:02 ACK (R118); :01 STATE (R117); :01 STATE (R117); :02 HOLD (R117); :02 HOLD (R117); :03 RATE (R117); :03 RATE (R117); :04 CTLE (R117); :04 CTLE (R117); :05 DFE_TAPS (R117); :05 DFE_TAPS (R117); :06 EYE_HEIGHT (R117); :06 EYE_HEIGHT (R117); :07 EYE_WIDTH (R117); :07 EYE_WIDTH (R117); :08 EYE_FLOOR (R117); :08 EYE_FLOOR (R117); :09 REALIGNS (R117); :09 REALIGNS (R117). -/
def Catalog.rows04_0 : List ObjRow := [
  ⟨0x2380, 1, 1, 0x01, 0x01, .octets, .ro, .operator, false, .none, .any, .atOnce⟩,
  ⟨0x2380, 1, 1, 0x02, 0x02, .u32, .wo, .operator, false, .none, .any, .anyMode⟩,
  ⟨0x2000, 16, 48, 0x01, 0x01, .u8, .ro, .operator, false, .num 0, .any, .atOnce⟩,
  ⟨0x2300, 16, 4, 0x01, 0x01, .u8, .ro, .operator, false, .num 0, .any, .atOnce⟩,
  ⟨0x2000, 16, 48, 0x02, 0x02, .u8, .rs, .integrator, true, .num 0, .nat 0 2, .commit⟩,
  ⟨0x2300, 16, 4, 0x02, 0x02, .u8, .rs, .integrator, true, .num 0, .nat 0 2, .commit⟩,
  ⟨0x2000, 16, 48, 0x03, 0x03, .u16, .ro, .operator, false, .num 0, .any, .atOnce⟩,
  ⟨0x2300, 16, 4, 0x03, 0x03, .u16, .ro, .operator, false, .num 0, .any, .atOnce⟩,
  ⟨0x2000, 16, 48, 0x04, 0x04, .u8, .ro, .operator, false, .num 0, .any, .atOnce⟩,
  ⟨0x2300, 16, 4, 0x04, 0x04, .u8, .ro, .operator, false, .num 0, .any, .atOnce⟩,
  ⟨0x2000, 16, 48, 0x05, 0x05, .u64, .ro, .operator, false, .num 0, .any, .atOnce⟩,
  ⟨0x2300, 16, 4, 0x05, 0x05, .u64, .ro, .operator, false, .num 0, .any, .atOnce⟩,
  ⟨0x2000, 16, 48, 0x06, 0x06, .u16, .ro, .operator, false, .num 0, .any, .atOnce⟩,
  ⟨0x2300, 16, 4, 0x06, 0x06, .u16, .ro, .operator, false, .num 0, .any, .atOnce⟩,
  ⟨0x2000, 16, 48, 0x07, 0x07, .u16, .ro, .operator, false, .num 0, .any, .atOnce⟩,
  ⟨0x2300, 16, 4, 0x07, 0x07, .u16, .ro, .operator, false, .num 0, .any, .atOnce⟩,
  ⟨0x2000, 16, 48, 0x08, 0x08, .u16, .rw, .integrator, true, .num 30, .nat 10 200, .anyMode⟩,
  ⟨0x2300, 16, 4, 0x08, 0x08, .u16, .rw, .integrator, true, .num 30, .nat 10 200, .anyMode⟩,
  ⟨0x2000, 16, 48, 0x09, 0x09, .u32, .rc, .operator, false, .num 0, .any, .anyMode⟩,
  ⟨0x2300, 16, 4, 0x09, 0x09, .u32, .rc, .operator, false, .num 0, .any, .anyMode⟩]

/-- The object tables of spec file 04, part 1: :0A CRC_ERRORS (R117); :0A CRC_ERRORS (R117); :0B ADAPT_FREEZE (R117); :0B ADAPT_FREEZE (R117); :0C EYE_SCAN (R117); :0C EYE_SCAN (R117); :0D RETIRE_CAUSE (R117); :0D RETIRE_CAUSE (R117); P+0x00:01 LINK_MODE (R122); P+0x00:02 LANES (R122); P+0x00:03 RATE (R122); P+0x00:04 WIDTH (R122); P+0x00:05 BANDS (R122); P+0x00:06 BITS (R122); P+0x00:07 DEGRADE_MASK (R122); P+0x00:08 REASM_WINDOW (R122); P+0x00:09 ID_POLICY (R122); P+0x01:01 LINK_STATE (R122); P+0x01:02 LANES_IN_USE (R122); P+0x01:03 CAMERA_LANE_CAP (R122). -/
def Catalog.rows04_1 : List ObjRow := [
  ⟨0x2000, 16, 48, 0x0A, 0x0A, .u32, .rc, .operator, false, .num 0, .any, .anyMode⟩,
  ⟨0x2300, 16, 4, 0x0A, 0x0A, .u32, .rc, .operator, false, .num 0, .any, .anyMode⟩,
  ⟨0x2000, 16, 48, 0x0B, 0x0B, .bool, .rw, .integrator, false, .num 0, .any, .anyMode⟩,
  ⟨0x2300, 16, 4, 0x0B, 0x0B, .bool, .rw, .integrator, false, .num 0, .any, .anyMode⟩,
  ⟨0x2000, 16, 48, 0x0C, 0x0C, .u16, .ex, .integrator, false, .none, .nat 1 1000, .anyMode⟩,
  ⟨0x2300, 16, 4, 0x0C, 0x0C, .u16, .ex, .integrator, false, .none, .nat 1 1000, .anyMode⟩,
  ⟨0x2000, 16, 48, 0x0D, 0x0D, .u8, .ro, .operator, true, .num 0, .any, .atOnce⟩,
  ⟨0x2300, 16, 4, 0x0D, 0x0D, .u8, .ro, .operator, true, .num 0, .any, .atOnce⟩,
  ⟨0x3000, 64, 12, 0x01, 0x01, .u8, .rs, .integrator, true, .num 0, .nat 0 2, .commit⟩,
  ⟨0x3000, 64, 12, 0x02, 0x02, .u8, .rs, .integrator, true, .num 1, .nat 1 4, .commit⟩,
  ⟨0x3000, 64, 12, 0x03, 0x03, .u16, .rs, .integrator, true, .num 1250, .oneOf [1250, 2500, 3125, 5000, 6250, 10000, 12500, 16000, 20000, 21250], .commit⟩,
  ⟨0x3000, 64, 12, 0x04, 0x04, .u32, .rs, .integrator, true, .num 4096, .mult 64 65536 16, .commit⟩,
  ⟨0x3000, 64, 12, 0x05, 0x05, .u8, .rs, .integrator, true, .num 4, .nat 1 4, .commit⟩,
  ⟨0x3000, 64, 12, 0x06, 0x06, .u8, .rs, .integrator, true, .num 8, .oneOf [8, 10, 12, 14, 16], .commit⟩,
  ⟨0x3000, 64, 12, 0x07, 0x07, .u8, .rs, .integrator, true, .num 15, .mask 0x0F, .commit⟩,
  ⟨0x3000, 64, 12, 0x08, 0x08, .u16, .rs, .integrator, true, .num 100, .nat 10 1000, .commit⟩,
  ⟨0x3000, 64, 12, 0x09, 0x09, .u8, .rw, .integrator, true, .num 1, .nat 0 2, .anyMode⟩,
  ⟨0x3001, 64, 12, 0x01, 0x01, .u8, .ro, .operator, false, .num 0, .any, .atOnce⟩,
  ⟨0x3001, 64, 12, 0x02, 0x02, .u8, .ro, .operator, false, .num 0, .any, .atOnce⟩,
  ⟨0x3001, 64, 12, 0x03, 0x03, .u8, .ro, .operator, false, .num 0, .any, .atOnce⟩]

/-- The object tables of spec file 04, part 2: P+0x01:04 LINES_COMPLETE (R122); P+0x01:05 LINES_HOLED (R122); P+0x01:06 PACKETS_CRC (R122); P+0x01:07 PACKETS_LOST (R122); P+0x01:08 PACKETS_LATE (R122); P+0x01:09 PACKETS_STRAY (R122); P+0x01:0A TRIG_LATE (R122); P+0x01:0B PLUG_EVENTS (R122); P+0x01:0C LAST_UNPLUG (R122); P+0x01:0D FLAGS (R122); P+0x01:0E CAMERA_TIME (R122); P+0x01:0F TRIG_ACKS (R122); P+0x02:01 to :03 VENDOR, MODEL, SERIAL (R122); P+0x02:04 PROTOCOL (R122); P+0x02:05 VERSION (R122); P+0x03:01 to :03 EXP_VENDOR, EXP_MODEL, EXP_SERIAL (R122); P+0x03:04 ADOPT (R122); P+0x04:01 REG_ADDRESS (R122); P+0x04:02 REG_DATA (R122); P+0x04:03 REG_ACCESS (R122). -/
def Catalog.rows04_2 : List ObjRow := [
  ⟨0x3001, 64, 12, 0x04, 0x04, .u32, .rc, .operator, false, .num 0, .any, .anyMode⟩,
  ⟨0x3001, 64, 12, 0x05, 0x05, .u32, .rc, .operator, false, .num 0, .any, .anyMode⟩,
  ⟨0x3001, 64, 12, 0x06, 0x06, .u32, .rc, .operator, false, .num 0, .any, .anyMode⟩,
  ⟨0x3001, 64, 12, 0x07, 0x07, .u32, .rc, .operator, false, .num 0, .any, .anyMode⟩,
  ⟨0x3001, 64, 12, 0x08, 0x08, .u32, .rc, .operator, false, .num 0, .any, .anyMode⟩,
  ⟨0x3001, 64, 12, 0x09, 0x09, .u32, .rc, .operator, false, .num 0, .any, .anyMode⟩,
  ⟨0x3001, 64, 12, 0x0A, 0x0A, .u32, .rc, .operator, false, .num 0, .any, .anyMode⟩,
  ⟨0x3001, 64, 12, 0x0B, 0x0B, .u32, .rc, .operator, false, .num 0, .any, .anyMode⟩,
  ⟨0x3001, 64, 12, 0x0C, 0x0C, .stime, .ro, .operator, false, .num 0, .any, .atOnce⟩,
  ⟨0x3001, 64, 12, 0x0D, 0x0D, .u8, .rc, .operator, false, .num 0, .mask 0xFF, .anyMode⟩,
  ⟨0x3001, 64, 12, 0x0E, 0x0E, .u64, .ro, .operator, false, .num 0, .any, .atOnce⟩,
  ⟨0x3001, 64, 12, 0x0F, 0x0F, .u32, .rc, .operator, false, .num 0, .any, .anyMode⟩,
  ⟨0x3002, 64, 12, 0x01, 0x03, .text, .ro, .operator, false, .empty, .any, .atOnce⟩,
  ⟨0x3002, 64, 12, 0x04, 0x04, .u8, .ro, .operator, false, .num 0, .any, .atOnce⟩,
  ⟨0x3002, 64, 12, 0x05, 0x05, .u32, .ro, .operator, false, .num 0, .any, .atOnce⟩,
  ⟨0x3003, 64, 12, 0x01, 0x03, .text, .rw, .integrator, true, .empty, .len 0 32 1, .anyMode⟩,
  ⟨0x3003, 64, 12, 0x04, 0x04, .u8, .ex, .integrator, false, .none, .nat 1 1, .anyMode⟩,
  ⟨0x3004, 64, 12, 0x01, 0x01, .u32, .rw, .integrator, false, .num 0, .mult 0 4294967292 4, .anyMode⟩,
  ⟨0x3004, 64, 12, 0x02, 0x02, .octets, .rw, .integrator, false, .empty, .len 0 64 1, .anyMode⟩,
  ⟨0x3004, 64, 12, 0x03, 0x03, .u8, .ex, .integrator, false, .none, .special, .anyMode⟩]

/-- The object tables of spec file 04, part 3: P+0x05:01 CAMERA_EVENT (R122); P+0x05:02 ACK (R122); :0E PARTNER (R148); :0F LOST_PACKETS (R148). -/
def Catalog.rows04_3 : List ObjRow := [
  ⟨0x3005, 64, 12, 0x01, 0x01, .octets, .ro, .operator, false, .none, .any, .atOnce⟩,
  ⟨0x3005, 64, 12, 0x02, 0x02, .u32, .wo, .operator, false, .none, .any, .anyMode⟩,
  ⟨0x2300, 16, 4, 0x0E, 0x0E, .u8, .ro, .operator, false, .num 255, .any, .atOnce⟩,
  ⟨0x2300, 16, 4, 0x0F, 0x0F, .u32, .rc, .operator, false, .num 0, .any, .anyMode⟩]

/-- The object tables of spec file 05, part 0: T+0x00:01 SOURCE (R172); T+0x00:02 MAX_RATE (R172); T+0x00:03 FRAME_LINES (R172); T+0x00:04 EXPOSURE (R172); T+0x00:05 CXP_LEAD (R172); T+0x00:06 CXP_EXP_ADDR (R172); T+0x00:07 CXP_EXP_UNIT (R172); T+0x01:01 NEXT_INDEX (R172); T+0x01:02 FRAME (R172); T+0x01:03 LAST_TRIGGER (R172); T+0x01:04 TRIGGERS_HELD (R172); T+0x01:05 TRIGGERS_DROPPED (R172); T+0x01:06 FRAMES_SHORT (R172); T+0x01:07 FRAMES_LONG (R172); T+0x01:08 FLAGS (R172); E+0x00:01 ENABLE (R173); E+0x00:02 FILTER (R173); E+0x00:03 POLARITY (R173); E+0x00:04 INDEX_MODE (R173); E+0x00:05 SPEED_TIMEOUT (R173). -/
def Catalog.rows05_0 : List ObjRow := [
  ⟨0x3400, 16, 4, 0x01, 0x01, .u8, .rs, .integrator, true, .num 0, .nat 0 8, .commit⟩,
  ⟨0x3400, 16, 4, 0x02, 0x02, .u32, .rs, .integrator, true, .num 100000, .nat 1 400000, .commit⟩,
  ⟨0x3400, 16, 4, 0x03, 0x03, .u32, .rw, .integrator, true, .num 1024, .nat 64 65536, .atOnce⟩,
  ⟨0x3400, 16, 4, 0x04, 0x04, .u32, .rs, .operator, true, .num 10000, .nat 100 10000000, .frameBoundary⟩,
  ⟨0x3400, 16, 4, 0x05, 0x05, .u16, .rs, .integrator, true, .num 16, .nat 1 65535, .commit⟩,
  ⟨0x3400, 16, 4, 0x06, 0x06, .u32, .rs, .integrator, true, .num 0, .mult 0 4294967292 4, .commit⟩,
  ⟨0x3400, 16, 4, 0x07, 0x07, .u32, .rs, .integrator, true, .num 1000, .nat 1 1000000, .commit⟩,
  ⟨0x3401, 16, 4, 0x01, 0x01, .u32, .ro, .operator, false, .num 0, .any, .atOnce⟩,
  ⟨0x3401, 16, 4, 0x02, 0x02, .u32, .ro, .operator, false, .num 0, .any, .atOnce⟩,
  ⟨0x3401, 16, 4, 0x03, 0x03, .stime, .ro, .operator, false, .num 0, .any, .atOnce⟩,
  ⟨0x3401, 16, 4, 0x04, 0x04, .u32, .rc, .operator, false, .num 0, .any, .anyMode⟩,
  ⟨0x3401, 16, 4, 0x05, 0x05, .u32, .rc, .operator, false, .num 0, .any, .anyMode⟩,
  ⟨0x3401, 16, 4, 0x06, 0x06, .u32, .rc, .operator, false, .num 0, .any, .anyMode⟩,
  ⟨0x3401, 16, 4, 0x07, 0x07, .u32, .rc, .operator, false, .num 0, .any, .anyMode⟩,
  ⟨0x3401, 16, 4, 0x08, 0x08, .u8, .rc, .operator, false, .num 0, .mask 0xFF, .anyMode⟩,
  ⟨0x3480, 16, 4, 0x01, 0x01, .bool, .rs, .integrator, true, .num 0, .any, .commit⟩,
  ⟨0x3480, 16, 4, 0x02, 0x02, .u8, .rs, .integrator, true, .num 8, .nat 2 255, .commit⟩,
  ⟨0x3480, 16, 4, 0x03, 0x03, .u8, .rs, .integrator, true, .num 0, .nat 0 1, .commit⟩,
  ⟨0x3480, 16, 4, 0x04, 0x04, .u8, .rs, .integrator, true, .num 0, .nat 0 1, .commit⟩,
  ⟨0x3480, 16, 4, 0x05, 0x05, .u16, .rs, .integrator, true, .num 100, .nat 1 10000, .commit⟩]

/-- The object tables of spec file 05, part 1: E+0x00:06 NOMINAL_RATE (R173); E+0x01:01 POSITION (R173); E+0x01:02 POS_VALID (R173); E+0x01:03 SPEED (R173); E+0x01:04 STATE (R173); E+0x01:05 INDEX_POS (R173); E+0x01:06 INDEX_COUNT (R173); E+0x01:07 PHASE_ERRORS (R173); E+0x01:08 UPSETS (R173); E+0x01:09 FLAGS (R173); E+0x01:0A POSITION_SET (R173); E+0x02:01 INPUT (R173); E+0x02:02 N (R173); E+0x02:03 M (R173); E+0x02:04 PULSE_WIDTH (R173); E+0x02:05 PIN_ENABLE (R173). -/
def Catalog.rows05_1 : List ObjRow := [
  ⟨0x3480, 16, 4, 0x06, 0x06, .u32, .rs, .integrator, true, .num 0, .nat 0 50000000, .commit⟩,
  ⟨0x3481, 16, 4, 0x01, 0x01, .u32, .ro, .operator, false, .num 0, .any, .atOnce⟩,
  ⟨0x3481, 16, 4, 0x02, 0x02, .bool, .ro, .operator, false, .num 0, .any, .atOnce⟩,
  ⟨0x3481, 16, 4, 0x03, 0x03, .f32, .ro, .operator, false, .num 0, .any, .atOnce⟩,
  ⟨0x3481, 16, 4, 0x04, 0x04, .u8, .ro, .operator, false, .num 0, .any, .atOnce⟩,
  ⟨0x3481, 16, 4, 0x05, 0x05, .u32, .ro, .operator, false, .num 0, .any, .atOnce⟩,
  ⟨0x3481, 16, 4, 0x06, 0x06, .u32, .rc, .operator, false, .num 0, .any, .anyMode⟩,
  ⟨0x3481, 16, 4, 0x07, 0x07, .u32, .rc, .operator, false, .num 0, .any, .anyMode⟩,
  ⟨0x3481, 16, 4, 0x08, 0x08, .u32, .rc, .operator, false, .num 0, .any, .anyMode⟩,
  ⟨0x3481, 16, 4, 0x09, 0x09, .u8, .rc, .operator, false, .num 0, .mask 0xFF, .anyMode⟩,
  ⟨0x3481, 16, 4, 0x0A, 0x0A, .u32, .ex, .integrator, false, .none, .nat 0 4294967295, .anyMode⟩,
  ⟨0x3482, 16, 4, 0x01, 0x01, .u8, .rs, .integrator, true, .num 0, .nat 0 5, .commit⟩,
  ⟨0x3482, 16, 4, 0x02, 0x02, .u32, .rs, .integrator, true, .num 1, .nat 1 16777215, .commit⟩,
  ⟨0x3482, 16, 4, 0x03, 0x03, .u32, .rs, .integrator, true, .num 1, .nat 1 16777215, .commit⟩,
  ⟨0x3482, 16, 4, 0x04, 0x04, .u16, .rs, .integrator, true, .num 100, .nat 8 65535, .commit⟩,
  ⟨0x3482, 16, 4, 0x05, 0x05, .bool, .rs, .integrator, true, .num 0, .any, .commit⟩]

/-- The object tables of spec file 06, part 0: P+0x06:01 CORR_ENABLE (R196); P+0x06:02 PHASE_MAP (R196); P+0x06:03 LIVE_SLOTS (R196); P+0x06:04 BANK_STATE (R196); P+0x07:01 DARK (R196); P+0x07:02 DARK_CRC (R196); P+0x08:01 GAIN (R196); P+0x08:02 GAIN_CRC (R196); P+0x09:01 DEFECTS (R196); P+0x09:02 PATCH_HOLES (R196); P+0x0A:01 STATS_ENABLE (R196); P+0x0A:02 CAL_CAPTURE (R196); P+0x0A:03 FLAT_TARGET (R196); P+0x0B:01 STATS (R196); P+0x0B:02 STATS_ACK (R196); P+0x0C:01 CAL_RESULT (R196); P+0x0C:02 CAL_ACK (R196); T+0x02:01 PHASES (R197); T+0x02:02 to :05 LAMP_OUT0 to LAMP_OUT3 (R197); T+0x02:06 LAMP_MODE (R197). -/
def Catalog.rows06_0 : List ObjRow := [
  ⟨0x3006, 64, 12, 0x01, 0x01, .u8, .rs, .integrator, true, .num 7, .mask 0x07, .commit⟩,
  ⟨0x3006, 64, 12, 0x02, 0x02, .u64, .rs, .integrator, true, .num 281474976708232, .special, .frameBoundary⟩,
  ⟨0x3006, 64, 12, 0x03, 0x03, .u8, .ro, .operator, false, .num 15, .any, .atOnce⟩,
  ⟨0x3006, 64, 12, 0x04, 0x04, .u16, .ro, .operator, false, .num 0, .any, .atOnce⟩,
  ⟨0x3007, 64, 12, 0x01, 0x01, .blob, .rs, .integrator, false, .empty, .len 0 524288 8, .commit⟩,
  ⟨0x3007, 64, 12, 0x02, 0x02, .u32, .ro, .operator, false, .num 0, .any, .atOnce⟩,
  ⟨0x3008, 64, 12, 0x01, 0x01, .blob, .rs, .integrator, false, .empty, .len 0 524288 8, .commit⟩,
  ⟨0x3008, 64, 12, 0x02, 0x02, .u32, .ro, .operator, false, .num 0, .any, .atOnce⟩,
  ⟨0x3009, 64, 12, 0x01, 0x01, .octets, .rs, .integrator, true, .empty, .len 0 4096 4, .commit⟩,
  ⟨0x3009, 64, 12, 0x02, 0x02, .u32, .rc, .operator, false, .num 0, .any, .anyMode⟩,
  ⟨0x300A, 64, 12, 0x01, 0x01, .bool, .rs, .operator, true, .num 1, .any, .frameBoundary⟩,
  ⟨0x300A, 64, 12, 0x02, 0x02, .u8, .ex, .integrator, false, .none, .nat 1 2, .configTeach⟩,
  ⟨0x300A, 64, 12, 0x03, 0x03, .u16, .rw, .integrator, true, .num 49152, .nat 4096 65535, .anyMode⟩,
  ⟨0x300B, 64, 12, 0x01, 0x01, .octets, .ro, .operator, false, .none, .any, .atOnce⟩,
  ⟨0x300B, 64, 12, 0x02, 0x02, .u32, .wo, .operator, false, .none, .any, .anyMode⟩,
  ⟨0x300C, 64, 12, 0x01, 0x01, .blob, .ro, .integrator, false, .none, .any, .atOnce⟩,
  ⟨0x300C, 64, 12, 0x02, 0x02, .u32, .wo, .integrator, false, .none, .any, .anyMode⟩,
  ⟨0x3402, 16, 4, 0x01, 0x01, .u8, .rs, .integrator, true, .num 1, .nat 1 4, .frameBoundary⟩,
  ⟨0x3402, 16, 4, 0x02, 0x05, .u8, .rs, .integrator, true, .num 255, .alt 0 15 255, .frameBoundary⟩,
  ⟨0x3402, 16, 4, 0x06, 0x06, .u8, .rs, .integrator, true, .num 0, .nat 0 1, .frameBoundary⟩]

/-- The object tables of spec file 06, part 1: T+0x02:07 LAMP_LEAD (R197); T+0x02:08 LAMP_TRAIL (R197); T+0x02:09 LAMP_OVERLAPS (R197). -/
def Catalog.rows06_1 : List ObjRow := [
  ⟨0x3402, 16, 4, 0x07, 0x07, .u8, .rs, .integrator, true, .num 0, .nat 0 70, .frameBoundary⟩,
  ⟨0x3402, 16, 4, 0x08, 0x08, .u16, .rs, .integrator, true, .num 0, .nat 0 10000, .frameBoundary⟩,
  ⟨0x3402, 16, 4, 0x09, 0x09, .u32, .rc, .operator, false, .num 0, .any, .anyMode⟩]

/-- The object tables of spec file 07, part 0: P+0x0D:01 OUT_WIDTH (R216); P+0x0D:02 XT_COEFFS (R216); P+0x0D:03 XT_MAP (R216); P+0x0E:01 AT_ENABLE (R216); P+0x0E:02 AT_COEFFS (R216); P+0x0E:03 AT_DELAY (R216); P+0x0E:04 AT_SHIFT (R216); P+0x0E:05 AT_CLEARS (R216); P+0x0F:01 LATENCY_MAX (R216); P+0x0F:02 LATENCY_LAST (R216); S+0x06:01 CIC_ORDER (R217); S+0x06:02 CIC_RATIO (R217); S+0x06:03 CIC_WARMUP (R217). -/
def Catalog.rows07_0 : List ObjRow := [
  ⟨0x300D, 64, 12, 0x01, 0x01, .u32, .rs, .integrator, true, .num 4096, .nat 64 65536, .commit⟩,
  ⟨0x300D, 64, 12, 0x02, 0x02, .octets, .rs, .integrator, true, .special, .len 1024 1024 1, .commit⟩,
  ⟨0x300D, 64, 12, 0x03, 0x03, .octets, .rs, .integrator, true, .special, .len 128 128 1, .commit⟩,
  ⟨0x300E, 64, 12, 0x01, 0x01, .bool, .rs, .integrator, true, .num 0, .any, .frameBoundary⟩,
  ⟨0x300E, 64, 12, 0x02, 0x02, .octets, .rs, .integrator, true, .special, .len 128 128 1, .frameBoundary⟩,
  ⟨0x300E, 64, 12, 0x03, 0x03, .u16, .rs, .integrator, true, .num 0, .special, .frameBoundary⟩,
  ⟨0x300E, 64, 12, 0x04, 0x04, .u32, .ro, .operator, false, .num 0, .any, .atOnce⟩,
  ⟨0x300E, 64, 12, 0x05, 0x05, .u32, .rc, .operator, false, .num 0, .any, .anyMode⟩,
  ⟨0x300F, 64, 12, 0x01, 0x01, .u32, .ro, .operator, false, .num 0, .any, .atOnce⟩,
  ⟨0x300F, 64, 12, 0x02, 0x02, .u32, .ro, .operator, false, .num 0, .any, .atOnce⟩,
  ⟨0x4806, 32, 8, 0x01, 0x01, .u8, .rs, .integrator, true, .num 1, .nat 1 4, .commit⟩,
  ⟨0x4806, 32, 8, 0x02, 0x02, .u8, .rs, .integrator, true, .num 1, .nat 1 64, .commit⟩,
  ⟨0x4806, 32, 8, 0x03, 0x03, .u32, .rc, .operator, false, .num 0, .any, .anyMode⟩]

/-- The object tables of spec file 08, part 0: P+0x10:01 COLOUR_ENABLE (R221); P+0x10:02 WB_GAINS (R221); P+0x10:03 MATRIX (R221); P+0x11:01 TONE (R221); V+0x00:01 FIRST_PORT (R240); V+0x00:02 PORTS (R240); V+0x00:03 CONTINUES_FROM (R240); V+0x00:04 CONTINUES_TO (R240); V+0x00:05 VIEW_STATE (R240); V+0x00:06 HOLE_PORTS (R240); V+0x00:07 STITCHED_WIDTH (R240); V+0x01:01 OVERLAPS (R240); V+0x01:02 ANCHOR (R240); V+0x01:03 SHIFT_LIMIT (R240); V+0x01:04 ALONG_LIMIT (R240); V+0x01:05 STITCH_SHIFT (R240); V+0x01:06 STITCH_CLEARS (R240); V+0x01:07 SEAM_LATE (R240); V+0x02:01 FREEZE_MASK (R240); V+0x02:02 SERVO_BAND (R240). -/
def Catalog.rows08_0 : List ObjRow := [
  ⟨0x3010, 64, 12, 0x01, 0x01, .u8, .rs, .integrator, true, .num 0, .mask 0x07, .commit⟩,
  ⟨0x3010, 64, 12, 0x02, 0x02, .u64, .rs, .operator, true, .num 4611756388245323776, .any, .commit⟩,
  ⟨0x3010, 64, 12, 0x03, 0x03, .octets, .rs, .integrator, true, .special, .len 48 48 1, .commit⟩,
  ⟨0x3011, 64, 12, 0x01, 0x01, .octets, .rs, .integrator, true, .special, .len 32768 32768 1, .commit⟩,
  ⟨0x4000, 256, 4, 0x01, 0x01, .u8, .rs, .integrator, true, .num 255, .alt 0 11 255, .commit⟩,
  ⟨0x4000, 256, 4, 0x02, 0x02, .u8, .rs, .integrator, true, .num 0, .nat 0 12, .commit⟩,
  ⟨0x4000, 256, 4, 0x03, 0x03, .u8, .rs, .integrator, true, .num 255, .alt 0 3 255, .commit⟩,
  ⟨0x4000, 256, 4, 0x04, 0x04, .u8, .rs, .integrator, true, .num 255, .alt 0 3 255, .commit⟩,
  ⟨0x4000, 256, 4, 0x05, 0x05, .u8, .ro, .operator, false, .num 0, .any, .atOnce⟩,
  ⟨0x4000, 256, 4, 0x06, 0x06, .u16, .ro, .operator, false, .num 0, .any, .atOnce⟩,
  ⟨0x4000, 256, 4, 0x07, 0x07, .u32, .ro, .operator, false, .num 0, .any, .atOnce⟩,
  ⟨0x4001, 256, 4, 0x01, 0x01, .octets, .rs, .integrator, true, .special, .len 24 24 1, .commit⟩,
  ⟨0x4001, 256, 4, 0x02, 0x02, .u8, .rs, .integrator, true, .num 0, .nat 0 11, .commit⟩,
  ⟨0x4001, 256, 4, 0x03, 0x03, .u8, .rs, .integrator, true, .num 4, .nat 0 15, .commit⟩,
  ⟨0x4001, 256, 4, 0x04, 0x04, .u8, .rs, .integrator, true, .num 1, .nat 0 2, .commit⟩,
  ⟨0x4001, 256, 4, 0x05, 0x05, .u16, .ro, .operator, false, .num 16, .any, .atOnce⟩,
  ⟨0x4001, 256, 4, 0x06, 0x06, .u32, .rc, .operator, false, .num 0, .any, .anyMode⟩,
  ⟨0x4001, 256, 4, 0x07, 0x07, .u32, .rc, .operator, false, .num 0, .any, .anyMode⟩,
  ⟨0x4002, 256, 4, 0x01, 0x01, .u16, .rw, .operator, false, .num 0, .mask 0x0FFF, .anyMode⟩,
  ⟨0x4002, 256, 4, 0x02, 0x02, .u8, .rs, .integrator, true, .num 1, .nat 0 3, .frameBoundary⟩]

/-- The object tables of spec file 08, part 1: V+0x02:03 TEXTURE_MIN (R240); V+0x02:04 SLEW_X (R240); V+0x02:05 SLEW_T (R240); V+0x02:06 SEAM_SET (R240); V+0x02:07 SEAM_STATE (R240); V+0x03:01 SEAM_STATS (R240); V+0x03:02 SEAM_ACK (R240); S+0x00:01 ENABLE (R247); S+0x00:02 VIEW (R247); S+0x00:03 X0 (R247); S+0x00:04 CROP_WIDTH (R247); S+0x00:05 STEP (R247); S+0x00:06 BANDS (R247); S+0x00:07 FORMAT (R247); S+0x00:08 MASK (R247); S+0x00:09 DEST (R247); S+0x00:0A ETH_PORT (R247); S+0x01:01 SCALE_COEFFS (R247); S+0x02:01 OUT_WIDTH (R247); S+0x02:02 RECORD_BYTES (R247). -/
def Catalog.rows08_1 : List ObjRow := [
  ⟨0x4002, 256, 4, 0x03, 0x03, .u32, .rs, .integrator, true, .num 10000, .nat 1 4294967295, .frameBoundary⟩,
  ⟨0x4002, 256, 4, 0x04, 0x04, .u8, .rs, .integrator, true, .num 8, .nat 1 64, .frameBoundary⟩,
  ⟨0x4002, 256, 4, 0x05, 0x05, .u8, .rs, .integrator, true, .num 2, .nat 1 16, .frameBoundary⟩,
  ⟨0x4002, 256, 4, 0x06, 0x06, .octets, .rs, .integrator, true, .zeros 48, .len 48 48 1, .frameBoundary⟩,
  ⟨0x4002, 256, 4, 0x07, 0x07, .octets, .ro, .operator, false, .zeros 48, .any, .atOnce⟩,
  ⟨0x4003, 256, 4, 0x01, 0x01, .octets, .ro, .operator, false, .none, .any, .atOnce⟩,
  ⟨0x4003, 256, 4, 0x02, 0x02, .u32, .wo, .operator, false, .none, .any, .anyMode⟩,
  ⟨0x4800, 32, 8, 0x01, 0x01, .bool, .rs, .integrator, true, .num 0, .any, .commit⟩,
  ⟨0x4800, 32, 8, 0x02, 0x02, .u8, .rs, .integrator, true, .num 0, .nat 0 3, .commit⟩,
  ⟨0x4800, 32, 8, 0x03, 0x03, .u32, .rs, .integrator, true, .num 0, .nat 0 262143, .commit⟩,
  ⟨0x4800, 32, 8, 0x04, 0x04, .u32, .rs, .integrator, true, .num 4096, .nat 16 262144, .commit⟩,
  ⟨0x4800, 32, 8, 0x05, 0x05, .u32, .rs, .integrator, true, .num 65536, .nat 65536 1048576, .commit⟩,
  ⟨0x4800, 32, 8, 0x06, 0x06, .u8, .rs, .integrator, true, .num 15, .nat 1 15, .commit⟩,
  ⟨0x4800, 32, 8, 0x07, 0x07, .u8, .rs, .integrator, true, .num 0, .nat 0 3, .commit⟩,
  ⟨0x4800, 32, 8, 0x08, 0x08, .bool, .rs, .integrator, true, .num 1, .any, .commit⟩,
  ⟨0x4800, 32, 8, 0x09, 0x09, .u8, .rs, .integrator, true, .num 1, .mask 0x07, .commit⟩,
  ⟨0x4800, 32, 8, 0x0A, 0x0A, .u8, .rs, .integrator, true, .num 0, .nat 0 1, .commit⟩,
  ⟨0x4801, 32, 8, 0x01, 0x01, .octets, .rs, .integrator, true, .special, .len 4096 4096 1, .commit⟩,
  ⟨0x4802, 32, 8, 0x01, 0x01, .u32, .ro, .operator, false, .num 4096, .any, .atOnce⟩,
  ⟨0x4802, 32, 8, 0x02, 0x02, .u32, .ro, .operator, false, .num 33312, .any, .atOnce⟩]

/-- The object tables of spec file 08, part 2: S+0x02:03 LINES_EMITTED (R247); S+0x02:04 LINES_DROPPED (R247). -/
def Catalog.rows08_2 : List ObjRow := [
  ⟨0x4802, 32, 8, 0x03, 0x03, .u32, .rc, .operator, false, .num 0, .any, .anyMode⟩,
  ⟨0x4802, 32, 8, 0x04, 0x04, .u32, .rc, .operator, false, .num 0, .any, .anyMode⟩]

/-- The object tables of spec file 09, part 0: V+0x10:01 COORD_MATRIX (R269); V+0x10:02 ACTIVE_BANK (R269); V+0x10:03 BANK_STATE (R269); V+0x10:04 ACTIVE_VERSION (R269); V+0x10:05, :06 BANK0_VERSION, BANK1_VERSION (R269); V+0x10:07, :08 BANK0_CRC, BANK1_CRC (R269); V+0x10:09 ECC_ERRORS (R269); V+0x11:01 TABLE_LOAD (R269); V+0x11:02 TABLE_READ (R269); V+0x12:01 to :04 HIST_LABEL0 to HIST_LABEL3 (R269); V+0x12:05 HIST_GATE (R269); V+0x12:06 HIST_CLEAR (R269); V+0x12:07 HIST_PIXELS (R269); V+0x12:08 BUILD_RADIUS (R269); V+0x12:09 MIN_COUNT (R269); V+0x12:0A FILL_CLASS (R269); V+0x12:0B BUILD (R269); V+0x13:01 BUILD_RESULT (R269); V+0x13:02 BUILD_ACK (R269); V+0x14:01 CLASS_STATS (R269). -/
def Catalog.rows09_0 : List ObjRow := [
  ⟨0x4010, 256, 4, 0x01, 0x01, .octets, .rs, .integrator, true, .special, .len 36 36 1, .commit⟩,
  ⟨0x4010, 256, 4, 0x02, 0x02, .u8, .rs, .operator, false, .num 0, .nat 0 1, .commit⟩,
  ⟨0x4010, 256, 4, 0x03, 0x03, .u16, .ro, .operator, false, .num 5, .any, .atOnce⟩,
  ⟨0x4010, 256, 4, 0x04, 0x04, .u16, .ro, .operator, false, .num 0, .any, .atOnce⟩,
  ⟨0x4010, 256, 4, 0x05, 0x06, .u16, .ro, .operator, false, .num 0, .any, .atOnce⟩,
  ⟨0x4010, 256, 4, 0x07, 0x08, .u32, .ro, .operator, false, .num 0, .any, .atOnce⟩,
  ⟨0x4010, 256, 4, 0x09, 0x09, .u32, .rc, .operator, false, .num 0, .any, .anyMode⟩,
  ⟨0x4011, 256, 4, 0x01, 0x01, .blob, .rw, .integrator, false, .empty, .len 524288 524288 1, .anyMode⟩,
  ⟨0x4011, 256, 4, 0x02, 0x02, .blob, .ro, .operator, false, .special, .any, .atOnce⟩,
  ⟨0x4012, 256, 4, 0x01, 0x04, .u8, .rw, .operator, false, .num 255, .alt 0 15 255, .anyMode⟩,
  ⟨0x4012, 256, 4, 0x05, 0x05, .u8, .rw, .operator, false, .num 0, .nat 0 1, .anyMode⟩,
  ⟨0x4012, 256, 4, 0x06, 0x06, .u8, .ex, .operator, false, .none, .nat 1 15, .anyMode⟩,
  ⟨0x4012, 256, 4, 0x07, 0x07, .octets, .ro, .operator, false, .zeros 32, .any, .atOnce⟩,
  ⟨0x4012, 256, 4, 0x08, 0x08, .u8, .rw, .operator, true, .num 1, .nat 0 2, .anyMode⟩,
  ⟨0x4012, 256, 4, 0x09, 0x09, .u32, .rw, .operator, true, .num 16, .nat 1 8191875, .anyMode⟩,
  ⟨0x4012, 256, 4, 0x0A, 0x0A, .u8, .rw, .operator, true, .num 0, .alt 0 15 16, .anyMode⟩,
  ⟨0x4012, 256, 4, 0x0B, 0x0B, .u8, .ex, .operator, false, .none, .nat 1 15, .anyMode⟩,
  ⟨0x4013, 256, 4, 0x01, 0x01, .octets, .ro, .operator, false, .none, .any, .atOnce⟩,
  ⟨0x4013, 256, 4, 0x02, 0x02, .u32, .wo, .operator, false, .none, .any, .anyMode⟩,
  ⟨0x4014, 256, 4, 0x01, 0x01, .octets, .ro, .operator, false, .none, .any, .atOnce⟩]

/-- The object tables of spec file 09, part 1: V+0x14:02 CLASS_ACK (R269). -/
def Catalog.rows09_1 : List ObjRow := [
  ⟨0x4014, 256, 4, 0x02, 0x02, .u32, .wo, .operator, false, .none, .any, .anyMode⟩]

/-- The object tables of spec file 10, part 0: V+0x20:01 FG_CLASSES (R292); V+0x20:02 MIN_AREA (R292); V+0x20:03 MAX_AREA (R292); V+0x20:04 REMOTE_OVERLAP (R292); V+0x21:01 OPEN_NOW (R292); V+0x21:02 OPEN_PEAK (R292); V+0x21:03 COMETS_CLOSED (R292); V+0x21:04 DROPPED_SMALL (R292); V+0x21:05 SPLITS (R292); V+0x21:06 SEAM_MERGES (R292); V+0x21:07 PARTIALS (R292); V+0x21:08 RUNS_UNLABELLED (R292); V+0x21:09 THROTTLED (R292); V+0x21:0A RATE_DROPPED (R292); V+0x21:0B EDGE_LATE (R292); V+0x21:0C FORCED_CLOSES (R292); V+0x21:0D FLAGS (R292); V+0x21:0E NEXT_ID (R292). -/
def Catalog.rows10_0 : List ObjRow := [
  ⟨0x4020, 256, 4, 0x01, 0x01, .u16, .rs, .integrator, true, .num 65534, .mask 0xFFFE, .commit⟩,
  ⟨0x4020, 256, 4, 0x02, 0x02, .u32, .rs, .operator, true, .num 4, .nat 1 16777215, .commit⟩,
  ⟨0x4020, 256, 4, 0x03, 0x03, .u32, .rs, .integrator, true, .num 1048576, .nat 1 16777215, .commit⟩,
  ⟨0x4020, 256, 4, 0x04, 0x04, .u16, .rs, .integrator, true, .num 0, .zeroOr 64 2048 4, .commit⟩,
  ⟨0x4021, 256, 4, 0x01, 0x01, .u16, .ro, .operator, false, .num 0, .any, .atOnce⟩,
  ⟨0x4021, 256, 4, 0x02, 0x02, .u16, .rc, .operator, false, .num 0, .any, .anyMode⟩,
  ⟨0x4021, 256, 4, 0x03, 0x03, .u32, .rc, .operator, false, .num 0, .any, .anyMode⟩,
  ⟨0x4021, 256, 4, 0x04, 0x04, .u32, .rc, .operator, false, .num 0, .any, .anyMode⟩,
  ⟨0x4021, 256, 4, 0x05, 0x05, .u32, .rc, .operator, false, .num 0, .any, .anyMode⟩,
  ⟨0x4021, 256, 4, 0x06, 0x06, .u32, .rc, .operator, false, .num 0, .any, .anyMode⟩,
  ⟨0x4021, 256, 4, 0x07, 0x07, .u32, .rc, .operator, false, .num 0, .any, .anyMode⟩,
  ⟨0x4021, 256, 4, 0x08, 0x08, .u32, .rc, .operator, false, .num 0, .any, .anyMode⟩,
  ⟨0x4021, 256, 4, 0x09, 0x09, .u32, .rc, .operator, false, .num 0, .any, .anyMode⟩,
  ⟨0x4021, 256, 4, 0x0A, 0x0A, .u32, .rc, .operator, false, .num 0, .any, .anyMode⟩,
  ⟨0x4021, 256, 4, 0x0B, 0x0B, .u32, .rc, .operator, false, .num 0, .any, .anyMode⟩,
  ⟨0x4021, 256, 4, 0x0C, 0x0C, .u32, .rc, .operator, false, .num 0, .any, .anyMode⟩,
  ⟨0x4021, 256, 4, 0x0D, 0x0D, .u8, .rc, .operator, false, .num 0, .mask 0xFF, .anyMode⟩,
  ⟨0x4021, 256, 4, 0x0E, 0x0E, .u32, .ro, .operator, false, .special, .any, .atOnce⟩]

/-- The object tables of spec file 11, part 0: 0x5000:01 DISPATCH_REGIONS (R325); 0x5000:02 BUILD_REGIONS (R325); 0x5000:03 UTIL_LIMIT (R325); 0x5000:04 FETCH_BUDGET (R325); 0x5000:05 BRICKS_USABLE (R325); 0x5000:06 LOAD (R325); 0x5000:07 QUEUE_NOW (R325); 0x5000:08 FLAGS (R325); 0x5000:09 BUILD_PREEMPTS (R325); S+0x00:01 MODEL (R326); S+0x00:02 STATE (R326); S+0x00:03 CRC (R326); S+0x00:04 CYCLES (R326); S+0x00:05 COST (R326); S+0x00:06 WEIGHT_BYTES (R326); S+0x00:07 NAME (R326); S+0x00:08 RATE (R326); S+0x00:09 OUT_ACTION (R326); S+0x00:0A NOR_STATE (R326); S+0x00:0B CLEAR (R326). -/
def Catalog.rows11_0 : List ObjRow := [
  ⟨0x5000, 1, 1, 0x01, 0x01, .u16, .rs, .integrator, true, .special, .mask 0x0FFF, .commit⟩,
  ⟨0x5000, 1, 1, 0x02, 0x02, .u16, .rs, .integrator, true, .special, .mask 0x0FFF, .commit⟩,
  ⟨0x5000, 1, 1, 0x03, 0x03, .u8, .rs, .integrator, true, .num 85, .nat 10 95, .commit⟩,
  ⟨0x5000, 1, 1, 0x04, 0x04, .u16, .rs, .integrator, true, .num 10, .nat 2 1000, .commit⟩,
  ⟨0x5000, 1, 1, 0x05, 0x05, .u16, .ro, .operator, false, .special, .any, .atOnce⟩,
  ⟨0x5000, 1, 1, 0x06, 0x06, .u16, .ro, .operator, false, .num 0, .any, .atOnce⟩,
  ⟨0x5000, 1, 1, 0x07, 0x07, .u16, .ro, .operator, false, .num 0, .any, .atOnce⟩,
  ⟨0x5000, 1, 1, 0x08, 0x08, .u8, .rc, .operator, false, .num 0, .mask 0xFF, .anyMode⟩,
  ⟨0x5000, 1, 1, 0x09, 0x09, .u32, .rc, .operator, false, .num 0, .any, .anyMode⟩,
  ⟨0x5100, 16, 8, 0x01, 0x01, .blob, .rw, .integrator, false, .empty, .len 64 1048576 1, .anyMode⟩,
  ⟨0x5100, 16, 8, 0x02, 0x02, .u8, .ro, .operator, false, .num 0, .any, .atOnce⟩,
  ⟨0x5100, 16, 8, 0x03, 0x03, .u32, .ro, .operator, false, .num 0, .any, .atOnce⟩,
  ⟨0x5100, 16, 8, 0x04, 0x04, .u32, .ro, .operator, false, .num 0, .any, .atOnce⟩,
  ⟨0x5100, 16, 8, 0x05, 0x05, .u32, .ro, .operator, false, .num 0, .any, .atOnce⟩,
  ⟨0x5100, 16, 8, 0x06, 0x06, .u32, .ro, .operator, false, .num 0, .any, .atOnce⟩,
  ⟨0x5100, 16, 8, 0x07, 0x07, .text, .ro, .operator, false, .empty, .any, .atOnce⟩,
  ⟨0x5100, 16, 8, 0x08, 0x08, .u32, .rs, .integrator, true, .num 0, .nat 0 2097152, .commit⟩,
  ⟨0x5100, 16, 8, 0x09, 0x09, .u64, .rs, .operator, true, .num 0, .special, .commit⟩,
  ⟨0x5100, 16, 8, 0x0A, 0x0A, .u8, .ro, .operator, false, .num 0, .any, .atOnce⟩,
  ⟨0x5100, 16, 8, 0x0B, 0x0B, .u8, .ex, .integrator, false, .none, .nat 1 1, .anyMode⟩]

/-- The object tables of spec file 11, part 1: S+0x01:01 LOAD_RESULT (R326); S+0x01:02 LOAD_ACK (R326); :01 STATE (R327); :02 BRICK_MAP (R327); :03 SPARE_USED (R327); :04 RUNS (R327); :05 RUNS_ABANDONED (R327); :06 SRAM_CORRECTED (R327); :07 RESETS (R327); :08 BUILD_UNITS (R327); V+0x30:01 to :04 PRED0 to PRED3 (R328); V+0x30:05 CROP_MARGIN (R328); V+0x30:06 CROP_KEEP (R328); V+0x31:01 MATCHED (R328); V+0x31:02 MODEL_DONE (R328); V+0x31:03 DEFAULTED (R328); V+0x31:04 CROP_LOST (R328); V+0x31:05 QUEUE_FULL (R328); V+0x31:06 RETRIED (R328); Y+0x30:01 DEFAULT_ACTION (R328). -/
def Catalog.rows11_1 : List ObjRow := [
  ⟨0x5101, 16, 8, 0x01, 0x01, .octets, .ro, .integrator, false, .none, .any, .atOnce⟩,
  ⟨0x5101, 16, 8, 0x02, 0x02, .u32, .wo, .integrator, false, .none, .any, .anyMode⟩,
  ⟨0x5200, 1, 48, 0x01, 0x01, .u8, .ro, .operator, false, .num 1, .any, .atOnce⟩,
  ⟨0x5200, 1, 48, 0x02, 0x02, .u8, .ro, .operator, false, .num 255, .any, .atOnce⟩,
  ⟨0x5200, 1, 48, 0x03, 0x03, .bool, .ro, .operator, false, .num 0, .any, .atOnce⟩,
  ⟨0x5200, 1, 48, 0x04, 0x04, .u32, .rc, .operator, false, .num 0, .any, .anyMode⟩,
  ⟨0x5200, 1, 48, 0x05, 0x05, .u32, .rc, .operator, false, .num 0, .any, .anyMode⟩,
  ⟨0x5200, 1, 48, 0x06, 0x06, .u32, .rc, .operator, false, .num 0, .any, .anyMode⟩,
  ⟨0x5200, 1, 48, 0x07, 0x07, .u32, .rc, .operator, false, .num 0, .any, .anyMode⟩,
  ⟨0x5200, 1, 48, 0x08, 0x08, .u32, .rc, .operator, false, .num 0, .any, .anyMode⟩,
  ⟨0x4030, 256, 4, 0x01, 0x04, .octets, .rs, .integrator, true, .special, .len 16 16 1, .commit⟩,
  ⟨0x4030, 256, 4, 0x05, 0x05, .u8, .rs, .integrator, true, .num 4, .nat 0 32, .commit⟩,
  ⟨0x4030, 256, 4, 0x06, 0x06, .bool, .rs, .operator, true, .num 0, .any, .commit⟩,
  ⟨0x4031, 256, 4, 0x01, 0x01, .u32, .rc, .operator, false, .num 0, .any, .anyMode⟩,
  ⟨0x4031, 256, 4, 0x02, 0x02, .u32, .rc, .operator, false, .num 0, .any, .anyMode⟩,
  ⟨0x4031, 256, 4, 0x03, 0x03, .u32, .rc, .operator, false, .num 0, .any, .anyMode⟩,
  ⟨0x4031, 256, 4, 0x04, 0x04, .u32, .rc, .operator, false, .num 0, .any, .anyMode⟩,
  ⟨0x4031, 256, 4, 0x05, 0x05, .u32, .rc, .operator, false, .num 0, .any, .anyMode⟩,
  ⟨0x4031, 256, 4, 0x06, 0x06, .u32, .rc, .operator, false, .num 0, .any, .anyMode⟩,
  ⟨0x6030, 64, 4, 0x01, 0x01, .u8, .rs, .operator, true, .num 0, .nat 0 2, .commit⟩]

/-- The object tables of spec file 11, part 2: Y+0x30:02 DECISION_MARGIN (R328). -/
def Catalog.rows11_2 : List ObjRow := [
  ⟨0x6030, 64, 4, 0x02, 0x02, .u16, .rs, .integrator, true, .num 500, .nat 20 50000, .commit⟩]

/-- The object tables of spec file 12, part 0: Y+0x00:01 GEOMETRY (R355); Y+0x00:02 CHUTE_SPEED (R355); Y+0x00:03 VALVE_DISTANCE (R355); Y+0x00:04 GRAVITY (R355); Y+0x00:05 SCAN_OFFSET (R355); Y+0x00:06 ENCODER (R355); Y+0x00:07 COUNT_PITCH (R355); Y+0x00:08 LINE_PERIOD (R355); Y+0x01:01 VALVE_CAL (R355); Y+0x01:02 CAL_POINTS (R355); Y+0x01:03 SIDE_MARGIN (R355); Y+0x01:04 MIN_COVER (R355); Y+0x01:05 LEAD (R355); Y+0x01:06 TRAIL (R355); Y+0x02:01 RULE_CLASSES (R355); Y+0x02:02 RULE_MIN (R355); Y+0x02:03 PARTIAL_ACTION (R355); Y+0x02:04 FUSE_VIEW (R355); Y+0x02:05 FUSE_RULE (R355); Y+0x02:06 FUSE_X (R355). -/
def Catalog.rows12_0 : List ObjRow := [
  ⟨0x6000, 64, 4, 0x01, 0x01, .u8, .rs, .integrator, true, .num 0, .nat 0 2, .commit⟩,
  ⟨0x6000, 64, 4, 0x02, 0x02, .u32, .rs, .integrator, true, .num 4000000, .nat 100000 20000000, .commit⟩,
  ⟨0x6000, 64, 4, 0x03, 0x03, .u32, .rs, .integrator, true, .num 0, .nat 0 2000000, .commit⟩,
  ⟨0x6000, 64, 4, 0x04, 0x04, .u32, .rs, .integrator, true, .num 9810000, .nat 0 9900000, .commit⟩,
  ⟨0x6000, 64, 4, 0x05, 0x05, .i32, .rs, .integrator, true, .num 0, .int (-100000) 100000, .commit⟩,
  ⟨0x6000, 64, 4, 0x06, 0x06, .u8, .rs, .integrator, true, .num 255, .alt 0 3 255, .commit⟩,
  ⟨0x6000, 64, 4, 0x07, 0x07, .u32, .rs, .integrator, true, .num 10000, .nat 1 10000000, .commit⟩,
  ⟨0x6000, 64, 4, 0x08, 0x08, .u32, .ro, .operator, false, .num 0, .any, .atOnce⟩,
  ⟨0x6001, 64, 4, 0x01, 0x01, .octets, .rs, .integrator, true, .zeros 16384, .len 16384 16384 1, .commit⟩,
  ⟨0x6001, 64, 4, 0x02, 0x02, .u16, .rs, .integrator, true, .num 2, .nat 2 2048, .commit⟩,
  ⟨0x6001, 64, 4, 0x03, 0x03, .u16, .rs, .operator, true, .num 0, .nat 0 1024, .commit⟩,
  ⟨0x6001, 64, 4, 0x04, 0x04, .u8, .rs, .operator, true, .num 32, .nat 1 255, .commit⟩,
  ⟨0x6001, 64, 4, 0x05, 0x05, .u16, .rs, .operator, true, .num 0, .nat 0 10000, .commit⟩,
  ⟨0x6001, 64, 4, 0x06, 0x06, .u16, .rs, .operator, true, .num 0, .nat 0 10000, .commit⟩,
  ⟨0x6002, 64, 4, 0x01, 0x01, .u16, .rs, .operator, true, .num 65532, .mask 0xFFFE, .commit⟩,
  ⟨0x6002, 64, 4, 0x02, 0x02, .u16, .rs, .operator, true, .num 1, .nat 1 65535, .commit⟩,
  ⟨0x6002, 64, 4, 0x03, 0x03, .u8, .rs, .operator, true, .num 0, .nat 0 2, .commit⟩,
  ⟨0x6002, 64, 4, 0x04, 0x04, .u8, .rs, .integrator, true, .num 255, .alt 0 3 255, .commit⟩,
  ⟨0x6002, 64, 4, 0x05, 0x05, .u8, .rs, .operator, true, .num 0, .nat 0 1, .commit⟩,
  ⟨0x6002, 64, 4, 0x06, 0x06, .u16, .rs, .integrator, true, .num 16, .nat 0 1024, .commit⟩]

/-- The object tables of spec file 12, part 1: Y+0x02:07 FUSE_T (R355); Y+0x02:08 FUSE_HOLD (R355); Y+0x02:09 VIEW_DROP (R355); Y+0x02:0A SPEED_TOL (R355); Y+0x02:0B TRACK_RECORDS (R355); Y+0x03:01 SCHEDULED (R355); Y+0x03:02 LATE (R355); Y+0x03:03 UNMAPPED (R355); Y+0x03:04 FUSED (R355); Y+0x03:05 SPEED_REJECTED (R355); Y+0x03:06 OUT_OF_HORIZON (R355); Y+0x03:07 REVISIONS_LATE (R355); Y+0x03:08 CLEARED (R355); Y+0x03:09 TEACH_OPENINGS (R355); 0x6100:01 GUARANTEE (R356); 0x6100:02 LAPSE_CAUSE (R356); 0x6100:03 LAPSES (R356); 0x6100:04 RETIRED_REGIONS_ALLOWED (R356); 0x6100:05 ENTRY_LATENCY_MAX (R356); 0x6100:06 ENTRIES_NOW (R356). -/
def Catalog.rows12_1 : List ObjRow := [
  ⟨0x6002, 64, 4, 0x07, 0x07, .u32, .rs, .integrator, true, .num 200, .nat 1 100000, .commit⟩,
  ⟨0x6002, 64, 4, 0x08, 0x08, .u32, .rs, .integrator, true, .num 10000, .nat 100 1000000, .commit⟩,
  ⟨0x6002, 64, 4, 0x09, 0x09, .u32, .rs, .integrator, true, .num 0, .nat 0 500000, .commit⟩,
  ⟨0x6002, 64, 4, 0x0A, 0x0A, .u8, .rs, .integrator, true, .num 20, .nat 1 50, .commit⟩,
  ⟨0x6002, 64, 4, 0x0B, 0x0B, .bool, .rs, .operator, true, .num 1, .any, .commit⟩,
  ⟨0x6003, 64, 4, 0x01, 0x01, .u32, .rc, .operator, false, .num 0, .any, .anyMode⟩,
  ⟨0x6003, 64, 4, 0x02, 0x02, .u32, .rc, .operator, false, .num 0, .any, .anyMode⟩,
  ⟨0x6003, 64, 4, 0x03, 0x03, .u32, .rc, .operator, false, .num 0, .any, .anyMode⟩,
  ⟨0x6003, 64, 4, 0x04, 0x04, .u32, .rc, .operator, false, .num 0, .any, .anyMode⟩,
  ⟨0x6003, 64, 4, 0x05, 0x05, .u32, .rc, .operator, false, .num 0, .any, .anyMode⟩,
  ⟨0x6003, 64, 4, 0x06, 0x06, .u32, .rc, .operator, false, .num 0, .any, .anyMode⟩,
  ⟨0x6003, 64, 4, 0x07, 0x07, .u32, .rc, .operator, false, .num 0, .any, .anyMode⟩,
  ⟨0x6003, 64, 4, 0x08, 0x08, .u32, .rc, .operator, false, .num 0, .any, .anyMode⟩,
  ⟨0x6003, 64, 4, 0x09, 0x09, .u32, .rc, .operator, false, .num 0, .any, .anyMode⟩,
  ⟨0x6100, 1, 1, 0x01, 0x01, .u8, .ro, .operator, false, .num 1, .any, .atOnce⟩,
  ⟨0x6100, 1, 1, 0x02, 0x02, .u8, .rc, .operator, false, .num 1, .mask 0xFF, .anyMode⟩,
  ⟨0x6100, 1, 1, 0x03, 0x03, .u32, .rc, .operator, false, .num 0, .any, .anyMode⟩,
  ⟨0x6100, 1, 1, 0x04, 0x04, .u8, .rs, .integrator, true, .num 0, .nat 0 11, .commit⟩,
  ⟨0x6100, 1, 1, 0x05, 0x05, .u32, .rc, .operator, false, .num 0, .any, .anyMode⟩,
  ⟨0x6100, 1, 1, 0x06, 0x06, .u32, .ro, .operator, false, .num 0, .any, .atOnce⟩]

/-- The object tables of spec file 12, part 2: 0x6100:07 ENTRIES_FULL (R356); 0x6100:08 REQUESTS_PEAK (R356); 0x6100:09 RECORDS_DROPPED (R356); 0x6100:0A REMOTE_RECEIVED (R356); 0x6100:0B REMOTE_DROPPED (R356). -/
def Catalog.rows12_2 : List ObjRow := [
  ⟨0x6100, 1, 1, 0x07, 0x07, .u32, .rc, .operator, false, .num 0, .any, .anyMode⟩,
  ⟨0x6100, 1, 1, 0x08, 0x08, .u16, .rc, .operator, false, .num 0, .any, .anyMode⟩,
  ⟨0x6100, 1, 1, 0x09, 0x09, .u32, .rc, .operator, false, .num 0, .any, .anyMode⟩,
  ⟨0x6100, 1, 1, 0x0A, 0x0A, .u32, .rc, .operator, false, .num 0, .any, .anyMode⟩,
  ⟨0x6100, 1, 1, 0x0B, 0x0B, .u32, .rc, .operator, false, .num 0, .any, .anyMode⟩]

/-- The object tables of spec file 13, part 0: B+0x00:01 ENABLE (R375); B+0x00:02 TICK_PERIOD (R375); B+0x00:03 MIN_OFF (R375); B+0x01:01 STATE (R375); B+0x01:02 TICK (R375); B+0x01:03 TICK_START (R375); B+0x01:04 STATUS_CRC_ERRORS (R375); B+0x01:05 STATUS_MISSING (R375); B+0x01:06 STATE_MISMATCH (R375); B+0x01:07 DISCARDED (R375); B+0x01:08 SAFE_TICKS (R375); B+0x01:09 BOARD_STATUS (R375); B+0x01:0A FAULT_COUNT (R375); B+0x01:0B PLUG_EVENTS (R375); B+0x01:0C FLAGS (R375); B+0x02:01 VALVE_STATE (R375); B+0x02:02 TEST_STATE (R375); B+0x02:03 TEST_ENABLE (R375); B+0x02:04 TEST_PULSE (R375); O+0x00:01 FUNCTION (R376). -/
def Catalog.rows13_0 : List ObjRow := [
  ⟨0x6200, 32, 4, 0x01, 0x01, .bool, .rs, .integrator, true, .num 0, .any, .commit⟩,
  ⟨0x6200, 32, 4, 0x02, 0x02, .u8, .rs, .integrator, true, .num 10, .nat 5 100, .commit⟩,
  ⟨0x6200, 32, 4, 0x03, 0x03, .u8, .rs, .operator, true, .num 1, .nat 0 255, .commit⟩,
  ⟨0x6201, 32, 4, 0x01, 0x01, .u8, .ro, .operator, false, .num 0, .any, .atOnce⟩,
  ⟨0x6201, 32, 4, 0x02, 0x02, .u32, .ro, .operator, false, .num 0, .any, .atOnce⟩,
  ⟨0x6201, 32, 4, 0x03, 0x03, .stime, .ro, .operator, false, .num 0, .any, .atOnce⟩,
  ⟨0x6201, 32, 4, 0x04, 0x04, .u32, .rc, .operator, false, .num 0, .any, .anyMode⟩,
  ⟨0x6201, 32, 4, 0x05, 0x05, .u32, .rc, .operator, false, .num 0, .any, .anyMode⟩,
  ⟨0x6201, 32, 4, 0x06, 0x06, .u32, .rc, .operator, false, .num 0, .any, .anyMode⟩,
  ⟨0x6201, 32, 4, 0x07, 0x07, .u32, .rc, .operator, false, .num 0, .any, .anyMode⟩,
  ⟨0x6201, 32, 4, 0x08, 0x08, .u32, .rc, .operator, false, .num 0, .any, .anyMode⟩,
  ⟨0x6201, 32, 4, 0x09, 0x09, .u16, .ro, .operator, false, .num 0, .any, .atOnce⟩,
  ⟨0x6201, 32, 4, 0x0A, 0x0A, .u16, .ro, .operator, false, .num 0, .any, .atOnce⟩,
  ⟨0x6201, 32, 4, 0x0B, 0x0B, .u32, .rc, .operator, false, .num 0, .any, .anyMode⟩,
  ⟨0x6201, 32, 4, 0x0C, 0x0C, .u8, .rc, .operator, false, .num 0, .mask 0xFF, .anyMode⟩,
  ⟨0x6202, 32, 4, 0x01, 0x01, .octets, .ro, .operator, false, .zeros 64, .any, .atOnce⟩,
  ⟨0x6202, 32, 4, 0x02, 0x02, .octets, .rw, .integrator, false, .zeros 64, .len 64 64 1, .anyMode⟩,
  ⟨0x6202, 32, 4, 0x03, 0x03, .bool, .rw, .integrator, false, .num 0, .any, .testOnly⟩,
  ⟨0x6202, 32, 4, 0x04, 0x04, .u16, .rw, .integrator, true, .num 100, .nat 1 5000, .anyMode⟩,
  ⟨0x6300, 8, 16, 0x01, 0x01, .u8, .rs, .integrator, true, .num 0, .nat 0 3, .commit⟩]

/-- The object tables of spec file 13, part 1: O+0x00:02 LEVEL (R376); O+0x00:03 SAFE_LEVEL (R376); O+0x00:04 ASSIGNED (R376); O+0x01:01 EDGES (R376); O+0x01:02 QUEUED (R376); O+0x01:03 LATE_EDGES (R376); O+0x01:04 MERGED_EDGES (R376); O+0x01:05 FLUSH (R376). -/
def Catalog.rows13_1 : List ObjRow := [
  ⟨0x6300, 8, 16, 0x02, 0x02, .bool, .rw, .operator, true, .num 0, .any, .anyMode⟩,
  ⟨0x6300, 8, 16, 0x03, 0x03, .bool, .rs, .integrator, true, .num 0, .any, .commit⟩,
  ⟨0x6300, 8, 16, 0x04, 0x04, .u8, .ro, .operator, false, .num 0, .any, .atOnce⟩,
  ⟨0x6301, 8, 16, 0x01, 0x01, .octets, .wo, .operator, false, .none, .len 8 128 8, .anyMode⟩,
  ⟨0x6301, 8, 16, 0x02, 0x02, .u8, .ro, .operator, false, .num 0, .any, .atOnce⟩,
  ⟨0x6301, 8, 16, 0x03, 0x03, .u32, .rc, .operator, false, .num 0, .any, .anyMode⟩,
  ⟨0x6301, 8, 16, 0x04, 0x04, .u32, .rc, .operator, false, .num 0, .any, .anyMode⟩,
  ⟨0x6301, 8, 16, 0x05, 0x05, .u8, .ex, .operator, false, .none, .nat 1 1, .anyMode⟩]

/-- The object tables of spec file 14, part 0: 0x7000:01 to :07 TARGET_LINE_WR to TARGET_CTL (R405); 0x7000:08 PD_TIMER (R405); 0x7000:09 SCRUB_PERIOD (R405); 0x7000:0A LAST_ERROR (R405); 0x7001:01 to :07 MISSED_LINE_WR to MISSED_CTL (R405); 0x7002:01 to :07 LATENCY_MAX_LINE_WR to LATENCY_MAX_CTL (R405); 0x7003:01 SR_WAITS (R405); 0x7003:02 HIST_LOST (R405); :01 STATE (R406); :02 TEMPERATURE (R406); :03 REFRESH_RATE (R406); :04 RATE_CHANGES (R406); :05 RETIRED_MAP (R406); :06 STATIC_FREE (R406); :01 STATE (R407); :02 DEBT (R407); :03 URGENT_REFRESHES (R407); :04 CORRECTED (R407); :05 UNCORRECTABLE (R407); :06 PARITY_RETRIES (R407). -/
def Catalog.rows14_0 : List ObjRow := [
  ⟨0x7000, 1, 1, 0x01, 0x07, .u32, .rs, .integrator, true, .special, .nat 200 1000000, .commit⟩,
  ⟨0x7000, 1, 1, 0x08, 0x08, .u32, .rs, .integrator, true, .num 2000, .zeroOr 100 1000000 1, .commit⟩,
  ⟨0x7000, 1, 1, 0x09, 0x09, .u16, .rs, .integrator, true, .num 8, .zeroOr 1 168 1, .commit⟩,
  ⟨0x7000, 1, 1, 0x0A, 0x0A, .octets, .ro, .operator, false, .zeros 24, .any, .atOnce⟩,
  ⟨0x7001, 1, 1, 0x01, 0x07, .u32, .rc, .operator, false, .num 0, .any, .anyMode⟩,
  ⟨0x7002, 1, 1, 0x01, 0x07, .u32, .rc, .operator, false, .num 0, .any, .anyMode⟩,
  ⟨0x7003, 1, 1, 0x01, 0x01, .u32, .rc, .operator, false, .num 0, .any, .anyMode⟩,
  ⟨0x7003, 1, 1, 0x02, 0x02, .u32, .rc, .operator, false, .num 0, .any, .anyMode⟩,
  ⟨0x7010, 1, 2, 0x01, 0x01, .u8, .ro, .operator, false, .num 0, .any, .atOnce⟩,
  ⟨0x7010, 1, 2, 0x02, 0x02, .i16, .ro, .operator, false, .num 0, .any, .atOnce⟩,
  ⟨0x7010, 1, 2, 0x03, 0x03, .u8, .ro, .operator, false, .num 0, .any, .atOnce⟩,
  ⟨0x7010, 1, 2, 0x04, 0x04, .u32, .rc, .operator, false, .num 0, .any, .anyMode⟩,
  ⟨0x7010, 1, 2, 0x05, 0x05, .u32, .ro, .operator, false, .num 0, .any, .atOnce⟩,
  ⟨0x7010, 1, 2, 0x06, 0x06, .u32, .ro, .operator, false, .special, .any, .atOnce⟩,
  ⟨0x7020, 1, 64, 0x01, 0x01, .u8, .ro, .operator, false, .num 0, .any, .atOnce⟩,
  ⟨0x7020, 1, 64, 0x02, 0x02, .i32, .ro, .operator, false, .num 0, .any, .atOnce⟩,
  ⟨0x7020, 1, 64, 0x03, 0x03, .u32, .rc, .operator, false, .num 0, .any, .anyMode⟩,
  ⟨0x7020, 1, 64, 0x04, 0x04, .u32, .rc, .operator, false, .num 0, .any, .anyMode⟩,
  ⟨0x7020, 1, 64, 0x05, 0x05, .u32, .rc, .operator, false, .num 0, .any, .anyMode⟩,
  ⟨0x7020, 1, 64, 0x06, 0x06, .u32, .rc, .operator, false, .num 0, .any, .anyMode⟩]

/-- The object tables of spec file 14, part 1: :07 RETIRE_CAUSE (R407); :01 SIZE (R408); :02 SCOPE (R408); :03 GRAIN (R408); :04 MODE (R408); :05 CAPACITY (R408); :06 DEPTH (R408); :07 BASE (R408); :08 CHANNELS (R408); :09 WRITE_PTR (R408); :0A READ_PTR (R408); :0B RESETS (R408); :0C DROPPED (R408). -/
def Catalog.rows14_1 : List ObjRow := [
  ⟨0x7020, 1, 64, 0x07, 0x07, .u8, .ro, .operator, true, .num 0, .any, .atOnce⟩,
  ⟨0x7080, 1, 24, 0x01, 0x01, .u64, .rs, .integrator, true, .special, .zeroOr 65536 34091302912 1, .frameBoundary⟩,
  ⟨0x7080, 1, 24, 0x02, 0x02, .u8, .rs, .integrator, true, .num 0, .nat 0 1, .frameBoundary⟩,
  ⟨0x7080, 1, 24, 0x03, 0x03, .u32, .rs, .integrator, true, .num 4096, .nat 256 65536, .frameBoundary⟩,
  ⟨0x7080, 1, 24, 0x04, 0x04, .u8, .rs, .integrator, true, .special, .nat 0 1, .frameBoundary⟩,
  ⟨0x7080, 1, 24, 0x05, 0x05, .u64, .ro, .operator, false, .num 0, .any, .atOnce⟩,
  ⟨0x7080, 1, 24, 0x06, 0x06, .u32, .ro, .operator, false, .num 0, .any, .atOnce⟩,
  ⟨0x7080, 1, 24, 0x07, 0x07, .u32, .ro, .operator, false, .num 4194304, .any, .atOnce⟩,
  ⟨0x7080, 1, 24, 0x08, 0x08, .u64, .ro, .operator, false, .num 0, .any, .atOnce⟩,
  ⟨0x7080, 1, 24, 0x09, 0x09, .u64, .ro, .operator, false, .num 0, .any, .atOnce⟩,
  ⟨0x7080, 1, 24, 0x0A, 0x0A, .u64, .rw, .operator, false, .num 0, .special, .anyMode⟩,
  ⟨0x7080, 1, 24, 0x0B, 0x0B, .u32, .rc, .operator, false, .num 0, .any, .anyMode⟩,
  ⟨0x7080, 1, 24, 0x0C, 0x0C, .u32, .rc, .operator, false, .num 0, .any, .anyMode⟩]

/-- The object tables of spec file 15, part 0: 0x7100:01 BUDGET (R436); 0x7100:02 IN_FLIGHT (R436); 0x7100:03 IRQ_PENDING (R436); 0x7100:04 DEFERRALS (R436); 0x7100:05 HALTS (R436); 0x7110:01 SELECT (R436); 0x7110:02 DESCRIPTOR (R436); 0x7110:03 TABLE (R436); 0x7120:01 XBUF (R436); D+0x00:01 START (R437); D+0x00:02 STOP (R437); D+0x00:03 PRIORITY (R437); D+0x00:04 CODEC_GEOM (R437); D+0x01:01 STATE (R437); D+0x01:02 CAUSE (R437); D+0x01:03 CODE (R437); D+0x01:04 DESC (R437); D+0x01:05 TAG (R437); D+0x01:06 BYTES_DONE (R437); D+0x01:07 RESIDUE (R437). -/
def Catalog.rows15_0 : List ObjRow := [
  ⟨0x7100, 1, 1, 0x01, 0x01, .u32, .rw, .integrator, true, .num 65536, .nat 1 16777216, .anyMode⟩,
  ⟨0x7100, 1, 1, 0x02, 0x02, .u8, .ro, .operator, false, .num 0, .any, .atOnce⟩,
  ⟨0x7100, 1, 1, 0x03, 0x03, .u32, .rc, .operator, false, .num 0, .mask 0xFFFFFFFF, .anyMode⟩,
  ⟨0x7100, 1, 1, 0x04, 0x04, .u32, .rc, .operator, false, .num 0, .any, .anyMode⟩,
  ⟨0x7100, 1, 1, 0x05, 0x05, .u32, .rc, .operator, false, .num 0, .any, .anyMode⟩,
  ⟨0x7110, 1, 1, 0x01, 0x01, .u16, .rw, .integrator, false, .num 0, .nat 0 2047, .anyMode⟩,
  ⟨0x7110, 1, 1, 0x02, 0x02, .octets, .rw, .integrator, false, .zeros 32, .len 32 32 1, .anyMode⟩,
  ⟨0x7110, 1, 1, 0x03, 0x03, .octets, .rw, .integrator, false, .zeros 65536, .len 65536 65536 1, .anyMode⟩,
  ⟨0x7120, 1, 1, 0x01, 0x01, .blob, .rw, .integrator, false, .special, .len 0 1048576 1, .anyMode⟩,
  ⟨0x7200, 16, 32, 0x01, 0x01, .u16, .ex, .integrator, false, .none, .nat 0 2047, .anyMode⟩,
  ⟨0x7200, 16, 32, 0x02, 0x02, .u8, .ex, .integrator, false, .none, .nat 1 1, .anyMode⟩,
  ⟨0x7200, 16, 32, 0x03, 0x03, .u8, .rw, .integrator, true, .num 0, .nat 0 3, .anyMode⟩,
  ⟨0x7200, 16, 32, 0x04, 0x04, .u32, .rw, .integrator, true, .num 268439552, .special, .anyMode⟩,
  ⟨0x7201, 16, 32, 0x01, 0x01, .u8, .ro, .operator, false, .num 0, .any, .atOnce⟩,
  ⟨0x7201, 16, 32, 0x02, 0x02, .u8, .ro, .operator, false, .num 0, .any, .atOnce⟩,
  ⟨0x7201, 16, 32, 0x03, 0x03, .u32, .ro, .operator, false, .num 0, .any, .atOnce⟩,
  ⟨0x7201, 16, 32, 0x04, 0x04, .u16, .ro, .operator, false, .num 0, .any, .atOnce⟩,
  ⟨0x7201, 16, 32, 0x05, 0x05, .u32, .ro, .operator, false, .num 0, .any, .atOnce⟩,
  ⟨0x7201, 16, 32, 0x06, 0x06, .u32, .ro, .operator, false, .num 0, .any, .atOnce⟩,
  ⟨0x7201, 16, 32, 0x07, 0x07, .u32, .ro, .operator, false, .num 0, .any, .atOnce⟩]

/-- The object tables of spec file 15, part 1: D+0x01:08 OUT_BYTES (R437); D+0x01:09 CHECK_VALUE (R437); D+0x01:0A CHECK_RECEIVED (R437); D+0x01:0B TRAVERSAL (R437); D+0x01:0C DESC_DONE (R437); 0x7400:01 BLOCKS_CODED (R438); 0x7400:02 BLOCKS_STORED (R438); 0x7400:03 SELF_CHECK_FAILS (R438); 0x7400:04 INCOMPRESSIBLE (R438); 0x7400:05 BAD_CHECKS (R438); 0x7400:06 BYTES_IN (R438); 0x7400:07 BYTES_OUT (R438); 0x7400:08 STREAM_QUEUE_FULL (R438); 0x7400:09 LOAD (R438); :01 HOLDER (R439); :02 WAITERS (R439); :03 STREAMS (R439); :04 MISMATCHES (R439). -/
def Catalog.rows15_1 : List ObjRow := [
  ⟨0x7201, 16, 32, 0x08, 0x08, .u32, .ro, .operator, false, .num 0, .any, .atOnce⟩,
  ⟨0x7201, 16, 32, 0x09, 0x09, .u32, .ro, .operator, false, .num 0, .any, .atOnce⟩,
  ⟨0x7201, 16, 32, 0x0A, 0x0A, .u32, .ro, .operator, false, .num 0, .any, .atOnce⟩,
  ⟨0x7201, 16, 32, 0x0B, 0x0B, .u32, .ro, .operator, false, .num 0, .any, .atOnce⟩,
  ⟨0x7201, 16, 32, 0x0C, 0x0C, .u32, .rc, .operator, false, .num 0, .any, .anyMode⟩,
  ⟨0x7400, 1, 1, 0x01, 0x01, .u32, .rc, .operator, false, .num 0, .any, .anyMode⟩,
  ⟨0x7400, 1, 1, 0x02, 0x02, .u32, .rc, .operator, false, .num 0, .any, .anyMode⟩,
  ⟨0x7400, 1, 1, 0x03, 0x03, .u32, .rc, .operator, false, .num 0, .any, .anyMode⟩,
  ⟨0x7400, 1, 1, 0x04, 0x04, .u32, .rc, .operator, false, .num 0, .any, .anyMode⟩,
  ⟨0x7400, 1, 1, 0x05, 0x05, .u32, .rc, .operator, false, .num 0, .any, .anyMode⟩,
  ⟨0x7400, 1, 1, 0x06, 0x06, .u64, .rc, .operator, false, .num 0, .any, .anyMode⟩,
  ⟨0x7400, 1, 1, 0x07, 0x07, .u64, .rc, .operator, false, .num 0, .any, .anyMode⟩,
  ⟨0x7400, 1, 1, 0x08, 0x08, .u32, .rc, .operator, false, .num 0, .any, .anyMode⟩,
  ⟨0x7400, 1, 1, 0x09, 0x09, .u16, .ro, .operator, false, .num 0, .any, .atOnce⟩,
  ⟨0x7480, 1, 4, 0x01, 0x01, .u8, .ro, .operator, false, .num 255, .any, .atOnce⟩,
  ⟨0x7480, 1, 4, 0x02, 0x02, .u8, .ro, .operator, false, .num 0, .any, .atOnce⟩,
  ⟨0x7480, 1, 4, 0x03, 0x03, .u32, .rc, .operator, false, .num 0, .any, .anyMode⟩,
  ⟨0x7480, 1, 4, 0x04, 0x04, .u32, .rc, .operator, false, .num 0, .any, .anyMode⟩]

/-- The object tables of spec file 16, part 0: 0x8000:01 OUT_PRIORITY (R453); 0x8000:02 COINCIDENCES (R453); 0x8000:03 LAST_COINCIDENCE (R453); 0x8000:04 IGNORED (R453); 0x8000:05 FLAGS (R453); 0x8010:01 LOG_HEAD (R453); 0x8010:02 LOG_CURSOR (R453); 0x8010:03 LOG_RECORDS (R453); 0x8010:04 LOG_LOST (R453); counter :01 COMPARE (R453); counter :02 VALUE (R453); counter :03 CAPTURED (R453); :01 SOURCE (R454); :02 TASKS (R454); :03 GATE (R454); :04 LIMIT (R454); :05 RECORD (R454); :06 SECURITY (R454); :07 OWNER (R454); :08 EVENTS (R454). -/
def Catalog.rows16_0 : List ObjRow := [
  ⟨0x8000, 1, 1, 0x01, 0x01, .u16, .rs, .integrator, true, .num 0, .any, .commit⟩,
  ⟨0x8000, 1, 1, 0x02, 0x02, .u32, .rc, .operator, false, .num 0, .any, .anyMode⟩,
  ⟨0x8000, 1, 1, 0x03, 0x03, .u16, .ro, .operator, false, .num 0, .any, .atOnce⟩,
  ⟨0x8000, 1, 1, 0x04, 0x04, .u32, .rc, .operator, false, .num 0, .any, .anyMode⟩,
  ⟨0x8000, 1, 1, 0x05, 0x05, .u8, .rc, .operator, false, .num 0, .mask 0xFF, .anyMode⟩,
  ⟨0x8010, 1, 1, 0x01, 0x01, .u32, .ro, .operator, false, .num 0, .any, .atOnce⟩,
  ⟨0x8010, 1, 1, 0x02, 0x02, .u32, .rw, .operator, false, .num 0, .special, .anyMode⟩,
  ⟨0x8010, 1, 1, 0x03, 0x03, .octets, .ro, .operator, false, .none, .any, .atOnce⟩,
  ⟨0x8010, 1, 1, 0x04, 0x04, .u32, .rc, .operator, false, .num 0, .any, .anyMode⟩,
  ⟨0x8020, 1, 16, 0x01, 0x01, .u32, .rs, .integrator, true, .num 4294967295, .nat 1 4294967295, .commit⟩,
  ⟨0x8020, 1, 16, 0x02, 0x02, .u32, .ro, .operator, false, .num 0, .any, .atOnce⟩,
  ⟨0x8020, 1, 16, 0x03, 0x03, .u32, .ro, .operator, false, .num 0, .any, .atOnce⟩,
  ⟨0x8100, 1, 296, 0x01, 0x01, .u16, .rs, .integrator, true, .num 0, .special, .commit⟩,
  ⟨0x8100, 1, 296, 0x02, 0x02, .octets, .rs, .integrator, true, .empty, .len 0 16 2, .commit⟩,
  ⟨0x8100, 1, 296, 0x03, 0x03, .u16, .rs, .integrator, true, .num 0, .special, .commit⟩,
  ⟨0x8100, 1, 296, 0x04, 0x04, .u16, .rs, .integrator, true, .num 128, .nat 1 1024, .commit⟩,
  ⟨0x8100, 1, 296, 0x05, 0x05, .bool, .rs, .operator, true, .num 0, .any, .commit⟩,
  ⟨0x8100, 1, 296, 0x06, 0x06, .u8, .ro, .operator, false, .special, .any, .endOfBoot⟩,
  ⟨0x8100, 1, 296, 0x07, 0x07, .u8, .ro, .operator, false, .special, .any, .endOfBoot⟩,
  ⟨0x8100, 1, 296, 0x08, 0x08, .u32, .rc, .operator, false, .num 0, .any, .anyMode⟩]

/-- The object tables of spec file 16, part 1: :09 GATED (R454); :0A STORM_DROPS (R454); :0B FLAGS (R454); :0C DEST_MODULE (R454). -/
def Catalog.rows16_1 : List ObjRow := [
  ⟨0x8100, 1, 296, 0x09, 0x09, .u32, .rc, .operator, false, .num 0, .any, .anyMode⟩,
  ⟨0x8100, 1, 296, 0x0A, 0x0A, .u32, .rc, .operator, false, .num 0, .any, .anyMode⟩,
  ⟨0x8100, 1, 296, 0x0B, 0x0B, .u8, .rc, .operator, false, .num 0, .mask 0xFF, .anyMode⟩,
  ⟨0x8220, 1, 8, 0x0C, 0x0C, .u8, .rs, .integrator, true, .num 255, .alt 0 3 255, .commit⟩]

/-- The object tables of spec file 17, part 0: N+0x00:01 ENABLE (R470); N+0x00:02 SPEED (R470); N+0x00:03 FEC (R470); N+0x00:04 MAC (R470); N+0x00:05 IPV4_ADDR (R470); N+0x00:06 NETMASK (R470); N+0x00:07 GATEWAY (R470); N+0x00:08 HSP_SRC_PORT (R470); N+0x00:09 PHY_DELAY_TX (R470); N+0x00:0A PHY_DELAY_RX (R470); N+0x01:01 LINK (R470); N+0x01:02 FRAMES_RX (R470); N+0x01:03 FRAMES_TX (R470); N+0x01:04 RX_DROPPED (R470); N+0x01:05 TX_DROPPED (R470); N+0x01:06 PTP_STATE (R470); N+0x01:07 PATH_DELAY (R470); N+0x01:08 IGNORED (R470); H:01 DEST_IP (R471); H:01 DEST_IP (R471). -/
def Catalog.rows17_0 : List ObjRow := [
  ⟨0x9010, 16, 2, 0x01, 0x01, .bool, .rs, .integrator, true, .special, .any, .commit⟩,
  ⟨0x9010, 16, 2, 0x02, 0x02, .u8, .rs, .integrator, true, .num 1, .nat 0 1, .commit⟩,
  ⟨0x9010, 16, 2, 0x03, 0x03, .u8, .rs, .integrator, true, .num 0, .nat 0 2, .commit⟩,
  ⟨0x9010, 16, 2, 0x04, 0x04, .u64, .ro, .operator, false, .special, .any, .endOfBoot⟩,
  ⟨0x9010, 16, 2, 0x05, 0x05, .u32, .rs, .integrator, true, .special, .special, .commit⟩,
  ⟨0x9010, 16, 2, 0x06, 0x06, .u32, .rs, .integrator, true, .num 4294967040, .special, .commit⟩,
  ⟨0x9010, 16, 2, 0x07, 0x07, .u32, .rs, .integrator, true, .num 0, .special, .commit⟩,
  ⟨0x9010, 16, 2, 0x08, 0x08, .u16, .rs, .integrator, true, .num 41400, .nat 1024 65535, .commit⟩,
  ⟨0x9010, 16, 2, 0x09, 0x09, .u16, .rs, .integrator, true, .num 0, .nat 0 10000, .commit⟩,
  ⟨0x9010, 16, 2, 0x0A, 0x0A, .u16, .rs, .integrator, true, .num 0, .nat 0 10000, .commit⟩,
  ⟨0x9011, 16, 2, 0x01, 0x01, .u8, .ro, .operator, false, .num 0, .any, .atOnce⟩,
  ⟨0x9011, 16, 2, 0x02, 0x02, .u32, .rc, .operator, false, .num 0, .any, .anyMode⟩,
  ⟨0x9011, 16, 2, 0x03, 0x03, .u32, .rc, .operator, false, .num 0, .any, .anyMode⟩,
  ⟨0x9011, 16, 2, 0x04, 0x04, .u32, .rc, .operator, false, .num 0, .any, .anyMode⟩,
  ⟨0x9011, 16, 2, 0x05, 0x05, .u32, .rc, .operator, false, .num 0, .any, .anyMode⟩,
  ⟨0x9011, 16, 2, 0x06, 0x06, .u8, .ro, .operator, false, .num 3, .any, .atOnce⟩,
  ⟨0x9011, 16, 2, 0x07, 0x07, .i32, .ro, .operator, false, .num 0, .any, .atOnce⟩,
  ⟨0x9011, 16, 2, 0x08, 0x08, .u32, .rc, .operator, false, .num 0, .any, .anyMode⟩,
  ⟨0x9040, 1, 8, 0x01, 0x01, .u32, .rs, .integrator, true, .num 0, .special, .commit⟩,
  ⟨0x9050, 1, 32, 0x01, 0x01, .u32, .rs, .integrator, true, .num 0, .special, .commit⟩]

/-- The object tables of spec file 17, part 1: H:02 DEST_PORT (R471); H:02 DEST_PORT (R471); H:03 DATAGRAMS (R471); H:03 DATAGRAMS (R471); 0x9080:01 CLOCK_TYPE (R472); 0x9080:02 PTP_PORT (R472); 0x9080:03 PROFILE (R472); 0x9080:04 TRANSPORT (R472); 0x9080:05 TWO_STEP (R472); 0x9080:06 DOMAIN (R472); 0x9080:07 SLAVE_ONLY (R472); 0x9080:08 PRIORITY1 (R472); 0x9080:09 PRIORITY2 (R472); 0x9080:0A LOG_ANNOUNCE (R472); 0x9080:0B LOG_SYNC (R472); 0x9080:0C LOG_MIN_DELAY_REQ (R472); 0x9080:0D ANNOUNCE_TIMEOUT (R472); 0x9080:0E GM_IDENTITY (R472); 0x9080:0F UTC_OFFSET (R472); 0x9100:01 SHORT_NOW (R473). -/
def Catalog.rows17_1 : List ObjRow := [
  ⟨0x9040, 1, 8, 0x02, 0x02, .u16, .rs, .integrator, true, .num 41500, .nat 1024 65535, .commit⟩,
  ⟨0x9050, 1, 32, 0x02, 0x02, .u16, .rs, .integrator, true, .num 41500, .nat 1024 65535, .commit⟩,
  ⟨0x9040, 1, 8, 0x03, 0x03, .u32, .rc, .operator, false, .num 0, .any, .anyMode⟩,
  ⟨0x9050, 1, 32, 0x03, 0x03, .u32, .rc, .operator, false, .num 0, .any, .anyMode⟩,
  ⟨0x9080, 1, 1, 0x01, 0x01, .u8, .rs, .integrator, true, .num 1, .nat 0 2, .commit⟩,
  ⟨0x9080, 1, 1, 0x02, 0x02, .u8, .rs, .integrator, true, .num 0, .nat 0 1, .commit⟩,
  ⟨0x9080, 1, 1, 0x03, 0x03, .u8, .rs, .integrator, true, .num 0, .nat 0 1, .commit⟩,
  ⟨0x9080, 1, 1, 0x04, 0x04, .u8, .rs, .integrator, true, .num 0, .nat 0 1, .commit⟩,
  ⟨0x9080, 1, 1, 0x05, 0x05, .bool, .rs, .integrator, true, .num 1, .any, .commit⟩,
  ⟨0x9080, 1, 1, 0x06, 0x06, .u8, .rs, .integrator, true, .num 0, .nat 0 127, .commit⟩,
  ⟨0x9080, 1, 1, 0x07, 0x07, .bool, .rs, .integrator, true, .num 1, .any, .commit⟩,
  ⟨0x9080, 1, 1, 0x08, 0x08, .u8, .rs, .integrator, true, .num 128, .nat 0 255, .commit⟩,
  ⟨0x9080, 1, 1, 0x09, 0x09, .u8, .rs, .integrator, true, .num 128, .nat 0 255, .commit⟩,
  ⟨0x9080, 1, 1, 0x0A, 0x0A, .i16, .rs, .integrator, true, .num 1, .int (0) 4, .commit⟩,
  ⟨0x9080, 1, 1, 0x0B, 0x0B, .i16, .rs, .integrator, true, .num 0, .int (-1) 1, .commit⟩,
  ⟨0x9080, 1, 1, 0x0C, 0x0C, .i16, .rs, .integrator, true, .num 0, .int (0) 5, .commit⟩,
  ⟨0x9080, 1, 1, 0x0D, 0x0D, .u8, .rs, .integrator, true, .num 3, .nat 2 10, .commit⟩,
  ⟨0x9080, 1, 1, 0x0E, 0x0E, .u64, .ro, .operator, false, .num 0, .any, .atOnce⟩,
  ⟨0x9080, 1, 1, 0x0F, 0x0F, .i16, .ro, .operator, false, .num 0, .any, .atOnce⟩,
  ⟨0x9100, 1, 1, 0x01, 0x01, .stime, .ro, .operator, false, .none, .any, .atOnce⟩]

/-- The object tables of spec file 17, part 2: 0x9100:02 FULL_NOW (R473); 0x9100:03 TIME_STATE (R473); 0x9100:04 OFFSET (R473); 0x9100:05 FREQ (R473); 0x9100:06 KP (R473); 0x9100:07 KI (R473); 0x9100:08 LOCK_THRESHOLD (R473); 0x9100:09 JUMP_THRESHOLD (R473); 0x9100:0A INITIAL_STEP (R473); 0x9100:0B STEP (R473); 0x9100:0C STEP_NEEDED (R473); 0x9100:0D LAST_REFUSED (R473); 0x9100:0E STEPS_REFUSED (R473); 0x9100:0F STEPS_APPLIED (R473); 0x9100:10 GM_CHANGES (R473); 0x9100:11 FLAGS (R473). -/
def Catalog.rows17_2 : List ObjRow := [
  ⟨0x9100, 1, 1, 0x02, 0x02, .ftime, .ro, .operator, false, .none, .any, .atOnce⟩,
  ⟨0x9100, 1, 1, 0x03, 0x03, .u8, .ro, .operator, false, .num 0, .any, .atOnce⟩,
  ⟨0x9100, 1, 1, 0x04, 0x04, .i32, .ro, .operator, false, .num 0, .any, .atOnce⟩,
  ⟨0x9100, 1, 1, 0x05, 0x05, .i32, .ro, .operator, false, .num 0, .any, .atOnce⟩,
  ⟨0x9100, 1, 1, 0x06, 0x06, .u32, .rs, .integrator, true, .num 32768, .nat 0 4294967295, .commit⟩,
  ⟨0x9100, 1, 1, 0x07, 0x07, .u32, .rs, .integrator, true, .num 6554, .nat 0 4294967295, .commit⟩,
  ⟨0x9100, 1, 1, 0x08, 0x08, .u32, .rw, .integrator, true, .num 100, .nat 10 100000, .anyMode⟩,
  ⟨0x9100, 1, 1, 0x09, 0x09, .u32, .rw, .integrator, true, .num 1000, .nat 100 1000000000, .anyMode⟩,
  ⟨0x9100, 1, 1, 0x0A, 0x0A, .bool, .rw, .integrator, true, .num 1, .any, .anyMode⟩,
  ⟨0x9100, 1, 1, 0x0B, 0x0B, .u8, .ex, .integrator, false, .none, .nat 1 1, .anyMode⟩,
  ⟨0x9100, 1, 1, 0x0C, 0x0C, .bool, .ro, .operator, false, .num 0, .any, .atOnce⟩,
  ⟨0x9100, 1, 1, 0x0D, 0x0D, .i64, .ro, .operator, false, .num 0, .any, .atOnce⟩,
  ⟨0x9100, 1, 1, 0x0E, 0x0E, .u32, .rc, .operator, false, .num 0, .any, .anyMode⟩,
  ⟨0x9100, 1, 1, 0x0F, 0x0F, .u32, .rc, .operator, false, .num 0, .any, .anyMode⟩,
  ⟨0x9100, 1, 1, 0x10, 0x10, .u32, .rc, .operator, false, .num 0, .any, .anyMode⟩,
  ⟨0x9100, 1, 1, 0x11, 0x11, .u8, .rc, .operator, false, .num 0, .mask 0xFF, .anyMode⟩]

/-- The object tables of spec file 18, part 0: 0x1200:01 POWER_STATE (R498); 0x1200:02 LATENCY_TOLERANCE (R498); 0x1200:03 IDLE_TIMER (R498); 0x1200:04 DEEP_WAKE (R498); 0x1200:05 STANDBY_WAKE (R498); 0x1200:06 LAST_WAKE (R498); 0x1200:07 DOZE_ENTRIES (R498); 0x1200:08 DEEP_ENTRIES (R498); 0x1200:09 STEPDOWN_DEFERRED (R498); 0x1210:01 BAND (R499); 0x1210:02 BAND_W (R499); 0x1210:03 BAND_E (R499); 0x1210:04 HK_PERIOD (R499); 0x1210:05 READINGS (R499); 0x1210:06 MAX_TEMP (R499); 0x1210:07 PEAK_TEMP (R499); 0x1210:08 BAND_CHANGES (R499); 0x1210:09 SENSORS_INVALID (R499); 0x1210:0A TRIPS (R499); 0x1220:01 PIN (R500). -/
def Catalog.rows18_0 : List ObjRow := [
  ⟨0x1200, 1, 1, 0x01, 0x01, .u8, .ro, .operator, false, .num 0, .any, .atOnce⟩,
  ⟨0x1200, 1, 1, 0x02, 0x02, .u32, .rw, .operator, true, .num 0, .nat 0 4294967295, .anyMode⟩,
  ⟨0x1200, 1, 1, 0x03, 0x03, .u32, .rw, .integrator, true, .num 100, .nat 1 60000, .anyMode⟩,
  ⟨0x1200, 1, 1, 0x04, 0x04, .u8, .rw, .integrator, true, .num 15, .mask 0x0F, .anyMode⟩,
  ⟨0x1200, 1, 1, 0x05, 0x05, .u8, .rw, .integrator, true, .num 1, .special, .anyMode⟩,
  ⟨0x1200, 1, 1, 0x06, 0x06, .u8, .ro, .operator, false, .num 0, .any, .atOnce⟩,
  ⟨0x1200, 1, 1, 0x07, 0x07, .u32, .rc, .operator, false, .num 0, .any, .anyMode⟩,
  ⟨0x1200, 1, 1, 0x08, 0x08, .u32, .rc, .operator, false, .num 0, .any, .anyMode⟩,
  ⟨0x1200, 1, 1, 0x09, 0x09, .u32, .rc, .operator, false, .num 0, .any, .anyMode⟩,
  ⟨0x1210, 1, 1, 0x01, 0x01, .u8, .ro, .operator, false, .num 1, .any, .atOnce⟩,
  ⟨0x1210, 1, 1, 0x02, 0x02, .u8, .ro, .operator, false, .num 1, .any, .atOnce⟩,
  ⟨0x1210, 1, 1, 0x03, 0x03, .u8, .ro, .operator, false, .num 1, .any, .atOnce⟩,
  ⟨0x1210, 1, 1, 0x04, 0x04, .u8, .rw, .integrator, true, .num 10, .nat 1 100, .anyMode⟩,
  ⟨0x1210, 1, 1, 0x05, 0x05, .octets, .ro, .operator, false, .special, .any, .atOnce⟩,
  ⟨0x1210, 1, 1, 0x06, 0x06, .i16, .ro, .operator, false, .num 0, .any, .atOnce⟩,
  ⟨0x1210, 1, 1, 0x07, 0x07, .i16, .rc, .operator, true, .num 0, .any, .anyMode⟩,
  ⟨0x1210, 1, 1, 0x08, 0x08, .u32, .rc, .operator, false, .num 0, .any, .anyMode⟩,
  ⟨0x1210, 1, 1, 0x09, 0x09, .u32, .ro, .operator, false, .num 0, .any, .atOnce⟩,
  ⟨0x1210, 1, 1, 0x0A, 0x0A, .u32, .rc, .operator, true, .num 0, .any, .anyMode⟩,
  ⟨0x1220, 1, 1, 0x01, 0x01, .u32, .ro, .operator, false, .num 0, .any, .atOnce⟩]

/-- The object tables of spec file 18, part 1: 0x1220:02 POWER_ALERT (R500); 0x1220:03 BROWNOUTS (R500); 0x1220:04 RAIL_FAULTS (R500); 0x1220:05 FLAGS (R500). -/
def Catalog.rows18_1 : List ObjRow := [
  ⟨0x1220, 1, 1, 0x02, 0x02, .u8, .rw, .integrator, true, .num 140, .nat 50 150, .anyMode⟩,
  ⟨0x1220, 1, 1, 0x03, 0x03, .u32, .rc, .operator, true, .num 0, .any, .anyMode⟩,
  ⟨0x1220, 1, 1, 0x04, 0x04, .u32, .rc, .operator, true, .num 0, .any, .anyMode⟩,
  ⟨0x1220, 1, 1, 0x05, 0x05, .u8, .rc, .operator, false, .num 0, .mask 0xFF, .anyMode⟩]

/-- The object tables of spec file 19, part 0: 0x1300:01 HEALTH (R513); 0x1300:02 RETIRED_REGIONS (R513); 0x1300:03 RETIREMENTS (R513); 0x1300:04 UPSETS (R513); 0x1300:05 BRIDGE_EJECT_OVERFLOW (R513); 0x1300:06 CLEAR_RETIREMENTS (R513); 0x1300:07 DMA_RETIRED (R513); 0x1300:08 EVENT_RETIRED (R513); 0x1310:01 ALERTS (R513); 0x1310:02 ALERT_MASK (R513); 0x1311:01 to :13 ALERT_COUNT_0 to ALERT_COUNT_18 (R513); 0x1320:01 LOG_HEAD (R513); 0x1320:02 LOG_OLDEST (R513); 0x1320:03 LOG_CURSOR (R513); 0x1320:04 LOG_ENTRIES (R513); 0x1320:05 SUPPRESSED (R513); 0x1320:06 LOG_TORN (R513); :01 STATE (R514); :02 RESETS (R514); :03 TABLE_CORRECTED (R514). -/
def Catalog.rows19_0 : List ObjRow := [
  ⟨0x1300, 1, 1, 0x01, 0x01, .u8, .ro, .operator, false, .num 0, .any, .atOnce⟩,
  ⟨0x1300, 1, 1, 0x02, 0x02, .u8, .ro, .operator, false, .num 0, .any, .atOnce⟩,
  ⟨0x1300, 1, 1, 0x03, 0x03, .u32, .rc, .operator, true, .num 0, .any, .anyMode⟩,
  ⟨0x1300, 1, 1, 0x04, 0x04, .u32, .rc, .operator, false, .num 0, .any, .anyMode⟩,
  ⟨0x1300, 1, 1, 0x05, 0x05, .u32, .rc, .operator, false, .num 0, .any, .anyMode⟩,
  ⟨0x1300, 1, 1, 0x06, 0x06, .u8, .ex, .integrator, false, .none, .nat 1 1, .atOnce⟩,
  ⟨0x1300, 1, 1, 0x07, 0x07, .u32, .ro, .operator, true, .num 0, .any, .atOnce⟩,
  ⟨0x1300, 1, 1, 0x08, 0x08, .octets, .ro, .operator, true, .zeros 37, .any, .atOnce⟩,
  ⟨0x1310, 1, 1, 0x01, 0x01, .u32, .rc, .operator, false, .num 0, .mask 0xFFFFFFFF, .anyMode⟩,
  ⟨0x1310, 1, 1, 0x02, 0x02, .u32, .rw, .integrator, true, .num 524287, .mask 0x7FFFF, .anyMode⟩,
  ⟨0x1311, 1, 1, 0x01, 0x13, .u32, .rc, .operator, false, .num 0, .any, .anyMode⟩,
  ⟨0x1320, 1, 1, 0x01, 0x01, .u32, .ro, .operator, true, .num 0, .any, .atOnce⟩,
  ⟨0x1320, 1, 1, 0x02, 0x02, .u32, .ro, .operator, false, .num 0, .any, .atOnce⟩,
  ⟨0x1320, 1, 1, 0x03, 0x03, .u32, .rw, .operator, false, .num 0, .special, .anyMode⟩,
  ⟨0x1320, 1, 1, 0x04, 0x04, .octets, .ro, .operator, false, .none, .any, .atOnce⟩,
  ⟨0x1320, 1, 1, 0x05, 0x05, .u32, .rc, .operator, false, .num 0, .any, .anyMode⟩,
  ⟨0x1320, 1, 1, 0x06, 0x06, .u32, .rc, .operator, true, .num 0, .any, .anyMode⟩,
  ⟨0x1340, 1, 12, 0x01, 0x01, .u8, .ro, .operator, false, .num 0, .any, .atOnce⟩,
  ⟨0x1340, 1, 12, 0x02, 0x02, .u32, .rc, .operator, false, .num 0, .any, .anyMode⟩,
  ⟨0x1340, 1, 12, 0x03, 0x03, .u32, .rc, .operator, false, .num 0, .any, .anyMode⟩]

/-- The object tables of spec file 19, part 1: :04 TABLE_UNCORRECTABLE (R514); :05 BANK_FAILS (R514); :06 RETIRE_CAUSE (R514). -/
def Catalog.rows19_1 : List ObjRow := [
  ⟨0x1340, 1, 12, 0x04, 0x04, .u32, .rc, .operator, false, .num 0, .any, .anyMode⟩,
  ⟨0x1340, 1, 12, 0x05, 0x05, .u32, .rc, .operator, false, .num 0, .any, .anyMode⟩,
  ⟨0x1340, 1, 12, 0x06, 0x06, .u8, .ro, .operator, true, .num 0, .any, .atOnce⟩]

/-- The object tables of spec file 20, part 0: 0xA000:01 KEY_STATE (R538); 0xA000:02 KEY_ENABLE (R538); 0xA000:03 DEBOUNCE (R538); 0xA000:04 LONG_PRESS (R538); 0xA000:05 LONG_FLAGS (R538); 0xA001:01 to :08 PRESSES_0 to PRESSES_7 (R538); 0xA002:01 to :08 LONG_COUNT_0 to LONG_COUNT_7 (R538); 0xA010:01 TOUCH_STATE (R538); 0xA010:02 TOUCH_ENABLE (R538); 0xA010:03 SCAN_PERIOD (R538); 0xA010:04 BASE_SHIFT (R538); 0xA010:05 TOUCH_MAX (R538); 0xA010:06 WATER_CHANNELS (R538); 0xA010:07 FLAGS (R538); 0xA010:08 WATER_EVENTS (R538); 0xA040:01 PIN_STATE (R538); 0xA040:02 SAFE_COUNT (R538); 0xA040:03 SAFE_TIME (R538); 0xA041:01 PWR_STAGGER (R538); 0xA041:02 PWR_RETRY (R538). -/
def Catalog.rows20_0 : List ObjRow := [
  ⟨0xA000, 1, 1, 0x01, 0x01, .u8, .ro, .operator, false, .num 0, .any, .atOnce⟩,
  ⟨0xA000, 1, 1, 0x02, 0x02, .u8, .rw, .integrator, true, .num 255, .any, .anyMode⟩,
  ⟨0xA000, 1, 1, 0x03, 0x03, .u8, .rw, .integrator, true, .num 20, .nat 2 255, .anyMode⟩,
  ⟨0xA000, 1, 1, 0x04, 0x04, .u16, .rw, .integrator, true, .num 2000, .nat 100 10000, .anyMode⟩,
  ⟨0xA000, 1, 1, 0x05, 0x05, .u8, .rc, .operator, false, .num 0, .mask 0xFF, .anyMode⟩,
  ⟨0xA001, 1, 1, 0x01, 0x08, .u32, .rc, .operator, false, .num 0, .any, .anyMode⟩,
  ⟨0xA002, 1, 1, 0x01, 0x08, .u32, .rc, .operator, false, .num 0, .any, .anyMode⟩,
  ⟨0xA010, 1, 1, 0x01, 0x01, .u8, .ro, .operator, false, .num 0, .any, .atOnce⟩,
  ⟨0xA010, 1, 1, 0x02, 0x02, .u8, .rw, .integrator, true, .num 0, .mask 0x0F, .anyMode⟩,
  ⟨0xA010, 1, 1, 0x03, 0x03, .u8, .rw, .integrator, true, .num 5, .nat 1 50, .anyMode⟩,
  ⟨0xA010, 1, 1, 0x04, 0x04, .u8, .rw, .integrator, true, .num 6, .nat 2 12, .anyMode⟩,
  ⟨0xA010, 1, 1, 0x05, 0x05, .u16, .rw, .integrator, true, .num 30, .nat 1 600, .anyMode⟩,
  ⟨0xA010, 1, 1, 0x06, 0x06, .u8, .rw, .integrator, true, .num 3, .nat 2 4, .anyMode⟩,
  ⟨0xA010, 1, 1, 0x07, 0x07, .u8, .rc, .operator, false, .num 0, .mask 0xFF, .anyMode⟩,
  ⟨0xA010, 1, 1, 0x08, 0x08, .u32, .rc, .operator, false, .num 0, .any, .anyMode⟩,
  ⟨0xA040, 1, 1, 0x01, 0x01, .u16, .ro, .operator, false, .num 0, .any, .atOnce⟩,
  ⟨0xA040, 1, 1, 0x02, 0x02, .u32, .rc, .operator, false, .num 0, .any, .anyMode⟩,
  ⟨0xA040, 1, 1, 0x03, 0x03, .stime, .ro, .operator, false, .num 0, .any, .atOnce⟩,
  ⟨0xA041, 1, 1, 0x01, 0x01, .u16, .rw, .integrator, true, .num 20, .nat 0 1000, .anyMode⟩,
  ⟨0xA041, 1, 1, 0x02, 0x02, .u16, .rw, .integrator, true, .num 1000, .nat 100 60000, .anyMode⟩]

/-- The object tables of spec file 20, part 1: 0xA041:03 PWR_RETRIES (R538); touch :01 RAW (R539); touch :02 BASELINE (R539); touch :03 DELTA (R539); touch :04 THRESHOLD (R539); touch :05 TOUCHES (R539); touch :06 STUCK_COUNT (R539); lamp :01 MODE (R539); lamp :02 SOURCE (R539); camera :01 PWR_ENABLE (R539); camera :02 PWR_STATE (R539); camera :03 FAULTS (R539); camera :04 PWR_RESET (R539). -/
def Catalog.rows20_1 : List ObjRow := [
  ⟨0xA041, 1, 1, 0x03, 0x03, .u8, .rw, .integrator, true, .num 3, .nat 0 10, .anyMode⟩,
  ⟨0xA011, 1, 4, 0x01, 0x01, .u16, .ro, .operator, false, .num 0, .any, .atOnce⟩,
  ⟨0xA011, 1, 4, 0x02, 0x02, .u16, .ro, .operator, false, .num 0, .any, .atOnce⟩,
  ⟨0xA011, 1, 4, 0x03, 0x03, .i16, .ro, .operator, false, .num 0, .any, .atOnce⟩,
  ⟨0xA011, 1, 4, 0x04, 0x04, .u16, .rw, .integrator, true, .num 200, .nat 10 10000, .anyMode⟩,
  ⟨0xA011, 1, 4, 0x05, 0x05, .u32, .rc, .operator, false, .num 0, .any, .anyMode⟩,
  ⟨0xA011, 1, 4, 0x06, 0x06, .u32, .rc, .operator, false, .num 0, .any, .anyMode⟩,
  ⟨0xA020, 1, 4, 0x01, 0x01, .u8, .rw, .operator, true, .num 0, .nat 0 4, .anyMode⟩,
  ⟨0xA020, 1, 4, 0x02, 0x02, .u8, .rw, .operator, true, .num 0, .nat 0 4, .anyMode⟩,
  ⟨0xA030, 1, 12, 0x01, 0x01, .bool, .rw, .integrator, true, .num 1, .any, .anyMode⟩,
  ⟨0xA030, 1, 12, 0x02, 0x02, .u8, .ro, .operator, false, .num 0, .any, .atOnce⟩,
  ⟨0xA030, 1, 12, 0x03, 0x03, .u32, .rc, .operator, false, .num 0, .any, .anyMode⟩,
  ⟨0xA030, 1, 12, 0x04, 0x04, .u8, .ex, .integrator, false, .none, .nat 1 1, .anyMode⟩]

/-- The object tables of spec file 21, part 0: 0x1180:01 FW_IMAGE (R547); 0x1180:02 PREFERRED (R547); 0x1180:03 IMAGE_STATE (R547); 0x1180:04 IMAGE_VERSION_A (R547); 0x1180:05 IMAGE_VERSION_B (R547). -/
def Catalog.rows21_0 : List ObjRow := [
  ⟨0x1180, 1, 1, 0x01, 0x01, .blob, .wo, .integrator, false, .none, .len 1024 16777216 1, .atOnce⟩,
  ⟨0x1180, 1, 1, 0x02, 0x02, .u8, .rw, .integrator, true, .num 0, .nat 0 1, .atOnce⟩,
  ⟨0x1180, 1, 1, 0x03, 0x03, .u8, .ro, .operator, false, .none, .any, .atOnce⟩,
  ⟨0x1180, 1, 1, 0x04, 0x04, .u32, .ro, .operator, false, .num 0, .any, .atOnce⟩,
  ⟨0x1180, 1, 1, 0x05, 0x05, .u32, .ro, .operator, false, .num 0, .any, .atOnce⟩]

/-- Every object table of the manual, in chapter order (R47). -/
def Catalog.rows : List ObjRow :=
  Catalog.rows00_0 ++
  Catalog.rows02_0 ++
  Catalog.rows02_1 ++
  Catalog.rows03_0 ++
  Catalog.rows03_1 ++
  Catalog.rows04_0 ++
  Catalog.rows04_1 ++
  Catalog.rows04_2 ++
  Catalog.rows04_3 ++
  Catalog.rows05_0 ++
  Catalog.rows05_1 ++
  Catalog.rows06_0 ++
  Catalog.rows06_1 ++
  Catalog.rows07_0 ++
  Catalog.rows08_0 ++
  Catalog.rows08_1 ++
  Catalog.rows08_2 ++
  Catalog.rows09_0 ++
  Catalog.rows09_1 ++
  Catalog.rows10_0 ++
  Catalog.rows11_0 ++
  Catalog.rows11_1 ++
  Catalog.rows11_2 ++
  Catalog.rows12_0 ++
  Catalog.rows12_1 ++
  Catalog.rows12_2 ++
  Catalog.rows13_0 ++
  Catalog.rows13_1 ++
  Catalog.rows14_0 ++
  Catalog.rows14_1 ++
  Catalog.rows15_0 ++
  Catalog.rows15_1 ++
  Catalog.rows16_0 ++
  Catalog.rows16_1 ++
  Catalog.rows17_0 ++
  Catalog.rows17_1 ++
  Catalog.rows17_2 ++
  Catalog.rows18_0 ++
  Catalog.rows18_1 ++
  Catalog.rows19_0 ++
  Catalog.rows19_1 ++
  Catalog.rows20_0 ++
  Catalog.rows20_1 ++
  Catalog.rows21_0

/-- Whether a row holds an index. -/
def ObjRow.hasIndex (r : ObjRow) (index : Nat) : Bool :=
  decide (r.base ≤ index) && decide ((index - r.base) % r.stride = 0) && decide ((index - r.base) / r.stride < r.count)

/-- Whether a row holds an object. -/
def ObjRow.covers (r : ObjRow) (index sub : Nat) : Bool :=
  r.hasIndex index && decide (r.lo ≤ sub) && decide (sub ≤ r.hi)

/-- The row of an object. -/
def Catalog.find (index sub : Nat) : Option ObjRow := Catalog.rows.find? (fun r => r.covers index sub)

/-- Whether an index is defined on any variant (R49). -/
def Catalog.hasIndex (index : Nat) : Bool := Catalog.rows.any (fun r => r.hasIndex index)

/-- The highest subindex in use under an index (R38). -/
def Catalog.highest (index : Nat) : Nat :=
  (Catalog.rows.filter (fun r => r.hasIndex index)).foldl (fun m r => max m r.hi) 0

/-- Whether an index has more than one subindex, so that subindex 0 reports the highest (R38). -/
def Catalog.severalSubs (index : Nat) : Bool :=
  decide (1 < (Catalog.rows.filter (fun r => r.hasIndex index)).foldl (fun m r => m + (r.hi - r.lo + 1)) 0)

/-- The subindex at which a request finds an object: an index with a single value answers for it at 0x00 too (R38), where the tables list
it at another one (log entry 58). -/
def Catalog.subOf (index sub : Nat) : Nat :=
  if sub = 0 then
    (match Catalog.rows.filter (fun r => r.hasIndex index) with
      | [r] => if r.lo = r.hi then r.lo else 0
      | _ => 0)
  else sub

/-- The row of an object by key. -/
def Catalog.row (key : Nat) : Option ObjRow := Catalog.find (key / 256) (key % 256)

end Sys2Proof.Machine
end

