-- ==== Sys2Proof/Machine/Objects.lean ====
section
/-! DEFINITION. The keys of the dictionary's objects, one name per object of the manual's object tables
(index and subindex in one number), so that the meanings name an object and never write its address. -/

namespace Sys2Proof.Machine

/-- One number for an object: index and subindex (R7, R38). -/
abbrev objKey (index sub : Nat) : Nat := index * 256 + sub

/-- 0x2380:01 RESULT (R118). -/
abbrev Obj.eyeResult : Nat := objKey 0x2380 0x01

/-- 0x2380:02 ACK (R118). -/
abbrev Obj.eyeAck : Nat := objKey 0x2380 0x02

/-- 0x1010:01 PRESENCE (R3). -/
abbrev Obj.mapPresence : Nat := objKey 0x1010 0x01

/-- 0x1000:01 VENDOR (R79). -/
abbrev Obj.idVendor : Nat := objKey 0x1000 0x01

/-- 0x1000:02 PART (R79). -/
abbrev Obj.idPart : Nat := objKey 0x1000 0x02

/-- 0x1000:03 SERIAL (R79). -/
abbrev Obj.idSerial : Nat := objKey 0x1000 0x03

/-- 0x1000:04 HW_REV (R79). -/
abbrev Obj.idHwRev : Nat := objKey 0x1000 0x04

/-- 0x1000:05 FW_VERSION (R79). -/
abbrev Obj.idFwVersion : Nat := objKey 0x1000 0x05

/-- 0x1000:06 FW_SLOT (R79). -/
abbrev Obj.idFwSlot : Nat := objKey 0x1000 0x06

/-- 0x1000:07 DICT_VERSION (R79). -/
abbrev Obj.idDictVersion : Nat := objKey 0x1000 0x07

/-- 0x1000:08 MODULE_ID (R79). -/
abbrev Obj.idModuleId : Nat := objKey 0x1000 0x08

/-- 0x1010:02 LANES_FITTED (R79). -/
abbrev Obj.mapLanesFitted : Nat := objKey 0x1010 0x02

/-- 0x1010:03 PORTS_FITTED (R79). -/
abbrev Obj.mapPortsFitted : Nat := objKey 0x1010 0x03

/-- 0x1010:04 REGIONS_FITTED (R79). -/
abbrev Obj.mapRegionsFitted : Nat := objKey 0x1010 0x04

/-- 0x1010:05 TILES_FITTED (R79). -/
abbrev Obj.mapTilesFitted : Nat := objKey 0x1010 0x05

/-- 0x1010:06 PCH_FITTED (R79). -/
abbrev Obj.mapPchFitted : Nat := objKey 0x1010 0x06

/-- 0x1010:07 SYSLINK_FITTED (R79). -/
abbrev Obj.mapSyslinkFitted : Nat := objKey 0x1010 0x07

/-- 0x1020:01 LEVEL (R79). -/
abbrev Obj.accLevel : Nat := objKey 0x1020 0x01

/-- 0x1020:02 CHALLENGE (R79). -/
abbrev Obj.accChallenge : Nat := objKey 0x1020 0x02

/-- 0x1020:03 RESPONSE (R79). -/
abbrev Obj.accResponse : Nat := objKey 0x1020 0x03

/-- 0x1020:04 DROP_LEVEL (R79). -/
abbrev Obj.accDropLevel : Nat := objKey 0x1020 0x04

/-- 0x1020:05 INTEGRATOR_CODE (R79). -/
abbrev Obj.accIntegratorCode : Nat := objKey 0x1020 0x05

/-- 0x1020:06 RESTORE_DEFAULTS (R79). -/
abbrev Obj.accRestoreDefaults : Nat := objKey 0x1020 0x06

/-- 0x1030:01 YDP_PORT (R79). -/
abbrev Obj.ydpYdpPort : Nat := objKey 0x1030 0x01

/-- 0x1030:02 IDLE_TIME (R79). -/
abbrev Obj.ydpIdleTime : Nat := objKey 0x1030 0x02

/-- 0x1030:03 SESSIONS_OPEN (R79). -/
abbrev Obj.ydpSessionsOpen : Nat := objKey 0x1030 0x03

/-- 0x1040:01 STATIC_ADDR (R79). -/
abbrev Obj.i3cStaticAddr : Nat := objKey 0x1040 0x01

/-- 0x1040:02 DYNAMIC_ADDR (R79). -/
abbrev Obj.i3cDynamicAddr : Nat := objKey 0x1040 0x02

/-- 0x1040:03 BCR (R79). -/
abbrev Obj.i3cBcr : Nat := objKey 0x1040 0x03

/-- 0x1040:04 DCR (R79). -/
abbrev Obj.i3cDcr : Nat := objKey 0x1040 0x04

/-- 0x1040:05 IBI_ENABLE (R79). -/
abbrev Obj.i3cIbiEnable : Nat := objKey 0x1040 0x05

/-- 0x1050:01 REJECTED_I3C (R79). -/
abbrev Obj.cntRejectedI3c : Nat := objKey 0x1050 0x01

/-- 0x1050:02 REJECTED_YDP (R79). -/
abbrev Obj.cntRejectedYdp : Nat := objKey 0x1050 0x02

/-- 0x1050:03 CACHED_RESPONSES (R79). -/
abbrev Obj.cntCachedResponses : Nat := objKey 0x1050 0x03

/-- 0x1050:04 DATAGRAMS_DROPPED (R79). -/
abbrev Obj.cntDatagramsDropped : Nat := objKey 0x1050 0x04

/-- 0x1050:05 STRAY_WAKES (R79). -/
abbrev Obj.cntStrayWakes : Nat := objKey 0x1050 0x05

/-- 0x1100:01 MODE (R87). -/
abbrev Obj.modeMode : Nat := objKey 0x1100 0x01

/-- 0x1100:02 MODE_REQUEST (R87). -/
abbrev Obj.modeModeRequest : Nat := objKey 0x1100 0x02

/-- 0x1100:03 BOOT_STATUS (R87). -/
abbrev Obj.modeBootStatus : Nat := objKey 0x1100 0x03

/-- 0x1100:04 PREVIOUS_MODE (R87). -/
abbrev Obj.modePreviousMode : Nat := objKey 0x1100 0x04

/-- 0x1100:05 LAST_CAUSE (R87). -/
abbrev Obj.modeLastCause : Nat := objKey 0x1100 0x05

/-- 0x1100:06 MODE_TIME (R87). -/
abbrev Obj.modeModeTime : Nat := objKey 0x1100 0x06

/-- 0x1100:07 HALT_CAUSE (R87). -/
abbrev Obj.modeHaltCause : Nat := objKey 0x1100 0x07

/-- 0x1150:01 PERIOD (R90). -/
abbrev Obj.hbPeriod : Nat := objKey 0x1150 0x01

/-- 0x1150:02 ACTION (R90). -/
abbrev Obj.hbAction : Nat := objKey 0x1150 0x02

/-- 0x1150:03 HEARTBEAT (R90). -/
abbrev Obj.hbHeartbeat : Nat := objKey 0x1150 0x03

/-- 0x1150:04 SOURCES (R90). -/
abbrev Obj.hbSources : Nat := objKey 0x1150 0x04

/-- 0x1150:05 HOST_LOST (R90). -/
abbrev Obj.hbHostLost : Nat := objKey 0x1150 0x05

/-- 0x1150:06 LOSS_COUNT (R90). -/
abbrev Obj.hbLossCount : Nat := objKey 0x1150 0x06

/-- 0x1110:01 STAGING (R94). -/
abbrev Obj.stgStaging : Nat := objKey 0x1110 0x01

/-- 0x1110:02 HOLDER_PATH (R94). -/
abbrev Obj.stgHolderPath : Nat := objKey 0x1110 0x02

/-- 0x1110:03 STAGED_COUNT (R94). -/
abbrev Obj.stgStagedCount : Nat := objKey 0x1110 0x03

/-- 0x1110:04 STAGING_IDLE (R94). -/
abbrev Obj.stgStagingIdle : Nat := objKey 0x1110 0x04

/-- 0x1110:05 HOLDER_SESSION (R94). -/
abbrev Obj.stgHolderSession : Nat := objKey 0x1110 0x05

/-- 0x1120:01 COMMIT (R101). -/
abbrev Obj.cmCommit : Nat := objKey 0x1120 0x01

/-- 0x1120:02 INSTANT_KIND (R101). -/
abbrev Obj.cmInstantKind : Nat := objKey 0x1120 0x02

/-- 0x1120:03 VIEW_MASK (R101). -/
abbrev Obj.cmViewMask : Nat := objKey 0x1120 0x03

/-- 0x1120:04 to :07 TRIGGER_A to TRIGGER_D (R101). -/
abbrev Obj.cmTrigger (j : Nat) : Nat := objKey 0x1120 (0x04 + j)

/-- 0x1120:08 AT_TIME (R101). -/
abbrev Obj.cmAtTime : Nat := objKey 0x1120 0x08

/-- 0x1130:01 RESULT (R101). -/
abbrev Obj.cmResResult : Nat := objKey 0x1130 0x01

/-- 0x1130:02 ACK (R101). -/
abbrev Obj.cmResAck : Nat := objKey 0x1130 0x02

/-- 0x1140:01 LAST_EPOCH (R101). -/
abbrev Obj.epLastEpoch : Nat := objKey 0x1140 0x01

/-- 0x1140:02 IN_FLIGHT (R101). -/
abbrev Obj.epInFlight : Nat := objKey 0x1140 0x02

/-- 0x1140:03 to :06 VIEW_EPOCH_A to VIEW_EPOCH_D (R101). -/
abbrev Obj.epViewEpoch (j : Nat) : Nat := objKey 0x1140 (0x03 + j)

/-- 0x1140:07 to :0A BOUND_A to BOUND_D (R101). -/
abbrev Obj.epBound (j : Nat) : Nat := objKey 0x1140 (0x07 + j)

/-- 0x1160:01 HEAD (R109). -/
abbrev Obj.jrHead : Nat := objKey 0x1160 0x01

/-- 0x1160:02 OLDEST (R109). -/
abbrev Obj.jrOldest : Nat := objKey 0x1160 0x02

/-- 0x1160:03 CURSOR (R109). -/
abbrev Obj.jrCursor : Nat := objKey 0x1160 0x03

/-- 0x1160:04 ENTRIES (R109). -/
abbrev Obj.jrEntries : Nat := objKey 0x1160 0x04

/-- 0x1160:05 MIRROR_HEAD (R109). -/
abbrev Obj.jrMirrorHead : Nat := objKey 0x1160 0x05

/-- 0x1160:06 MIRROR_LAG (R109). -/
abbrev Obj.jrMirrorLag : Nat := objKey 0x1160 0x06

/-- 0x1160:07 MIRROR_PASSES (R109). -/
abbrev Obj.jrMirrorPasses : Nat := objKey 0x1160 0x07

/-- 0x1160:08 DIGEST_START (R109). -/
abbrev Obj.jrDigestStart : Nat := objKey 0x1160 0x08

/-- 0x1160:09 TORN_DISCARDED (R109). -/
abbrev Obj.jrTornDiscarded : Nat := objKey 0x1160 0x09

/-- 0x1170:01 RESULT (R109). -/
abbrev Obj.digResult : Nat := objKey 0x1170 0x01

/-- 0x1170:02 ACK (R109). -/
abbrev Obj.digAck : Nat := objKey 0x1170 0x02

/-- :01 STATE (R117). -/
abbrev Obj.laneState (k : Nat) : Nat := objKey (0x2000 + 16 * k) 0x01

/-- :01 STATE (R117). -/
abbrev Obj.slState (k : Nat) : Nat := objKey (0x2300 + 16 * k) 0x01

/-- :02 HOLD (R117). -/
abbrev Obj.laneHold (k : Nat) : Nat := objKey (0x2000 + 16 * k) 0x02

/-- :02 HOLD (R117). -/
abbrev Obj.slHold (k : Nat) : Nat := objKey (0x2300 + 16 * k) 0x02

/-- :03 RATE (R117). -/
abbrev Obj.laneRate (k : Nat) : Nat := objKey (0x2000 + 16 * k) 0x03

/-- :03 RATE (R117). -/
abbrev Obj.slRate (k : Nat) : Nat := objKey (0x2300 + 16 * k) 0x03

/-- :04 CTLE (R117). -/
abbrev Obj.laneCtle (k : Nat) : Nat := objKey (0x2000 + 16 * k) 0x04

/-- :04 CTLE (R117). -/
abbrev Obj.slCtle (k : Nat) : Nat := objKey (0x2300 + 16 * k) 0x04

/-- :05 DFE_TAPS (R117). -/
abbrev Obj.laneDfeTaps (k : Nat) : Nat := objKey (0x2000 + 16 * k) 0x05

/-- :05 DFE_TAPS (R117). -/
abbrev Obj.slDfeTaps (k : Nat) : Nat := objKey (0x2300 + 16 * k) 0x05

/-- :06 EYE_HEIGHT (R117). -/
abbrev Obj.laneEyeHeight (k : Nat) : Nat := objKey (0x2000 + 16 * k) 0x06

/-- :06 EYE_HEIGHT (R117). -/
abbrev Obj.slEyeHeight (k : Nat) : Nat := objKey (0x2300 + 16 * k) 0x06

/-- :07 EYE_WIDTH (R117). -/
abbrev Obj.laneEyeWidth (k : Nat) : Nat := objKey (0x2000 + 16 * k) 0x07

/-- :07 EYE_WIDTH (R117). -/
abbrev Obj.slEyeWidth (k : Nat) : Nat := objKey (0x2300 + 16 * k) 0x07

/-- :08 EYE_FLOOR (R117). -/
abbrev Obj.laneEyeFloor (k : Nat) : Nat := objKey (0x2000 + 16 * k) 0x08

/-- :08 EYE_FLOOR (R117). -/
abbrev Obj.slEyeFloor (k : Nat) : Nat := objKey (0x2300 + 16 * k) 0x08

/-- :09 REALIGNS (R117). -/
abbrev Obj.laneRealigns (k : Nat) : Nat := objKey (0x2000 + 16 * k) 0x09

/-- :09 REALIGNS (R117). -/
abbrev Obj.slRealigns (k : Nat) : Nat := objKey (0x2300 + 16 * k) 0x09

/-- :0A CRC_ERRORS (R117). -/
abbrev Obj.laneCrcErrors (k : Nat) : Nat := objKey (0x2000 + 16 * k) 0x0A

/-- :0A CRC_ERRORS (R117). -/
abbrev Obj.slCrcErrors (k : Nat) : Nat := objKey (0x2300 + 16 * k) 0x0A

/-- :0B ADAPT_FREEZE (R117). -/
abbrev Obj.laneAdaptFreeze (k : Nat) : Nat := objKey (0x2000 + 16 * k) 0x0B

/-- :0B ADAPT_FREEZE (R117). -/
abbrev Obj.slAdaptFreeze (k : Nat) : Nat := objKey (0x2300 + 16 * k) 0x0B

/-- :0C EYE_SCAN (R117). -/
abbrev Obj.laneEyeScan (k : Nat) : Nat := objKey (0x2000 + 16 * k) 0x0C

/-- :0C EYE_SCAN (R117). -/
abbrev Obj.slEyeScan (k : Nat) : Nat := objKey (0x2300 + 16 * k) 0x0C

/-- :0D RETIRE_CAUSE (R117). -/
abbrev Obj.laneRetireCause (k : Nat) : Nat := objKey (0x2000 + 16 * k) 0x0D

/-- :0D RETIRE_CAUSE (R117). -/
abbrev Obj.slRetireCause (k : Nat) : Nat := objKey (0x2300 + 16 * k) 0x0D

/-- P+0x00:01 LINK_MODE (R122). -/
abbrev Obj.portLinkMode (k : Nat) : Nat := objKey (0x3000 + 64 * k) 0x01

/-- P+0x00:02 LANES (R122). -/
abbrev Obj.portLanes (k : Nat) : Nat := objKey (0x3000 + 64 * k) 0x02

/-- P+0x00:03 RATE (R122). -/
abbrev Obj.portRate (k : Nat) : Nat := objKey (0x3000 + 64 * k) 0x03

/-- P+0x00:04 WIDTH (R122). -/
abbrev Obj.portWidth (k : Nat) : Nat := objKey (0x3000 + 64 * k) 0x04

/-- P+0x00:05 BANDS (R122). -/
abbrev Obj.portBands (k : Nat) : Nat := objKey (0x3000 + 64 * k) 0x05

/-- P+0x00:06 BITS (R122). -/
abbrev Obj.portBits (k : Nat) : Nat := objKey (0x3000 + 64 * k) 0x06

/-- P+0x00:07 DEGRADE_MASK (R122). -/
abbrev Obj.portDegradeMask (k : Nat) : Nat := objKey (0x3000 + 64 * k) 0x07

/-- P+0x00:08 REASM_WINDOW (R122). -/
abbrev Obj.portReasmWindow (k : Nat) : Nat := objKey (0x3000 + 64 * k) 0x08

/-- P+0x00:09 ID_POLICY (R122). -/
abbrev Obj.portIdPolicy (k : Nat) : Nat := objKey (0x3000 + 64 * k) 0x09

/-- P+0x01:01 LINK_STATE (R122). -/
abbrev Obj.portLinkState (k : Nat) : Nat := objKey (0x3001 + 64 * k) 0x01

/-- P+0x01:02 LANES_IN_USE (R122). -/
abbrev Obj.portLanesInUse (k : Nat) : Nat := objKey (0x3001 + 64 * k) 0x02

/-- P+0x01:03 CAMERA_LANE_CAP (R122). -/
abbrev Obj.portCameraLaneCap (k : Nat) : Nat := objKey (0x3001 + 64 * k) 0x03

/-- P+0x01:04 LINES_COMPLETE (R122). -/
abbrev Obj.portLinesComplete (k : Nat) : Nat := objKey (0x3001 + 64 * k) 0x04

/-- P+0x01:05 LINES_HOLED (R122). -/
abbrev Obj.portLinesHoled (k : Nat) : Nat := objKey (0x3001 + 64 * k) 0x05

/-- P+0x01:06 PACKETS_CRC (R122). -/
abbrev Obj.portPacketsCrc (k : Nat) : Nat := objKey (0x3001 + 64 * k) 0x06

/-- P+0x01:07 PACKETS_LOST (R122). -/
abbrev Obj.portPacketsLost (k : Nat) : Nat := objKey (0x3001 + 64 * k) 0x07

/-- P+0x01:08 PACKETS_LATE (R122). -/
abbrev Obj.portPacketsLate (k : Nat) : Nat := objKey (0x3001 + 64 * k) 0x08

/-- P+0x01:09 PACKETS_STRAY (R122). -/
abbrev Obj.portPacketsStray (k : Nat) : Nat := objKey (0x3001 + 64 * k) 0x09

/-- P+0x01:0A TRIG_LATE (R122). -/
abbrev Obj.portTrigLate (k : Nat) : Nat := objKey (0x3001 + 64 * k) 0x0A

/-- P+0x01:0B PLUG_EVENTS (R122). -/
abbrev Obj.portPlugEvents (k : Nat) : Nat := objKey (0x3001 + 64 * k) 0x0B

/-- P+0x01:0C LAST_UNPLUG (R122). -/
abbrev Obj.portLastUnplug (k : Nat) : Nat := objKey (0x3001 + 64 * k) 0x0C

/-- P+0x01:0D FLAGS (R122). -/
abbrev Obj.portFlags (k : Nat) : Nat := objKey (0x3001 + 64 * k) 0x0D

/-- P+0x01:0E CAMERA_TIME (R122). -/
abbrev Obj.portCameraTime (k : Nat) : Nat := objKey (0x3001 + 64 * k) 0x0E

/-- P+0x01:0F TRIG_ACKS (R122). -/
abbrev Obj.portTrigAcks (k : Nat) : Nat := objKey (0x3001 + 64 * k) 0x0F

/-- P+0x02:01 to :03 VENDOR, MODEL, SERIAL (R122). -/
abbrev Obj.portVendor (k : Nat) : Nat := objKey (0x3002 + 64 * k) 0x01

/-- P+0x02:01 to :03 VENDOR, MODEL, SERIAL (R122). -/
abbrev Obj.portModel (k : Nat) : Nat := objKey (0x3002 + 64 * k) 0x02

/-- P+0x02:01 to :03 VENDOR, MODEL, SERIAL (R122). -/
abbrev Obj.portSerial (k : Nat) : Nat := objKey (0x3002 + 64 * k) 0x03

/-- P+0x02:04 PROTOCOL (R122). -/
abbrev Obj.portProtocol (k : Nat) : Nat := objKey (0x3002 + 64 * k) 0x04

/-- P+0x02:05 VERSION (R122). -/
abbrev Obj.portVersion (k : Nat) : Nat := objKey (0x3002 + 64 * k) 0x05

/-- P+0x03:01 to :03 EXP_VENDOR, EXP_MODEL, EXP_SERIAL (R122). -/
abbrev Obj.portExpVendor (k : Nat) : Nat := objKey (0x3003 + 64 * k) 0x01

/-- P+0x03:01 to :03 EXP_VENDOR, EXP_MODEL, EXP_SERIAL (R122). -/
abbrev Obj.portExpModel (k : Nat) : Nat := objKey (0x3003 + 64 * k) 0x02

/-- P+0x03:01 to :03 EXP_VENDOR, EXP_MODEL, EXP_SERIAL (R122). -/
abbrev Obj.portExpSerial (k : Nat) : Nat := objKey (0x3003 + 64 * k) 0x03

/-- P+0x03:04 ADOPT (R122). -/
abbrev Obj.portAdopt (k : Nat) : Nat := objKey (0x3003 + 64 * k) 0x04

/-- P+0x04:01 REG_ADDRESS (R122). -/
abbrev Obj.portRegAddress (k : Nat) : Nat := objKey (0x3004 + 64 * k) 0x01

/-- P+0x04:02 REG_DATA (R122). -/
abbrev Obj.portRegData (k : Nat) : Nat := objKey (0x3004 + 64 * k) 0x02

/-- P+0x04:03 REG_ACCESS (R122). -/
abbrev Obj.portRegAccess (k : Nat) : Nat := objKey (0x3004 + 64 * k) 0x03

/-- P+0x05:01 CAMERA_EVENT (R122). -/
abbrev Obj.portCameraEvent (k : Nat) : Nat := objKey (0x3005 + 64 * k) 0x01

/-- P+0x05:02 ACK (R122). -/
abbrev Obj.portAck (k : Nat) : Nat := objKey (0x3005 + 64 * k) 0x02

/-- :0E PARTNER (R148). -/
abbrev Obj.slPartner (k : Nat) : Nat := objKey (0x2300 + 16 * k) 0x0E

/-- :0F LOST_PACKETS (R148). -/
abbrev Obj.slLostPackets (k : Nat) : Nat := objKey (0x2300 + 16 * k) 0x0F

/-- T+0x00:01 SOURCE (R172). -/
abbrev Obj.trgSource (k : Nat) : Nat := objKey (0x3400 + 16 * k) 0x01

/-- T+0x00:02 MAX_RATE (R172). -/
abbrev Obj.trgMaxRate (k : Nat) : Nat := objKey (0x3400 + 16 * k) 0x02

/-- T+0x00:03 FRAME_LINES (R172). -/
abbrev Obj.trgFrameLines (k : Nat) : Nat := objKey (0x3400 + 16 * k) 0x03

/-- T+0x00:04 EXPOSURE (R172). -/
abbrev Obj.trgExposure (k : Nat) : Nat := objKey (0x3400 + 16 * k) 0x04

/-- T+0x00:05 CXP_LEAD (R172). -/
abbrev Obj.trgCxpLead (k : Nat) : Nat := objKey (0x3400 + 16 * k) 0x05

/-- T+0x00:06 CXP_EXP_ADDR (R172). -/
abbrev Obj.trgCxpExpAddr (k : Nat) : Nat := objKey (0x3400 + 16 * k) 0x06

/-- T+0x00:07 CXP_EXP_UNIT (R172). -/
abbrev Obj.trgCxpExpUnit (k : Nat) : Nat := objKey (0x3400 + 16 * k) 0x07

/-- T+0x01:01 NEXT_INDEX (R172). -/
abbrev Obj.trgNextIndex (k : Nat) : Nat := objKey (0x3401 + 16 * k) 0x01

/-- T+0x01:02 FRAME (R172). -/
abbrev Obj.trgFrame (k : Nat) : Nat := objKey (0x3401 + 16 * k) 0x02

/-- T+0x01:03 LAST_TRIGGER (R172). -/
abbrev Obj.trgLastTrigger (k : Nat) : Nat := objKey (0x3401 + 16 * k) 0x03

/-- T+0x01:04 TRIGGERS_HELD (R172). -/
abbrev Obj.trgTriggersHeld (k : Nat) : Nat := objKey (0x3401 + 16 * k) 0x04

/-- T+0x01:05 TRIGGERS_DROPPED (R172). -/
abbrev Obj.trgTriggersDropped (k : Nat) : Nat := objKey (0x3401 + 16 * k) 0x05

/-- T+0x01:06 FRAMES_SHORT (R172). -/
abbrev Obj.trgFramesShort (k : Nat) : Nat := objKey (0x3401 + 16 * k) 0x06

/-- T+0x01:07 FRAMES_LONG (R172). -/
abbrev Obj.trgFramesLong (k : Nat) : Nat := objKey (0x3401 + 16 * k) 0x07

/-- T+0x01:08 FLAGS (R172). -/
abbrev Obj.trgFlags (k : Nat) : Nat := objKey (0x3401 + 16 * k) 0x08

/-- E+0x00:01 ENABLE (R173). -/
abbrev Obj.encEnable (k : Nat) : Nat := objKey (0x3480 + 16 * k) 0x01

/-- E+0x00:02 FILTER (R173). -/
abbrev Obj.encFilter (k : Nat) : Nat := objKey (0x3480 + 16 * k) 0x02

/-- E+0x00:03 POLARITY (R173). -/
abbrev Obj.encPolarity (k : Nat) : Nat := objKey (0x3480 + 16 * k) 0x03

/-- E+0x00:04 INDEX_MODE (R173). -/
abbrev Obj.encIndexMode (k : Nat) : Nat := objKey (0x3480 + 16 * k) 0x04

/-- E+0x00:05 SPEED_TIMEOUT (R173). -/
abbrev Obj.encSpeedTimeout (k : Nat) : Nat := objKey (0x3480 + 16 * k) 0x05

/-- E+0x00:06 NOMINAL_RATE (R173). -/
abbrev Obj.encNominalRate (k : Nat) : Nat := objKey (0x3480 + 16 * k) 0x06

/-- E+0x01:01 POSITION (R173). -/
abbrev Obj.encPosition (k : Nat) : Nat := objKey (0x3481 + 16 * k) 0x01

/-- E+0x01:02 POS_VALID (R173). -/
abbrev Obj.encPosValid (k : Nat) : Nat := objKey (0x3481 + 16 * k) 0x02

/-- E+0x01:03 SPEED (R173). -/
abbrev Obj.encSpeed (k : Nat) : Nat := objKey (0x3481 + 16 * k) 0x03

/-- E+0x01:04 STATE (R173). -/
abbrev Obj.encState (k : Nat) : Nat := objKey (0x3481 + 16 * k) 0x04

/-- E+0x01:05 INDEX_POS (R173). -/
abbrev Obj.encIndexPos (k : Nat) : Nat := objKey (0x3481 + 16 * k) 0x05

/-- E+0x01:06 INDEX_COUNT (R173). -/
abbrev Obj.encIndexCount (k : Nat) : Nat := objKey (0x3481 + 16 * k) 0x06

/-- E+0x01:07 PHASE_ERRORS (R173). -/
abbrev Obj.encPhaseErrors (k : Nat) : Nat := objKey (0x3481 + 16 * k) 0x07

/-- E+0x01:08 UPSETS (R173). -/
abbrev Obj.encUpsets (k : Nat) : Nat := objKey (0x3481 + 16 * k) 0x08

/-- E+0x01:09 FLAGS (R173). -/
abbrev Obj.encFlags (k : Nat) : Nat := objKey (0x3481 + 16 * k) 0x09

/-- E+0x01:0A POSITION_SET (R173). -/
abbrev Obj.encPositionSet (k : Nat) : Nat := objKey (0x3481 + 16 * k) 0x0A

/-- E+0x02:01 INPUT (R173). -/
abbrev Obj.pgoInput (k : Nat) : Nat := objKey (0x3482 + 16 * k) 0x01

/-- E+0x02:02 N (R173). -/
abbrev Obj.pgoN (k : Nat) : Nat := objKey (0x3482 + 16 * k) 0x02

/-- E+0x02:03 M (R173). -/
abbrev Obj.pgoM (k : Nat) : Nat := objKey (0x3482 + 16 * k) 0x03

/-- E+0x02:04 PULSE_WIDTH (R173). -/
abbrev Obj.pgoPulseWidth (k : Nat) : Nat := objKey (0x3482 + 16 * k) 0x04

/-- E+0x02:05 PIN_ENABLE (R173). -/
abbrev Obj.pgoPinEnable (k : Nat) : Nat := objKey (0x3482 + 16 * k) 0x05

/-- P+0x06:01 CORR_ENABLE (R196). -/
abbrev Obj.portCorrEnable (k : Nat) : Nat := objKey (0x3006 + 64 * k) 0x01

/-- P+0x06:02 PHASE_MAP (R196). -/
abbrev Obj.portPhaseMap (k : Nat) : Nat := objKey (0x3006 + 64 * k) 0x02

/-- P+0x06:03 LIVE_SLOTS (R196). -/
abbrev Obj.portLiveSlots (k : Nat) : Nat := objKey (0x3006 + 64 * k) 0x03

/-- P+0x06:04 BANK_STATE (R196). -/
abbrev Obj.portBankState (k : Nat) : Nat := objKey (0x3006 + 64 * k) 0x04

/-- P+0x07:01 DARK (R196). -/
abbrev Obj.portDark (k : Nat) : Nat := objKey (0x3007 + 64 * k) 0x01

/-- P+0x07:02 DARK_CRC (R196). -/
abbrev Obj.portDarkCrc (k : Nat) : Nat := objKey (0x3007 + 64 * k) 0x02

/-- P+0x08:01 GAIN (R196). -/
abbrev Obj.portGain (k : Nat) : Nat := objKey (0x3008 + 64 * k) 0x01

/-- P+0x08:02 GAIN_CRC (R196). -/
abbrev Obj.portGainCrc (k : Nat) : Nat := objKey (0x3008 + 64 * k) 0x02

/-- P+0x09:01 DEFECTS (R196). -/
abbrev Obj.portDefects (k : Nat) : Nat := objKey (0x3009 + 64 * k) 0x01

/-- P+0x09:02 PATCH_HOLES (R196). -/
abbrev Obj.portPatchHoles (k : Nat) : Nat := objKey (0x3009 + 64 * k) 0x02

/-- P+0x0A:01 STATS_ENABLE (R196). -/
abbrev Obj.portStatsEnable (k : Nat) : Nat := objKey (0x300A + 64 * k) 0x01

/-- P+0x0A:02 CAL_CAPTURE (R196). -/
abbrev Obj.portCalCapture (k : Nat) : Nat := objKey (0x300A + 64 * k) 0x02

/-- P+0x0A:03 FLAT_TARGET (R196). -/
abbrev Obj.portFlatTarget (k : Nat) : Nat := objKey (0x300A + 64 * k) 0x03

/-- P+0x0B:01 STATS (R196). -/
abbrev Obj.portStats (k : Nat) : Nat := objKey (0x300B + 64 * k) 0x01

/-- P+0x0B:02 STATS_ACK (R196). -/
abbrev Obj.portStatsAck (k : Nat) : Nat := objKey (0x300B + 64 * k) 0x02

/-- P+0x0C:01 CAL_RESULT (R196). -/
abbrev Obj.portCalResult (k : Nat) : Nat := objKey (0x300C + 64 * k) 0x01

/-- P+0x0C:02 CAL_ACK (R196). -/
abbrev Obj.portCalAck (k : Nat) : Nat := objKey (0x300C + 64 * k) 0x02

/-- T+0x02:01 PHASES (R197). -/
abbrev Obj.trgPhases (k : Nat) : Nat := objKey (0x3402 + 16 * k) 0x01

/-- T+0x02:02 to :05 LAMP_OUT0 to LAMP_OUT3 (R197). -/
abbrev Obj.trgLampOut (k : Nat) (j : Nat) : Nat := objKey (0x3402 + 16 * k) (0x02 + j)

/-- T+0x02:06 LAMP_MODE (R197). -/
abbrev Obj.trgLampMode (k : Nat) : Nat := objKey (0x3402 + 16 * k) 0x06

/-- T+0x02:07 LAMP_LEAD (R197). -/
abbrev Obj.trgLampLead (k : Nat) : Nat := objKey (0x3402 + 16 * k) 0x07

/-- T+0x02:08 LAMP_TRAIL (R197). -/
abbrev Obj.trgLampTrail (k : Nat) : Nat := objKey (0x3402 + 16 * k) 0x08

/-- T+0x02:09 LAMP_OVERLAPS (R197). -/
abbrev Obj.trgLampOverlaps (k : Nat) : Nat := objKey (0x3402 + 16 * k) 0x09

/-- P+0x0D:01 OUT_WIDTH (R216). -/
abbrev Obj.portOutWidth (k : Nat) : Nat := objKey (0x300D + 64 * k) 0x01

/-- P+0x0D:02 XT_COEFFS (R216). -/
abbrev Obj.portXtCoeffs (k : Nat) : Nat := objKey (0x300D + 64 * k) 0x02

/-- P+0x0D:03 XT_MAP (R216). -/
abbrev Obj.portXtMap (k : Nat) : Nat := objKey (0x300D + 64 * k) 0x03

/-- P+0x0E:01 AT_ENABLE (R216). -/
abbrev Obj.portAtEnable (k : Nat) : Nat := objKey (0x300E + 64 * k) 0x01

/-- P+0x0E:02 AT_COEFFS (R216). -/
abbrev Obj.portAtCoeffs (k : Nat) : Nat := objKey (0x300E + 64 * k) 0x02

/-- P+0x0E:03 AT_DELAY (R216). -/
abbrev Obj.portAtDelay (k : Nat) : Nat := objKey (0x300E + 64 * k) 0x03

/-- P+0x0E:04 AT_SHIFT (R216). -/
abbrev Obj.portAtShift (k : Nat) : Nat := objKey (0x300E + 64 * k) 0x04

/-- P+0x0E:05 AT_CLEARS (R216). -/
abbrev Obj.portAtClears (k : Nat) : Nat := objKey (0x300E + 64 * k) 0x05

/-- P+0x0F:01 LATENCY_MAX (R216). -/
abbrev Obj.portLatencyMax (k : Nat) : Nat := objKey (0x300F + 64 * k) 0x01

/-- P+0x0F:02 LATENCY_LAST (R216). -/
abbrev Obj.portLatencyLast (k : Nat) : Nat := objKey (0x300F + 64 * k) 0x02

/-- S+0x06:01 CIC_ORDER (R217). -/
abbrev Obj.strCicOrder (k : Nat) : Nat := objKey (0x4806 + 32 * k) 0x01

/-- S+0x06:02 CIC_RATIO (R217). -/
abbrev Obj.strCicRatio (k : Nat) : Nat := objKey (0x4806 + 32 * k) 0x02

/-- S+0x06:03 CIC_WARMUP (R217). -/
abbrev Obj.strCicWarmup (k : Nat) : Nat := objKey (0x4806 + 32 * k) 0x03

/-- P+0x10:01 COLOUR_ENABLE (R221). -/
abbrev Obj.portColourEnable (k : Nat) : Nat := objKey (0x3010 + 64 * k) 0x01

/-- P+0x10:02 WB_GAINS (R221). -/
abbrev Obj.portWbGains (k : Nat) : Nat := objKey (0x3010 + 64 * k) 0x02

/-- P+0x10:03 MATRIX (R221). -/
abbrev Obj.portMatrix (k : Nat) : Nat := objKey (0x3010 + 64 * k) 0x03

/-- P+0x11:01 TONE (R221). -/
abbrev Obj.portTone (k : Nat) : Nat := objKey (0x3011 + 64 * k) 0x01

/-- V+0x00:01 FIRST_PORT (R240). -/
abbrev Obj.viewFirstPort (k : Nat) : Nat := objKey (0x4000 + 256 * k) 0x01

/-- V+0x00:02 PORTS (R240). -/
abbrev Obj.viewPorts (k : Nat) : Nat := objKey (0x4000 + 256 * k) 0x02

/-- V+0x00:03 CONTINUES_FROM (R240). -/
abbrev Obj.viewContinuesFrom (k : Nat) : Nat := objKey (0x4000 + 256 * k) 0x03

/-- V+0x00:04 CONTINUES_TO (R240). -/
abbrev Obj.viewContinuesTo (k : Nat) : Nat := objKey (0x4000 + 256 * k) 0x04

/-- V+0x00:05 VIEW_STATE (R240). -/
abbrev Obj.viewViewState (k : Nat) : Nat := objKey (0x4000 + 256 * k) 0x05

/-- V+0x00:06 HOLE_PORTS (R240). -/
abbrev Obj.viewHolePorts (k : Nat) : Nat := objKey (0x4000 + 256 * k) 0x06

/-- V+0x00:07 STITCHED_WIDTH (R240). -/
abbrev Obj.viewStitchedWidth (k : Nat) : Nat := objKey (0x4000 + 256 * k) 0x07

/-- V+0x01:01 OVERLAPS (R240). -/
abbrev Obj.viewOverlaps (k : Nat) : Nat := objKey (0x4001 + 256 * k) 0x01

/-- V+0x01:02 ANCHOR (R240). -/
abbrev Obj.viewAnchor (k : Nat) : Nat := objKey (0x4001 + 256 * k) 0x02

/-- V+0x01:03 SHIFT_LIMIT (R240). -/
abbrev Obj.viewShiftLimit (k : Nat) : Nat := objKey (0x4001 + 256 * k) 0x03

/-- V+0x01:04 ALONG_LIMIT (R240). -/
abbrev Obj.viewAlongLimit (k : Nat) : Nat := objKey (0x4001 + 256 * k) 0x04

/-- V+0x01:05 STITCH_SHIFT (R240). -/
abbrev Obj.viewStitchShift (k : Nat) : Nat := objKey (0x4001 + 256 * k) 0x05

/-- V+0x01:06 STITCH_CLEARS (R240). -/
abbrev Obj.viewStitchClears (k : Nat) : Nat := objKey (0x4001 + 256 * k) 0x06

/-- V+0x01:07 SEAM_LATE (R240). -/
abbrev Obj.viewSeamLate (k : Nat) : Nat := objKey (0x4001 + 256 * k) 0x07

/-- V+0x02:01 FREEZE_MASK (R240). -/
abbrev Obj.viewFreezeMask (k : Nat) : Nat := objKey (0x4002 + 256 * k) 0x01

/-- V+0x02:02 SERVO_BAND (R240). -/
abbrev Obj.viewServoBand (k : Nat) : Nat := objKey (0x4002 + 256 * k) 0x02

/-- V+0x02:03 TEXTURE_MIN (R240). -/
abbrev Obj.viewTextureMin (k : Nat) : Nat := objKey (0x4002 + 256 * k) 0x03

/-- V+0x02:04 SLEW_X (R240). -/
abbrev Obj.viewSlewX (k : Nat) : Nat := objKey (0x4002 + 256 * k) 0x04

/-- V+0x02:05 SLEW_T (R240). -/
abbrev Obj.viewSlewT (k : Nat) : Nat := objKey (0x4002 + 256 * k) 0x05

/-- V+0x02:06 SEAM_SET (R240). -/
abbrev Obj.viewSeamSet (k : Nat) : Nat := objKey (0x4002 + 256 * k) 0x06

/-- V+0x02:07 SEAM_STATE (R240). -/
abbrev Obj.viewSeamState (k : Nat) : Nat := objKey (0x4002 + 256 * k) 0x07

/-- V+0x03:01 SEAM_STATS (R240). -/
abbrev Obj.viewSeamStats (k : Nat) : Nat := objKey (0x4003 + 256 * k) 0x01

/-- V+0x03:02 SEAM_ACK (R240). -/
abbrev Obj.viewSeamAck (k : Nat) : Nat := objKey (0x4003 + 256 * k) 0x02

/-- S+0x00:01 ENABLE (R247). -/
abbrev Obj.strEnable (k : Nat) : Nat := objKey (0x4800 + 32 * k) 0x01

/-- S+0x00:02 VIEW (R247). -/
abbrev Obj.strView (k : Nat) : Nat := objKey (0x4800 + 32 * k) 0x02

/-- S+0x00:03 X0 (R247). -/
abbrev Obj.strX0 (k : Nat) : Nat := objKey (0x4800 + 32 * k) 0x03

/-- S+0x00:04 CROP_WIDTH (R247). -/
abbrev Obj.strCropWidth (k : Nat) : Nat := objKey (0x4800 + 32 * k) 0x04

/-- S+0x00:05 STEP (R247). -/
abbrev Obj.strStep (k : Nat) : Nat := objKey (0x4800 + 32 * k) 0x05

/-- S+0x00:06 BANDS (R247). -/
abbrev Obj.strBands (k : Nat) : Nat := objKey (0x4800 + 32 * k) 0x06

/-- S+0x00:07 FORMAT (R247). -/
abbrev Obj.strFormat (k : Nat) : Nat := objKey (0x4800 + 32 * k) 0x07

/-- S+0x00:08 MASK (R247). -/
abbrev Obj.strMask (k : Nat) : Nat := objKey (0x4800 + 32 * k) 0x08

/-- S+0x00:09 DEST (R247). -/
abbrev Obj.strDest (k : Nat) : Nat := objKey (0x4800 + 32 * k) 0x09

/-- S+0x00:0A ETH_PORT (R247). -/
abbrev Obj.strEthPort (k : Nat) : Nat := objKey (0x4800 + 32 * k) 0x0A

/-- S+0x01:01 SCALE_COEFFS (R247). -/
abbrev Obj.strScaleCoeffs (k : Nat) : Nat := objKey (0x4801 + 32 * k) 0x01

/-- S+0x02:01 OUT_WIDTH (R247). -/
abbrev Obj.strOutWidth (k : Nat) : Nat := objKey (0x4802 + 32 * k) 0x01

/-- S+0x02:02 RECORD_BYTES (R247). -/
abbrev Obj.strRecordBytes (k : Nat) : Nat := objKey (0x4802 + 32 * k) 0x02

/-- S+0x02:03 LINES_EMITTED (R247). -/
abbrev Obj.strLinesEmitted (k : Nat) : Nat := objKey (0x4802 + 32 * k) 0x03

/-- S+0x02:04 LINES_DROPPED (R247). -/
abbrev Obj.strLinesDropped (k : Nat) : Nat := objKey (0x4802 + 32 * k) 0x04

/-- V+0x10:01 COORD_MATRIX (R269). -/
abbrev Obj.viewCoordMatrix (k : Nat) : Nat := objKey (0x4010 + 256 * k) 0x01

/-- V+0x10:02 ACTIVE_BANK (R269). -/
abbrev Obj.viewActiveBank (k : Nat) : Nat := objKey (0x4010 + 256 * k) 0x02

/-- V+0x10:03 BANK_STATE (R269). -/
abbrev Obj.viewBankState (k : Nat) : Nat := objKey (0x4010 + 256 * k) 0x03

/-- V+0x10:04 ACTIVE_VERSION (R269). -/
abbrev Obj.viewActiveVersion (k : Nat) : Nat := objKey (0x4010 + 256 * k) 0x04

/-- V+0x10:05, :06 BANK0_VERSION, BANK1_VERSION (R269). -/
abbrev Obj.viewBank0Version (k : Nat) : Nat := objKey (0x4010 + 256 * k) 0x05

/-- V+0x10:05, :06 BANK0_VERSION, BANK1_VERSION (R269). -/
abbrev Obj.viewBank1Version (k : Nat) : Nat := objKey (0x4010 + 256 * k) 0x06

/-- V+0x10:07, :08 BANK0_CRC, BANK1_CRC (R269). -/
abbrev Obj.viewBank0Crc (k : Nat) : Nat := objKey (0x4010 + 256 * k) 0x07

/-- V+0x10:07, :08 BANK0_CRC, BANK1_CRC (R269). -/
abbrev Obj.viewBank1Crc (k : Nat) : Nat := objKey (0x4010 + 256 * k) 0x08

/-- V+0x10:09 ECC_ERRORS (R269). -/
abbrev Obj.viewEccErrors (k : Nat) : Nat := objKey (0x4010 + 256 * k) 0x09

/-- V+0x11:01 TABLE_LOAD (R269). -/
abbrev Obj.viewTableLoad (k : Nat) : Nat := objKey (0x4011 + 256 * k) 0x01

/-- V+0x11:02 TABLE_READ (R269). -/
abbrev Obj.viewTableRead (k : Nat) : Nat := objKey (0x4011 + 256 * k) 0x02

/-- V+0x12:01 to :04 HIST_LABEL0 to HIST_LABEL3 (R269). -/
abbrev Obj.viewHistLabel (k : Nat) (j : Nat) : Nat := objKey (0x4012 + 256 * k) (0x01 + j)

/-- V+0x12:05 HIST_GATE (R269). -/
abbrev Obj.viewHistGate (k : Nat) : Nat := objKey (0x4012 + 256 * k) 0x05

/-- V+0x12:06 HIST_CLEAR (R269). -/
abbrev Obj.viewHistClear (k : Nat) : Nat := objKey (0x4012 + 256 * k) 0x06

/-- V+0x12:07 HIST_PIXELS (R269). -/
abbrev Obj.viewHistPixels (k : Nat) : Nat := objKey (0x4012 + 256 * k) 0x07

/-- V+0x12:08 BUILD_RADIUS (R269). -/
abbrev Obj.viewBuildRadius (k : Nat) : Nat := objKey (0x4012 + 256 * k) 0x08

/-- V+0x12:09 MIN_COUNT (R269). -/
abbrev Obj.viewMinCount (k : Nat) : Nat := objKey (0x4012 + 256 * k) 0x09

/-- V+0x12:0A FILL_CLASS (R269). -/
abbrev Obj.viewFillClass (k : Nat) : Nat := objKey (0x4012 + 256 * k) 0x0A

/-- V+0x12:0B BUILD (R269). -/
abbrev Obj.viewBuild (k : Nat) : Nat := objKey (0x4012 + 256 * k) 0x0B

/-- V+0x13:01 BUILD_RESULT (R269). -/
abbrev Obj.viewBuildResult (k : Nat) : Nat := objKey (0x4013 + 256 * k) 0x01

/-- V+0x13:02 BUILD_ACK (R269). -/
abbrev Obj.viewBuildAck (k : Nat) : Nat := objKey (0x4013 + 256 * k) 0x02

/-- V+0x14:01 CLASS_STATS (R269). -/
abbrev Obj.viewClassStats (k : Nat) : Nat := objKey (0x4014 + 256 * k) 0x01

/-- V+0x14:02 CLASS_ACK (R269). -/
abbrev Obj.viewClassAck (k : Nat) : Nat := objKey (0x4014 + 256 * k) 0x02

/-- V+0x20:01 FG_CLASSES (R292). -/
abbrev Obj.viewFgClasses (k : Nat) : Nat := objKey (0x4020 + 256 * k) 0x01

/-- V+0x20:02 MIN_AREA (R292). -/
abbrev Obj.viewMinArea (k : Nat) : Nat := objKey (0x4020 + 256 * k) 0x02

/-- V+0x20:03 MAX_AREA (R292). -/
abbrev Obj.viewMaxArea (k : Nat) : Nat := objKey (0x4020 + 256 * k) 0x03

/-- V+0x20:04 REMOTE_OVERLAP (R292). -/
abbrev Obj.viewRemoteOverlap (k : Nat) : Nat := objKey (0x4020 + 256 * k) 0x04

/-- V+0x21:01 OPEN_NOW (R292). -/
abbrev Obj.viewOpenNow (k : Nat) : Nat := objKey (0x4021 + 256 * k) 0x01

/-- V+0x21:02 OPEN_PEAK (R292). -/
abbrev Obj.viewOpenPeak (k : Nat) : Nat := objKey (0x4021 + 256 * k) 0x02

/-- V+0x21:03 COMETS_CLOSED (R292). -/
abbrev Obj.viewCometsClosed (k : Nat) : Nat := objKey (0x4021 + 256 * k) 0x03

/-- V+0x21:04 DROPPED_SMALL (R292). -/
abbrev Obj.viewDroppedSmall (k : Nat) : Nat := objKey (0x4021 + 256 * k) 0x04

/-- V+0x21:05 SPLITS (R292). -/
abbrev Obj.viewSplits (k : Nat) : Nat := objKey (0x4021 + 256 * k) 0x05

/-- V+0x21:06 SEAM_MERGES (R292). -/
abbrev Obj.viewSeamMerges (k : Nat) : Nat := objKey (0x4021 + 256 * k) 0x06

/-- V+0x21:07 PARTIALS (R292). -/
abbrev Obj.viewPartials (k : Nat) : Nat := objKey (0x4021 + 256 * k) 0x07

/-- V+0x21:08 RUNS_UNLABELLED (R292). -/
abbrev Obj.viewRunsUnlabelled (k : Nat) : Nat := objKey (0x4021 + 256 * k) 0x08

/-- V+0x21:09 THROTTLED (R292). -/
abbrev Obj.viewThrottled (k : Nat) : Nat := objKey (0x4021 + 256 * k) 0x09

/-- V+0x21:0A RATE_DROPPED (R292). -/
abbrev Obj.viewRateDropped (k : Nat) : Nat := objKey (0x4021 + 256 * k) 0x0A

/-- V+0x21:0B EDGE_LATE (R292). -/
abbrev Obj.viewEdgeLate (k : Nat) : Nat := objKey (0x4021 + 256 * k) 0x0B

/-- V+0x21:0C FORCED_CLOSES (R292). -/
abbrev Obj.viewForcedCloses (k : Nat) : Nat := objKey (0x4021 + 256 * k) 0x0C

/-- V+0x21:0D FLAGS (R292). -/
abbrev Obj.viewFlags (k : Nat) : Nat := objKey (0x4021 + 256 * k) 0x0D

/-- V+0x21:0E NEXT_ID (R292). -/
abbrev Obj.viewNextId (k : Nat) : Nat := objKey (0x4021 + 256 * k) 0x0E

/-- 0x5000:01 DISPATCH_REGIONS (R325). -/
abbrev Obj.brkDispatchRegions : Nat := objKey 0x5000 0x01

/-- 0x5000:02 BUILD_REGIONS (R325). -/
abbrev Obj.brkBuildRegions : Nat := objKey 0x5000 0x02

/-- 0x5000:03 UTIL_LIMIT (R325). -/
abbrev Obj.brkUtilLimit : Nat := objKey 0x5000 0x03

/-- 0x5000:04 FETCH_BUDGET (R325). -/
abbrev Obj.brkFetchBudget : Nat := objKey 0x5000 0x04

/-- 0x5000:05 BRICKS_USABLE (R325). -/
abbrev Obj.brkBricksUsable : Nat := objKey 0x5000 0x05

/-- 0x5000:06 LOAD (R325). -/
abbrev Obj.brkLoad : Nat := objKey 0x5000 0x06

/-- 0x5000:07 QUEUE_NOW (R325). -/
abbrev Obj.brkQueueNow : Nat := objKey 0x5000 0x07

/-- 0x5000:08 FLAGS (R325). -/
abbrev Obj.brkFlags : Nat := objKey 0x5000 0x08

/-- 0x5000:09 BUILD_PREEMPTS (R325). -/
abbrev Obj.brkBuildPreempts : Nat := objKey 0x5000 0x09

/-- S+0x00:01 MODEL (R326). -/
abbrev Obj.slotModel (k : Nat) : Nat := objKey (0x5100 + 16 * k) 0x01

/-- S+0x00:02 STATE (R326). -/
abbrev Obj.slotState (k : Nat) : Nat := objKey (0x5100 + 16 * k) 0x02

/-- S+0x00:03 CRC (R326). -/
abbrev Obj.slotCrc (k : Nat) : Nat := objKey (0x5100 + 16 * k) 0x03

/-- S+0x00:04 CYCLES (R326). -/
abbrev Obj.slotCycles (k : Nat) : Nat := objKey (0x5100 + 16 * k) 0x04

/-- S+0x00:05 COST (R326). -/
abbrev Obj.slotCost (k : Nat) : Nat := objKey (0x5100 + 16 * k) 0x05

/-- S+0x00:06 WEIGHT_BYTES (R326). -/
abbrev Obj.slotWeightBytes (k : Nat) : Nat := objKey (0x5100 + 16 * k) 0x06

/-- S+0x00:07 NAME (R326). -/
abbrev Obj.slotName (k : Nat) : Nat := objKey (0x5100 + 16 * k) 0x07

/-- S+0x00:08 RATE (R326). -/
abbrev Obj.slotRate (k : Nat) : Nat := objKey (0x5100 + 16 * k) 0x08

/-- S+0x00:09 OUT_ACTION (R326). -/
abbrev Obj.slotOutAction (k : Nat) : Nat := objKey (0x5100 + 16 * k) 0x09

/-- S+0x00:0A NOR_STATE (R326). -/
abbrev Obj.slotNorState (k : Nat) : Nat := objKey (0x5100 + 16 * k) 0x0A

/-- S+0x00:0B CLEAR (R326). -/
abbrev Obj.slotClear (k : Nat) : Nat := objKey (0x5100 + 16 * k) 0x0B

/-- S+0x01:01 LOAD_RESULT (R326). -/
abbrev Obj.slotLoadResult (k : Nat) : Nat := objKey (0x5101 + 16 * k) 0x01

/-- S+0x01:02 LOAD_ACK (R326). -/
abbrev Obj.slotLoadAck (k : Nat) : Nat := objKey (0x5101 + 16 * k) 0x02

/-- :01 STATE (R327). -/
abbrev Obj.tileState (k : Nat) : Nat := objKey (0x5200 + k) 0x01

/-- :02 BRICK_MAP (R327). -/
abbrev Obj.tileBrickMap (k : Nat) : Nat := objKey (0x5200 + k) 0x02

/-- :03 SPARE_USED (R327). -/
abbrev Obj.tileSpareUsed (k : Nat) : Nat := objKey (0x5200 + k) 0x03

/-- :04 RUNS (R327). -/
abbrev Obj.tileRuns (k : Nat) : Nat := objKey (0x5200 + k) 0x04

/-- :05 RUNS_ABANDONED (R327). -/
abbrev Obj.tileRunsAbandoned (k : Nat) : Nat := objKey (0x5200 + k) 0x05

/-- :06 SRAM_CORRECTED (R327). -/
abbrev Obj.tileSramCorrected (k : Nat) : Nat := objKey (0x5200 + k) 0x06

/-- :07 RESETS (R327). -/
abbrev Obj.tileResets (k : Nat) : Nat := objKey (0x5200 + k) 0x07

/-- :08 BUILD_UNITS (R327). -/
abbrev Obj.tileBuildUnits (k : Nat) : Nat := objKey (0x5200 + k) 0x08

/-- V+0x30:01 to :04 PRED0 to PRED3 (R328). -/
abbrev Obj.viewPred (k : Nat) (j : Nat) : Nat := objKey (0x4030 + 256 * k) (0x01 + j)

/-- V+0x30:05 CROP_MARGIN (R328). -/
abbrev Obj.viewCropMargin (k : Nat) : Nat := objKey (0x4030 + 256 * k) 0x05

/-- V+0x30:06 CROP_KEEP (R328). -/
abbrev Obj.viewCropKeep (k : Nat) : Nat := objKey (0x4030 + 256 * k) 0x06

/-- V+0x31:01 MATCHED (R328). -/
abbrev Obj.viewMatched (k : Nat) : Nat := objKey (0x4031 + 256 * k) 0x01

/-- V+0x31:02 MODEL_DONE (R328). -/
abbrev Obj.viewModelDone (k : Nat) : Nat := objKey (0x4031 + 256 * k) 0x02

/-- V+0x31:03 DEFAULTED (R328). -/
abbrev Obj.viewDefaulted (k : Nat) : Nat := objKey (0x4031 + 256 * k) 0x03

/-- V+0x31:04 CROP_LOST (R328). -/
abbrev Obj.viewCropLost (k : Nat) : Nat := objKey (0x4031 + 256 * k) 0x04

/-- V+0x31:05 QUEUE_FULL (R328). -/
abbrev Obj.viewQueueFull (k : Nat) : Nat := objKey (0x4031 + 256 * k) 0x05

/-- V+0x31:06 RETRIED (R328). -/
abbrev Obj.viewRetried (k : Nat) : Nat := objKey (0x4031 + 256 * k) 0x06

/-- Y+0x30:01 DEFAULT_ACTION (R328). -/
abbrev Obj.trkDefaultAction (k : Nat) : Nat := objKey (0x6030 + 64 * k) 0x01

/-- Y+0x30:02 DECISION_MARGIN (R328). -/
abbrev Obj.trkDecisionMargin (k : Nat) : Nat := objKey (0x6030 + 64 * k) 0x02

/-- Y+0x00:01 GEOMETRY (R355). -/
abbrev Obj.trkGeometry (k : Nat) : Nat := objKey (0x6000 + 64 * k) 0x01

/-- Y+0x00:02 CHUTE_SPEED (R355). -/
abbrev Obj.trkChuteSpeed (k : Nat) : Nat := objKey (0x6000 + 64 * k) 0x02

/-- Y+0x00:03 VALVE_DISTANCE (R355). -/
abbrev Obj.trkValveDistance (k : Nat) : Nat := objKey (0x6000 + 64 * k) 0x03

/-- Y+0x00:04 GRAVITY (R355). -/
abbrev Obj.trkGravity (k : Nat) : Nat := objKey (0x6000 + 64 * k) 0x04

/-- Y+0x00:05 SCAN_OFFSET (R355). -/
abbrev Obj.trkScanOffset (k : Nat) : Nat := objKey (0x6000 + 64 * k) 0x05

/-- Y+0x00:06 ENCODER (R355). -/
abbrev Obj.trkEncoder (k : Nat) : Nat := objKey (0x6000 + 64 * k) 0x06

/-- Y+0x00:07 COUNT_PITCH (R355). -/
abbrev Obj.trkCountPitch (k : Nat) : Nat := objKey (0x6000 + 64 * k) 0x07

/-- Y+0x00:08 LINE_PERIOD (R355). -/
abbrev Obj.trkLinePeriod (k : Nat) : Nat := objKey (0x6000 + 64 * k) 0x08

/-- Y+0x01:01 VALVE_CAL (R355). -/
abbrev Obj.trkValveCal (k : Nat) : Nat := objKey (0x6001 + 64 * k) 0x01

/-- Y+0x01:02 CAL_POINTS (R355). -/
abbrev Obj.trkCalPoints (k : Nat) : Nat := objKey (0x6001 + 64 * k) 0x02

/-- Y+0x01:03 SIDE_MARGIN (R355). -/
abbrev Obj.trkSideMargin (k : Nat) : Nat := objKey (0x6001 + 64 * k) 0x03

/-- Y+0x01:04 MIN_COVER (R355). -/
abbrev Obj.trkMinCover (k : Nat) : Nat := objKey (0x6001 + 64 * k) 0x04

/-- Y+0x01:05 LEAD (R355). -/
abbrev Obj.trkLead (k : Nat) : Nat := objKey (0x6001 + 64 * k) 0x05

/-- Y+0x01:06 TRAIL (R355). -/
abbrev Obj.trkTrail (k : Nat) : Nat := objKey (0x6001 + 64 * k) 0x06

/-- Y+0x02:01 RULE_CLASSES (R355). -/
abbrev Obj.trkRuleClasses (k : Nat) : Nat := objKey (0x6002 + 64 * k) 0x01

/-- Y+0x02:02 RULE_MIN (R355). -/
abbrev Obj.trkRuleMin (k : Nat) : Nat := objKey (0x6002 + 64 * k) 0x02

/-- Y+0x02:03 PARTIAL_ACTION (R355). -/
abbrev Obj.trkPartialAction (k : Nat) : Nat := objKey (0x6002 + 64 * k) 0x03

/-- Y+0x02:04 FUSE_VIEW (R355). -/
abbrev Obj.trkFuseView (k : Nat) : Nat := objKey (0x6002 + 64 * k) 0x04

/-- Y+0x02:05 FUSE_RULE (R355). -/
abbrev Obj.trkFuseRule (k : Nat) : Nat := objKey (0x6002 + 64 * k) 0x05

/-- Y+0x02:06 FUSE_X (R355). -/
abbrev Obj.trkFuseX (k : Nat) : Nat := objKey (0x6002 + 64 * k) 0x06

/-- Y+0x02:07 FUSE_T (R355). -/
abbrev Obj.trkFuseT (k : Nat) : Nat := objKey (0x6002 + 64 * k) 0x07

/-- Y+0x02:08 FUSE_HOLD (R355). -/
abbrev Obj.trkFuseHold (k : Nat) : Nat := objKey (0x6002 + 64 * k) 0x08

/-- Y+0x02:09 VIEW_DROP (R355). -/
abbrev Obj.trkViewDrop (k : Nat) : Nat := objKey (0x6002 + 64 * k) 0x09

/-- Y+0x02:0A SPEED_TOL (R355). -/
abbrev Obj.trkSpeedTol (k : Nat) : Nat := objKey (0x6002 + 64 * k) 0x0A

/-- Y+0x02:0B TRACK_RECORDS (R355). -/
abbrev Obj.trkTrackRecords (k : Nat) : Nat := objKey (0x6002 + 64 * k) 0x0B

/-- Y+0x03:01 SCHEDULED (R355). -/
abbrev Obj.trkScheduled (k : Nat) : Nat := objKey (0x6003 + 64 * k) 0x01

/-- Y+0x03:02 LATE (R355). -/
abbrev Obj.trkLate (k : Nat) : Nat := objKey (0x6003 + 64 * k) 0x02

/-- Y+0x03:03 UNMAPPED (R355). -/
abbrev Obj.trkUnmapped (k : Nat) : Nat := objKey (0x6003 + 64 * k) 0x03

/-- Y+0x03:04 FUSED (R355). -/
abbrev Obj.trkFused (k : Nat) : Nat := objKey (0x6003 + 64 * k) 0x04

/-- Y+0x03:05 SPEED_REJECTED (R355). -/
abbrev Obj.trkSpeedRejected (k : Nat) : Nat := objKey (0x6003 + 64 * k) 0x05

/-- Y+0x03:06 OUT_OF_HORIZON (R355). -/
abbrev Obj.trkOutOfHorizon (k : Nat) : Nat := objKey (0x6003 + 64 * k) 0x06

/-- Y+0x03:07 REVISIONS_LATE (R355). -/
abbrev Obj.trkRevisionsLate (k : Nat) : Nat := objKey (0x6003 + 64 * k) 0x07

/-- Y+0x03:08 CLEARED (R355). -/
abbrev Obj.trkCleared (k : Nat) : Nat := objKey (0x6003 + 64 * k) 0x08

/-- Y+0x03:09 TEACH_OPENINGS (R355). -/
abbrev Obj.trkTeachOpenings (k : Nat) : Nat := objKey (0x6003 + 64 * k) 0x09

/-- 0x6100:01 GUARANTEE (R356). -/
abbrev Obj.gtrGuarantee : Nat := objKey 0x6100 0x01

/-- 0x6100:02 LAPSE_CAUSE (R356). -/
abbrev Obj.gtrLapseCause : Nat := objKey 0x6100 0x02

/-- 0x6100:03 LAPSES (R356). -/
abbrev Obj.gtrLapses : Nat := objKey 0x6100 0x03

/-- 0x6100:04 RETIRED_REGIONS_ALLOWED (R356). -/
abbrev Obj.gtrRetiredRegionsAllowed : Nat := objKey 0x6100 0x04

/-- 0x6100:05 ENTRY_LATENCY_MAX (R356). -/
abbrev Obj.gtrEntryLatencyMax : Nat := objKey 0x6100 0x05

/-- 0x6100:06 ENTRIES_NOW (R356). -/
abbrev Obj.gtrEntriesNow : Nat := objKey 0x6100 0x06

/-- 0x6100:07 ENTRIES_FULL (R356). -/
abbrev Obj.gtrEntriesFull : Nat := objKey 0x6100 0x07

/-- 0x6100:08 REQUESTS_PEAK (R356). -/
abbrev Obj.gtrRequestsPeak : Nat := objKey 0x6100 0x08

/-- 0x6100:09 RECORDS_DROPPED (R356). -/
abbrev Obj.gtrRecordsDropped : Nat := objKey 0x6100 0x09

/-- 0x6100:0A REMOTE_RECEIVED (R356). -/
abbrev Obj.gtrRemoteReceived : Nat := objKey 0x6100 0x0A

/-- 0x6100:0B REMOTE_DROPPED (R356). -/
abbrev Obj.gtrRemoteDropped : Nat := objKey 0x6100 0x0B

/-- B+0x00:01 ENABLE (R375). -/
abbrev Obj.vbEnable (k : Nat) : Nat := objKey (0x6200 + 32 * k) 0x01

/-- B+0x00:02 TICK_PERIOD (R375). -/
abbrev Obj.vbTickPeriod (k : Nat) : Nat := objKey (0x6200 + 32 * k) 0x02

/-- B+0x00:03 MIN_OFF (R375). -/
abbrev Obj.vbMinOff (k : Nat) : Nat := objKey (0x6200 + 32 * k) 0x03

/-- B+0x01:01 STATE (R375). -/
abbrev Obj.vbState (k : Nat) : Nat := objKey (0x6201 + 32 * k) 0x01

/-- B+0x01:02 TICK (R375). -/
abbrev Obj.vbTick (k : Nat) : Nat := objKey (0x6201 + 32 * k) 0x02

/-- B+0x01:03 TICK_START (R375). -/
abbrev Obj.vbTickStart (k : Nat) : Nat := objKey (0x6201 + 32 * k) 0x03

/-- B+0x01:04 STATUS_CRC_ERRORS (R375). -/
abbrev Obj.vbStatusCrcErrors (k : Nat) : Nat := objKey (0x6201 + 32 * k) 0x04

/-- B+0x01:05 STATUS_MISSING (R375). -/
abbrev Obj.vbStatusMissing (k : Nat) : Nat := objKey (0x6201 + 32 * k) 0x05

/-- B+0x01:06 STATE_MISMATCH (R375). -/
abbrev Obj.vbStateMismatch (k : Nat) : Nat := objKey (0x6201 + 32 * k) 0x06

/-- B+0x01:07 DISCARDED (R375). -/
abbrev Obj.vbDiscarded (k : Nat) : Nat := objKey (0x6201 + 32 * k) 0x07

/-- B+0x01:08 SAFE_TICKS (R375). -/
abbrev Obj.vbSafeTicks (k : Nat) : Nat := objKey (0x6201 + 32 * k) 0x08

/-- B+0x01:09 BOARD_STATUS (R375). -/
abbrev Obj.vbBoardStatus (k : Nat) : Nat := objKey (0x6201 + 32 * k) 0x09

/-- B+0x01:0A FAULT_COUNT (R375). -/
abbrev Obj.vbFaultCount (k : Nat) : Nat := objKey (0x6201 + 32 * k) 0x0A

/-- B+0x01:0B PLUG_EVENTS (R375). -/
abbrev Obj.vbPlugEvents (k : Nat) : Nat := objKey (0x6201 + 32 * k) 0x0B

/-- B+0x01:0C FLAGS (R375). -/
abbrev Obj.vbFlags (k : Nat) : Nat := objKey (0x6201 + 32 * k) 0x0C

/-- B+0x02:01 VALVE_STATE (R375). -/
abbrev Obj.vbValveState (k : Nat) : Nat := objKey (0x6202 + 32 * k) 0x01

/-- B+0x02:02 TEST_STATE (R375). -/
abbrev Obj.vbTestState (k : Nat) : Nat := objKey (0x6202 + 32 * k) 0x02

/-- B+0x02:03 TEST_ENABLE (R375). -/
abbrev Obj.vbTestEnable (k : Nat) : Nat := objKey (0x6202 + 32 * k) 0x03

/-- B+0x02:04 TEST_PULSE (R375). -/
abbrev Obj.vbTestPulse (k : Nat) : Nat := objKey (0x6202 + 32 * k) 0x04

/-- O+0x00:01 FUNCTION (R376). -/
abbrev Obj.toutFunction (k : Nat) : Nat := objKey (0x6300 + 8 * k) 0x01

/-- O+0x00:02 LEVEL (R376). -/
abbrev Obj.toutLevel (k : Nat) : Nat := objKey (0x6300 + 8 * k) 0x02

/-- O+0x00:03 SAFE_LEVEL (R376). -/
abbrev Obj.toutSafeLevel (k : Nat) : Nat := objKey (0x6300 + 8 * k) 0x03

/-- O+0x00:04 ASSIGNED (R376). -/
abbrev Obj.toutAssigned (k : Nat) : Nat := objKey (0x6300 + 8 * k) 0x04

/-- O+0x01:01 EDGES (R376). -/
abbrev Obj.toutEdges (k : Nat) : Nat := objKey (0x6301 + 8 * k) 0x01

/-- O+0x01:02 QUEUED (R376). -/
abbrev Obj.toutQueued (k : Nat) : Nat := objKey (0x6301 + 8 * k) 0x02

/-- O+0x01:03 LATE_EDGES (R376). -/
abbrev Obj.toutLateEdges (k : Nat) : Nat := objKey (0x6301 + 8 * k) 0x03

/-- O+0x01:04 MERGED_EDGES (R376). -/
abbrev Obj.toutMergedEdges (k : Nat) : Nat := objKey (0x6301 + 8 * k) 0x04

/-- O+0x01:05 FLUSH (R376). -/
abbrev Obj.toutFlush (k : Nat) : Nat := objKey (0x6301 + 8 * k) 0x05

/-- 0x7000:01 to :07 TARGET_LINE_WR to TARGET_CTL (R405). -/
abbrev Obj.hbmTarget (j : Nat) : Nat := objKey 0x7000 (0x01 + j)

/-- 0x7000:08 PD_TIMER (R405). -/
abbrev Obj.hbmPdTimer : Nat := objKey 0x7000 0x08

/-- 0x7000:09 SCRUB_PERIOD (R405). -/
abbrev Obj.hbmScrubPeriod : Nat := objKey 0x7000 0x09

/-- 0x7000:0A LAST_ERROR (R405). -/
abbrev Obj.hbmLastError : Nat := objKey 0x7000 0x0A

/-- 0x7001:01 to :07 MISSED_LINE_WR to MISSED_CTL (R405). -/
abbrev Obj.hbmMissed (j : Nat) : Nat := objKey 0x7001 (0x01 + j)

/-- 0x7002:01 to :07 LATENCY_MAX_LINE_WR to LATENCY_MAX_CTL (R405). -/
abbrev Obj.hbmLatencyMax (j : Nat) : Nat := objKey 0x7002 (0x01 + j)

/-- 0x7003:01 SR_WAITS (R405). -/
abbrev Obj.hbmSrWaits : Nat := objKey 0x7003 0x01

/-- 0x7003:02 HIST_LOST (R405). -/
abbrev Obj.hbmHistLost : Nat := objKey 0x7003 0x02

/-- :01 STATE (R406). -/
abbrev Obj.stackState (k : Nat) : Nat := objKey (0x7010 + k) 0x01

/-- :02 TEMPERATURE (R406). -/
abbrev Obj.stackTemperature (k : Nat) : Nat := objKey (0x7010 + k) 0x02

/-- :03 REFRESH_RATE (R406). -/
abbrev Obj.stackRefreshRate (k : Nat) : Nat := objKey (0x7010 + k) 0x03

/-- :04 RATE_CHANGES (R406). -/
abbrev Obj.stackRateChanges (k : Nat) : Nat := objKey (0x7010 + k) 0x04

/-- :05 RETIRED_MAP (R406). -/
abbrev Obj.stackRetiredMap (k : Nat) : Nat := objKey (0x7010 + k) 0x05

/-- :06 STATIC_FREE (R406). -/
abbrev Obj.stackStaticFree (k : Nat) : Nat := objKey (0x7010 + k) 0x06

/-- :01 STATE (R407). -/
abbrev Obj.pchState (k : Nat) : Nat := objKey (0x7020 + k) 0x01

/-- :02 DEBT (R407). -/
abbrev Obj.pchDebt (k : Nat) : Nat := objKey (0x7020 + k) 0x02

/-- :03 URGENT_REFRESHES (R407). -/
abbrev Obj.pchUrgentRefreshes (k : Nat) : Nat := objKey (0x7020 + k) 0x03

/-- :04 CORRECTED (R407). -/
abbrev Obj.pchCorrected (k : Nat) : Nat := objKey (0x7020 + k) 0x04

/-- :05 UNCORRECTABLE (R407). -/
abbrev Obj.pchUncorrectable (k : Nat) : Nat := objKey (0x7020 + k) 0x05

/-- :06 PARITY_RETRIES (R407). -/
abbrev Obj.pchParityRetries (k : Nat) : Nat := objKey (0x7020 + k) 0x06

/-- :07 RETIRE_CAUSE (R407). -/
abbrev Obj.pchRetireCause (k : Nat) : Nat := objKey (0x7020 + k) 0x07

/-- :01 SIZE (R408). -/
abbrev Obj.ringSize (k : Nat) : Nat := objKey (0x7080 + k) 0x01

/-- :02 SCOPE (R408). -/
abbrev Obj.ringScope (k : Nat) : Nat := objKey (0x7080 + k) 0x02

/-- :03 GRAIN (R408). -/
abbrev Obj.ringGrain (k : Nat) : Nat := objKey (0x7080 + k) 0x03

/-- :04 MODE (R408). -/
abbrev Obj.ringMode (k : Nat) : Nat := objKey (0x7080 + k) 0x04

/-- :05 CAPACITY (R408). -/
abbrev Obj.ringCapacity (k : Nat) : Nat := objKey (0x7080 + k) 0x05

/-- :06 DEPTH (R408). -/
abbrev Obj.ringDepth (k : Nat) : Nat := objKey (0x7080 + k) 0x06

/-- :07 BASE (R408). -/
abbrev Obj.ringBase (k : Nat) : Nat := objKey (0x7080 + k) 0x07

/-- :08 CHANNELS (R408). -/
abbrev Obj.ringChannels (k : Nat) : Nat := objKey (0x7080 + k) 0x08

/-- :09 WRITE_PTR (R408). -/
abbrev Obj.ringWritePtr (k : Nat) : Nat := objKey (0x7080 + k) 0x09

/-- :0A READ_PTR (R408). -/
abbrev Obj.ringReadPtr (k : Nat) : Nat := objKey (0x7080 + k) 0x0A

/-- :0B RESETS (R408). -/
abbrev Obj.ringResets (k : Nat) : Nat := objKey (0x7080 + k) 0x0B

/-- :0C DROPPED (R408). -/
abbrev Obj.ringDropped (k : Nat) : Nat := objKey (0x7080 + k) 0x0C

/-- 0x7100:01 BUDGET (R436). -/
abbrev Obj.dmaBudget : Nat := objKey 0x7100 0x01

/-- 0x7100:02 IN_FLIGHT (R436). -/
abbrev Obj.dmaInFlight : Nat := objKey 0x7100 0x02

/-- 0x7100:03 IRQ_PENDING (R436). -/
abbrev Obj.dmaIrqPending : Nat := objKey 0x7100 0x03

/-- 0x7100:04 DEFERRALS (R436). -/
abbrev Obj.dmaDeferrals : Nat := objKey 0x7100 0x04

/-- 0x7100:05 HALTS (R436). -/
abbrev Obj.dmaHalts : Nat := objKey 0x7100 0x05

/-- 0x7110:01 SELECT (R436). -/
abbrev Obj.dtabSelect : Nat := objKey 0x7110 0x01

/-- 0x7110:02 DESCRIPTOR (R436). -/
abbrev Obj.dtabDescriptor : Nat := objKey 0x7110 0x02

/-- 0x7110:03 TABLE (R436). -/
abbrev Obj.dtabTable : Nat := objKey 0x7110 0x03

/-- 0x7120:01 XBUF (R436). -/
abbrev Obj.dmaXbuf : Nat := objKey 0x7120 0x01

/-- D+0x00:01 START (R437). -/
abbrev Obj.dchStart (k : Nat) : Nat := objKey (0x7200 + 16 * k) 0x01

/-- D+0x00:02 STOP (R437). -/
abbrev Obj.dchStop (k : Nat) : Nat := objKey (0x7200 + 16 * k) 0x02

/-- D+0x00:03 PRIORITY (R437). -/
abbrev Obj.dchPriority (k : Nat) : Nat := objKey (0x7200 + 16 * k) 0x03

/-- D+0x00:04 CODEC_GEOM (R437). -/
abbrev Obj.dchCodecGeom (k : Nat) : Nat := objKey (0x7200 + 16 * k) 0x04

/-- D+0x01:01 STATE (R437). -/
abbrev Obj.dchState (k : Nat) : Nat := objKey (0x7201 + 16 * k) 0x01

/-- D+0x01:02 CAUSE (R437). -/
abbrev Obj.dchCause (k : Nat) : Nat := objKey (0x7201 + 16 * k) 0x02

/-- D+0x01:03 CODE (R437). -/
abbrev Obj.dchCode (k : Nat) : Nat := objKey (0x7201 + 16 * k) 0x03

/-- D+0x01:04 DESC (R437). -/
abbrev Obj.dchDesc (k : Nat) : Nat := objKey (0x7201 + 16 * k) 0x04

/-- D+0x01:05 TAG (R437). -/
abbrev Obj.dchTag (k : Nat) : Nat := objKey (0x7201 + 16 * k) 0x05

/-- D+0x01:06 BYTES_DONE (R437). -/
abbrev Obj.dchBytesDone (k : Nat) : Nat := objKey (0x7201 + 16 * k) 0x06

/-- D+0x01:07 RESIDUE (R437). -/
abbrev Obj.dchResidue (k : Nat) : Nat := objKey (0x7201 + 16 * k) 0x07

/-- D+0x01:08 OUT_BYTES (R437). -/
abbrev Obj.dchOutBytes (k : Nat) : Nat := objKey (0x7201 + 16 * k) 0x08

/-- D+0x01:09 CHECK_VALUE (R437). -/
abbrev Obj.dchCheckValue (k : Nat) : Nat := objKey (0x7201 + 16 * k) 0x09

/-- D+0x01:0A CHECK_RECEIVED (R437). -/
abbrev Obj.dchCheckReceived (k : Nat) : Nat := objKey (0x7201 + 16 * k) 0x0A

/-- D+0x01:0B TRAVERSAL (R437). -/
abbrev Obj.dchTraversal (k : Nat) : Nat := objKey (0x7201 + 16 * k) 0x0B

/-- D+0x01:0C DESC_DONE (R437). -/
abbrev Obj.dchDescDone (k : Nat) : Nat := objKey (0x7201 + 16 * k) 0x0C

/-- 0x7400:01 BLOCKS_CODED (R438). -/
abbrev Obj.codecBlocksCoded : Nat := objKey 0x7400 0x01

/-- 0x7400:02 BLOCKS_STORED (R438). -/
abbrev Obj.codecBlocksStored : Nat := objKey 0x7400 0x02

/-- 0x7400:03 SELF_CHECK_FAILS (R438). -/
abbrev Obj.codecSelfCheckFails : Nat := objKey 0x7400 0x03

/-- 0x7400:04 INCOMPRESSIBLE (R438). -/
abbrev Obj.codecIncompressible : Nat := objKey 0x7400 0x04

/-- 0x7400:05 BAD_CHECKS (R438). -/
abbrev Obj.codecBadChecks : Nat := objKey 0x7400 0x05

/-- 0x7400:06 BYTES_IN (R438). -/
abbrev Obj.codecBytesIn : Nat := objKey 0x7400 0x06

/-- 0x7400:07 BYTES_OUT (R438). -/
abbrev Obj.codecBytesOut : Nat := objKey 0x7400 0x07

/-- 0x7400:08 STREAM_QUEUE_FULL (R438). -/
abbrev Obj.codecStreamQueueFull : Nat := objKey 0x7400 0x08

/-- 0x7400:09 LOAD (R438). -/
abbrev Obj.codecLoad : Nat := objKey 0x7400 0x09

/-- :01 HOLDER (R439). -/
abbrev Obj.chkHolder (k : Nat) : Nat := objKey (0x7480 + k) 0x01

/-- :02 WAITERS (R439). -/
abbrev Obj.chkWaiters (k : Nat) : Nat := objKey (0x7480 + k) 0x02

/-- :03 STREAMS (R439). -/
abbrev Obj.chkStreams (k : Nat) : Nat := objKey (0x7480 + k) 0x03

/-- :04 MISMATCHES (R439). -/
abbrev Obj.chkMismatches (k : Nat) : Nat := objKey (0x7480 + k) 0x04

/-- 0x8000:01 OUT_PRIORITY (R453). -/
abbrev Obj.evtOutPriority : Nat := objKey 0x8000 0x01

/-- 0x8000:02 COINCIDENCES (R453). -/
abbrev Obj.evtCoincidences : Nat := objKey 0x8000 0x02

/-- 0x8000:03 LAST_COINCIDENCE (R453). -/
abbrev Obj.evtLastCoincidence : Nat := objKey 0x8000 0x03

/-- 0x8000:04 IGNORED (R453). -/
abbrev Obj.evtIgnored : Nat := objKey 0x8000 0x04

/-- 0x8000:05 FLAGS (R453). -/
abbrev Obj.evtFlags : Nat := objKey 0x8000 0x05

/-- 0x8010:01 LOG_HEAD (R453). -/
abbrev Obj.evtLogHead : Nat := objKey 0x8010 0x01

/-- 0x8010:02 LOG_CURSOR (R453). -/
abbrev Obj.evtLogCursor : Nat := objKey 0x8010 0x02

/-- 0x8010:03 LOG_RECORDS (R453). -/
abbrev Obj.evtLogRecords : Nat := objKey 0x8010 0x03

/-- 0x8010:04 LOG_LOST (R453). -/
abbrev Obj.evtLogLost : Nat := objKey 0x8010 0x04

/-- counter :01 COMPARE (R453). -/
abbrev Obj.ectrCompare (k : Nat) : Nat := objKey (0x8020 + k) 0x01

/-- counter :02 VALUE (R453). -/
abbrev Obj.ectrValue (k : Nat) : Nat := objKey (0x8020 + k) 0x02

/-- counter :03 CAPTURED (R453). -/
abbrev Obj.ectrCaptured (k : Nat) : Nat := objKey (0x8020 + k) 0x03

/-- :01 SOURCE (R454). -/
abbrev Obj.echSource (k : Nat) : Nat := objKey (0x8100 + k) 0x01

/-- :02 TASKS (R454). -/
abbrev Obj.echTasks (k : Nat) : Nat := objKey (0x8100 + k) 0x02

/-- :03 GATE (R454). -/
abbrev Obj.echGate (k : Nat) : Nat := objKey (0x8100 + k) 0x03

/-- :04 LIMIT (R454). -/
abbrev Obj.echLimit (k : Nat) : Nat := objKey (0x8100 + k) 0x04

/-- :05 RECORD (R454). -/
abbrev Obj.echRecord (k : Nat) : Nat := objKey (0x8100 + k) 0x05

/-- :06 SECURITY (R454). -/
abbrev Obj.echSecurity (k : Nat) : Nat := objKey (0x8100 + k) 0x06

/-- :07 OWNER (R454). -/
abbrev Obj.echOwner (k : Nat) : Nat := objKey (0x8100 + k) 0x07

/-- :08 EVENTS (R454). -/
abbrev Obj.echEvents (k : Nat) : Nat := objKey (0x8100 + k) 0x08

/-- :09 GATED (R454). -/
abbrev Obj.echGated (k : Nat) : Nat := objKey (0x8100 + k) 0x09

/-- :0A STORM_DROPS (R454). -/
abbrev Obj.echStormDrops (k : Nat) : Nat := objKey (0x8100 + k) 0x0A

/-- :0B FLAGS (R454). -/
abbrev Obj.echFlags (k : Nat) : Nat := objKey (0x8100 + k) 0x0B

/-- :0C DEST_MODULE (R454). -/
abbrev Obj.echDestModule (k : Nat) : Nat := objKey (0x8220 + k) 0x0C

/-- N+0x00:01 ENABLE (R470). -/
abbrev Obj.ethEnable (k : Nat) : Nat := objKey (0x9010 + 16 * k) 0x01

/-- N+0x00:02 SPEED (R470). -/
abbrev Obj.ethSpeed (k : Nat) : Nat := objKey (0x9010 + 16 * k) 0x02

/-- N+0x00:03 FEC (R470). -/
abbrev Obj.ethFec (k : Nat) : Nat := objKey (0x9010 + 16 * k) 0x03

/-- N+0x00:04 MAC (R470). -/
abbrev Obj.ethMac (k : Nat) : Nat := objKey (0x9010 + 16 * k) 0x04

/-- N+0x00:05 IPV4_ADDR (R470). -/
abbrev Obj.ethIpv4Addr (k : Nat) : Nat := objKey (0x9010 + 16 * k) 0x05

/-- N+0x00:06 NETMASK (R470). -/
abbrev Obj.ethNetmask (k : Nat) : Nat := objKey (0x9010 + 16 * k) 0x06

/-- N+0x00:07 GATEWAY (R470). -/
abbrev Obj.ethGateway (k : Nat) : Nat := objKey (0x9010 + 16 * k) 0x07

/-- N+0x00:08 HSP_SRC_PORT (R470). -/
abbrev Obj.ethHspSrcPort (k : Nat) : Nat := objKey (0x9010 + 16 * k) 0x08

/-- N+0x00:09 PHY_DELAY_TX (R470). -/
abbrev Obj.ethPhyDelayTx (k : Nat) : Nat := objKey (0x9010 + 16 * k) 0x09

/-- N+0x00:0A PHY_DELAY_RX (R470). -/
abbrev Obj.ethPhyDelayRx (k : Nat) : Nat := objKey (0x9010 + 16 * k) 0x0A

/-- N+0x01:01 LINK (R470). -/
abbrev Obj.ethLink (k : Nat) : Nat := objKey (0x9011 + 16 * k) 0x01

/-- N+0x01:02 FRAMES_RX (R470). -/
abbrev Obj.ethFramesRx (k : Nat) : Nat := objKey (0x9011 + 16 * k) 0x02

/-- N+0x01:03 FRAMES_TX (R470). -/
abbrev Obj.ethFramesTx (k : Nat) : Nat := objKey (0x9011 + 16 * k) 0x03

/-- N+0x01:04 RX_DROPPED (R470). -/
abbrev Obj.ethRxDropped (k : Nat) : Nat := objKey (0x9011 + 16 * k) 0x04

/-- N+0x01:05 TX_DROPPED (R470). -/
abbrev Obj.ethTxDropped (k : Nat) : Nat := objKey (0x9011 + 16 * k) 0x05

/-- N+0x01:06 PTP_STATE (R470). -/
abbrev Obj.ethPtpState (k : Nat) : Nat := objKey (0x9011 + 16 * k) 0x06

/-- N+0x01:07 PATH_DELAY (R470). -/
abbrev Obj.ethPathDelay (k : Nat) : Nat := objKey (0x9011 + 16 * k) 0x07

/-- N+0x01:08 IGNORED (R470). -/
abbrev Obj.ethIgnored (k : Nat) : Nat := objKey (0x9011 + 16 * k) 0x08

/-- H:01 DEST_IP (R471). -/
abbrev Obj.hspSDestIp (k : Nat) : Nat := objKey (0x9040 + k) 0x01

/-- H:01 DEST_IP (R471). -/
abbrev Obj.hspDDestIp (k : Nat) : Nat := objKey (0x9050 + k) 0x01

/-- H:02 DEST_PORT (R471). -/
abbrev Obj.hspSDestPort (k : Nat) : Nat := objKey (0x9040 + k) 0x02

/-- H:02 DEST_PORT (R471). -/
abbrev Obj.hspDDestPort (k : Nat) : Nat := objKey (0x9050 + k) 0x02

/-- H:03 DATAGRAMS (R471). -/
abbrev Obj.hspSDatagrams (k : Nat) : Nat := objKey (0x9040 + k) 0x03

/-- H:03 DATAGRAMS (R471). -/
abbrev Obj.hspDDatagrams (k : Nat) : Nat := objKey (0x9050 + k) 0x03

/-- 0x9080:01 CLOCK_TYPE (R472). -/
abbrev Obj.ptpClockType : Nat := objKey 0x9080 0x01

/-- 0x9080:02 PTP_PORT (R472). -/
abbrev Obj.ptpPtpPort : Nat := objKey 0x9080 0x02

/-- 0x9080:03 PROFILE (R472). -/
abbrev Obj.ptpProfile : Nat := objKey 0x9080 0x03

/-- 0x9080:04 TRANSPORT (R472). -/
abbrev Obj.ptpTransport : Nat := objKey 0x9080 0x04

/-- 0x9080:05 TWO_STEP (R472). -/
abbrev Obj.ptpTwoStep : Nat := objKey 0x9080 0x05

/-- 0x9080:06 DOMAIN (R472). -/
abbrev Obj.ptpDomain : Nat := objKey 0x9080 0x06

/-- 0x9080:07 SLAVE_ONLY (R472). -/
abbrev Obj.ptpSlaveOnly : Nat := objKey 0x9080 0x07

/-- 0x9080:08 PRIORITY1 (R472). -/
abbrev Obj.ptpPriority1 : Nat := objKey 0x9080 0x08

/-- 0x9080:09 PRIORITY2 (R472). -/
abbrev Obj.ptpPriority2 : Nat := objKey 0x9080 0x09

/-- 0x9080:0A LOG_ANNOUNCE (R472). -/
abbrev Obj.ptpLogAnnounce : Nat := objKey 0x9080 0x0A

/-- 0x9080:0B LOG_SYNC (R472). -/
abbrev Obj.ptpLogSync : Nat := objKey 0x9080 0x0B

/-- 0x9080:0C LOG_MIN_DELAY_REQ (R472). -/
abbrev Obj.ptpLogMinDelayReq : Nat := objKey 0x9080 0x0C

/-- 0x9080:0D ANNOUNCE_TIMEOUT (R472). -/
abbrev Obj.ptpAnnounceTimeout : Nat := objKey 0x9080 0x0D

/-- 0x9080:0E GM_IDENTITY (R472). -/
abbrev Obj.ptpGmIdentity : Nat := objKey 0x9080 0x0E

/-- 0x9080:0F UTC_OFFSET (R472). -/
abbrev Obj.ptpUtcOffset : Nat := objKey 0x9080 0x0F

/-- 0x9100:01 SHORT_NOW (R473). -/
abbrev Obj.timeShortNow : Nat := objKey 0x9100 0x01

/-- 0x9100:02 FULL_NOW (R473). -/
abbrev Obj.timeFullNow : Nat := objKey 0x9100 0x02

/-- 0x9100:03 TIME_STATE (R473). -/
abbrev Obj.timeTimeState : Nat := objKey 0x9100 0x03

/-- 0x9100:04 OFFSET (R473). -/
abbrev Obj.timeOffset : Nat := objKey 0x9100 0x04

/-- 0x9100:05 FREQ (R473). -/
abbrev Obj.timeFreq : Nat := objKey 0x9100 0x05

/-- 0x9100:06 KP (R473). -/
abbrev Obj.timeKp : Nat := objKey 0x9100 0x06

/-- 0x9100:07 KI (R473). -/
abbrev Obj.timeKi : Nat := objKey 0x9100 0x07

/-- 0x9100:08 LOCK_THRESHOLD (R473). -/
abbrev Obj.timeLockThreshold : Nat := objKey 0x9100 0x08

/-- 0x9100:09 JUMP_THRESHOLD (R473). -/
abbrev Obj.timeJumpThreshold : Nat := objKey 0x9100 0x09

/-- 0x9100:0A INITIAL_STEP (R473). -/
abbrev Obj.timeInitialStep : Nat := objKey 0x9100 0x0A

/-- 0x9100:0B STEP (R473). -/
abbrev Obj.timeStep : Nat := objKey 0x9100 0x0B

/-- 0x9100:0C STEP_NEEDED (R473). -/
abbrev Obj.timeStepNeeded : Nat := objKey 0x9100 0x0C

/-- 0x9100:0D LAST_REFUSED (R473). -/
abbrev Obj.timeLastRefused : Nat := objKey 0x9100 0x0D

/-- 0x9100:0E STEPS_REFUSED (R473). -/
abbrev Obj.timeStepsRefused : Nat := objKey 0x9100 0x0E

/-- 0x9100:0F STEPS_APPLIED (R473). -/
abbrev Obj.timeStepsApplied : Nat := objKey 0x9100 0x0F

/-- 0x9100:10 GM_CHANGES (R473). -/
abbrev Obj.timeGmChanges : Nat := objKey 0x9100 0x10

/-- 0x9100:11 FLAGS (R473). -/
abbrev Obj.timeFlags : Nat := objKey 0x9100 0x11

/-- 0x1200:01 POWER_STATE (R498). -/
abbrev Obj.pwPowerState : Nat := objKey 0x1200 0x01

/-- 0x1200:02 LATENCY_TOLERANCE (R498). -/
abbrev Obj.pwLatencyTolerance : Nat := objKey 0x1200 0x02

/-- 0x1200:03 IDLE_TIMER (R498). -/
abbrev Obj.pwIdleTimer : Nat := objKey 0x1200 0x03

/-- 0x1200:04 DEEP_WAKE (R498). -/
abbrev Obj.pwDeepWake : Nat := objKey 0x1200 0x04

/-- 0x1200:05 STANDBY_WAKE (R498). -/
abbrev Obj.pwStandbyWake : Nat := objKey 0x1200 0x05

/-- 0x1200:06 LAST_WAKE (R498). -/
abbrev Obj.pwLastWake : Nat := objKey 0x1200 0x06

/-- 0x1200:07 DOZE_ENTRIES (R498). -/
abbrev Obj.pwDozeEntries : Nat := objKey 0x1200 0x07

/-- 0x1200:08 DEEP_ENTRIES (R498). -/
abbrev Obj.pwDeepEntries : Nat := objKey 0x1200 0x08

/-- 0x1200:09 STEPDOWN_DEFERRED (R498). -/
abbrev Obj.pwStepdownDeferred : Nat := objKey 0x1200 0x09

/-- 0x1210:01 BAND (R499). -/
abbrev Obj.thBand : Nat := objKey 0x1210 0x01

/-- 0x1210:02 BAND_W (R499). -/
abbrev Obj.thBandW : Nat := objKey 0x1210 0x02

/-- 0x1210:03 BAND_E (R499). -/
abbrev Obj.thBandE : Nat := objKey 0x1210 0x03

/-- 0x1210:04 HK_PERIOD (R499). -/
abbrev Obj.thHkPeriod : Nat := objKey 0x1210 0x04

/-- 0x1210:05 READINGS (R499). -/
abbrev Obj.thReadings : Nat := objKey 0x1210 0x05

/-- 0x1210:06 MAX_TEMP (R499). -/
abbrev Obj.thMaxTemp : Nat := objKey 0x1210 0x06

/-- 0x1210:07 PEAK_TEMP (R499). -/
abbrev Obj.thPeakTemp : Nat := objKey 0x1210 0x07

/-- 0x1210:08 BAND_CHANGES (R499). -/
abbrev Obj.thBandChanges : Nat := objKey 0x1210 0x08

/-- 0x1210:09 SENSORS_INVALID (R499). -/
abbrev Obj.thSensorsInvalid : Nat := objKey 0x1210 0x09

/-- 0x1210:0A TRIPS (R499). -/
abbrev Obj.thTrips : Nat := objKey 0x1210 0x0A

/-- 0x1220:01 PIN (R500). -/
abbrev Obj.supPin : Nat := objKey 0x1220 0x01

/-- 0x1220:02 POWER_ALERT (R500). -/
abbrev Obj.supPowerAlert : Nat := objKey 0x1220 0x02

/-- 0x1220:03 BROWNOUTS (R500). -/
abbrev Obj.supBrownouts : Nat := objKey 0x1220 0x03

/-- 0x1220:04 RAIL_FAULTS (R500). -/
abbrev Obj.supRailFaults : Nat := objKey 0x1220 0x04

/-- 0x1220:05 FLAGS (R500). -/
abbrev Obj.supFlags : Nat := objKey 0x1220 0x05

/-- 0x1300:01 HEALTH (R513). -/
abbrev Obj.fltHealth : Nat := objKey 0x1300 0x01

/-- 0x1300:02 RETIRED_REGIONS (R513). -/
abbrev Obj.fltRetiredRegions : Nat := objKey 0x1300 0x02

/-- 0x1300:03 RETIREMENTS (R513). -/
abbrev Obj.fltRetirements : Nat := objKey 0x1300 0x03

/-- 0x1300:04 UPSETS (R513). -/
abbrev Obj.fltUpsets : Nat := objKey 0x1300 0x04

/-- 0x1300:05 BRIDGE_EJECT_OVERFLOW (R513). -/
abbrev Obj.fltBridgeEjectOverflow : Nat := objKey 0x1300 0x05

/-- 0x1300:06 CLEAR_RETIREMENTS (R513). -/
abbrev Obj.fltClearRetirements : Nat := objKey 0x1300 0x06

/-- 0x1300:07 DMA_RETIRED (R513). -/
abbrev Obj.fltDmaRetired : Nat := objKey 0x1300 0x07

/-- 0x1300:08 EVENT_RETIRED (R513). -/
abbrev Obj.fltEventRetired : Nat := objKey 0x1300 0x08

/-- 0x1310:01 ALERTS (R513). -/
abbrev Obj.alAlerts : Nat := objKey 0x1310 0x01

/-- 0x1310:02 ALERT_MASK (R513). -/
abbrev Obj.alAlertMask : Nat := objKey 0x1310 0x02

/-- 0x1311:01 to :13 ALERT_COUNT_0 to ALERT_COUNT_18 (R513). -/
abbrev Obj.alAlertCount (j : Nat) : Nat := objKey 0x1311 (0x01 + j)

/-- 0x1320:01 LOG_HEAD (R513). -/
abbrev Obj.logLogHead : Nat := objKey 0x1320 0x01

/-- 0x1320:02 LOG_OLDEST (R513). -/
abbrev Obj.logLogOldest : Nat := objKey 0x1320 0x02

/-- 0x1320:03 LOG_CURSOR (R513). -/
abbrev Obj.logLogCursor : Nat := objKey 0x1320 0x03

/-- 0x1320:04 LOG_ENTRIES (R513). -/
abbrev Obj.logLogEntries : Nat := objKey 0x1320 0x04

/-- 0x1320:05 SUPPRESSED (R513). -/
abbrev Obj.logSuppressed : Nat := objKey 0x1320 0x05

/-- 0x1320:06 LOG_TORN (R513). -/
abbrev Obj.logLogTorn : Nat := objKey 0x1320 0x06

/-- :01 STATE (R514). -/
abbrev Obj.regState (k : Nat) : Nat := objKey (0x1340 + k) 0x01

/-- :02 RESETS (R514). -/
abbrev Obj.regResets (k : Nat) : Nat := objKey (0x1340 + k) 0x02

/-- :03 TABLE_CORRECTED (R514). -/
abbrev Obj.regTableCorrected (k : Nat) : Nat := objKey (0x1340 + k) 0x03

/-- :04 TABLE_UNCORRECTABLE (R514). -/
abbrev Obj.regTableUncorrectable (k : Nat) : Nat := objKey (0x1340 + k) 0x04

/-- :05 BANK_FAILS (R514). -/
abbrev Obj.regBankFails (k : Nat) : Nat := objKey (0x1340 + k) 0x05

/-- :06 RETIRE_CAUSE (R514). -/
abbrev Obj.regRetireCause (k : Nat) : Nat := objKey (0x1340 + k) 0x06

/-- 0xA000:01 KEY_STATE (R538). -/
abbrev Obj.keyKeyState : Nat := objKey 0xA000 0x01

/-- 0xA000:02 KEY_ENABLE (R538). -/
abbrev Obj.keyKeyEnable : Nat := objKey 0xA000 0x02

/-- 0xA000:03 DEBOUNCE (R538). -/
abbrev Obj.keyDebounce : Nat := objKey 0xA000 0x03

/-- 0xA000:04 LONG_PRESS (R538). -/
abbrev Obj.keyLongPress : Nat := objKey 0xA000 0x04

/-- 0xA000:05 LONG_FLAGS (R538). -/
abbrev Obj.keyLongFlags : Nat := objKey 0xA000 0x05

/-- 0xA001:01 to :08 PRESSES_0 to PRESSES_7 (R538). -/
abbrev Obj.keyPresses (j : Nat) : Nat := objKey 0xA001 (0x01 + j)

/-- 0xA002:01 to :08 LONG_COUNT_0 to LONG_COUNT_7 (R538). -/
abbrev Obj.keyLongCount (j : Nat) : Nat := objKey 0xA002 (0x01 + j)

/-- 0xA010:01 TOUCH_STATE (R538). -/
abbrev Obj.tchTouchState : Nat := objKey 0xA010 0x01

/-- 0xA010:02 TOUCH_ENABLE (R538). -/
abbrev Obj.tchTouchEnable : Nat := objKey 0xA010 0x02

/-- 0xA010:03 SCAN_PERIOD (R538). -/
abbrev Obj.tchScanPeriod : Nat := objKey 0xA010 0x03

/-- 0xA010:04 BASE_SHIFT (R538). -/
abbrev Obj.tchBaseShift : Nat := objKey 0xA010 0x04

/-- 0xA010:05 TOUCH_MAX (R538). -/
abbrev Obj.tchTouchMax : Nat := objKey 0xA010 0x05

/-- 0xA010:06 WATER_CHANNELS (R538). -/
abbrev Obj.tchWaterChannels : Nat := objKey 0xA010 0x06

/-- 0xA010:07 FLAGS (R538). -/
abbrev Obj.tchFlags : Nat := objKey 0xA010 0x07

/-- 0xA010:08 WATER_EVENTS (R538). -/
abbrev Obj.tchWaterEvents : Nat := objKey 0xA010 0x08

/-- 0xA040:01 PIN_STATE (R538). -/
abbrev Obj.pinPinState : Nat := objKey 0xA040 0x01

/-- 0xA040:02 SAFE_COUNT (R538). -/
abbrev Obj.pinSafeCount : Nat := objKey 0xA040 0x02

/-- 0xA040:03 SAFE_TIME (R538). -/
abbrev Obj.pinSafeTime : Nat := objKey 0xA040 0x03

/-- 0xA041:01 PWR_STAGGER (R538). -/
abbrev Obj.cpwPwrStagger : Nat := objKey 0xA041 0x01

/-- 0xA041:02 PWR_RETRY (R538). -/
abbrev Obj.cpwPwrRetry : Nat := objKey 0xA041 0x02

/-- 0xA041:03 PWR_RETRIES (R538). -/
abbrev Obj.cpwPwrRetries : Nat := objKey 0xA041 0x03

/-- touch :01 RAW (R539). -/
abbrev Obj.tchcRaw (k : Nat) : Nat := objKey (0xA011 + k) 0x01

/-- touch :02 BASELINE (R539). -/
abbrev Obj.tchcBaseline (k : Nat) : Nat := objKey (0xA011 + k) 0x02

/-- touch :03 DELTA (R539). -/
abbrev Obj.tchcDelta (k : Nat) : Nat := objKey (0xA011 + k) 0x03

/-- touch :04 THRESHOLD (R539). -/
abbrev Obj.tchcThreshold (k : Nat) : Nat := objKey (0xA011 + k) 0x04

/-- touch :05 TOUCHES (R539). -/
abbrev Obj.tchcTouches (k : Nat) : Nat := objKey (0xA011 + k) 0x05

/-- touch :06 STUCK_COUNT (R539). -/
abbrev Obj.tchcStuckCount (k : Nat) : Nat := objKey (0xA011 + k) 0x06

/-- lamp :01 MODE (R539). -/
abbrev Obj.lampMode (k : Nat) : Nat := objKey (0xA020 + k) 0x01

/-- lamp :02 SOURCE (R539). -/
abbrev Obj.lampSource (k : Nat) : Nat := objKey (0xA020 + k) 0x02

/-- camera :01 PWR_ENABLE (R539). -/
abbrev Obj.camPwrEnable (k : Nat) : Nat := objKey (0xA030 + k) 0x01

/-- camera :02 PWR_STATE (R539). -/
abbrev Obj.camPwrState (k : Nat) : Nat := objKey (0xA030 + k) 0x02

/-- camera :03 FAULTS (R539). -/
abbrev Obj.camFaults (k : Nat) : Nat := objKey (0xA030 + k) 0x03

/-- camera :04 PWR_RESET (R539). -/
abbrev Obj.camPwrReset (k : Nat) : Nat := objKey (0xA030 + k) 0x04

/-- 0x1180:01 FW_IMAGE (R547). -/
abbrev Obj.fwFwImage : Nat := objKey 0x1180 0x01

/-- 0x1180:02 PREFERRED (R547). -/
abbrev Obj.fwPreferred : Nat := objKey 0x1180 0x02

/-- 0x1180:03 IMAGE_STATE (R547). -/
abbrev Obj.fwImageState : Nat := objKey 0x1180 0x03

/-- 0x1180:04 IMAGE_VERSION_A (R547). -/
abbrev Obj.fwImageVersionA : Nat := objKey 0x1180 0x04

/-- 0x1180:05 IMAGE_VERSION_B (R547). -/
abbrev Obj.fwImageVersionB : Nat := objKey 0x1180 0x05

end Sys2Proof.Machine
end

