-- ==== Sys2Proof/Machine/State.lean ====
section
/-! DEFINITION. The state of the module as plain data: the dictionary's values, and beside them everything the chapters
of the manual give the module that no dictionary object shows (queues, buffers, windows, tables, lines in progress). -/

namespace Sys2Proof.Machine

/-! ## Reasons to stop -/

/-- Faults of the model: none. Every command has a next state, so no constructor is needed; nothing raises a fault, and
that is safe because no behaviour of the manual is stopped. -/
inductive Fault where
  deriving DecidableEq, Repr

/-- Refusals of the model. `notModelled` is the arm of a row that has no meaning yet (safe: nothing runs). -/
inductive Refusal where
  | notModelled (mnemonic : String)
  deriving DecidableEq, Repr

/-! ## Values of the dictionary -/

/-- The three parts of the variant table (R3). -/
inductive Part where
  | f | n | s
  deriving DecidableEq, Repr

/-- A value of an object: a number (two's complement for the signed types, in the object's width), or a byte string
(TEXT, OCTETS, BLOB). -/
inductive Val where
  | num (n : Nat)
  | bytes (b : Bytes)
  deriving DecidableEq, Repr

/-- Values by object key, keys strictly rising; an object not listed holds its default (R47). -/
abbrev Kv := List (Nat × Val)

/-- Bytes by address, addresses strictly rising, no entry 0; a byte not listed reads 0 (log entry 4). -/
abbrev Mem := List Host.Cell

/-- The operating modes (R81), in the order of their codes. -/
inductive Mode where
  | boot | standby | config | teach | run | test | recovery | halt
  deriving DecidableEq, Repr

/-- The power states (R479), in the order of their codes. -/
inductive Power where
  | active | light | doze | deep
  deriving DecidableEq, Repr

/-- The access levels of sessions (R43). SERVICE is not reachable by any published command (R46). -/
inductive Level where
  | operator | integrator | service
  deriving DecidableEq, Repr

/-! ## Requests, responses and sessions -/

/-- A request body (R50). -/
structure Req where
  opcode : Nat
  flags : Nat
  index : Nat
  sub : Nat
  offset : Nat
  data : Bytes
  /-- byte 5, which a repeat must bring too (R50, R56) -/
  reserved : Nat := 0
  deriving DecidableEq, Repr

/-- A response body (R51). -/
structure Resp where
  opcode : Nat
  flags : Nat
  index : Nat
  sub : Nat
  code : Nat
  offset : Nat
  data : Bytes
  deriving DecidableEq, Repr

/-- A session (R43, R64 to R70, R74, R104). The I3C session is always there; a YDP session is there while it is open. -/
structure Session where
  id : SessId
  eth : Nat
  ip : Nat
  port : Nat
  clientNonce : Nat
  mask : Nat
  idleTime : Nat
  level : Level
  /-- the challenge nonce that may still be used, and the clock at which it expires (R44) -/
  challenge : Option (Nat × Nat)
  highSeq : Nat
  /-- the responses to the last 16 executed requests by SEQ, newest first (R66) -/
  kept : List (Nat × Resp)
  /-- the last notification SEQ (R68) -/
  notified : Nat
  lastRequest : Nat
  /-- snapshots by object (R70) -/
  snapshots : List (Nat × Bytes)
  /-- the unfinished segmented write: object and bytes so far (R69) -/
  segWrite : Option (Nat × Bytes)
  journalCursor : Nat
  logCursor : Nat
  eventCursor : Nat
  /-- per BLOB object: the replacement count at the session's last BLOCK_READ at OFFSET 0 (R74) -/
  blobSeen : List (Nat × Nat)
  deriving DecidableEq, Repr

/-- The I3C path outside its session (R54 to R59). -/
structure I3cPath where
  /-- the previous request with its TAG (R56) -/
  previous : Option (Nat × Req)
  /-- the response to that previous request, for its repeats (R56) -/
  answer : Option Resp
  /-- the latest response with its TAG, kept until the next request (R57) -/
  response : Option (Nat × Resp)
  /-- the presented result, and its SEQ, whose offset 0 the response to the previous request covers (R77) -/
  covers : Option (Nat × Nat)
  /-- the object whose snapshot the response to the previous request ends when it is sent (R70) -/
  ends : Option Nat
  /-- a write of YDP_PORT whose response is still to be sent: then the YDP sessions close (R551) -/
  moves : Bool
  /-- collected IBI bits (R59) -/
  ibi : Nat
  deriving DecidableEq, Repr

/-- The BLOB transfer (R71 to R73). -/
structure Transfer where
  session : SessId
  key : Nat
  length : Nat
  buffer : Mem
  /-- the 128-byte blocks received -/
  received : List Nat
  deriving DecidableEq, Repr

/-! ## Staging, commit, epochs -/

/-- A COMMIT or CHECK_ONLY between acceptance and result (R93, R96). -/
structure Check where
  command : Nat
  kind : Nat
  mask : Nat
  triggers : List Nat
  atTime : Nat
  staged : Kv
  acceptedAt : Nat
  holderClosed : Bool
  deriving DecidableEq, Repr

/-- A view bound by a commit (R95): the index it is bound to (none until a FULL_TIME instant binds it), whether that
index has been issued, and whether the frame-boundary objects have come into force (R552). -/
structure Binding where
  view : Nat
  index : Option Nat
  issued : Bool
  frameDone : Bool
  deriving DecidableEq, Repr

/-- A passed commit until all of it is in force (R95, R552). -/
structure Armed where
  epoch : Nat
  kind : Nat
  instant : Nat
  changes : Kv
  bindings : List Binding
  instantDone : Bool
  /-- the views whose EXPOSURE the commit changed from what its predecessor left (R157) -/
  exposures : List Nat
  /-- a module-made commit has taken the mode change away (R98) -/
  modeLost : Bool
  deriving DecidableEq, Repr

/-- The parameter set of an epoch (R22, R27). -/
structure EpochSet where
  epoch : Nat
  params : Kv
  /-- the views the commit binds, and those of them whose stages have switched to it, or count as having (R27, R86, R554) -/
  views : List Nat
  switched : List Nat
  /-- the epoch has left flight (R27) -/
  landed : Bool
  deriving DecidableEq, Repr

/-- The values of the dictionary: in force, of the latest committed epoch with RW writes since, staged, persistent in
MRAM, and the parameter sets of the epochs in flight. -/
structure Dict where
  inForce : Kv
  committed : Kv
  staged : Kv
  mram : Kv
  /-- each persistent object's second MRAM slot: the value before the current one, and the write count of the current slot (R478) -/
  mramPast : Kv
  mramWrites : Kv
  /-- the object whose write is in flight until a clock, and one whose newer slot a loss of power has torn (R478, R544) -/
  mramFlight : Option (Nat × Nat)
  mramTorn : Option Nat
  sets : List EpochSet
  deriving DecidableEq, Repr

/-- The staging area and the commits (R91 to R98). -/
structure Staging where
  holder : Option SessId
  lastWrite : Nat
  check : Option Check
  armed : List Armed
  lastEpoch : Nat
  /-- the check failed at the boot: lines of epoch 0 are discarded until a commit gives them another (R86) -/
  pipelinesStopped : Bool
  deriving DecidableEq, Repr

/-! ## Results, journal, log -/

/-- A completed result (R75, R76). -/
structure Result where
  seq : Nat
  epoch : Option Nat
  dropped : Nat
  data : Bytes
  deriving DecidableEq, Repr

/-- A result object (R76 to R79). -/
structure ResultObj where
  key : Nat
  last : Nat
  presented : Option Result
  pending : Option Result
  dropped : Nat
  alreadyRead : Bool
  /-- EPOCH, DROPPED and ALREADY_READ of the last completed result, for the NOT_READY header (R78) -/
  lastEpoch : Option Nat
  lastDropped : Nat
  lastRead : Bool
  deriving DecidableEq, Repr

/-- A record in its MRAM slot (R106, R508): data words and commit word, SEQ in [63:32] and CRC-32C of the data in [31:0]. -/
structure MramRecord where
  slot : Nat
  data : Bytes
  commit : Nat
  deriving DecidableEq, Repr

/-- The journal, its ring and its MRAM mirror (R102 to R108). An entry is its 32 bytes. -/
structure Journal where
  head : Nat
  /-- newest first, at most 8,192 -/
  ring : List (Nat × Bytes)
  /-- the last SEQ mirrored -/
  mirrored : Nat
  /-- the mirror's slots that are not empty, the latest written first (R106) -/
  mirror : List MramRecord
  /-- what the slot of the latest write held before it (R107) -/
  replaced : Option MramRecord
  /-- the clock at which the last mirror write ends (R105: at most 250 per second; R107) -/
  lastMirror : Nat
  /-- the digest under way: the snapshot's stream facts and its deadline (R109) -/
  digest : Option (Kv × Nat × Nat)
  deriving DecidableEq, Repr

/-- The error log (R508 to R510). A queued record lacks its SEQ. -/
structure ErrLog where
  queue : List Bytes
  reserve : List Bytes
  /-- the token bucket in ns of refill, 10^7 ns a token, and the clock of that level -/
  tokens : Nat
  tokenClock : Nat
  /-- the slots that are not empty, the latest written first (R508) -/
  slots : List MramRecord
  /-- what the slot of the latest write held before it (R107) -/
  replaced : Option MramRecord
  /-- the clock at which the last record's write ends -/
  lastWrite : Nat
  deriving DecidableEq, Repr

/-- Upsets, retirements and the retirement map (R501 to R505). Units are UNIT and INSTANCE of R509. -/
structure Faults where
  /-- the clocks of a unit's upsets within its window, newest first -/
  windows : List ((Nat × Nat) × List Nat)
  /-- corrected errors of a pseudo-channel within its window (R397) -/
  corrected : List (Nat × List Nat)
  retired : List (Nat × Nat)
  /-- the MRAM retirement map, its slot before the current one, the clock at which the current one is whole (R478, R504), and the mark for
  emptying it at the next boot -/
  map : List (Nat × Nat)
  mapPast : List (Nat × Nat)
  mapEnds : Nat
  mapClear : Bool
  /-- clock of the last storm alert per event channel (R451) -/
  stormAlerts : List (Nat × Nat)
  deriving DecidableEq, Repr

/-! ## Lanes, ports and lines -/

/-- A packet that waits on a system-link lane (R145, R146): the fields of its header, its payload, and the clock at which it came. -/
structure LinkTx where
  kind : Nat
  flags : Nat
  index : Nat
  offset : Nat
  byte12 : Nat
  payload : Bytes
  at_ : Nat
  deriving DecidableEq, Repr

/-- A camera lane (0 to 47) or system-link lane (48 to 51) (R110 to R117, R147). -/
structure Lane where
  /-- STATE codes of R117: 0 OFF, 1 STANDBY, 2 NO_SIGNAL, 3 TRAINING, 4 ALIGNED, 5 RETIRED -/
  state : Nat
  /-- the input swing is there -/
  signal : Bool
  /-- an exit to ACTIVE is under way (R114) -/
  exiting : Bool
  /-- clock since which the eye has been below EYE_FLOOR without a break (R116) -/
  lowEyeSince : Option Nat
  /-- clock of the last entry to NO_SIGNAL (R141) -/
  lostAt : Nat
  /-- PSEQ of the last packet; none after a realignment (R139) -/
  pseq : Option Nat
  /-- clock of the last valid LINK_STATUS (system link, R147) -/
  lastStatus : Nat
  /-- PSEQ of the next packet the module sends on a system-link lane (R126, R145) -/
  sent : Nat
  /-- the loss of signal has counted as an error of the lane alone (R116, R141) -/
  alone : Bool
  /-- packets that wait on a system-link lane, oldest first, and the time in 17ths of a ns until which the lane is taken (R146) -/
  waiting : List LinkTx
  linkFree : Nat
  deriving DecidableEq, Repr

/-- A line being reassembled (R137): the bytes received, as offset and length of each slice and the bytes themselves. -/
structure LineBuf where
  index : Nat
  got : Mem
  slices : List (Nat × Nat)
  deriving DecidableEq, Repr

/-- A pixel line: per band or slot its samples, the hole mask, and what the line carries with it (R20, R30, R152): trigger
index, trigger time, epoch, phase, whether it ends its frame, the view that triggered it; of its frame the epoch and time of the
first index, the frame-start index and number (R154), and whether the frame before was CUT (R182); and AGE per slot (R181). -/
structure PixLine where
  view : Nat
  index : Nat
  time : Nat
  epoch : Nat
  frameEpoch : Nat
  phase : Nat
  frameStart : Nat
  frameNo : Nat
  frameTime : Nat
  afterCut : Bool
  frameEnd : Bool
  ages : List Nat
  samples : List (List Nat)
  holes : List Bool
  deriving DecidableEq, Repr

/-- A register access over a port's link (R134): write or read, address, words, data, TAG, retried, made by the module
itself, and the frame whose exposure it writes (R157). `standard` marks what a CoaXPress camera is sent by its standard
(R135, R143): 0 a register message, 1 the discovery, 2 the connection configuration. -/
structure RegAccess where
  standard : Nat
  isWrite : Bool
  address : Nat
  words : Nat
  data : Bytes
  tag : Nat
  retried : Bool
  own : Bool
  frame : Option Nat
  sentAt : Option Nat
  deriving DecidableEq, Repr

/-- Facts of a port's frame (R159 to R161): first index, lines delivered, lines discarded, flag bits [37:32] of the status
word shifted to 0. -/
structure FrameWord where
  view : Nat
  start : Nat
  lines : Nat
  overflow : Nat
  flags : Nat
  deriving DecidableEq, Repr

/-- A camera port's link layer (R119 to R144, R159, R160). -/
structure Port where
  /-- LINK_STATE codes of R122 -/
  state : Nat
  /-- step of R143 the link-up is in: 0 none, 1 training, 3 discovery, 4 held (MISMATCH or R553), 5 configuration,
  51 retraining at RATE, 6 STREAM_ENABLE -/
  stage : Nat
  unplugged : Bool
  /-- the port relinks after a lane's retirement, until it rejoins (R140, R240) -/
  degrading : Bool
  /-- held in MISMATCH by the protocol check (R144), and the lanes that have lost signal since -/
  badProtocol : Bool
  lanesInUse : List Nat
  carrying : List Nat
  /-- the lanes run at the port's RATE, not at the 16,000 Mbaud of step 1 (R110, R143) -/
  atRate : Bool
  degraded : Bool
  /-- first index the port delivers (R143 step 7); none until it has rejoined -/
  rejoin : Option Nat
  /-- register bytes read at discovery -/
  discovery : Bytes
  /-- register messages, the first one sent and awaiting its response -/
  queue : List RegAccess
  regTag : Nat
  /-- the view whose triggers the port follows, and the next index to forward -/
  view : Option Nat
  nextForward : Nat
  lines : List LineBuf
  /-- lines forwarded to the region, oldest first -/
  forwarded : List PixLine
  frames : List FrameWord
  /-- the camera's markers by line index, newest first: 0 start of frame, 1 discarded from here on, 2 end of frame; the newest lines
  discarded (R159, R160) -/
  marks : List (Nat × Nat)
  discarded : List Nat
  /-- clock at which the last trigger message on the downlink ends (R131) -/
  downlinkFree : Nat
  /-- exposures sent to a CoaXPress camera, newest first: the frame start they apply from, and ns (R157, R193) -/
  exposures : List (Nat × Nat)
  deriving DecidableEq, Repr

/-- Per-slot statistics of a frame (R192): the histogram's bins, and per 16 pixels a sum and a count. -/
structure SlotStats where
  samples : Nat
  saturated : Nat
  sum : Nat
  min : Nat
  max : Nat
  histogram : List Nat
  profile : List (Nat × Nat)
  deriving DecidableEq, Repr

/-- A calibration capture under way (R194): 1 dark or 2 flat, when it was written, the frame it covers once that has
started with its number and epoch, per slot and pixel the sum and count of x16, lines counted, live slots. -/
structure Capture where
  kind : Nat
  writtenAt : Nat
  frame : Option Nat
  frameNo : Nat
  epoch : Nat
  sums : List (List (Nat × Nat))
  lines : Nat
  live : List Nat
  deriving DecidableEq, Repr

/-- The inactive bank of DARK, GAIN or DEFECTS (R187 to R189): 0 EMPTY, 1 STAGED, 2 ARMED, and the epoch it is armed for.
The active bank's value is the object's value in the parameter set of the region's epoch. -/
structure BankPair where
  state : Nat
  epoch : Nat
  deriving DecidableEq, Repr

/-- A source line of one slot (R181, R205): its index, corrected samples and hole mask. -/
structure SlotLine where
  index : Nat
  samples : List Nat
  holes : List Bool
  deriving DecidableEq, Repr

/-- The frame whose statistics a port gathers (R190 to R192). -/
structure StatsFrame where
  view : Nat
  start : Nat
  frameNo : Nat
  time : Nat
  epoch : Nat
  mixed : Bool
  holed : Bool
  live : List Nat
  width : Nat
  phases : Nat
  exposure : Nat
  enabled : Bool
  slots : List SlotStats
  deriving DecidableEq, Repr

/-- A region's pipeline: correction, demultiplexing, resampling, colour (R174 to R221, R514). -/
structure Region where
  /-- 0 ACTIVE, 2 RETIRED; it reads RESET until `resetUntil` -/
  state : Nat
  resetUntil : Nat
  /-- after a reset: waiting for the next frame start, then the index it rejoins at (R11) -/
  awaiting : Bool
  rejoin : Option Nat
  /-- epoch of the parameter set the region's stages hold (R22) -/
  epoch : Nat
  dark : BankPair
  gain : BankPair
  defects : BankPair
  /-- PHASES and PHASE_MAP of the last line's frame (R182), and PHASES, PHASE_MAP, OUT_WIDTH, AT_ENABLE of its epoch (R206) -/
  setup : Option ((Nat × Nat) × (Nat × Nat × Nat × Nat))
  /-- per slot: the held source line (R181) -/
  held : List (Option SlotLine)
  /-- per slot: the newest source lines after cross-track resampling, newest first (R205) -/
  history : List (List SlotLine)
  stats : Option StatsFrame
  capture : Option Capture
  /-- of the frame in progress: its start, the largest latency, that of its latest line (R210) -/
  latency : Option (Nat × Nat × Nat)
  gated : Bool
  /-- clock of the last line, for gating (R479) -/
  lastLine : Nat
  /-- lines after the colour stage that the stitcher has yet to take, newest first (R225) -/
  coloured : List PixLine
  /-- clock by which the latest uncorrectable word of a table copy is rewritten, and the bank of that copy (R264) -/
  repairUntil : Nat
  repairBank : Nat
  /-- the banks whose copies were found to mismatch while the region was down, and the clock by which each is rewritten (R263) -/
  copyBad : List (Nat × Nat)
  deriving DecidableEq, Repr

/-! ## Triggers, encoders, divided outputs -/

/-- An issued trigger as the later stages need it (R152). -/
structure Issue where
  index : Nat
  clk : Nat
  time : Nat
  epoch : Nat
  frameEpoch : Nat
  phase : Nat
  frameStart : Nat
  frameNo : Nat
  frameTime : Nat
  afterCut : Bool
  frameEnd : Bool
  cut : Bool
  deriving DecidableEq, Repr

/-- A view's trigger generator (R149 to R157). -/
structure Trigger where
  nextIndex : Nat
  anyIssued : Bool
  lastClk : Nat
  /-- SOURCE of the event held under MAX_RATE (R150) -/
  held : Option Nat
  epoch : Nat
  frameEpoch : Nat
  frameStart : Nat
  /-- the number of the frame in progress, the trigger time of its first index, and whether the frame before it was CUT -/
  frameNo : Nat
  frameTime : Nat
  afterCut : Bool
  /-- a new FRAME_LINES and the index it starts at (R155), and the value that frames now -/
  frameLines : Option Nat
  newFrameLines : Option (Nat × Nat)
  /-- a TRIG_END due: clock and index (R156) -/
  endDue : Option (Nat × Nat)
  /-- the last 64 trigger periods, newest first (R329) -/
  periods : List Nat
  /-- newest issued triggers, newest first -/
  issues : List Issue
  /-- latched encoder positions by index, newest first (R332) -/
  positions : List (Nat × Nat)
  /-- the CoaXPress exposure writes to come, oldest first: the frame start and the epoch whose EXPOSURE applies from it (R157) -/
  cxpWrites : List (Nat × Nat)
  deriving DecidableEq, Repr

/-- An encoder channel (R162 to R168). -/
structure Encoder where
  a : Bool
  b : Bool
  z : Bool
  position : Nat
  valid : Bool
  /-- a Z has been latched since the end of BOOT; the first Z after DEEP sets the position (R171) -/
  zSeen : Bool
  rezero : Bool
  /-- STATE codes of R173 -/
  state : Nat
  forward : Bool
  /-- counted edges in one direction since STILL or the last reversal, up to 2 -/
  run : Nat
  absorbed : Bool
  lastEdge : Nat
  lastPeriod : Nat
  /-- highest position reached (R149) -/
  highest : Nat
  /-- clocks of illegal transitions within 1 ms (R164) -/
  illegal : List Nat
  /-- even spacing of R168: clock it started at, counts since -/
  synBase : Nat
  synCount : Nat
  deriving DecidableEq, Repr

/-- A divided output (R169, R170). -/
structure Pgo where
  acc : Int
  lastClk : Nat
  pinFall : Nat
  deriving DecidableEq, Repr

/-! ## Stitching, classification, segmentation -/

/-- Accumulators of one seam in one frame (R235). -/
structure SeamAcc where
  sxx : Int
  syy : Int
  sxy : Int
  sxe : Int
  sye : Int
  n : Nat
  deriving DecidableEq, Repr

/-- The registration of a seam (R235 to R237): offsets in force and the frame start they hold from, those before it, the
update that waits for a frame start, the sums of the frame in progress, and the placed blend-zone samples of the line
before (left and right; none for a hole). -/
structure Seam where
  ox : Int
  ot : Int
  /-- offsets of lines before an index that the stitcher has not reached, oldest first (R237) -/
  was : List (Nat × Int × Int)
  next : Option (Int × Int)
  /-- the offsets that the lines of the frame in progress were stitched under (R236) -/
  used : List (Int × Int)
  /-- SEAM_SET loaded: the line whose frame is the first measured afterwards (R237) -/
  loaded : Option Nat
  acc : SeamAcc
  prev : List (Option Nat × Option Nat)
  deriving DecidableEq, Repr

/-- A seam slice received from the right module (R232, R234): its line, the bytes received, whether it is settled, and
whether it counts as all holes. -/
structure SeamSlice where
  index : Nat
  got : Mem
  received : Nat
  last : Bool
  late : Bool
  deriving DecidableEq, Repr

/-- A sort-table bank of a view (R253): state codes, master copy (cells packed, R251), version, CRC, epoch armed for. -/
structure Bank where
  state : Nat
  table : Mem
  version : Nat
  crc : Nat
  epoch : Nat
  /-- the regions of the view, and those that join it, without a verified copy of a bank in use (R262) -/
  lacks : List Nat
  /-- the bank has been verified since it was loaded, and keeps its VERSION (R256, R261) -/
  verified : Bool
  deriving DecidableEq, Repr

/-- A sort-table build under way (R266, R267): `todo` lists the units that are neither done nor running (R324). -/
structure Build where
  mask : Nat
  labels : List Nat
  radius : Nat
  minCount : Nat
  fill : Nat
  bank : Nat
  startedAt : Nat
  unitsDone : Nat
  todo : List Nat
  deriving DecidableEq, Repr

/-- A run of an object: line, first column, and by pixel its class, its bands and whether a hole is beside it (R270 to R278). -/
structure Strip where
  index : Nat
  x : Nat
  classes : List Nat
  bands : List (List Nat)
  holes : List Bool
  deriving DecidableEq, Repr

/-- The sums over `n` pixels (R284). -/
structure Sums where
  n : Nat
  sumX : Nat
  sumY : Nat
  sumXX : Nat
  sumYY : Nat
  sumXY : Nat
  counts : List Nat
  bands : List Nat
  deriving DecidableEq, Repr

/-- The sums of a fragment over its `area` pixels, y' from line `first` (R289). -/
structure FragmentSums where
  first : Nat
  last : Nat
  /-- the label on the right module, and the latest line segmented when the fragment was taken in -/
  label : Nat
  seen : Nat
  area : Nat
  sums : Sums
  deriving DecidableEq, Repr

/-- An open object of the segmenter (R270 to R281). -/
structure Blob where
  uid : Nat
  first : Nat
  last : Nat
  firstTime : Nat
  lastTime : Nat
  epoch : Nat
  version : Nat
  shift : Nat
  flags : Nat
  xMin : Nat
  xMax : Nat
  area : Nat
  /-- its runs of every line, and the fragments it has taken in (R278, R289) -/
  strips : List Strip
  parts : List FragmentSums
  slices : Nat
  /-- first and last column of its runs in the latest line and in the line in progress -/
  runs : List (Nat × Nat)
  cur : List (Nat × Nat)
  /-- the piece ends with its latest line (R276), and the continuing piece once it is open -/
  split : Bool
  cont : Option Nat
  /-- labels on the right module it still waits for, and its own lines at the seam whose entries are not all there (R289) -/
  remote : List Nat
  edgeLines : List Nat
  /-- the labels under which this object is reported to the left module (R287, R288) -/
  labels : List Nat
  deriving DecidableEq, Repr

/-- A comet (R284): the record's fields. -/
structure Comet where
  id : Nat
  epoch : Nat
  version : Nat
  origin : Nat
  disposition : Nat
  flags : Nat
  first : Nat
  last : Nat
  firstTime : Nat
  lastTime : Nat
  closeTime : Nat
  xMin : Nat
  xMax : Nat
  area : Nat
  sumX : Nat
  sumY : Nat
  sumXX : Nat
  sumYY : Nat
  sumXY : Nat
  counts : List Nat
  means : List Nat
  crop : Nat
  shift : Nat
  modelOut : Nat
  slices : Nat
  deriving DecidableEq, Repr

/-- A decimator of an output stream (R211 to R215): per sample position its registers, the group counter, outputs still
suppressed, and per pixel the lines since the last hole. -/
structure Cic where
  order : Nat
  ratio : Nat
  integ : List (List Nat)
  comb : List (List Nat)
  g : Nat
  warmup : Nat
  sinceHole : List Nat
  /-- epochs not yet reached whose commit changed ORDER or RATIO (R213) -/
  changes : List Nat
  deriving DecidableEq, Repr

/-- The class statistics of the frame in progress (R268): frame start, its trigger time, epoch, table version, lines,
whether the bank was swapped, pixels per class, hole pixels. -/
structure ClassAcc where
  frame : Nat
  frameNo : Nat
  time : Nat
  epoch : Nat
  version : Nat
  lines : Nat
  swapped : Bool
  counts : List Nat
  holes : Nat
  deriving DecidableEq, Repr

/-- The frame the servo measures (R235, R239): its start and number, the epochs of its first and latest line, that of its frame-boundary
objects, its lines so far. -/
structure ServoFrame where
  start : Nat
  no : Nat
  epoch : Nat
  lastEpoch : Nat
  frameEpoch : Nat
  lines : Nat
  deriving DecidableEq, Repr

/-- A view's stages behind the regions: stitcher, servo, classifier, segmenter (R222 to R283). -/
structure View where
  /-- DEGRADED at the last review (R240, R507) -/
  degraded : Bool
  /-- the next line to stitch, none before the first trigger -/
  nextStitch : Option Nat
  /-- epoch of the set the stitcher holds (R22) -/
  epoch : Nat
  holePorts : Nat
  seams : List Seam
  servoFrame : Option ServoFrame
  banks : List Bank
  nextVersion : Nat
  build : Option Build
  /-- histogram slots: cell counts, sparse (R265) -/
  hist : List (List (Nat × Nat))
  classStats : Option ClassAcc
  /-- holes of the line before, by column (R274) -/
  prevHoles : List Bool
  /-- epoch of the last segmented line (R280) -/
  segEpoch : Option Nat
  blobs : List Blob
  nextUid : Nat
  closeQueue : List (Comet × Bool)
  /-- the view's token bucket in units of 10^-9 token, and its clock (R282) -/
  tokens : Nat
  tokenClk : Nat
  issuedIds : Nat
  cropsKept : Nat
  /-- seam slices of the right module (R232, R234) -/
  slices : List SeamSlice
  /-- edge entries of the right module: line, HOLE, label of FG; and fragments no object has claimed (R287 to R290) -/
  edges : List (Nat × Bool × Option Nat)
  fragments : List Comet
  /-- labels of the right module whose fragments have been taken in, with the last line of the latest (R288, R289) -/
  taken : List (Nat × Nat)
  /-- the newest lines whose last column, beside the right module's first, is a hole (R274) -/
  seamHoles : List Nat
  /-- the epochs bound to the view that changed its geometry, and that no line segmented has reached yet (R280) -/
  segBreaks : List Nat
  deriving DecidableEq, Repr

/-! ## Brick array -/

/-- A model slot (R303 to R308): STATE codes of R326, the model, C_m and COST of a READY slot, the clock of its BLOCK_END,
NOR_STATE and the copy in NOR. -/
structure Slot where
  state : Nat
  model : Bytes
  cycles : Nat
  cost : Nat
  endedAt : Nat
  norState : Nat
  nor : Option Bytes
  /-- the HBM stacks that hold a copy of the model (R306) -/
  replicas : List Nat
  deriving DecidableEq, Repr

/-- A matched comet at the dispatcher (R310 to R318): its ID, view, slot, decision time (short time), and whether it has
been placed a second time. -/
structure Matched where
  comet : Nat
  view : Nat
  slot : Nat
  tDec : Nat
  retried : Bool
  deriving DecidableEq, Repr

/-- A run on a brick: the input tensor in HWC order (R311), the cycles up to a clock in tenths, and that clock (R301, R318). -/
structure Run where
  input : List Int
  tenths : Nat
  since : Nat
  deriving DecidableEq, Repr

/-- What a brick is doing (R315 to R318, R324): nothing, a crop (with the model's input once it is in the brick), or a
build unit of a view. -/
inductive BrickJob where
  | idle
  | crop (m : Matched) (run : Option Run)
  | unit (view : Nat) (unit : Nat)
  deriving DecidableEq, Repr

/-- A tile (R293 to R295, R306, R327): whether it has its power, BRICK_MAP, SPARE_USED, LIGHT, its bricks and their tensor SRAM, the
weight sections in the weight area of its shared SRAM by slot, the raw window in its crop staging area, the clock since which no brick
is in use, and the clock at which its reset is over. -/
structure Tile where
  on : Bool
  map : Nat
  spareUsed : Bool
  light : Bool
  jobs : List BrickJob
  tensors : List Mem
  weights : List (Nat × Bytes)
  staging : Bytes
  idleSince : Nat
  resetUntil : Nat
  deriving DecidableEq, Repr

/-! ## Tracker and valves -/

/-- One comet of an entry with its prediction (R329 to R340). -/
structure Track where
  comet : Comet
  view : Nat
  /-- ends of the valve interval in 16.16 valve units -/
  a : Int
  b : Int
  tFront : Nat
  tBack : Nat
  /-- ACTION the tracker acts on: 1 ACCEPT, 2 EJECT -/
  action : Nat
  /-- openings on this module: global valve, raw open and close time (short time) -/
  openings : List (Nat × Nat × Nat)
  /-- BELT: k_open and k_close, and whether the belt gives no time at present (R332, R333) -/
  belt : Option (Nat × Nat)
  stalled : Bool
  /-- a matched comet without a disposition, its decision time, and whether that rests on a valve-open time reported (R313, R319,
  R340) -/
  awaiting : Bool
  tDec : Nat
  opened : Bool
  /-- its comet record has been written (R353) -/
  written : Bool
  deriving DecidableEq, Repr

/-- An entry of the schedule: one comet or a fused pair (R338, R344). An entry that was not entered only keeps a comet
until its disposition (R313, R341). -/
structure Entry where
  tracks : List Track
  entered : Bool
  epoch : Nat
  armed : Bool
  /-- held for good by a change from RUN to TEACH (R84) -/
  held : Bool
  tflags : Nat
  revisions : Nat
  entryTime : Nat
  tFront : Nat
  flight : Nat
  speed : Nat
  /-- ticks planned so far: start of the first (short time), end of the last (clock) -/
  firstPlanned : Option Nat
  lastPlanned : Option Nat
  /-- it has been in the schedule, so that a track record is due (R353) -/
  recorded : Bool
  /-- its comet has gone to the modules that own valves of it, which get its update too (R319, R347) -/
  shared : Bool
  deriving DecidableEq, Repr

/-- A comet of a pair view that has not been fused (R343): its ID and origin, the clock at which its time is over, and its entry once
that has left the schedule. -/
structure Candidate where
  id : Nat
  origin : Nat
  until_ : Nat
  left : Option Entry
  deriving DecidableEq, Repr

/-- A valve bus (R357 to R370). Valve sets are 512-bit numbers. -/
structure Bus where
  /-- STATE codes of R375 but SAFE, which is in the pin: 0 DISABLED, 1 ABSENT, 2 STARTING, 3 UP, 5 SILENT, 6 RETIRED -/
  state : Nat
  /-- VB_PRES after its debounce; a RETIRED port has seen it released -/
  present : Bool
  released : Bool
  /-- a tick is in progress: its number, its start, its length and that of the next tick in ns -/
  ticking : Bool
  tick : Nat
  tickClk : Nat
  period : Nat
  nextPeriod : Nat
  /-- the frame of the next tick: VALVES, and whether it was sent -/
  frame : Nat
  frameSent : Bool
  /-- the state of the current tick, whether it has a status frame to judge, and that frame -/
  cur : Nat
  judge : Bool
  status : Option Bytes
  resync : Bool
  badTicks : Nat
  goodFrames : Nat
  /-- clock at which 100 µs of CLK and IDLE began in STARTING -/
  startAt : Option Nat
  /-- the valves of the last fixed frame, and per valve the tick at which it last closed (R337) -/
  mask : Nat
  closed : List (Nat × Nat)
  /-- per valve under test: clock since which its bit has been 1 (R369) -/
  testSince : List (Nat × Nat)
  /-- valve requests since the tick's start (R338) -/
  requests : Nat
  deriving DecidableEq, Repr

/-- A timed output (R371 to R374): the pin, the levels that its function, its events and its lamp edges place, the queue of
EDGES and the queue of lamp edges (short time and level), and the clock of the last edge. -/
structure Tout where
  pin : Bool
  edgeLevel : Bool
  eventLevel : Bool
  lampLevel : Bool
  queue : List (Nat × Bool)
  lamp : List (Nat × Bool)
  lastEdge : Option Nat
  deriving DecidableEq, Repr

/-! ## HBM -/

/-- A request waiting at an HBM port (R382): what it asks, when it arrived, how the stack will answer, and whether it has
waited for an exit from self-refresh (R391). -/
structure HbmReq where
  port : Nat
  pch : Nat
  pa : Nat
  data : Option Bytes
  arrived : Nat
  outcome : HbmOutcome
  waitedSr : Bool
  deriving DecidableEq, Repr

/-- A pseudo-channel (R387 to R391): STATE codes of R407. The debt at clock `debtClk` is `debt`; it grows 1 ns per ns
outside self-refresh. It takes commands again at `busyUntil`. The patrol scrub's round began at `scrubFrom` (R396). -/
structure Pch where
  state : Nat
  debt : Int
  debtClk : Nat
  busyUntil : Nat
  lastUse : Nat
  srEntered : Nat
  srRetry : Nat
  scrubNext : Nat
  scrubFrom : Nat
  deriving DecidableEq, Repr

/-- An HBM stack (R386, R406): STATE codes of R406. -/
structure Stack where
  state : Nat
  celsius : Int
  doubled : Bool
  deriving DecidableEq, Repr

/-- Where a ring lies (R379, R380, R401). -/
structure RingPlan where
  enabled : Bool
  share : Nat
  grain : Nat
  base : Nat
  channels : List Nat
  hold : Bool
  deriving DecidableEq, Repr

/-- A ring (R402 to R404): image rings keep slot descriptors: slot, index, state 0 EMPTY 1 WRITING 2 COMPLETE 3 MISSING, and
the stride they were written with. -/
structure Ring where
  plan : RingPlan
  writePtr : Nat
  readPtr : Nat
  slots : List (Nat × Nat × Nat)
  stride : Nat
  /-- slices that wait at a busy pseudo-channel: line, region, the clock until which its slot is WRITING (R385, R404) -/
  writing : List (Nat × Nat × Nat)
  /-- a channel has retired: reshape at the next frame start (R398) -/
  reshape : Bool
  /-- a new placement and the epoch it comes with (R401, R552) -/
  next : Option (Nat × RingPlan)
  deriving DecidableEq, Repr

/-- The HBM subsystem. -/
structure Hbm where
  mem : Mem
  dieStacks : List Stack
  pchs : List Pch
  rings : List Ring
  queue : List HbmReq
  /-- the accesses that ended with DATA_ERROR and whose requester has not yet found it: port, burst in the store (R394) -/
  failed : List (Nat × Nat)
  deriving DecidableEq, Repr

/-! ## DMA, codec, check units -/

/-- A DMA channel (R409 to R424): STATE and CAUSE codes of R437. -/
structure Dma where
  state : Nat
  cause : Nat
  code : Nat
  desc : Nat
  /-- the descriptor of the last START write (R446) -/
  started : Option Nat
  tag : Nat
  bytesDone : Nat
  residue : Nat
  outBytes : Nat
  checkValue : Nat
  checkReceived : Nat
  traversal : Nat
  /-- the descriptor in progress as it was fetched, and whether the channel holds a buffer slot -/
  current : Option Bytes
  inFlight : Bool
  /-- it waits under FOLLOW, or for a check unit -/
  following : Bool
  waiting : Bool
  /-- the check stream: bytes so far, its unit and action -/
  stream : Bytes
  unit : Option (Nat × Nat)
  /-- the UNIT of the descriptor before, where it had CONT set (R412 order 7) -/
  cont : Option Nat
  /-- bytes of the output already queued at an Ethernet port, and the clock since which no more were taken -/
  hspSent : Nat
  issuedAt : Nat
  /-- DESC: the descriptor in progress or last; `desc` is the one in progress or to be fetched (R437) -/
  shown : Nat
  /-- what the codec has made of the descriptor in progress, while it leaves through an Ethernet port (R459) -/
  coded : Option Bytes
  deriving DecidableEq, Repr

/-- A request of the codec (R425): a stream record or a DMA channel. -/
inductive CodecReq where
  | stream (stream dest eth : Nat) (record : Bytes) (bits bands width payload : Nat)
  | dma (channel : Nat)
  deriving DecidableEq, Repr

/-- The DMA engine's shared parts: descriptor table, exchange buffer, holders of the four check units (0xFF none, 0x40 valve
buses, or a channel) and who waits for each in order, the codec's queues and when it was busy. -/
structure DmaEngine where
  channels : List Dma
  table : Mem
  xbuf : Mem
  xbufLen : Nat
  holders : List Nat
  waiters : List (List Nat)
  streamQueue : List CodecReq
  dmaQueue : List CodecReq
  codecBusy : List (Nat × Nat)
  deriving DecidableEq, Repr

/-! ## Event fabric -/

/-- A counter of the event fabric (R447). -/
structure Counter where
  value : Nat
  captured : Nat
  /-- the clock at which `value` was what VALUE holds: from then on a value at or above COMPARE gives one COMPARE away a cycle -/
  since : Nat
  deriving DecidableEq, Repr

/-- An event raised and not yet delivered (R442): the clock of its cycle, the die of its source (false W, true E), the
source, its data and its short time. -/
structure Raised where
  clk : Nat
  east : Bool
  source : Nat
  data : Nat
  time : Nat
  /-- events of the same source that follow this one, one a cycle (R447) -/
  more : Nat := 0
  deriving DecidableEq, Repr

/-- The event fabric (R440 to R452): counters of die W then E, per channel its storm window and the events passed in it,
events raised and not yet delivered, the event log. -/
structure Fabric where
  counters : List Counter
  storms : List (Nat × Nat × Nat)
  raised : List Raised
  log : List (Nat × Bytes)
  logHead : Nat
  /-- the clocks at which the records kept were written, newest first (R451) -/
  logClks : List Nat
  deriving DecidableEq, Repr

/-! ## Network and time -/

/-- An ARP entry (R457): address, MAC (none while unresolved), clock of its last reply, clock of the last request. -/
structure Arp where
  ip : Nat
  mac : Option Nat
  at_ : Nat
  asked : Nat
  deriving DecidableEq, Repr

/-! ## What leaves the module -/

/-- Where an HSP datagram goes (R457, R458): destination address and its MAC address, UDP ports. -/
structure HspDest where
  ip : Nat
  mac : Nat
  sourcePort : Nat
  port : Nat
  deriving DecidableEq, Repr

/-- The head of a PTP message sent (R462): domain, the module's clock identity and port number, sequence number; an Announce names the
grandmaster, its rank (priorities and quality) and the UTC offset. -/
structure PtpHead where
  domain : Nat
  identity : Nat
  portNumber : Nat
  sequence : Nat
  announced : Option (Nat × Nat × Int)
  deriving DecidableEq, Repr

/-- Something that leaves the module during a command: responses and notifications, IBIs, packets, bus frames, pulses
and levels on pins. -/
inductive Emission where
  | i3cResponse (tag : Nat) (resp : Resp)
  | i3cNack
  | i3cIbi (bits : Nat)
  | ydpResponse (eth ip port session seq : Nat) (resp : Resp)
  | notification (session seq mask : Nat)
  | trigStart (port index fine ctrl : Nat)
  | trigEnd (port index fine : Nat)
  | cxpTrigger (port index : Nat)
  | regMessage (port tag : Nat) (write : Bool) (address : Nat) (words : Nat) (data : Bytes)
  | cxpDiscovery (port : Nat)
  | cxpConnectionConfig (port connections rate : Nat)
  | linkOpen (module comet time : Nat)
  | linkPacket (lane kind flags index offset byte12 pseq : Nat) (payload : Bytes)
  | valveFrame (bus : Nat) (frame : Bytes)
  | apply (bus tick : Nat)
  | safe (bus : Nat)
  | busSilent (bus : Nat)
  | toutLevel (output : Nat) (level : Bool) (time : Nat)
  | pgoPulse (output time : Nat)
  | hsp (port : Nat) (dest : HspDest) (header : Bytes) (data : Bytes)
  | arp (port : Nat) (request : Bool) (ip : Nat)
  | icmpReply (port ip : Nat) (payload : Bytes)
  | ptp (port kind : Nat) (time : Option Int) (correction : Int) (noChecksum : Bool) (head : PtpHead)
  | haltN (level : Bool)
  | alertN (asserted : Bool)
  | camPower (port : Nat) (level : Bool)
  | lamp (lamp : Nat) (on : Bool)
  deriving DecidableEq, Repr

/-- A frame that waits at an Ethernet port (R459, R460): the clock it came at, its place in the priorities (0 PTP, 1 ARP and ICMP, 2
YDP, 3 HSP), its bytes on the line with preamble and gap, its HSP data, what leaves. -/
structure TxFrame where
  at_ : Nat
  prio : Nat
  line : Nat
  hsp : Nat
  what : Emission
  deriving DecidableEq, Repr

/-- A grandmaster announced on a port (R462, R465): its identity, its rank, the clock of its last Announce and the currentUtcOffset that
it said. -/
structure Master where
  identity : Nat
  rank : Nat
  at_ : Nat
  utc : Int
  deriving DecidableEq, Repr

/-- An Ethernet port (R455 to R463). -/
structure Eth where
  up : Bool
  arp : List Arp
  /-- frames that wait, oldest first; the clock in ps until which the line is taken, and the HSP data of the frame under way
  (R459, R460) -/
  queue : List TxFrame
  lineFree : Nat
  underWay : Nat
  /-- bytes of HSP data taken from the transmit queue in HBM, modulo its size (R399, R459) -/
  txHead : Nat
  /-- datagrams sent by each HSP source (R458) -/
  seqs : List (Nat × Nat)
  /-- clocks of the echo replies of the last second (R456) -/
  echoes : List Nat
  /-- PTP portState (R470); the grandmasters announced here -/
  ptpState : Nat
  masters : List Master
  /-- clocks of the last periodic PTP messages, Announce, Sync, Delay_Req, Pdelay_Req, and the number of the next of each -/
  sent : List Nat
  ptpSeqs : List Nat
  /-- stamps of the exchange under way (R463): of a two-step Sync that waits for its Follow_Up, with its correction and number; of the last
  Delay_Req and Pdelay_Req sent; of a two-step Pdelay_Resp that waits for its Follow_Up, with the request's receipt and the correction -/
  syncRx : Option (Int × Int × Nat)
  delayTx : Option Int
  pdelayTx : Option Int
  pdelayRx : Option (Int × Int × Int)
  /-- the last time from the master to here, and the path delay measured (R462, R464) -/
  fromMaster : Option Int
  pathDelay : Int
  deriving DecidableEq, Repr

/-- The servo (R464 to R467): TIME_STATE codes of R473, offsets in a row within LOCK_THRESHOLD and beyond it, the
clock at which QUALIFYING began, of the last offset and of a STEP that waits. -/
structure Servo where
  state : Nat
  integ : Int
  freq : Int
  offset : Int
  run : Nat
  beyond : Nat
  qualifying : Nat
  lastSync : Nat
  stepArmed : Option Nat
  everStepped : Bool
  everLocked : Bool
  /-- the last grandmaster identity on the SLAVE port -/
  grandmaster : Option Nat
  deriving DecidableEq, Repr

/-! ## Power, pins, panel -/

/-- The settings of a die that its band selects (R494): CDR preset and core rail. -/
structure DieSettings where
  cdrPreset : Nat
  /-- core rail set-point in mV off nominal, the rail when it began to move there, and the clock of that -/
  rail : Int
  railWas : Int
  railAt : Nat
  deriving DecidableEq, Repr

/-- Supply, power states and thermal protection (R474 to R497). -/
structure PowerSys where
  powered : Bool
  qualifiedAt : Option Nat
  state : Power
  /-- what is entered when the drain ends -/
  target : Option Power
  entering : Bool
  exitAt : Option Nat
  /-- when the wake from STANDBY whose boot has not begun came (R487, R527) -/
  wokeAt : Option Nat
  deepAt : Nat
  deepModuleTime : Int
  /-- the servo's frequency at the entry into DEEP (R485) -/
  deepFreq : Int
  /-- clock of the last start of the EVT clock, from which the downlink's symbol boundaries count (R131) -/
  evtAt : Nat
  lastTrigger : Nat
  lastRequest : Nat
  /-- the cause of the present HALT and the conditions of leaving it -/
  haltClk : Nat
  tripHold : Bool
  coolRounds : Nat
  resetDuringHalt : Bool
  standbyCause : Nat
  encodersAtStandby : Nat
  bandW : Nat
  bandE : Nat
  bandBoard : Nat
  band : Nat
  /-- what the bands of die W and die E have set (R494) -/
  dies : List DieSettings
  invalidRuns : List Nat
  powerRuns : Nat
  round : Nat
  readings : List Nat
  allHeldSince : Option Nat
  lapsed : Nat
  moduleTokens : Nat
  moduleTokenClk : Nat
  deriving DecidableEq, Repr

/-- The boot in progress (R541): the last step that has ended, whether a boot has started, firmware facts. -/
structure Boot where
  started : Bool
  step : Nat
  startedAt : Nat
  afterHalt : Bool
  fallback : Bool
  slot : Nat
  failed : Bool
  wake : Bool
  /-- the check that failed at step 0x09 and its failing object (R86) -/
  check : Option (Nat × Nat)
  /-- KIND and VALUE of journal entries that wait for the journal to be up (R83, R92, R108) -/
  owed : List (Nat × Bytes)
  deriving DecidableEq, Repr

/-- A touch channel (R528 to R531): baseline in 16.8 counts, seeding scans seen, run lengths. -/
structure Touch where
  raw : Nat
  base : Nat
  /-- d of the last scan, reported as DELTA -/
  diff : Int
  seeds : List Nat
  seeded : Bool
  on : Bool
  onSince : Nat
  above : Nat
  below : Nat
  deriving DecidableEq, Repr

/-- A camera port's power switch (R533, R534). -/
structure CamPower where
  enable : Bool
  state : Nat
  retryAt : Option Nat
  enabledAt : Nat
  /-- the enable was last raised by a retry; consecutive failed retries -/
  retried : Bool
  failed : Nat
  deriving DecidableEq, Repr

/-- Host pins, keys, touch, lamps and camera power (R515 to R534). -/
structure Pins where
  resetN : Bool
  safeN : Bool
  id : Nat
  bootsel : Bool
  /-- keys held with press (KEY_STATE), keys held at the end of BOOT without press (R527) -/
  keys : Nat
  silentKeys : Nat
  pressedAt : List Nat
  longDone : Nat
  touch : List Touch
  water : Bool
  lampOn : List Bool
  lampClk : List Nat
  camera : List CamPower
  staggerNext : Option (Nat × Nat)
  deriving DecidableEq, Repr

/-- A firmware image slot of NOR (R546 to R548): valid, version, WRITING. -/
structure Image where
  valid : Bool
  version : Nat
  writing : Bool
  deriving DecidableEq, Repr

/-- The heartbeat (R88 to R90). -/
structure Heartbeat where
  restart : Nat
  late : Bool
  lost : Bool
  pausedAt : Option Nat
  deriving DecidableEq, Repr

/-- The eye scan under way (R118): lane, dwell. -/
structure Scan where
  lane : Nat
  dwell : Nat
  deriving DecidableEq, Repr

/-! ## The state -/

/-- The control cluster's part of the state. -/
structure Control where
  part : Part
  mode : Mode
  previousMode : Mode
  lastCause : Nat
  modeTime : Nat
  /-- clock at which RUN or TEACH was last entered from another mode (R84) -/
  sortingSince : Nat
  bootStatus : Nat
  sessions : List Session
  i3c : I3cPath
  lastSession : Nat
  challengeRun : Nat
  lockoutUntil : Option Nat
  transfer : Option Transfer
  blobVersions : List (Nat × Nat)
  staging : Staging
  results : List ResultObj
  journal : Journal
  errlog : ErrLog
  faults : Faults
  heartbeat : Heartbeat
  scan : Option Scan
  images : List Image
  boot : Boot
  deriving DecidableEq, Repr

/-- Eject-class bytes that crossed the die bridge toward W in the latest window of 1 ms (R15; log entry 68). -/
structure BridgeLoad where
  window : Nat
  bytes : Nat
  deriving DecidableEq, Repr

/-- The state of the module. `clk` counts the nanoseconds of module operation since power-up, `timeOffset` is module full
time less `clk` (R468), `free` is the model's own counter for free values (log entry 3), `out` is what left the module
during the latest command, `pending` the queue of commands that wait, first in, first out. -/
structure State where
  clk : Nat
  timeOffset : Int
  free : Nat
  out : List Emission
  pending : List Instr
  ctl : Control
  dict : Dict
  lanes : List Lane
  ports : List Port
  regions : List Region
  triggers : List Trigger
  encoders : List Encoder
  pgos : List Pgo
  views : List View
  cics : List Cic
  slots : List Slot
  tiles : List Tile
  dispatchQueue : List Matched
  entries : List Entry
  candidates : List Candidate
  buses : List Bus
  touts : List Tout
  hbm : Hbm
  dma : DmaEngine
  fabric : Fabric
  eths : List Eth
  servo : Servo
  power : PowerSys
  pins : Pins
  bridge : BridgeLoad
  deriving DecidableEq, Repr

/-! ## The parts right after reset -/

def Lane.reset : Lane :=
  { state := 0, signal := false, exiting := false, lowEyeSince := none, lostAt := 0, pseq := none, lastStatus := 0, sent := 0,
    alone := false, waiting := [], linkFree := 0 }

def Port.reset : Port :=
  { state := 0, stage := 0, unplugged := false, degrading := false, badProtocol := false, lanesInUse := [], carrying := [],
    atRate := false, degraded := false, rejoin := none, discovery := [], queue := [], regTag := 0, view := none,
    nextForward := 0, lines := [], forwarded := [], frames := [], marks := [], discarded := [],
    downlinkFree := 0, exposures := [] }

def Trigger.reset : Trigger :=
  { nextIndex := 0, anyIssued := false, lastClk := 0, held := none, epoch := 0, frameEpoch := 0, frameStart := 0,
    frameNo := 0, frameTime := 0, afterCut := false, frameLines := none, newFrameLines := none, endDue := none, periods := [], issues := [], positions := [],
    cxpWrites := [] }

def Encoder.reset : Encoder :=
  { a := false, b := false, z := false, position := 0, valid := false, zSeen := false, rezero := false, state := 0,
    forward := true, run := 0, absorbed := false, lastEdge := 0, lastPeriod := 0, highest := 0, illegal := [],
    synBase := 0, synCount := 0 }

def Pgo.reset : Pgo := { acc := 0, lastClk := 0, pinFall := 0 }

def BankPair.reset : BankPair := { state := 0, epoch := 0 }

def Region.reset : Region :=
  { state := 0, resetUntil := 0, awaiting := false, rejoin := none, epoch := 0, dark := BankPair.reset,
    gain := BankPair.reset, defects := BankPair.reset, setup := none, held := [none, none, none, none],
    history := [[], [], [], []], stats := none, capture := none, latency := none, gated := false, lastLine := 0,
    coloured := [], repairUntil := 0, repairBank := 0, copyBad := [] }

def SeamAcc.reset : SeamAcc := { sxx := 0, syy := 0, sxy := 0, sxe := 0, sye := 0, n := 0 }

def Seam.reset : Seam :=
  { ox := 0, ot := 0, was := [], next := none, used := [], loaded := none, acc := SeamAcc.reset, prev := [] }

def Bank.reset : Bank := { state := 0, table := [], version := 0, crc := 0, epoch := 0, lacks := [], verified := false }

def View.reset : View :=
  { degraded := false, nextStitch := none, epoch := 0, holePorts := 0,
    seams := List.replicate 12 Seam.reset, servoFrame := none, banks := [Bank.reset, Bank.reset], nextVersion := 0,
    build := none, hist := [[], [], [], []], classStats := none, prevHoles := [], segEpoch := none,
    blobs := [], nextUid := 0, closeQueue := [], tokens := 1024000000000, tokenClk := 0, issuedIds := 0, cropsKept := 0,
    slices := [], edges := [], fragments := [], taken := [], seamHoles := [], segBreaks := [] }

def Pch.reset : Pch :=
  { state := 0, debt := 0, debtClk := 0, busyUntil := 0, lastUse := 0, srEntered := 0, srRetry := 0, scrubNext := 0,
    scrubFrom := 0 }

def Stack.reset : Stack := { state := 0, celsius := 0, doubled := false }

def RingPlan.off : RingPlan := { enabled := false, share := 0, grain := 4096, base := 0x400000, channels := [], hold := false }

def Ring.reset : Ring :=
  { plan := RingPlan.off, writePtr := 0, readPtr := 0, slots := [], stride := 0, writing := [], reshape := false,
    next := none }

def Hbm.reset : Hbm :=
  { mem := [], dieStacks := List.replicate 2 Stack.reset, pchs := List.replicate 64 Pch.reset,
    rings := List.replicate 24 Ring.reset, queue := [], failed := [] }

def Eth.reset : Eth :=
  { up := false, arp := [], queue := [], lineFree := 0, underWay := 0, txHead := 0, seqs := [], echoes := [], ptpState := 3, masters := [],
    sent := [0, 0, 0, 0], ptpSeqs := [0, 0, 0, 0], syncRx := none, delayTx := none, pdelayTx := none, pdelayRx := none,
    fromMaster := none, pathDelay := 0 }

def Servo.reset : Servo :=
  { state := 0, integ := 0, freq := 0, offset := 0, run := 0, beyond := 0, qualifying := 0, lastSync := 0,
    stepArmed := none, everStepped := false, everLocked := false, grandmaster := none }

def Counter.reset : Counter := { value := 0, captured := 0, since := 0 }

def Fabric.reset : Fabric :=
  { counters := List.replicate 16 Counter.reset, storms := [], raised := [], log := [], logHead := 0,
    logClks := [] }

def Cic.reset : Cic :=
  { order := 0, ratio := 0, integ := [], comb := [], g := 0, warmup := 0, sinceHole := [], changes := [] }

def Dma.reset : Dma :=
  { state := 0, cause := 0, code := 0, desc := 0, started := none, tag := 0, bytesDone := 0, residue := 0, outBytes := 0,
    checkValue := 0, checkReceived := 0, traversal := 0, current := none, inFlight := false, following := false,
    waiting := false, stream := [], unit := none, cont := none, hspSent := 0, issuedAt := 0,
    shown := 0, coded := none }

def DmaEngine.reset : DmaEngine :=
  { channels := List.replicate 32 Dma.reset, table := [], xbuf := [], xbufLen := 1048576,
    holders := [0xFF, 0xFF, 0xFF, 0xFF], waiters := [[], [], [], []], streamQueue := [], dmaQueue := [], codecBusy := [] }

def Slot.reset : Slot := { state := 0, model := [], cycles := 0, cost := 0, endedAt := 0, norState := 0, nor := none,
                           replicas := [] }

def Tile.reset : Tile :=
  { on := true, map := 0xFF, spareUsed := false, light := true, jobs := List.replicate 8 .idle,
    tensors := List.replicate 8 [], weights := [], staging := [],
    idleSince := 0, resetUntil := 0 }

def Bus.reset : Bus :=
  { state := 0, present := false, released := false, ticking := false, tick := 0, tickClk := 0, period := 0, nextPeriod := 0,
    frame := 0, frameSent := false, cur := 0, judge := false, status := none, resync := false, badTicks := 0,
    goodFrames := 0, startAt := none, mask := 0, closed := [], testSince := [], requests := 0 }

def Tout.reset : Tout :=
  { pin := false, edgeLevel := false, eventLevel := false, lampLevel := false, queue := [], lamp := [], lastEdge := none }

def I3cPath.reset : I3cPath := { previous := none, answer := none, response := none, covers := none, ends := none, moves := false, ibi := 0 }

def Session.i3c : Session :=
  { id := .i3c, eth := 0, ip := 0, port := 0, clientNonce := 0, mask := 0, idleTime := 0, level := .operator,
    challenge := none, highSeq := 0, kept := [], notified := 0, lastRequest := 0, snapshots := [], segWrite := none,
    journalCursor := 0, logCursor := 0, eventCursor := 0, blobSeen := [] }

def Dict.reset : Dict :=
  { inForce := [], committed := [], staged := [], mram := [], mramPast := [], mramWrites := [], mramFlight := none, mramTorn := none,
    sets := [{ epoch := 0, params := [], views := [], switched := [], landed := true }] }

def Staging.reset : Staging :=
  { holder := none, lastWrite := 0, check := none, armed := [], lastEpoch := 0, pipelinesStopped := false }

def Journal.reset : Journal := { head := 0, ring := [], mirrored := 0, mirror := [], replaced := none, lastMirror := 0, digest := none }

def ErrLog.reset : ErrLog :=
  { queue := [], reserve := [], tokens := 640000000, tokenClock := 0, slots := [], replaced := none, lastWrite := 0 }

def Faults.reset : Faults :=
  { windows := [], corrected := [], retired := [], map := [], mapPast := [], mapEnds := 0, mapClear := false, stormAlerts := [] }

def Heartbeat.reset : Heartbeat := { restart := 0, late := false, lost := false, pausedAt := none }

def Image.reset : Image := { valid := true, version := 0, writing := false }

def Boot.reset : Boot :=
  { started := false, step := 0, startedAt := 0, afterHalt := false, fallback := false, slot := 0, failed := false,
    wake := false, check := none, owed := [] }

def Touch.reset : Touch :=
  { raw := 0, base := 0, diff := 0, seeds := [], seeded := false, on := false, onSince := 0, above := 0, below := 0 }

def CamPower.reset : CamPower := { enable := false, state := 0, retryAt := none, enabledAt := 0, retried := false, failed := 0 }

/-- The input pins at the levels their pulls give (R516, R523), with RESET_N high and the straps to ground (log entry 5). -/
def Pins.reset : Pins :=
  { resetN := true, safeN := false, id := 0, bootsel := false, keys := 0, silentKeys := 0,
    pressedAt := List.replicate 8 0, longDone := 0, touch := List.replicate 4 Touch.reset, water := false,
    lampOn := List.replicate 4 false, lampClk := List.replicate 4 0, camera := List.replicate 12 CamPower.reset,
    staggerNext := none }

/-- The settings of band NORMAL (R494). -/
def DieSettings.reset : DieSettings := { cdrPreset := 1, rail := 0, railWas := 0, railAt := 0 }

def PowerSys.reset : PowerSys :=
  { powered := true, qualifiedAt := some 0, state := .active, target := none, entering := false, exitAt := none, wokeAt := none,
    deepAt := 0, deepModuleTime := 0, deepFreq := 0, evtAt := 0, lastTrigger := 0, lastRequest := 0, haltClk := 0, tripHold := false, coolRounds := 0,
    resetDuringHalt := false, standbyCause := 0, encodersAtStandby := 0, bandW := 1, bandE := 1, bandBoard := 1, band := 1,
    dies := [DieSettings.reset, DieSettings.reset], invalidRuns := List.replicate 19 0, powerRuns := 0, round := 0, readings := List.replicate 24 0x8000,
    allHeldSince := none, lapsed := 1, moduleTokens := 4096000000000, moduleTokenClk := 0 }

def Control.reset : Control :=
  { part := .f, mode := .boot, previousMode := .boot, lastCause := 2, modeTime := 0, sortingSince := 0, bootStatus := 0,
    sessions := [Session.i3c], i3c := I3cPath.reset, lastSession := 0, challengeRun := 0, lockoutUntil := none,
    transfer := none, blobVersions := [], staging := Staging.reset, results := [], journal := Journal.reset,
    errlog := ErrLog.reset, faults := Faults.reset, heartbeat := Heartbeat.reset, scan := none,
    images := [Image.reset, Image.reset], boot := Boot.reset }

/-- The module right after reset: an HB-480-F (log entry 2) with its input qualified and its crystal stable, in mode BOOT
before the first step of the boot (R540), nothing in MRAM, and every register at its default (R47). -/
def State.reset : State :=
  { clk := 0, timeOffset := 0, free := 0, out := [], pending := [], ctl := Control.reset, dict := Dict.reset,
    lanes := List.replicate 52 Lane.reset, ports := List.replicate 12 Port.reset,
    regions := List.replicate 12 Region.reset, triggers := List.replicate 4 Trigger.reset,
    encoders := List.replicate 4 Encoder.reset, pgos := List.replicate 4 Pgo.reset, views := List.replicate 4 View.reset,
    cics := List.replicate 8 Cic.reset, slots := List.replicate 8 Slot.reset, tiles := List.replicate 48 Tile.reset,
    dispatchQueue := [], entries := [], candidates := [], buses := List.replicate 4 Bus.reset,
    touts := List.replicate 16 Tout.reset, hbm := Hbm.reset, dma := DmaEngine.reset, fabric := Fabric.reset,
    eths := List.replicate 2 Eth.reset, servo := Servo.reset, power := PowerSys.reset, pins := Pins.reset,
    bridge := { window := 0, bytes := 0 } }

end Sys2Proof.Machine
end

