-- ==== Sys2Proof/Machine/Defaults.lean ====
section
/-! DEFINITION. The defaults that are no plain number in the object tables, and which objects are absent on a part. -/

namespace Sys2Proof.Machine

/-- Whether the East half is fitted (R3): not on HB-240-S. -/
def Part.hasEast : Part → Bool
  | .f => true | .n => true | .s => false

/-- Whether the codec is fitted (R3): HB-480-F. -/
def Part.hasCodec : Part → Bool
  | .f => true | .n => false | .s => false

/-- Whether the system link is fitted (R3). -/
def Part.hasSyslink : Part → Bool
  | .f => true | .n => false | .s => false

/-- PRESENCE (0x1010:01, R3): [0] EAST, [1] CODEC, [2] SYSLINK. -/
def Part.presence (p : Part) : Nat :=
  (if p.hasEast then 1 else 0) + (if p.hasCodec then 2 else 0) + (if p.hasSyslink then 4 else 0)

/-- Camera lanes, ports, regions, tiles and pseudo-channels fitted (R49 and the instance maps). -/
def Part.lanes (p : Part) : Nat := if p.hasEast then 48 else 24
def Part.ports (p : Part) : Nat := if p.hasEast then 12 else 6
def Part.regions (p : Part) : Nat := if p.hasEast then 12 else 6
def Part.tiles (p : Part) : Nat := if p.hasEast then 48 else 24
def Part.pchs (p : Part) : Nat := if p.hasEast then 64 else 32
def Part.stacks (p : Part) : Nat := if p.hasEast then 2 else 1
def Part.syslinks (p : Part) : Nat := if p.hasSyslink then 4 else 0

/-- The characters of PART. -/
def Part.name : Part → Bytes
  | .f => asciiBytes "HB-480-F" | .n => asciiBytes "HB-480-N" | .s => asciiBytes "HB-240-S"

/-- A list of I16 coefficients as bytes. -/
def coeffBytes (l : List Int) : Bytes := l.flatMap (fun c => leBytes 2 (ofSigned 16 c))

/-- The linear-interpolation phases of R198, R204 and R242: `phases` phases of `taps` taps, tap `t` of phase `ph` being
16,384 less `step * ph`, tap `t + 1` being `step * ph`. -/
def linearCoeffs (phases taps t step : Nat) : Bytes :=
  (List.range phases).flatMap (fun ph =>
    coeffBytes ((List.range taps).map (fun k =>
      if k = t then (16384 : Int) - (step * ph : Nat) else if k = t + 1 then ((step * ph : Nat) : Int) else 0)))

/-- The identity map of R199, four slots. -/
def identityMap : Bytes :=
  (List.range 4).flatMap (fun _ => leBytes 8 0 ++ leBytes 8 (2 ^ 40) ++ leBytes 8 0 ++ leBytes 8 0)

/-- A Q3.12 identity of `rows` rows and `cols` columns. -/
def identityRows (rows cols : Nat) : Bytes :=
  (List.range rows).flatMap (fun r => coeffBytes ((List.range cols).map (fun c => if c = r then 0x1000 else 0)))

/-- The identity tone curves of P+0x11:01: 4 bands of 4,096 entries of 16 i. -/
def identityTone : Bytes :=
  (List.range 4).flatMap (fun _ => (List.range 4096).flatMap (fun i => leBytes 2 (16 * i)))

/-- Channel owned by MODULE (R441). Channels are numbered as CHANNEL of R451: EW 0 to 127, EE 128 to 255, BW 256 to 271,
BE 272 to 287, SY 288 to 295. -/
def eventModuleOwned (ch : Nat) : Bool :=
  (decide (120 ≤ ch) && decide (ch ≤ 127)) || (decide (248 ≤ ch) && decide (ch ≤ 255)) ||
  ch = 270 || ch = 271 || ch = 286 || ch = 287 || (decide (292 ≤ ch) && decide (ch ≤ 295))

/-- SECURE channel (R441): EW120 to EW123, BW15, EE120, BE15. -/
def eventSecure (ch : Nat) : Bool :=
  (decide (120 ≤ ch) && decide (ch ≤ 123)) || ch = 271 || ch = 248 || ch = 287

/-- The defaults of the tables that are no plain number. `id` is the module ID of the straps. -/
def specialDefault (part : Part) (id key : Nat) : Val :=
  let index := key / 256
  let sub := key % 256
  if index = 0x1000 then
    if sub = 1 then .bytes (asciiBytes "Chovar")
    else if sub = 2 then .bytes part.name
    else if sub = 3 then .bytes ((List.range 12).map Config.serial)
    else if sub = 4 then .num Config.hwRev.toNat
    else if sub = 7 then .num Config.dictVersion.toNat
    else if sub = 8 then .num id
    else .num 0
  else if index = 0x1010 then
    if sub = 1 then .num part.presence
    else if sub = 2 then .num (2 ^ part.lanes - 1)
    else if sub = 3 then .num (2 ^ part.ports - 1)
    else if sub = 4 then .num (2 ^ part.regions - 1)
    else if sub = 5 then .num (2 ^ part.tiles - 1)
    else if sub = 6 then .num (2 ^ part.pchs - 1)
    else .num (2 ^ part.syslinks - 1)
  else if index = 0x1040 then .num (if sub = 1 then 0x30 + id else 0)
  else if 0x3000 ≤ index ∧ index < 0x3300 then
    let off := (index - 0x3000) % 0x40
    if off = 0x0D then (if sub = 2 then .bytes (linearCoeffs 64 8 3 256) else .bytes identityMap)
    else if off = 0x0E then .bytes (linearCoeffs 16 4 1 1024)
    else if off = 0x10 then .bytes (identityRows 4 4 ++ zeros 16)
    else .bytes identityTone
  else if 0x4000 ≤ index ∧ index < 0x4400 then
    let off := (index - 0x4000) % 0x100
    if off = 0x01 then .bytes ((List.range 12).flatMap (fun _ => leBytes 2 256))
    else if off = 0x02 then .bytes (zeros 48)
    else if off = 0x10 then .bytes (identityRows 3 4 ++ zeros 12)
    else if off = 0x11 then .bytes (zeros 524288)
    else if off = 0x21 then .num ((index - 0x4000) / 0x100 * 2 ^ 30)
    else .bytes (0xFF :: zeros 15)
  else if 0x4800 ≤ index ∧ index < 0x4900 then .bytes (linearCoeffs 64 32 15 256)
  else if index = 0x5000 then
    if sub = 5 then .num (8 * part.tiles) else .num (2 ^ part.regions - 1)
  else if index = 0x7000 then
    .num (natAt [2000, 1500, 4000, 6000, 8000, 8000, 20000] (sub - 1))
  else if 0x7010 ≤ index ∧ index ≤ 0x7011 then .num (if index = 0x7010 then 67108864 else 121634816)
  else if 0x7080 ≤ index ∧ index ≤ 0x7097 then
    let r := index - 0x7080
    if sub = 1 then .num (if 12 ≤ r ∧ r ≤ 19 then 268435456 else 0) else .num (if r ≤ 3 then 0 else 1)
  else if index = 0x7110 then (if sub = 2 then .bytes (zeros 32) else .bytes (zeros 65536))
  else if index = 0x7120 then .bytes (zeros 1048576)
  else if 0x8100 ≤ index ∧ index < 0x8228 then
    let ch := index - 0x8100
    if sub = 6 then .num (if eventSecure ch then 1 else 0) else .num (if eventModuleOwned ch then 1 else 0)
  else if index = 0x9010 ∨ index = 0x9020 then
    if sub = 1 then .num (if index = 0x9010 then 1 else 0)
    else if sub = 4 then .num (Config.mac ((index - 0x9010) / 0x10)).toNat
    else .num (if index = 0x9010 then 0xC0A80A64 else 0xC0A80B64)
  else if index = 0x1210 then .bytes ((List.range 26).flatMap (fun _ => leBytes 2 0x8000))
  else .num 0

/-- The default of an object (R47). -/
def defaultVal (part : Part) (id key : Nat) : Val :=
  match Catalog.row key with
  | none => .num 0
  | some r =>
    match r.dflt with
    | .num n => .num n
    | .zeros n => .bytes (zeros n)
    | .empty => .bytes []
    | .none => .num 0
    | .special => specialDefault part id key

/-- Whether an object's unit or instance is absent on a part (R4, R49, R453). -/
def absentOn (part : Part) (index : Nat) : Bool :=
  if 0x2000 ≤ index ∧ index < 0x2300 then decide (part.lanes ≤ (index - 0x2000) / 0x10)
  else if 0x2300 ≤ index ∧ index < 0x2340 then !part.hasSyslink
  else if 0x3000 ≤ index ∧ index < 0x3300 then decide (part.ports ≤ (index - 0x3000) / 0x40)
  else if 0x1340 ≤ index ∧ index < 0x134C then decide (part.regions ≤ index - 0x1340)
  else if 0x5200 ≤ index ∧ index < 0x5230 then decide (part.tiles ≤ index - 0x5200)
  else if 0x7010 ≤ index ∧ index ≤ 0x7011 then decide (part.stacks ≤ index - 0x7010)
  else if 0x7020 ≤ index ∧ index < 0x7060 then decide (part.pchs ≤ index - 0x7020)
  else if index = 0x7400 then !part.hasCodec
  else if 0x8028 ≤ index ∧ index ≤ 0x802F then !part.hasEast
  else if 0x8180 ≤ index ∧ index ≤ 0x81FF then !part.hasEast
  else if 0x8200 ≤ index ∧ index ≤ 0x821F then !part.hasEast
  else if 0x8220 ≤ index ∧ index ≤ 0x8227 then !part.hasSyslink
  else if 0xA030 ≤ index ∧ index < 0xA03C then decide (part.ports ≤ index - 0xA030)
  else false

/-- Whether an object is absent on a part (R4): its unit is, or it is BAND_E and there is no East die (R499). -/
def absentKey (part : Part) (index sub : Nat) : Bool :=
  absentOn part index || (decide (index = 0x1210) && decide (sub = 3) && !part.hasEast)

end Sys2Proof.Machine
end

