-- ==== Sys2Proof/Machine/Kv.lean ====
section
/-! DEFINITION. The two sparse stores: values by object key, bytes by address. Both are lists in rising order; the byte
store lists no entry that an unlisted address reads as (log entry 4). -/

namespace Sys2Proof.Machine

/-- The value listed for a key. -/
def Kv.get? : Kv → Nat → Option Val
  | [], _ => none
  | (k, v) :: r, key => if k = key then some v else Kv.get? r key

/-- The store with a key's value set, keys rising. -/
def Kv.put : Kv → Nat → Val → Kv
  | [], key, v => [(key, v)]
  | (k, w) :: r, key, v =>
    if key < k then (key, v) :: (k, w) :: r
    else if key = k then (key, v) :: r
    else (k, w) :: Kv.put r key v

/-- The store without a key. -/
def Kv.drop (m : Kv) (key : Nat) : Kv := m.filter (fun p => p.1 ≠ key)

/-- `m` with every entry of `top` in place of its own. -/
def Kv.overlay (m top : Kv) : Kv := top.foldl (fun acc p => Kv.put acc p.1 p.2) m

/-- The byte at an address; 0 where none is listed. -/
def Mem.read : Mem → Nat → Byte
  | [], _ => 0
  | (k, b) :: r, a => if k = a then b else Mem.read r a

/-- The store with a byte set: 0 removes the entry, any other byte stands at its place in rising order. -/
def Mem.write : Mem → Nat → Byte → Mem
  | [], a, b => if b = 0 then [] else [(a, b)]
  | (k, c) :: r, a, b =>
    if a < k then (if b = 0 then (k, c) :: r else (a, b) :: (k, c) :: r)
    else if a = k then (if b = 0 then r else (a, b) :: r)
    else (k, c) :: Mem.write r a b

/-- A byte string written from an address on. -/
def Mem.writeBytes : Mem → Nat → Bytes → Mem
  | m, _, [] => m
  | m, a, b :: r => Mem.writeBytes (Mem.write m a b) (a + 1) r

/-- The byte string of `n` bytes from an address on. -/
def Mem.readBytes (m : Mem) (a : Nat) : Nat → Bytes
  | 0 => []
  | n + 1 => Mem.read m a :: Mem.readBytes m (a + 1) n

/-- Whether a store is canonical above a bound: addresses strictly rising from it, no zero entry. -/
def Mem.wfFrom : Nat → Mem → Bool
  | _, [] => true
  | lo, (k, b) :: r => decide (lo ≤ k) && decide (b ≠ 0) && Mem.wfFrom (k + 1) r

/-- The canonical form of a byte store. -/
def Mem.wf (m : Mem) : Bool := Mem.wfFrom 0 m

/-- A byte string as a store. -/
def Mem.ofBytes (b : Bytes) : Mem := Mem.writeBytes [] 0 b

end Sys2Proof.Machine
end

