-- ==== Sys2Proof/Machine/Ops.lean ====
section
/-! DEFINITION. The shared operations of the control cluster: time, dictionary values, counters, emissions, interrupts and
notifications (R59, R68), the journal (R102 to R104), result objects (R75 to R79), alerts and the error log (R507 to R510),
upsets and retirement (R501 to R505). -/

namespace Sys2Proof.Machine

/-! ## Time -/

/-- `dt` ns pass, and what left the module before is gone (log entry 1). -/
def State.elapse (dt : Nat) (s : State) : State := { s with clk := s.clk + dt, out := [] }

/-- Module full time in ns (R468). -/
def State.fullNow (s : State) : Nat := ((s.clk : Int) + s.timeOffset).toNat

/-- Short time: full time modulo 2^32 ns (R29). -/
def State.shortNow (s : State) : Nat := s.fullNow % wrap32

/-- The short time of an instant of the module's own clock. -/
def State.shortAt (s : State) (clk : Nat) : Nat := ((clk : Int) + s.timeOffset).toNat % wrap32

/-! ## Codes -/

def Mode.code : Mode → Nat
  | .boot => 0 | .standby => 1 | .config => 2 | .teach => 3 | .run => 4 | .test => 5 | .recovery => 6 | .halt => 7

def Mode.ofCode : Nat → Mode
  | 0 => .boot | 1 => .standby | 2 => .config | 3 => .teach | 4 => .run | 5 => .test | 6 => .recovery | _ => .halt

def Power.code : Power → Nat
  | .active => 0 | .light => 1 | .doze => 2 | .deep => 3

/-- Whether the modes of R81 with a running control cluster and pipelines hold. -/
def Mode.operating : Mode → Bool
  | .config => true | .teach => true | .run => true | .test => true | .recovery => true
  | .boot => false | .standby => false | .halt => false

/-- Result codes. -/
abbrev Code.ok : Nat := 0
abbrev Code.noObject : Nat := 0x00010001
abbrev Code.noSubindex : Nat := 0x00010002
abbrev Code.objectAbsent : Nat := 0x00010003
abbrev Code.readOnly : Nat := 0x00020001
abbrev Code.writeOnly : Nat := 0x00020002
abbrev Code.accessLevel : Nat := 0x00020003
abbrev Code.wrongMode : Nat := 0x00020004
abbrev Code.stagingLocked : Nat := 0x00020005
abbrev Code.notStaging : Nat := 0x00020006
abbrev Code.challengeFailed : Nat := 0x00020007
abbrev Code.typeMismatch : Nat := 0x00030001
abbrev Code.outOfRange : Nat := 0x00030002
abbrev Code.tooLong : Nat := 0x00030003
abbrev Code.notReady : Nat := 0x00040001
abbrev Code.seqMismatch : Nat := 0x00040002
abbrev Code.busy : Nat := 0x00040003
abbrev Code.timeout : Nat := 0x00040004
abbrev Code.sequenceOrder : Nat := 0x00050001
abbrev Code.noSession : Nat := 0x00050002
abbrev Code.sessionLimit : Nat := 0x00050003
abbrev Code.frameCheck : Nat := 0x00050004
abbrev Code.segmentOrder : Nat := 0x00060001
abbrev Code.blockIncomplete : Nat := 0x00060002
abbrev Code.badCheck : Nat := 0x00060003
abbrev Code.transferBusy : Nat := 0x00060004
abbrev Code.valueChanged : Nat := 0x00060005
abbrev Code.instantPassed : Nat := 0x00070001
abbrev Code.tableNotReady : Nat := 0x00070002
abbrev Code.epochsInFlight : Nat := 0x00070003
abbrev Code.checkFailed : Nat := 0x00080000
abbrev Code.loop : Nat := 0x00090001
abbrev Code.busError : Nat := 0x00090002
abbrev Code.domainLost : Nat := 0x00090003
abbrev Code.incompressible : Nat := 0x00090004
abbrev Code.dataError : Nat := 0x00090005

/-! ## Dictionary values -/

/-- A value as a number; a byte string counts as 0. -/
def Val.toNat : Val → Nat
  | .num n => n
  | .bytes _ => 0

/-- A value as a byte string; a number counts as empty. -/
def Val.toBytes : Val → Bytes
  | .num _ => []
  | .bytes b => b

/-- The default of an object on this module (R47). -/
def State.dfltOf (s : State) (key : Nat) : Val := defaultVal s.ctl.part s.pins.id key

/-- The value of an object in a store, defaults where nothing is listed. -/
def State.valIn (s : State) (kv : Kv) (key : Nat) : Val := (Kv.get? kv key).getD (s.dfltOf key)

/-- The value in force of an object (R40, R552). -/
def State.val (s : State) (key : Nat) : Val := s.valIn s.dict.inForce key

/-- The value in force as a number. -/
def State.num (s : State) (key : Nat) : Nat := (s.val key).toNat

/-- The value in force of a BOOL. -/
def State.flag (s : State) (key : Nat) : Bool := s.num key ≠ 0

/-- The value in force as a byte string. -/
def State.octets (s : State) (key : Nat) : Bytes := (s.val key).toBytes

/-- The value in force as a signed number of `w` bits. -/
def State.int (s : State) (w key : Nat) : Int := toSigned w (s.num key)

/-- The parameter set of an epoch (R22, R27); the latest committed values where the epoch is no longer kept. -/
def State.paramsOf (s : State) (epoch : Nat) : Kv :=
  match s.dict.sets.find? (fun e => e.epoch = epoch) with
  | some e => e.params
  | none => s.dict.committed

/-- The value of an object in the parameter set of an epoch (R22). -/
def State.paramVal (s : State) (epoch key : Nat) : Val := s.valIn (s.paramsOf epoch) key

def State.param (s : State) (epoch key : Nat) : Nat := (s.paramVal epoch key).toNat
def State.paramBytes (s : State) (epoch key : Nat) : Bytes := (s.paramVal epoch key).toBytes
def State.paramInt (s : State) (w epoch key : Nat) : Int := toSigned w (s.param epoch key)

/-- A value set in force: status, counters, results of the module's own. -/
def State.putVal (s : State) (key : Nat) (v : Val) : State :=
  { s with dict := { s.dict with inForce := Kv.put s.dict.inForce key v } }

def State.putNum (s : State) (key n : Nat) : State := s.putVal key (.num n)

/-- The value before a write goes to the slot that is no longer current, and the write is counted in 32 bits (R478). -/
def Dict.slotted (d : Dict) (key : Nat) : Dict :=
  { d with
    mramPast := match Kv.get? d.mram key with | some w => Kv.put d.mramPast key w | none => d.mramPast
    mramWrites := Kv.put d.mramWrites key (.num ((((Kv.get? d.mramWrites key).map Val.toNat).getD 0 + 1) % 2 ^ 32)) }

/-- A value set in force and kept in MRAM: persistent status and counters (R47). What answers a request is answered after the write, and
the slot with the later count is the one `mram` holds (R478). -/
def State.putKept (s : State) (key : Nat) (v : Val) : State :=
  { s with dict := { s.dict.slotted key with inForce := Kv.put s.dict.inForce key v, mram := Kv.put s.dict.mram key v } }

/-- A persistent value that the module sets itself: its write to MRAM is in flight for 250 ns (R107, R478, log entry 75). -/
def State.keepOwn (s : State) (key : Nat) (v : Val) : State :=
  let t := s.putKept key v
  { t with dict := { t.dict with mramFlight := some (key, s.clk + 250) } }

/-- The object whose newer slot a loss of power now tears (R107, R478): its data word and its commit word follow each other evenly, and the
one in flight completes, so the record is whole once the commit word has begun. -/
def Dict.tornAt (d : Dict) (clk : Nat) : Option Nat :=
  match d.mramFlight with
  | some (key, ends) => if clk + 125 < ends then some key else d.mramTorn
  | none => d.mramTorn

/-- The objects as a boot takes them: the complete slot with the later count, so the value before where the newer one is torn (R478). -/
def Dict.recovered (d : Dict) : Dict :=
  match d.mramTorn with
  | none => d
  | some key =>
    { d with
      mram := match Kv.get? d.mramPast key with | some v => Kv.put d.mram key v | none => d.mram.filter (fun p => p.1 ≠ key)
      mramPast := d.mramPast.filter (fun p => p.1 ≠ key)
      mramWrites := Kv.put d.mramWrites key (.num (((Kv.get? d.mramWrites key).map Val.toNat).getD 0 - 1))
      mramTorn := none }

/-- A counter's value after `n` more, saturating at its width's ones (R80). -/
def satAdd (w a n : Nat) : Nat := min (2 ^ w - 1) (a + n)

/-- A U32 counter raised by `n` (R511). -/
def State.bumpBy (s : State) (key n : Nat) : State := s.putNum key (satAdd 32 (s.num key) n)

/-- A U32 counter raised by 1. -/
def State.bump (s : State) (key : Nat) : State := s.bumpBy key 1

/-- A U32 counter raised by 1 when a condition holds. -/
def State.bumpIf (s : State) (c : Bool) (key : Nat) : State := if c then s.bump key else s

/-- A persistent U32 counter raised by `n`. -/
def State.bumpKept (s : State) (key n : Nat) : State := s.keepOwn key (.num (satAdd 32 (s.num key) n))

/-- Status flags set (R511). -/
def State.orFlags (s : State) (key bits : Nat) : State := s.putNum key (s.num key ||| bits)

/-- A maximum kept in an object. -/
def State.peak (s : State) (key v : Nat) : State := if s.num key < v then s.putNum key v else s

/-- The next free value's number: the state's own counter advances (log entry 3). -/
def State.drawn (s : State) : State := { s with free := s.free + 1 }

/-! ## Units -/

abbrev Unit.lane : Nat := 1
abbrev Unit.syslink : Nat := 2
abbrev Unit.brick : Nat := 3
abbrev Unit.tileSram : Nat := 4
abbrev Unit.tile : Nat := 5
abbrev Unit.pch : Nat := 6
abbrev Unit.dma : Nat := 7
abbrev Unit.bus : Nat := 8
abbrev Unit.encoder : Nat := 9
abbrev Unit.channel : Nat := 10
abbrev Unit.port : Nat := 11
abbrev Unit.region : Nat := 12
abbrev Unit.die : Nat := 13
abbrev Unit.package : Nat := 14

/-- Whether a unit is retired (R505). -/
def State.retired (s : State) (unit inst : Nat) : Bool := s.ctl.faults.retired.contains (unit, inst)

/-! ## What leaves the module -/

def State.emit (s : State) (e : Emission) : State := { s with out := s.out ++ [e] }

/-! ## Frames for an Ethernet port -/

def State.eth (s : State) (p : Nat) : Eth := s.eths.getD p Eth.reset
def State.modEth (s : State) (p : Nat) (f : Eth → Eth) : State := { s with eths := s.eths.modify p f }

/-- What a frame takes on the line (R455, R458): its payload with MAC header and FCS, at least 64 bytes, the preamble and the gap. -/
def frameLine (payload : Nat) : Nat := Nat.max 64 (payload + 18) + 20

/-- What a UDP datagram over IPv4 takes on the line. -/
def udpLine (payload : Nat) : Nat := frameLine (payload + 28)

/-- A frame joins those that wait at a port (R460): HSP waits for the link (R459); any other frame for a port whose link is down is
gone (log entry 31). -/
def State.send (s : State) (p prio line hsp : Nat) (e : Emission) : State :=
  if (s.eth p).up ∨ prio = 3 then
    s.modEth p (fun x => { x with queue := x.queue ++ [{ at_ := s.clk, prio := prio, line := line, hsp := hsp, what := e }] })
  else s

/-! ## Events for the fabric -/

/-- Whether a channel of the event fabric takes a source (R444); the channels that listen are listed in the dictionary. -/
def State.listens (s : State) (source : Nat) : Bool :=
  s.dict.inForce.any (fun p => decide (0x8100 ≤ p.1 / 256) && decide (p.1 / 256 < 0x8228) && decide (p.1 % 256 = 1) &&
    decide (p.2 = .num source))

/-- Whether a commit waits whose full-time instant has come: it comes into force in this cycle (R26, R452). -/
def State.instantDue (s : State) : Bool :=
  s.ctl.staging.armed.any (fun a => decide (a.kind = 3) && !a.instantDone && decide (a.instant ≤ s.fullNow))

/-- An event of a source raised `delay` cycles from now, for delivery by the fabric (R442); nothing is raised while the EVT clock is
stopped (R452), and one that no channel takes is gone, unless the routing changes in this cycle. `carried` is the event a chaining
channel carries on, and 0 where the source is its own (R451). -/
def State.raiseAt (s : State) (delay : Nat) (east : Bool) (source carried data : Nat) : State :=
  if s.ctl.mode.operating && decide (s.power.state ≠ .deep) && (s.listens source || s.instantDue) then
    { s with fabric := { s.fabric with
      raised := s.fabric.raised ++ [{ clk := s.clk + delay, east := east, source := source + 65536 * carried, data := data,
                                      time := s.shortAt (s.clk + delay) }] } }
  else s

/-- An event of a source raised in this cycle. -/
def State.raise (s : State) (east : Bool) (source data : Nat) : State := s.raiseAt 0 east source 0 data

/-- VALUE of a counter at a clock: from `since` on it has given COMPARE away once a cycle while it was at or above it (R447). -/
def Counter.at_ (c : Counter) (compare clk : Nat) : Nat := c.value - Nat.min (c.value / compare) (clk - c.since) * compare

/-- A counter of a die, 0 to 7 of W and 8 to 15 of E, with VALUE as it is now, and its COMPARE events that are still to come taken back
(R447). -/
def State.counterHeld (s : State) (compare i : Nat) : State :=
  let mine := fun (r : Raised) => decide (r.source = 0x060 + i % 8) && decide (r.east = decide (8 ≤ i))
  { s with fabric := { s.fabric with
      counters := s.fabric.counters.modify i (fun c => { c with value := c.at_ compare s.clk, since := s.clk }),
      raised := (s.fabric.raised.filter (fun r => !mine r || decide (r.clk ≤ s.clk))).map (fun r =>
        if mine r then { r with more := Nat.min r.more (s.clk - r.clk) } else r) } }

/-- A counter with VALUE at or above COMPARE raises one COMPARE a cycle from the next cycle on (R447). -/
def State.counterArmed (s : State) (compare i : Nat) : State :=
  let n := (s.fabric.counters.getD i Counter.reset).value / compare
  if n = 0 ∨ !(s.listens (0x060 + i % 8) || s.instantDue) then s
  else
    { s with fabric := { s.fabric with
      raised := s.fabric.raised ++ [{ clk := s.clk + 1, east := decide (8 ≤ i), source := 0x060 + i % 8, data := 0,
                                      time := s.shortAt (s.clk + 1), more := n - 1 }] } }

/-! ## Interrupts and notifications -/

abbrev Ibi.responseReady : Nat := 0
abbrev Ibi.alert : Nat := 1
abbrev Ibi.resultReady : Nat := 2
abbrev Ibi.modeChanged : Nat := 3
abbrev Ibi.dmaDone : Nat := 4
abbrev Ibi.heartbeatLate : Nat := 5
abbrev Ibi.wakeDone : Nat := 6

/-- A bit collected for the next IBI when IBI_ENABLE has it; RESPONSE_READY always (R59, R60). -/
def State.ibi (s : State) (bit : Nat) : State :=
  if bit = 0 ∨ bitOf (s.num Obj.i3cIbiEnable) bit then
    { s with ctl := { s.ctl with i3c := { s.ctl.i3c with ibi := setBit s.ctl.i3c.ibi bit } } }
  else s

/-- The notification of an event to one session: its own counter, when its mask has the bit; bit 0 is ignored (R64, R68). -/
def Session.notified_ (bit : Nat) (x : Session) : Session :=
  if bit ≠ 0 ∧ bitOf x.mask bit ∧ x.id ≠ .i3c then { x with notified := (x.notified + 1) % wrap32 } else x

/-- The notification datagram of one session, if it gets one. -/
def Session.notice (bit : Nat) (x : Session) : List Emission :=
  match x.id with
  | .ydp n => if bit ≠ 0 ∧ bitOf x.mask bit then [.notification n ((x.notified + 1) % wrap32) (2 ^ bit)] else []
  | .i3c => []

/-- A notification datagram to each open session whose mask has the bit, on the port the session was last heard on (R68). -/
def State.notify (s : State) (bit : Nat) : State :=
  let s1 := { s with ctl := { s.ctl with sessions := s.ctl.sessions.map (Session.notified_ bit) } }
  s.ctl.sessions.foldl (fun acc x => (Session.notice bit x).foldl (fun acc e => acc.send x.eth 2 (udpLine 20) 0 e) acc) s1

/-- An event of the IBI data byte: its bit for I3C and its notification for YDP (R59, R68). -/
def State.event (s : State) (bit : Nat) : State := (s.ibi bit).notify bit

/-! ## The journal -/

/-- The 32 bytes of a journal entry (R103). -/
def journalEntry (seq time source kind session key outcome form mode epoch : Nat) (value : Bytes) : Bytes :=
  leBytes 4 seq ++ leBytes 4 time ++ leBytes 1 source ++ leBytes 1 kind ++ leBytes 2 session ++
  leBytes 2 (key / 256) ++ leBytes 1 (key % 256) ++ leBytes 1 outcome ++ leBytes 1 form ++ leBytes 1 mode ++
  leBytes 2 epoch ++ leBytes 4 0 ++ (value ++ zeros 8).take 8

/-- FORM and VALUE of a journalled value: inline up to 8 bytes, otherwise LENGTH and CRC-32C with DIGEST set (R103). -/
def journalForm (v : Bytes) : Nat × Bytes :=
  if v.length ≤ 8 then (v.length, v) else (0x80, leBytes 4 v.length ++ leBytes 4 (crc32c v))

/-- An entry appended to the journal; the ring keeps the newest 8,192 (R104). -/
def State.journalPut (s : State) (source kind session key outcome form : Nat) (value : Bytes) : State :=
  let seq := (s.ctl.journal.head + 1) % wrap32
  let e := journalEntry seq s.shortNow source kind session key outcome form s.ctl.mode.code s.ctl.staging.lastEpoch value
  { s with ctl := { s.ctl with journal :=
      { s.ctl.journal with head := seq, ring := ((seq, e) :: s.ctl.journal.ring).take 8192 } } }

/-- An entry the module makes itself: SOURCE MODULE (R103). Its INDEX and SUB are free (log entry 3). -/
def State.journalOwn (s : State) (kind : Nat) (value : Bytes) : State :=
  s.journalPut 4 kind 0 (Config.ownEntryKey kind).toNat 0 value.length value

/-- SOURCE of a request (R103). -/
def srcCode : Src → Nat
  | .i3c _ => 1
  | .ydp eth _ _ _ _ => 2 + eth

/-- SESSION of a request (R103). -/
def srcSession : Src → Nat
  | .i3c _ => 0
  | .ydp _ _ _ n _ => n

/-- The session a request belongs to (R68). -/
def srcId : Src → SessId
  | .i3c _ => .i3c
  | .ydp _ _ _ n _ => .ydp n

/-- An accepted request journalled with its value (R102). -/
def State.journalReq (s : State) (src : Src) (kind key : Nat) (value : Bytes) : State :=
  let f := journalForm value
  s.journalPut (srcCode src) kind (srcSession src) key 0 f.1 f.2

/-- An accepted request whose outcome is a failure: OUTCOME 0x01 and its code in VALUE (R102, R103). -/
def State.journalFailed (s : State) (src : Src) (kind key code : Nat) : State :=
  s.journalPut (srcCode src) kind (srcSession src) key 1 4 (leBytes 4 code)

/-! ## Sessions -/

/-- The session of a name. -/
def State.session? (s : State) (id : SessId) : Option Session := s.ctl.sessions.find? (fun x => x.id = id)

/-- A session changed. -/
def State.modSession (s : State) (id : SessId) (f : Session → Session) : State :=
  { s with ctl := { s.ctl with sessions := s.ctl.sessions.map (fun x => if x.id = id then f x else x) } }

/-! ## Result objects -/

/-- A result object that has completed nothing. -/
def ResultObj.none_ (key : Nat) : ResultObj :=
  { key := key, last := 0, presented := none, pending := none, dropped := 0, alreadyRead := false, lastEpoch := none,
    lastDropped := 0, lastRead := false }

/-- The result object of a key; the key is RESULT's. -/
def State.result (s : State) (key : Nat) : ResultObj :=
  (s.ctl.results.find? (fun r => r.key = key)).getD (ResultObj.none_ key)

/-- A result object set. -/
def State.putResult (s : State) (r : ResultObj) : State :=
  { s with ctl := { s.ctl with results := r :: s.ctl.results.filter (fun x => x.key ≠ r.key) } }

/-- A result completed: presented at once when no unacknowledged result is, otherwise pending; a replaced pending result
counts in DROPPED and keeps its number (R76). DESIGN CHOICE (log entry 58): the spec gives SEQ no value after 0xFFFF_FFFF; it goes on at 0. -/
def ResultObj.complete (r : ResultObj) (epoch : Option Nat) (data : Bytes) : ResultObj :=
  let seq := (r.last + 1) % wrap32
  match r.presented with
  | none =>
    { r with last := seq, lastEpoch := epoch, alreadyRead := false, dropped := 0,
             presented := some { seq := seq, epoch := epoch, dropped := r.dropped, data := data } }
  | some _ =>
    { r with last := seq, lastEpoch := epoch,
             dropped := (match r.pending with | some _ => satAdd 16 r.dropped 1 | none => r.dropped),
             pending := some { seq := seq, epoch := epoch, dropped := 0, data := data } }

/-- A BLOB replaced: the count that BLOCK_READ compares (R74). -/
def State.blobReplaced (s : State) (key : Nat) : State :=
  { s with ctl := { s.ctl with
    blobVersions := assocPut s.ctl.blobVersions key ((assoc s.ctl.blobVersions key).getD 0 + 1) } }

/-- A result completed in an object; presenting it sets RESULT_READY (R59, R76). -/
def State.completeResult (s : State) (key : Nat) (epoch : Option Nat) (data : Bytes) : State :=
  let r := s.result key
  let s1 := s.putResult (r.complete epoch data)
  match r.presented with
  | none => s1.event Ibi.resultReady
  | some _ => s1

/-- The header of R75. -/
def resultHeader (seq state dropped : Nat) (alreadyRead : Bool) (epoch : Option Nat) (length : Nat) : Bytes :=
  leBytes 4 seq ++ leBytes 1 state ++
  leBytes 1 ((if alreadyRead then 1 else 0) + (if dropped ≠ 0 then 2 else 0) + (if epoch.isSome then 4 else 0)) ++
  leBytes 2 dropped ++ leBytes 2 (epoch.getD 0) ++ leBytes 2 0 ++ leBytes 4 length

/-- The value of RESULT while a result is presented (R77). -/
def ResultObj.value (r : ResultObj) : Option Bytes :=
  r.presented.map (fun p => resultHeader p.seq 1 p.dropped r.alreadyRead p.epoch p.data.length ++ p.data)

/-- The header of a NOT_READY answer (R78): the last completed result's, with STATE ACKED and LENGTH 0, or NONE. -/
def ResultObj.lastHeader (r : ResultObj) : Bytes :=
  if r.last = 0 then resultHeader 0 0 0 false none 0 else resultHeader r.last 2 r.lastDropped r.lastRead r.lastEpoch 0

/-- The presented result released; a pending one is presented at once (R79). -/
def ResultObj.release (r : ResultObj) : ResultObj :=
  match r.pending with
  | some p => { r with presented := some { p with dropped := r.dropped }, pending := none, dropped := 0,
                       alreadyRead := false }
  | none =>
    { r with presented := none, alreadyRead := false, lastRead := r.alreadyRead,
             lastDropped := (r.presented.map (·.dropped)).getD 0 }

/-! ## Alerts -/

abbrev Alert.hostLost : Nat := 0
abbrev Alert.retired : Nat := 1
abbrev Alert.degraded : Nat := 2
abbrev Alert.camera : Nat := 3
abbrev Alert.valveBoard : Nat := 4
abbrev Alert.table : Nat := 5
abbrev Alert.cometRate : Nat := 6
abbrev Alert.guarantee : Nat := 7
abbrev Alert.thermal : Nat := 8
abbrev Alert.sensor : Nat := 9
abbrev Alert.power : Nat := 10
abbrev Alert.time : Nat := 11
abbrev Alert.storm : Nat := 12
abbrev Alert.classifier : Nat := 13
abbrev Alert.syslink : Nat := 14
abbrev Alert.ring : Nat := 15
abbrev Alert.bridge : Nat := 16
abbrev Alert.halted : Nat := 17
abbrev Alert.log : Nat := 18

/-- Whether ALERT_N is asserted: ALERTS AND ALERT_MASK is not 0 (R507). -/
def State.alertPin (s : State) : Bool := (s.num Obj.alAlerts &&& s.num Obj.alAlertMask) ≠ 0

/-- The pin's new level, emitted when it differs from the level before. -/
def State.alertPinFrom (s : State) (before : Bool) : State :=
  if s.alertPin = before then s else s.emit (.alertN s.alertPin)

/-- An alert raised: its bit, its counter, ALERT in the IBI byte and the notification, and the pin (R507). The unpowered
control cluster of STANDBY and HALT raises none (R81). -/
def State.alert (s : State) (bit : Nat) : State :=
  let before := s.alertPin
  if s.ctl.mode = .halt ∨ s.ctl.mode = .standby then s
  else ((((s.orFlags Obj.alAlerts (2 ^ bit)).bump (objKey 0x1311 (bit + 1))).event Ibi.alert).alertPinFrom before).raise false
    0x092 0

/-- Eject-class traffic crosses the die bridge toward W (R15): what passes 4 GB/s in a window is carried at bulk priority, which only its
time would show, counted and alerted. DESIGN CHOICE (log entry 68): the window is 1 ms, and one message counts once. -/
def State.ejectTraffic (s : State) (n : Nat) : State :=
  let w := s.clk / 1000000
  let bytes := (if s.bridge.window = w then s.bridge.bytes else 0) + n
  let s1 := { s with bridge := { window := w, bytes := bytes } }
  if 4000000 < bytes then (s1.bump Obj.fltBridgeEjectOverflow).alert Alert.bridge else s1

/-! ## The error log -/

/-- A log record without its SEQ (R509). -/
def logRecord (time kind unit inst cause mode count : Nat) (detail : Bytes) : Bytes :=
  leBytes 4 0 ++ leBytes 4 time ++ leBytes 1 kind ++ leBytes 1 unit ++ leBytes 2 inst ++ leBytes 1 cause ++
  leBytes 1 mode ++ leBytes 2 (min 65535 count) ++ (detail ++ zeros 24).take 24

/-- The queue without its newest UPSET record, if it has one (R510). The queue is oldest first. -/
def dropNewestUpset (q : List Bytes) : Option (List Bytes) :=
  let rec go : List Bytes → Option (List Bytes)
    | [] => none
    | r :: rest => if u8At r 8 = 1 then some rest else (go rest).map (r :: ·)
  (go q.reverse).map List.reverse

/-- A record queued for MRAM; UPSET records may be suppressed, the others displace or wait in the reserve (R510). -/
def State.logPut (s : State) (kind unit inst cause count : Nat) (detail : Bytes) : State :=
  let r := logRecord s.shortNow kind unit inst cause s.ctl.mode.code count detail
  let l := s.ctl.errlog
  if l.queue.length < 64 ∧ l.reserve = [] then
    { s with ctl := { s.ctl with errlog := { l with queue := l.queue ++ [r] } } }
  else if kind = 1 then (s.bump Obj.logSuppressed).alert Alert.log
  else
    match (if l.reserve = [] then dropNewestUpset l.queue else none) with
    | some q => { s with ctl := { s.ctl with errlog := { l with queue := q ++ [r] } } }
    | none => { s with ctl := { s.ctl with errlog := { l with reserve := l.reserve ++ [r] } } }

/-! ## Upsets and retirement -/

/-- The upset times of a unit within its window, newest first (R501). -/
def Faults.times (f : Faults) (unit inst : Nat) : List Nat := (assoc f.windows (unit, inst)).getD []

/-- One upset more: only those that lie at most `window` before it stay. -/
def upsetTimes (now window : Nat) (old : List Nat) : List Nat :=
  now :: old.filter (fun t => decide (now ≤ t + window))

/-- An upset of a unit: counted in UPSETS, logged with its COUNT, kept in the window (R501, R509). -/
def State.upset (s : State) (unit inst window : Nat) (detail : Bytes) : State :=
  let ts := upsetTimes s.clk window (s.ctl.faults.times unit inst)
  let s1 := s.bump Obj.fltUpsets
  let s2 := { s1 with ctl := { s1.ctl with faults :=
    { s1.ctl.faults with windows := assocPut s1.ctl.faults.windows (unit, inst) ts } } }
  s2.logPut 1 unit inst 0 ts.length detail

/-- The retirement map that a loss of power now leaves: the slot before, where the newer one is torn (R107, R478, R504). -/
def Faults.mapLeft (f : Faults) (clk : Nat) : List (Nat × Nat) := if clk + 125 < f.mapEnds then f.mapPast else f.map

/-- Whether a unit has reached its threshold within its window (R501). -/
def State.overThreshold (s : State) (unit inst n : Nat) : Bool :=
  decide (n ≤ (s.ctl.faults.times unit inst).length)

/-- Whether a unit kind's retirement is kept in the retirement map: a region's only when its resets retired it (R503, R504). -/
def keptRetirement (unit cause : Nat) : Bool :=
  unit = 3 || unit = 4 || unit = 5 || unit = 6 || unit = 7 || unit = 10 || (unit = 12 && cause = 2)

/-- A unit retired: entered among the retired, in the map when kept, counted, logged and alerted; a unit that is already
retired is not retired again (R502, R505, R507). -/
def State.retire (s : State) (unit inst cause : Nat) (detail : Bytes) : State :=
  if s.retired unit inst then s
  else
    let f := s.ctl.faults
    let count := (f.times unit inst).length
    let s1 := { s with ctl := { s.ctl with faults :=
      { f with retired := f.retired ++ [(unit, inst)],
               map := if keptRetirement unit cause then f.map ++ [(unit, inst)] else f.map,
               mapPast := if keptRetirement unit cause then f.map else f.mapPast,
               mapEnds := if keptRetirement unit cause then s.clk + 250 else f.mapEnds } } }
    ((s1.bumpKept Obj.fltRetirements 1).logPut 2 unit inst cause count detail).alert Alert.retired

/-- A retirement that a replug or a boot takes back (R367, R503). -/
def State.unretire (s : State) (unit inst : Nat) : State :=
  { s with ctl := { s.ctl with faults :=
    { s.ctl.faults with retired := s.ctl.faults.retired.filter (fun p => p ≠ (unit, inst)) } } }

def State.modPower (s : State) (f : PowerSys → PowerSys) : State := { s with power := f s.power }

/-- A condition of R349 lapses (R351). -/
def State.lapse (s : State) (bit : Nat) : State :=
  (((s.putNum Obj.gtrGuarantee 1).orFlags Obj.gtrLapseCause (2 ^ bit)).bump Obj.gtrLapses).alert Alert.guarantee

/-- A condition that lapses in a moment: comet rates (2) or valve requests (3). It lapses once until the guarantee holds
again. -/
def State.lapseEvent (s : State) (bit : Nat) : State :=
  let s1 := if bitOf s.power.lapsed bit then s else s.lapse bit
  s1.modPower (fun p => { p with lapsed := setBit p.lapsed bit, allHeldSince := some s.clk })

/-- The retired regions (R506). -/
def State.retiredRegions (s : State) : Nat :=
  ((List.range s.ctl.part.regions).filter (fun r => s.retired Unit.region r)).length

end Sys2Proof.Machine
end

