-- ==== Sys2Proof/Machine/Lanes.lean ====
section
/-! DEFINITION. Camera and system-link lanes: power, signal, alignment, eye, retirement (R110 to R118), and the degrade of
a port that loses a lane (R140). Lanes 0 to 47 are camera lanes, 48 to 51 the system link's. -/

namespace Sys2Proof.Machine

/-- Object `sub` of lane `n`; the system link's lanes follow the camera lanes (R117). -/
def laneKey (n sub : Nat) : Nat := objKey (0x2000 + 0x10 * n) sub

def State.lane (s : State) (n : Nat) : Lane := s.lanes.getD n Lane.reset
def State.modLane (s : State) (n : Nat) (f : Lane → Lane) : State := { s with lanes := s.lanes.modify n f }
def State.port (s : State) (p : Nat) : Port := s.ports.getD p Port.reset
def State.modPort (s : State) (p : Nat) (f : Port → Port) : State := { s with ports := s.ports.modify p f }

/-- A lane's UNIT and INSTANCE of R509. -/
def laneUnit (n : Nat) : Nat := if n < 48 then Unit.lane else Unit.syslink
def laneInst (n : Nat) : Nat := if n < 48 then n else n - 48

/-- The lanes of a port's quad (R9). -/
def quad (p : Nat) : List Nat := [4 * p, 4 * p + 1, 4 * p + 2, 4 * p + 3]

/-- The power a lane's HOLD and the module's power state give it (R114): 0 OFF, 1 STANDBY, 2 ACTIVE. -/
def lanePower (hold : Nat) (p : Power) : Nat :=
  let base := match p with | .active => 2 | .light => 2 | .doze => 1 | .deep => 0
  if hold = 2 then 0 else if hold = 1 then min 1 base else base

/-- The lane put into the power it is to have. Leaving STANDBY or OFF takes an exit (R114); a retired lane stays OFF. -/
def Lane.toPower (target : Nat) (x : Lane) : Lane :=
  if x.state = 5 then x
  else if target = 2 then
    if x.state = 0 ∨ x.state = 1 then { x with exiting := true } else x
  else { x with state := target, exiting := false, lowEyeSince := none, pseq := none }

/-- A lane set to the power of its HOLD and of the module (R114). -/
def State.powerLane (s : State) (n : Nat) : State :=
  s.modLane n (Lane.toPower (lanePower (s.num (laneKey n 2)) s.power.state))

/-- Every fitted lane set to its power. -/
def State.powerLanes (s : State) : State :=
  (List.range s.ctl.part.lanes ++ rangeFrom 48 s.ctl.part.syslinks).foldl State.powerLane s

/-! ## Capacity -/

/-- The bytes of a line (R120). -/
def lineBytes (width bands bits : Nat) : Nat := 4 * ceilDiv (ceilDiv (width * bands * bits) 8) 4

/-- The capacity rule of check 8 (R120) for a line rate of `f` Hz: HLP (mode 2) by whole packets, CoaXPress (mode 1) by
payload; LINK_MODE NONE carries nothing and passes. -/
def lineFits (mode width bands bits rate lanes f : Nat) : Bool :=
  let b := lineBytes width bands bits
  if mode = 2 then decide (ceilDiv (ceilDiv b 3072) lanes * 31040 * f ≤ rate * 999500)
  else if mode = 1 then decide (b * 8 * f ≤ lanes * rate * 768000)
  else true

/-- The view whose chain holds a port, by the values a lookup gives (R16). -/
def viewOfPortBy (look : Nat → Nat) (p : Nat) : Option Nat :=
  (List.range 4).find? (fun v =>
    let first := look (Obj.viewFirstPort v)
    first ≠ 0xFF && decide (first ≤ p) && decide (p < first + look (Obj.viewPorts v)))

/-- The view a port belongs to now. -/
def State.viewOfPort (s : State) (p : Nat) : Option Nat := viewOfPortBy s.num p

/-- Whether a view is configured (R554). -/
def viewConfiguredBy (look : Nat → Nat) (v : Nat) : Bool :=
  look (Obj.viewFirstPort v) ≠ 0xFF && decide (0 < look (Obj.viewPorts v))

/-- The ports of a view, left to right. -/
def portsOfViewBy (look : Nat → Nat) (v : Nat) : List Nat :=
  if viewConfiguredBy look v then rangeFrom (look (Obj.viewFirstPort v)) (look (Obj.viewPorts v)) else []

def State.portsOfView (s : State) (v : Nat) : List Nat := portsOfViewBy s.num v

/-- Whether a port's line fits `n` lanes at its view's trigger rate (R120, R140); a port in no view fits. -/
def State.fitsLanes (s : State) (p n : Nat) : Bool :=
  match s.viewOfPort p with
  | none => true
  | some v =>
    lineFits (s.num (Obj.portLinkMode p)) (s.num (Obj.portWidth p)) (s.num (Obj.portBands p)) (s.num (Obj.portBits p))
      (s.num (Obj.portRate p)) n (s.num (Obj.trgMaxRate v))

/-- The lanes of a port that carry its camera and are not retired. -/
def State.carryingLanes (s : State) (p : Nat) : List Nat :=
  (s.port p).carrying.filter (fun n => (s.lane n).state ≠ 5)

/-- The lanes a port takes for `n` lanes, when it has them (R119): HLP the lowest-numbered that carry the camera, CoaXPress
the first `n` of the quad, each of which carries a connection. -/
def State.lanesFor (s : State) (p n : Nat) : Option (List Nat) :=
  let have_ := s.carryingLanes p
  if s.num (Obj.portLinkMode p) = 1 then
    if (rangeFrom (4 * p) n).all (fun k => have_.contains k) then some (rangeFrom (4 * p) n) else none
  else if n ≤ have_.length then some (have_.take n) else none

/-- The largest lane count R140 permits, if there is one; a CoaXPress port needs its master lane. -/
def State.degradedCount (s : State) (p : Nat) : Option Nat :=
  [4, 3, 2, 1].find? (fun n =>
    bitOf (s.num (Obj.portDegradeMask p)) (n - 1) && bitOf (s.num (Obj.portCameraLaneCap p)) (n - 1) &&
    (s.lanesFor p n).isSome && s.fitsLanes p n)

/-! ## Retirement of ports and regions -/

/-- A region retired with its RETIRE_CAUSE (R13, R514): its span is a hole and its tiles leave the array. -/
def State.retireRegion (s : State) (r cause : Nat) : State :=
  if s.retired Unit.region r then s
  else
    let s1 := s.retire Unit.region r cause []
    let s2 := s1.keepOwn (Obj.regRetireCause r) (.num cause)
    { s2 with regions := s2.regions.modify r (fun g => { g with state := 2 }) }

/-! ## The link-up's register messages -/

/-- A register message put into a port's queue; the module's own go ahead of a REG_ACCESS that has not been sent (R134). -/
def State.queueReg (s : State) (p : Nat) (a : RegAccess) : State :=
  s.modPort p (fun x =>
    let sent := x.queue.filter (fun q => q.sentAt.isSome)
    let own := x.queue.filter (fun q => q.sentAt.isNone && q.own)
    let rest := x.queue.filter (fun q => q.sentAt.isNone && !q.own)
    let t := (x.regTag + 1) % 256
    { x with regTag := t,
             queue := if a.own then sent ++ own ++ [{ a with tag := t }] ++ rest
                      else sent ++ own ++ rest ++ [{ a with tag := t }] })

/-- The first waiting register message sent, when none is outstanding (R130, R134). -/
def State.sendReg (s : State) (p : Nat) : State :=
  match (s.port p).queue with
  | [] => s
  | a :: rest =>
    if a.sentAt.isSome then s
    else
      (s.modPort p (fun x => { x with queue := { a with sentAt := some s.clk } :: rest })).emit
        (if a.standard = 1 then .cxpDiscovery p
         else if a.standard = 2 then .cxpConnectionConfig p a.words a.address
         else .regMessage p a.tag a.isWrite a.address a.words a.data)

/-- The messages of a link-up given up: a REG_ACCESS of the host's stays, and is sent and timed out as ever (R134). -/
def State.dropOwnRegs (s : State) (p : Nat) : State :=
  (s.modPort p (fun x => { x with queue := x.queue.filter (fun a => !a.own) })).sendReg p

/-- A port retired, and its region with it (R13, R140). A port has no RETIRE_CAUSE of its own, so its record has CAUSE 0 (log
entry 30). -/
def State.retirePort (s : State) (p cause : Nat) : State :=
  if s.retired Unit.port p then s
  else
    let s1 := s.retire Unit.port p 0 []
    let s2 := s1.modPort p (fun x => { x with state := 8, stage := 0, rejoin := none, lanesInUse := [] })
    (s2.dropOwnRegs p).retireRegion p cause

/-- A register message of the module's own. -/
def ownReg (isWrite : Bool) (address words : Nat) (data : Bytes) (frame : Option Nat) : RegAccess :=
  { standard := 0, isWrite := isWrite, address := address, words := words, data := data, tag := 0, retried := false,
    own := true, frame := frame, sentAt := none }

/-- What the CoaXPress standard has the module send in steps 3 and 5 of R143 (R135): 1 its discovery, 2 the connection
configuration for `n` connections at a rate. -/
def standardReg (kind n rate : Nat) : RegAccess :=
  { ownReg (decide (kind = 2)) rate n [] none with standard := kind }

/-- The rate code of RATE_CONFIG (R129). -/
def rateCode (rate : Nat) : Nat := if rate = 16000 then 0 else if rate = 20000 then 1 else 2

/-- The mask of lanes within their quad. -/
def quadMask (p : Nat) (lanes : List Nat) : Nat := lanes.foldl (fun m n => m ||| 2 ^ (n - 4 * p)) 0

/-- Step 3 of R143: the bootstrap registers of an HLP camera are read, 120 bytes in two messages (log entry 21); a
CoaXPress camera is sent the discovery of its standard (R135). Messages of an earlier link-up are given up. -/
def State.startDiscovery (s : State) (p : Nat) : State :=
  let s1 := s.modPort p (fun x => { x with
    state := 3, stage := 3, discovery := [], rejoin := none, queue := x.queue.filter (fun a => !a.own) })
  if s.num (Obj.portLinkMode p) = 2 then
    ((s1.queueReg p (ownReg false 0 16 [] none)).queueReg p (ownReg false 0x40 14 [] none)).sendReg p
  else (s1.queueReg p (standardReg 1 0 0)).sendReg p

/-- The lane count of step 5: that of R140 for a port that relinks after a lane's retirement; otherwise LANES when the camera
and its lanes allow it, and the count of R140 when they do not (R553). -/
def State.linkCount (s : State) (p : Nat) : Option Nat :=
  let want := s.num (Obj.portLanes p)
  if !(s.port p).degrading && (s.lanesFor p want).isSome && bitOf (s.num (Obj.portCameraLaneCap p)) (want - 1) then some want
  else s.degradedCount p

/-- Step 5 of R143: the lanes are chosen, and LANES_CONFIG and RATE_CONFIG, or the standard's connection configuration, are
written. Without a count the port waits in DISCOVERY (R553). A port that relinks after a retirement is DEGRADED whatever its
count (R140). -/
def State.configureLink (s : State) (p : Nat) : State :=
  let own := s.modPort p (fun x => { x with queue := x.queue.filter (fun a => !a.own) })
  match (s.linkCount p).bind (fun n => (s.lanesFor p n).map (fun l => (n, l))) with
  | none => (own.modPort p (fun x => { x with state := 3, stage := 4 })).sendReg p
  | some (n, lanes) =>
    let s1 := own.modPort p (fun x =>
      { x with state := 3, stage := 5, lanesInUse := lanes, rejoin := none,
               degraded := x.degrading || decide (n ≠ s.num (Obj.portLanes p)) })
    if s.num (Obj.portLinkMode p) = 2 then
      ((s1.queueReg p (ownReg true 0x68 1 (leBytes 4 (quadMask p lanes)) none)).queueReg p
        (ownReg true 0x6C 1 (leBytes 4 (rateCode (s.num (Obj.portRate p)))) none)).sendReg p
    else (s1.queueReg p (standardReg 2 n (s.num (Obj.portRate p)))).sendReg p

/-- The second half of step 5: the lanes retrain at the port's RATE (R143). -/
def State.retrainLink (s : State) (p : Nat) : State :=
  let s1 := (s.port p).lanesInUse.foldl (fun acc n =>
    (acc.modLane n (fun x => if x.state = 4 then { x with state := 3, pseq := none } else x)).putNum (laneKey n 3)
      (s.num (Obj.portRate p))) s
  s1.modPort p (fun x => { x with stage := 51, atRate := true })

/-- The end of step 6. -/
def State.endLinkUp (s : State) (p : Nat) : State :=
  match s.viewOfPort p with
  | some _ => s.modPort p (fun x => { x with stage := 0, state := 5 })
  | none => s.modPort p (fun x => { x with
      stage := 0, state := if x.degraded then 7 else 6, unplugged := false, degrading := false, rejoin := none })

/-- Step 6 of R143: STREAM_ENABLE is set, of an HLP camera alone; a port of a view then waits for its frame, a port of no view is up
(R553). -/
def State.enableStream (s : State) (p : Nat) : State :=
  let s1 := s.modPort p (fun x => { x with stage := 6, state := 5 })
  if s.num (Obj.portLinkMode p) = 2 then
    (s1.queueReg p (ownReg true 0x70 1 (leBytes 4 1) none)).sendReg p
  else s1.endLinkUp p

/-- Step 1 of R143: the lanes of the quad are powered and train at 16,000 Mbaud. What an earlier link-up sent is given up. DESIGN CHOICE
(log entry 64): RATE keeps its value until the lane is ALIGNED (R110). -/
def State.startLinkUp (s : State) (p : Nat) : State :=
  let s1 := (quad p).foldl (fun acc n =>
    (acc.powerLane n).modLane n (fun x =>
      if x.state = 2 ∧ x.signal then { x with state := 3, pseq := none }
      else if x.state = 4 then { x with state := 3, pseq := none } else x)) s
  (s1.modPort p (fun x => { x with
    state := 2, stage := 1, carrying := [], lanesInUse := [], atRate := false, degraded := false, degrading := false,
    badProtocol := false, rejoin := none })).dropOwnRegs p

/-- A port degrades when a lane it uses retires: it relinks with the largest lane count that serves, or retires (R140). -/
def State.degradePort (s : State) (p : Nat) : State :=
  match s.degradedCount p with
  | none => s.retirePort p 1
  | some _ => (s.modPort p (fun x => { x with degraded := true, degrading := true, lanesInUse := [] })).startDiscovery p

/-! ## Lane errors -/

/-- Whether an error of a lane counts as an upset: not while it leaves a power state, not when retired, not while its port
is unplugged or its region in reset (R116, R502). -/
def State.laneCounts (s : State) (n : Nat) : Bool :=
  let x := s.lane n
  !x.exiting && decide (2 ≤ x.state) && decide (x.state ≠ 5) &&
  (decide (48 ≤ n) || (!(s.port (n / 4)).unplugged && decide ((s.regions.getD (n / 4) Region.reset).resetUntil ≤ s.clk)))

/-- The DETAIL of a lane's log record (R509). -/
def State.laneDetail (s : State) (n : Nat) : Bytes :=
  leBytes 2 (s.num (laneKey n 6)) ++ leBytes 2 (s.num (laneKey n 7))

/-- The system-link lanes are all retired that lead to a partner: the lane to module k is SLk (R32, R37). -/
def State.partnerLost (s : State) (k : Nat) : Bool := (s.lane (48 + k)).state = 5

/-- The lanes of a quad that step 2 of R143 waits for: they show signal, and are powered or on their way out of OFF. -/
def State.showing (s : State) (p : Nat) : List Nat :=
  (quad p).filter (fun n => (s.lane n).signal && decide ((s.lane n).state ≠ 5) &&
    (decide (2 ≤ (s.lane n).state) || (s.lane n).exiting))

/-- Step 2 of R143 ends when every lane that shows signal is aligned: those lanes carry the camera (R119). -/
def State.endTraining (s : State) (p : Nat) : State :=
  if (s.port p).stage = 1 ∧ s.showing p ≠ [] ∧ (s.showing p).all (fun k => (s.lane k).state = 4) then
    (s.modPort p (fun x => { x with carrying := s.showing p })).startDiscovery p
  else s

/-- A camera lane that has retired: a port in whose use it was degrades, a CoaXPress port whose master lane it is retires, and a
link-up waits for it no more (R136, R140, R143). -/
def State.laneGone (s : State) (n : Nat) : State :=
  let x := s.port (n / 4)
  if x.state = 8 then s
  else if s.num (Obj.portLinkMode (n / 4)) = 1 ∧ n % 4 = 0 then s.retirePort (n / 4) 1
  else if x.lanesInUse.contains n then s.degradePort (n / 4)
  else s.endTraining (n / 4)

/-- A lane retired and held OFF (R116, R140). -/
def State.retireLane (s : State) (n cause : Nat) : State :=
  if (s.lane n).state = 5 then s
  else
    let s1 := (s.modLane n (fun x => { x with state := 5, exiting := false, lowEyeSince := none })).keepOwn
      (laneKey n 13) (.num cause)
    let s2 := s1.retire (laneUnit n) (laneInst n) cause (s.laneDetail n)
    if n < 48 then s2.laneGone n else s2

/-- A realignment (R111, R116): REALIGNS counts it, PSEQ is forgotten, the lane trains anew; as an upset it may retire the
lane, at the 17th within 10 s. -/
def State.realign (s : State) (n : Nat) : State :=
  let counts := s.laneCounts n
  let s1 := (s.bump (laneKey n 9)).modLane n (fun x => { x with pseq := none, state := if x.state = 4 then 3 else x.state })
  if counts then
    let s2 := s1.upset (laneUnit n) (laneInst n) 10000000000 (s.laneDetail n)
    if s2.overThreshold (laneUnit n) (laneInst n) 17 then s2.retireLane n 1 else s2
  else s1

/-- A packet that fails its CRC: counted on the lane, and on its port in PACKETS_CRC alone; the lane realigns (R111,
R116, R139). -/
def State.laneCrc (s : State) (n : Nat) : State :=
  let s1 := s.bump (laneKey n 10)
  (if n < 48 then s1.bump (Obj.portPacketsCrc (n / 4)) else s1).realign n

/-- Whether a lane that an up port uses has lost its signal alone: it has not counted yet, and no unplug was declared (R116, R141). -/
def State.lostAlone (s : State) (n : Nat) : Bool :=
  let x := s.lane n
  decide (x.state = 2) && !x.alone && !(s.port (n / 4)).unplugged && (s.port (n / 4)).lanesInUse.contains n

/-- A lane that has lost its signal alone: a loss of alignment, once; its eye height has been 0 since (R116, R141; log entry 64). -/
def State.loneLoss (s : State) (n : Nat) : State :=
  (s.modLane n (fun x => { x with
    alone := true, lowEyeSince := if 0 < s.num (laneKey n 8) then some x.lostAt else none })).realign n

/-- The eye of a lane measured: a lane in NO_SIGNAL reports height 0; the time below EYE_FLOOR runs or ends; readings of
an unplugged port do not count (R113, R116). A lane whose signal has been gone for more than 10 ms without an unplug has lost it alone
(R141). -/
def State.eyeMeasured (s0 : State) (n height width : Nat) : State :=
  let s := if s0.lostAlone n && decide ((s0.lane n).lostAt + 10000000 < s0.clk) then s0.loneLoss n else s0
  let x := s.lane n
  let h := if x.state = 4 then height else 0
  let s1 := (s.putNum (laneKey n 6) h).putNum (laneKey n 7) width
  let low := decide (h < s.num (laneKey n 8)) && s.laneCounts n && (decide (x.state = 4) || x.alone)
  s1.modLane n (fun y => { y with lowEyeSince := if low then (some (y.lowEyeSince.getD s.clk)) else none })

/-- A lane in NO_SIGNAL from now on; it reports height 0 (R113, R141). -/
def State.darkLane (s : State) (n : Nat) : State :=
  (s.putNum (laneKey n 6) 0).modLane n (fun x => { x with
    state := 2, exiting := false, lostAt := s.clk, pseq := none, lowEyeSince := none, alone := false })

/-- A lane loses its signal (R141); a lane that is not powered notes the swing alone. No port stands behind a lane of the system link:
its loss is an error of the lane at once (R116). -/
def State.loseSignal (s : State) (n : Nat) : State :=
  let s1 := s.modLane n (fun x => { x with signal := false })
  if (s.lane n).state = 3 ∨ (s.lane n).state = 4 then
    (if 48 ≤ n then (s1.darkLane n).loneLoss n else s1.darkLane n)
  else s1

/-- A packet for a system-link lane in ACTIVE (R126, R145): it waits for the lane. The header's TYPE, FLAGS, TRIGGER_INDEX, OFFSET and
byte 12 are given. -/
def State.sendLink (s : State) (n kind flags index offset byte12 : Nat) (payload : Bytes) : State :=
  if 2 ≤ (s.lane n).state ∧ (s.lane n).state ≤ 4 then
    s.modLane n (fun y => { y with
      waiting := y.waiting ++ [⟨kind, flags, index, offset, byte12, payload, s.clk⟩] })
  else s

/-- The packet that goes next at a packet boundary (R146): COMET and EVENT ahead of SEAM, and LINK_STATUS with them (log entry 64). -/
def linkNext (l : List LinkTx) : Option LinkTx :=
  match l.find? (fun q => q.kind ≠ 0x10) with
  | some q => some q
  | none => l.head?

/-- The time of a packet on a lane at 21,250 Mbaud with the words around it, in 17ths of a ns (R124, R125, R145). -/
def LinkTx.time (q : LinkTx) : Nat := 8 * (q.payload.length + 32)

/-- Packets leave a system-link lane, at most `k` of them, as long as it is free by now; each takes the lane's count as its PSEQ when it
goes (R126, R146, R147). -/
def State.linkDrainN (s : State) (n : Nat) : Nat → State
  | 0 => s
  | k + 1 =>
    let x := s.lane n
    if 17 * s.clk < x.linkFree then s
    else
      match linkNext x.waiting with
      | none => s
      | some q =>
        ((s.modLane n (fun y => { y with
          waiting := y.waiting.erase q, linkFree := Nat.max y.linkFree (17 * q.at_) + q.time, sent := (y.sent + 1) % 256 })).emit
            (.linkPacket n q.kind q.flags q.index q.offset q.byte12 x.sent q.payload)).linkDrainN n k

/-- The packets that have left a system-link lane by now (R146); what waits on one that is powered no more is lost. -/
def State.linkDrain (s : State) (n : Nat) : State :=
  let x := s.lane n
  if 2 ≤ x.state ∧ x.state ≤ 4 then s.linkDrainN n x.waiting.length
  else if x.waiting = [] then s
  else s.modLane n (fun y => { y with waiting := [] })

/-- Every system-link lane drained. -/
def State.linksDrain (s : State) : State := (rangeFrom 48 4).foldl State.linkDrain s

/-- A record of a comet, a fragment or an edge sent to module `k` in a COMET packet: lane SLk leads to it (R32, R145). -/
def State.sendComet (s : State) (k : Nat) (record : Bytes) : State := s.sendLink (48 + k) 0x11 0 0 0 0 record

/-- An event sent to module `k` in an EVENT packet of one record (R145, R443). -/
def State.sendEvent (s : State) (k channel time index : Nat) : State :=
  s.sendLink (48 + k) 0x12 0 0 0 0 (leBytes 1 channel ++ zeros 3 ++ leBytes 4 time ++ leBytes 4 index)

/-- A seam slice sent to module `k` in SEAM packets of at most 3,072 bytes, with the FLAGS of the line, and the last one marked (R126,
R145, R232). -/
def State.sendSeam (s : State) (k v index flags : Nat) (data : Bytes) : State :=
  let n := Nat.max 1 (ceilDiv data.length 3072)
  (List.range n).foldl (fun acc j =>
    acc.sendLink (48 + k) 0x10 (flags + (if j + 1 = n then 0x80 else 0)) index (3072 * j) v (slice data (3072 * j) 3072)) s

/-! ## Equalisation -/

/-- The band of a lane's die (R9, R494). -/
def State.laneBand (s : State) (n : Nat) : Nat := if 24 ≤ n ∧ n < 48 then s.power.bandE else s.power.bandW

/-- The lowest CTLE setting of a band (R494): 0 COLD, 1 NORMAL, 2 WARM, 3 HOT, 4 ALARM. -/
def ctleLow (band : Nat) : Nat := if band = 0 then 4 else 0

/-- The bound of DFE tap `k`, from 0, in a band, in units of 2 mV (R117, R494). -/
def tapBound (band k : Nat) : Int :=
  let first : Int := if band = 0 then 50 else if band = 1 then 60 else if band = 2 then 70 else 80
  if k = 0 then first else first / 2

/-- Five taps held within their bounds, as DFE_TAPS reads (R112, R117). -/
def boundTaps (band : Nat) (tap : Nat → Nat) : Nat :=
  leNat ((List.range 5).map (fun k =>
    BitVec.ofNat 8 (ofSigned 8 (clampInt (toSigned 8 (tap k)) (-tapBound band k) (tapBound band k)))))

/-- The taps of a lane adapted: free values within the bounds of its band; a frozen lane keeps its taps (R112). -/
def State.adapt (s : State) (n : Nat) : State :=
  if s.flag (laneKey n 11) then s
  else (s.putNum (laneKey n 5) (boundTaps (s.laneBand n) (fun k => (Config.dfeTap s.free k).toNat))).drawn

/-- The equaliser of an aligned lane settles at values the manual leaves to the receiver (R112): free values, within the CTLE range and the
tap bounds of its band. -/
def State.equalise (s : State) (n : Nat) : State :=
  let low := ctleLow (s.laneBand n)
  ((s.putNum (laneKey n 4) (low + (Config.ctle s.free).toNat % (16 - low))).drawn).adapt n

/-- A change of band: the new bounds hold for the running loops of a lane, without retraining (R112, R494). -/
def State.rebound (s : State) (n : Nat) : State :=
  if (s.lane n).state = 4 then
    let s1 := s.putNum (laneKey n 4) (Nat.max (ctleLow (s.laneBand n)) (s.num (laneKey n 4)))
    if s.flag (laneKey n 11) then s1
    else s1.putNum (laneKey n 5) (boundTaps (s.laneBand n) (fun k => s.num (laneKey n 5) / 2 ^ (8 * k) % 256))
  else s

/-- EYE_MEASURE of a lane: the eye, and on an aligned one the taps as they have adapted by now (R112, R113; log entry 61). -/
def State.eyeTaken (s : State) (n height width : Nat) : State :=
  let s1 := s.eyeMeasured n height width
  if (s.lane n).state = 4 then s1.adapt n else s1

end Sys2Proof.Machine
end

