-- ==== Sys2Proof/Machine/Ports.lean ====
section
/-! DEFINITION. The link layer of a camera port: reassembly and forwarding of lines (R137 to R139), camera frames (R159 to
R161), register messages (R134), unplug and link-up (R141 to R144), CoaXPress packets (R135, R136). -/

namespace Sys2Proof.Machine

def State.trigger (s : State) (v : Nat) : Trigger := s.triggers.getD v Trigger.reset
def State.modTrigger (s : State) (v : Nat) (f : Trigger → Trigger) : State :=
  { s with triggers := s.triggers.modify v f }

/-- The trigger of a view with an index, while it is kept. -/
def State.issueOf (s : State) (v index : Nat) : Option Issue := (s.trigger v).issues.find? (fun i => i.index = index)

/-- Distance from `a` up to `b` modulo 2^32. -/
def ahead32 (a b : Nat) : Nat := (b + wrap32 - a % wrap32) % wrap32

/-! ## Frames -/

/-- The frame facts of a port's frame, of the view it was triggered by. -/
def Port.frameOf (x : Port) (v start : Nat) : FrameWord :=
  (x.frames.find? (fun f => f.view = v ∧ f.start = start)).getD { view := v, start := start, lines := 0, overflow := 0, flags := 0 }

/-- The frame facts of a frame of the port's view changed; the newest eight frames are kept. -/
def Port.modFrame (x : Port) (start : Nat) (f : FrameWord → FrameWord) : Port :=
  let v := x.view.getD 4
  { x with frames := (f (x.frameOf v start) :: x.frames.filter (fun w => w.view ≠ v ∨ w.start ≠ start)).take 8 }

abbrev FrameFlag.short : Nat := 1
abbrev FrameFlag.long : Nat := 2
abbrev FrameFlag.cameraTimed : Nat := 4
abbrev FrameFlag.leadShort : Nat := 8
abbrev FrameFlag.unconfirmed : Nat := 16
abbrev FrameFlag.cut : Nat := 32

/-- The frame status word (R161). -/
def FrameWord.word (w : FrameWord) : Nat := w.overflow * 2 ^ 48 + w.flags * 2 ^ 32 + w.lines

/-- The marker that governs a line: the nearest start or discard at or before it, or end before it; at one index the end comes last
(R159, R160). -/
def Port.governing (x : Port) (n : Nat) : Option (Nat × Nat) :=
  let rank := fun (m : Nat × Nat) => 4 * ahead32 m.1 n + (3 - m.2)
  let before := x.marks.filter (fun m => decide (ahead32 m.1 n < half32) && (decide (m.2 ≠ 2) || decide (m.1 ≠ n)))
  before.find? (fun m => before.all (fun q => decide (rank m ≤ rank q)))

/-- A marker kept; the newest sixteen stay. -/
def Port.mark (x : Port) (n kind : Nat) : Port := { x with marks := ((n, kind) :: x.marks.filter (fun m => m ≠ (n, kind))).take 16 }

/-- A line of the camera counted in its frame (R159). -/
def Port.countLine (x : Port) (i : Issue) : Port := x.modFrame i.frameStart (fun w => { w with lines := w.lines + 1 })

/-- A line discarded, counted once in OVERFLOW; the frame in which the discarded lines began is LONG (R160). -/
def Port.discardLine (x : Port) (i : Issue) (begins : Bool) : Bool × Bool × Port :=
  if x.discarded.contains i.index then (false, false, x)
  else
    let y := ({ x with discarded := (i.index :: x.discarded).take 16 }).modFrame i.frameStart
      (fun w => { w with overflow := satAdd 16 w.overflow 1, flags := if begins then w.flags ||| FrameFlag.long else w.flags })
    (false, begins, if begins then y.mark i.index 1 else y)

/-- The first packet of a line, against the camera's markers (R159, R160): whether the line is taken, whether discarding begins with it,
and the port after it. A line after the end marker, or of a new frame, needs a start marker; without one it is discarded. A frame that
the camera has closed takes no line more. DESIGN CHOICE (log entry 55): where the camera omits the frame's first index altogether, the
rest of the frame has no start marker and is discarded as LONG, for the two sentences of R160 leave open whether it is kept with one
hole; and a line with a start marker in a frame already closed is a placeholder that counts nowhere. -/
def Port.takeLine (x : Port) (i : Issue) (startMark : Bool) : Bool × Bool × Port :=
  let g := x.governing i.index
  if startMark then
    let closed := match g with
      | some m => decide (m.2 = 2) && decide (ahead32 i.frameStart m.1 < ahead32 i.frameStart i.index)
      | none => false
    if closed then (false, false, x) else (true, false, (x.mark i.index 0).countLine i)
  else
    match g with
    | some m =>
      if m.2 = 0 ∧ i.index ≠ i.frameStart then (true, false, x.countLine i)
      else x.discardLine i (decide (m.2 ≠ 1))
    | none => x.discardLine i true

/-- The camera's end marker on a line of an open frame, once: the port's frame is closed, and whether it is SHORT, which it is before the
frame's last index (R159). -/
def Port.endMark (x : Port) (i : Issue) : Bool × Port :=
  let open_ := match x.governing i.index with | some m => decide (m.2 = 0) | none => false
  if !open_ ∨ x.marks.contains (i.index, 2) then (false, x)
  else if i.frameEnd then (false, x.mark i.index 2)
  else (true, (x.mark i.index 2).modFrame i.frameStart (fun w => { w with flags := w.flags ||| FrameFlag.short }))

/-! ## Reassembly -/

/-- Whether a byte of a line has been received. -/
def LineBuf.has (l : LineBuf) (o : Nat) : Bool := l.slices.any (fun q => decide (q.1 ≤ o) && decide (o < q.1 + q.2))

/-- Whether all `b` bytes of a line have been received (R137). -/
def LineBuf.full (l : LineBuf) (b : Nat) : Bool := (List.range b).all (fun o => l.has o)

/-- The bits of a sample in the line's stream (R127). -/
def LineBuf.sample (l : LineBuf) (bit bits : Nat) : Nat :=
  leNat (Mem.readBytes l.got (bit / 8) ((bit % 8 + bits + 7) / 8)) / 2 ^ (bit % 8) % 2 ^ bits

/-- Whether every byte that holds a sample has been received (R138). -/
def LineBuf.hasSample (l : LineBuf) (bit bits : Nat) : Bool :=
  (List.range ((bit % 8 + bits + 7) / 8)).all (fun k => l.has (bit / 8 + k))

/-- The line forwarded for a trigger: its samples by band, and a hole wherever a byte of a pixel is missing (R127, R138).
Without a buffer it is a placeholder, a hole throughout (R21). -/
def forwardLine (v : Nat) (i : Issue) (width bands bits : Nat) (l : Option LineBuf) : PixLine :=
  let pos := fun (px b : Nat) => (px * bands + b) * bits
  { view := v, index := i.index, time := i.time, epoch := i.epoch, frameEpoch := i.frameEpoch, phase := i.phase,
    frameStart := i.frameStart, frameNo := i.frameNo, frameTime := i.frameTime, afterCut := i.afterCut, frameEnd := i.frameEnd,
    ages := [],
    samples := (List.range bands).map (fun b => (List.range width).map (fun px =>
      match l with | some x => x.sample (pos px b) bits | none => 0)),
    holes := (List.range width).map (fun px =>
      match l with
      | some x => !((List.range bands).all (fun b => x.hasSample (pos px b) bits))
      | none => true) }

/-- Whether the stages discard the lines of an epoch (R86): after a failed boot check those of epoch 0, the lines that no
commit has given another epoch. -/
def State.lineStopped (s : State) (epoch : Nat) : Bool := s.ctl.staging.pipelinesStopped && decide (epoch = 0)

/-- One line forwarded in index order: complete or holed, counted, its frame's word closed at the frame's end (R137,
R138, R161). -/
def State.forwardNext (s : State) (p : Nat) : State :=
  let x := s.port p
  match x.view with
  | none => s
  | some v =>
    match s.issueOf v x.nextForward with
    | none => s
    | some i =>
      let buf := x.lines.find? (fun l => l.index = i.index)
      let width := s.param i.epoch (Obj.portWidth p)
      let line := forwardLine v i width (s.param i.epoch (Obj.portBands p)) (s.param i.epoch (Obj.portBits p)) buf
      let cxp := decide (s.param i.epoch (Obj.portLinkMode p) = 1)
      let s1 := s.modPort p (fun y =>
        let y1 := { y with nextForward := (y.nextForward + 1) % wrap32,
                           rejoin := y.rejoin.map (fun r => if ahead32 r i.index < half32 then (i.index + 1) % wrap32 else r),
                           lines := y.lines.filter (fun l => l.index ≠ i.index),
                           forwarded := if s.lineStopped i.epoch then y.forwarded else y.forwarded ++ [line] }
        y1.modFrame i.frameStart (fun w =>
          { w with flags := (w.flags ||| (if cxp then FrameFlag.cameraTimed else 0)) |||
                              (if i.cut then FrameFlag.cut else 0) }))
      if s.lineStopped i.epoch then s1
      else if line.holes.any id then s1.bump (Obj.portLinesHoled p) else s1.bump (Obj.portLinesComplete p)

/-- `n` lines forwarded. -/
def State.forwardMany (s : State) (p : Nat) : Nat → State
  | 0 => s
  | n + 1 => (s.forwardNext p).forwardMany p n

/-- Every line up to and with an index forwarded, those without packets as placeholders (R137). -/
def State.forwardTo (s : State) (p index : Nat) : State :=
  let n := ahead32 (s.port p).nextForward index
  if n < half32 then s.forwardMany p (n + 1) else s

/-- The byte count of the port's line in a trigger's epoch (R120). -/
def State.portLineBytes (s : State) (p epoch : Nat) : Nat :=
  lineBytes (s.param epoch (Obj.portWidth p)) (s.param epoch (Obj.portBands p)) (s.param epoch (Obj.portBits p))

/-- Forwarding of complete lines: the next line goes as soon as it is complete; a complete line waits behind one that is
not, be it one without a packet (R137). `n` bounds the lines. -/
def State.forwardReady (s : State) (p : Nat) : Nat → State
  | 0 => s
  | n + 1 =>
    let x := s.port p
    match x.lines.find? (fun l => l.index = x.nextForward), x.view.bind (fun v => s.issueOf v x.nextForward) with
    | some l, some i => if l.full (s.portLineBytes p i.epoch) then (s.forwardTo p l.index).forwardReady p n else s
    | _, _ => s

/-- A slice of a line entered into its buffer; bytes beyond the line are discarded (R144). -/
def LineBuf.add (l : LineBuf) (b offset : Nat) (payload : Bytes) : LineBuf :=
  let data := payload.take (b - offset)
  { l with got := Mem.writeBytes l.got offset data,
           slices := if data.length = 0 then l.slices else l.slices ++ [(offset, data.length)] }

/-- The end marker in a packet of a line (R159). -/
def State.endMarked (s : State) (p : Nat) (i : Issue) (frameEnd : Bool) : State :=
  if frameEnd then
    let r := (s.port p).endMark i
    let s1 := s.modPort p (fun _ => r.2)
    match (s.port p).view with
    | some v => s1.bumpIf r.1 (Obj.trgFramesShort v)
    | none => s1
  else s

/-- A line slice that passes R139 is entered; a ninth line with packets sends the oldest of the eight on, and with it every earlier
line, the ninth among them, with what it holds (R137). -/
def State.enterSlice (s : State) (p : Nat) (i : Issue) (h : HlpHeader) (payload : Bytes) : State :=
  let x := s.port p
  let b := s.portLineBytes p i.epoch
  match x.lines.find? (fun l => l.index = i.index) with
  | some l =>
    let s1 := s.modPort p (fun y => { y with lines := y.lines.map (fun m =>
      if m.index = i.index then l.add b h.offset payload else m) })
    (s1.endMarked p i h.frameEnd).forwardReady p 9
  | none =>
    let taken := x.takeLine i h.frameStart
    let s1 := s.modPort p (fun _ => taken.2.2)
    if taken.1 then
      let dist := fun (l : LineBuf) => ahead32 x.nextForward l.index
      let oldest := x.lines.find? (fun l => x.lines.all (fun m => decide (dist l ≤ dist m)))
      let fresh : LineBuf := { index := i.index, got := [], slices := [] }
      let s2 := (s1.modPort p (fun y => { y with lines := y.lines ++ [fresh.add b h.offset payload] })).endMarked p i h.frameEnd
      (match oldest with
        | some o => if 8 ≤ x.lines.length then s2.forwardTo p o.index else s2
        | none => s2).forwardReady p 9
    else
      match x.view with
      | some v => s1.bumpIf taken.2.1 (Obj.trgFramesLong v)
      | none => s1

/-- CAM_STATUS of a header sets the port's flags (R122, R126). -/
def State.camStatus (s : State) (p status : Nat) : State :=
  let bits := (if bitOf status 1 then 0x20 else 0) + (if bitOf status 0 then 0x10 else 0)
  if bits = 0 then s else s.orFlags (Obj.portFlags p) bits

/-- PSEQ of a packet against the lane's last one (R139): how many are missing; the packet's PSEQ is kept. -/
def State.trackPseq (s : State) (lane pseq counter : Nat) : State × Nat :=
  let missing := match (s.lane lane).pseq with | some q => (pseq + 511 - q) % 256 | none => 0
  ((s.modLane lane (fun x => { x with pseq := some pseq })).bumpBy counter missing, missing)

/-- The case of R139 a good packet of a line falls into, before anything is entered: late, stray, or its trigger. -/
inductive LineCase where
  | late
  | stray
  | taken (i : Issue)
  deriving DecidableEq, Repr

/-- Late when the index has been forwarded; stray when it has not been issued, lies more than 8 behind the newest, or
comes before the port's rejoin index (R139, R143). Once a line at or after the rejoin index has been forwarded, the next index
stands in its place: what lies before it is late. -/
def State.lineCase (s : State) (p index : Nat) : LineCase :=
  let x := s.port p
  match x.view, x.rejoin with
  | some v, some r =>
    if half32 ≤ ahead32 x.nextForward index then (if half32 ≤ ahead32 r x.nextForward then .stray else .late)
    else if half32 ≤ ahead32 r index then .stray
    else
      match s.issueOf v index, (s.trigger v).issues with
      | some i, newest :: _ => if 8 < ahead32 index newest.index then .stray else .taken i
      | _, _ => .stray
  | _, _ => .stray

/-- A good line slice of a port, HLP or CoaXPress, by the cases of R139. -/
def State.lineSlice (s : State) (p : Nat) (h : HlpHeader) (payload : Bytes) : State :=
  let stopped := match (s.port p).view with
    | some v => s.lineStopped (s.trigger v).epoch
    | none => s.lineStopped 0
  match s.lineCase p h.index with
  | .late => if stopped then s else s.bump (Obj.portPacketsLate p)
  | .stray => if stopped then s else s.bump (Obj.portPacketsStray p)
  | .taken i => if s.lineStopped i.epoch then s else s.enterSlice p i h payload

/-- Symbols on a lane are lost unless it is aligned (R115). -/
def State.laneReceives (s : State) (n : Nat) : Bool := (s.lane n).state = 4

/-- What every good HLP packet of a camera lane brings: its PSEQ and its CAM_STATUS (R126, R139). -/
def State.hlpHeader (s : State) (p n pseq camStatus : Nat) : State :=
  (s.trackPseq n pseq (Obj.portPacketsLost p)).1.camStatus p camStatus

/-- A LINE packet on a lane of an HLP port (R125 to R139). -/
def State.hlpLine (s : State) (p n : Nat) (h : HlpHeader) (payload : Bytes) (crcOk : Bool) : State :=
  if !s.laneReceives n then s
  else if !crcOk then s.laneCrc n
  else (s.hlpHeader p n h.pseq h.camStatus).lineSlice p h payload

/-- The window of a line has passed, that of the line's own epoch (R22, R137). -/
def State.windowPassed (s : State) (p index : Nat) : State :=
  match (s.port p).view with
  | none => s
  | some v =>
    match s.issueOf v index with
    | none => s
    | some i =>
      if i.clk + s.param i.epoch (Obj.portReasmWindow p) * 1000 ≤ s.clk ∧ ahead32 (s.port p).nextForward index < half32 then
        (s.forwardTo p index).forwardReady p 9
      else s

/-! ## Unplug -/

/-- A port declared unplugged (R141): its link goes to NO_CAMERA, the unplug is stamped, counted, alerted and raised in the
fabric (R444). -/
def State.unplug (s : State) (p : Nat) : State :=
  let s1 := s.modPort p (fun x =>
    { x with state := 1, stage := 0, unplugged := true, rejoin := none, lanesInUse := [], carrying := [],
             badProtocol := false, degraded := false })
  ((((s1.dropOwnRegs p).putNum (Obj.portLastUnplug p) s.shortNow).bump (Obj.portPlugEvents p)).alert Alert.camera).raise
    (decide (6 ≤ p)) (0x030 + p) 0

/-- Whether the lanes that stand for a port's camera have all gone to NO_SIGNAL within 10 ms (R141). -/
def State.allLost (s : State) (p : Nat) : Bool :=
  let x := s.port p
  let lanes := if x.lanesInUse = [] then
      (quad p).filter (fun n => (s.lane n).signal || (decide ((s.lane n).state = 2) && decide (s.clk ≤ (s.lane n).lostAt + 10000000)))
    else x.lanesInUse
  lanes ≠ [] && lanes.all (fun n => !(s.lane n).signal && decide ((s.lane n).state = 2) &&
    decide (s.clk ≤ (s.lane n).lostAt + 10000000))

/-- A camera lane has entered NO_SIGNAL: its port is unplugged when every lane in use has (R141); otherwise a link-up waits for it no
more (R143). -/
def State.lanesReviewed (s : State) (n : Nat) : State :=
  let x := s.port (n / 4)
  if 48 ≤ n ∨ x.state = 0 ∨ x.state = 1 ∨ x.state = 8 then s
  else if s.allLost (n / 4) then s.unplug (n / 4) else s.endTraining (n / 4)

/-- A lane's input swing is gone; a powered lane enters NO_SIGNAL (R141). -/
def State.laneNoSignal (s : State) (n : Nat) : State := (s.loseSignal n).lanesReviewed n

/-! ## Link-up -/

/-- A zero-padded text field without its padding. -/
def textField (b : Bytes) (o n : Nat) : Bytes := (slice b o n).takeWhile (fun c => c ≠ 0)

/-- The identity of a camera as it is read at discovery (R122, R129, R144): vendor, model, serial, version, lane
capability, whether the protocol check passes, whether the geometry differs. -/
structure Identity where
  vendor : Bytes
  model : Bytes
  serial : Bytes
  version : Nat
  laneCap : Nat
  protocolOk : Bool
  geometryDiffers : Bool
  deriving DecidableEq, Repr

/-- The identity in the bootstrap registers of an HLP camera (R129). -/
def hlpIdentity (b : Bytes) (width bands bits : Nat) : Identity :=
  { vendor := textField b 0x08 32, model := textField b 0x28 32, serial := textField b 0x48 16, version := u32At b 4,
    laneCap := u8At b 0x58 % 16, protocolOk := decide (u32At b 0 = 0x31504C48) && decide (u16At b 6 = 1),
    geometryDiffers := !(u8At b 0x61 = bits && u8At b 0x60 = bands && u32At b 0x64 = width) }

/-- The identity that the standard's discovery of a CoaXPress camera gives: VENDOR, MODEL (32 bytes each), SERIAL (16),
VERSION (4), the lane counts it runs on (1), and the lanes of its connections (1, read by `cxpConnections`) (log entry 22). -/
def cxpIdentity (b : Bytes) : Identity :=
  { vendor := textField b 0 32, model := textField b 32 32, serial := textField b 64 16, version := u32At b 80,
    laneCap := u8At b 84 % 16, protocolOk := true, geometryDiffers := false }

/-- The lanes on which the standard's discovery found connections, which take the place of the carrying lanes (R553): bit j is
lane 4k + j (log entry 22). -/
def cxpConnections (p : Nat) (b : Bytes) : List Nat := (quad p).filter (fun n => bitOf (u8At b 85) (n - 4 * p))

/-- Whether an expected field matches (R144): an empty one matches any value. -/
def fieldMatches (expected got : Bytes) : Bool := expected = [] || expected = got

/-- An expected field after a match: an empty one is filled (R144). -/
def filled (expected got : Bytes) : Bytes := if expected = [] then got else expected

/-- The camera's identity compared under ID_POLICY (R144): the port goes on to step 5 or is held in MISMATCH. -/
def State.compareIdentity (s : State) (p : Nat) : State :=
  let policy := s.num (Obj.portIdPolicy p)
  let v := s.octets (Obj.portVendor p)
  let m := s.octets (Obj.portModel p)
  let n := s.octets (Obj.portSerial p)
  let ev := s.octets (Obj.portExpVendor p)
  let em := s.octets (Obj.portExpModel p)
  let en := s.octets (Obj.portExpSerial p)
  let ok := policy = 0 || (fieldMatches ev v && fieldMatches em m && (policy = 1 || fieldMatches en n))
  if ok then
    let s1 := if policy = 0 then s else
      ((s.putKept (Obj.portExpVendor p) (.bytes (filled ev v))).putKept (Obj.portExpModel p) (.bytes (filled em m))).putKept
        (Obj.portExpSerial p) (.bytes (filled en n))
    let s2 := if policy = 1 ∧ !fieldMatches en n then s1.orFlags (Obj.portFlags p) 1 else s1
    s2.configureLink p
  else (s.modPort p (fun x => { x with state := 4, stage := 4 })).alert Alert.camera

/-- Steps 3 and 4 of R143 end: the identity is copied to P+0x02, the protocol and the identity are checked (R144). -/
def State.identified (s : State) (p protocol : Nat) (d : Identity) : State :=
  let s1 := ((((((s.putVal (Obj.portVendor p) (.bytes d.vendor)).putVal (Obj.portModel p) (.bytes d.model)).putVal
    (Obj.portSerial p) (.bytes d.serial)).putNum (Obj.portProtocol p) protocol).putNum (Obj.portVersion p) d.version).putNum
    (Obj.portCameraLaneCap p) d.laneCap)
  let s2 := if d.geometryDiffers then s1.orFlags (Obj.portFlags p) 0x40 else s1
  if d.protocolOk then s2.compareIdentity p
  else (s.modPort p (fun x => { x with state := 4, stage := 4, badProtocol := true })).alert Alert.camera

/-- A lane shows signal (R143): it trains, and a port that is down or unplugged starts its link-up; a port that waits for
another lane starts again (R553), one held by the protocol check only when its quad had lost every signal (R144). -/
def State.laneSignal (s : State) (n : Nat) : State :=
  let p := n / 4
  let quadDark := (quad p).all (fun k => !(s.lane k).signal)
  let s0 := if n < 48 ∧ s.lostAlone n then s.loneLoss n else s
  let s1 := s0.modLane n (fun x => { x with signal := true, state := if x.state = 2 then 3 else x.state, pseq := none })
  if n < 48 ∧ (s1.lane n).state = 3 then
    let x := s1.port p
    if s1.num (Obj.portLinkMode p) = 0 ∨ x.state = 8 then s1
    else if x.state = 0 ∨ x.state = 1 then (s1.startLinkUp p).raise (decide (6 ≤ p)) (0x030 + p) 1
    else if x.badProtocol then (if quadDark then s1.startLinkUp p else s1)
    else if x.stage = 4 ∧ x.state = 3 then s1.startLinkUp p
    else s1
  else s1

/-- A lane aligns (R111, R112): it equalises, and its port's link-up goes on when the lanes it waits for are aligned
(R143 steps 2 and 5). -/
def State.laneAligned (s : State) (n : Nat) : State :=
  if (s.lane n).state = 3 ∧ (s.lane n).signal then
    let p := n / 4
    let s1 := (s.modLane n (fun x => { x with state := 4, pseq := none })).equalise n
    if n < 48 then
      let x := s1.port p
      let slow := x.stage ≠ 0 && !x.atRate && decide (s1.num (Obj.portLinkMode p) = 2)
      let s2 := s1.putNum (laneKey n 3) (if slow then 16000 else s1.num (Obj.portRate p))
      if x.stage = 1 then s2.endTraining p
      else if x.stage = 51 then
        if x.lanesInUse.all (fun k => (s2.lane k).state = 4) then
          s2.enableStream p
        else s2
      else s2
    else (s1.putNum (laneKey n 3) 21250).modLane n (fun x => { x with lastStatus := s1.clk })
  else s

/-- The answer to a REG_ACCESS: DONE with the data of a read in REG_DATA, or FAILED (R134). -/
def State.regDone (s : State) (p : Nat) (a : RegAccess) (status : Nat) (data : Bytes) : State :=
  let s1 := if status = 0 ∧ !a.isWrite then s.putVal (Obj.portRegData p) (.bytes (data.take (4 * a.words))) else s
  s1.putNum (Obj.portRegAccess p) (if status = 0 then 2 else 3)

/-- The answer to a message of the module's own: the link-up goes on (R143). `status` is that of the answer, `data` that of a good
one. DESIGN CHOICE (log entry 55): an HLP camera's read that is answered with an error status counts as zeros, and a write as done;
a CoaXPress camera whose discovery fails is held in MISMATCH (R144), and one whose configuration fails stays in step 5. -/
def State.ownRegDone (s : State) (p : Nat) (a : RegAccess) (status : Nat) (data : Bytes) : State :=
  let x := s.port p
  let waiting := x.queue.any (fun q => q.own)
  if a.standard = 1 then
    if x.stage ≠ 3 then s
    else if status = 0 then
      (s.modPort p (fun y => { y with carrying := cxpConnections p data })).identified p 1 (cxpIdentity data)
    else (s.modPort p (fun y => { y with state := 4, stage := 4, badProtocol := true })).alert Alert.camera
  else if a.standard = 2 then (if x.stage = 5 ∧ status = 0 then s.retrainLink p else s)
  else if x.stage = 3 ∧ !a.isWrite then
    let s1 := s.modPort p (fun y => { y with discovery := y.discovery ++ (data ++ zeros (4 * a.words)).take (4 * a.words) })
    if waiting then s1
    else s1.identified p 2 (hlpIdentity (s1.port p).discovery (s1.num (Obj.portWidth p)) (s1.num (Obj.portBands p))
      (s1.num (Obj.portBits p)))
  else if x.stage = 5 then (if waiting then s else s.retrainLink p)
  else if x.stage = 6 then (if waiting then s else s.endLinkUp p)
  else s

/-- A register response with the outstanding TAG (R134). -/
def State.regAnswer (s : State) (p : Nat) (tag : Option Nat) (status : Nat) (data : Bytes) : State :=
  match (s.port p).queue with
  | [] => s
  | a :: rest =>
    if a.sentAt.isSome ∧ (tag = none ∨ tag = some a.tag) then
      let s1 := s.modPort p (fun x => { x with queue := rest })
      (if a.own then s1.ownRegDone p a status (if status = 0 then data else []) else s1.regDone p a status data).sendReg p
    else s

/-- No response within 100 µs: the message is sent once more with its TAG, then the access ends with TIMEOUT (R134); an
exposure write leaves its frame EXPOSURE_UNCONFIRMED (R157). DESIGN CHOICE (log entry 55): when a message of the link-up times out
twice, the port stays in its step. The discovery and the configuration of a CoaXPress camera have the times of their standard
(R143) and do not time out here. -/
def State.regTimeout (s : State) (p : Nat) : State :=
  match (s.port p).queue with
  | [] => s
  | a :: rest =>
    match a.sentAt with
    | none => s
    | some t =>
      if s.clk < t + 100000 ∨ a.standard ≠ 0 then s
      else if !a.retried then
        (s.modPort p (fun x => { x with queue := { a with retried := true, sentAt := some s.clk } :: rest })).emit
          (.regMessage p a.tag a.isWrite a.address a.words a.data)
      else
        let s1 := (s.modPort p (fun x => { x with queue := rest })).orFlags (Obj.portFlags p) 4
        let s2 := if a.own then s1 else s1.putNum (Obj.portRegAccess p) 3
        let s3 := match a.frame with
          | some f => s2.modPort p (fun x => x.modFrame f (fun w => { w with flags := w.flags ||| FrameFlag.unconfirmed }))
          | none => s2
        s3.sendReg p

/-- A CoaXPress control response answers what was sent and awaits its answer: the discovery of step 3, the configuration of step 5,
or a register access (R135, R143). -/
def State.cxpControl (s : State) (p status : Nat) (data : Bytes) : State := s.regAnswer p none status data

/-- ADOPT (R144): the identity becomes the expected one and the port goes on from step 5; a port held by the protocol
check ends FAILED. -/
def State.adopt (s : State) (p : Nat) : State :=
  let x := s.port p
  if x.badProtocol then s.putNum (Obj.portAdopt p) 3
  else
    let s1 := ((s.putKept (Obj.portExpVendor p) (s.val (Obj.portVendor p))).putKept (Obj.portExpModel p)
      (s.val (Obj.portModel p))).putKept (Obj.portExpSerial p) (s.val (Obj.portSerial p))
    let s2 := s1.putNum (Obj.portAdopt p) 2
    if x.state = 4 then s2.configureLink p else s2

/-- REG_ACCESS (R134): a register message of the host's, behind the module's own. -/
def State.regAccess (s : State) (p v : Nat) : State :=
  let words := v % 32
  let a : RegAccess :=
    { standard := 0, isWrite := bitOf v 7, address := s.num (Obj.portRegAddress p), words := words,
      data := if bitOf v 7 then (s.octets (Obj.portRegData p) ++ zeros (4 * words)).take (4 * words) else [],
      tag := 0, retried := false, own := false, frame := none, sentAt := none }
  ((s.putNum (Obj.portRegAccess p) 1).queueReg p a).sendReg p

/-- A port follows a commit that changed a P+0x00 value (R123): it relinks from the step that fits the change: LINK_MODE
from step 1, RATE, LANES and DEGRADE_MASK from step 5, the geometry and REASM_WINDOW from step 6. A link-up that has not come to
that step goes on and meets the new values there; one that waits in DISCOVERY for a lane count is tried again from step 5 on any
change. One held in MISMATCH stays held: the comparison of step 4 comes before the steps the change fits (log entry 23). -/
def State.relink (s : State) (p : Nat) (subs : List Nat) : State :=
  let x := s.port p
  if subs.all (fun k => k = 9) ∨ x.state = 8 then s
  else if s.num (Obj.portLinkMode p) = 0 then
    (((quad p).foldl State.powerLane s).modPort p (fun y =>
      { y with state := 0, stage := 0, lanesInUse := [], carrying := [], rejoin := none, degraded := false,
               badProtocol := false, unplugged := false, degrading := false })).dropOwnRegs p
  else if subs.contains 1 then
    if (quad p).any (fun n => (s.lane n).signal) then s.startLinkUp p
    else s.modPort p (fun y => { y with state := if y.state = 1 then 1 else 0, stage := 0, rejoin := none, lanesInUse := [] })
  else if x.stage = 4 then (if x.state = 3 then s.configureLink p else s)
  else if x.state < 3 ∨ x.stage = 3 then s
  else if subs.any (fun k => k = 2 || k = 3 || k = 7) then s.configureLink p
  else if x.stage = 5 ∨ x.stage = 51 then s
  else (s.modPort p (fun y => { y with rejoin := none })).enableStream p

end Sys2Proof.Machine
end

