-- ==== Sys2Proof/Machine/Encoders.lean ====
section
/-! DEFINITION. Encoder channels (R162 to R168, R171) and the accumulators of the divided outputs (R169). -/

namespace Sys2Proof.Machine

def State.encoder (s : State) (c : Nat) : Encoder := s.encoders.getD c Encoder.reset
def State.modEncoder (s : State) (c : Nat) (f : Encoder → Encoder) : State :=
  { s with encoders := s.encoders.modify c f }
def State.pgo (s : State) (n : Nat) : Pgo := s.pgos.getD n Pgo.reset
def State.modPgo (s : State) (n : Nat) (f : Pgo → Pgo) : State := { s with pgos := s.pgos.modify n f }

/-! ## SPEED as binary32 -/

/-- The number of bits of a natural number, at most `k`. -/
def bitLen : Nat → Nat → Nat
  | 0, _ => 0
  | k + 1, n => if n = 0 then 0 else 1 + bitLen k (n / 2)

/-- A positive quotient `num / den` rounded to binary32, nearest, ties to even; 0 for 0 (R38). -/
def f32OfRat (neg : Bool) (num den : Nat) : Nat :=
  if num = 0 ∨ den = 0 then 0
  else
    let e0 : Int := (bitLen 200 num : Int) - bitLen 200 den
    let scaled := fun (e : Int) =>
      -- num / den * 2^(23 - e), floor and remainder as a quotient
      if 23 - e ≥ 0 then (num * 2 ^ (23 - e).toNat, den) else (num, den * 2 ^ (e - 23).toNat)
    let fits := fun (e : Int) => let q := scaled e; decide (q.1 / q.2 < 2 ^ 24)
    let e := if fits (e0 - 1) then e0 - 1 else e0
    let q := scaled e
    let m := q.1 / q.2
    let r2 := 2 * (q.1 % q.2)
    let m1 := if r2 > q.2 ∨ (r2 = q.2 ∧ m % 2 = 1) then m + 1 else m
    let m2 := if m1 = 2 ^ 24 then 2 ^ 23 else m1
    let e2 := if m1 = 2 ^ 24 then e + 1 else e
    (if neg then 2 ^ 31 else 0) + (e2 + 127).toNat * 2 ^ 23 + (m2 - 2 ^ 23)

/-- The magnitude of SPEED as a quotient, and its sign (R166): 0 in STILL and REVERSING; after the last period has passed
without an edge, the lesser of the last speed and one count in the time since the edge. A synthetic channel runs at its
NOMINAL_RATE (R168). -/
def Encoder.speedRat (x : Encoder) (now nominal : Nat) : Bool × Nat × Nat :=
  if x.state = 5 then (false, nominal, 1)
  else if x.state = 2 ∨ x.state = 3 then
    (x.state = 3, 1000000000, max x.lastPeriod (now - x.lastEdge))
  else (false, 0, 1)

/-- SPEED (E+0x01:03). -/
def State.encSpeed (s : State) (c : Nat) : Nat :=
  let q := (s.encoder c).speedRat s.clk (s.num (Obj.encNominalRate c))
  f32OfRat q.1 q.2.1 q.2.2

/-! ## Counting -/

/-- What an accepted sample of A and B is (R163, R164). -/
inductive EdgeKind where
  | noChange
  | illegal
  | count (forward : Bool)
  deriving DecidableEq, Repr

/-- The quadrature step from one pair of levels to the next: forward when A leads B, that is 00, 10, 11, 01; POLARITY 1
turns it round (R163, R164). -/
def edgeKind (a0 b0 a1 b1 : Bool) (polarity : Nat) : EdgeKind :=
  if a0 = a1 ∧ b0 = b1 then .noChange
  else if a0 ≠ a1 ∧ b0 ≠ b1 then .illegal
  else
    let aLeads := if a0 ≠ a1 then decide (a1 ≠ b0) else decide (b1 = a0)
    .count (aLeads == decide (polarity = 0))

/-- A position entered: the highest reached so far follows it (R149). -/
def Encoder.atPosition (x : Encoder) (pos : Nat) : Encoder :=
  { x with position := pos % wrap32,
           highest := if later (pos % wrap32) x.highest then pos % wrap32 else x.highest }

/-- A position set, by a Z edge or by POSITION_SET (R167, R171). DESIGN CHOICE (log entry 27): the highest position reached so far is
set back by as much, so that forward motion goes on triggering (R149); the spec is silent on it. -/
def Encoder.setPosition (x : Encoder) (pos : Nat) : Encoder :=
  { x with position := pos % wrap32, highest := (x.highest + pos % wrap32 + wrap32 - x.position % wrap32) % wrap32 }

/-- A count edge: the first against the direction is absorbed, the second reverses (R165); the count moves POSITION
(R163); STATE and the period follow R166. The second component is the step, 0 when absorbed. -/
def Encoder.edge (x : Encoder) (forward : Bool) (now : Nat) : Encoder × Int :=
  if forward ≠ x.forward ∧ !x.absorbed ∧ (x.run ≠ 0 ∨ x.lastEdge ≠ 0) then ({ x with absorbed := true }, 0)
  else
    let turned := decide (forward ≠ x.forward)
    let run := if turned then 1 else min 2 (x.run + 1)
    let step : Int := if forward then 1 else -1
    let pos := (x.position + (if forward then 1 else wrap32 - 1)) % wrap32
    let y := x.atPosition pos
    ({ y with absorbed := false, forward := forward, run := run,
              lastPeriod := if 2 ≤ run then now - x.lastEdge else x.lastPeriod, lastEdge := now,
              state := if 2 ≤ run then (if forward then 2 else 3)
                       else if turned then (if x.state = 1 ∧ x.run = 0 ∧ x.lastEdge = 0 then 1 else 4) else x.state }, step)

/-- Whether a forward count takes the channel past the highest position reached before it (R149). -/
def Encoder.passes (x : Encoder) (step : Int) (y : Encoder) : Bool :=
  decide (0 < step) && later y.position x.highest

/-- A channel counts: it is enabled, not retired, and the module is not in DEEP (R162, R171). -/
def State.encRuns (s : State) (c : Nat) : Bool :=
  s.flag (Obj.encEnable c) && !s.retired Unit.encoder c && decide (s.power.state ≠ .deep)

/-- A retired channel that counts on synthetically (R168). -/
def State.encSynthetic (s : State) (c : Nat) : Bool :=
  s.flag (Obj.encEnable c) && s.retired Unit.encoder c && decide (0 < s.num (Obj.encNominalRate c)) &&
  decide (s.power.state ≠ .deep)

/-- The even spacing of a retired channel's counts starts now: at its retirement, at a new NOMINAL_RATE or ENABLE, and after DEEP, which
stops counts; SYNTHETIC shows it (R168, R171). -/
def State.encSpacing (s : State) (c : Nat) : State :=
  if s.encSynthetic c then (s.modEncoder c (fun x => { x with synBase := s.clk, synCount := 0 })).orFlags (Obj.encFlags c) 4
  else s

/-- An illegal transition (R164): counted and flagged; more than 8 within 1 ms are an upset, the 4th upset within 10 s
retires the channel. A channel with a NOMINAL_RATE goes on synthetically (R168). -/
def State.encIllegal (s : State) (c : Nat) : State :=
  let s1 := (s.bump (Obj.encPhaseErrors c)).orFlags (Obj.encFlags c) 1
  let recent := s.clk :: (s.encoder c).illegal.filter (fun t => decide (s.clk ≤ t + 1000000))
  if 8 < recent.length then
    let s2 := ((s1.modEncoder c (fun x => { x with illegal := [] })).bump (Obj.encUpsets c)).orFlags (Obj.encFlags c) 2
    let s3 := s2.upset Unit.encoder c 10000000000 []
    if s3.overThreshold Unit.encoder c 4 then
      let s4 := s3.retire Unit.encoder c 0 []
      (s4.modEncoder c (fun x => { x with state := 5, forward := true })).encSpacing c
    else s3
  else s1.modEncoder c (fun x => { x with illegal := recent })

/-- A Z edge (R167, R171): POSITION latched into INDEX_POS, counted; INDEX_MODE 1 sets POSITION to 0; after DEEP the first
Z sets POSITION valid again. -/
def State.encIndex (s : State) (c : Nat) : State :=
  if s.encRuns c then
    let x := s.encoder c
    let mode := s.num (Obj.encIndexMode c)
    let held := x.rezero && mode ≠ 1
    let s1 := (if held && x.zSeen then s else s.putNum (Obj.encIndexPos c) x.position).bump (Obj.encIndexCount c)
    s1.modEncoder c (fun y =>
      let z := if mode = 1 then y.setPosition 0
               else if held && y.zSeen then y.setPosition (s.num (Obj.encIndexPos c)) else y
      { z with zSeen := true, rezero := false, valid := y.valid || (y.rezero && y.zSeen) })
  else s

/-- POSITION_SET (R167): the position is the argument and valid. -/
def State.encPositionSet (s : State) (c pos : Nat) : State :=
  (s.modEncoder c (fun x => { x.setPosition pos with valid := true })).putNum (Obj.encPositionSet c) 2

/-- No edge for SPEED_TIMEOUT: STILL (R166). -/
def State.encTimeout (s : State) (c : Nat) : State :=
  let x := s.encoder c
  if s.encRuns c ∧ (x.state = 2 ∨ x.state = 3 ∨ x.state = 4) ∧
      x.lastEdge + s.num (Obj.encSpeedTimeout c) * 1000000 ≤ s.clk then
    s.modEncoder c (fun y => { y with state := 1, run := 0 })
  else s

/-- A channel's STATE after a change of ENABLE: OFF, or STILL from a fresh start (R173). -/
def State.encEnabled (s : State) (c : Nat) : State :=
  if s.retired Unit.encoder c then s
  else if s.flag (Obj.encEnable c) then
    s.modEncoder c (fun x => if x.state = 0 then { x with state := 1, run := 0, absorbed := false, illegal := [] } else x)
  else s.modEncoder c (fun x => { x with state := 0, run := 0 })

/-! ## Divided outputs -/

/-- One step of a divided output's accumulator (R169): whether it pulses. -/
def pgoStep (acc step : Int) (n m : Nat) : Int × Bool :=
  let a := acc + step * n
  let b := if a ≥ m then a - m else a
  (if b < -(2 ^ 40 : Int) then -(2 ^ 40 : Int) else b, decide (a ≥ m))

/-- The accumulator of a TIMEBASE output at the present clock: N for each ns since it was last brought up (R169). -/
def State.pgoAcc (s : State) (n : Nat) : Int :=
  (s.pgo n).acc + ((s.clk - (s.pgo n).lastClk) * s.num (Obj.pgoN n) : Nat)

/-- A change of N or M rescales the accumulator; a change of input clears it (R169). `n0`, `m0`, `i0` are the values
before the change. DESIGN CHOICE (log entry 65): a rescaled value keeps its full size until the next step brings it to the floor of
-2^40. -/
def State.pgoChanged (s : State) (k i0 n0 m0 : Nat) : State :=
  let acc := if i0 = 5 then (s.pgo k).acc + ((s.clk - (s.pgo k).lastClk) * n0 : Nat) else (s.pgo k).acc
  let m1 := s.num (Obj.pgoM k)
  let n1 := s.num (Obj.pgoN k)
  let acc1 := if s.num (Obj.pgoInput k) ≠ i0 then 0
              else if m0 ≠ m1 ∨ n0 ≠ n1 then acc * (m1 : Int) / (m0 : Int) else acc
  s.modPgo k (fun x => { x with acc := acc1, lastClk := s.clk })

/-- A pulse on the pin (R170): high for PULSE_WIDTH, at least 8 ns after the last fall. -/
def State.pgoPin (s : State) (k : Nat) : State :=
  if s.flag (Obj.pgoPinEnable k) then
    let t := max s.clk ((s.pgo k).pinFall + 8)
    (s.modPgo k (fun x => { x with pinFall := t + s.num (Obj.pgoPulseWidth k) })).emit (.pgoPulse k (s.shortAt t))
  else s

end Sys2Proof.Machine
end

