-- ==== Sys2Proof/Machine/Frames.lean ====
section
/-! DEFINITION. The bytes of the module's own formats: request and response bodies (R50, R51), the I3C frames (R54, R55), the YDP
datagrams (R62, R63, R68), the messages of the HLP downlink (R130) and the packets of the system link (R125, R126, R145). -/

namespace Sys2Proof.Machine

/-! ## Requests and responses -/

/-- A request body (R50). -/
def Req.bytes (q : Req) : Bytes :=
  leBytes 1 q.opcode ++ leBytes 1 q.flags ++ leBytes 2 q.index ++ leBytes 1 q.sub ++ leBytes 1 q.reserved ++ leBytes 2 q.data.length ++
  leBytes 4 q.offset ++ q.data

/-- The request that a body spells (R50): none when it is shorter than its 12 bytes of fixed fields, or when LENGTH disagrees with
the bytes that follow them (R55, R63). -/
def Req.parse (b : Bytes) : Option Req :=
  if b.length < 12 ∨ u16At b 6 + 12 ≠ b.length then none
  else some {
    opcode := u8At b 0, flags := u8At b 1, index := u16At b 2, sub := u8At b 4, offset := u32At b 8, data := b.drop 12,
    reserved := u8At b 5 }

/-- A response body (R51). -/
def Resp.bytes (x : Resp) : Bytes :=
  leBytes 1 x.opcode ++ leBytes 1 x.flags ++ leBytes 2 x.index ++ leBytes 1 x.sub ++ zeros 1 ++ leBytes 2 x.data.length ++
  leBytes 4 x.code ++ leBytes 4 x.offset ++ x.data

/-! ## I3C frames -/

/-- A frame on I3C: TAG, body, CRC-8 over both (R54). -/
def i3cFrame (tag : Nat) (body : Bytes) : Bytes :=
  let b := leBytes 1 tag ++ body
  b ++ leBytes 1 (crc8 b)

/-- The TAG and request of a private write (R54): none for a frame to discard, whose CRC-8 fails or whose length disagrees with
LENGTH (R55). -/
def parseFrame (b : Bytes) : Option (Nat × Req) :=
  let body := b.take (b.length - 1)
  if b.length < 2 ∨ crc8 body ≠ u8At b (b.length - 1) then none
  else (Req.parse (body.drop 1)).map (fun q => (u8At b 0, q))

/-! ## YDP datagrams -/

/-- KIND of a datagram (R62). -/
abbrev Ydp.request : Nat := 1
abbrev Ydp.response : Nat := 2
abbrev Ydp.notification : Nat := 3

/-- A datagram: the header of R62 and a body. -/
def ydpDatagram (kind session seq : Nat) (body : Bytes) : Bytes :=
  leBytes 2 0x4459 ++ leBytes 1 1 ++ leBytes 1 kind ++ leBytes 2 session ++ zeros 2 ++ leBytes 4 seq ++ leBytes 2 body.length ++
  zeros 2 ++ body

/-- SESSION, SEQ and request of a datagram to YDP_PORT (R62): none for one to drop (R63). -/
def parseDatagram (b : Bytes) : Option (Nat × Nat × Req) :=
  if b.length < 16 ∨ u16At b 0 ≠ 0x4459 ∨ u8At b 2 ≠ 1 ∨ u8At b 3 ≠ Ydp.request ∨ u16At b 12 + 16 ≠ b.length then none
  else (Req.parse (b.drop 16)).map (fun q => (u16At b 4, u32At b 8, q))

/-- The body of a notification (R68): the event mask and 3 reserved bytes. -/
def noticeBody (mask : Nat) : Bytes := leBytes 1 mask ++ zeros 3

/-! ## HLP messages and packets -/

/-- TRIG_START without its K symbol (R130). -/
def trigStartBytes (index fine ctrl : Nat) : Bytes :=
  let b := leBytes 1 fine ++ leBytes 1 ctrl ++ leBytes 4 index
  b ++ leBytes 1 (crc8 b)

/-- TRIG_END without its K symbol (R130). -/
def trigEndBytes (index fine : Nat) : Bytes :=
  let b := leBytes 1 fine ++ leBytes 1 index
  b ++ leBytes 1 (crc8 b)

/-- REG without its K symbol (R130). -/
def regBytes (tag : Nat) (write : Bool) (address words : Nat) (data : Bytes) : Bytes :=
  let b := leBytes 1 tag ++ leBytes 1 (if write then 2 else 1) ++ leBytes 1 words ++ leBytes 4 address ++ (if write then data else [])
  b ++ leBytes 2 (crc16 b)

/-- A packet between its SOP and EOP words (R125, R126): header, payload, CRC-32C of both. CAM_STATUS is a camera's and reads 0. -/
def packetBytes (kind flags index offset byte12 pseq : Nat) (payload : Bytes) : Bytes :=
  let b := leBytes 1 kind ++ leBytes 1 flags ++ leBytes 2 payload.length ++ leBytes 4 index ++ leBytes 4 offset ++ leBytes 1 byte12 ++
    leBytes 1 pseq ++ zeros 2 ++ payload
  b ++ leBytes 4 (crc32c b)

/-! ## What an emission is on its wire -/

/-- The bytes of an emission in a format that the spec gives: frames and datagrams whole, HLP messages after their K symbol, packets
between their SOP and EOP words. The other emissions are levels, pulses, or frames of other standards. -/
def Emission.bytes : Emission → Option Bytes
  | .i3cResponse tag resp => some (i3cFrame tag resp.bytes)
  | .i3cIbi bits => some (leBytes 1 bits)
  | .ydpResponse _ _ _ session seq resp => some (ydpDatagram Ydp.response session seq resp.bytes)
  | .notification session seq mask => some (ydpDatagram Ydp.notification session seq (noticeBody mask))
  | .trigStart _ index fine ctrl => some (trigStartBytes index fine ctrl)
  | .trigEnd _ index fine => some (trigEndBytes index fine)
  | .regMessage _ tag write address words data => some (regBytes tag write address words data)
  | .linkPacket _ kind flags index offset byte12 pseq payload => some (packetBytes kind flags index offset byte12 pseq payload)
  | .valveFrame _ frame => some frame
  | .hsp _ _ header data => some (header ++ data)
  | .i3cNack | .cxpTrigger .. | .cxpDiscovery .. | .cxpConnectionConfig .. | .linkOpen .. | .apply .. | .safe .. | .busSilent ..
  | .toutLevel .. | .pgoPulse .. | .arp .. | .icmpReply .. | .ptp .. | .haltN .. | .alertN .. | .camPower .. | .lamp .. => none

end Sys2Proof.Machine
end

