-- ==== Sys2Proof/Machine/LineCorrection.lean ====
section
/-! DEFINITION. Line correction of a region: routing, dark, gain, defects, statistics, calibration capture, hold and merge
(R174 to R195), and the state of the table banks (R187 to R189). -/

namespace Sys2Proof.Machine

def State.region (s : State) (r : Nat) : Region := s.regions.getD r Region.reset
def State.modRegion (s : State) (r : Nat) (f : Region → Region) : State := { s with regions := s.regions.modify r f }

/-- Whether a region is in reset now (R11, R514). -/
def State.inReset (s : State) (r : Nat) : Bool := decide (s.clk < (s.region r).resetUntil)

/-! ## Routing -/

/-- The slot that PHASE_MAP sends phase `p`, camera band `b` to; none when it is discarded (R180). -/
def routeOf (map p b : Nat) : Option Nat :=
  let e := map / 2 ^ (3 * (4 * p + b)) % 8
  if e < 4 then some e else none

/-- The camera band of phase `p` that feeds a slot. -/
def feeder (map bands p slot : Nat) : Option Nat := (List.range bands).find? (fun b => routeOf map p b = some slot)

/-- The phase that feeds a slot (R180: at most one entry feeds it). -/
def phaseOf (map phases bands slot : Nat) : Option Nat :=
  (List.range phases).find? (fun p => (feeder map bands p slot).isSome)

/-- The live slots of a port (R174), ascending. -/
def liveSlots (map phases bands : Nat) : List Nat :=
  (List.range 4).filter (fun k => (phaseOf map phases bands k).isSome)

/-- The value check of PHASE_MAP (R180). -/
def phaseMapOk (map : Nat) : Bool :=
  decide (map < 2 ^ 48) &&
  (List.range 16).all (fun e => let v := map / 2 ^ (3 * e) % 8; decide (v ≤ 3) || decide (v = 7)) &&
  (List.range 4).all (fun k => decide (((List.range 16).filter (fun e => map / 2 ^ (3 * e) % 8 = k)).length ≤ 1))

/-! ## Correction of a sample -/

/-- A sample left-aligned to 16 bits (R175). -/
def leftAlign (bits x : Nat) : Nat := x * 2 ^ (16 - bits)

/-- Dark subtraction and gain (R175). -/
def correctSample (bits : Nat) (darkOn gainOn : Bool) (d g x : Nat) : Nat :=
  let y := leftAlign bits x - (if darkOn then d else 0)
  let z := if gainOn then (y * g + 8192) / 16384 else y
  min 65535 z

/-- The table entry of a pixel and slot: beyond the value's length dark is 0 and gain 0x4000 (R177). -/
def tableEntry (t : Bytes) (px slot dflt : Nat) : Nat :=
  if 8 * px + 8 ≤ t.length then u16At t (8 * px + 2 * slot) else dflt

/-- The pixels DEFECTS lists for a slot (R178). -/
def defectsOf (t : Bytes) (slot : Nat) : List Nat :=
  (List.range (t.length / 4)).filterMap (fun k =>
    let e := u32At t (4 * k)
    if bitOf e (16 + slot) then some (e % 65536) else none)

/-- The value check of DEFECTS (R178): whole entries, ascending (a repeated pixel is check 14's), SLOTS not 0, no slot with
more than 16 adjacent listed pixels. -/
def defectsOk (t : Bytes) : Bool :=
  let n := t.length / 4
  let es := (List.range n).map (fun k => u32At t (4 * k))
  let px := es.map (fun e => e % 65536)
  decide (t.length % 4 = 0) && decide (t.length ≤ 4096) &&
  es.all (fun e => decide (e / 65536 % 16 ≠ 0) && decide (e / 2 ^ 20 = 0)) &&
  (List.zip px (px.drop 1)).all (fun q => decide (q.1 ≤ q.2)) &&
  (List.range 4).all (fun k =>
    let l := defectsOf t k
    l.all (fun x => !((List.range 17).all (fun d => l.contains (x + d)))))

/-- The nearest good neighbour to the left, within `n` pixels. -/
def goodLeft (bad : List Nat) (holes : List Bool) (x : Nat) : Nat → Option Nat
  | 0 => none
  | n + 1 =>
    match x with
    | 0 => none
    | k + 1 => if bad.contains k ∨ holes.getD k true then goodLeft bad holes k n else some k

/-- The nearest good neighbour to the right. -/
def goodRight (bad : List Nat) (holes : List Bool) (x : Nat) : Nat → Option Nat
  | 0 => none
  | n + 1 => if bad.contains (x + 1) ∨ holes.getD (x + 1) true then goodRight bad holes (x + 1) n else some (x + 1)

/-- `num / den` rounded to nearest, halves away from zero; `den` positive. -/
def roundDiv (num : Int) (den : Nat) : Int :=
  if num ≥ 0 then (2 * num + den) / (2 * den : Nat) else -((2 * (-num) + den) / (2 * den : Nat))

/-- The replacement of a listed pixel, rounded as a whole, none when it has no good neighbour (R179). -/
def patchValue (samples : List Nat) (bad : List Nat) (holes : List Bool) (x width : Nat) : Option Nat :=
  match goodLeft bad holes x width, goodRight bad holes x width with
  | some a, some c =>
    let va := natAt samples a
    let vc := natAt samples c
    some (roundDiv ((va : Int) * ((c : Int) - a) + ((vc : Int) - va) * ((x : Int) - a)) (c - a)).toNat
  | some a, none => some (natAt samples a)
  | none, some c => some (natAt samples c)
  | none, none => none

/-- A slot's samples with its listed pixels replaced, and the pixels that could not be (R179). A listed pixel that is a
hole of the line stays one. -/
def patchSlot (samples : List Nat) (bad : List Nat) (holes : List Bool) (width : Nat) : List Nat × List Nat :=
  let vals := (List.range width).map (fun x =>
    if bad.contains x ∧ !holes.getD x true then patchValue samples bad holes x width else some (natAt samples x))
  (vals.map (fun v => v.getD 0), (List.range width).filter (fun x => (vals.getD x none).isNone))

/-- A corrected line of one phase: its slots with their samples, the hole mask with the unpatched pixels, how many of
those there are (R174 steps 1 to 4). -/
structure Corrected where
  slots : List (Nat × List Nat)
  raw : List (Nat × List Nat)
  holes : List Bool
  patched : Nat
  deriving DecidableEq, Repr

/-- Steps 1 to 4 of R174 on a port line. DESIGN CHOICE (log entry 28): a pixel with no good neighbour in several slots of the line
is one hole, counts once in PATCH_HOLES, and is a hole for every slot the line feeds. -/
def correctLine (l : PixLine) (map bands bits width corr : Nat) (dark gain defects : Bytes) : Corrected :=
  let routed := (List.range 4).filterMap (fun k => (feeder map bands l.phase k).map (fun b => (k, l.samples.getD b [])))
  let one := fun (k : Nat) (raw : List Nat) =>
    let y := (List.range width).map (fun x =>
      correctSample bits (bitOf corr 0) (bitOf corr 1) (tableEntry dark x k 0) (tableEntry gain x k 0x4000) (natAt raw x))
    if bitOf corr 2 then patchSlot y (defectsOf defects k) l.holes width else (y, [])
  let done := routed.map (fun q => (q.1, one q.1 q.2))
  let lost := (List.range width).filter (fun x => done.any (fun q => q.2.2.contains x))
  { slots := done.map (fun q => (q.1, q.2.1)), raw := routed,
    holes := (List.range width).map (fun x => l.holes.getD x true || lost.contains x), patched := lost.length }

/-- What a line leaves that the region does not correct, because it is in reset or retired: a hole throughout (R11, R190). -/
def Corrected.none_ (l : PixLine) : Corrected :=
  { slots := [], raw := [], holes := l.holes.map (fun _ => true), patched := 0 }

/-! ## Statistics -/

/-- No samples counted yet (R192). -/
def SlotStats.empty_ (width : Nat) : SlotStats :=
  { samples := 0, saturated := 0, sum := 0, min := 0xFFFF, max := 0, histogram := List.replicate 256 0,
    profile := List.replicate (width / 16) (0, 0) }

/-- One sample counted (R192). -/
def SlotStats.add (a : SlotStats) (x v : Nat) (saturated : Bool) : SlotStats :=
  { samples := a.samples + 1, saturated := if saturated then satAdd 32 a.saturated 1 else a.saturated, sum := a.sum + v,
    min := Nat.min a.min v, max := Nat.max a.max v, histogram := a.histogram.modify (v / 256) (fun n => satAdd 32 n 1),
    profile := a.profile.modify (x / 16) (fun q => (q.1 + v, q.2 + 1)) }

/-- One slot's line counted: its samples outside holes (R190). -/
def SlotStats.addLine (a : SlotStats) (raw samples : List Nat) (holes : List Bool) (bits : Nat) : SlotStats :=
  (List.range samples.length).foldl (fun acc x =>
    if holes.getD x true then acc else acc.add x (natAt samples x) (natAt raw x = 2 ^ bits - 1)) a

/-- The mean of a profile group, rounded half up (R192). -/
def profileEntry (q : Nat × Nat) : Nat :=
  if q.2 = 0 then 0xFFFF else min 0xFFFE ((2 * q.1 + q.2) / (2 * q.2))

/-- The block of a live slot (R192). -/
def SlotStats.block (a : SlotStats) : Bytes :=
  leBytes 8 a.samples ++ leBytes 4 a.saturated ++
  leBytes 4 (if a.samples = 0 then 0 else a.sum * 65536 / a.samples) ++ leBytes 8 a.sum ++ leBytes 2 a.min ++
  leBytes 2 a.max ++ leBytes 4 0 ++ a.histogram.flatMap (leBytes 4) ++ a.profile.flatMap (fun q => leBytes 2 (profileEntry q))

/-- The mask of a list of slots. -/
def slotMask (l : List Nat) : Nat := l.foldl (fun m k => m ||| 2 ^ k) 0

/-- The data of a frame's statistics (R191). -/
def statsData (f : StatsFrame) (frame word port view : Nat) : Bytes :=
  leBytes 4 frame ++ leBytes 4 f.time ++ leBytes 8 word ++ leBytes 4 f.exposure ++ leBytes 1 port ++ leBytes 1 view ++
  leBytes 1 (slotMask f.live) ++ leBytes 1 f.phases ++ leBytes 4 f.width ++
  leBytes 1 ((if f.mixed then 1 else 0) + (if f.holed then 2 else 0)) ++ leBytes 3 0 ++
  f.live.flatMap (fun k => (f.slots.getD k (SlotStats.empty_ 0)).block)

/-! ## Calibration capture -/

/-- One line of a captured frame added (R194). -/
def Capture.addLine (c : Capture) (raw : List (Nat × List Nat)) (holes : List Bool) (bits width : Nat) : Capture :=
  { c with
    lines := if (List.range width).all (fun x => holes.getD x true) then c.lines else c.lines + 1,
    sums := (List.range 4).map (fun k =>
      match assoc raw k with
      | some r => (List.range width).map (fun x =>
          let q := ((c.sums.getD k []).getD x (0, 0))
          if holes.getD x true then q else (q.1 + leftAlign bits (natAt r x), q.2 + 1))
      | none => c.sums.getD k []) }

/-- The captured value of a pixel and whether it was clamped (R194). -/
def captureValue (kind target d : Nat) (q : Nat × Nat) : Nat × Bool :=
  let m := (2 * q.1 + q.2) / (2 * q.2)
  if kind = 1 then (m, false)
  else if m ≤ d then (0xFFFF, true)
  else
    let g := (2 * target * 16384 + (m - d)) / (2 * (m - d))
    if g < 1 then (1, true) else if 0xFFFF < g then (0xFFFF, true) else (g, false)

/-- The value of a completed capture, pixel-major, and how many entries were clamped (R177, R195). -/
def Capture.value (c : Capture) (width target : Nat) (dark : Bytes) : Bytes × Nat :=
  let cells := (List.range width).flatMap (fun x => (List.range 4).map (fun k =>
    if c.live.contains k then
      captureValue c.kind target (tableEntry dark x k 0) ((c.sums.getD k []).getD x (0, 1)) else (0, false)))
  (cells.flatMap (fun q => leBytes 2 q.1), (cells.filter (fun q => q.2)).length)

/-- Whether every pixel of every live slot has a sample (R194). -/
def Capture.covered (c : Capture) (width : Nat) : Bool :=
  c.live.all (fun k => (List.range width).all (fun x => decide (0 < ((c.sums.getD k []).getD x (0, 0)).2)))

/-- The end of a captured frame: presented in P+0x0C, or FAILED (R194, R195). -/
def State.endCapture (s : State) (p : Nat) (c : Capture) : State :=
  let width := s.param c.epoch (Obj.portWidth p)
  let s1 := s.modRegion p (fun g => { g with capture := none })
  if c.covered width then
    let v := c.value width (s.num (Obj.portFlatTarget p)) (s.paramBytes (s.region p).epoch (Obj.portDark p))
    (s1.completeResult (Obj.portCalResult p) (some c.epoch)
      (leBytes 1 c.kind ++ leBytes 1 (slotMask c.live) ++ leBytes 2 0 ++ leBytes 4 c.frameNo ++ leBytes 4 v.2 ++
        leBytes 4 c.lines ++ v.1)).putNum (Obj.portCalCapture p) 2
  else s1.putNum (Obj.portCalCapture p) 3

/-! ## Banks -/

/-- The bank of a table object by its number: 0 DARK, 1 GAIN, 2 DEFECTS. -/
def Region.bank (g : Region) : Nat → BankPair
  | 0 => g.dark | 1 => g.gain | _ => g.defects

def Region.setBank (g : Region) (k : Nat) (b : BankPair) : Region :=
  if k = 0 then { g with dark := b } else if k = 1 then { g with gain := b } else { g with defects := b }

/-- A bank staged (R187). -/
def State.stageBank (s : State) (p k : Nat) : State :=
  s.modRegion p (fun g => g.setBank k { (g.bank k) with state := 1 })

/-- Every STAGED bank becomes EMPTY when the staging area is released without a commit (R188). -/
def State.dropBanks (s : State) : State :=
  { s with regions := s.regions.map (fun g =>
    [0, 1, 2].foldl (fun g k => if (g.bank k).state = 1 then g.setBank k BankPair.reset else g) g) }

/-- Every STAGED bank becomes ARMED for the epoch a commit allocates (R188). -/
def State.armBanks (s : State) (epoch : Nat) : State :=
  { s with regions := s.regions.map (fun g =>
    [0, 1, 2].foldl (fun g k =>
      if (g.bank k).state = 1 then g.setBank k { state := 2, epoch := epoch } else g) g) }

/-- The place of an epoch among the parameter sets kept, oldest first; epochs not kept come first. -/
def State.epochPos (s : State) (e : Nat) : Nat :=
  match s.dict.sets.findIdx? (fun x => x.epoch = e) with
  | some i => i + 1
  | none => 0

/-- The region's set switches to a line's epoch: banks armed for it, or for one allocated before it, are now active and
the bank they leave is EMPTY (R22, R188, R189). -/
def State.switchRegion (s : State) (r epoch : Nat) : State :=
  let pos := s.epochPos epoch
  s.modRegion r (fun g =>
    [0, 1, 2].foldl (fun g k =>
      if (g.bank k).state = 2 ∧ s.epochPos (g.bank k).epoch ≤ pos then g.setBank k BankPair.reset else g)
      { g with epoch := epoch })

/-- BANK_STATE (P+0x06:04). -/
def Region.bankState (g : Region) : Nat := g.dark.state + 4 * g.gain.state + 16 * g.defects.state

/-! ## A line through the stage -/

/-- The frame length a view's framing uses now (R155). -/
def State.frameLen (s : State) (v : Nat) : Nat := ((s.trigger v).frameLines).getD (s.num (Obj.trgFrameLines v))

/-- The first multiple of `l` at or after an index; the wrap's index 0 is one (R155). -/
def firstMultiple (l n : Nat) : Nat :=
  let m := ceilDiv n l * l
  if wrap32 ≤ m then 0 else m

/-- The first frame-start index at or after an index (R154, R155). -/
def State.frameFrom (s : State) (v n : Nat) : Nat :=
  let m := firstMultiple (s.frameLen v) n
  match (s.trigger v).newFrameLines with
  | none => m
  | some (_, st) => if ahead32 n m ≤ ahead32 n st then m else st

/-- Whether an index starts a frame. -/
def State.startsFrame (s : State) (v n : Nat) : Bool := decide (s.frameFrom v n = n)

/-- Whether the trigger generator of a view is STOPPED, by the values a lookup gives (R149, R153): a view that continues from
another module has its generator there (R34). -/
def stoppedBy (num : Nat → Nat) (v : Nat) : Bool :=
  decide (num (Obj.trgSource v) = 0) && decide (num (Obj.viewContinuesFrom v) = 0xFF)

/-- The held lines cleared where R182 says so: at a frame start that changes PHASES or PHASE_MAP, and at one that follows a CUT frame;
`frame` has those of the line's frame. The history of the along-track stage is cleared then, and at the bound line of a change of
PHASES, PHASE_MAP, OUT_WIDTH or AT_ENABLE, which `line` has in the line's epoch, and counted (R206). -/
def State.clearHolds (s : State) (p : Nat) (l : PixLine) (frame : Nat × Nat) (line : Nat × Nat × Nat × Nat) : State :=
  let g := s.region p
  match g.setup with
  | none => s.modRegion p (fun g => { g with setup := some (frame, line) })
  | some (f0, l0) =>
    let hold := decide (f0 ≠ frame) || (decide (l.index = l.frameStart) && l.afterCut)
    let hist := hold || decide (l0 ≠ line)
    let s1 := s.modRegion p (fun g => { g with
      setup := some (frame, line),
      held := if hold then [none, none, none, none] else g.held,
      history := if hist then [[], [], [], []] else g.history })
    s1.bumpIf hist (Obj.portAtClears p)

/-- EXPOSURE of a port's frame (R191, R193): that in force for the frame; for a CoaXPress port the one last sent for it, if any
was. -/
def State.frameExposure (s : State) (p v : Nat) (l : PixLine) : Nat :=
  let sent := (s.port p).exposures.find? (fun q => decide (ahead32 q.1 l.frameStart < half32))
  match (if s.num (Obj.portLinkMode p) = 1 then sent else none) with
  | some q => q.2
  | none => s.param l.frameEpoch (Obj.trgExposure v)

/-- The statistics of a frame end: presented when they are enabled, with the view of the frame (R191). -/
def State.endStats (s : State) (p : Nat) : State :=
  match (s.region p).stats with
  | none => s
  | some f =>
    let s1 := s.modRegion p (fun g => { g with stats := none })
    if f.enabled then
      s1.completeResult (Obj.portStats p) (some f.epoch) (statsData f f.frameNo ((s.port p).frameOf f.view f.start).word p f.view)
    else s1

/-- Statistics of a line, and the frame's result at its end (R190, R191). A frame whose last line did not come this way ends with
the first line of another. -/
def State.tapStats (s0 : State) (p v : Nat) (l : PixLine) (c : Corrected) (live : List Nat) (bits width phases : Nat) : State :=
  let s := match (s0.region p).stats with
    | some f => if f.start = l.frameStart ∧ f.view = v then s0 else s0.endStats p
    | none => s0
  let fresh : StatsFrame :=
    { view := v, start := l.frameStart, frameNo := l.frameNo, time := l.frameTime, epoch := l.frameEpoch, mixed := false, holed := false,
      live := live, width := width, phases := phases, exposure := s.frameExposure p v l,
      enabled := s.param l.frameEpoch (Obj.portStatsEnable p) ≠ 0,
      slots := List.replicate 4 (SlotStats.empty_ width) }
  let f := (s.region p).stats.getD fresh
  let f1 := { f with
    mixed := f.mixed || decide (l.epoch ≠ f.epoch), holed := f.holed || c.holes.any id,
    slots := (List.range 4).map (fun k =>
      match assoc c.slots k with
      | some y => (f.slots.getD k (SlotStats.empty_ width)).addLine ((assoc c.raw k).getD []) y c.holes bits
      | none => f.slots.getD k (SlotStats.empty_ width)) }
  let s1 := s.modRegion p (fun g => { g with stats := some f1 })
  if l.frameEnd then s1.endStats p else s1

/-- The capture of a frame goes on, or ends with it (R194): its pixels are those that no line's own mask makes holes. A frame whose
last line did not come this way ends its capture with the first line of a later frame. -/
def State.tapCapture (s : State) (p : Nat) (l : PixLine) (c : Corrected) (live : List Nat) (bits width : Nat) : State :=
  match (s.region p).capture with
  | none => s
  | some k =>
    match k.frame with
    | none => s
    | some f =>
      if f = l.frameStart then
        let k1 := ({ k with live := live }).addLine c.raw (if c.raw = [] then c.holes else l.holes) bits width
        if l.frameEnd then s.endCapture p k1
        else s.modRegion p (fun g => { g with capture := some k1 })
      else if ahead32 f l.frameStart < half32 then s.endCapture p k
      else s

/-- The latencies of a frame reported at its end (R210). -/
def State.endLatency (s : State) (p start : Nat) : State :=
  match (s.region p).latency with
  | some q =>
    if q.1 = start then
      ((s.putNum (Obj.portLatencyMax p) q.2.1).putNum (Obj.portLatencyLast p) q.2.2).modRegion p (fun g => { g with latency := none })
    else s
  | none => s

/-- The statistics, the latencies and the capture of a port's frame end where its last line has passed without the frame's end mark: a
change of FRAME_LINES cut the frame after it (R155, R191, R194), or the port has left the view (R153). -/
def State.cutTaps (s : State) (p v start : Nat) : State :=
  let s0 := s.endLatency p start
  let s1 := match (s0.region p).stats with
    | some f => if f.start = start ∧ f.view = v then s0.endStats p else s0
    | none => s0
  match (s1.region p).capture with
  | some k => if k.frame = some start then s1.endCapture p k else s1
  | none => s1

/-- The slots held after a line: those its phase feeds take it (R181). -/
def holdLine (held : List (Option SlotLine)) (index : Nat) (c : Corrected) : List (Option SlotLine) :=
  (List.range 4).map (fun k =>
    match assoc c.slots k with
    | some y => some { index := index, samples := y, holes := c.holes }
    | none => held.getD k none)

/-- AGE of a live slot (R181). -/
def ageOf (held : List (Option SlotLine)) (k index : Nat) : Nat :=
  match held.getD k none with | some l => ahead32 l.index index | none => 0

end Sys2Proof.Machine
end

