-- ==== Sys2Proof/Machine/Resample.lean ====
section
/-! DEFINITION. The resampling chain: cross-track (R198 to R203), along-track (R204 to R208), and the decimators of output
streams (R211 to R215). -/

namespace Sys2Proof.Machine

/-! ## Cross-track -/

/-- A sum in the 64-bit registers of R200. -/
def wrapI64 (x : Int) : Int := toSigned 64 (ofSigned 64 x)

/-- The positions p of R200 for `n` output pixels, from position and first, second, third differences, in 2^-40 px. -/
def xtPositions : Nat → Int → Int → Int → Int → List Int
  | 0, _, _, _, _ => []
  | n + 1, p, d1, d2, d3 => p :: xtPositions n (wrapI64 (p + d1)) (wrapI64 (d1 + d2)) (wrapI64 (d2 + d3)) d3

/-- The positions of a slot's block in XT_MAP (R199). -/
def xtPositionsOf (map : Bytes) (slot width : Nat) : List Int :=
  xtPositions width (i64At map (32 * slot)) (i64At map (32 * slot + 8)) (i64At map (32 * slot + 16)) (i64At map (32 * slot + 24))

/-- The phase accumulator acc of a position: its bits as a U32 (R200). -/
def xtAcc (p : Int) : Int := (ofSigned 32 (asr p 24) : Int)

/-- The accumulators of a slot's block (R200). -/
def xtAccsOf (map : Bytes) (slot width : Nat) : List Int := (xtPositionsOf map slot width).map xtAcc

/-- A tap of a coefficient table: phase `ph`, tap `t` of `taps`, I16 (R198, R204, R242). -/
def tapAt (c : Bytes) (taps ph t : Nat) : Int := i16At c (2 * (taps * ph + t))

/-- The pixel a tap reads, edge pixels repeated. -/
def tapPixel (ip : Int) (before t width : Nat) : Nat := clampNat (ip - before + t) 0 (width - 1)

/-- A sum of taps narrowed to 16 bits: round half up, clamp (R200, R205, R242). -/
def tapsOut (sum : Int) : Nat := clampNat (asr (sum + 8192) 14) 0 65535

/-- One output pixel of a resampler with `taps` taps, `before` of them before the integer pixel: its value, and whether a
tap with a coefficient reads a hole; a hole pixel reads 0 (R200, R201, R242). -/
def resamplePixel (c : Bytes) (taps before : Nat) (acc : Int) (samples : List Nat) (holes : List Bool) (width : Nat) :
    Nat × Bool :=
  let ip := asr acc 16
  let ph := (asr acc 10 % 64).toNat
  let terms := (List.range taps).map (fun t => (tapAt c taps ph t, tapPixel ip before t width))
  (tapsOut (terms.foldl (fun a q => a + q.1 * (if holes.getD q.2 true then 0 else (natAt samples q.2 : Int))) 0),
   terms.any (fun q => decide (q.1 ≠ 0) && holes.getD q.2 true))

/-- A slot's line through the cross-track resampler (R200, R201). -/
def xtSlot (coeffs map : Bytes) (slot outWidth width : Nat) (samples : List Nat) (holes : List Bool) :
    List Nat × List Bool :=
  let out := (xtAccsOf map slot outWidth).map (fun acc => resamplePixel coeffs 8 3 acc samples holes width)
  (out.map (·.1), out.map (·.2))

/-- Check 15 for one slot's map (R202). -/
def xtMapOk (map : Bytes) (slot outWidth width : Nat) : Bool :=
  let ps := xtPositionsOf map slot outWidth
  let accs := ps.map xtAcc
  ps.all (fun p => decide (0 ≤ p)) && decide (accs.getLastD 0 ≤ ((width - 1) * 65536 : Nat)) &&
  (List.zip accs (accs.drop 1)).all (fun q => decide (16384 ≤ q.2 - q.1) && decide (q.2 - q.1 ≤ 131072))

/-- A hole mask that joins several. -/
def joinHoles (width : Nat) (l : List (List Bool)) : List Bool :=
  (List.range width).map (fun x => l.any (fun h => h.getD x true))

/-- The demultiplexed line of R181 through the cross-track resampler: one hole mask for all live slots. Slots that are not
live hold nothing. -/
def demuxResampled (live : List Nat) (held : List (Option SlotLine)) (coeffs map : Bytes) (outWidth width : Nat) :
    List (List Nat) × List Bool :=
  let lines := live.map (fun k => (k, held.getD k none))
  let mask := joinHoles width (lines.map (fun q =>
    match q.2 with | some l => l.holes | none => List.replicate width true))
  let outs := lines.map (fun q =>
    (q.1, xtSlot coeffs map q.1 outWidth width (match q.2 with | some l => l.samples | none => []) mask))
  ((List.range 4).map (fun k => match assoc outs k with | some o => o.1 | none => []),
   joinHoles outWidth (outs.map (fun q => q.2.2)))

/-! ## Along-track -/

/-- The field of AT_DELAY for a slot. -/
def atDelay (delays slot : Nat) : Nat := delays / 2 ^ (4 * slot) % 16

/-- AT_SHIFT of a slot: 16 * 3n - n * delta in 1/16 line (R208). -/
def atShift (phases delta : Nat) : Nat := 48 * phases - phases * delta

/-- Distance of a source line from line `i`, in lines, not positive for lines that have come. -/
def relIndex (i m : Nat) : Int := diff32 m i

/-- One slot of output line `i` (R205, R206): the taps' lines, each with its coefficient. The slot's source lines lie `n` apart,
so m0 lies on the raster of the newest line kept, whether it is kept itself or was received before the last clear. None when
none is kept. -/
def atTaps (coeffs : Bytes) (i n delta : Nat) (hist : List SlotLine) : Option (List (Int × Option SlotLine)) :=
  let x16 : Int := -(48 * n : Nat) + (n * delta : Nat)
  match hist.head? with
  | none => none
  | some q =>
    let newest := relIndex i q.index
    let back := ceilDiv (16 * newest - x16).toNat (16 * n)
    let m0 : Int := newest - (back * n : Nat)
    let f := ((x16 - 16 * m0) / n).toNat % 16
    some ((List.range 4).map (fun t =>
      let idx := ofSigned 32 ((i : Int) + m0 + (t * n : Nat) - n)
      (tapAt coeffs 4 f t, hist.find? (fun l => l.index = idx))))

/-- A slot's output pixel from its taps (R205, R206). -/
def atPixel (taps : List (Int × Option SlotLine)) (x : Nat) : Nat × Bool :=
  (tapsOut (taps.foldl (fun a q => a + q.1 * (match q.2 with | some l => (natAt l.samples x : Int) | none => 0)) 0),
   taps.any (fun q => decide (q.1 ≠ 0) && (match q.2 with | some l => l.holes.getD x true | none => true)))

/-- A slot's output line (R205). -/
def atSlot (coeffs : Bytes) (i n delta outWidth : Nat) (hist : List SlotLine) : List Nat × List Bool :=
  match atTaps coeffs i n delta hist with
  | none => (List.replicate outWidth 0, List.replicate outWidth true)
  | some taps =>
    let o := (List.range outWidth).map (atPixel taps)
    (o.map (·.1), o.map (·.2))

/-! ## The region's line through correction and resampling -/

/-- A line that is a hole over the port's whole output (R11, R21). -/
def holeLine (l : PixLine) (outWidth : Nat) : PixLine :=
  { l with samples := [[], [], [], []], holes := List.replicate outWidth true }

/-- A forwarded line through line correction and the resampler (R174 to R208): the state after its statistics and holds,
and the resampled line of four slots. -/
def State.correctAndResample (s : State) (p v : Nat) (l : PixLine) : State × PixLine :=
  let e := l.epoch
  let bits := s.param e (Obj.portBits p)
  let bands := s.param e (Obj.portBands p)
  let width := s.param e (Obj.portWidth p)
  let outWidth := s.param e (Obj.portOutWidth p)
  let phases := s.param l.frameEpoch (Obj.trgPhases v)
  let map := s.param l.frameEpoch (Obj.portPhaseMap p)
  let atOn := s.param l.frameEpoch (Obj.portAtEnable p) ≠ 0
  let live := liveSlots map phases bands
  let s0 := if (s.region p).epoch = e then s else s.switchRegion p e
  let s1 := s0.clearHolds p l (phases, map)
    (s.param e (Obj.trgPhases v), s.param e (Obj.portPhaseMap p), outWidth, s.param e (Obj.portAtEnable p))
  let c := correctLine l map bands bits width (s.param e (Obj.portCorrEnable p)) (s.paramBytes e (Obj.portDark p))
    (s.paramBytes e (Obj.portGain p)) (s.paramBytes e (Obj.portDefects p))
  let s2 := s1.bumpBy (Obj.portPatchHoles p) c.patched
  let s3 := s2.tapStats p v l c live bits width phases
  let s4 := s3.tapCapture p l c live bits width
  let coeffs := s.paramBytes e (Obj.portXtCoeffs p)
  let xmap := s.paramBytes e (Obj.portXtMap p)
  let held := holdLine (s4.region p).held l.index c
  let s5 := s4.modRegion p (fun g => { g with held := held })
  if atOn then
    let fresh := fun (k : Nat) => (assoc c.slots k).map (fun y =>
      let o := xtSlot coeffs xmap k outWidth width y c.holes
      { index := l.index, samples := o.1, holes := o.2 : SlotLine })
    let hist := (List.range 4).map (fun k =>
      let old := (s5.region p).history.getD k []
      match fresh k with | some n => (n :: old).take 6 | none => old)
    let s6 := s5.modRegion p (fun g => { g with history := hist })
    let atc := s.paramBytes l.frameEpoch (Obj.portAtCoeffs p)
    let delays := s.param l.frameEpoch (Obj.portAtDelay p)
    let outs := live.map (fun k => (k, atSlot atc l.index phases (atDelay delays k) outWidth (hist.getD k [])))
    (s6, { l with ages := [], samples := (List.range 4).map (fun k => match assoc outs k with | some o => o.1 | none => []),
                  holes := joinHoles outWidth (outs.map (fun q => q.2.2)) })
  else
    let o := demuxResampled live held coeffs xmap outWidth width
    (s5, { l with samples := o.1, holes := o.2,
                  ages := (List.range 4).map (fun k => if live.contains k then ageOf held k l.index else 0) })

/-- AT_SHIFT (P+0x0E:04): four fields of a byte, 0 with AT_ENABLE 0 (R208). DESIGN CHOICE (log entry 65): it reads 0 for a port in no
view, which has no PHASES. -/
def State.atShiftObj (s : State) (p : Nat) : Nat :=
  match s.viewOfPort p with
  | none => 0
  | some v =>
    if s.flag (Obj.portAtEnable p) then
      (List.range 4).foldl (fun a k =>
        a + atShift (s.num (Obj.trgPhases v)) (atDelay (s.num (Obj.portAtDelay p)) k) * 2 ^ (8 * k)) 0
    else 0

/-! ## Decimators -/

/-- A 40-bit register. -/
abbrev wrap40 : Nat := 2 ^ 40

/-- One decimator register file after an input sample (R211): integrators first to last. -/
def cicInteg : List Nat → Nat → List Nat
  | [], _ => []
  | a :: r, x => let y := (a + x) % wrap40; y :: cicInteg r y

/-- The combs of one output (R211): the new comb registers and the value after the last. -/
def cicComb : List Nat → Nat → List Nat × Nat
  | [], c => ([], c)
  | prev :: r, c => let q := cicComb r ((c + wrap40 - prev) % wrap40); (c :: q.1, q.2)

/-- An output of the decimator (R211). -/
def cicOut (y gain : Nat) : Nat := (y + gain / 2) / gain

/-- How many outputs a reset suppresses (R213). -/
def cicWarmup (n r : Nat) : Nat := ceilDiv ((n - 1) * (r - 1)) r

/-- A fresh decimator of an order over a number of sample positions (R213). -/
def Cic.fresh (n r positions : Nat) : Cic :=
  { order := n, ratio := r, integ := List.replicate positions (List.replicate n 0),
    comb := List.replicate positions (List.replicate n 0), g := 0, warmup := cicWarmup n r,
    sinceHole := [], changes := [] }

/-- One input line through a decimator (R211 to R214): samples by position, holes by pixel, and the positions per pixel.
The output is none while the group is open; its flag says whether it is still suppressed. -/
def Cic.line (c : Cic) (samples : List Nat) (holes : List Bool) (bands : Nat) :
    Cic × Option (List Nat × List Bool × Bool) :=
  let integ := (List.range samples.length).map (fun k =>
    cicInteg (c.integ.getD k (List.replicate c.order 0)) (if holes.getD (k / bands) true then 0 else natAt samples k))
  let since := (List.range holes.length).map (fun x =>
    if holes.getD x true then 0 else min 255 (c.sinceHole.getD x 0 + 1))
  if c.g + 1 = c.ratio then
    let combs := (List.range samples.length).map (fun k =>
      cicComb (c.comb.getD k (List.replicate c.order 0)) ((integ.getD k []).getLastD 0))
    let out := combs.map (fun q => cicOut q.2 (c.ratio ^ c.order))
    let hole := since.map (fun n => decide (n < c.order * (c.ratio - 1) + 1))
    ({ c with integ := integ, comb := combs.map (·.1), g := 0, warmup := c.warmup - 1, sinceHole := since },
     some (out, hole, decide (0 < c.warmup)))
  else ({ c with integ := integ, g := c.g + 1, sinceHole := since }, none)

end Sys2Proof.Machine
end

