-- ==== Sys2Proof/Machine/Colour.lean ====
section
/-! DEFINITION. The colour stage (R218 to R221) and the whole of a region's line: LINE_CORRECTION takes a forwarded line
through correction, resampling and colour. -/

namespace Sys2Proof.Machine

/-- White balance of one slot (R218). -/
def whiteBalance (x g : Nat) : Nat := min ((x * g + 8192) / 16384) 65535

/-- One matrix row (R218). -/
def matrixRow (m : Bytes) (b : Nat) (w : List Nat) : Nat :=
  let acc := (List.range 4).foldl (fun a k => a + i16At m (8 * b + 2 * k) * (natAt w k : Int)) 0
  clampNat (asr (acc + i32At m (32 + 4 * b) * 4096 + 2048) 12) 0 65535

/-- The tone curve of a band (R218); the implied entry 4,096 is 65,536. -/
def toneCurve (t : Bytes) (b c : Nat) : Nat :=
  let i := c / 16
  let f := c % 16
  let entry := fun (k : Nat) => if k = 4096 then 65536 else u16At t (8192 * b + 2 * k)
  min (((16 - f) * entry i + f * entry (i + 1) + 8) / 16) 65535

/-- One pixel through the colour stage (R218). -/
def colourPixel (enable gains : Nat) (m t : Bytes) (x : List Nat) : List Nat :=
  let w := (List.range 4).map (fun k =>
    if bitOf enable 0 then whiteBalance (natAt x k) (gains / 2 ^ (16 * k) % 65536) else natAt x k)
  let c := (List.range 4).map (fun b => if bitOf enable 1 then matrixRow m b w else natAt w b)
  (List.range 4).map (fun b => if bitOf enable 2 then toneCurve t b (natAt c b) else natAt c b)

/-- The value check of MATRIX (R221). -/
def matrixOk (m : Bytes) : Bool :=
  decide (m.length = 48) && (List.range 4).all (fun b =>
    decide (-65536 ≤ i32At m (32 + 4 * b)) && decide (i32At m (32 + 4 * b) ≤ 65535))

/-- A line through the colour stage: holes stay holes, their samples enter as 0 (R218, R219). -/
def colourLine (l : PixLine) (enable gains : Nat) (m t : Bytes) : PixLine :=
  let px := (List.range l.holes.length).map (fun x =>
    colourPixel enable gains m t ((List.range 4).map (fun k =>
      if l.holes.getD x true then 0 else natAt (l.samples.getD k []) x)))
  { l with samples := (List.range 4).map (fun b => px.map (fun v => natAt v b)) }

/-- Whether a region does not process a line: it is retired, or the line comes before the frame start at which it rejoins after a
reset (R11, R13, R189). -/
def State.regionIdle (s : State) (r index : Nat) : Bool :=
  let g := s.region r
  decide (g.state = 2) || g.awaiting || (match g.rejoin with | some i => decide (half32 ≤ ahead32 i index) | none => false)

/-- Whether a region's span of a stitched line is a hole: retired, in reset, waiting for its rejoin, or before it (R11,
R13, R262). -/
def State.regionHole (s : State) (r index : Nat) : Bool :=
  let g := s.region r
  decide (g.state = 2) || g.awaiting || (match g.rejoin with | some i => decide (half32 ≤ ahead32 i index) | none => false)

/-- The latency of a line, kept for its frame and reported at the frame's end (R210). -/
def State.lineLatency (s : State) (p : Nat) (l : PixLine) : State :=
  let t := ahead32 l.time s.shortNow
  let m := match (s.region p).latency with
    | some q => if q.1 = l.frameStart then Nat.max q.2.1 t else t
    | none => t
  let s1 := s.modRegion p (fun g => { g with latency := some (l.frameStart, m, t) })
  if l.frameEnd then s1.endLatency p l.frameStart else s1

/-- A line taken by the stitcher's side of the region (R225). -/
def State.colouredPut (s : State) (p : Nat) (l : PixLine) : State :=
  s.modRegion p (fun g => { g with coloured := l :: g.coloured, lastLine := s.clk, gated := false })

/-- A line that the region does not process: a hole in the frame's statistics and capture, passed on as a hole (R11, R191, R194). DESIGN
CHOICE (log entry 65): it has no latency to measure (R210), and where it ends its frame the latencies measured before it are reported. -/
def State.idleLine (s : State) (p : Nat) (l : PixLine) : State :=
  let e := l.epoch
  let phases := s.param l.frameEpoch (Obj.trgPhases l.view)
  let live := liveSlots (s.param l.frameEpoch (Obj.portPhaseMap p)) phases (s.param e (Obj.portBands p))
  let bits := s.param e (Obj.portBits p)
  let width := s.param e (Obj.portWidth p)
  let c := Corrected.none_ l
  let s1 := (s.tapStats p l.view l c live bits width phases).tapCapture p l c live bits width
  (if l.frameEnd then s1.endLatency p l.frameStart else s1).colouredPut p
    (holeLine l (s.param e (Obj.portOutWidth p)))

/-- LINE_CORRECTION: the oldest forwarded line of a port goes through its region (R174 to R221). A region that is retired or
in reset passes a hole on. Past its rejoin index a region needs it no more. -/
def State.lineThrough (s : State) (p : Nat) : State :=
  match (s.port p).forwarded with
  | [] => s
  | l :: rest =>
    let s1 := s.modPort p (fun x => { x with forwarded := rest })
    let e := l.epoch
    if s.regionIdle p l.index then s1.idleLine p l
    else
      let r := (s1.modRegion p (fun g => { g with rejoin := none })).correctAndResample p l.view l
      let s2 := r.1.lineLatency p l
      s2.colouredPut p (colourLine r.2 (s.param e (Obj.portColourEnable p)) (s.param e (Obj.portWbGains p))
        (s.paramBytes e (Obj.portMatrix p)) (s.paramBytes e (Obj.portTone p)))

end Sys2Proof.Machine
end

