-- ==== Sys2Proof/Machine/Float.lean ====
section
/-! DEFINITION. IEEE 754 binary64 arithmetic on finite values, exact and then rounded to 53 bits, ties to even: what the
registration servo and the time servo compute with (R235, R464). A value is `m * 2^e`. -/

namespace Sys2Proof.Machine

/-- A finite binary64 value `m * 2^e`. -/
structure F64 where
  m : Int
  e : Int
  deriving DecidableEq, Repr

/-- The number of bits of a natural number below 2^k. -/
def bits64 : Nat → Nat → Nat
  | 0, _ => 0
  | k + 1, n => if n = 0 then 0 else 1 + bits64 k (n / 2)

/-- `num / 2^k` to the nearest integer, ties to even. -/
def shiftEven (num k : Nat) : Nat :=
  let q := num / 2 ^ k
  let r := num % 2 ^ k
  if 2 * r > 2 ^ k ∨ (2 * r = 2 ^ k ∧ q % 2 = 1) then q + 1 else q

/-- A value rounded to 53 significant bits. -/
def F64.round (x : F64) : F64 :=
  let n := x.m.natAbs
  let b := bits64 400 n
  if b ≤ 53 then x
  else
    let r := shiftEven n (b - 53)
    { m := if x.m < 0 then -(r : Int) else r, e := x.e + (b - 53 : Nat) }

def F64.ofInt (i : Int) : F64 := F64.round { m := i, e := 0 }

def F64.mul (x y : F64) : F64 := F64.round { m := x.m * y.m, e := x.e + y.e }

/-- Both values over the smaller exponent. -/
def F64.align (x y : F64) : Int × Int × Int :=
  let e := min x.e y.e
  (x.m * (2 ^ (x.e - e).toNat : Nat), y.m * (2 ^ (y.e - e).toNat : Nat), e)

def F64.add (x y : F64) : F64 :=
  let a := x.align y
  F64.round { m := a.1 + a.2.1, e := a.2.2 }

def F64.sub (x y : F64) : F64 := x.add { y with m := -y.m }

/-- The quotient, rounded; the divisor is not zero. The numerator is scaled so that the quotient has at least 64 bits, and
a remainder sets a sticky bit below it. -/
def F64.div (x y : F64) : F64 :=
  let a := x.m.natAbs
  let b := y.m.natAbs
  let k := 64 + bits64 400 b
  let q := a * 2 ^ k / b
  let sticky := if a * 2 ^ k % b = 0 then 0 else 1
  let n := 2 * q + sticky
  F64.round { m := if (x.m < 0) = (y.m < 0) then n else -(n : Int), e := x.e - y.e - k - 1 }

/-- Whether a value is above zero. -/
def F64.pos (x : F64) : Bool := decide (0 < x.m)

/-- Whether a value is below a natural number. -/
def F64.ltNat (x : F64) (n : Nat) : Bool :=
  if 0 ≤ x.e then decide (x.m * (2 ^ x.e.toNat : Nat) < n) else decide (x.m < n * (2 ^ (-x.e).toNat : Nat))

/-- The integer part, towards minus infinity. -/
def F64.floor (x : F64) : Int :=
  if 0 ≤ x.e then x.m * (2 ^ x.e.toNat : Nat) else x.m / ((2 ^ (-x.e).toNat : Nat) : Int)

/-- The nearest integer, halves away from zero. -/
def F64.roundAway (x : F64) : Int :=
  if 0 ≤ x.e then x.m * (2 ^ x.e.toNat : Nat)
  else
    let d := 2 ^ (-x.e).toNat
    let q := (2 * x.m.natAbs + d) / (2 * d)
    if x.m < 0 then -(q : Int) else q

end Sys2Proof.Machine
end

