-- ==== Sys2Proof/Machine/Stitch.lean ====
section
/-! DEFINITION. The stitcher: placement, blending, holes, seams across modules (R222 to R234), and the registration servo
(R235 to R239). -/

namespace Sys2Proof.Machine

def State.view (s : State) (v : Nat) : View := s.views.getD v View.reset
def State.modView (s : State) (v : Nat) (f : View → View) : State := { s with views := s.views.modify v f }

/-! ## Geometry of an epoch -/

/-- The geometry of a view's part on this module, in the set of an epoch (R222, R223). -/
structure Geometry where
  ports : List Nat
  widths : List Nat
  overlaps : List Nat
  starts : List Nat
  anchor : Nat
  shiftLimit : Nat
  alongLimit : Nat
  remote : Bool
  deriving DecidableEq, Repr

/-- The starts of the positions (R223). -/
def startsFrom : Nat → List Nat → List Nat → List Nat
  | x, w :: (w2 :: ws), o :: os => x :: startsFrom (x + w - o) (w2 :: ws) os
  | x, _ :: _, _ => [x]
  | _, [], _ => []

/-- The geometry by the values a numeric and a byte lookup give (R222, R223); ANCHOR beyond the positions is the last. -/
def geometryBy (num : Nat → Nat) (octets : Nat → Bytes) (v : Nat) : Geometry :=
  let ports := portsOfViewBy num v
  let widths := ports.map (fun p => num (Obj.portOutWidth p))
  let ov := octets (Obj.viewOverlaps v)
  let overlaps := (List.range 12).map (fun k => u16At ov (2 * k))
  { ports := ports, widths := widths, overlaps := overlaps, starts := startsFrom 0 widths overlaps,
    anchor := min (num (Obj.viewAnchor v)) (ports.length - 1), shiftLimit := num (Obj.viewShiftLimit v),
    alongLimit := num (Obj.viewAlongLimit v), remote := num (Obj.viewContinuesTo v) ≠ 0xFF }

def State.geometry (s : State) (e v : Nat) : Geometry := geometryBy (s.param e) (s.paramBytes e) v

/-- The width of the view's part on this module (R223). -/
def Geometry.width (g : Geometry) : Nat := g.starts.getLastD 0 + g.widths.getLastD 0

/-- The first pixel of a seam's blend zone (R224). -/
def Geometry.b0 (g : Geometry) (k : Nat) : Nat :=
  natAt g.starts k + natAt g.widths k - natAt g.overlaps k + natAt g.overlaps k / 4

/-- The seams in use: between neighbours, and one to the next module when the view continues (R222). -/
def Geometry.seams (g : Geometry) : Nat := if g.ports = [] then 0 else g.ports.length - 1 + (if g.remote then 1 else 0)

/-- The first pixel of a position's slice (R224). -/
def Geometry.sliceStart (g : Geometry) (k : Nat) : Nat :=
  natAt g.starts k + (if k = 0 then 0 else 3 * natAt g.overlaps (k - 1) / 4)

/-- The end of a position's slice, one past its last pixel: the end of its right blend zone (R224). -/
def Geometry.sliceEnd (g : Geometry) (k : Nat) : Nat :=
  if k < g.seams then g.b0 k + natAt g.overlaps k / 2 else g.width

/-- The positions of z of AT_SHIFT, slot 0, of the view's ports in a frame's set (R208, R225). -/
def State.portShift (s : State) (fe v p : Nat) : Nat :=
  if s.param fe (Obj.portAtEnable p) ≠ 0 then
    atShift (s.param fe (Obj.trgPhases v)) (atDelay (s.param fe (Obj.portAtDelay p)) 0)
  else 0

/-! ## Seam offsets -/

/-- The offsets of a seam for a line: those in force from their frame start on, the older ones before it (R237). -/
def Seam.forLine (x : Seam) (index : Nat) : Int × Int :=
  match x.was.find? (fun q => half32 ≤ ahead32 q.1 index) with
  | some q => q.2
  | none => (x.ox, x.ot)

/-- Offsets entered in force from a frame start on. -/
def Seam.set (x : Seam) (o : Int × Int) (index : Nat) : Seam :=
  { x with was := x.was ++ [(index, x.ox, x.ot)], ox := o.1, ot := o.2, next := none }

/-- The stitcher has reached a line: what it was before is past, and the line's offsets count among the frame's (R236, R237). -/
def Seam.reach (x : Seam) (index frameStart : Nat) (first : Bool) : Seam :=
  let o := x.forLine index
  { x with
    was := x.was.filter (fun q => half32 ≤ ahead32 q.1 index),
    used := if first then [o] else if x.used.contains o then x.used else x.used ++ [o],
    loaded := x.loaded.filter (fun n => half32 ≤ ahead32 n frameStart) }

/-- Whether a measurement is STALE (R236): a line of the frame was stitched under other offsets than those now in force; or the
frame started before the line from which SEAM_SET was loaded (R237). -/
def Seam.stale (x : Seam) : Bool := x.loaded.isSome || x.used.any (fun o => o ≠ (x.ox, x.ot))

/-- The offsets SEAM_SET gives a seam (R240). -/
def seamSetOf (b : Bytes) (k : Nat) : Int × Int := (i16At b (4 * k), i16At b (4 * k + 2))

/-- The cumulative offsets to the right of a position, each limited (R225). -/
def cumulRight (limit : Int) : Int → List Int → List Int
  | _, [] => []
  | x, o :: r => let y := clampInt (x + o) (-limit) limit; y :: cumulRight limit y r

/-- The cumulative offsets of `n` positions from the seams' offsets, 0 at the anchor (R225). -/
def cumulative (n anchor : Nat) (limit : Int) (offs : List Int) : List Int :=
  let right := cumulRight limit 0 ((offs.take (n - 1)).drop anchor)
  let left := cumulRight limit 0 (((offs.take anchor).reverse).map (fun o => -o))
  left.reverse ++ [0] ++ right

/-- Offsets to the right of the anchor limited so that each cumulative offset stays within its limit (R236): the limited
offsets. An offset comes with whether its seam is updated: one that is not keeps it (R236, R238). -/
def limitRight (limit : Int) : Int → List (Int × Bool) → List Int
  | _, [] => []
  | x, o :: r =>
    let y := clampInt (x + o.1) (-limit) limit
    (if o.2 then y - x else o.1) :: limitRight limit y r

/-- All offsets of a view limited (R236). The seams from the anchor's to the last between positions are to its right. -/
def limitOffsets (n anchor : Nat) (limit : Int) (offs : List (Int × Bool)) : List Int :=
  let left := limitRight limit 0 (((offs.take anchor).reverse).map (fun o => (-o.1, o.2)))
  let right := limitRight limit 0 ((offs.take (n - 1)).drop anchor)
  let rest := (offs.drop (n - 1)).map (fun o => if o.2 then clampInt o.1 (-limit) limit else o.1)
  (left.map (fun o => -o)).reverse ++ right ++ rest

/-! ## Placement -/

/-- A linear blend of two weights that sum to `2^k`, rounded half up. -/
def mix (k wa a wb b : Nat) : Nat := (wa * a + wb * b + 2 ^ (k - 1)) / 2 ^ k

/-- A port's placed sample at output pixel `u64` (in 1/64 px of the port's line) of lines `m` and `m + 1` with fraction `f`
(R225, R226): four bands, or none for a hole. -/
def placeSample (l0 l1 : Option PixLine) (f : Nat) (u64 : Int) (ow : Nat) : Option (List Nat) :=
  let iu := asr u64 6
  let g := (u64 % 64).toNat
  let good := fun (u : Int) (l : Option PixLine) =>
    match l with
    | some x => decide (0 ≤ u) && decide (u < ow) && !x.holes.getD u.toNat true
    | none => false
  let at1 := fun (u : Int) => good u l0 && (f = 0 || good u l1)
  if at1 iu && (g = 0 || at1 (iu + 1)) then
    let vt := fun (u : Int) (b : Nat) =>
      let a := natAt ((l0.map (fun x => x.samples.getD b [])).getD []) u.toNat
      let c := natAt ((l1.map (fun x => x.samples.getD b [])).getD []) u.toNat
      mix 4 (16 - f) a f (if f = 0 then 0 else c)
    some ((List.range 4).map (fun b =>
      mix 6 (64 - g) (vt iu b) g (if g = 0 then 0 else vt (iu + 1) b)))
  else none

/-- A port as the stitcher sees it for line `j`: its two source lines, the fraction, its start and cross-track offset, its
width. -/
structure Placed where
  l0 : Option PixLine
  l1 : Option PixLine
  f : Nat
  start : Nat
  sx : Int
  ow : Nat
  deriving DecidableEq, Repr

/-- The sample of a placed port at stitched pixel `x` (R225). -/
def Placed.at (p : Placed) (x : Nat) : Option (List Nat) :=
  placeSample p.l0 p.l1 p.f (64 * ((x : Int) - p.start) - p.sx) p.ow

/-- The source lines of a port for line `j`, `a` sixteenths of a line behind it (R225); a line that is gone is none (R229). -/
def sourceLines (lines : List PixLine) (j : Nat) (a : Int) : Option PixLine × Option PixLine × Nat :=
  let q := -a
  let m := (((j : Int) + asr q 4) % wrap32).toNat
  let f := (q % 16).toNat
  let line := fun (k : Nat) => lines.find? (fun l => l.index = k)
  (line m, if f = 0 then none else line ((m + 1) % wrap32), f)

/-- The blend of a seam at pixel `x` (R227). -/
def blendAt (b0 o x : Nat) (l r : Option (List Nat)) : Option (List Nat) :=
  match l, r with
  | none, none => none
  | none, some b => some b
  | some a, none => some a
  | some a, some b =>
    let w := ((x - b0) * 256 + 128) / (o / 2)
    some ((List.range 4).map (fun k => mix 8 (256 - w) (natAt a k) w (natAt b k)))

/-- The position whose slice holds a stitched pixel (R224). -/
def Geometry.posOf (g : Geometry) (x : Nat) : Nat :=
  ((List.range g.ports.length).find? (fun k => decide (x < g.sliceEnd k))).getD (g.ports.length - 1)

/-- A stitched pixel (R224): the position alone, or the blend of its right seam. `placed` has one entry per position, and
one more for the received slice of a view that continues. -/
def Geometry.pixel (g : Geometry) (placed : List Placed) (x : Nat) : Option (List Nat) :=
  let k := g.posOf x
  let own := (placed[k]?).bind (fun p => p.at x)
  if k < g.seams ∧ g.b0 k ≤ x ∧ x < g.sliceEnd k then
    blendAt (g.b0 k) (natAt g.overlaps k) x own ((placed[k + 1]?).bind (fun p => p.at x))
  else own

/-! ## Received slices -/

/-- The slice of a line as a pixel line of `o` pixels (R232). -/
def SeamSlice.line (q : SeamSlice) (o : Nat) (like : PixLine) : PixLine :=
  { like with
    index := q.index,
    samples := (List.range 4).map (fun b => (List.range o).map (fun x => leNat (Mem.readBytes q.got (8 * x + 2 * b) 2))),
    holes := (List.range o).map (fun x => q.late || bitOf (Mem.read q.got (8 * o + x / 8)).toNat (x % 8)) }

/-- Whether a slice can be used: complete, or settled as late (R234). -/
def SeamSlice.settled (q : SeamSlice) (o : Nat) : Bool :=
  q.late || (q.last && decide (8 * o + 4 * ceilDiv (ceilDiv o 8) 4 ≤ q.received))

/-- The slice bytes of a stitched line's first pixels, as sent to the left module (R232). -/
def sliceBytes (g : Geometry) (placed : List Placed) (o : Nat) : Bytes :=
  let px := (List.range o).map (fun x => (placed[0]?).bind (fun p => p.at (natAt g.starts 0 + x)))
  px.flatMap (fun v => (v.getD [0, 0, 0, 0]).flatMap (leBytes 2)) ++
  (List.range (4 * ceilDiv (ceilDiv o 8) 4)).map (fun i =>
    BitVec.ofNat 8 ((List.range 8).foldl (fun a n =>
      a + (if 8 * i + n < o ∧ (px.getD (8 * i + n) none).isNone then 2 ^ n else 0)) 0))

/-- A SEAM packet's bytes entered (R232, R234): a slice settled as late stays so. -/
def State.seamBytes (s : State) (v index offset : Nat) (last : Bool) (payload : Bytes) : State :=
  s.modView v (fun w =>
    match w.nextStitch with
    | none => w
    | some j =>
      if half32 ≤ ahead32 j index then w
      else
        match w.slices.find? (fun q => q.index = index) with
        | some q =>
          if q.late then w
          else { w with slices := w.slices.map (fun r => if r.index = index then
            { r with got := Mem.writeBytes r.got offset payload, received := r.received + payload.length,
                     last := r.last || last } else r) }
        | none => { w with slices := w.slices ++
            [{ index := index, got := Mem.writeBytes [] offset payload, received := payload.length, last := last,
               late := false }] })

/-- The time a slice is waited for has passed (R234). -/
def State.seamLateNow (s : State) (v index : Nat) : State :=
  match (s.view v).nextStitch, s.issueOf v index with
  | some j, some i =>
    let g := s.geometry i.epoch v
    let window := (g.ports.map (fun p => s.param i.epoch (Obj.portReasmWindow p))).foldl Nat.max 0
    let settled := (s.view v).slices.any (fun q => q.index = index && q.settled (natAt g.overlaps (g.ports.length - 1)))
    if g.remote ∧ ahead32 j index < half32 ∧ !settled ∧ i.clk + window * 1000 + 10000 ≤ s.clk then
      (s.modView v (fun w => { w with slices := w.slices.filter (fun q => q.index ≠ index) ++
        [{ index := index, got := [], received := 0, last := true, late := true }] })).bump (Obj.viewSeamLate v)
    else s
  | _, _ => s

/-! ## The servo -/

/-- Nothing summed (R235). -/
def SeamAcc.zero : SeamAcc := SeamAcc.reset

/-- The servo band's sample, shifted (R235). -/
def servoSample (band : Nat) (v : Option (List Nat)) : Option Nat := v.map (fun l => natAt l band / 16)

/-- One pixel's contribution (R235): three pixels of this line and one of the line before, left and right. -/
def SeamAcc.pixel (a : SeamAcc) (lm rm l r lp rp lq rq : Nat) : SeamAcc :=
  let gx : Int := (lp + rp : Nat) - (lm + rm : Nat)
  let gy : Int := (l + r : Nat) - (lq + rq : Nat)
  let e : Int := (r : Int) - l
  { sxx := a.sxx + gx * gx, syy := a.syy + gy * gy, sxy := a.sxy + gx * gy, sxe := a.sxe + gx * e, sye := a.sye + gy * e,
    n := a.n + 1 }

/-- A line of a seam summed: `cur` and `prev` are the blend zone's samples of this line and the one before (R235). -/
def SeamAcc.line (a : SeamAcc) (cur prev : List (Option Nat × Option Nat)) : SeamAcc :=
  (List.range (cur.length - 2)).foldl (fun acc i =>
    let x := i + 1
    let c := fun (k : Nat) => cur.getD k (none, none)
    let p := fun (k : Nat) => prev.getD k (none, none)
    match c (x - 1), c x, c (x + 1), p (x - 1), p x, p (x + 1) with
    | (some lm, some rm), (some l, some r), (some lp, some rp), (some _, some _), (some lq, some rq), (some _, some _) =>
      acc.pixel lm rm l r lp rp lq rq
    | _, _, _, _, _, _ => acc) a

/-- A seam's measurement (R235, R236): determinant, texture, estimates in 1/64 px and 1/16 line, before any clamp. -/
structure Measure where
  usable : Bool
  texture : F64
  ex : Int
  et : Int
  deriving DecidableEq, Repr

/-- The frame-end arithmetic of R235 in binary64. -/
def SeamAcc.measure (a : SeamAcc) : Measure :=
  let xx := F64.ofInt a.sxx
  let yy := F64.ofInt a.syy
  let xy := F64.ofInt a.sxy
  let xe := F64.ofInt a.sxe
  let ye := F64.ofInt a.sye
  let n := F64.ofInt a.n
  let det := (xx.mul yy).sub (xy.mul xy)
  if det.pos ∧ a.n ≠ 0 then
    let dx := ((F64.ofInt 4).mul ((yy.mul xe).sub (xy.mul ye))).div det
    let dy := ((F64.ofInt 2).mul ((xx.mul ye).sub (xy.mul xe))).div det
    { usable := true, texture := det.div (n.mul n), ex := ((F64.ofInt 64).mul dx).roundAway,
      et := ((F64.ofInt 16).mul dy).roundAway }
  else { usable := false, texture := { m := 0, e := 0 }, ex := 0, et := 0 }

/-- A seam's decision at the frame's end (R236): the offsets it asks for and the flags of R239. -/
structure SeamStep where
  ox : Int
  ot : Int
  estX : Int
  estT : Int
  texture : Nat
  n : Nat
  flags : Nat
  held : Bool
  deriving DecidableEq, Repr

/-- R236 for one seam. `zone` is the blend zone's width, `lines` the lines of the frame. A seam that is not updated keeps its offsets:
those it waits for a frame start to take, if there are any. -/
def Seam.decide_ (x : Seam) (zone lines textureMin slewX slewT : Nat) (frozen remote : Bool) : SeamStep :=
  let m := x.acc.measure
  let stale := x.stale
  let kept := x.next.getD (x.ox, x.ot)
  let few := decide (4 * x.acc.n < (zone - 2) * lines)
  let flat := !m.usable || m.texture.ltNat textureMin
  let hold := stale || few || flat || frozen
  let cx := clampInt m.ex (-(slewX : Int)) slewX
  let ct := clampInt m.et (-(slewT : Int)) slewT
  let flags := (if few then 1 else 0) + (if flat || stale then 2 else 0) +
    (if !hold && cx ≠ m.ex then 4 else 0) + (if !hold && ct ≠ m.et then 8 else 0) + (if frozen then 32 else 0) +
    (if remote then 64 else 0)
  { ox := if hold then kept.1 else x.ox + cx, ot := if hold then kept.2 else x.ot - ct,
    estX := if stale then 0 else sat32s m.ex, estT := if stale then 0 else sat32s m.et,
    texture := if m.usable then min 0xFFFFFFFF m.texture.floor.toNat else 0, n := x.acc.n, flags := flags, held := hold }

/-- A seam's block of the result (R239). -/
def SeamStep.block (x : SeamStep) (ox ot : Int) (clamped : Bool) : Bytes :=
  leBytes 4 (ofSigned 32 x.estX) ++ leBytes 4 (ofSigned 32 x.estT) ++ leBytes 2 (ofSigned 16 ox) ++
  leBytes 2 (ofSigned 16 ot) ++ leBytes 4 x.texture ++ leBytes 4 (min 0xFFFFFFFF x.n) ++
  leBytes 1 (x.flags + if clamped then 16 else 0) ++ leBytes 3 0

/-- The number of the first frame of a view that has not started (R237, R239), under the FRAME_LINES that frames it (R155). -/
def State.nextFrameNo (s : State) (v : Nat) : Nat :=
  let t := s.trigger v
  let st := s.frameFrom v t.nextIndex
  match t.newFrameLines with
  | some (n, from_) => if ahead32 t.nextIndex from_ ≤ ahead32 t.nextIndex st then st / n else st / s.frameLen v
  | none => st / s.frameLen v

/-- The position whose offset is 0 (R225): the ANCHOR, and on a module that another one's part comes before the first (R233). -/
def State.anchorOf (s : State) (e v : Nat) (g : Geometry) : Nat :=
  if s.param e (Obj.viewContinuesFrom v) ≠ 0xFF then 0 else g.anchor

/-- The measurement and update of a frame for every seam in use, presented in V+0x03 (R236 to R239). -/
def State.endServo (s : State) (v : Nat) : State :=
  match (s.view v).servoFrame with
  | none => s
  | some f =>
    let w := s.view v
    let g := s.geometry f.lastEpoch v
    let n := g.seams
    let p := fun (o : Nat) => s.param f.frameEpoch o
    let steps := (List.range n).map (fun k =>
      (w.seams.getD k Seam.reset).decide_ (natAt g.overlaps k / 2) f.lines (p (Obj.viewTextureMin v))
        (p (Obj.viewSlewX v)) (p (Obj.viewSlewT v)) (bitOf (s.num (Obj.viewFreezeMask v)) k)
        (decide (g.ports.length ≤ k + 1)))
    let anchor := s.anchorOf f.lastEpoch v g
    let lx := limitOffsets g.ports.length anchor (64 * g.shiftLimit : Nat) (steps.map (fun q => (q.ox, !q.held)))
    let lt := limitOffsets g.ports.length anchor (16 * g.alongLimit : Nat) (steps.map (fun q => (q.ot, !q.held)))
    let clamped := fun (k : Nat) =>
      decide (intAt lx k ≠ (steps.map (·.ox)).getD k 0) || decide (intAt lt k ≠ (steps.map (·.ot)).getD k 0)
    let data := leBytes 4 f.no ++ leBytes 4 (s.nextFrameNo v) ++ leBytes 1 n ++ leBytes 3 0 ++
      leBytes 2 (s.num (Obj.viewFreezeMask v)) ++ leBytes 2 0 ++
      (List.zip (List.range n) steps).flatMap (fun q => q.2.block (intAt lx q.1) (intAt lt q.1) (clamped q.1))
    let s1 := s.modView v (fun w => { w with servoFrame := none, seams := (List.range 12).map (fun k =>
      let x := w.seams.getD k Seam.reset
      let held := match steps[k]? with | some q => q.held | none => true
      let o := (intAt lx k, intAt lt k)
      { x with acc := SeamAcc.zero, next := if held then x.next else if o = (x.ox, x.ot) then none else some o }) })
    s1.completeResult (Obj.viewSeamStats v) (some f.epoch) data

/-- The offsets loaded from SEAM_SET from a line on; a waiting update is discarded, and no measurement of a frame that started
before is used (R237). -/
def State.loadSeamSet (s : State) (v index : Nat) : State :=
  let b := s.octets (Obj.viewSeamSet v)
  s.modView v (fun w => { w with seams := (List.range 12).map (fun k =>
    { ((w.seams.getD k Seam.reset).set (seamSetOf b k) index) with loaded := some index }) })

/-- Waiting updates come into force at a frame start (R237). -/
def State.applySeams (s : State) (v index : Nat) : State :=
  s.modView v (fun w => { w with seams := w.seams.map (fun x =>
    match x.next with | some o => x.set o index | none => x) })

/-- SEAM_STATE (R240). -/
def View.seamState (w : View) : Bytes :=
  (List.range 12).flatMap (fun k =>
    let x := w.seams.getD k Seam.reset
    leBytes 2 (ofSigned 16 x.ox) ++ leBytes 2 (ofSigned 16 x.ot))

/-! ## A stitched line -/

/-- Whether line `j` of a view can be stitched: every port has delivered it, and the slice of the next module has come or
is settled (R228, R234). -/
def State.stitchReady (s : State) (v : Nat) (i : Issue) : Bool :=
  let g := s.geometry i.epoch v
  g.ports ≠ [] && g.ports.all (fun p => (s.region p).coloured.any (fun l => l.view = v && l.index = i.index)) &&
  (!g.remote || s.partnerLost (s.param i.epoch (Obj.viewContinuesTo v)) ||
    (s.view v).slices.any (fun q => q.index = i.index && q.settled (natAt g.overlaps (g.ports.length - 1))))

/-- Whether the stitch history is cleared between two sets (R229). -/
def State.stitchChanged (s : State) (v e0 e1 : Nat) : Bool :=
  let g0 := s.geometry e0 v
  let g1 := s.geometry e1 v
  decide (g0.ports ≠ g1.ports) || decide (g0.widths ≠ g1.widths) ||
  decide (g0.overlaps.take g0.seams ≠ g1.overlaps.take g1.seams) || decide (g0.anchor ≠ g1.anchor) ||
  decide (g0.alongLimit ≠ g1.alongLimit)

/-- The history of a view's ports cleared at a line (R229): the lines before it are gone, and what the servo summed (R237). -/
def State.clearHistory (s : State) (v index : Nat) : State :=
  let gone := fun (k : Nat) => decide (half32 ≤ ahead32 index k)
  let s1 := (List.range 12).foldl (fun acc p => acc.modRegion p (fun r =>
    { r with coloured := r.coloured.filter (fun l => decide (l.view ≠ v) || !gone l.index) })) s
  s1.modView v (fun w => { w with
    slices := w.slices.filter (fun q => !gone q.index),
    seams := w.seams.map (fun x => { x with acc := SeamAcc.zero, prev := [] }) })

/-- A view's stages have switched to an epoch, or count as having (R27, R86, R153, R554). -/
def State.countSwitched (s : State) (v epoch : Nat) : State :=
  { s with dict := { s.dict with sets := s.dict.sets.map (fun e =>
    if e.epoch = epoch ∧ !e.switched.contains v then { e with switched := v :: e.switched } else e) } }

/-- The epochs that a view's stages have switched to with a line of one of them (R27): that one, and those allocated before it whose
bound index has been issued. -/
def State.switchedBy (s : State) (v epoch : Nat) : State :=
  let pos := s.epochPos epoch
  let waits := fun (e : Nat) => s.ctl.staging.armed.any (fun a => a.epoch = e && a.bindings.any (fun b => b.view = v && !b.issued))
  ((s.dict.sets.map (·.epoch)).filter (fun e => decide (s.epochPos e ≤ pos) && !waits e)).foldl (fun acc e => acc.countSwitched v e) s

/-- The stitcher takes a line's epoch: on a change it switches its set, and clears its history where R229 says so. -/
def State.stitchEpoch (s : State) (v : Nat) (i : Issue) : State :=
  let w := s.view v
  if w.epoch = i.epoch then s
  else
    let s1 := (s.modView v (fun w => { w with epoch := i.epoch })).switchedBy v i.epoch
    if s.stitchChanged v w.epoch i.epoch then (s1.clearHistory v i.index).bump (Obj.viewStitchClears v) else s1

/-- Whether two sets differ in what closes a view's objects (R280). -/
def State.segChanged (s : State) (v e0 e1 : Nat) : Bool :=
  let g0 := s.geometry e0 v
  let g1 := s.geometry e1 v
  decide (g0.ports ≠ g1.ports) || decide (g0.widths ≠ g1.widths) || decide (g0.overlaps ≠ g1.overlaps) ||
  decide (s.param e0 (Obj.viewRemoteOverlap v) ≠ s.param e1 (Obj.viewRemoteOverlap v))

/-- The lines of a view belong to an epoch from an index on (R20): where the stitcher will clear its history there, SEAM_SET is
loaded for that line (R229, R237), and where the geometry changes, the segmenter will close its objects there (R280). -/
def State.viewEpoch (s : State) (v epoch index : Nat) : State :=
  let e0 := (s.trigger v).epoch
  let s0 := s.modTrigger v (fun t => { t with epoch := epoch })
  let s1 := if s0.segChanged v e0 epoch then s0.modView v (fun w => { w with segBreaks := w.segBreaks ++ [epoch] }) else s0
  if s1.stitchChanged v e0 epoch then s1.loadSeamSet v index else s1

/-- The ports of line `j` placed by their offsets (R225), and the received slice after them (R233). A region that is down or
has not rejoined by line `j` gives a hole (R11). -/
def State.placeLine (s : State) (v : Nat) (i : Issue) (g : Geometry) : List Placed :=
  let w := s.view v
  let offs := (List.range 12).map (fun k => (w.seams.getD k Seam.reset).forLine i.index)
  let anchor := s.anchorOf i.epoch v g
  let lx : Int := (64 * g.shiftLimit : Nat)
  let lt : Int := (16 * g.alongLimit : Nat)
  let sx := cumulative g.ports.length anchor lx (offs.map (·.1))
  let tx := cumulative g.ports.length anchor lt (offs.map (·.2))
  let zs := g.ports.map (fun p => s.portShift i.frameEpoch v p)
  let zmax := zs.foldl Nat.max 0
  let one := fun (k p : Nat) =>
    let a : Int := ((zmax - natAt zs k : Nat) : Int) + (16 * g.alongLimit : Nat) - intAt tx k
    let q := sourceLines ((s.region p).coloured.filter (fun l => l.view = v)) i.index a
    let hole := s.regionHole p i.index
    { l0 := if hole then none else q.1, l1 := if hole then none else q.2.1, f := q.2.2, start := natAt g.starts k,
      sx := intAt sx k, ow := natAt g.widths k : Placed }
  let own := (List.zip (List.range g.ports.length) g.ports).map (fun q => one q.1 q.2)
  if g.remote then
    let k := g.ports.length - 1
    let o := natAt g.overlaps k
    let off := offs.getD k (0, 0)
    let a : Int := (16 * g.alongLimit : Nat) - clampInt off.2 (-lt) lt
    let like : PixLine := { view := v, index := 0, time := 0, epoch := 0, frameEpoch := 0, phase := 0, frameStart := 0,
                            frameNo := 0, frameTime := 0, afterCut := false, frameEnd := false, ages := [], samples := [],
                            holes := [] }
    let lines := if s.partnerLost (s.param i.epoch (Obj.viewContinuesTo v)) then [] else w.slices.map (fun q => q.line o like)
    let q := sourceLines lines i.index a
    own ++ [{ l0 := q.1, l1 := q.2.1, f := q.2.2, start := natAt g.starts k + natAt g.widths k - o,
              sx := clampInt off.1 (-lx) lx, ow := o }]
  else own

/-- The stitched line (R224 to R228). -/
def stitchedLine (v : Nat) (i : Issue) (g : Geometry) (placed : List Placed) : PixLine :=
  let px := (List.range g.width).map (fun x => g.pixel placed x)
  { view := v, index := i.index, time := i.time, epoch := i.epoch, frameEpoch := i.frameEpoch, phase := i.phase,
    frameStart := i.frameStart, frameNo := i.frameNo, frameTime := i.frameTime, afterCut := i.afterCut,
    frameEnd := i.frameEnd, ages := [],
    samples := (List.range 4).map (fun b => px.map (fun v => natAt (v.getD []) b)),
    holes := px.map (fun v => v.isNone) }

/-- The ports whose span outside the blend zones is a hole, and the remote seam as bit 15 (R240). -/
def holePorts (g : Geometry) (placed : List Placed) : Nat :=
  let whole := fun (k : Nat) =>
    let lo := g.sliceStart k
    let hi := if k < g.seams then g.b0 k else g.width
    (rangeFrom lo (hi - lo)).all (fun x => ((placed[k]?).bind (fun p => p.at x)).isNone)
  let own := (List.zip (List.range g.ports.length) g.ports).foldl (fun m q => if whole q.1 then m ||| 2 ^ q.2 else m) 0
  let k := g.ports.length - 1
  if g.remote ∧ (rangeFrom (g.b0 k) (natAt g.overlaps k / 2)).all (fun x => ((placed[k + 1]?).bind (fun p => p.at x)).isNone)
  then own + 2 ^ 15 else own

/-- The blend zones' servo samples of a line (R235). -/
def servoLines (g : Geometry) (placed : List Placed) (band : Nat) : List (List (Option Nat × Option Nat)) :=
  (List.range g.seams).map (fun k => (rangeFrom (g.b0 k) (natAt g.overlaps k / 2)).map (fun x =>
    (servoSample band ((placed[k]?).bind (fun p => p.at x)), servoSample band ((placed[k + 1]?).bind (fun p => p.at x)))))

/-- The servo's sums of a line, and the measurement at the frame's end (R235, R237). -/
def State.servoLine (s : State) (v : Nat) (i : Issue) (g : Geometry) (placed : List Placed) : State :=
  let cur := servoLines g placed (s.param i.frameEpoch (Obj.viewServoBand v))
  let started := match (s.view v).servoFrame with | some f => decide (f.start ≠ i.frameStart) | none => false
  let s0 := if started then s.endServo v else s
  let s1 := s0.modView v (fun w =>
    let f := w.servoFrame.getD { start := i.frameStart, no := i.frameNo, epoch := i.epoch, lastEpoch := i.epoch,
                                 frameEpoch := i.frameEpoch, lines := 0 }
    { w with servoFrame := some { f with lastEpoch := i.epoch, lines := f.lines + 1 }, seams := (List.range 12).map (fun k =>
        let x := (w.seams.getD k Seam.reset).reach i.index i.frameStart (f.lines = 0)
        let acc := if f.lines = 0 then SeamAcc.zero else x.acc
        { x with acc := acc.line (cur.getD k []) x.prev, prev := cur.getD k [] }) })
  if i.frameEnd then s1.endServo v else s1

/-- The lines the stitcher no longer needs are dropped: it reads at most 17 back (R225). -/
def State.pruneLines (s : State) (g : Geometry) (v j : Nat) : State :=
  let s1 := g.ports.foldl (fun acc p => acc.modRegion p (fun r =>
    { r with coloured := r.coloured.filter (fun l =>
      decide (l.view ≠ v) || !decide (half32 ≤ ahead32 ((j + wrap32 - 17) % wrap32) l.index)) })) s
  s1.modView v (fun w => { w with slices := w.slices.filter (fun q =>
    decide (half32 ≤ ahead32 ((j + wrap32 - 17) % wrap32) q.index) = false) })

/-- Line `j` stitched: the state with its servo, holes and history brought up, the geometry, the line (R228). -/
def State.stitch (s : State) (v : Nat) (i : Issue) : State × Geometry × PixLine :=
  let s1 := s.stitchEpoch v i
  let g := s1.geometry i.epoch v
  let placed := s1.placeLine v i g
  let line := stitchedLine v i g placed
  let s2 := s1.putNum (Obj.viewHolePorts v) (holePorts g placed)
  let s3 := s2.servoLine v i g placed
  let left := s1.param i.epoch (Obj.viewContinuesFrom v)
  let s4 := if left ≠ 0xFF then
      s3.sendSeam left v i.index ((if i.index = i.frameStart then 0x40 else 0) + (if i.frameEnd then 0x20 else 0) + i.phase % 4)
        (sliceBytes g placed (s1.param i.epoch (Obj.viewRemoteOverlap v)))
    else s3
  ((s4.pruneLines g v i.index).modView v (fun w => { w with nextStitch := some ((i.index + 1) % wrap32) }), g, line)

/-! ## VIEW_STATE -/

/-- Whether any part of a port's span is a hole by a cause of R240: retirement, unplug, a relink after a retirement, a
region reset, LINK_MODE NONE. -/
def State.portHole (s : State) (p : Nat) : Bool :=
  let x := s.port p
  let g := s.region p
  decide (x.state = 8) || decide (g.state = 2) || x.unplugged || x.degrading || s.inReset p ||
  g.awaiting || decide (s.num (Obj.portLinkMode p) = 0)

/-- VIEW_STATE (R240): 0 NONE, 1 STOPPED, 2 RUNNING, 3 DEGRADED. -/
def State.viewState (s : State) (v : Nat) : Nat :=
  let ports := s.portsOfView v
  if ports = [] then 0
  else if ports.any (fun p => s.portHole p) ∨
      (s.num (Obj.viewContinuesTo v) ≠ 0xFF ∧ s.partnerLost (s.num (Obj.viewContinuesTo v))) ∨
      (s.num (Obj.viewContinuesFrom v) ≠ 0xFF ∧ s.partnerLost (s.num (Obj.viewContinuesFrom v))) then 3
  else if stoppedBy s.num v then 1
  else 2

/-- Every view reviewed: one that has become DEGRADED raises the alert (R507). -/
def State.reviewViews (s : State) : State :=
  (List.range 4).foldl (fun acc v =>
    let now := decide (acc.viewState v = 3)
    let acc1 := acc.modView v (fun w => { w with degraded := now })
    if now ∧ !(acc.view v).degraded then acc1.alert Alert.degraded else acc1) s

/-- HEALTH (R506): DEGRADED while any fitted unit is retired or any view is DEGRADED. -/
def State.health (s : State) : Nat :=
  if s.ctl.faults.retired ≠ [] ∨ s.tiles.any (·.spareUsed) ∨ (List.range 4).any (fun v => s.viewState v = 3) then 1 else 0

end Sys2Proof.Machine
end

