-- ==== Sys2Proof/Machine/SortTables.lean ====
section
/-! DEFINITION. Pixel classification and sort tables: the coordinate cell and the class (R248), the banks (R253 to R263),
histograms, builds (R265 to R267) and class statistics (R268). -/

namespace Sys2Proof.Machine

/-- The bytes of a sort table (R251). -/
abbrev tableBytes : Nat := 524288

/-- Bank states (R253). -/
abbrev BankState.empty : Nat := 0
abbrev BankState.loading : Nat := 1
abbrev BankState.verifying : Nat := 2
abbrev BankState.eligible : Nat := 3
abbrev BankState.armed : Nat := 4
abbrev BankState.active : Nat := 5
abbrev BankState.failed : Nat := 6

def View.bank (w : View) (k : Nat) : Bank := w.banks.getD k Bank.reset
def View.modBank (w : View) (k : Nat) (f : Bank → Bank) : View := { w with banks := w.banks.modify k f }
def State.modBank (s : State) (v k : Nat) (f : Bank → Bank) : State := s.modView v (fun w => w.modBank k f)

/-- The banks of a view at the end of BOOT (R254): bank 0 ACTIVE with every cell 0, bank 1 EMPTY. -/
def bootBanks : List Bank := [{ Bank.reset with state := BankState.active, verified := true }, Bank.reset]

/-! ## Classification -/

/-- The value check of COORD_MATRIX (R250). -/
def coordMatrixOk (m : Bytes) : Bool :=
  decide (m.length = 36) && (List.range 3).all (fun c =>
    decide (-65536 ≤ i32At m (24 + 4 * c)) && decide (i32At m (24 + 4 * c) ≤ 65535))

/-- One coordinate of a pixel, 16 bits (R248). -/
def coordOf (m : Bytes) (c : Nat) (px : List Nat) : Nat :=
  let acc := (List.range 4).foldl (fun a k => a + i16At m (8 * c + 2 * k) * (natAt px k : Int)) 0
  clampNat (asr (acc + i32At m (24 + 4 * c) * 4096 + 2048) 12) 0 65535

/-- The cell of a pixel (R248). -/
def cellOf (m : Bytes) (px : List Nat) : Nat :=
  (coordOf m 0 px / 512) * 8192 + (coordOf m 1 px / 512) * 64 + coordOf m 2 px / 1024

/-- The class a table gives a cell (R248, R251). -/
def tableClass (t : Mem) (cell : Nat) : Nat := (Mem.read t (cell / 2)).toNat / 2 ^ (4 * (cell % 2)) % 16

/-- A table with a cell's class set (R251). -/
def tablePut (t : Mem) (cell cls : Nat) : Mem :=
  let b := (Mem.read t (cell / 2)).toNat
  Mem.write t (cell / 2) (BitVec.ofNat 8 (if cell % 2 = 0 then b / 16 * 16 + cls else b % 16 + 16 * cls))

/-- The CRC-32C of a whole table (R256). -/
def tableCrc (t : Mem) : Nat := crc32c (Mem.readBytes t 0 tableBytes)

/-- The bank that classifies a line of an epoch (R248, R261): the ARMED one from its epoch on, the ACTIVE one before. -/
def State.classBank (s : State) (v epoch : Nat) : Nat :=
  let w := s.view v
  let armed := (List.range 2).find? (fun k =>
    (w.bank k).state = BankState.armed && decide (s.epochPos (w.bank k).epoch ≤ s.epochPos epoch))
  match armed with
  | some k => k
  | none => ((List.range 2).find? (fun k => (w.bank k).state = BankState.active)).getD 0

/-- The bank of a line is now the ACTIVE one, and the bank it replaces is ELIGIBLE and keeps its VERSION (R261); TABLE_READ has another
value from here on (R74, R259). -/
def State.swapBank (s : State) (v k : Nat) : State :=
  if ((s.view v).bank k).state = BankState.armed then
    (s.modView v (fun w => (w.modBank (1 - k) (fun b =>
      if b.state = BankState.active then
        { b with state := if b.lacks = [] then BankState.eligible else BankState.verifying } else b)).modBank k
        (fun b => { b with state := BankState.active }))).blobReplaced (Obj.viewTableRead v)
  else s

/-- The region whose slice holds a stitched pixel (R224). -/
def Geometry.regionOf (g : Geometry) (x : Nat) : Nat := natAt g.ports (g.posOf x)

/-- A word of a region's table copy that a lookup reads: region, 64-bit word, whether it could be corrected (R264). -/
abbrev EccCell := Nat × Nat × Bool

/-- The columns of a line that this module's slices hold (R224, R272, R286): the first slice of a view that comes from
another module starts at 3/4 of REMOTE_OVERLAP, the last of one that continues ends in the middle of its blend zone. -/
def State.sliceSpan (s : State) (e v : Nat) (g : Geometry) : Nat × Nat :=
  let lo := if s.param e (Obj.viewContinuesFrom v) = 0xFF then 0 else 3 * s.param e (Obj.viewRemoteOverlap v) / 4
  (lo, Nat.max lo (g.sliceEnd (g.ports.length - 1)))

/-- A classified line from column `lo` on: cells, classes and holes; a pixel whose word could not be corrected becomes a
hole (R248, R249, R264). -/
structure Classified where
  lo : Nat
  cells : List Nat
  classes : List Nat
  holes : List Bool
  version : Nat
  deriving DecidableEq, Repr

/-- R248, R249 and R264 for the columns `lo` up to `hi` of one line. -/
def classifyLine (l : PixLine) (g : Geometry) (m : Bytes) (bank : Bank) (ecc : List EccCell) (lo hi : Nat) : Classified :=
  let n := hi - lo
  let cells := (rangeFrom lo n).map (fun x => cellOf m ((List.range 4).map (fun b => natAt (l.samples.getD b []) x)))
  let holes := (List.range n).map (fun k =>
    l.holes.getD (lo + k) true ||
    ecc.any (fun e => e.1 = g.regionOf (lo + k) && e.2.1 = natAt cells k / 16 && !e.2.2))
  { lo := lo, cells := cells, holes := holes, version := bank.version,
    classes := (List.range n).map (fun k => if holes.getD k true then 0 else tableClass bank.table (natAt cells k)) }

/-! ## Histograms -/

/-- A slot's counter of a cell (R265). -/
def histAt (h : List (Nat × Nat)) (cell : Nat) : Nat := (assoc h cell).getD 0

/-- HIST_PIXELS of a slot raised by `n` (R265). -/
def histPixelsAdd (b : Bytes) (slot n : Nat) : Bytes :=
  splice b (8 * slot) (leBytes 8 (satAdd 64 (u64At b (8 * slot)) n))

/-- The pixels of a line that HIST_GATE lets a slot count (R265). -/
def gatedCells (c : Classified) (foreground : Bool) : List Nat :=
  ((List.range c.cells.length).filter (fun x =>
    !c.holes.getD x true && (!foreground || natAt c.classes x ≠ 0))).map (fun x => natAt c.cells x)

/-- A slot counts a list of cells, each counter saturating (R265). -/
def histCount (h : List (Nat × Nat)) (cells : List Nat) : List (Nat × Nat) :=
  cells.foldl (fun acc c => assocPut acc c (satAdd 16 (histAt acc c) 1)) h

/-- The histograms of a view count a line, in TEACH only; a slot of a running build's mask does not count (R265, R266). -/
def State.countHist (s : State) (v : Nat) (c : Classified) : State :=
  if s.ctl.mode = .teach then
    let cells := gatedCells c (s.num (Obj.viewHistGate v) = 1)
    (List.range 4).foldl (fun acc k =>
      let busy := match (acc.view v).build with | some b => bitOf b.mask k | none => false
      if acc.num (Obj.viewHistLabel v k) ≠ 0xFF ∧ !busy then
        (acc.modView v (fun w => { w with hist := w.hist.modify k (fun h => histCount h cells) })).putVal
          (Obj.viewHistPixels v) (.bytes (histPixelsAdd (acc.octets (Obj.viewHistPixels v)) k cells.length))
      else acc) s
  else s

/-- HIST_CLEAR: the slots of a mask are cleared, and their HIST_PIXELS (R265). -/
def State.clearHist (s : State) (v mask : Nat) : State :=
  (List.range 4).foldl (fun acc k =>
    if bitOf mask k then
      (acc.modView v (fun w => { w with hist := w.hist.set k [] })).putVal (Obj.viewHistPixels v)
        (.bytes (splice (acc.octets (Obj.viewHistPixels v)) (8 * k) (zeros 8)))
    else acc) s

/-! ## Class statistics -/

/-- The data of CLASS_STATS (R268). -/
def classStatsData (a : ClassAcc) : Bytes :=
  leBytes 4 a.frameNo ++ leBytes 2 a.version ++ leBytes 1 (if a.swapped then 1 else 0) ++ zeros 9 ++
  (List.range 16).flatMap (fun c => leBytes 8 (natAt a.counts c)) ++ leBytes 8 a.holes

/-- The frame whose pixels a view counts ends: its result is presented (R268). -/
def State.endClassStats (s : State) (v : Nat) : State :=
  match (s.view v).classStats with
  | none => s
  | some a =>
    (s.modView v (fun w => { w with classStats := none })).completeResult (Obj.viewClassStats v) (some a.epoch)
      (classStatsData a)

/-- A line counted in the frame's class statistics; at the frame's end the result is presented (R268). A frame that another one
follows without its last line having come has ended before it. -/
def State.classStats (s0 : State) (v : Nat) (i : Issue) (c : Classified) : State :=
  let stale := match (s0.view v).classStats with | some a => decide (a.frame ≠ i.frameStart) | none => false
  let s := if stale then s0.endClassStats v else s0
  let a := (s.view v).classStats.getD
    { frame := i.frameStart, frameNo := i.frameNo, time := i.frameTime, epoch := i.epoch, version := c.version, lines := 0,
      swapped := false, counts := List.replicate 16 0, holes := 0 }
  let a1 := { a with
    lines := a.lines + 1, swapped := a.swapped || decide (c.version ≠ a.version),
    holes := a.holes + (c.holes.filter id).length,
    counts := (List.range 16).map (fun k => natAt a.counts k +
      ((List.range c.classes.length).filter (fun x => !c.holes.getD x true && natAt c.classes x = k)).length) }
  let s1 := s.modView v (fun w => { w with classStats := some a1 })
  if i.frameEnd then s1.endClassStats v else s1

/-! ## Loads -/

/-- The target bank of a load or build (R255): the bank that is neither ACTIVE nor ARMED, unless both are in use. -/
def View.target (w : View) : Option Nat :=
  (List.range 2).find? (fun k => (w.bank k).state ≠ BankState.active && (w.bank k).state ≠ BankState.armed)

/-- Why a load or build answers BUSY (R255). `load` is a BLOCK_START of TABLE_LOAD, otherwise a BUILD. -/
def State.tableBusy (s : State) (v : Nat) (load : Bool) : Bool :=
  let w := s.view v
  match w.target with
  | none => true
  | some k =>
    (w.bank k).state = BankState.loading || (w.bank k).state = BankState.verifying || s.ctl.staging.check.isSome ||
    (load && w.build.isSome) ||
    (!load && (match s.ctl.transfer with | some t => decide (t.key = Obj.viewTableLoad v) | none => false))

/-- The target bank goes to LOADING and loses its contents (R256). -/
def State.bankLoading (s : State) (v k : Nat) : State :=
  s.modBank v k (fun _ => { Bank.reset with state := BankState.loading })

/-- The master copy is complete: the bank is VERIFYING with its CRC (R256, R258). -/
def State.bankLoaded (s : State) (v k : Nat) (t : Mem) (crc : Nat) : State :=
  s.modBank v k (fun b => { b with state := BankState.verifying, table := t, crc := crc })

/-- The bank a host load of a view writes: the one LOADING while no build runs (R258). -/
def View.loadingBank (w : View) : Option Nat :=
  if w.build.isSome then none else (List.range 2).find? (fun k => (w.bank k).state = BankState.loading)

/-- The end of a host load without a passed BLOCK_END: the target bank is EMPTY (R258). -/
def State.loadDropped (s : State) (v : Nat) : State :=
  match (s.view v).loadingBank with
  | some k => s.modBank v k (fun _ => Bank.reset)
  | none => s

/-- The next VERSION of a view: the last one plus 1, from 0xFFFF to 1 (R256). -/
def nextVersionOf (n : Nat) : Nat := if n = 0xFFFF then 1 else n + 1

/-! ## Builds -/

def Tile.job (x : Tile) (b : Nat) : BrickJob := x.jobs.getD b .idle
def Tile.idle (x : Tile) : Bool := x.jobs.all (fun j => j = .idle)

/-- The bricks of a tile that run units of a view's build become idle (R324). -/
def Tile.dropUnits (v clk : Nat) (x : Tile) : Tile :=
  let y := { x with jobs := x.jobs.map (fun j => match j with | .unit w _ => if w = v then .idle else j | _ => j) }
  if y.idle && !x.idle then { y with idleSince := clk } else y

/-- No brick runs a unit of a view's build that is over (R324). -/
def State.dropUnits (s : State) (v : Nat) : State := { s with tiles := s.tiles.map (Tile.dropUnits v s.clk) }

/-- Cells of each class of a table (R267). -/
def classCells (t : Mem) : List Nat :=
  let classes := (List.range 1048576).map (tableClass t)
  (List.range 16).map (fun c => (classes.filter (fun k => k = c)).length)

/-- The data of BUILD_RESULT (R267). -/
def buildData (outcome bank version crc micros mask : Nat) (cells : List Nat) : Bytes :=
  leBytes 1 outcome ++ leBytes 1 bank ++ leBytes 2 version ++ leBytes 4 crc ++ leBytes 4 (min 0xFFFFFFFF micros) ++
  leBytes 1 mask ++ zeros 3 ++ cells.flatMap (leBytes 4)

/-- The outcome of a view's build presented, and the build over (R267). -/
def State.endBuild (s : State) (v outcome : Nat) : State :=
  match (s.view v).build with
  | none => s
  | some b =>
    let k := (s.view v).bank b.bank
    (((s.dropUnits v).modView v (fun w => { w with build := none })).putNum (Obj.viewBuild v) (if outcome = 0 then 2 else 3)).completeResult
      (Obj.viewBuildResult v)
      (some s.ctl.staging.lastEpoch)
      (buildData outcome b.bank (if outcome = 0 then k.version else 0) k.crc ((s.clk - b.startedAt) / 1000) b.mask
        (classCells k.table))

/-- BUILD accepted (R266): labels, radius, counts and fill are taken, the target bank goes to LOADING. -/
def State.startBuild (s : State) (v mask k : Nat) : State :=
  ((s.dropUnits v).bankLoading v k).modView v (fun w => { w with build := some {
      mask := mask, labels := (List.range 4).map (fun j => s.num (Obj.viewHistLabel v j)),
      radius := s.num (Obj.viewBuildRadius v), minCount := s.num (Obj.viewMinCount v), fill := s.num (Obj.viewFillClass v),
      bank := k, startedAt := s.clk, unitsDone := 0, todo := List.range 256 } })

/-- Whether two coordinates lie at most a radius apart. -/
def near (r a b : Nat) : Bool := decide (a ≤ b + r) && decide (b ≤ a + r)

/-- The sum of a slot's counters around a cell (R266). -/
def nearSum (h : List (Nat × Nat)) (radius cell : Nat) : Nat :=
  h.foldl (fun acc q =>
    if near radius (q.1 / 8192) (cell / 8192) && near radius (q.1 / 64 % 128) (cell / 64 % 128) &&
       near radius (q.1 % 64) (cell % 64) then acc + q.2 else acc) 0

/-- The class a build gives a cell (R266). -/
def buildClass (b : Build) (hist : List (List (Nat × Nat))) (active : Mem) (cell : Nat) : Nat :=
  let best := (List.range 4).foldl (fun (acc : Nat × Option Nat) s =>
    if bitOf b.mask s then
      let sum := nearSum (hist.getD s []) b.radius cell
      if acc.1 < sum then (sum, some s) else acc
    else acc) (0, none)
  match best.2 with
  | some s => if b.minCount ≤ best.1 then natAt b.labels s
              else if b.fill = 16 then tableClass active cell else b.fill
  | none => if b.fill = 16 then tableClass active cell else b.fill

/-- The table of the view's ACTIVE bank. -/
def View.activeTable (w : View) : Mem :=
  match w.banks.find? (fun b => b.state = BankState.active) with | some b => b.table | none => []

/-- A build unit of 4,096 cells computed; the last of the 256 completes the master copy (R266, R267, R324). -/
def State.buildUnitDone (s : State) (v unit : Nat) : State :=
  match (s.view v).build with
  | none => s
  | some b =>
    let w := s.view v
    let t := (rangeFrom (4096 * unit) 4096).foldl (fun t cell => tablePut t cell (buildClass b w.hist w.activeTable cell))
      (w.bank b.bank).table
    let s1 := (s.modBank v b.bank (fun k => { k with table := t })).modView v (fun w =>
      { w with build := some { b with unitsDone := b.unitsDone + 1 } })
    if b.unitsDone + 1 = 256 then s1.bankLoaded v b.bank t (tableCrc t) else s1

/-- 10 s without VERIFYING: the build ends with TIMEOUT and its bank is EMPTY (R267). -/
def State.buildTimeout (s : State) (v : Nat) : State :=
  match (s.view v).build with
  | none => s
  | some b =>
    if ((s.view v).bank b.bank).state = BankState.loading ∧ b.startedAt + 10000000000 ≤ s.clk then
      (s.endBuild v 1).modBank v b.bank (fun _ => Bank.reset)
    else s

/-! ## Verification -/

/-- Whether a region of a view is in reset, so that a bank waits for its copy; a retired one is no longer counted (R257). -/
def State.copyWaits (s : State) (v : Nat) : Bool := (s.portsOfView v).any (fun r => s.inReset r && !s.retired Unit.region r)

/-- The regions whose copies make a loaded bank ELIGIBLE (R256, R262): those of the view, and those that a passed commit adds to it. -/
def State.copyHolders (s : State) (v : Nat) : List Nat :=
  (s.portsOfView v ++ portsOfViewBy (fun key => (s.valIn s.dict.committed key).toNat) v).eraseDups

/-- A copy of a bank in a region that is down mismatches (R263): it is rewritten before the region rejoins. The time that takes is a free
value of at most the 5 ms of R256 (log entry 60). -/
def State.copyMismatch (s : State) (k r : Nat) : State :=
  (s.modRegion r (fun g => { g with
    copyBad := assocPut g.copyBad k (Nat.max s.clk g.resetUntil + (Config.copyRewrite s.free).toNat % 5000001) })).drawn

/-- Regions whose copy of a bank mismatched twice: counted, with an alert (R256). -/
def State.copiesFail (s : State) (bad : List Nat) : State :=
  (bad.foldl (fun acc r => acc.bump (Obj.regBankFails r)) s).alert Alert.table

/-- The copies of a VERIFYING bank are checked: ELIGIBLE with the view's next VERSION, or its own when it has been verified before (R262),
and FAILED when a region's copy mismatched twice (R256, R267). -/
def State.verifyBank (s : State) (v k : Nat) (bad : List Nat) : State :=
  let w := s.view v
  let b := w.bank k
  let n := if b.verified then b.version else nextVersionOf w.nextVersion
  let built := match w.build with | some b => decide (b.bank = k) | none => false
  if bad = [] then
    let s1 := (s.modBank v k (fun b => { b with state := BankState.eligible, version := n, lacks := [], verified := true })).modView v
      (fun x => { x with nextVersion := if b.verified then x.nextVersion else n })
    if built then s1.endBuild v 0 else s1
  else
    let s1 := (s.modBank v k (fun b => { b with state := BankState.failed, lacks := [] })).copiesFail bad
    if built then s1.endBuild v 2 else s1

/-- TABLE_VERIFY: the region copies of a bank that lack are written and checked; `mismatches` says how often the copy of a region
mismatched, and a second time fails it (R256, R257). Of a bank in use the regions that join get their copies (R262). A region that is
down after a reset has its copies checked apart, and one that mismatches is rewritten (R263). -/
def State.tableVerify (s0 : State) (v k : Nat) (mismatches : List (Nat × Nat)) : State :=
  let b := (s0.view v).bank k
  let failed := fun (r : Nat) => decide (2 ≤ (assoc mismatches r).getD 0)
  let held := decide (b.state = BankState.active) || decide (b.state = BankState.armed) || decide (b.state = BankState.eligible)
  let down := (s0.portsOfView v).filter (fun r =>
    held && (s0.region r).awaiting && !b.lacks.contains r && decide (0 < (assoc mismatches r).getD 0))
  let s := down.foldl (fun acc r => acc.copyMismatch k r) s0
  if s.copyWaits v then s
  else if b.state = BankState.verifying then
    s.verifyBank v k ((if b.verified then b.lacks else s.copyHolders v).filter (fun r => !s.retired Unit.region r && failed r))
  else if b.state = BankState.active ∨ b.state = BankState.armed then
    let bad := b.lacks.filter failed
    let s1 := s.modBank v k (fun x => { x with lacks := bad })
    if bad = [] then s1 else s1.copiesFail bad
  else s

/-! ## Swaps -/

/-- Step 2 of R96 for a view (R260): the bank is unchanged, or it is ELIGIBLE with none ARMED and the ports stay. -/
def State.bankReady (s : State) (v bankNow bankNew : Nat) (portsKept : Bool) : Bool :=
  bankNew = bankNow ||
  (((s.view v).bank bankNew).state = BankState.eligible &&
    (s.view v).banks.all (fun b => b.state ≠ BankState.armed) && portsKept)

/-- The staged bank of a view is ARMED by a passed commit (R261). -/
def State.armTable (s : State) (v k epoch : Nat) : State :=
  s.modBank v k (fun b => if b.state = BankState.eligible then { b with state := BankState.armed, epoch := epoch } else b)

/-- The regions that wait for their copy of a bank in use (R262). -/
def View.joining (w : View) : List Nat :=
  (w.banks.filter (fun b => b.state = BankState.active || b.state = BankState.armed)).flatMap Bank.lacks

/-- A commit adds regions to a view (R262): the banks in use wait for their copies there, and an ELIGIBLE one is copied before it is
ELIGIBLE again. -/
def Bank.joined (b : Bank) (want joiners : List Nat) : Bank :=
  let lacks := (b.lacks ++ joiners).filter (fun r => want.contains r)
  if b.state = BankState.eligible ∨ (b.state = BankState.verifying ∧ b.verified) then
    { b with lacks := lacks, state := if lacks = [] then BankState.eligible else BankState.verifying }
  else if b.state = BankState.active ∨ b.state = BankState.armed then { b with lacks := lacks }
  else b

/-- BANK_STATE (V+0x10:03). -/
def View.bankStates (w : View) : Nat := (w.bank 0).state + 16 * (w.bank 1).state

end Sys2Proof.Machine
end

