-- ==== Sys2Proof/Machine/Segmenter.lean ====
section
/-! DEFINITION. The segmenter: runs, joining, closing, splitting, limits, forced closes (R270 to R281), seams across modules
(R286 to R290), the close queue (R282) and the comet record (R284). -/

namespace Sys2Proof.Machine

/-! ## The comet record -/

abbrev CometFlag.partial_ : Nat := 0x0001
abbrev CometFlag.split : Nat := 0x0002
abbrev CometFlag.seamMerged : Nat := 0x0004
abbrev CometFlag.remote : Nat := 0x0008
abbrev CometFlag.late : Nat := 0x0010
abbrev CometFlag.defaulted : Nat := 0x0020
abbrev CometFlag.oversize : Nat := 0x0040
abbrev CometFlag.viewEdge : Nat := 0x0080
abbrev CometFlag.epochSpan : Nat := 0x0100
abbrev CometFlag.versionSpan : Nat := 0x0200
abbrev CometFlag.forcedClose : Nat := 0x0400
abbrev CometFlag.throttled : Nat := 0x0800
abbrev CometFlag.splitCont : Nat := 0x1000
abbrev CometFlag.edgeReport : Nat := 0x4000
abbrev CometFlag.fragment : Nat := 0x8000

/-- The 128 bytes of a comet record (R284). -/
def Comet.record (c : Comet) : Bytes :=
  leBytes 4 c.id ++ leBytes 2 c.epoch ++ leBytes 2 c.version ++ leBytes 1 c.origin ++ leBytes 1 c.disposition ++
  leBytes 2 c.flags ++ leBytes 4 c.first ++ leBytes 4 c.last ++ leBytes 4 c.firstTime ++ leBytes 4 c.lastTime ++
  leBytes 4 c.closeTime ++ leBytes 4 c.xMin ++ leBytes 4 c.xMax ++ leBytes 4 c.area ++ leBytes 6 c.sumX ++
  leBytes 6 c.sumY ++ leBytes 8 c.sumXX ++ leBytes 8 c.sumYY ++ leBytes 8 c.sumXY ++
  (List.range 16).flatMap (fun k => leBytes 2 (natAt c.counts k)) ++
  (List.range 4).flatMap (fun k => leBytes 2 (natAt c.means k)) ++
  leBytes 4 c.crop ++ leBytes 1 c.shift ++ leBytes 1 c.modelOut ++ leBytes 2 c.slices

/-- The comet a record spells (R284). -/
def Comet.ofRecord (b : Bytes) : Comet :=
  { id := u32At b 0, epoch := u16At b 4, version := u16At b 6, origin := u8At b 8, disposition := u8At b 9,
    flags := u16At b 10, first := u32At b 12, last := u32At b 16, firstTime := u32At b 20, lastTime := u32At b 24,
    closeTime := u32At b 28, xMin := u32At b 32, xMax := u32At b 36, area := u32At b 40, sumX := fieldAt b 44 6,
    sumY := fieldAt b 50 6, sumXX := u64At b 56, sumYY := u64At b 64, sumXY := u64At b 72,
    counts := (List.range 16).map (fun k => u16At b (80 + 2 * k)), means := (List.range 4).map (fun k => u16At b (112 + 2 * k)),
    crop := u32At b 120, shift := u8At b 124, modelOut := u8At b 125, slices := u16At b 126 }

/-- Whether a flag of FLAGS is set. -/
def Comet.has (c : Comet) (flag : Nat) : Bool := decide (c.flags &&& flag ≠ 0)

/-! ## What an object's pixels sum to -/

/-- A pixel of an object: its column, its line after the first, its class, its bands, and whether a hole is beside it. -/
structure Pixel where
  x : Nat
  y : Nat
  cls : Nat
  bands : List Nat
  hole : Bool

/-- The pixels of a run, from left to right. -/
def Strip.pixels (t : Strip) (first : Nat) : List Pixel :=
  (List.range t.classes.length).map (fun k =>
    { x := t.x + k, y := ahead32 first t.index, cls := natAt t.classes k, bands := t.bands.map (fun l => natAt l k),
      hole := t.holes.getD k false })

/-- A run put into its place in line order, left to right within a line (R278). -/
def placeStrip (first : Nat) (t : Strip) : List Strip → List Strip
  | [] => [t]
  | u :: r =>
    if ahead32 first t.index < ahead32 first u.index ∨ (t.index = u.index ∧ t.x ≤ u.x) then t :: u :: r
    else u :: placeStrip first t r

/-- The sum of a quantity over pixels. -/
def sumOver (l : List Pixel) (f : Pixel → Nat) : Nat := l.foldl (fun a q => a + f q) 0

/-- The sums over pixels (R274, R284). -/
def Sums.of (l : List Pixel) : Sums :=
  { n := l.length, sumX := sumOver l Pixel.x, sumY := sumOver l Pixel.y, sumXX := sumOver l (fun q => q.x * q.x),
    sumYY := sumOver l (fun q => q.y * q.y), sumXY := sumOver l (fun q => q.x * q.y),
    counts := (List.range 16).map (fun c =>
      (l.filter (fun q => if c = 0 then q.hole else decide (q.cls = c))).length),
    bands := (List.range 4).map (fun k => sumOver l (fun q => natAt q.bands k)) }

/-- Sums added (R289). -/
def Sums.add (a b : Sums) : Sums :=
  { n := a.n + b.n, sumX := a.sumX + b.sumX, sumY := a.sumY + b.sumY, sumXX := a.sumXX + b.sumXX, sumYY := a.sumYY + b.sumYY,
    sumXY := a.sumXY + b.sumXY, counts := (List.range 16).map (fun k => natAt a.counts k + natAt b.counts k),
    bands := (List.range 4).map (fun k => natAt a.bands k + natAt b.bands k) }

/-- The y' sums of a fragment rebased to an object's FIRST_INDEX, as R289 shifts x. -/
def FragmentSums.rebased (f : FragmentSums) (first : Nat) : Sums :=
  let d := ahead32 first f.first
  { f.sums with sumXY := f.sums.sumXY + d * f.sums.sumX, sumYY := f.sums.sumYY + 2 * d * f.sums.sumY + f.area * (d * d),
                sumY := f.sums.sumY + f.area * d }

/-- How many of an object's lines came before a fragment was taken in. -/
def FragmentSums.after (f : FragmentSums) (first : Nat) : Nat :=
  let d := ahead32 first f.seen
  if d < half32 then d + 1 else 0

/-- The sums of an object (R278, R289): in line order, left to right within a line, as long as AREA, with the fragments taken in before,
does not pass MAX_AREA. DESIGN CHOICE (log entry 26): a fragment whose pixels would pass it adds to AREA alone, for its sums cannot be
parted. -/
def Blob.sums (b : Blob) (maxArea : Nat) : Sums :=
  let px := (b.strips.foldl (fun acc t => placeStrip b.first t acc) []).flatMap (fun t => t.pixels b.first)
  let before := fun (y : Nat) => b.parts.foldl (fun n f => if f.after b.first ≤ y then n + f.area else n) 0
  let own := ((List.zip (List.range px.length) px).filter (fun q => decide (q.1 + 1 + before q.2.y ≤ maxArea))).map (·.2)
  (b.parts.foldl (fun (acc : Nat × Sums) f =>
    let mine := (px.filter (fun q => decide (q.y < f.after b.first))).length
    (acc.1 + f.area, if mine + acc.1 + f.sums.n ≤ maxArea then acc.2.add (f.rebased b.first) else acc.2)) (0, Sums.of own)).2

/-- Whether a pixel of an object has a hole beside it (R274). -/
def Blob.besideHole (b : Blob) : Bool := b.strips.any (fun t => t.holes.any id)

/-- A closed object as a comet that has no ID yet (R274, R278, R284, R285). -/
def Blob.comet (b : Blob) (view moduleId closeTime maxArea : Nat) : Comet :=
  let t := b.sums maxArea
  { id := view * 2 ^ 30, epoch := b.epoch, version := b.version, origin := moduleId * 64 + view, disposition := 0,
    flags := b.flags ||| (if b.besideHole then CometFlag.partial_ else 0) |||
      (if maxArea < b.area then CometFlag.oversize else 0),
    first := b.first, last := b.last, firstTime := b.firstTime, lastTime := b.lastTime, closeTime := closeTime,
    xMin := b.xMin, xMax := b.xMax, area := b.area, sumX := t.sumX, sumY := t.sumY, sumXX := t.sumXX, sumYY := t.sumYY,
    sumXY := t.sumXY, counts := t.counts.map (fun n => min 0xFFFF n),
    means := t.bands.map (fun n => if t.n = 0 then 0 else min 0xFFFF (n / t.n)), crop := 0xFFFFFFFF, shift := b.shift,
    modelOut := 0xFF, slices := b.slices }

/-! ## Runs -/

/-- The maximal runs of `true` in a list whose first entry is column `x` (R270): first and last column. -/
def runsFrom : List Bool → Nat → Option Nat → List (Nat × Nat)
  | [], _, none => []
  | [], x, some a => [(a, x - 1)]
  | true :: r, x, none => runsFrom r (x + 1) (some x)
  | true :: r, x, some a => runsFrom r (x + 1) (some a)
  | false :: r, x, none => runsFrom r (x + 1) none
  | false :: r, x, some a => (a, x - 1) :: runsFrom r (x + 1) none

/-- The foreground runs of a classified line as the seam merger sees them, across the slices (R270, R272). -/
def foregroundRuns (c : Classified) (fg : Nat) : List (Nat × Nat) :=
  runsFrom ((List.range c.classes.length).map (fun k => !c.holes.getD k true && bitOf fg (natAt c.classes k))) c.lo none

/-- Whether a run of line j is 8-adjacent to a run of line j − 1 (R271). -/
def adjacentRuns (a b : Nat × Nat) : Bool := decide (b.1 ≤ a.2 + 1) && decide (a.1 ≤ b.2 + 1)

/-- A hole mask by column. -/
def maskAt (l : List Bool) (lo x : Nat) : Bool := decide (lo ≤ x) && l.getD (x - lo) false

/-- Whether a column or a neighbour of it is a hole. -/
def nearHole (l : List Bool) (lo x : Nat) : Bool :=
  maskAt l lo x || maskAt l lo (x + 1) || (decide (0 < x) && maskAt l lo (x - 1))

/-! ## Accumulating -/

/-- What one line contributes, as the segmenter sees it. -/
structure LineIn where
  index : Nat
  time : Nat
  epoch : Nat
  version : Nat
  line : PixLine
  cls : Classified
  /-- columns with a hole above or beside (R274) -/
  near : List Bool
  /-- position of a column's slice -/
  pos : Nat → Nat
  /-- first and last column of the whole view, where they lie on this module (R275) -/
  edges : Option Nat × Option Nat

/-- A run added to an object (R274 to R278, R281). -/
def Blob.addRun (b : Blob) (l : LineIn) (run : Nat × Nat) : Blob :=
  let xs := rangeFrom run.1 (run.2 + 1 - run.1)
  let strip : Strip :=
    { index := l.index, x := run.1, classes := xs.map (fun x => natAt l.cls.classes (x - l.cls.lo)),
      bands := (List.range 4).map (fun k => xs.map (fun x => natAt (l.line.samples.getD k []) x)),
      holes := xs.map (fun x => maskAt l.near l.cls.lo x) }
  let flags := b.flags ||| (if l.edges.1 = some run.1 || l.edges.2 = some run.2 then CometFlag.viewEdge else 0) |||
    (if l.epoch ≠ b.epoch then CometFlag.epochSpan else 0) |||
    (if l.version ≠ b.version then CometFlag.versionSpan else 0)
  { b with
    last := l.index, lastTime := l.time, version := l.version, flags := flags, xMin := Nat.min b.xMin run.1,
    xMax := Nat.max b.xMax run.2, area := b.area + xs.length, strips := b.strips ++ [strip],
    slices := (rangeFrom (l.pos run.1) (l.pos run.2 + 1 - l.pos run.1)).foldl setBit b.slices, cur := b.cur ++ [run] }

/-- A new object opened by a run in a line (R271, R284). -/
def Blob.open_ (uid : Nat) (l : LineIn) (shift flags : Nat) (labels : List Nat) : Blob :=
  { uid := uid, first := l.index, last := l.index, firstTime := l.time, lastTime := l.time, epoch := l.epoch,
    version := l.version, shift := shift, flags := flags, xMin := 0xFFFFFFFF, xMax := 0, area := 0, strips := [], parts := [],
    slices := 0, runs := [], cur := [], split := false, cont := none, remote := [], edgeLines := [], labels := labels }

/-- Two objects joined (R271): the earliest FIRST_INDEX, and the pixels of both; `a` is the earlier one. -/
def Blob.join (a b : Blob) : Blob :=
  let later_ := decide (0 < ahead32 a.last b.last) && decide (ahead32 a.last b.last < half32)
  { a with
    last := if later_ then b.last else a.last, lastTime := if later_ then b.lastTime else a.lastTime,
    version := if later_ then b.version else a.version,
    flags := a.flags ||| b.flags ||| (if a.epoch ≠ b.epoch then CometFlag.epochSpan else 0) |||
      (if a.version ≠ b.version then CometFlag.versionSpan else 0),
    xMin := Nat.min a.xMin b.xMin, xMax := Nat.max a.xMax b.xMax, area := a.area + b.area, strips := a.strips ++ b.strips,
    parts := a.parts ++ b.parts, slices := a.slices ||| b.slices, runs := a.runs ++ b.runs, cur := a.cur ++ b.cur,
    remote := (a.remote ++ b.remote).eraseDups, edgeLines := (a.edgeLines ++ b.edgeLines).eraseDups,
    labels := a.labels ++ b.labels }

/-! ## One line -/

/-- The segmenter's working set for one line: open objects, the next object number, runs not labelled (R279), objects
that became SEAM_MERGED, the most objects open at a time. -/
structure Seg where
  blobs : List Blob
  nextUid : Nat
  unlabelled : Nat
  merges : Nat
  peak : Nat
  deriving DecidableEq, Repr

/-- Whether an object spans two or more slices (R272). -/
def manySlices (m : Nat) : Bool := decide (1 < popCount 12 m)

/-- An object put back; it counts when it becomes SEAM_MERGED (R284). -/
def Seg.put (q : Seg) (b : Blob) : Seg :=
  let new := manySlices b.slices && decide (b.flags &&& CometFlag.seamMerged = 0)
  let b1 := if manySlices b.slices then { b with flags := b.flags ||| CometFlag.seamMerged } else b
  { q with merges := q.merges + (if new then 1 else 0),
           blobs := q.blobs.map (fun x => if x.uid = b.uid then b1 else x) }

/-- The earliest of a list of objects, ties to the one opened first (R271). -/
def earliest (now : Nat) : List Blob → Option Blob
  | [] => none
  | b :: r =>
    match earliest now r with
    | none => some b
    | some c =>
      let db := ahead32 b.first now
      let dc := ahead32 c.first now
      if dc < db ∨ (dc = db ∧ b.uid ≤ c.uid) then some b else some c

/-- One object joined into another: the slot of the absorbed one is free (R271, R279). -/
def Seg.absorb (w : Nat) (q : Seg) (b : Blob) : Seg :=
  match q.blobs.find? (fun x => x.uid = w) with
  | none => q
  | some a =>
    if b.uid = w then q
    else
      let joined := a.join b
      let rest := (q.blobs.filter (fun (x : Blob) => x.uid ≠ b.uid)).map (fun (x : Blob) =>
        if x.cont = some b.uid then { x with cont := some w } else x)
      ({ q with blobs := rest } : Seg).put joined

/-- A run of line j enters: it joins the objects it touches, opens one, or goes unlabelled, one run in every slice it lies in (R270, R271,
R276, R279). -/
def Seg.run (shift : Nat) (newLabel : List Blob → Nat) (l : LineIn) (q : Seg) (r : Nat × Nat) : Seg :=
  let touched := q.blobs.filter (fun b => b.runs.any (adjacentRuns r))
  let ended := touched.filter (fun b => b.split)
  let pieces := ended.filterMap (fun b => b.cont)
  let hit := q.blobs.filter (fun b => (!b.split && b.runs.any (adjacentRuns r)) || pieces.contains b.uid)
  let cont := if ended = [] then 0 else CometFlag.split ||| CometFlag.splitCont
  let fresh := ended.filter (fun b => b.cont.isNone)
  let carry := fun (a : Blob) =>
    { a with flags := a.flags ||| cont, remote := a.remote ++ fresh.flatMap (fun b => b.remote),
             edgeLines := a.edgeLines ++ fresh.flatMap (fun b => b.edgeLines),
             labels := if a.labels = [] ∧ ended.any (fun b => b.labels ≠ []) then [newLabel q.blobs] else a.labels }
  let link := fun (w : Nat) (bs : List Blob) =>
    bs.map (fun b => if ended.any (fun e => e.uid = b.uid) then { b with cont := some w } else b)
  match earliest l.index hit with
  | some w =>
    let q1 := hit.foldl (Seg.absorb w.uid) q
    match q1.blobs.find? (fun x => x.uid = w.uid) with
    | none => q1
    | some a =>
      let q2 := q1.put ((carry a).addRun l r)
      { q2 with blobs := link w.uid q2.blobs }
  | none =>
    if 16384 ≤ q.blobs.length then { q with unlabelled := q.unlabelled + (l.pos r.2 + 1 - l.pos r.1) }
    else
      let b := carry (Blob.open_ q.nextUid l shift 0 [])
      let q1 := { q with blobs := link q.nextUid q.blobs ++ [b], nextUid := q.nextUid + 1,
                         peak := Nat.max q.peak (q.blobs.length + 1) }
      q1.put (b.addRun l r)

/-- The lowest label that no open object bears (R287; the manual leaves the choice to the sender). -/
def freeLabel (blobs : List Blob) : Nat :=
  ((List.range 16384).find? (fun n => !blobs.any (fun b => b.labels.contains n))).getD 0

/-- Line j − 1's pixels with a hole of line j among their neighbours (R274). -/
def markBelow (l : LineIn) (b : Blob) : Blob :=
  { b with strips := b.strips.map (fun t =>
      if ahead32 t.index l.index = 1 then
        { t with holes := (List.range t.holes.length).map (fun k =>
            t.holes.getD k false || nearHole l.cls.holes l.cls.lo (t.x + k)) }
      else t) }

/-! ## Closing -/

/-- The number of module tokens a part's bucket holds, and its refill per second (R282). -/
def Part.cometDepth (p : Part) : Nat := if p.hasEast then 4096 else 2048
def Part.cometRate (p : Part) : Nat := if p.hasEast then 1048576 else 524288

/-- A bucket's level at a clock, in units of 10^-9 token. -/
def bucketAt (level clk now depth rate : Nat) : Nat := min (depth * 1000000000) (level + (now - clk) * rate)

def State.viewTokens (s : State) (v : Nat) : Nat := bucketAt (s.view v).tokens (s.view v).tokenClk s.clk 1024 262144
def State.moduleTokens (s : State) : Nat :=
  bucketAt s.power.moduleTokens s.power.moduleTokenClk s.clk s.ctl.part.cometDepth s.ctl.part.cometRate

/-- Whether a bucket holds no token for the next comet of a view (R282). -/
def State.tokenLacks (s : State) (v : Nat) : Bool :=
  decide (s.viewTokens v < 1000000000) || decide (s.moduleTokens < 1000000000)

/-- The comets first in their queues that find no token wait for one (R282). -/
def State.markWaits (s : State) : State :=
  (List.range 4).foldl (fun acc v =>
    if s.tokenLacks v then
      acc.modView v (fun w => { w with closeQueue := match w.closeQueue with | [] => [] | q :: r => (q.1, true) :: r })
    else acc) s

/-- A comet enters its view's close queue; a full queue drops it (R282), which lapses condition 2 of the guarantee (R349). -/
def State.enqueueComet (s : State) (v : Nat) (c : Comet) : State :=
  if 4096 ≤ (s.view v).closeQueue.length then
    (((s.bump (Obj.viewRateDropped v)).orFlags (Obj.viewFlags v) 2).alert Alert.cometRate).lapseEvent 2
  else (s.modView v (fun w => { w with closeQueue := w.closeQueue ++ [(c, false)] })).markWaits

/-- MAX_AREA of an object (R278). -/
def State.maxAreaOf (s : State) (v : Nat) (b : Blob) : Nat := s.param b.epoch (Obj.viewMaxArea v)

/-- Pixels of a fragment in the boundary column beside a hole of this module, in its own line or the next ones, found by the entries that
name its label (R274, R287). -/
def View.leftHoles (w : View) (f : FragmentSums) : Nat :=
  (w.edges.filter (fun e => decide (e.2.2 = some f.label) && decide (ahead32 f.first e.1 ≤ ahead32 f.first f.last) &&
    [(e.1 + wrap32 - 1) % wrap32, e.1, (e.1 + 1) % wrap32].any (fun k => w.seamHoles.contains k))).length

/-- An object with what its fragments' sender could not see: the holes on this side of the seam (R274). -/
def Blob.withLeftHoles (b : Blob) (w : View) : Blob :=
  { b with
    flags := if b.parts.any (fun f => w.leftHoles f ≠ 0) then b.flags ||| CometFlag.partial_ else b.flags,
    parts := b.parts.map (fun f => { f with sums := { f.sums with counts := f.sums.counts.modify 0 (fun n => n + w.leftHoles f) } }) }

/-- A closed object that is no fragment: dropped when small, otherwise it becomes a comet (R277, R282). -/
def State.closeBlob (s : State) (v : Nat) (b : Blob) : State :=
  if b.area < s.param b.epoch (Obj.viewMinArea v) ∧ b.flags &&& CometFlag.split = 0 then s.bump (Obj.viewDroppedSmall v)
  else
    let c := (b.withLeftHoles (s.view v)).comet v s.pins.id s.shortNow (s.maxAreaOf v b)
    ((s.bump (Obj.viewCometsClosed v)).bumpIf (c.has CometFlag.partial_) (Obj.viewPartials v)).enqueueComet v c

/-- An object that touched the seam to the left module is sent as a fragment under its label; the labels of objects it
absorbed get empty fragments (R288; log entry 25). -/
def State.sendFragment (s : State) (v : Nat) (b : Blob) : State :=
  let c := (b.withLeftHoles (s.view v)).comet v s.pins.id s.shortNow (s.maxAreaOf v b)
  let empty := { c with area := 0, sumX := 0, sumY := 0, sumXX := 0, sumYY := 0, sumXY := 0, counts := List.replicate 16 0,
                        slices := 0 }
  let one := fun (k : Nat) (n : Nat) => { (if k = 0 then c else empty) with
    id := v * 2 ^ 30 + n % 16384, flags := c.flags ||| CometFlag.fragment }
  (List.zip (List.range b.labels.length) b.labels).foldl (fun acc q =>
    acc.sendComet (s.param b.epoch (Obj.viewContinuesFrom v)) (one q.1 q.2).record) s

/-- An object ends: as a fragment when it touched the seam to the left, otherwise as a comet (R273, R288). -/
def State.endBlob (s : State) (v : Nat) (b : Blob) : State := if b.labels ≠ [] then s.sendFragment v b else s.closeBlob v b

/-- Objects of a view closed at once, with flags set, and counted (R280). -/
def State.forceClose (s : State) (v flags : Nat) (which : Blob → Bool) : State :=
  let hit := (s.view v).blobs.filter which
  hit.foldl (fun acc b =>
      (acc.bump (Obj.viewForcedCloses v)).endBlob v { b with flags := b.flags ||| CometFlag.forcedClose ||| flags })
    (s.modView v (fun w => { w with blobs := w.blobs.filter (fun b => !which b) }))

/-! ## Seams across modules: the left module -/

/-- STITCH_SHIFT of a view in a frame's set, 1/16 line (R225, R240). -/
def State.stitchShiftOf (s : State) (fe e v : Nat) : Nat :=
  let zs := (s.geometry e v).ports.map (fun p => s.portShift fe v p)
  zs.foldl Nat.max 0 + 16 * s.param e (Obj.viewAlongLimit v)

/-- The shift of a view's fragments in an epoch: STITCHED_WIDTH less the seam's overlap (R289). -/
def State.fragmentShift (s : State) (e v : Nat) : Nat :=
  let g := s.geometry e v
  g.width - natAt g.overlaps (g.ports.length - 1)

/-- The latest line a view has segmented. -/
def State.segmented (s : State) (v : Nat) : Nat :=
  match (s.view v).nextStitch with | some j => (j + wrap32 - 1) % wrap32 | none => 0

/-- The label of a fragment (R284). -/
def Comet.label (c : Comet) : Nat := c.id % 16384

/-- A fragment as an object in this module's coordinates (R289). EPOCH and SHIFT are this module's, of the line that FIRST_INDEX names
(R281, R284); so is TABLE_VERSION, where the object has lines of its own (log entry 26). -/
def State.fragmentBlob (s : State) (v : Nat) (c : Comet) : Blob :=
  let e := match s.issueOf v c.first with | some i => i.epoch | none => (s.view v).epoch
  let ends := match s.issueOf v c.last with | some i => i.epoch | none => e
  let d := s.fragmentShift e v
  let n := if c.has CometFlag.oversize then min c.area (s.param e (Obj.viewMaxArea v)) else c.area
  { uid := 0, first := c.first, last := c.last, firstTime := c.firstTime, lastTime := c.lastTime, epoch := e,
    version := c.version, shift := match s.issueOf v c.first with | some i => s.stitchShiftOf i.frameEpoch e v | none => c.shift,
    flags := andNot c.flags (CometFlag.fragment ||| CometFlag.edgeReport) ||| CometFlag.remote |||
      (if ends ≠ e then CometFlag.epochSpan else 0),
    xMin := c.xMin + d, xMax := c.xMax + d, area := c.area, strips := [],
    parts := [{ first := c.first, last := c.last, label := c.label, seen := s.segmented v, area := c.area, sums := {
      n := n, sumX := c.sumX + c.area * d, sumY := c.sumY, sumXX := c.sumXX + 2 * d * c.sumX + c.area * (d * d),
      sumYY := c.sumYY, sumXY := c.sumXY + d * c.sumY, counts := c.counts, bands := c.means.map (fun m => m * n) } }],
    slices := 0x8000, runs := [], cur := [], split := false, cont := none, remote := [], edgeLines := [], labels := [] }

/-- A fragment added to the object that holds its label (R289). -/
def Blob.addFragment (b f0 : Blob) (label : Nat) : Blob :=
  let f := { f0 with version := b.version }
  let j := if half32 ≤ ahead32 b.first f.first then f.join b else b.join f
  { j with uid := b.uid, runs := b.runs, cur := b.cur, split := b.split, cont := b.cont,
           remote := b.remote.filter (fun n => n ≠ label), edgeLines := b.edgeLines, labels := b.labels }

/-- The label of a fragment that has been taken in, with its last line: entries up to that line name it (R288, R289). -/
def View.taking (w : View) (c : Comet) : View :=
  { w with fragments := w.fragments.filter (fun x => x ≠ c), taken := (assocPut w.taken c.label c.last).take 16384 }

/-- Fragments no object had claimed go to the objects that now hold their labels (R289). -/
def State.claimFragments (s : State) (v : Nat) : State :=
  (s.view v).fragments.foldl (fun acc f =>
    match (acc.view v).blobs.find? (fun b => b.remote.contains f.label) with
    | none => acc
    | some b =>
      acc.modView v (fun w => { w.taking f with
        blobs := w.blobs.map (fun x =>
          if x.uid = b.uid then x.addFragment (acc.fragmentBlob v f) f.label
          else { x with remote := x.remote.filter (fun n => n ≠ f.label) }) })) s

/-- The pixel at the seam in line j has a hole beside it (R274, R289): the last one of the line's last run. A piece without a run in line j
has no such pixel. -/
def Blob.seamHole (b : Blob) (j : Nat) : Blob :=
  let x := (b.strips.filter (fun t => t.index = j)).foldl (fun m t => Nat.max m t.x) 0
  { b with strips := b.strips.map (fun t =>
      if t.index = j ∧ t.x = x then { t with holes := t.holes.dropLast ++ [true] } else t) }

/-- What the entries of lines j − 1, j and j + 1 give an object with a pixel at the seam in line j (R289): the labels of
FG entries whose fragments have yet to come, a hole beside it; the line is settled once all three are there. `comes` says of which lines an
entry can come: a line before the first one, or one whose set has no right module, has none. -/
def Blob.seeEntries (comes : Nat → Bool) (edges : List (Nat × Bool × Option Nat)) (taken : List (Nat × Nat)) (b : Blob) : Blob :=
  b.edgeLines.foldl (fun acc j =>
    let three := [(j + wrap32 - 1) % wrap32, j, (j + 1) % wrap32]
    let at_ := fun (k : Nat) => edges.find? (fun e => e.1 = k)
    let known := three.filterMap at_
    let gone := fun (k n : Nat) => match assoc taken n with | some last => decide (ahead32 k last < half32) | none => false
    let named := (known.filterMap (fun e => e.2.2.bind (fun n => if gone e.1 n then none else some n))).eraseDups
    let acc1 := if known.any (fun e => e.2.1) then acc.seamHole j else acc
    { acc1 with
      remote := acc.remote ++ named.filter (fun n => !acc.remote.contains n && !acc.cont.isSome),
      edgeLines := if three.all (fun k => (at_ k).isSome || !comes k) then acc.edgeLines.filter (fun k => k ≠ j)
        else acc.edgeLines }) b

/-- Two objects joined, the earlier first (R271). -/
def Blob.with_ (a c : Blob) : Blob := if half32 ≤ ahead32 a.first c.first then c.join a else a.join c

/-- Whether two objects of the left module hold one label. -/
def Blob.shares (a c : Blob) : Bool := !a.split && !c.split && a.remote.any (fun n => c.remote.contains n)

/-- An object put beside others: with those that hold a label of its own it is one object (R289; log entry 26). -/
def joinShared (l : List Blob) (c : Blob) : List Blob :=
  let hit := l.filter (fun a => a.shares c)
  let j := hit.foldl Blob.with_ c
  let gone := (c :: hit).map (fun b => b.uid)
  (l.filter (fun a => !a.shares c) ++ [j]).map (fun x => match x.cont with
    | some n => if gone.contains n then { x with cont := some j.uid } else x
    | none => x)

/-- Whether an object has ended (R273, R276, R289): it has no run in the latest line, and it is a piece that was cut or waits for nothing
more from the right module. -/
def Blob.finished (b : Blob) : Bool := decide (b.runs = []) && (b.split || (decide (b.remote = []) && decide (b.edgeLines = [])))

/-- Open objects that have ended are closed (R273). -/
def State.closeFinished (s : State) (v : Nat) : State :=
  let hit := (s.view v).blobs.filter Blob.finished
  hit.foldl (fun acc b => acc.endBlob v b) (s.modView v (fun w => { w with blobs := w.blobs.filter (fun b => !b.finished) }))

/-- Fragments whose seam lines the left module has passed without an object to claim them close as comets of their own
(R286; log entry 26). -/
def State.closeFragments (s : State) (v index : Nat) : State :=
  let ready := (s.view v).fragments.filter (fun f =>
    decide (1 < ahead32 f.last index) && decide (ahead32 f.last index < half32) &&
    (s.view v).blobs.all (fun b => b.edgeLines = []))
  ready.foldl (fun acc f => (acc.modView v (fun w => w.taking f)).closeBlob v (acc.fragmentBlob v f)) s

/-- Whether an edge entry of a line can come (R287, R290): the line has not been issued yet, or has been under a set with a right module. -/
def State.edgeComes (s : State) (v index : Nat) : Bool :=
  match s.issueOf v index with
  | some i => decide (s.param i.epoch (Obj.viewContinuesTo v) ≠ 0xFF)
  | none => decide (ahead32 (s.trigger v).nextIndex index < half32)

/-- The objects of a view brought up with the entries and fragments received so far (R289). -/
def State.settleSeam (s : State) (v index : Nat) : State :=
  let s1 := s.modView v (fun w => { w with
    blobs := (w.blobs.map (Blob.seeEntries (s.edgeComes v) w.edges w.taken)).foldl joinShared [] })
  ((s1.claimFragments v).closeFinished v).closeFragments v index

/-- An edge record's entries kept; an entry that is known already, late ones included, is discarded (R287, R290). -/
def State.takeEdges (s : State) (v : Nat) (b : Bytes) : State :=
  let first := u32At b 0
  let n := u8At b 9
  let s1 := (List.range (min 28 n)).foldl (fun acc k =>
    let j := (first + k) % wrap32
    let e := u32At b (16 + 4 * k)
    acc.modView v (fun w =>
      if w.edges.any (fun x => x.1 = j) then w
      else { w with edges := ((j, bitOf e 31, if bitOf e 30 && !bitOf e 31 then some (e % 16384) else none) :: w.edges).take 8192 })) s
  s1.settleSeam v (s1.segmented v)

/-- A fragment received (R289). -/
def State.takeFragment (s : State) (v : Nat) (c : Comet) : State :=
  let s1 := s.modView v (fun w => { w with fragments := w.fragments ++ [c] })
  s1.settleSeam v (s1.segmented v)

/-- The deadline of an edge entry (R234, R290). -/
def State.edgeDeadline (s : State) (v : Nat) (i : Issue) : Nat :=
  i.clk + ((s.geometry i.epoch v).ports.map (fun p => s.param i.epoch (Obj.portReasmWindow p))).foldl Nat.max 0 * 1000 + 10000

/-- The time an edge entry is waited for has passed: it is a HOLE (R290). -/
def State.edgeLateNow (s : State) (v index : Nat) : State :=
  match s.issueOf v index with
  | some i =>
    if s.param i.epoch (Obj.viewContinuesTo v) ≠ 0xFF ∧ !(s.view v).edges.any (fun e => e.1 = index) ∧
        s.edgeDeadline v i ≤ s.clk then
      let s1 := ((s.modView v (fun w => { w with edges := ((index, true, none) :: w.edges).take 8192 })).bump
        (Obj.viewEdgeLate v)).orFlags (Obj.viewFlags v) 4
      s1.settleSeam v (s1.segmented v)
    else s
  | none => s

/-- Every entry that an object waits for is a HOLE (R290). -/
def Blob.entriesLost (b : Blob) : Blob :=
  b.edgeLines.foldl Blob.seamHole { b with edgeLines := [] }

/-- The partner of a view is lost (R37, R290): an object that holds a label of it closes with PARTIAL and FORCED_CLOSE, every entry is a
HOLE, and the fragments that no object has taken in are dropped and counted. -/
def State.seamLost (s : State) (v : Nat) : State :=
  let s1 := (s.forceClose v CometFlag.partial_ (fun b => b.remote ≠ [])).bumpBy Obj.gtrRemoteDropped (s.view v).fragments.length
  let s2 := s1.modView v (fun w => { w with edges := [], fragments := [], blobs := w.blobs.map Blob.entriesLost })
  s2.closeFinished v

/-! ## One line of a view -/

/-- The objects of a view closed before a bound line that changes its geometry, or that follows such a change (R280). -/
def State.segEpochOf (s : State) (v epoch : Nat) : State :=
  let passed := fun (b : Nat) => decide (s.epochPos b ≤ s.epochPos epoch)
  let breaks := (s.view v).segBreaks.any passed
  let s1 := if (s.view v).segEpoch.isSome ∧ breaks then
      (s.forceClose v 0 (fun _ => true)).modView v (fun w => { w with prevHoles := [] })
    else s
  s1.modView v (fun w => { w with segEpoch := some epoch, segBreaks := w.segBreaks.filter (fun b => !passed b) })

/-- A view that a commit leaves without ports, once its last line with ports is segmented: its objects close (R280). -/
def State.closePortless (s : State) (v : Nat) : State :=
  let portless := fun (e : Nat) => decide ((s.geometry e v).ports = [])
  let e := (s.trigger v).epoch
  let ended : Bool := match (s.view v).nextStitch with
    | none => true
    | some j => (match s.issueOf v j with | some i => portless i.epoch | none => true)
  if (s.view v).blobs ≠ [] ∧ portless e ∧ ended then s.segEpochOf v e else s

/-- The edge record of a line for the left module (R287). -/
def edgeRecord (moduleId view index xb : Nat) (hole : Bool) (blobs : List Blob) : Bytes :=
  let at_ := blobs.find? (fun b => b.cur.any (fun r => decide (r.1 ≤ xb) && decide (xb ≤ r.2)))
  let entry := match at_ with
    | some b => 2 ^ 30 + (b.labels.headD 0)
    | none => if hole then 2 ^ 31 else 0
  leBytes 4 index ++ zeros 4 ++ leBytes 1 (moduleId * 64 + view) ++ leBytes 1 1 ++ leBytes 2 CometFlag.edgeReport ++ zeros 4 ++
  leBytes 4 entry ++ zeros 108

/-- Objects with a pixel in the boundary column get a label when they have none (R287, R288). -/
def labelAt (xb : Nat) (blobs : List Blob) : List Blob :=
  blobs.foldl (fun acc b =>
    if b.labels = [] ∧ b.cur.any (fun r => decide (r.1 ≤ xb) && decide (xb ≤ r.2)) then
      acc.map (fun x => if x.uid = b.uid then { x with labels := [freeLabel acc] } else x)
    else acc) blobs

/-- The first column of die E's slices in a view that crosses the die boundary (R272). -/
def Geometry.crossing (g : Geometry) : Option Nat :=
  if g.ports.any (fun p => decide (p < 6)) then
    ((List.range g.ports.length).find? (fun k => decide (6 ≤ natAt g.ports k))).map g.sliceStart
  else none

/-- A classified line of a view segmented (R270 to R281, R286 to R288). At a seam across the dies, the label of die E's run at the boundary
crosses the die bridge; DESIGN CHOICE (log entry 68): as a message of 16 bytes. -/
def State.segmentLine (s0 : State) (v : Nat) (i : Issue) (g : Geometry) (line : PixLine) (c : Classified) : State :=
  let s := s0.segEpochOf v i.epoch
  let w := s.view v
  let from_ := s.param i.epoch (Obj.viewContinuesFrom v) ≠ 0xFF
  let to_ := s.param i.epoch (Obj.viewContinuesTo v) ≠ 0xFF
  let cols := rangeFrom c.lo c.classes.length
  let near := cols.map (fun x => nearHole w.prevHoles c.lo x || nearHole c.holes c.lo x)
  let l : LineIn :=
    { index := i.index, time := i.time, epoch := i.epoch, version := c.version, line := line, cls := c, near := near,
      pos := fun x => g.posOf x,
      edges := (if from_ then none else some 0, if to_ then none else some (g.width - 1)) }
  let start : Seg := { blobs := w.blobs.map (markBelow l), nextUid := w.nextUid, unlabelled := 0, merges := 0,
                       peak := w.blobs.length }
  let runs := foregroundRuns c (s.param i.epoch (Obj.viewFgClasses v))
  let q := runs.foldl (Seg.run (s.stitchShiftOf i.frameEpoch i.epoch v) freeLabel l) start
  let xb := c.lo
  let labelled := if from_ then labelAt xb q.blobs else q.blobs
  let seamCol := c.lo + c.classes.length - 1
  let cut := fun (b : Blob) => b.cur ≠ [] && !b.split && decide (4096 ≤ ahead32 b.first i.index + 1)
  let closed := labelled.map (fun b =>
    let b1 := if to_ && b.cur.any (fun r => r.2 = seamCol) then { b with edgeLines := b.edgeLines ++ [i.index] } else b
    { b1 with runs := b.cur, cur := [], split := b.split || cut b,
              flags := if cut b then b1.flags ||| CometFlag.split else b1.flags })
  let dark := to_ && c.holes.getLastD false
  let s1 := s.modView v (fun w => { w with
    blobs := closed, nextUid := q.nextUid, prevHoles := c.holes,
    seamHoles := if dark then (i.index :: w.seamHoles).take 8192 else w.seamHoles })
  let s2 := ((s1.bumpBy (Obj.viewRunsUnlabelled v) q.unlabelled).bumpBy (Obj.viewSeamMerges v) q.merges).bumpBy
    (Obj.viewSplits v) (labelled.filter cut).length
  let s3 := (if 0 < q.unlabelled then s2.orFlags (Obj.viewFlags v) 1 else s2).peak (Obj.viewOpenPeak v) (min 0xFFFF q.peak)
  let s4 := if from_ then
      s3.sendComet (s.param i.epoch (Obj.viewContinuesFrom v))
        (edgeRecord s.pins.id v i.index xb (c.holes.headD false) labelled)
    else s3
  let s5 := (if g.crossing.any (fun x => labelled.any (fun b => b.cur.any (fun r => decide (r.1 ≤ x) && decide (x ≤ r.2))))
    then s4.ejectTraffic 16 else s4).closeFinished v
  if to_ then s5.settleSeam v i.index else s5

end Sys2Proof.Machine
end

