-- ==== Sys2Proof/Machine/Hbm.lean ====
section
/-! DEFINITION. The HBM3 memory subsystem: addresses and rings (R377 to R380, R401 to R404), ports and scheduling (R381 to
R385), refresh, power-down and self-refresh (R386 to R391), errors and retirement (R392 to R400). -/

namespace Sys2Proof.Machine

def State.modHbm (s : State) (f : Hbm → Hbm) : State := { s with hbm := f s.hbm }
def State.pch (s : State) (n : Nat) : Pch := s.hbm.pchs.getD n Pch.reset
def State.modPch (s : State) (n : Nat) (f : Pch → Pch) : State := s.modHbm (fun h => { h with pchs := h.pchs.modify n f })
def State.stack (s : State) (k : Nat) : Stack := s.hbm.dieStacks.getD k Stack.reset
def State.modStack (s : State) (k : Nat) (f : Stack → Stack) : State :=
  s.modHbm (fun h => { h with dieStacks := h.dieStacks.modify k f })
def State.ring (s : State) (r : Nat) : Ring := s.hbm.rings.getD r Ring.reset
def State.modRing (s : State) (r : Nat) (f : Ring → Ring) : State :=
  s.modHbm (fun h => { h with rings := h.rings.modify r f })

/-- The address of a byte of a pseudo-channel in the model's one store: 512 MiB each (R377). -/
def hbmAddr (pch pa : Nat) : Nat := pch * 2 ^ 29 + pa

/-- The fields of a pseudo-channel address (R377). -/
structure HbmFields where
  row : Nat
  sid : Nat
  bank : Nat
  bankGroup : Nat
  column : Nat
  byte : Nat
  deriving DecidableEq, Repr

/-- The controller's split of a pseudo-channel address (R377). -/
def hbmFields (pa : Nat) : HbmFields :=
  { row := pa / 2 ^ 15 % 2 ^ 14, sid := pa / 2 ^ 14 % 2, bank := pa / 2 ^ 12 % 4, bankGroup := pa / 2 ^ 10 % 4,
    column := pa / 2 ^ 5 % 32, byte := pa % 32 }

/-- The address of the fields (R377). -/
def HbmFields.pa (f : HbmFields) : Nat :=
  f.row * 2 ^ 15 + f.sid * 2 ^ 14 + f.bank * 2 ^ 12 + f.bankGroup * 2 ^ 10 + f.column * 2 ^ 5 + f.byte

/-- The bursts that hold `n` bytes of a pseudo-channel, by their addresses in the store: BYTE field 0 (R377). -/
def burstsOf (addr n : Nat) : List Nat :=
  if n = 0 then [] else (rangeFrom (addr / 32) ((addr + n - 1) / 32 + 1 - addr / 32)).map (32 * ·)

/-! ## Placement -/

/-- The pseudo-channels of a scope that are fitted and not retired, ascending (R379): the stack of a die, or both. -/
def State.channelSet (s : State) (global : Bool) (east : Bool) : List Nat :=
  (List.range s.ctl.part.pchs).filter (fun n =>
    (global || (decide (32 ≤ n) == east)) && !s.retired Unit.pch n)

/-- The view a ring belongs to, by the values a lookup gives (R398, R552): image, comet, track and crop rings by number,
stream rings by their stream's VIEW. -/
def ringViewBy (num : Nat → Nat) (r : Nat) : Nat := if 4 ≤ r ∧ r ≤ 11 then num (Obj.strView (r - 4)) else r % 4

/-- Whether LOCAL means the stack of die E for a ring (R379). -/
def ringEastBy (num : Nat → Nat) (r : Nat) : Bool :=
  let v := ringViewBy num r
  let p := num (Obj.viewFirstPort v)
  viewConfiguredBy num v && decide (6 ≤ p) && decide (p < 12)

/-- What of a ring's configuration places it (R401): SIZE, SCOPE, its stack, GRAIN, MODE. -/
def ringConfigBy (num : Nat → Nat) (r : Nat) : Nat × Nat × Bool × Nat × Nat :=
  (num (Obj.ringSize r), num (Obj.ringScope r), ringEastBy num r, num (Obj.ringGrain r), num (Obj.ringMode r))

/-- The highest end of the rings already placed on a channel of a set (R401). -/
def placeBase (placed : List RingPlan) (channels : List Nat) : Nat :=
  placed.foldl (fun b q =>
    if q.enabled ∧ q.channels.any (fun c => channels.contains c) then Nat.max b (q.base + q.share) else b) 0x400000

/-- A ring placed after those before it (R401). -/
def State.placeRing (s : State) (num : Nat → Nat) (placed : List RingPlan) (r : Nat) : RingPlan :=
  let size := num (Obj.ringSize r)
  let grain := num (Obj.ringGrain r)
  let channels := s.channelSet (num (Obj.ringScope r) = 1) (ringEastBy num r)
  if size = 0 then RingPlan.off
  else if channels = [] ∨ grain = 0 then { RingPlan.off with enabled := true, grain := grain }
  else
    { enabled := true, grain := grain, channels := channels, share := ceilDiv size (channels.length * grain) * grain,
      base := placeBase placed channels, hold := num (Obj.ringMode r) = 1 }

/-- All rings placed in ring-number order (R401). -/
def State.placeRings (s : State) (num : Nat → Nat) : List RingPlan :=
  (List.range 24).foldl (fun placed r => placed ++ [s.placeRing num placed r]) []

def RingPlan.cap (q : RingPlan) : Nat := q.share * q.channels.length

/-- The bytes of an image-ring record and its slot's stride (R403). -/
def imageRecordBytes (width : Nat) : Nat := 32 + 8 * width + ceilDiv width 8
def imageStride (width : Nat) : Nat := ceilDiv (imageRecordBytes width) 256 * 256

/-- Whether a number is a power of two from 2^8 to 2^16 (R401). -/
def grainOk (g : Nat) : Bool := (List.range 9).any (fun k => g = 2 ^ (8 + k))

/-- Check 25 for one ring (R401). -/
def ringPlanOk (q : RingPlan) (r width : Nat) : Bool :=
  !q.enabled || (q.channels ≠ [] && grainOk q.grain && decide (q.base + q.share ≤ 0x20000000) &&
    (decide (4 ≤ r) || decide (256 ≤ q.cap / imageStride width)))

/-- A ring restarted empty with a placement (R398, R402). -/
def Ring.restart (x : Ring) (q : RingPlan) : Ring :=
  { x with plan := q, writePtr := 0, readPtr := 0, slots := [], stride := 0, writing := [], reshape := false, next := none }

/-- A placement as it comes into force: a channel that has retired since is not in its set, and its share stays (R398). -/
def State.livePlan (s : State) (q : RingPlan) : RingPlan :=
  let chans := q.channels.filter (fun c => !s.retired Unit.pch c)
  { q with channels := chans, enabled := q.enabled && decide (chans ≠ []) }

/-- The reshape of R398: the retired channels leave the set, the share stays; a placement that waits goes on waiting. -/
def State.reshapeRing (s : State) (r : Nat) : State :=
  let x := s.ring r
  if x.reshape then
    let chans := (s.livePlan x.plan).channels
    let s1 := (s.modRing r (fun y => { y.restart (s.livePlan y.plan) with next := y.next })).bump (Obj.ringResets r)
    let q := (s1.ring r).plan
    let width := (s.geometry s.ctl.staging.lastEpoch (r % 4)).width
    if x.plan.enabled ∧ (chans = [] ∨ (r < 4 ∧ q.cap / imageStride width < 256)) then s1.alert Alert.ring else s1
  else s

/-! ## Access from inside the module -/

/-- A pseudo-channel as a request finds it at clock `clk` (R389 to R391): the channel that leaves power-down or self-refresh for it, and
whether the request waits for self-refresh (`leaving`: D counts from the end of the exit). -/
def Pch.woken (x : Pch) (clk : Nat) : Pch × Bool :=
  let leaving := decide (x.state = 0) && decide (clk < x.busyUntil) && decide (x.debtClk = x.busyUntil)
  if x.state = 2 then
    let t := Nat.max clk (x.srEntered + 1000) + 400
    ({ x with state := 0, busyUntil := t, debt := 0, debtClk := t }, true)
  else if x.state = 1 then ({ x with state := 0, busyUntil := Nat.max clk x.busyUntil + 20 }, false)
  else (x, leaving)

/-- A request of a port ends at clock `t`, at an age (R384, R391): counted in MISSED at urgency level 3, and in SR_WAITS where it waited
for self-refresh; in DOZE the next try at self-refresh waits PD_TIMER. -/
def State.hbmServed (s : State) (port n age t : Nat) (waitedSr : Bool) : State :=
  let missed := decide (s.num (Obj.hbmTarget port) ≤ age)
  let s1 := ((s.bumpIf missed (Obj.hbmMissed port)).bumpIf (missed && waitedSr) Obj.hbmSrWaits).peak (Obj.hbmLatencyMax port) age
  s1.modPch n (fun x => { x with
    lastUse := Nat.max x.lastUse t,
    srRetry := if s1.power.state = .doze ∨ s1.power.state = .deep then t + s1.num Obj.hbmPdTimer else x.srRetry })

/-- An access of one of the module's own users through its port (R381; log entry 70): one request to each pseudo-channel it reaches. It
wakes the channel and waits until that takes commands; a retired channel gets no command (R398). -/
def State.hbmTouch (s : State) (port : Nat) (channels : List Nat) : State :=
  channels.foldl (fun (acc : State) n =>
    if acc.retired Unit.pch n then acc
    else
      let q := (acc.pch n).woken acc.clk
      let t := Nat.max acc.clk q.1.busyUntil
      (acc.modPch n (fun _ => q.1)).hbmServed port n (t - acc.clk) t q.2) s

/-- Whether an access of a port to any of some bursts has ended with DATA_ERROR, and the state in which its requester has found it
(R394). -/
def State.hbmFailed (s : State) (port : Nat) (bursts : List Nat) : State × Bool :=
  let hit := fun (q : Nat × Nat) => decide (q.1 = port) && bursts.contains q.2
  if s.hbm.failed.any hit then (s.modHbm (fun h => { h with failed := h.failed.filter (fun q => !hit q) }), true) else (s, false)

/-- Whether an access of a port to a burst has ended with DATA_ERROR (R394). -/
def State.burstFailed (s : State) (port addr : Nat) : Bool := s.hbm.failed.contains (port, addr / 32 * 32)

/-! ## Ring contents -/

/-- The pseudo-channel and address of a ring's byte offset (R380). -/
def RingPlan.byteAt (q : RingPlan) (a : Nat) : Nat × Nat :=
  let u := a / q.grain
  let n := q.channels.length
  (q.channels.getD (u % n) 0, q.base + u / n * q.grain + a % q.grain)

/-- The address in the store of a ring's byte offset. -/
def RingPlan.addr (q : RingPlan) (a : Nat) : Nat := let x := q.byteAt a; hbmAddr x.1 x.2

/-- Bytes written into a ring from an offset on, wrapping at its capacity (R402). -/
def RingPlan.write (q : RingPlan) (m : Mem) (a : Nat) (b : Bytes) : Mem :=
  (List.zip (List.range b.length) b).foldl (fun m p => Mem.write m (q.addr ((a + p.1) % q.cap)) p.2) m

/-- Bytes of a ring from an offset on. -/
def RingPlan.read (q : RingPlan) (m : Mem) (a n : Nat) : Bytes :=
  (List.range n).map (fun k => Mem.read m (q.addr ((a + k) % q.cap)))

/-- The pseudo-channels that hold `n` bytes of a ring from an offset on, each once (R380). -/
def RingPlan.channelsAt (q : RingPlan) (a n : Nat) : List Nat :=
  if q.cap = 0 ∨ n = 0 then []
  else ((rangeFrom (a / q.grain) ((a + n - 1) / q.grain + 1 - a / q.grain)).map (fun u =>
    (q.byteAt (u * q.grain % q.cap)).1)).eraseDups

/-- The bursts of `n` bytes of a ring from an offset on, by their addresses in the store. -/
def RingPlan.burstsAt (q : RingPlan) (a n : Nat) : List Nat :=
  if q.cap = 0 then [] else (burstsOf a n).map (fun o => q.addr (o % q.cap) / 32 * 32)

/-- Whether any byte of a span lies on a retired channel (R398). -/
def State.ringDead (s : State) (q : RingPlan) (a n : Nat) : Bool :=
  (List.range n).any (fun k => s.retired Unit.pch (q.byteAt ((a + k) % q.cap)).1)

/-- Bytes stored in a ring; what the bursts held before is gone, and with it what an access found wrong there. -/
def State.ringStore (s : State) (q : RingPlan) (a : Nat) (b : Bytes) : State :=
  let bursts := q.burstsAt a b.length
  s.modHbm (fun h => { h with
    mem := q.write h.mem a b, failed := if h.failed = [] then [] else h.failed.filter (fun f => !bursts.contains f.2) })

/-- A record written to a ring that is no image ring (R385, R398, R402): whether it was written; a record that does not
fit in HOLD or maps to a retired channel is dropped and counted. A ring that is off takes nothing. -/
def State.ringRecord (s : State) (r : Nat) (b : Bytes) : State × Bool :=
  let x := s.ring r
  let q := x.plan
  if !q.enabled then (s, false)
  else
    let a := x.writePtr % q.cap
    if q.cap = 0 ∨ (q.hold ∧ q.cap < x.writePtr + b.length - x.readPtr) ∨ s.ringDead q a b.length then
      (s.bump (Obj.ringDropped r), false)
    else
      (((s.hbmTouch 0 (q.channelsAt a b.length)).ringStore q a b).modRing r (fun y =>
        { y with writePtr := (y.writePtr + b.length) % 2 ^ 64 }), true)

/-- The image-ring record of a stitched line (R403). -/
def imageRecord (l : PixLine) (view shift : Nat) : Bytes :=
  let width := l.holes.length
  leBytes 4 l.index ++ leBytes 4 l.time ++ leBytes 2 l.epoch ++ leBytes 1 view ++ leBytes 1 0 ++ leBytes 4 width ++
  leBytes 2 shift ++ zeros 14 ++
  (List.range width).flatMap (fun x => (List.range 4).flatMap (fun b => leBytes 2 (natAt (l.samples.getD b []) x))) ++
  (List.range (ceilDiv width 8)).map (fun i => BitVec.ofNat 8 ((List.range 8).foldl (fun a n =>
    a + (if 8 * i + n < width ∧ l.holes.getD (8 * i + n) true then 2 ^ n else 0)) 0))

/-- When the pseudo-channels of a set take commands again. -/
def State.busyOf (s : State) (channels : List Nat) : Nat := channels.foldl (fun m c => Nat.max m (s.pch c).busyUntil) 0

/-- The bytes of an image-ring record that each region writes (R404): port, first offset, length; the first slice takes the header with
it and the last the hole mask. -/
def Geometry.sliceBytes (g : Geometry) (length : Nat) : List (Nat × Nat × Nat) :=
  let n := g.ports.length
  (List.range n).map (fun k =>
    let lo := if k = 0 then 0 else 32 + 8 * g.sliceStart k
    let hi := if k + 1 = n then length else 32 + 8 * g.sliceEnd k
    (natAt g.ports k, lo, hi - lo))

/-- A stitched line written to its view's image ring (R403, R404): COMPLETE, or MISSING where a byte maps to a retired
channel. A slice whose pseudo-channels take no commands yet waits for them, and its line is WRITING so long. A new stride leaves no slot
where it was: all become EMPTY. -/
def State.imageWrite (s : State) (v : Nat) (g : Geometry) (l : PixLine) (shift : Nat) : State :=
  let x := s.ring v
  let q := x.plan
  let b := imageRecord l v shift
  let stride := ceilDiv b.length 256 * 256
  let depth := q.cap / stride
  if !q.enabled ∨ depth = 0 then s
  else
    let k := l.index % depth
    let dead := s.ringDead q (k * stride) b.length
    let touched := s.hbmTouch 0 (q.channelsAt (k * stride) b.length)
    let waits := ((g.sliceBytes b.length).map (fun t =>
      (l.index, t.1, touched.busyOf (q.channelsAt (k * stride + t.2.1) t.2.2)))).filter (fun t => decide (s.clk < t.2.2))
    let s1 := if dead then s.bump (Obj.ringDropped v) else touched.ringStore q (k * stride) b
    s1.modRing v (fun y =>
      let old := if y.stride = stride then y.slots.filter (fun t => t.1 ≠ k) else []
      { y with stride := stride, slots := (k, l.index, if dead then 3 else 2) :: old,
               writing := (y.writing.filter (fun t => decide (s.clk < t.2.2))) ++ (if dead then [] else waits),
               writePtr := (y.writePtr + stride) % 2 ^ 64 })

/-- The state of the slot that holds a line: 0 when none does; 1 WRITING while a slice of it waits (R404). -/
def Ring.slotState (x : Ring) (clk index : Nat) : Nat :=
  match x.slots.find? (fun t => t.2.1 = index) with
  | some t => if t.2.2 = 2 ∧ x.writing.any (fun q => q.1 = index && decide (clk < q.2.2)) then 1 else t.2.2
  | none => 0

/-- The state of the slot that holds a line of a view now. -/
def State.lineSlot (s : State) (v index : Nat) : Nat := (s.ring v).slotState s.clk index

/-- One pixel of a line in the image ring: four bands, none for a hole, for a MISSING line, and where the burst cannot be
read (R394, R404). -/
def State.imagePixel (s : State) (v index width x : Nat) : Option (List Nat) :=
  let y := s.ring v
  let q := y.plan
  match y.slots.find? (fun t => t.2.1 = index) with
  | none => none
  | some t =>
    let o := t.1 * y.stride
    if t.2.2 ≠ 2 ∨ s.ringDead q (o + 32 + 8 * x) 8 ∨ s.burstFailed 1 (q.addr ((o + 32 + 8 * x) % q.cap)) ∨
        s.burstFailed 1 (q.addr ((o + 32 + 8 * width + x / 8) % q.cap)) then none
    else if bitOf (leNat (q.read s.hbm.mem (o + 32 + 8 * width + x / 8) 1)) (x % 8) then none
    else some ((List.range 4).map (fun b => leNat (q.read s.hbm.mem (o + 32 + 8 * x + 2 * b) 2)))

/-- The bursts of the columns of a line that the crop engine reads: samples and hole mask (R404). -/
def Ring.windowBursts (y : Ring) (index width x n : Nat) : List Nat :=
  match y.slots.find? (fun t => t.2.1 = index) with
  | some t =>
    let o := t.1 * y.stride + 32
    y.plan.burstsAt (o + 8 * x) (8 * n) ++ y.plan.burstsAt (o + 8 * width + x / 8) ((x + n - 1) / 8 + 1 - x / 8)
  | none => []

/-- The crop engine's reads of the lines of a window (R381, R404): what CROP_RD found wrong there has been found. -/
def State.cropRead (s : State) (v width : Nat) (w : Nat × Nat × Nat × Nat) : State :=
  let y := s.ring v
  (List.range w.2.2.2).foldl (fun (acc : State) k =>
    let bursts := y.windowBursts ((w.2.2.1 + k) % wrap32) width w.1 w.2.1
    (acc.hbmTouch 1 (bursts.map (· / 2 ^ 29)).eraseDups).hbmFailed 1 bursts |>.1) s

/-- Whether a line of a view is still to be stitched. -/
def State.lineToCome (s : State) (v index : Nat) : Bool :=
  match (s.view v).nextStitch with | some j => decide (0 ≤ diff32 index j) | none => false

/-- The line whose write a region drops (R385): the oldest whose slice waits there. The command states that four lines have waited four
line periods; where the model holds no slice of the region back, the oldest of the last four lines stitched is it (log entry 71). -/
def State.oldestWaiting (s : State) (v region j : Nat) : Nat :=
  match (s.ring v).writing.find? (fun t => t.2.1 = region && decide (s.clk < t.2.2)) with
  | some t => t.1
  | none => (j + wrap32 - 4) % wrap32

/-- LINE_WRITE_DROP: of the four lines that wait at a region's port the oldest is dropped and MISSING (R385). -/
def State.lineWriteDrop (s : State) (region : Nat) : State :=
  match s.viewOfPort region, (s.viewOfPort region).bind (fun v => (s.view v).nextStitch) with
  | some v, some j =>
    let index := s.oldestWaiting v region j
    if s.lineSlot v index = 0 then s
    else (s.modRing v (fun y => { y with
      slots := y.slots.map (fun t => if t.2.1 = index then (t.1, t.2.1, 3) else t),
      writing := y.writing.filter (fun t => t.1 ≠ index) })).bump (Obj.ringDropped v)
  | _, _ => s

/-! ## Static content -/

/-- Whether a view's histograms lie on a stack (R399): that of its first port, W without one. -/
def State.histStack (s : State) (v : Nat) : Nat := if ringEastBy s.num v then 1 else 0

/-- The active channels of a stack. -/
def State.stackChannels (s : State) (k : Nat) : Nat := (s.channelSet false (k = 1)).length

/-- Bytes of a stack's static content besides histograms and the BLOB buffer, of the BLOB buffer, of the histograms
(R399). -/
def staticFixed (k : Nat) : Nat := if k = 0 then 16 * 2 ^ 20 else 12 * 2 ^ 20
def staticBlob (k : Nat) : Nat := if k = 0 then 16 * 2 ^ 20 else 0

/-- The histogram slots that lie on a stack, in the order they are given up: view D slot 3 downward (R400). -/
def State.histOrder (s : State) (k : Nat) : List (Nat × Nat) :=
  [3, 2, 1, 0].flatMap (fun v => if s.histStack v = k then [(v, 3), (v, 2), (v, 1), (v, 0)] else [])

/-- The histogram slots a stack of `n` active channels gives up (R400). -/
def State.givenUpAt (s : State) (k n : Nat) : List (Nat × Nat) :=
  let l := s.histOrder k
  let need := staticFixed k + staticBlob k + l.length * 2 ^ 21
  l.take (ceilDiv (need - n * 2 ^ 22) (2 ^ 21))

/-- The histogram slots a stack has given up (R400). -/
def State.givenUp (s : State) (k : Nat) : List (Nat × Nat) := s.givenUpAt k (s.stackChannels k)

/-- Whether a histogram slot has been given up (R400). -/
def State.histGone (s : State) (v slot : Nat) : Bool := (s.givenUp (s.histStack v)).contains (v, slot)

/-- The BLOB transfer buffer that remains (R400). -/
def State.blobBuffer (s : State) : Nat := min (staticBlob 0) (s.stackChannels 0 * 2 ^ 22 - staticFixed 0)

/-- The histogram slots a stack holds, in the order of their places (R399, R400). -/
def State.histHeld (s : State) (k : Nat) : List (Nat × Nat) :=
  ((s.histOrder k).filter (fun q => !(s.givenUp k).contains q)).reverse

/-- Where the transmit queue of an Ethernet port begins in the static content of stack W (R399, log entry 72). -/
def State.txBase (s : State) (p : Nat) : Nat :=
  12 * 2 ^ 20 + s.blobBuffer + (s.histHeld 0).length * 2 ^ 21 + p * 2 ^ 21

/-- The pseudo-channel and address of a byte of a stack's static content: 4 KiB in turn on each channel that is not retired (R399). -/
def State.staticAt (s : State) (k off : Nat) : Nat × Nat :=
  let chans := s.channelSet false (k = 1)
  (chans.getD (off / 4096 % chans.length) 0, off / 4096 / chans.length * 4096 + off % 4096)

/-- The pseudo-channels of `n` bytes of a stack's static content. -/
def State.staticChannels (s : State) (k off n : Nat) : List Nat :=
  ((rangeFrom (off / 4096) (Nat.min 64 ((off + n + 4095) / 4096 - off / 4096))).map (fun u => (s.staticAt k (u * 4096)).1)).eraseDups

/-- The offset in a stack's static content of an address in the static part, and the stack. -/
def State.staticOffset (s : State) (pch pa : Nat) : Nat × Nat :=
  let chans := s.channelSet false (decide (32 ≤ pch))
  (pch / 32, (pa / 4096 * chans.length + chans.findIdx (· = pch)) * 4096 + pa % 4096)

/-- A byte of a histogram slot: 2^20 counters of 16 bits (R265). -/
def histByte (h : List (Nat × Nat)) (o : Nat) : Byte := BitVec.ofNat 8 (histAt h (o / 2) / 256 ^ (o % 2))

/-- A byte of a stack's static content (R399; the order of its table, log entry 72): the banks' master copies, the model slots, the BLOB
transfer buffer, the histograms. What the transmit queues hold is in the frames that wait (R459). -/
def State.staticByte (s : State) (k off : Nat) : Byte :=
  let m := 2 ^ 20
  if off < 4 * m then Mem.read ((s.view (off / m)).bank (off / 2 ^ 19 % 2)).table (off % 2 ^ 19)
  else if off < 12 * m then (s.slots.getD ((off - 4 * m) / m) Slot.reset).model.getD (off % m) 0
  else
    let h := if k = 0 then 12 * m + s.blobBuffer else 12 * m
    if off < h then
      match s.ctl.transfer with
      | some t => if t.received.contains ((off - 12 * m) / 128) then Mem.read t.buffer (off - 12 * m) else 0
      | none => 0
    else
      match (s.histHeld k)[(off - h) / 2 ^ 21]? with
      | some q => histByte ((s.view q.1).hist.getD q.2 []) ((off - h) % 2 ^ 21)
      | none => 0

/-- A byte of a pseudo-channel as a read finds it (R378): static content below 4 MiB, the ring part above. -/
def State.hbmByte (s : State) (pch pa : Nat) : Byte :=
  if pa < 2 ^ 22 then let q := s.staticOffset pch pa; s.staticByte q.1 q.2 else Mem.read s.hbm.mem (hbmAddr pch pa)

/-- Whether the other stack holds a copy of a stack's static content at an offset (R399). -/
def State.hasReplica (s : State) (off : Nat) : Bool := decide (s.ctl.part.stacks = 2) && decide (off < 12 * 2 ^ 20)

/-- The regions' copies of a bank are loaded from, and checked against, the master copies of their dies, through CTL (R256, R381, R400). -/
def State.tableReads (s : State) (v k : Nat) : State :=
  (List.range s.ctl.part.stacks).foldl (fun (acc : State) d =>
    if (s.portsOfView v).any (fun r => decide (r / 6 = d) || decide (s.ctl.part.stacks = 1)) then
      acc.hbmTouch 6 (acc.staticChannels d ((2 * v + k) * 2 ^ 19) (2 ^ 19))
    else acc) s

/-- STATIC_FREE of a stack (R406). -/
def State.staticFree (s : State) (k : Nat) : Nat :=
  s.stackChannels k * 2 ^ 22 -
    (staticFixed k + (if k = 0 then s.blobBuffer else 0) + ((s.histOrder k).length - (s.givenUp k).length) * 2 ^ 21)

/-- Whether a stack is lost: no channel is left, or its static content no longer fits (R397, R400). -/
def State.stackLost (s : State) (k : Nat) : Bool :=
  decide (k < s.ctl.part.stacks) && decide (s.stackChannels k * 2 ^ 22 < staticFixed k)

/-- The re-lay of static content after a retirement (R400): histogram slots of the stack that were still held are
cleared and counted; on stack W the blocks of the BLOB buffer that lay on the channel are no longer received. Static content lies in the order of R399;
`position` is the channel's place among the `n` channels before it retired. -/
def State.relayStatic (s : State) (k position n : Nat) : State :=
  let held := (s.histOrder k).filter (fun q => !(s.givenUpAt k n).contains q)
  let s1 := held.foldl (fun acc q =>
    (acc.modView q.1 (fun w => { w with hist := w.hist.set q.2 [] })).bump Obj.hbmHistLost) s
  if k = 0 then
    { s1 with ctl := { s1.ctl with transfer := s1.ctl.transfer.map (fun t =>
      { t with received := t.received.filter (fun b => (12 * 2 ^ 20 + 128 * b) / 4096 % n ≠ position) }) } }
  else s1

/-! ## Errors and retirement -/

/-- The upsets of a unit in its window now. -/
def State.windowCount (s : State) (unit inst window : Nat) : Nat :=
  ((s.ctl.faults.times unit inst).filter (fun t => decide (s.clk ≤ t + window))).length

/-- The 24 bytes of R395. -/
def State.hbmDetail (s : State) (pch kind port pa syndrome word upsets : Nat) : Bytes :=
  leBytes 4 s.shortNow ++ leBytes 1 pch ++ leBytes 1 kind ++ leBytes 1 port ++ leBytes 1 0 ++ leBytes 4 (pa / 32 * 32) ++
  leBytes 2 (syndrome % 256 + 256 * (word % 8)) ++ zeros 2 ++ leBytes 4 upsets ++ zeros 4

/-- The ring whose area holds an address. -/
def State.ringAt (s : State) (pch pa : Nat) : Option Nat :=
  (List.range 24).find? (fun r =>
    let q := (s.ring r).plan
    q.enabled && q.channels.contains pch && decide (q.base ≤ pa) && decide (pa < q.base + q.share))

/-- The byte offset in a ring of an address. -/
def RingPlan.offsetOf (q : RingPlan) (pch pa : Nat) : Nat :=
  let k := q.channels.findIdx (· = pch)
  ((pa - q.base) / q.grain * q.channels.length + k) * q.grain + (pa - q.base) % q.grain

/-- The frame of HSP data that holds the byte `o` bytes after the head of a transmit queue. -/
def frameAt : List TxFrame → Nat → Option TxFrame
  | [], _ => none
  | f :: r, o => if o < f.hsp then some f else frameAt r (o - f.hsp)

/-- The record a datagram belongs to: its source and the number of the record's first datagram (R458). -/
def recordOf (f : TxFrame) : Option (Nat × Nat) :=
  match f.what with
  | .hsp _ _ h _ => some (u8At h 2, (u32At h 4 + wrap32 - u32At h 8 / 1408) % wrap32)
  | _ => none

/-- A record for HSP that STREAM_RD cannot read is dropped, and counted in LINES_DROPPED of its stream (R394). -/
def State.dropRecord (s : State) (pch pa : Nat) : State :=
  let off := (s.staticOffset pch pa).2
  (List.range 2).foldl (fun (acc : State) p =>
    let x := acc.eth p
    let base := acc.txBase p
    if pch < 32 ∧ base ≤ off ∧ off < base + 2 ^ 21 then
      match frameAt x.queue ((off - base + 2 ^ 21 - x.txHead) % 2 ^ 21) with
      | some f =>
        let s1 := acc.modEth p (fun y => { y with queue := y.queue.filter (fun g => recordOf g ≠ recordOf f) })
        match recordOf f with
        | some (k, _) => s1.bumpIf (decide (k < 8)) (Obj.strLinesDropped k)
        | none => s1
      | none => acc
    else acc) s

/-- A rewrite of a burst as it stands, asked for through CTL (R392, R400). -/
def State.hbmRewrite (s : State) (n pa t : Nat) : State :=
  if s.retired Unit.pch n then s
  else s.modHbm (fun h => { h with queue := h.queue ++
    [{ port := 6, pch := n, pa := pa / 32 * 32, data := some [], arrived := t, outcome := .clean, waitedSr := false }] })

/-- What DATA_ERROR costs the requester of a port (R394): a line of an image ring, a record of another ring, a record for
HSP; static content is read from the replica and written again from it (R400). The other requesters find it at their own
accesses. -/
def State.dataError (s : State) (port pch pa : Nat) : State :=
  let mark := s.modHbm (fun h => { h with failed := (port, hbmAddr pch pa / 32 * 32) :: h.failed })
  if pa < 2 ^ 22 then
    if port = 2 then s.dropRecord pch pa
    else if port = 4 ∨ port = 5 ∨ (port = 6 ∧ !s.hasReplica (s.staticOffset pch pa).2) then mark
    else s.hbmRewrite pch pa s.clk
  else
    match s.ringAt pch pa with
    | none => if 3 ≤ port ∧ port ≤ 5 then mark else s
    | some r =>
      if port = 0 then
        if r < 4 then
          let x := s.ring r
          let k := if x.stride = 0 then 0 else x.plan.offsetOf pch pa / x.stride
          s.modRing r (fun y => { y with slots := y.slots.map (fun t => if t.1 = k then (t.1, t.2.1, 3) else t) })
        else s.bump (Obj.ringDropped r)
      else if port = 2 ∧ 4 ≤ r ∧ r ≤ 11 then s.bump (Obj.strLinesDropped (r - 4))
      else if port = 1 ∨ (3 ≤ port ∧ port ≤ 5) then mark
      else s

/-- A request to a retired pseudo-channel (R398): a write is dropped, an image line's under R385; a read ends with DATA_ERROR. -/
def State.deadAccess (s : State) (port pch pa : Nat) (write : Bool) : State :=
  match s.ringAt pch pa with
  | some r => (s.dataError port pch pa).bumpIf (write && port = 0 && decide (r < 4)) (Obj.ringDropped r)
  | none => if write then s else s.dataError port pch pa

/-- The requests that wait at a pseudo-channel that has just retired end without a command (R397, R398). -/
def State.endRequests (s : State) (n : Nat) : State :=
  let mine := s.hbm.queue.filter (fun r => r.pch = n)
  mine.foldl (fun (acc : State) r => acc.deadAccess r.port n r.pa r.data.isSome)
    (s.modHbm (fun h => { h with queue := h.queue.filter (fun r => r.pch ≠ n) }))

/-- A pseudo-channel retired (R397): its static content is re-laid and the rings that use it wait for their reshape. -/
def State.retirePch (s : State) (n cause : Nat) (detail : Bytes) : State :=
  if s.retired Unit.pch n then s
  else
    let k := n / 32
    let before := s.channelSet false (k = 1)
    let s1 := ((s.retire Unit.pch n cause detail).keepOwn (Obj.pchRetireCause n) (.num cause)).modPch n (fun x => { x with state := 3 })
    let s2 := s1.relayStatic k (before.findIdx (· = n)) before.length
    (s2.modHbm (fun h => { h with rings := h.rings.map (fun r =>
      if r.plan.channels.contains n then { r with reshape := true } else r) })).endRequests n

/-- The corrected errors of a pseudo-channel in its window, this one included (R397). -/
def State.correctedNow (s : State) (n : Nat) : List Nat :=
  s.clk :: ((assoc s.ctl.faults.corrected n).getD []).filter (fun t => decide (s.clk ≤ t + 10000000000))

/-- A corrected error (R392, R397). -/
def State.hbmCorrected (s : State) (n port pa syndrome : Nat) : State :=
  let ts := s.correctedNow n
  let s1 := s.bump (Obj.pchCorrected n)
  let s2 := { s1 with ctl := { s1.ctl with faults := { s1.ctl.faults with
    corrected := assocPut s1.ctl.faults.corrected n ts } } }
  let d := s2.hbmDetail n 3 port pa syndrome (syndrome / 256) (s2.windowCount Unit.pch n 10000000000)
  let s3 := s2.putVal Obj.hbmLastError (.bytes d)
  if 1000 ≤ ts.length then s3.retirePch n 2 d else s3

/-- An uncorrectable error or a failed parity retry: logged, counted, an upset; the 4th within 10 s retires the channel
(R392, R393, R397). -/
def State.hbmUpset (s : State) (n kind port pa syndrome word : Nat) : State :=
  let d := s.hbmDetail n kind port pa syndrome word (s.windowCount Unit.pch n 10000000000 + 1)
  let s1 := (if kind = 1 then s.bump (Obj.pchUncorrectable n) else s).putVal Obj.hbmLastError (.bytes d)
  let s2 := s1.upset Unit.pch n 10000000000 d
  if s2.overThreshold Unit.pch n 4 then s2.retirePch n 1 d else s2

/-! ## Requests -/

/-- The urgency level of an age against a port's target (R382). -/
def urgency (age target : Nat) : Nat :=
  if 2 * age < target then 0 else if 4 * age < 3 * target then 1 else if age < target then 2 else 3

/-- The bytes of a request written, in bursts of 32 bytes whose other bytes stay (R377); no data is a read, no bytes a burst written again
as it stands (R392). -/
def HbmReq.apply (r : HbmReq) (m : Mem) : Mem :=
  match r.data with | some b => Mem.writeBytes m (hbmAddr r.pch r.pa) b | none => m

/-- A request is answered at clock `t` (R384, R391 to R394): the data outcomes are a read's, a parity error either's. -/
def State.hbmComplete (s : State) (r : HbmReq) (t : Nat) : State :=
  let s1 := s.hbmServed r.port r.pch (t - r.arrived) t r.waitedSr
  let bursts := burstsOf (hbmAddr r.pch r.pa) ((r.data.getD []).length)
  let good := s1.modHbm (fun h => { h with
    mem := r.apply h.mem, failed := if h.failed = [] then [] else h.failed.filter (fun f => !bursts.contains f.2) })
  match r.outcome with
  | .clean => good
  | .corrected syn =>
    if r.data.isSome then good else (good.hbmCorrected r.pch r.port r.pa syn).hbmRewrite r.pch r.pa t
  | .parityRetried => good.bump (Obj.pchParityRetries r.pch)
  | .uncorrectable syn =>
    if r.data.isSome then good
    else (s1.hbmUpset r.pch 1 r.port r.pa syn (syn / 256)).dataError r.port r.pch r.pa
  | .parityFailed => ((s1.bump (Obj.pchParityRetries r.pch)).hbmUpset r.pch 2 r.port r.pa 0 0).dataError r.port r.pch r.pa

/-- Whether request `a` goes before `b` at clock `t` (R382): urgency, then port, then age. -/
def State.hbmBefore (s : State) (t : Nat) (a b : HbmReq) : Bool :=
  let ua := urgency (t - a.arrived) (s.num (Obj.hbmTarget a.port))
  let ub := urgency (t - b.arrived) (s.num (Obj.hbmTarget b.port))
  decide (ub < ua) || (decide (ua = ub) && (decide (a.port < b.port) || (decide (a.port = b.port) && decide (a.arrived ≤ b.arrived))))

/-- The time a request's bursts take on the pseudo-channel: 25.6 GB/s, in whole ns (log entry 70). -/
def HbmReq.time (r : HbmReq) : Nat := ceilDiv (Nat.max 32 (r.data.getD []).length * 10) 256

/-- The request that a pseudo-channel's scheduler picks next, and the command slot in which it does (R382): the slot comes when the
channel takes commands and a request is there. -/
def State.hbmPick (s : State) (n : Nat) : Option (HbmReq × Nat) :=
  match s.hbm.queue.filter (fun r => r.pch = n) with
  | [] => none
  | r :: rest =>
    let t := Nat.max (s.pch n).busyUntil (rest.foldl (fun m q => Nat.min m q.arrived) r.arrived)
    match (r :: rest).filter (fun q => decide (q.arrived ≤ t)) with
    | [] => none
    | q :: others => some (others.foldl (fun best x => if s.hbmBefore t best x then best else x) q, t)

/-- The requests at a pseudo-channel whose command slots come before clock `limit`, one after the other (R382); at most `k` of them. -/
def State.hbmServe (n limit : Nat) : Nat → State → State
  | 0, s => s
  | k + 1, s =>
    match s.hbmPick n with
    | none => s
    | some (r, t) =>
      if limit ≤ t then s
      else
        hbmServe n limit k (((s.modHbm (fun h => { h with queue := h.queue.erase r })).modPch n (fun x =>
          { x with busyUntil := t + r.time })).hbmComplete r (t + r.time))

/-- Every pseudo-channel brought up to the present: what had its command slot before now has been served. -/
def State.hbmSettle (s : State) : State :=
  if s.hbm.queue = [] then s
  else (List.range 64).foldl (fun (acc : State) n => State.hbmServe n s.clk (2 * acc.hbm.queue.length) acc) s

/-- The requests at a pseudo-channel end before it is drained (R390 step 2). -/
def State.hbmDrain (s : State) (n : Nat) : State :=
  State.hbmServe n (Nat.max s.clk (s.pch n).busyUntil + 1000000) (2 * s.hbm.queue.length) s

/-- The refresh interval and the allowed debt of a pseudo-channel (R386, R387). -/
def State.refreshT (s : State) (n : Nat) : Nat := if (s.stack (n / 32)).doubled then 1950 else 3900
def State.refreshL (s : State) (n : Nat) : Nat := 8 * s.refreshT n

/-- The refresh debt now (R387, R390): held at 0 in self-refresh. -/
def State.debt (s : State) (n : Nat) : Int :=
  let x := s.pch n
  if x.state = 2 then 0 else x.debt + ((s.clk - x.debtClk : Nat) : Int)

/-- HBM_REQUEST: a request enters a port (R382, R389, R391, R398): one to a retired channel ends without a command; one in
power-down or self-refresh waits for the exit, and so does one that comes during the exit. A channel that takes commands serves it. -/
def State.hbmRequest (s : State) (port pch pa : Nat) (data : Option Bytes) (outcome : HbmOutcome) : State :=
  if s.retired Unit.pch pch then s.deadAccess port pch pa data.isSome
  else
    let q := (s.pch pch).woken s.clk
    let r : HbmReq := { port := port, pch := pch, pa := pa / 32 * 32, data := data, arrived := s.clk, outcome := outcome,
                        waitedSr := q.2 }
    State.hbmServe pch (s.clk + 1) (2 * (s.hbm.queue.length + 1))
      ((s.modPch pch (fun _ => q.1)).modHbm (fun h => { h with queue := h.queue ++ [r] }))

/-! ## Refresh and low power -/

/-- REFRESH: an urgent refresh with D above L, otherwise a routine one with D at least T and no request of urgency 2 or 3
waiting (R387, R388). It takes 350 ns; in power-down it restarts the timer (R389). -/
def State.hbmRefresh (s : State) (n : Nat) : State :=
  let x := s.pch n
  let d := s.debt n
  let urgent := decide ((s.refreshL n : Int) < d)
  let waiting := s.hbm.queue.any (fun r => r.pch = n && decide (2 ≤ urgency (s.clk - r.arrived) (s.num (Obj.hbmTarget r.port))))
  if x.state = 2 ∨ s.clk < x.busyUntil then s
  else if urgent ∨ ((s.refreshT n : Int) ≤ d ∧ !waiting) then
    (s.modPch n (fun y => { y with
      debt := d - s.refreshT n, debtClk := s.clk, busyUntil := s.clk + 350, lastUse := s.clk,
      state := if y.state = 1 then 0 else y.state })).bumpIf urgent (Obj.pchUrgentRefreshes n)
  else s

/-- POWER_DOWN: an idle pseudo-channel enters power-down after PD_TIMER (R389). -/
def State.hbmPowerDown (s : State) (n : Nat) : State :=
  let x := s.pch n
  let timer := s.num Obj.hbmPdTimer
  if x.state = 0 ∧ timer ≠ 0 ∧ x.lastUse + timer ≤ s.clk ∧ x.busyUntil ≤ s.clk ∧ s.debt n < s.refreshT n ∧
      !s.hbm.queue.any (fun r => r.pch = n) then
    s.modPch n (fun y => { y with state := 1 })
  else s

/-- A drained pseudo-channel that is not retired in self-refresh (R390): its stack reads SELF_REFRESH with the last of them. -/
def State.enterSelfRefresh (s : State) (n : Nat) : State :=
  if 2 ≤ (s.pch n).state then s
  else
    let s1 := s.modPch n (fun y => { y with state := 2, debt := 0, debtClk := s.clk, srEntered := s.clk })
    let k := n / 32
    if (rangeFrom (32 * k) 32).all (fun c => 2 ≤ (s1.pch c).state) then s1.modStack k (fun y => { y with state := 2 }) else s1

/-- SELF_REFRESH_ENTRY: a drained pseudo-channel enters self-refresh in DOZE or DEEP (R390), after a request that came first
only with PD_TIMER more of idleness (R391). -/
def State.selfRefresh (s : State) (n : Nat) : State :=
  let x := s.pch n
  if (s.power.state = .doze ∨ s.power.state = .deep) ∧ x.state ≤ 1 ∧ x.busyUntil ≤ s.clk ∧ x.srRetry ≤ s.clk ∧
      !s.hbm.queue.any (fun r => r.pch = n) then s.enterSelfRefresh n
  else s

/-- Every pseudo-channel in self-refresh leaves it, and its debt counts from 0 (R390 steps 5 and 6). -/
def State.leaveSelfRefresh (s : State) : State :=
  s.modHbm (fun h => { h with
    pchs := h.pchs.map (fun x =>
      if x.state = 2 then
        let t := Nat.max s.clk (x.srEntered + 1000) + 400
        { x with state := 0, debt := 0, debtClk := t, busyUntil := t, lastUse := t, srRetry := 0 }
      else { x with srRetry := 0 }),
    dieStacks := h.dieStacks.map (fun k => if k.state = 2 then { k with state := 1 } else k) })

/-- STACK_TEMPERATURE: the refresh interval follows the reading (R386); the debt keeps its value (R388). -/
def State.stackTemperature (s : State) (k : Nat) (celsius : Int) : State :=
  let x := s.stack k
  let d := if x.doubled then decide (83 < celsius) else decide (85 < celsius)
  (s.modStack k (fun y => { y with celsius := celsius, doubled := d })).bumpIf (d ≠ x.doubled) (objKey (0x7010 + k) 4)

/-- When the patrol scrub is to read a pseudo-channel's next burst: 2^24 bursts spread evenly over SCRUB_PERIOD (R396). -/
def State.scrubDue (s : State) (n : Nat) : Nat :=
  let x := s.pch n
  x.scrubFrom + x.scrubNext / 32 * (s.num Obj.hbmScrubPeriod * 3600000000000) / 2 ^ 24

/-- PATROL_SCRUB: the next burst of an active pseudo-channel is read through CTL and corrected, once its time in the round has come; the
last burst begins the next round (R396). -/
def State.patrolScrub (s : State) (n : Nat) (outcome : HbmOutcome) : State :=
  let x := s.pch n
  if s.num Obj.hbmScrubPeriod = 0 ∨ 2 ≤ x.state ∨ s.clk < s.scrubDue n then s
  else
    let s1 := s.modPch n (fun y => { y with
      scrubNext := (y.scrubNext + 32) % 2 ^ 29,
      scrubFrom := if y.scrubNext + 32 = 2 ^ 29 then y.scrubFrom + s.num Obj.hbmScrubPeriod * 3600000000000 else y.scrubFrom })
    s1.hbmRequest 6 n x.scrubNext none outcome

/-- A write of READ_PTR (R402): within WRITE_PTR − cap to WRITE_PTR. -/
def State.readPtrOk (s : State) (r v : Nat) : Bool :=
  let x := s.ring r
  decide (x.writePtr ≤ v + x.plan.cap) && decide (v ≤ x.writePtr)

/-- RETIRED_MAP of a stack (R406). -/
def State.retiredMap (s : State) (k : Nat) : Nat :=
  (List.range 32).foldl (fun m c => if s.retired Unit.pch (32 * k + c) then setBit m c else m) 0

/-- CHANNELS of a ring (R408). -/
def RingPlan.channelMask (q : RingPlan) : Nat := q.channels.foldl setBit 0

/-! ## Placements in time -/

/-- New placements for every ring at a commit of an epoch that changes a ring (R401): those that differ wait for their
view's frame start (R552). -/
def State.planRings (s : State) (num : Nat → Nat) (epoch : Nat) : State :=
  let plans := s.placeRings num
  s.modHbm (fun h => { h with rings := (List.zip h.rings plans).map (fun q =>
    if q.1.plan = q.2 then { q.1 with next := none } else { q.1 with next := some (epoch, q.2) }) })

/-- Whether a commit changes any ring (R401). -/
def ringsChanged (old new : Nat → Nat) : Bool :=
  (List.range 24).any (fun r => ringConfigBy old r ≠ ringConfigBy new r)

/-- The rings of a view at a frame start: a waiting placement comes into force, and a ring whose channel has retired is
reshaped (R398, R401, R552). `reached` says whether the frame start carries the placement's epoch. -/
def State.ringsAtFrame (s : State) (v : Nat) (reached : Nat → Bool) : State :=
  (List.range 24).foldl (fun acc r =>
    if ringViewBy acc.num r = v then
      match (acc.ring r).next with
      | some (e, q) => if reached e then acc.modRing r (fun x => x.restart (acc.livePlan q)) else acc.reshapeRing r
      | none => acc.reshapeRing r
    else acc) s

/-- The rings of views that have no frame starts take their placements at the commit's instant (R552). -/
def State.ringsAtInstant (s : State) : State :=
  s.modHbm (fun h => { h with rings := (List.zip (List.range h.rings.length) h.rings).map (fun q =>
    match q.2.next with
    | some (_, p) => if viewConfiguredBy s.num (ringViewBy s.num q.1) then q.2 else q.2.restart (s.livePlan p)
    | none => q.2) })

/-- Every ring placed afresh at the end of BOOT. -/
def State.bootRings (s : State) : State :=
  let plans := s.placeRings s.num
  s.modHbm (fun h => { h with rings := plans.map (fun q => Ring.reset.restart q) })

end Sys2Proof.Machine
end

