-- ==== Sys2Proof/Machine/Network.lean ====
section
/-! DEFINITION. Ethernet ports: ARP and ICMP (R456, R457), HSP datagrams and the transmit queue (R458 to R460), PTP and the
servo (R462 to R467). -/

namespace Sys2Proof.Machine

def State.modServo (s : State) (f : Servo → Servo) : State := { s with servo := f s.servo }

/-! ## Addresses -/

/-- Multicast and broadcast addresses (R457, R461). -/
def ipMulticast (ip : Nat) : Bool := decide (ip / 2 ^ 28 = 14)

/-- Whether an address lies in a port's subnet (R457). -/
def inSubnet (ip addr mask : Nat) : Bool := decide (ip &&& mask = addr &&& mask)

/-- The next hop of a destination (R457). -/
def State.nextHop (s : State) (p ip : Nat) : Nat :=
  if inSubnet ip (s.num (Obj.ethIpv4Addr p)) (s.num (Obj.ethNetmask p)) then ip else s.num (Obj.ethGateway p)

/-- The masks of R461: a run of 8 to 30 leading ones. -/
def maskOk (m : Nat) : Bool := (List.range 31).any (fun k => decide (8 ≤ k) && decide (m = 2 ^ 32 - 2 ^ (32 - k)))

/-- The addresses of R461. -/
def addressOk (a m : Nat) : Bool :=
  decide (a ≠ 0) && decide (a / 2 ^ 24 ≠ 127) && !ipMulticast a && decide (a ≠ 0xFFFFFFFF) &&
  decide (a ≠ (a &&& m)) && decide (a ≠ (a ||| (2 ^ 32 - 1 - m)))

/-! ## ARP and ICMP -/

def Eth.entry (x : Eth) (ip : Nat) : Option Arp := x.arp.find? (fun a => a.ip = ip)

/-- Whether the Ethernet ports work: with CTL, and in BOOT once step 0x07 has ended (R81, R541). -/
def State.netRuns (s : State) : Bool :=
  decide (s.power.state ≠ .deep) && (s.ctl.mode.operating || (decide (s.ctl.mode = .boot) && decide (7 ≤ s.ctl.boot.step)))

/-- The bytes of a PTP message, by its messageType (R462, log entry 32). -/
def ptpBytes (kind : Nat) : Nat := if kind = 11 then 64 else if kind = 0 ∨ kind = 1 ∨ kind = 8 then 44 else 54

/-- The place of a frame in the priorities of R460, and what it takes on the line. -/
def State.frameClass (s : State) : Emission → Nat × Nat
  | .ptp _ kind _ _ _ _ => (0, if s.num Obj.ptpTransport = 0 then udpLine (ptpBytes kind) else frameLine (ptpBytes kind))
  | .arp _ _ _ => (1, frameLine 28)
  | .icmpReply _ _ payload => (1, udpLine payload.length)
  | .ydpResponse _ _ _ _ _ resp => (2, udpLine (32 + resp.data.length))
  | .hsp _ _ _ data => (3, data.length + 78)
  | _ => (2, udpLine 20)

/-- A frame to send, and a frame received (R460, R470). -/
def State.tx (s : State) (p : Nat) (e : Emission) : State :=
  let q := s.frameClass e
  s.send p q.1 q.2 (match e with | .hsp _ _ _ data => data.length | _ => 0) e
def State.rx (s : State) (p : Nat) : State := s.bump (Obj.ethFramesRx p)

/-- An ARP request for an address, with its entry; a full table of 64 gives up its oldest entry (R457). -/
def State.arpAsk (s : State) (p ip : Nat) : State :=
  let x := s.eth p
  match x.entry ip with
  | some _ => s
  | none =>
    let oldest := x.arp.foldl (fun m a => Nat.min m a.at_) s.clk
    let kept := if x.arp.length < 64 then x.arp
      else match x.arp.find? (fun a => a.at_ = oldest) with | some a => x.arp.erase a | none => x.arp
    (s.modEth p (fun y => { y with arp := kept ++ [{ ip := ip, mac := none, at_ := s.clk, asked := s.clk }] })).tx p
      (.arp p true ip)

/-- Whether a destination's next hop is resolved; an unresolved one is asked for (R457). -/
def State.resolve (s : State) (p ip : Nat) : State × Bool :=
  if ipMulticast ip then (s, true)
  else
    let hop := s.nextHop p ip
    match (s.eth p).entry hop with
    | some a => (s, a.mac.isSome)
    | none => (s.arpAsk p hop, false)

/-- The MAC address of a multicast group: 01-00-5E and the low 23 bits (R457). -/
def multicastMac (ip : Nat) : Nat := 0x01005E000000 + ip % 2 ^ 23

/-- The MAC address that a destination's frames go to (R457): the group's, or what ARP has found for the next hop. -/
def State.destMac (s : State) (p ip : Nat) : Nat :=
  if ipMulticast ip then multicastMac ip else (((s.eth p).entry (s.nextHop p ip)).bind Arp.mac).getD 0

/-- A received ARP frame (R456, R457): a request for the port's address is answered, a reply to a request is kept, any
other is dropped. -/
def State.arpFrame (s : State) (p : Nat) (kind : ArpKind) (senderIp senderMac targetIp : Nat) : State :=
  if !(s.eth p).up then s
  else
    match kind with
    | .request =>
      if targetIp = s.num (Obj.ethIpv4Addr p) then (s.rx p).tx p (.arp p false senderIp) else s.bump (Obj.ethRxDropped p)
    | .reply =>
      match (s.eth p).entry senderIp with
      | some a =>
        if a.mac.isNone ∨ a.at_ < a.asked then
          (s.rx p).modEth p (fun y => { y with arp := y.arp.map (fun b =>
            if b.ip = senderIp then { b with mac := some senderMac, at_ := s.clk } else b) })
        else s.bump (Obj.ethRxDropped p)
      | none => s.bump (Obj.ethRxDropped p)

/-- A request is sent again once per second while no reply has come (R457). -/
def State.arpRetry (s : State) (p ip : Nat) : State :=
  match (s.eth p).entry ip with
  | some a =>
    if (a.mac.isNone ∨ a.at_ < a.asked) ∧ a.asked + 1000000000 ≤ s.clk ∧ (s.eth p).up then
      (s.modEth p (fun y => { y with arp := y.arp.map (fun b => if b.ip = ip then { b with asked := s.clk } else b) })).tx p
        (.arp p true ip)
    else s
  | none => s

/-- 10 s before an entry expires a new request is sent (R457). -/
def State.arpRefresh (s : State) (p ip : Nat) : State :=
  match (s.eth p).entry ip with
  | some a =>
    if a.mac.isSome ∧ a.asked ≤ a.at_ ∧ a.at_ + 290000000000 ≤ s.clk ∧ (s.eth p).up then
      (s.modEth p (fun y => { y with arp := y.arp.map (fun b => if b.ip = ip then { b with asked := s.clk } else b) })).tx p
        (.arp p true ip)
    else s
  | none => s

/-- An entry lives 300 s (R457). -/
def State.arpExpiry (s : State) (p ip : Nat) : State :=
  match (s.eth p).entry ip with
  | some a =>
    if a.mac.isSome ∧ a.at_ + 300000000000 ≤ s.clk then
      s.modEth p (fun y => { y with arp := y.arp.filter (fun b => b.ip ≠ ip) })
    else s
  | none => s

/-- An ICMP echo request: answered up to 1,472 payload bytes and 100 times a second (R456). -/
def State.icmpEcho (s : State) (p ip : Nat) (payload : Bytes) : State :=
  if !(s.eth p).up then s
  else if 1472 < payload.length then s.bump (Obj.ethRxDropped p)
  else
    let recent := (s.eth p).echoes.filter (fun t => decide (s.clk < t + 1000000000))
    if 100 ≤ recent.length then s.rx p
    else (((s.rx p).modEth p (fun y => { y with echoes := s.clk :: recent })).resolve p ip).1.tx p (.icmpReply p ip payload)

/-- PTP runs on a port (R462). -/
def State.ptpOn (s : State) (p : Nat) : Bool :=
  s.flag (Obj.ethEnable p) && (s.num Obj.ptpClockType = 2 || (s.num Obj.ptpClockType = 1 && s.num Obj.ptpPtpPort = p))

/-- Whether R456 accepts a received frame, for ARP, ICMP, YDP or PTP. -/
def State.rxAccepts (s : State) (p : Nat) (f : RxFrame) : Bool :=
  match f with
  | .arp .request _ target => decide (target = s.num (Obj.ethIpv4Addr p))
  | .arp .reply sender _ => match (s.eth p).entry sender with | some a => a.mac.isNone || decide (a.at_ < a.asked) | none => false
  | .ipv4 destination headerBytes checksumOk fragment body =>
    let mine := decide (destination = s.num (Obj.ethIpv4Addr p))
    let group := decide (destination = 0xE0000181) || decide (destination = 0xE000006B)
    let ptp := s.ptpOn p && decide (s.num Obj.ptpTransport = 0)
    decide (headerBytes = 20) && checksumOk && !fragment &&
    (match body with
      | .echo n => mine && decide (n ≤ 1472)
      | .udp port => (mine && decide (port = s.num Obj.ydpYdpPort)) || ((mine || group) && ptp && (port = 319 || port = 320))
      | .icmp => false
      | .other => false)
  | .ptp mac => s.ptpOn p && decide (s.num Obj.ptpTransport = 1) && (mac = 0x011B19000000 || mac = 0x0180C200000E)
  | .other => false

/-- RX_DROPPED: a received frame that R456 accepts nowhere is dropped and counted; one that it accepts is what its own command brings. -/
def State.rxDrop (s : State) (p : Nat) (f : RxFrame) : State := s.bumpIf (!s.rxAccepts p f) (Obj.ethRxDropped p)

/-! ## HSP -/

/-- The 12 bytes before the data of a datagram (R458). -/
def hspHeader (source : Nat) (first last coded : Bool) (seq offset : Nat) : Bytes :=
  leBytes 2 0x5348 ++ leBytes 1 source ++
  leBytes 1 ((if first then 0x80 else 0) + (if last then 0x40 else 0) + (if coded then 0x20 else 0) + 1) ++
  leBytes 4 seq ++ leBytes 4 offset

/-- The transmit queue's capacity (R459). -/
abbrev txQueueBytes : Nat := 2097152

/-- The time in ps that a byte takes on the line (R455). -/
def State.bytePs (s : State) (p : Nat) : Nat := if s.num (Obj.ethSpeed p) = 0 then 800 else 320

/-- The frame that a port's line takes next, when it takes it, and the frames left (R460): in strict priority, the oldest of its class
first; a frame under way is never interrupted. -/
def Eth.next (x : Eth) (clk : Nat) : Option (Nat × TxFrame × List TxFrame) :=
  match x.queue with
  | [] => none
  | f :: r =>
    let start := Nat.max x.lineFree (1000 * r.foldl (fun m g => Nat.min m g.at_) f.at_)
    let ready := x.queue.filter (fun g => 1000 * g.at_ ≤ start)
    let prio := ready.foldl (fun m g => Nat.min m g.prio) 3
    if 1000 * clk < start then none
    else (ready.find? (fun g => g.prio = prio)).map (fun g => (start, g, x.queue.erase g))

/-- A PTP event message, of type 0 to 3, as it leaves (R463): `stamp` is the time of the first bit after its start-of-frame delimiter, with PHY_DELAY_TX. In one
step a Sync carries it, and a Pdelay_Resp the turnaround, with no UDP checksum; in two steps it goes into the message that follows.
That of a Delay_Req or Pdelay_Req is kept. -/
def State.ptpLeaves (s : State) (p kind : Nat) (time : Option Int) (correction stamp : Int) (head : PtpHead) : State :=
  let two := s.flag Obj.ptpTwoStep
  let udp := decide (s.num Obj.ptpTransport = 0)
  if kind = 0 then
    if two then (s.emit (.ptp p 0 none correction false head)).tx p (.ptp p 8 (some stamp) 0 false head)
    else s.emit (.ptp p 0 (some stamp) correction udp head)
  else if kind = 3 then
    if two then (s.emit (.ptp p 3 time correction false head)).tx p (.ptp p 10 (some stamp) 0 false head)
    else s.emit (.ptp p 3 none (correction + (stamp - time.getD stamp)) udp head)
  else if kind = 1 then (s.emit (.ptp p 1 none correction false head)).modEth p (fun x => { x with delayTx := some stamp })
  else (s.emit (.ptp p 2 none correction false head)).modEth p (fun x => { x with pdelayTx := some stamp })

/-- Frames leave a port, at most `n` of them, as long as its line has taken them by now. -/
def State.ethDrainN (s : State) (p : Nat) : Nat → State
  | 0 => s
  | n + 1 =>
    match (s.eth p).next s.clk with
    | none => s
    | some (start, f, rest) =>
      let s1 := (s.modEth p (fun x => { x with
        queue := rest, lineFree := start + f.line * s.bytePs p, underWay := f.hsp,
        txHead := (x.txHead + f.hsp) % txQueueBytes })).bump (Obj.ethFramesTx p)
      let s2 := match f.what with
        | .ptp _ kind time correction _ head =>
          if kind < 4 then
            s1.ptpLeaves p kind time correction
              ((((start + 8 * s.bytePs p) / 1000 + s.num (Obj.ethPhyDelayTx p) : Nat) : Int) + s.timeOffset) head
          else s1.emit f.what
        | e => s1.emit e
      s2.ethDrainN p n

/-- The frames that have left a port by now (R460); a port that does not run, or has no link, sends none of them later as of now. -/
def State.ethDrain (s : State) (p : Nat) : State :=
  if s.netRuns ∧ (s.eth p).up then s.ethDrainN p (2 * (s.eth p).queue.length)
  else if (s.eth p).queue = [] then s
  else s.modEth p (fun x => { x with lineFree := Nat.max x.lineFree (1000 * s.clk) })

/-- Bytes of HSP data waiting at a port (R459): a datagram leaves the queue when its last bit has left (log entry 31). -/
def State.txQueued (s : State) (p : Nat) : Nat :=
  let x := (s.ethDrain p).eth p
  (if 1000 * s.clk < x.lineFree then x.underWay else 0) + x.queue.foldl (fun a q => a + q.hsp) 0

def State.txRoom (s : State) (p n : Nat) : Bool := decide (s.txQueued p + n ≤ txQueueBytes)

/-- The number of a source's next datagram on a port, and the port after it (R458). -/
def Eth.nextSeq (x : Eth) (source : Nat) : Nat × Eth :=
  let n := (assoc x.seqs source).getD 0
  (n, { x with seqs := assocPut x.seqs source ((n + 1) % wrap32) })

/-- The pseudo-channels that hold the next `n` bytes queued at a port (R399, R459). -/
def State.txChannels (s : State) (p n : Nat) : List Nat :=
  let x := s.eth p
  s.staticChannels 0 (s.txBase p + (x.txHead + x.queue.foldl (fun a q => a + q.hsp) 0) % txQueueBytes) n

/-- A piece of a unit sent as one datagram of a source (R458): counted in the source's DATAGRAMS. The transmitter reads it through
STREAM_RD, as soon as it is queued (R459, log entry 70). -/
def State.hspPiece (s : State) (p source : Nat) (dest : HspDest) (counter offset : Nat) (first last coded : Bool) (data : Bytes) : State :=
  let q := (s.eth p).nextSeq source
  (((s.hbmTouch 2 (s.txChannels p data.length)).modEth p (fun _ => q.2)).tx p (.hsp p dest (hspHeader source first last coded q.1 offset) data)).bump counter

/-- Where a source's datagrams go: to its DEST_IP and DEST_PORT, from the port's HSP_SRC_PORT (R457, R458). -/
def State.hspDest (s : State) (p ip port : Nat) : HspDest :=
  { ip := ip, mac := s.destMac p ip, sourcePort := s.num (Obj.ethHspSrcPort p), port := port }

/-- The pieces of a unit (R459). -/
def hspCut : Nat → Nat → Bytes → List (Nat × Bytes)
  | 0, _, _ => []
  | k + 1, o, b => if b.length ≤ 1408 then [(o, b)] else (o, b.take 1408) :: hspCut k (o + 1408) (b.drop 1408)

/-- A record of a stream queued whole, or not at all (R457, R459). -/
def State.hspRecord (s : State) (p stream : Nat) (coded : Bool) (record : Bytes) : State × Bool :=
  let r := s.resolve p (s.num (Obj.hspSDestIp stream))
  if !r.2 ∨ !r.1.txRoom p record.length then (r.1, false)
  else
    let pieces := hspCut (record.length / 1408 + 1) 0 record
    ((List.zip (List.range pieces.length) pieces).foldl (fun acc q =>
      acc.hspPiece p stream (s.hspDest p (s.num (Obj.hspSDestIp stream)) (s.num (Obj.hspSDestPort stream)))
        (Obj.hspSDatagrams stream) q.2.1 (q.1 = 0) (q.1 + 1 = pieces.length) coded q.2.2) r.1, true)

/-! ## Link -/

/-! ## The best master clock -/

/-- The rank of the module's own clock (R462): PRIORITY1, clockClass 248, clockAccuracy 0xFE, variance 0xFFFF, PRIORITY2,
the most significant first; lower is better, as in an Announce's rank (log entry 32). -/
def State.ownRank (s : State) : Nat :=
  s.num Obj.ptpPriority1 * 2 ^ 40 + 248 * 2 ^ 32 + 0xFE * 2 ^ 24 + 0xFFFF * 2 ^ 8 + s.num Obj.ptpPriority2

/-- The module's clockIdentity: the MAC address of PTP_PORT, or of ETH0 in a boundary clock, as an EUI-64 (PRESUMED, log entry 32). -/
def State.clockIdentity (s : State) : Nat :=
  let mac := s.num (Obj.ethMac (if s.num Obj.ptpClockType = 1 then s.num Obj.ptpPtpPort else 0))
  mac / 2 ^ 24 * 2 ^ 40 + 0xFFFE * 2 ^ 24 + mac % 2 ^ 24

/-- Whether one grandmaster is better than another (R462). -/
def Master.before (a b : Master) : Bool := decide (a.rank < b.rank) || (decide (a.rank = b.rank) && decide (a.identity < b.identity))

/-- The best of the grandmasters announced on a port (R462). -/
def Eth.announced (x : Eth) : Option Master :=
  x.masters.foldl (fun best m =>
    match best with
    | some b => if m.before b then some m else best
    | none => some m) none

/-- The best of the grandmasters announced on both ports, with its port. -/
def State.bestAnnounced (s : State) : Option (Nat × Master) :=
  (List.range 2).foldl (fun best p =>
    match (s.eth p).announced with
    | some m =>
      if s.ptpOn p ∧ (s.eth p).up then
        (match best with
          | some b => if m.before b.2 then some (p, m) else best
          | none => some (p, m))
      else best
    | none => best) none

/-- The servo enters HOLDOVER: f is −integ (R465). -/
def State.holdover (s : State) : State :=
  if s.servo.state = 4 then s.modServo (fun x => { x with freq := -x.integ, run := 0, beyond := 0 })
  else (s.modServo (fun x => { x with state := 4, freq := -x.integ, run := 0, beyond := 0 })).orFlags Obj.timeFlags 2

/-- portState of a port by the outcome of the BMCA (R462, R465). -/
def State.ptpStateOf (s : State) (p : Nat) (best : Option (Nat × Master)) : Nat :=
  if !s.ptpOn p then 3
  else if !(s.eth p).up then 2
  else
    match best with
    | none => if s.flag Obj.ptpSlaveOnly then 4 else 6
    | some (b, m) =>
      if !s.flag Obj.ptpSlaveOnly && decide (s.ownRank < m.rank) then 6
      else if b = p then 9
      else match (s.eth p).announced with | some x => if x.identity = m.identity then 7 else 6 | none => 6

/-- The BMCA run again (R462, R465): port states, UTC_OFFSET from the latest Announce of the grandmaster, and what becomes of the servo. -/
def State.bmca (s : State) : State :=
  let best := s.bestAnnounced
  let s1 := (List.range 2).foldl (fun acc p => acc.modEth p (fun y => { y with ptpState := s.ptpStateOf p best })) s
  let slave := (List.range 2).any (fun p => (s1.eth p).ptpState = 9)
  match (if slave then best else none) with
  | some (_, m) =>
    let su := s1.putNum Obj.ptpUtcOffset (ofSigned 16 m.utc)
    if s1.servo.grandmaster = some m.identity then su
    else
      let changed := s1.servo.grandmaster.isSome
      let s2 := (su.modServo (fun x => { x with grandmaster := some m.identity, state := 1, qualifying := s1.clk, run := 0, beyond := 0,
                                                lastSync := s1.clk })).putNum Obj.ptpGmIdentity m.identity
      if changed then (s2.bump Obj.timeGmChanges).orFlags Obj.timeFlags 4 else s2
  | none =>
    if 6 ∈ (List.range 2).map (fun p => (s1.eth p).ptpState) then
      -- grandmaster itself: f held, HOLDOVER or FREE
      let now := if s1.servo.everLocked then 4 else 0
      let s2 := s1.modServo (fun x => { x with state := now, run := 0, beyond := 0 })
      if now = 4 ∧ s1.servo.state ≠ 4 then s2.orFlags Obj.timeFlags 2 else s2
    else if s1.servo.state = 0 then s1
    else s1.holdover

/-- ETH_LINK_UP: a gratuitous ARP, the datagrams that waited, PTP (R457). -/
def State.ethUp (s : State) (p : Nat) : State :=
  if s.flag (Obj.ethEnable p) ∧ !(s.eth p).up then
    ((s.modEth p (fun y => { y with up := true, lineFree := Nat.max y.lineFree (1000 * s.clk) })).tx p
      (.arp p true (s.num (Obj.ethIpv4Addr p)))).bmca
  else s

/-- ETH_LINK_DOWN (R455): no port state but FAULTY, no Announce; what has not left but HSP is gone (log entry 31). -/
def State.ethDown (s : State) (p : Nat) : State :=
  if (s.eth p).up then
    ((s.ethDrain p).modEth p (fun y => { y with up := false, masters := [], queue := y.queue.filter (fun f => f.prio = 3) })).bmca
  else s

/-- Whether a PTP message of a transport is for a port (R456), and whether its domain is the module's (R462). -/
def State.ptpPort (s : State) (p transport : Nat) : Bool := s.ptpOn p && decide (transport = s.num Obj.ptpTransport)
def State.ptpDomain (s : State) (domain : Nat) : Bool := decide (domain = s.num Obj.ptpDomain)

/-- ANNOUNCE (R462, R465): the announced grandmaster, beside those announced before, feeds the BMCA. -/
def State.announce (s : State) (p identity rank : Nat) (utc : Int) : State :=
  ((s.rx p).modEth p (fun y => { y with
    masters := { identity := identity, rank := rank, at_ := s.clk, utc := utc } :: y.masters.filter (fun m => m.identity ≠ identity) })).bmca

/-- A time of 2^k seconds in ns, k at least −1. -/
def logSeconds (k : Int) : Nat := if k < 0 then 500000000 else 1000000000 * 2 ^ k.toNat

/-- ANNOUNCE_TIMEOUT: the receipt timeout of grandmasters has passed, and the BMCA selects anew (R465). -/
def State.announceTimeout (s : State) (p : Nat) : State :=
  let t := s.num Obj.ptpAnnounceTimeout * logSeconds (s.int 16 Obj.ptpLogAnnounce)
  let late := fun (m : Master) => decide (m.at_ + t ≤ s.clk)
  if (s.eth p).masters.any late then (s.modEth p (fun y => { y with masters := y.masters.filter (fun m => !late m) })).bmca
  else s

/-! ## The servo -/

/-- The clamp of R464. -/
def servoClamp (x : Int) : Int := clampInt x (-25600000) 25600000

/-- An offset taken in (R464). -/
def Servo.take (x : Servo) (kp ki : Nat) (o : Int) : Servo :=
  let p := asr (kp * o) 8
  let integ := servoClamp (x.integ + asr (ki * o) 8)
  { x with integ := integ, freq := servoClamp (-(p + integ)) }

/-- An accepted offset: taken in, LOCKING after QUALIFYING or HOLDOVER, LOCKED after 16 good ones, LOCKING after 4 bad ones
(R464, R465). -/
def Servo.accept (x : Servo) (kp ki threshold : Nat) (o : Int) : Servo :=
  let good := decide (o.natAbs ≤ threshold)
  let y := x.take kp ki o
  let start := if x.state = 1 ∨ x.state = 4 ∨ x.state = 0 then { y with state := 2, run := 0, beyond := 0 } else y
  let run := if good then start.run + 1 else 0
  let beyond := if good then 0 else start.beyond + 1
  let st := if start.state = 2 ∧ 16 ≤ run then 3 else if start.state = 3 ∧ 4 ≤ beyond then 2 else start.state
  { start with run := if start.state = 3 ∧ st = 2 then 0 else run, beyond := beyond, state := st,
               everLocked := x.everLocked || decide (st = 3) }

/-- Whether a refused offset may be applied as a step (R467): a STEP is 60 s old at most. -/
def State.mayStep (s : State) : Bool :=
  s.servo.stepArmed.any (fun t => s.clk < t + 60000000000) || (s.flag Obj.timeInitialStep && decide (s.ctl.mode = .config) && !s.servo.everStepped)

/-- An offset tested (R466, R467): within JUMP_THRESHOLD it is accepted, otherwise it is a step or refused. -/
def State.testOffset (s : State) (o : Int) : State :=
  if o.natAbs ≤ s.num Obj.timeJumpThreshold then
    (s.modServo (fun x => x.accept (s.num Obj.timeKp) (s.num Obj.timeKi) (s.num Obj.timeLockThreshold) o)).putNum
      Obj.timeStepNeeded 0
  else if s.mayStep then
    ({ s with
       timeOffset := s.timeOffset - o
       eths := s.eths.map (fun (x : Eth) => { x with
         syncRx := none, delayTx := none, pdelayTx := none, pdelayRx := none, fromMaster := none }) }.modServo (fun x =>
      { x with state := 2, run := 0, beyond := 0, stepArmed := none, everStepped := true })).bump Obj.timeStepsApplied
  else
    (((((s.holdover.orFlags Obj.timeFlags 1).putNum Obj.timeStepNeeded 1).putNum Obj.timeLastRefused (ofSigned 64 o)).bump
      Obj.timeStepsRefused).alert Alert.time)

/-- The SLAVE port yields an offset (R464, R465): in QUALIFYING it is only reported until 8 sync intervals of the new grandmaster have passed. -/
def State.syncOffset (s : State) (o : Int) : State :=
  let s1 := s.modServo (fun x => { x with offset := o, lastSync := s.clk })
  let s2 := s1.putNum Obj.timeOffset (ofSigned 32 (sat32s o))
  if s.servo.state = 1 ∧ s.clk < s.servo.qualifying + 8 * logSeconds (s.int 16 Obj.ptpLogSync) then s2 else s2.testOffset o

/-- The stamp of a message that arrives now (R463): module full time in ns less PHY_DELAY_RX. -/
def State.rxStamp (s : State) (p : Nat) : Int := (s.clk : Int) + s.timeOffset - (s.num (Obj.ethPhyDelayRx p) : Nat)

/-- The time from the master to here has been measured by a Sync (R464): the offset is what the path delay leaves of it. -/
def State.syncMeasured (s : State) (p : Nat) (d : Int) : State :=
  (s.modEth p (fun x => { x with syncRx := none, fromMaster := some d })).syncOffset (d - (s.eth p).pathDelay)

/-- SYNC on the SLAVE port (R463, R464): with the time it left the master and its correction; a two-step one waits for its Follow_Up, of
the same number. -/
def State.syncTaken (s : State) (p : Nat) (origin correction : Int) (twoStep : Bool) (sequence : Nat) : State :=
  let s1 := s.rx p
  if twoStep then s1.modEth p (fun x => { x with syncRx := some (s.rxStamp p, correction, sequence) })
  else s1.syncMeasured p (s.rxStamp p - origin - correction)

/-- A path delay measured (R462, R470): half of what the two ways take together. -/
def State.pathMeasured (s : State) (p : Nat) (both : Int) : State :=
  let d := both / 2
  (s.modEth p (fun x => { x with pathDelay := d, pdelayRx := none })).putNum (Obj.ethPathDelay p) (ofSigned 32 (sat32s d))

/-- SYNC_TIMEOUT: 4 sync intervals without an offset (R465). -/
def State.syncTimeout (s : State) : State :=
  if 1 ≤ s.servo.state ∧ s.servo.state ≤ 3 ∧ s.servo.lastSync + 4 * logSeconds (s.int 16 Obj.ptpLogSync) ≤ s.clk then s.holdover
  else s

/-- What an Announce of the module says (R462): the grandmaster, its rank and the UTC offset; without a better one announced elsewhere it
is the module itself. -/
def State.announces (s : State) : Nat × Nat × Int :=
  match s.bestAnnounced with
  | some (_, m) =>
    if !s.flag Obj.ptpSlaveOnly && decide (s.ownRank < m.rank) then (s.clockIdentity, s.ownRank, s.int 16 Obj.ptpUtcOffset)
    else (m.identity, m.rank, s.int 16 Obj.ptpUtcOffset)
  | none => (s.clockIdentity, s.ownRank, s.int 16 Obj.ptpUtcOffset)

/-- The head of a message that a port sends (R462). -/
def State.ptpHead (s : State) (p kind sequence : Nat) : PtpHead :=
  { domain := s.num Obj.ptpDomain, identity := s.clockIdentity, portNumber := p + 1, sequence := sequence,
    announced := if kind = 11 then some s.announces else none }

/-- The number of the last request of a kind that a port has sent: 2 Delay_Req, 3 Pdelay_Req. -/
def Eth.lastSeq (x : Eth) (k : Nat) : Nat := (natAt x.ptpSeqs k + 65535) % 65536

/-- PTP_MESSAGE: another message of the profile, with the time it carries, in ns, and its fields (R462, R463): requests are answered where
the profile asks for it, under their number and with the stamp of their receipt; answers, under the number of what they answer, end the
measurement under way; management and signaling are counted in IGNORED. One of another domain is not taken. -/
def State.ptpMessage (s : State) (p : Nat) (kind : PtpKind) (time : Int) (f : PtpFields) : State :=
  if (s.eth p).up ∧ s.ptpPort p f.transport then
    let s1 := s.rx p
    let x := s.eth p
    let now := s.rxStamp p
    let ends := decide (s.num Obj.ptpProfile = 0)
    if !s.ptpDomain f.domain then s1
    else
      match kind with
      | .other => s1.bump (Obj.ethIgnored p)
      | .delayReq =>
        if x.ptpState = 6 ∧ ends then s1.tx p (.ptp p 9 (some now) f.correction false (s.ptpHead p 9 f.sequence)) else s1
      | .pdelayReq => if ends then s1 else s1.tx p (.ptp p 3 (some now) f.correction false (s.ptpHead p 3 f.sequence))
      | .followUp =>
        match x.syncRx with
        | some (at_, c, n) => if x.ptpState = 9 ∧ n = f.sequence then s1.syncMeasured p (at_ - time - c - f.correction) else s1
        | none => s1
      | .delayResp =>
        match x.delayTx, x.fromMaster with
        | some sent, some d =>
          if x.ptpState = 9 ∧ ends ∧ f.sequence = x.lastSeq 2 then
            (s1.modEth p (fun y => { y with delayTx := none })).pathMeasured p (d + (time - sent - f.correction))
          else s1
        | _, _ => s1
      | .pdelayResp =>
        match x.pdelayTx with
        | some sent =>
          if ends ∨ f.sequence ≠ x.lastSeq 3 then s1
          else if f.twoStep then s1.modEth p (fun y => { y with pdelayRx := some (now, time, f.correction) })
          else (s1.modEth p (fun y => { y with pdelayTx := none })).pathMeasured p (now - sent - f.correction)
        | none => s1
      | .pdelayRespFollowUp =>
        match x.pdelayTx, x.pdelayRx with
        | some sent, some (at_, got, c) =>
          if f.sequence ≠ x.lastSeq 3 then s1
          else
            (s1.modEth p (fun y => { y with pdelayTx := none })).pathMeasured p (at_ - sent - (time - got) - c - f.correction)
        | _, _ => s1
  else s.bump (Obj.ethRxDropped p)

/-- Number, messageType and interval of a periodic message (R462). -/
def State.ptpPeriod (s : State) (kind : PtpSendKind) : Nat × Nat × Nat :=
  match kind with
  | .announce => (0, 11, logSeconds (s.int 16 Obj.ptpLogAnnounce))
  | .sync => (1, 0, logSeconds (s.int 16 Obj.ptpLogSync))
  | .delayReq => (2, 1, logSeconds (s.int 16 Obj.ptpLogMinDelayReq))
  | .pdelayReq => (3, 2, logSeconds (s.int 16 Obj.ptpLogMinDelayReq))

/-- Whether a port sends a periodic message in its state (R462). -/
def State.ptpSends (s : State) (p : Nat) (kind : PtpSendKind) : Bool :=
  let st := (s.eth p).ptpState
  match kind with
  | .announce => st = 6
  | .sync => st = 6
  | .delayReq => st = 9 && s.num Obj.ptpProfile = 0
  | .pdelayReq => s.num Obj.ptpProfile = 1 && decide (4 ≤ st)

/-- PTP_SEND: a periodic message at its logged interval, under the next number of its kind (R462). -/
def State.ptpSend (s : State) (p : Nat) (kind : PtpSendKind) : State :=
  let q := s.ptpPeriod kind
  let n := natAt (s.eth p).ptpSeqs q.1
  if (s.eth p).up ∧ s.ptpOn p ∧ s.ptpSends p kind ∧ natAt (s.eth p).sent q.1 + q.2.2 ≤ s.clk then
    (s.modEth p (fun y => { y with sent := y.sent.set q.1 s.clk, ptpSeqs := y.ptpSeqs.set q.1 ((n + 1) % 65536) })).tx p
      (.ptp p q.2.1 none 0 false (s.ptpHead p q.2.1 n))
  else s

/-- STEP_WITHDRAW: an unused STEP ends 60 s after the write (R467). -/
def State.stepWithdraw (s : State) : State :=
  match s.servo.stepArmed with
  | some t => if t + 60000000000 ≤ s.clk then s.modServo (fun x => { x with stepArmed := none }) else s
  | none => s

/-- FULL_NOW (R468): 48-bit seconds, 32-bit nanoseconds. -/
def State.fullTimeBytes (s : State) : Bytes :=
  leBytes 6 (s.fullNow / 1000000000) ++ leBytes 4 (s.fullNow % 1000000000)

end Sys2Proof.Machine
end

