-- ==== Sys2Proof/Machine/Streams.lean ====
section
/-! DEFINITION. Output streams: crop and scale (R242), band selection, decimation (R211 to R215), packing (R243), records
(R244) and their destinations (R245). -/

namespace Sys2Proof.Machine

/-- A stream's output width (R242). -/
def streamWidth (crop step : Nat) : Nat := if step = 0 then 0 else (crop - 1) * 65536 / step + 1

/-- A number rounded up to a multiple of 4. -/
def pad4 (n : Nat) : Nat := 4 * ceilDiv n 4

/-- The bits of a sample in a FORMAT (R243). -/
def formatBits (f : Nat) : Nat := if f = 0 then 16 else if f = 1 then 8 else if f = 2 then 10 else 12

/-- The value of a sample in a FORMAT (R243). -/
def formatSample (f v : Nat) : Nat :=
  if f = 0 then v else if f = 1 then min ((v + 128) / 256) 255 else if f = 2 then min ((v + 32) / 64) 1023
  else min ((v + 8) / 16) 4095

/-- Samples packed LSB first and padded to a multiple of 4 bytes (R243). -/
def packSamples (bits : Nat) (l : List Nat) : Bytes :=
  let n := pad4 (ceilDiv (l.length * bits) 8)
  let word := fun (i : Nat) =>
    -- byte i holds bits 8 i to 8 i + 7 of the stream
    (List.range 8).foldl (fun a b =>
      let k := 8 * i + b
      a + (if bitOf (natAt l (k / bits)) (k % bits) then 2 ^ b else 0)) 0
  (List.range n).map (fun i => BitVec.ofNat 8 (word i))

/-- The hole mask of a record: bit n of byte i is pixel 8i + n, padded to a multiple of 4 bytes (R244). -/
def maskBytes (holes : List Bool) : Bytes :=
  (List.range (pad4 (ceilDiv holes.length 8))).map (fun i =>
    BitVec.ofNat 8 ((List.range 8).foldl (fun a b => a + (if holes.getD (8 * i + b) false then 2 ^ b else 0)) 0))

/-- Bytes of a record before coding (R246). -/
def recordBytes (nout bands fbits : Nat) (mask : Bool) : Nat :=
  32 + pad4 (ceilDiv (nout * bands * fbits) 8) + (if mask then pad4 (ceilDiv nout 8) else 0)

/-- The value check of SCALE_COEFFS (R242): 4,096 bytes, every phase sums to 16,384. -/
def scaleCoeffsOk (b : Bytes) : Bool :=
  decide (b.length = 4096) && (List.range 64).all (fun ph =>
    decide ((List.range 32).foldl (fun a t => a + i16At b (64 * ph + 2 * t)) 0 = 16384))

/-- An output pixel of one band, and whether a tap with a coefficient reads a hole (R242). -/
def scalePixel (c : Bytes) (v : List Nat) (holes : List Bool) (width x0 step j : Nat) : Nat × Bool :=
  let acc := x0 * 65536 + j * step
  let ip : Int := acc / 65536
  let ph := acc / 1024 % 64
  let at_ := fun (t : Nat) => clampNat (ip - 15 + t) 0 (width - 1)
  let taps := (List.range 32).map (fun t => (i16At c (64 * ph + 2 * t), at_ t))
  let sum := taps.foldl (fun a q => a + q.1 * (natAt v q.2 : Int)) 0
  (clampNat (asr (sum + 8192) 14) 0 65535, taps.any (fun q => q.1 ≠ 0 && holes.getD q.2 true))

/-- The bands a mask selects, ascending (R241). -/
def selectedBands (m : Nat) : List Nat := (List.range 4).filter (fun b => bitOf m b)

/-- A stream's crop of a stitched line: its samples pixel by pixel, its holes (R242). -/
def streamInput (l : PixLine) (c : Bytes) (x0 step nout bands : Nat) : List Nat × List Bool :=
  let px := (List.range nout).map (fun j => (selectedBands bands).map (fun b =>
    scalePixel c (l.samples.getD b []) l.holes l.holes.length x0 step j))
  (px.flatMap (fun p => p.map (·.1)), px.map (fun p => p.any (·.2)))

/-- A stream record (R244). -/
def streamRecord (index time epoch stream view nout bands format x0 step shift : Nat) (mask degraded : Bool)
    (samples : List Nat) (holes : List Bool) : Bytes :=
  leBytes 4 index ++ leBytes 4 time ++ leBytes 2 epoch ++ leBytes 1 stream ++ leBytes 1 view ++ leBytes 4 nout ++
  leBytes 1 bands ++ leBytes 1 format ++
  leBytes 2 ((if holes.any id then 1 else 0) + (if mask then 2 else 0) + (if degraded then 4 else 0)) ++
  leBytes 4 x0 ++ leBytes 4 step ++ leBytes 2 shift ++ zeros 2 ++
  packSamples (formatBits format) (samples.map (formatSample format)) ++ (if mask then maskBytes holes else [])

/-- A record or block handed to a stream's destinations; each that cannot take it drops it (R245). -/
def State.deliverStream (s : State) (k dest eth : Nat) (coded : Bool) (b : Bytes) : State :=
  let s1 := if bitOf dest 0 then
      let r := s.ringRecord (4 + k) b
      r.1.bumpIf (!r.2) (Obj.strLinesDropped k)
    else s
  if bitOf dest 1 then
    let r := s1.hspRecord eth k coded b
    r.1.bumpIf (!r.2) (Obj.strLinesDropped k)
  else s1

/-- A record that goes through the codec first: it joins the queue of 16, or is dropped for its destinations (R425); in
the ALARM band the codec takes none (R495). -/
def State.queueStream (s : State) (k dest eth : Nat) (b : Bytes) (bits bands width payload : Nat) : State :=
  if s.ctl.part.hasCodec then
    if s.dma.streamQueue.length < 16 ∧ s.power.band ≠ 4 then
      { s with dma := { s.dma with streamQueue := s.dma.streamQueue ++ [.stream k dest eth b bits bands width payload] } }
    else
      ((s.bumpIf (decide (s.power.band ≠ 4)) Obj.codecStreamQueueFull).bumpIf (bitOf dest 0) (Obj.strLinesDropped k)).bumpIf (bitOf dest 1)
        (Obj.strLinesDropped k)
  else s

/-- One stitched line through one stream (R241 to R245). DESIGN CHOICE (log entry 65): the decimator registers keep their values by place
where BANDS or the width changes but neither ORDER nor RATIO does, and a new place starts at 0 (R213). -/
def State.streamLine (s : State) (v : Nat) (i : Issue) (l : PixLine) (shift : Nat) (k : Nat) : State :=
  let e := i.epoch
  let p := fun (o : Nat) => s.param e o
  if p (Obj.strEnable k) = 0 ∨ p (Obj.strView k) ≠ v then s
  else
    let x0 := p (Obj.strX0 k)
    let step := p (Obj.strStep k)
    let bands := p (Obj.strBands k)
    let nout := streamWidth (p (Obj.strCropWidth k)) step
    let nb := (selectedBands bands).length
    let order := p (Obj.strCicOrder k)
    let ratio := p (Obj.strCicRatio k)
    let q := streamInput l (s.paramBytes e (Obj.strScaleCoeffs k)) x0 step nout bands
    let c0 := s.cics.getD k Cic.reset
    let reached := fun (x : Nat) => decide (s.epochPos x ≤ s.epochPos e)
    let left := c0.changes.filter (fun x => !reached x)
    let c := if c0.order = order ∧ c0.ratio = ratio ∧ !c0.changes.any reached then c0
             else { Cic.fresh order ratio (nout * nb) with changes := left }
    let r := c.line q.1 q.2 nb
    let s1 := { s with cics := s.cics.set k r.1 }
    match r.2 with
    | none => s1
    | some (out, holes, suppressed) =>
      if suppressed then s1.bump (Obj.strCicWarmup k)
      else
        let mask := p (Obj.strMask k) ≠ 0
        let format := p (Obj.strFormat k)
        let dest := p (Obj.strDest k)
        let rec_ := streamRecord i.index i.time e k v nout bands format x0 step shift mask (s.viewState v = 3) out holes
        let s2 := s1.bump (Obj.strLinesEmitted k)
        if bitOf dest 2 then
          s2.queueStream k dest (p (Obj.strEthPort k)) rec_ (formatBits format) nb nout
            (pad4 (ceilDiv (nout * nb * formatBits format) 8))
        else s2.deliverStream k dest (p (Obj.strEthPort k)) false rec_

/-- A stitched line through every enabled stream of its view (R241). -/
def State.streams (s : State) (v : Nat) (i : Issue) (l : PixLine) (shift : Nat) : State :=
  (List.range 8).foldl (fun acc k => acc.streamLine v i l shift k) s

/-- The decimators start afresh with the next line, after DEEP or BOOT (R213). -/
def State.resetCics (s : State) : State := { s with cics := List.replicate 8 Cic.reset }

end Sys2Proof.Machine
end

