-- ==== Sys2Proof/Machine/Codec.lean ====
section
/-! DEFINITION. The block format of the image codec, its coder and its decoder (R426 to R432), the check values (R433) and
the reshuffle modes of the DMA engine (R418). -/

namespace Sys2Proof.Machine

/-! ## Samples -/

/-- The number in `bits` bits from bit `pos` of a byte string, LSB first (R243). -/
def bitsAt (b : Bytes) (pos bits : Nat) : Nat :=
  let first := pos / 8
  let window := leNat ((b.drop first).take (bits / 8 + 2))
  window / 2 ^ (pos % 8) % 2 ^ bits

/-- Bytes of a sample array (R427). -/
def sampleBytes (width bands bits lines : Nat) : Nat := pad4 (ceilDiv (width * bands * bits * lines) 8)

/-- Row `y` of band `b` of a sample array: line, pixel and band order (R427). -/
def planeRow (a : Bytes) (width bands bits y b : Nat) : List Nat :=
  (List.range width).map (fun x => bitsAt a (((y * width + x) * bands + b) * bits) bits)

/-! ## Prediction -/

/-- The prediction of a sample from left, above and above-left (R428). -/
def predictFrom (a b c : Nat) : Nat :=
  if Nat.max a b ≤ c then Nat.min a b else if c ≤ Nat.min a b then Nat.max a b else a + b - c

/-- The zig-zag code of a sample against its prediction (R428). -/
def zigzag (bits x pred : Nat) : Nat :=
  let e := toSigned bits (ofSigned bits ((x : Int) - pred))
  if 0 ≤ e then (2 * e).toNat else (-2 * e - 1).toNat

/-- The sample a zig-zag code stands for. -/
def unzigzag (bits u pred : Nat) : Nat :=
  ofSigned bits ((pred : Int) + (if u % 2 = 0 then ((u / 2 : Nat) : Int) else -(((u + 1) / 2 : Nat) : Int)))

/-- The codes of a row in the block's first line: each sample from the one to its left. -/
def codeFirst (bits : Nat) : Nat → List Nat → List Nat
  | _, [] => []
  | left, x :: r => zigzag bits x left :: codeFirst bits x r

/-- The codes of a later row: `above` is the row before, `a` the left sample, `c` the one above it; at the row's start both
are the sample above. -/
def codeNext (bits : Nat) : Option (Nat × Nat) → List Nat → List Nat → List Nat
  | _, [], _ => []
  | _, _, [] => []
  | left, b :: above, x :: r =>
    let ac := left.getD (b, b)
    zigzag bits x (predictFrom ac.1 b ac.2) :: codeNext bits (some (x, b)) above r

/-- The inverse of `codeFirst`. -/
def plainFirst (bits : Nat) : Nat → List Nat → List Nat
  | _, [] => []
  | left, u :: r => let x := unzigzag bits u left; x :: plainFirst bits x r

/-- The inverse of `codeNext`. -/
def plainNext (bits : Nat) : Option (Nat × Nat) → List Nat → List Nat → List Nat
  | _, [], _ => []
  | _, _, [] => []
  | left, b :: above, u :: r =>
    let ac := left.getD (b, b)
    let x := unzigzag bits u (predictFrom ac.1 b ac.2)
    x :: plainNext bits (some (x, b)) above r

/-- The codes of a row, given the row above. -/
def rowCodes (bits : Nat) (above : Option (List Nat)) (row : List Nat) : List Nat :=
  match above with
  | none => codeFirst bits (2 ^ (bits - 1)) row
  | some p => codeNext bits none p row

/-- The row that codes stand for, given the row above. -/
def rowPlain (bits : Nat) (above : Option (List Nat)) (codes : List Nat) : List Nat :=
  match above with
  | none => plainFirst bits (2 ^ (bits - 1)) codes
  | some p => plainNext bits none p codes

/-! ## Runs -/

/-- The parameter of a run after a run of `n` codes that sum to `s` (R429). -/
def runK (bits n s : Nat) : Nat :=
  (List.range bits).foldl (fun k _ => if k + 1 < bits ∧ n * 2 ^ (k + 1) ≤ s then k + 1 else k) 0

/-- The parameter of the next run of a band: `prev` is the run before it, none at the block's start. -/
def nextK (bits : Nat) (prev : Option (Nat × Nat)) : Nat :=
  match prev with | none => bits / 2 | some (n, s) => runK bits n s

/-- The low `n` bits of a number, most significant first. -/
def msbBits (n v : Nat) : List Bool := (List.range n).map (fun i => v.testBit (n - 1 - i))

/-- The number that bits spell, most significant first. -/
def ofMsbBits (l : List Bool) : Nat := l.foldl (fun a b => 2 * a + (if b then 1 else 0)) 0

/-- One code in a run of parameter k (R429). -/
def codeBits (bits k u : Nat) : List Bool :=
  let q := u / 2 ^ k
  if q < 24 then List.replicate q true ++ [false] ++ msbBits k u else List.replicate 24 true ++ msbBits bits u

/-- A row's codes in runs of 32 (R429): the bits, and the last run. -/
def runBits (bits : Nat) : Nat → Option (Nat × Nat) → List Nat → List Bool × Option (Nat × Nat)
  | 0, prev, _ => ([], prev)
  | fuel + 1, prev, l =>
    if l.isEmpty then ([], prev)
    else
      let run := l.take 32
      let k := nextK bits prev
      let rest := runBits bits fuel (some (run.length, run.foldl (· + ·) 0)) (l.drop 32)
      (run.flatMap (codeBits bits k) ++ rest.1, rest.2)

/-- The first code that bits spell, and the bits after it; none when they end. -/
def readCode (bits k : Nat) (l : List Bool) : Option (Nat × List Bool) :=
  let ones := ((l.take 24).takeWhile id).length
  let need := if ones = 24 then 24 + bits else ones + 1 + k
  if l.length < need then none
  else if ones = 24 then some (ofMsbBits ((l.drop 24).take bits), l.drop need)
  else some (ones * 2 ^ k + ofMsbBits ((l.drop (ones + 1)).take k), l.drop need)

/-- `n` codes of one parameter. -/
def readCodes (bits k : Nat) : Nat → List Bool → Option (List Nat × List Bool)
  | 0, l => some ([], l)
  | n + 1, l =>
    match readCode bits k l with
    | none => none
    | some (u, l1) => (readCodes bits k n l1).map (fun p => (u :: p.1, p.2))

/-- A row of `width` codes, run by run. -/
def readRow (bits : Nat) : Nat → Nat → Option (Nat × Nat) → List Bool → Option (List Nat × Option (Nat × Nat) × List Bool)
  | 0, _, prev, l => some ([], prev, l)
  | fuel + 1, width, prev, l =>
    if width = 0 then some ([], prev, l)
    else
      let n := Nat.min 32 width
      match readCodes bits (nextK bits prev) n l with
      | none => none
      | some (us, l1) =>
        (readRow bits fuel (width - n) (some (n, us.foldl (· + ·) 0)) l1).map (fun p => (us ++ p.1, p.2))

/-- Bits as bytes, bit i in bit i mod 8 of byte i / 8, padded to a multiple of 4 bytes (R429). -/
def bitBytes (l : List Bool) : Bytes :=
  (List.range (pad4 (ceilDiv l.length 8))).map (fun i => BitVec.ofNat 8 ((List.range 8).foldl (fun a b =>
    a + (if l.getD (8 * i + b) false then 2 ^ b else 0)) 0))

/-- The bits of bytes, in the same order. -/
def bytesBits (b : Bytes) : List Bool := b.flatMap (fun x => (List.range 8).map (fun i => x.toNat.testBit i))

/-- The bitstream of a sample array (R428, R429): line by line, in a line band by band. The state carries per band the row
above and the run before. -/
def codeSamples (a : Bytes) (width bands bits lines : Nat) : List Bool :=
  ((List.range lines).foldl (fun (acc : List Bool × List (Option (List Nat) × Option (Nat × Nat))) y =>
    (List.range bands).foldl (fun acc b =>
      let st := acc.2.getD b (none, none)
      let row := planeRow a width bands bits y b
      let r := runBits bits (width + 1) st.2 (rowCodes bits st.1 row)
      (acc.1 ++ r.1, acc.2.set b (some row, r.2))) acc)
    ([], List.replicate bands (none, none))).1

/-- The rows of a bitstream, line by line and band by band, and the bits left; none when it ends early (R431). -/
def decodeRows (width bands bits lines : Nat) (l : List Bool) : Option (List (List Nat) × List Bool) :=
  ((List.range lines).foldl (fun (acc : Option (List (List Nat) × List (Option (List Nat) × Option (Nat × Nat)) × List Bool)) _ =>
    (List.range bands).foldl (fun acc b =>
      match acc with
      | none => none
      | some (rows, sts, rest) =>
        let st := sts.getD b (none, none)
        match readRow bits (width + 1) width st.2 rest with
        | none => none
        | some (us, run, rest1) =>
          let row := rowPlain bits st.1 us
          some (rows ++ [row], sts.set b (some row, run), rest1)) acc)
    (some ([], List.replicate bands (none, none), l))).map (fun p => (p.1, p.2.2))

/-- The sample array of decoded rows (R427). -/
def samplesOf (width bands bits lines : Nat) (rows : List (List Nat)) : Bytes :=
  packSamples bits ((List.range lines).flatMap (fun y => (List.range width).flatMap (fun x =>
    (List.range bands).map (fun b => natAt (rows.getD (y * bands + b) []) x))))

/-! ## Blocks -/

/-- The header of a block (R426). -/
def blockHeader (stored fail : Bool) (bands bits pre width lines post length : Nat) : Bytes :=
  leBytes 1 0xCB ++ leBytes 1 ((if stored then 0x80 else 0) + (if fail then 0x40 else 0)) ++
  leBytes 1 ((bands - 1) * 64 + bits) ++ leBytes 1 pre ++ leBytes 3 width ++ leBytes 1 0 ++ leBytes 2 lines ++
  leBytes 2 post ++ leBytes 4 length

/-- A block around a body: header, body, CRC-32C (R426). -/
def blockOf (stored fail : Bool) (bands bits pre width lines post : Nat) (body : Bytes) : Bytes :=
  let b := blockHeader stored fail bands bits pre width lines post (body.length + 20) ++ body
  b ++ leBytes 4 (crc32c b)

/-- The outcome of coding: the block, whether it is stored, whether the self-check failed (R430). -/
structure Coded where
  block : Bytes
  stored : Bool
  failed : Bool
  deriving DecidableEq, Repr

/-- A raw input coded (R427 to R430). `fault` says that the coder's own decoding went wrong; an array whose padding is not
0 fails the comparison too. -/
def codeBlock (raw : Bytes) (pre post width bands bits lines : Nat) (fault : Bool) : Coded :=
  let n := sampleBytes width bands bits lines
  let a := slice raw pre n
  let stream := bitBytes (codeSamples a width bands bits lines)
  let again := (decodeRows width bands bits lines (bytesBits stream)).map (fun p => samplesOf width bands bits lines p.1)
  let bad := fault || decide (again ≠ some a)
  let body := raw.take pre ++ stream ++ raw.drop (pre + n)
  if bad then ⟨blockOf true true bands bits pre width lines post raw, true, true⟩
  else if raw.length ≤ body.length + 20 then ⟨blockOf true false bands bits pre width lines post raw, true, false⟩
  else ⟨blockOf false false bands bits pre width lines post body, false, false⟩

/-- The raw bytes of a block, or none where the block fails (R431). -/
def decodeBlock (b : Bytes) : Option Bytes :=
  let bits := u8At b 2 % 32
  let bands := u8At b 2 / 64 + 1
  let pre := u8At b 3
  let width := fieldAt b 4 3
  let lines := u16At b 8
  let post := u16At b 10
  let n := sampleBytes width bands bits lines
  let body := (b.take (b.length - 4)).drop 16
  if b.length < 20 ∨ u8At b 0 ≠ 0xCB ∨ bitOf (u8At b 2) 5 ∨ bits ∉ [8, 10, 12, 14, 16] ∨ u32At b 12 ≠ b.length ∨
      u32At b (b.length - 4) ≠ crc32c (b.take (b.length - 4)) ∨ body.length < pre + post ∨ 1048576 < pre + n + post then none
  else if bitOf (u8At b 1) 7 then (if body.length = pre + n + post then some body else none)
  else
    let stream := (body.take (body.length - post)).drop pre
    match decodeRows width bands bits lines (bytesBits stream) with
    | none => none
    | some (rows, rest) =>
      if rest.any id then none
      else some (body.take pre ++ samplesOf width bands bits lines rows ++ body.drop (body.length - post))

/-- The lines of a sample array of `count` bytes (R432): the most that fit, 1 to 4,096. -/
def arrayLines (width bands bits count : Nat) : Option Nat :=
  ((List.range 4096).reverse.map (· + 1)).find? (fun l => sampleBytes width bands bits l = count)

/-! ## Check values -/

/-- The width in bytes and the value of a check unit's CRC (R433). -/
def checkWidth (u : Nat) : Nat := if u ≤ 1 then 4 else if u = 2 then 2 else 1
def checkValueOf (u : Nat) (b : Bytes) : Nat :=
  if u = 0 then crc32c b else if u = 1 then crc32 b else if u = 2 then crc16 b else crc8 b

/-! ## Reshuffle modes -/

/-- The source offset of destination byte `o` under PLANAR (R418): depth `d`, element bytes `e`, plane bytes `pl`. -/
def planarFrom (d e pl o : Nat) : Nat := (o % pl / e * d + o / pl) * e + o % e

/-- The source offset of destination byte `o` under INTERLEAVE. -/
def interleaveFrom (d e pl o : Nat) : Nat := o / e % d * pl + o / e / d * e + o % e

/-- Byte `i` of a string as a number. -/
def natByte (b : Bytes) (i : Nat) : Nat := (b.getD i 0).toNat

/-- Eight bits as a byte, bit 0 first. -/
def byteOfBits (f : Nat → Bool) : Byte :=
  BitVec.ofNat 8 ((List.range 8).foldl (fun a t => a + (if f t then 2 ^ t else 0)) 0)

/-- Bit `k` of sample `i` of `w` bits, little-endian. -/
def sampleBit (w : Nat) (b : Bytes) (i k : Nat) : Bool := (natByte b (i * (w / 8) + k / 8)).testBit (k % 8)

/-- Source bytes moved by a mode (R418). -/
def reshuffle (mode param : Nat) (src : Bytes) : Bytes :=
  let n := src.length
  let d := param / 16
  let e := 2 ^ (param % 16)
  let w := if bitOf param 0 then 16 else 8
  let plane := n / w
  if mode = 1 then (List.range n).map (fun o => src.getD (planarFrom d e (n / d) o) 0)
  else if mode = 2 then (List.range n).map (fun o => src.getD (interleaveFrom d e (n / d) o) 0)
  else if mode = 3 then
    (List.range n).map (fun o => byteOfBits (fun t => sampleBit w src (8 * (o % plane) + t) (o / plane)))
  else if mode = 4 then
    (List.range n).map (fun o =>
      let i := o / (w / 8)
      byteOfBits (fun t => (natByte src ((8 * (o % (w / 8)) + t) * plane + i / 8)).testBit (i % 8)))
  else src

/-- The group of source bytes a mode counts in (R421). -/
def modeGroup (mode param : Nat) : Nat :=
  if mode = 1 ∨ mode = 2 then 8 * (param / 16) else if mode = 3 ∨ mode = 4 then (if bitOf param 0 then 64 else 32) else 1

/-- Source bytes all of whose output lies in the first `sent` bytes of it (R421). -/
def bytesDoneOf (mode param count sent : Nat) : Nat :=
  let g := modeGroup mode param
  let planes := if mode = 1 then param / 16 else if mode = 3 then (if bitOf param 0 then 16 else 8) else 1
  if count ≤ sent then count else (sent - (planes - 1) * (count / planes)) * planes / g * g

end Sys2Proof.Machine
end

