-- ==== Sys2Proof/Machine/Dma.lean ====
section
/-! DEFINITION. The DMA engine (R409 to R424), the codec's queues (R425, R430 to R432) and the check-value units (R434,
R435). -/

namespace Sys2Proof.Machine

def State.modEngine (s : State) (f : DmaEngine → DmaEngine) : State := { s with dma := f s.dma }
def State.dch (s : State) (c : Nat) : Dma := s.dma.channels.getD c Dma.reset
def State.modDch (s : State) (c : Nat) (f : Dma → Dma) : State :=
  s.modEngine (fun e => { e with channels := e.channels.modify c f })

/-! ## Descriptors -/

/-- The fields of a descriptor (R410). -/
def descSrc (d : Bytes) : Nat := u64At d 0
def descDst (d : Bytes) : Nat := u64At d 8
def descCount (d : Bytes) : Nat := u32At d 16
def descNext (d : Bytes) : Nat := u16At d 20
def descRing (d : Bytes) : Bool := bitOf (u8At d 22) 7
def descIrq (d : Bytes) : Bool := bitOf (u8At d 22) 6
def descCont (d : Bytes) : Bool := bitOf (u8At d 22) 5
def descFollow (d : Bytes) : Bool := bitOf (u8At d 22) 4
def descAdvance (d : Bytes) : Bool := bitOf (u8At d 22) 3
def descAutoSrc (d : Bytes) : Bool := bitOf (u8At d 22) 2
def descAutoDst (d : Bytes) : Bool := bitOf (u8At d 22) 1
def descMode (d : Bytes) : Nat := u8At d 23
def descParam (d : Bytes) : Nat := u8At d 24
def descAction (d : Bytes) : Nat := u8At d 25 / 64
def descUnit (d : Bytes) : Nat := u8At d 25 % 4
def descTag (d : Bytes) : Nat := u32At d 28

/-- The fields of an address (R411). -/
def addrSpace (a : Nat) : Nat := a / 2 ^ 60
def addrRing (a : Nat) : Nat := a / 2 ^ 48 % 32
def addrOffset (a : Nat) : Nat := a % 2 ^ 48
def addrPch (a : Nat) : Nat := a / 2 ^ 32 % 64
def addrPa (a : Nat) : Nat := a % 2 ^ 29
def addrXbuf (a : Nat) : Nat := a % 2 ^ 20
def addrEth (a : Nat) : Nat := a / 2 ^ 32 % 2

/-- The descriptor a channel would fetch now. -/
def State.descriptor (s : State) (n : Nat) : Bytes := Mem.readBytes s.dma.table (32 * n) 32

/-- CODEC_GEOM of a channel (R437). -/
def State.geomNoGrow (s : State) (c : Nat) : Bool := bitOf (s.num (Obj.dchCodecGeom c)) 31
def State.geomBands (s : State) (c : Nat) : Nat := s.num (Obj.dchCodecGeom c) / 2 ^ 29 % 4 + 1
def State.geomBits (s : State) (c : Nat) : Nat := s.num (Obj.dchCodecGeom c) / 2 ^ 24 % 32
def State.geomWidth (s : State) (c : Nat) : Nat := s.num (Obj.dchCodecGeom c) % 2 ^ 19

/-- Whether a source address is allowed, and its reserved bits are 0 (R411, R412). -/
def State.srcOk (s : State) (a : Nat) : Bool :=
  let low := a % 2 ^ 60
  if addrSpace a = 1 then decide (low < 2 ^ 53) && decide (addrRing a < 24) && (s.ring (addrRing a)).plan.enabled
  else if addrSpace a = 2 then decide (low < 2 ^ 38) && decide (low % 2 ^ 32 < 2 ^ 29) && decide (addrPch a < s.ctl.part.pchs)
  else if addrSpace a = 3 then decide (low < 2 ^ 20)
  else addrSpace a = 5 && low = 0

/-- Whether a destination address is allowed, and its reserved bits are 0. -/
def State.dstOk (s : State) (a : Nat) : Bool :=
  let low := a % 2 ^ 60
  if addrSpace a = 1 then decide (low < 2 ^ 53) && decide (addrRing a < 24) && (s.ring (addrRing a)).plan.enabled
  else if addrSpace a = 3 then decide (low < 2 ^ 20)
  else if addrSpace a = 4 then low = 0 || low = 2 ^ 32
  else addrSpace a = 6 && low = 0

/-- COUNT and PARAM under the rules of MODE (R418, R432). -/
def State.modeOk (s : State) (c : Nat) (d : Bytes) : Bool :=
  let n := descCount d
  let p := descParam d
  let g := modeGroup (descMode d) p
  if n < 4 ∨ n % 4 ≠ 0 then false
  else if descMode d = 1 ∨ descMode d = 2 then
    decide (2 ≤ p / 16) && decide (p / 16 ≤ 8) && decide (p % 16 ≤ 3) && decide (n % g = 0)
  else if descMode d = 3 ∨ descMode d = 4 then decide (p ≤ 1) && decide (n % g = 0)
  else if descMode d = 5 then
    p = 0 && decide (n ≤ 1048576) && (arrayLines (s.geomWidth c) (s.geomBands c) (s.geomBits c) n).isSome
  else p = 0

/-- The checks of R412 in their order: the code of the first that fails. -/
def State.fetchCheck (s : State) (c n : Nat) (d : Bytes) : Option Nat :=
  let x := s.dch c
  let count := if descRing d then 1 else x.traversal + 1
  if descNext d ≠ 0xFFFF ∧ 2048 ≤ descNext d then some Code.outOfRange
  else if descNext d = n ∧ !descRing d then some Code.loop
  else if s.num Obj.dmaBudget < count then some Code.loop
  else if !s.srcOk (descSrc d) ∨ !s.dstOk (descDst d) then some Code.outOfRange
  else if bitOf (u8At d 22) 0 ∨ 6 < descMode d ∨ u8At d 25 / 4 % 16 ≠ 0 ∨ u16At d 26 ≠ 0 ∨ !s.modeOk c d then
    some Code.outOfRange
  else if 5 ≤ descMode d ∧ (!s.ctl.part.hasCodec ∨ (descAction d ≠ 0 ∧ descAction d ≠ 3)) then some Code.outOfRange
  else if x.cont.isSome ∧ (x.cont ≠ some (descUnit d) ∨ descAction d = 0) then some Code.outOfRange
  else if descFollow d ∧ (addrSpace (descSrc d) ≠ 1 ∨
      (s.ring (addrRing (descSrc d))).plan.cap + addrOffset (descSrc d) < (s.ring (addrRing (descSrc d))).writePtr) then
    some Code.outOfRange
  else none

/-! ## Check-value units -/

/-- A unit released (R434): whoever waits is granted it at CHECK_UNIT_GRANT. -/
def State.releaseUnit (s : State) (c : Nat) : State :=
  (s.modEngine (fun e => { e with holders := e.holders.map (fun h => if h = c then 0xFF else h),
                                  waiters := e.waiters.map (fun w => w.filter (· ≠ c)) })).modDch c
    (fun x => { x with unit := none, stream := [], waiting := false })

/-- A unit taken by a channel for a new stream (R434, R439). -/
def State.takeUnit (s : State) (c u action : Nat) : State :=
  ((s.modEngine (fun e => { e with holders := e.holders.set u c })).modDch c
    (fun x => { x with unit := some (u, action), stream := [], waiting := false })).bump (Obj.chkStreams u)

/-- The valve buses hold the CRC-16 unit while any of them is enabled (R361, R434). -/
def State.valveUnit (s : State) (anyEnabled : Bool) : State :=
  s.modEngine (fun e =>
    let h := e.holders.getD 2 0xFF
    let w := e.waiters.getD 2 []
    if anyEnabled then
      if h = 0x40 ∨ 0x40 ∈ w then e
      else if h = 0xFF ∧ w.isEmpty then { e with holders := e.holders.set 2 0x40 }
      else { e with waiters := e.waiters.set 2 (w ++ [0x40]) }
    else { e with holders := if h = 0x40 then e.holders.set 2 0xFF else e.holders,
                  waiters := e.waiters.set 2 (w.filter (· ≠ 0x40)) })

/-! ## The life of a channel -/

/-- IRQ_PENDING, DMA_DONE and the end-of-count event (R419). -/
def State.dmaSignals (s : State) (c : Nat) : State :=
  ((s.orFlags Obj.dmaIrqPending (2 ^ c)).event Ibi.dmaDone).raise false (0x040 + c) (s.num (Obj.dchDescDone c))

/-- A channel ended (R413, R420, R421): its cause and code, its unit released, its place in the codec's queue given up. -/
def State.dmaEnd (s : State) (c cause code : Nat) : State :=
  let s1 := (s.releaseUnit c).modDch c (fun x => { x with
    state := 5, cause := cause, code := code, current := none, inFlight := false, following := false, waiting := false,
    coded := none })
  let s2 := s1.modEngine (fun e => { e with dmaQueue := e.dmaQueue.filter (· ≠ .dma c) })
  let s3 := s2.bumpIf (cause = 4) Obj.dmaHalts
  if cause = 2 ∨ cause = 4 then s3.dmaSignals c else s3

/-- A channel whose descriptor may run: it queues for a buffer slot, or at the codec (R416, R425). -/
def State.dmaReady (s : State) (c : Nat) : State :=
  let x := s.dch c
  let s1 := s.modDch c (fun y => { y with state := 1, following := false, waiting := false })
  match x.current with
  | some d => if 5 ≤ descMode d then s1.modEngine (fun e => { e with dmaQueue := e.dmaQueue ++ [.dma c] }) else s1
  | none => s1

/-- The channel asks for its check unit, or goes on with what it holds (R434). -/
def State.dmaUnit (s : State) (c : Nat) : State :=
  match (s.dch c).current with
  | none => s
  | some d =>
    let u := descUnit d
    if descAction d = 0 ∨ (s.dch c).unit.isSome then s.dmaReady c
    else if s.dma.holders.getD u 0xFF = 0xFF ∧ (s.dma.waiters.getD u []).isEmpty then
      (s.takeUnit c u (descAction d)).dmaReady c
    else
      (s.modEngine (fun e => { e with waiters := e.waiters.modify u (fun w => w ++ [c]) })).modDch c
        (fun x => { x with state := 2, waiting := true })

/-- Whether a FOLLOW descriptor's source has come far enough (R415). -/
def State.followReached (s : State) (d : Bytes) : Bool :=
  decide (addrOffset (descSrc d) + descCount d ≤ (s.ring (addrRing (descSrc d))).writePtr)

/-- DESCRIPTOR_FETCH: a queued channel without a descriptor fetches the one it is at (R409, R412, R414); while the band is ALARM the
engine stands (R495). -/
def State.dmaFetch (s : State) (c : Nat) : State :=
  let x := s.dch c
  if x.state = 1 ∧ x.current.isNone ∧ s.power.band ≠ 4 then
    let d := s.descriptor x.desc
    let s1 := s.modDch c (fun y => { y with
      shown := x.desc, bytesDone := 0, residue := descCount d, outBytes := 0, hspSent := 0 })
    match s.fetchCheck c x.desc d with
    | some code => s1.dmaEnd c 4 code
    | none =>
      let s2 := s1.modDch c (fun y => { y with
        current := some d, tag := descTag d, traversal := if descRing d then 1 else x.traversal + 1 })
      if descFollow d ∧ !s.followReached d then s2.modDch c (fun y => { y with state := 2, following := true })
      else s2.dmaUnit c
  else s

/-- FOLLOW_READY (R415). -/
def State.followReady (s : State) (c : Nat) : State :=
  let x := s.dch c
  match x.current with
  | some d => if x.following ∧ s.followReached d then (s.modDch c (fun y => { y with following := false })).dmaUnit c else s
  | none => s

/-- CHECK_UNIT_GRANT: a free unit goes to the first that waits (R434). -/
def State.grantUnit (s : State) (u : Nat) : State :=
  if s.dma.holders.getD u 0xFF = 0xFF then
    match s.dma.waiters.getD u [] with
    | [] => s
    | c :: rest =>
      let s1 := s.modEngine (fun e => { e with waiters := e.waiters.set u rest })
      if c = 0x40 then s1.modEngine (fun e => { e with holders := e.holders.set u 0x40 })
      else (s1.takeUnit c u (((s.dch c).current.map descAction).getD 0)).dmaReady c
  else s

/-- Channels in flight (R416). -/
def State.inFlight (s : State) : Nat := (s.dma.channels.filter (·.inFlight)).length

/-- Whether a channel's descriptor is ready for a buffer slot. -/
def State.dmaWants (s : State) (c : Nat) : Bool :=
  let x := s.dch c
  x.state = 1 && !x.inFlight && (match x.current with | some d => decide (descMode d < 5) | none => false)

/-- The channel that enters flight next: highest PRIORITY, then lowest number (R416). -/
def State.dmaNext (s : State) : Option Nat :=
  let ready := (List.range 32).filter s.dmaWants
  let top := ready.foldl (fun m c => Nat.max m (s.num (Obj.dchPriority c))) 0
  ready.find? (fun c => s.num (Obj.dchPriority c) = top)

/-- FLIGHT_ENTRY (R416). -/
def State.flightEntry (s : State) : State :=
  if s.inFlight < 16 then
    match s.dmaNext with
    | some c => s.modDch c (fun x => { x with state := 3, inFlight := true, issuedAt := s.clk })
    | none => s
  else s

/-- START (R414, R422): whether it answers BUSY is the request's part; an idle or ended channel runs from the
descriptor. -/
def State.dmaStart (s : State) (c n : Nat) : State :=
  s.modDch c (fun x => { Dma.reset with
    state := 1, desc := n, started := some n, stream := [], issuedAt := x.issuedAt })

/-- Whether START answers BUSY (R422, R503). -/
def State.dmaBusy (s : State) (c : Nat) : Bool :=
  s.retired Unit.dma c || ((s.dch c).state ≠ 0 && (s.dch c).state ≠ 5)

/-! ## Moving -/

/-- Whether byte `k` of a source can be read through a port (R394, R398). -/
def State.srcByteOk (s : State) (port a k : Nat) : Bool :=
  if addrSpace a = 1 then
    let q := (s.ring (addrRing a)).plan
    let o := (addrOffset a + k) % q.cap
    decide (q.cap ≠ 0) && !s.retired Unit.pch (q.byteAt o).1 && !s.burstFailed port (q.addr o)
  else if addrSpace a = 2 then
    !s.retired Unit.pch (addrPch a) && !s.burstFailed port (hbmAddr (addrPch a) ((addrPa a + k) % 2 ^ 29))
  else true

/-- How many of the first `n` bytes of a source can be read before the first that HBM cannot give (R394, R398, R421). -/
def State.dmaReadable (s : State) (port a n : Nat) : Nat :=
  ((List.range n).find? (fun k => !s.srcByteOk port a k)).getD n

/-- Source bytes (R411). -/
def State.dmaBytes (s : State) (a n : Nat) : Bytes :=
  if addrSpace a = 1 then
    let q := (s.ring (addrRing a)).plan
    q.read s.hbm.mem (addrOffset a % q.cap) n
  else if addrSpace a = 2 then (List.range n).map (fun k => s.hbmByte (addrPch a) ((addrPa a + k) % 2 ^ 29))
  else if addrSpace a = 3 then (List.range n).map (fun k => Mem.read s.dma.xbuf ((addrXbuf a + k) % 2 ^ 20))
  else zeros n

/-- Source bytes read through a port, or none where HBM cannot give them all (R398, R411, R421). -/
def State.readBy (s : State) (port a n : Nat) : Option Bytes :=
  if s.dmaReadable port a n = n then some (s.dmaBytes a n) else none

/-- The DMA read engine's source bytes. -/
def State.dmaRead (s : State) (a n : Nat) : Option Bytes := s.readBy 5 a n

/-- The bursts of HBM that `n` bytes at an address lie in, by their addresses in the store. -/
def State.dmaBursts (s : State) (a n : Nat) : List Nat :=
  if addrSpace a = 1 then (s.ring (addrRing a)).plan.burstsAt (addrOffset a % (s.ring (addrRing a)).plan.cap) n
  else if addrSpace a = 2 then burstsOf (hbmAddr (addrPch a) (addrPa a)) n
  else []

/-- The requests of `n` bytes at an address, through a port (R381, R417): what went wrong there has been found. -/
def State.dmaAccess (s : State) (port a n : Nat) : State :=
  let bursts := s.dmaBursts a n
  if bursts = [] then s else ((s.hbmTouch port (bursts.map (· / 2 ^ 29)).eraseDups).hbmFailed port bursts).1

/-- XBUF replaced (R74, R411). -/
def State.xbufReplaced (s : State) : State := s.blobReplaced Obj.dmaXbuf

/-- One byte written to a ring; one that maps to a retired channel is dropped (R398). -/
def State.ringByte (s : State) (q : RingPlan) (a : Nat) (b : Byte) : State :=
  if q.cap = 0 ∨ s.retired Unit.pch (q.byteAt (a % q.cap)).1 then s
  else s.modHbm (fun h => { h with mem := Mem.write h.mem (q.addr (a % q.cap)) b })

/-- How many of the first `n` bytes of a destination can be written before a burst whose write ended with DATA_ERROR (R393, R394). -/
def State.dmaWritable (s : State) (port a n : Nat) : Nat :=
  if addrSpace a = 1 ∧ s.hbm.failed ≠ [] then
    let q := (s.ring (addrRing a)).plan
    ((List.range n).find? (fun k => s.burstFailed port (q.addr ((addrOffset a + k) % q.cap)))).getD n
  else n

/-- Destination bytes written, each with its offset (R411); HSP goes by `dmaHsp`. A write to a ring of which a part maps to a retired
channel is counted there as a dropped record (R398). -/
def State.dmaWrite (s : State) (a : Nat) (l : List (Nat × Byte)) : State :=
  if addrSpace a = 1 then
    let q := (s.ring (addrRing a)).plan
    let lost := l.any (fun p => decide (q.cap ≠ 0) && s.retired Unit.pch (q.byteAt ((addrOffset a + p.1) % q.cap)).1)
    (l.foldl (fun acc p => acc.ringByte q (addrOffset a + p.1) p.2) s).bumpIf lost (Obj.ringDropped (addrRing a))
  else if addrSpace a = 3 then
    (s.modEngine (fun e => { e with
      xbuf := l.foldl (fun m p => Mem.write m ((addrXbuf a + p.1) % 2 ^ 20) p.2) e.xbuf,
      xbufLen := l.foldl (fun n p => Nat.max n ((addrXbuf a + p.1) % 2 ^ 20 + 1)) e.xbufLen })).xbufReplaced
  else s

/-- Whether the descriptor in progress is the last of its check stream (R434, R435). -/
def streamLast (d : Bytes) : Bool := !descCont d || descNext d = 0xFFFF

/-- The bytes the check unit has seen once this descriptor is done (R435). -/
def checkBytes (x : Dma) (d src out : Bytes) : Bytes := x.stream ++ (if descAction d = 2 then src else out)

/-- The output of a descriptor with the offset of each byte: under APPEND the CRC follows, under CHECK what comes from
the received CRC is not written (R435). -/
def dmaOutput (x : Dma) (d src : Bytes) : List (Nat × Byte) :=
  let out := reshuffle (descMode d) (descParam d) src
  let w := checkWidth (descUnit d)
  let pairs := List.zip (List.range out.length) out
  if !streamLast d then pairs
  else if descAction d = 1 then
    pairs ++ List.zip (rangeFrom out.length w) (leBytes w (checkValueOf (descUnit d) (checkBytes x d src out)))
  else if descAction d = 2 then
    let mark := reshuffle (descMode d) (descParam d) (zeros (src.length - w) ++ List.replicate w 0xFF)
    pairs.filter (fun p => mark.getD p.1 0 = 0)
  else pairs

/-- Bytes added to an address's offset field in the descriptor table, for the spaces that have one (R415). -/
def addrAdvanced (a n : Nat) : Nat :=
  if addrSpace a = 1 then a - addrOffset a + (addrOffset a + n) % 2 ^ 48
  else if addrSpace a = 2 then a - addrPa a + (addrPa a + n) % 2 ^ 29
  else if addrSpace a = 3 then a - addrXbuf a + (addrXbuf a + n) % 2 ^ 20
  else a

/-- The ring controls at completion (R415). -/
def State.ringControls (s : State) (n : Nat) (d : Bytes) (outBytes : Nat) : State :=
  let src := descSrc d
  let s1 := if descAdvance d ∧ addrSpace src = 1 then
      s.modRing (addrRing src) (fun y => { y with readPtr := Nat.max y.readPtr (addrOffset src + descCount d) })
    else s
  let now := s1.descriptor n
  let put := fun (e : DmaEngine) (o v : Nat) => { e with table := Mem.writeBytes e.table (32 * n + o) (leBytes 8 v) }
  let s2 := if descAutoSrc d then s1.modEngine (fun e => put e 0 (addrAdvanced (descSrc now) (descCount d))) else s1
  if descAutoDst d then s2.modEngine (fun e => put e 8 (addrAdvanced (descDst now) outBytes)) else s2

/-- Whether a descriptor touches a domain that a power state stops (R424): DOZE stops the HBM stacks, DEEP every domain. -/
def descTouches (d : Bytes) (t : Power) : Bool :=
  match t with
  | .deep => true
  | .doze => [1, 2].contains (addrSpace (descSrc d)) || [1, 2].contains (addrSpace (descDst d))
  | _ => false

/-- Whether a power state that waits for its drain makes a channel park once its descriptor is done (R424). -/
def State.mustPark (s : State) (d : Bytes) : Bool :=
  match s.power.target with | some t => descTouches d t | none => false

/-- A descriptor completed (R413, R419): IRQ, DESC_DONE, the next descriptor, or the end of the chain. -/
def State.dmaNextDesc (s : State) (c : Nat) (d : Bytes) : State :=
  let s1 := s.bump (Obj.dchDescDone c)
  let s2 := if descIrq d then s1.dmaSignals c else s1
  if descNext d = 0xFFFF then s2.dmaEnd c 1 0
  else s2.modDch c (fun x => { x with
    state := if s.mustPark d then 4 else 1, desc := descNext d, current := none, inFlight := false, following := false,
    cont := if descCont d then some (descUnit d) else none })

/-- What completion does once the output is out (R415, R419, R421, R435). -/
def State.dmaFinish (s : State) (c : Nat) (d src out : Bytes) (outBytes : Nat) : State :=
  let x := s.dch c
  let u := descUnit d
  let w := checkWidth u
  let s1 := s.modDch c (fun y => { y with bytesDone := descCount d, residue := 0, outBytes := outBytes })
  if descAction d = 0 then (s1.ringControls x.desc d outBytes).dmaNextDesc c d
  else
    let seen := checkBytes x d src out
    if !streamLast d then
      ((s1.modDch c (fun y => { y with stream := seen })).ringControls x.desc d outBytes).dmaNextDesc c d
    else
      let received := if descAction d = 2 then leNat (seen.drop (seen.length - w)) else 0
      let value := checkValueOf u (if descAction d = 2 then seen.take (seen.length - w) else seen)
      let s2 := (s1.modDch c (fun y => { y with checkValue := value, checkReceived := received })).releaseUnit c
      if descAction d = 2 ∧ value ≠ received then (s2.bump (Obj.chkMismatches u)).dmaEnd c 4 Code.badCheck
      else (s2.ringControls x.desc d outBytes).dmaNextDesc c d

/-- Datagrams of a descriptor's output, of `total` bytes, queued while the port takes them (R457, R459): how many bytes are out. -/
def State.dmaHsp (s : State) (c p : Nat) (coded : Bool) (total : Nat) (out : Bytes) : Nat → Nat → State × Nat
  | 0, sent => (s, sent)
  | k + 1, sent =>
    let data := (out.drop sent).take 1408
    if data.isEmpty then (s, sent)
    else
      let r := s.resolve p (s.num (Obj.hspDDestIp c))
      if !(s.eth p).up then (s, sent)
      else if !r.2 then (r.1.bump (Obj.ethTxDropped p)).dmaHsp c p coded total out k (sent + data.length)
      else if !s.txRoom p data.length then (s, sent)
      else (r.1.hspPiece p (0x80 + c) (r.1.hspDest p (s.num (Obj.hspDDestIp c)) (s.num (Obj.hspDDestPort c))) (Obj.hspDDatagrams c) sent (sent = 0) (sent + data.length = total) coded
        data).dmaHsp c p coded total out k (sent + data.length)

/-- The bytes a descriptor's output has (R435): those of the codec once it has made them. -/
def outLength (x : Dma) (d : Bytes) : Nat :=
  match x.coded with
  | some b => b.length
  | none =>
    if streamLast d ∧ descAction d = 1 then descCount d + checkWidth (descUnit d)
    else if streamLast d ∧ descAction d = 2 then descCount d - checkWidth (descUnit d)
    else descCount d

/-- Whether a channel's port takes none of its output now: its link is down, or its queue is full (R423). -/
def State.hspBlocked (s : State) (c : Nat) : Bool :=
  match (s.dch c).current with
  | some d =>
    let p := addrEth (descDst d)
    addrSpace (descDst d) = 4 && (!(s.eth p).up || !s.txRoom p (Nat.min 1408 (outLength (s.dch c) d - (s.dch c).hspSent)))
  | none => false

/-- Whether the engines serve a channel in flight (R416): no channel in flight of a higher PRIORITY has a burst ready. Among equals they
go round, so each of them comes to its end. -/
def State.dmaServes (s : State) (c : Nat) : Bool :=
  (List.range 32).all (fun k =>
    !((s.dch k).inFlight && decide (s.num (Obj.dchPriority c) < s.num (Obj.dchPriority k)) && !s.hspBlocked k))

/-- BYTES_DONE once the first `sent` bytes of a descriptor's output are out (R421). -/
def sentDone (d : Bytes) (sent : Nat) : Nat :=
  if 5 ≤ descMode d then 0 else bytesDoneOf (descMode d) (descParam d) (descCount d) (Nat.min sent (descCount d))

/-- The exact status of a channel that ends inside a descriptor, with `sent` bytes of its output out (R420, R421). -/
def State.dmaStatus (s : State) (c : Nat) (d : Bytes) (sent : Nat) : State :=
  s.modDch c (fun y => { y with bytesDone := sentDone d sent, residue := descCount d - sentDone d sent, outBytes := sent })

/-- How many bytes of a descriptor's output can be made of the first `n` bytes of its source (R418). -/
def outReady (d : Bytes) (n : Nat) : Nat :=
  if descCount d ≤ n then descCount d
  else (reshuffle (descMode d) (descParam d) (zeros n ++ List.replicate (descCount d - n) 0xFF)).findIdx (· ≠ 0)

/-- HBM has returned DATA_ERROR to a channel in flight (R394, R421): what could be made of the source bytes before is out, and the status
is exact. -/
def State.dmaDataError (s : State) (c : Nat) (d : Bytes) : State :=
  let x := s.dch c
  let sent := Nat.min (outReady d (s.dmaReadable 5 (descSrc d) (descCount d))) (s.dmaWritable 4 (descDst d) (descCount d))
  let pairs := (dmaOutput x d (s.dmaBytes (descSrc d) (descCount d))).filter (fun p => decide (p.1 < sent))
  let s1 := (s.dmaAccess 5 (descSrc d) (descCount d)).dmaAccess 4 (descDst d) (descCount d)
  if addrSpace (descDst d) = 4 then
    let whole := pairs.map (·.2) |>.take (sent / 1408 * 1408)
    let r := s1.dmaHsp c (addrEth (descDst d)) false (outLength x d) whole (whole.length / 1408 + 1) x.hspSent
    (r.1.dmaStatus c d r.2).dmaEnd c 4 Code.dataError
  else ((s1.dmaWrite (descDst d) pairs).dmaStatus c d sent).dmaEnd c 4 Code.dataError

/-- DESCRIPTOR_DONE: the descriptor of a channel in flight moves its data and completes (R416, R418, R419). Data that HBM cannot
give or take ends the channel (R421); output that a port does not yet take leaves it running (R459). -/
def State.descriptorDone (s : State) (c : Nat) : State :=
  let x := s.dch c
  match x.current with
  | none => s
  | some d =>
    if x.state ≠ 3 ∨ !x.inFlight ∨ !s.dmaServes c then s
    else
      match s.dmaRead (descSrc d) (descCount d) with
      | none => s.dmaDataError c d
      | some src =>
        let pairs := dmaOutput x d src
        let out := pairs.map (·.2)
        let outBytes := if streamLast d ∧ descAction d = 1 then descCount d + checkWidth (descUnit d) else descCount d
        if s.dmaWritable 4 (descDst d) outBytes < outBytes then s.dmaDataError c d
        else
          let s1 := s.dmaAccess 5 (descSrc d) (descCount d)
          if addrSpace (descDst d) = 4 then
            let r := s1.dmaHsp c (addrEth (descDst d)) false out.length out (out.length / 1408 + 1) x.hspSent
            if r.2 = out.length then r.1.dmaFinish c d src out outBytes
            else r.1.modDch c (fun y => { y with hspSent := r.2, issuedAt := if r.2 = x.hspSent then y.issuedAt else s.clk })
          else ((s1.dmaAccess 4 (descDst d) outBytes).dmaWrite (descDst d) pairs).dmaFinish c d src out outBytes

/-- BUS_ERROR: the port has taken nothing for 10 µs (R423). -/
def State.busError (s : State) (c : Nat) : State :=
  let x := s.dch c
  match x.current with
  | none => s
  | some d =>
    if x.state = 3 ∧ addrSpace (descDst d) = 4 ∧ x.issuedAt + 10000 ≤ s.clk ∧ s.hspBlocked c then
      (s.dmaStatus c d x.hspSent).dmaEnd c 4 Code.busError
    else s

/-- The bursts of a destination (R416): up to 4 KiB, split at every 4 KiB boundary of the target address; where burst `k` ends in
`count` bytes of output. -/
def burstEnd (a count k : Nat) : Nat := if k = 0 then 0 else Nat.min count (4096 * k - addrOffset a % 4096)
def burstCount (a count : Nat) : Nat := ceilDiv (addrOffset a % 4096 + count) 4096

/-- How much of a descriptor's output a stop finds out (R420): known for HSP, otherwise the bursts issued by then, whose number is free;
the codec's output is out in one piece. -/
def State.stopSent (s : State) (x : Dma) (d : Bytes) : Nat :=
  if addrSpace (descDst d) = 4 then x.hspSent
  else if 5 ≤ descMode d then 0
  else
    burstEnd (descDst d) (descCount d) ((Config.dmaProgress s.free).toNat % (burstCount (descDst d) (descCount d) + 1))

/-- The first `sent` bytes of a descriptor's output written (R420). -/
def State.partialWrite (s : State) (x : Dma) (d : Bytes) (sent : Nat) : State :=
  let s1 := s.dmaAccess 5 (descSrc d) (descCount d)
  (s1.dmaAccess 4 (descDst d) sent).dmaWrite (descDst d)
    ((dmaOutput x d (s.dmaBytes (descSrc d) (descCount d))).filter (fun p => decide (p.1 < sent)))

/-- A channel cut off inside its descriptor: the bursts issued complete, and the status is exact (R420, R421). One that is not in flight
has moved nothing. -/
def State.dmaCut (s : State) (c : Nat) : State :=
  let x := s.dch c
  match x.current with
  | none => s
  | some d =>
    if x.state ≠ 3 then s
    else
      let sent := s.stopSent x d
      if addrSpace (descDst d) = 4 then s.dmaStatus c d sent
      else ((s.partialWrite x d sent).drawn).dmaStatus c d sent

/-- Whether a STOP finds the last write of a chain done (R422). -/
def State.stopLate (s : State) (c : Nat) : Bool :=
  let x := s.dch c
  match x.current with
  | none => false
  | some d => decide (x.state = 3) && x.inFlight && decide (descNext d = 0xFFFF) && decide (addrSpace (descDst d) ≠ 4) &&
      decide (s.stopSent x d = descCount d) && decide (s.dmaRead (descSrc d) (descCount d) ≠ none)

/-- STOP (R420, R422): an idle or ended channel is left; one that waits stops with nothing moved; one in flight is aborted with
exact status, or in TEACH and RUN disabled with none; one whose last write is done ends with END. -/
def State.dmaStop (s : State) (c : Nat) : State :=
  let x := s.dch c
  let disable := decide (s.ctl.mode = .teach) || decide (s.ctl.mode = .run)
  if x.state = 0 ∨ x.state = 5 then s
  else if s.stopLate c then s.drawn.descriptorDone c
  else if disable then
    ((s.dmaCut c).modDch c (fun y => { y with
      bytesDone := 0xFFFFFFFF, residue := 0xFFFFFFFF, outBytes := 0xFFFFFFFF })).dmaEnd c 3 0
  else (s.dmaCut c).dmaEnd c 2 0

/-- Whether a descriptor touches an HBM ring. -/
def descUses (d : Bytes) (r : Nat) : Bool :=
  (addrSpace (descSrc d) = 1 && addrRing (descSrc d) = r) || (addrSpace (descDst d) = 1 && addrRing (descDst d) = r)

/-- Whether a channel has a descriptor in progress. -/
def Dma.live (x : Dma) : Bool := x.current.isSome && decide (1 ≤ x.state) && decide (x.state ≤ 3)

/-- A ring that a descriptor in progress uses restarts: the channel ends with DOMAIN_LOST (R415). What it wrote into the ring is gone with
the ring's content. -/
def State.dmaRingLost (s : State) (r : Nat) : State :=
  (List.range 32).foldl (fun acc c =>
    match (acc.dch c).current with
    | some d =>
      if (acc.dch c).live ∧ descUses d r then
        (if addrSpace (descDst d) = 1 ∧ addrRing (descDst d) = r then acc.dmaStatus c d (acc.stopSent (acc.dch c) d) else acc.dmaCut c).dmaEnd
          c 4 Code.domainLost
      else acc
    | none => acc) s

/-- The rings that have restarted since a state end the channels that use them (R398, R415). -/
def State.ringsLost (s before : State) : State :=
  (List.range 24).foldl (fun (acc : State) r =>
    if ((before.ring r).reshape && !(s.ring r).reshape) || ((before.ring r).next.isSome && (s.ring r).next.isNone) then acc.dmaRingLost r
    else acc) s

/-- The rings at a frame start of their view, and at a commit's instant, with what their restart costs the channels (R401, R415, R552). -/
def State.ringsStart (s : State) (v : Nat) (reached : Nat → Bool) : State := (s.ringsAtFrame v reached).ringsLost s
def State.ringsInstant (s : State) : State := s.ringsAtInstant.ringsLost s

/-- The DMA engine and the codec are stopped without waiting: each channel in a descriptor ends with DOMAIN_LOST (R424, R495). -/
def State.dmaForced (s : State) : State :=
  (List.range 32).foldl (fun acc c => if (acc.dch c).live then (acc.dmaCut c).dmaEnd c 4 Code.domainLost else acc) s

/-- A power-down asked for while channels are in descriptors is deferred, and counted once (R424). -/
def State.dmaDefer (s : State) : State := s.bumpIf (s.dma.channels.any Dma.live) Obj.dmaDeferrals

/-- The wake: parked channels fetch their next descriptors (R424). -/
def State.dmaUnpark (s : State) : State :=
  s.modEngine (fun e => { e with channels := e.channels.map (fun x => if x.state = 4 then { x with state := 1 } else x) })

/-- Before DEEP, which stops the control cluster, the channels without a descriptor in progress park too (R424, R484). -/
def State.dmaPark (s : State) : State :=
  s.modEngine (fun e => { e with channels := e.channels.map (fun x =>
    if x.state = 1 ∧ x.current.isNone then { x with state := 4 } else x) })

/-- Whether every channel is parked, idle or ended, so that the power-down proceeds (R424). -/
def State.dmaQuiet (s : State) : Bool := s.dma.channels.all (fun x => x.state = 0 || x.state = 4 || x.state = 5)

/-- DMA_PARITY_ERROR: an upset of the channel, its burst reissued; the 4th within 10 s retires it (R503), and a retired
channel has none (R502). -/
def State.dmaParity (s : State) (c : Nat) : State :=
  let s1 := s.upset Unit.dma c 10000000000 []
  if s.retired Unit.dma c then s
  else if s1.overThreshold Unit.dma c 4 then
    let s2 := s1.retire Unit.dma c 0 []
    if (s2.dch c).state = 0 ∨ (s2.dch c).state = 5 then s2 else (s2.dmaCut c).dmaEnd c 4 Code.dataError
  else s1

/-! ## Codec -/

/-- A U64 counter raised by `n`, saturating (R438). -/
def State.bump64 (s : State) (key n : Nat) : State := s.putNum key (satAdd 64 (s.num key) n)

/-- The codec was busy with raw bytes at 77 Gbit/s (R425, R438): the interval that ends now. -/
def State.codecBusyFor (s : State) (raw : Nat) : State :=
  let t := raw * 8 / 77
  s.modEngine (fun e => { e with codecBusy :=
      (s.clk - t, s.clk) :: e.codecBusy.filter (fun q => decide (s.clk < q.2 + 10000000)) })

/-- Bytes that the codec has taken and given (R438). -/
def State.codecWorked (s : State) (raw block : Nat) : State :=
  ((s.codecBusyFor raw).bump64 Obj.codecBytesIn raw).bump64 Obj.codecBytesOut block

/-- LOAD (R438): the busy share of the last 10 ms in 1/1,000. -/
def State.codecLoad (s : State) : Nat :=
  let from_ := s.clk - 10000000
  Nat.min 1000 (s.dma.codecBusy.foldl (fun a q => a + (q.2 - Nat.max from_ q.1)) 0 * 1000 / 10000000)

/-- A coded block counted (R438). -/
def State.codecCount (s : State) (b : Coded) (raw : Nat) : State :=
  ((s.codecWorked raw b.block.length).bump (if b.stored then Obj.codecBlocksStored else Obj.codecBlocksCoded)).bumpIf
    b.failed Obj.codecSelfCheckFails

/-- The DMA request at the codec is done with. -/
def State.leaveCodec (s : State) (c : Nat) : State :=
  s.modEngine (fun e => { e with dmaQueue := e.dmaQueue.filter (· ≠ .dma c) })

/-- The output of a codec request (R423, R459): written at once, or queued at a port in datagrams as the port takes them; a port that
takes no more holds the channel, running, at the codec, which finishes the block first. -/
def State.codecOut (s : State) (c : Nat) (d out : Bytes) : State :=
  let x := s.dch c
  if addrSpace (descDst d) = 4 then
    let r := s.dmaHsp c (addrEth (descDst d)) (decide (descMode d = 5)) out.length out (out.length / 1408 + 1) x.hspSent
    if r.2 = out.length then (r.1.leaveCodec c).dmaFinish c d [] out out.length
    else r.1.modDch c (fun y => { y with
      state := 3, coded := some out, hspSent := r.2,
      issuedAt := if r.2 = x.hspSent ∧ x.coded.isSome then y.issuedAt else s.clk })
  else (((s.leaveCodec c).dmaAccess 3 (descDst d) out.length).dmaWrite (descDst d) (List.zip (List.range out.length) out)).dmaFinish
    c d [] out out.length

/-- One block for a DMA channel (R430 to R432). A write that HBM does not take ends the channel too (R394). -/
def State.codecDma (s : State) (c : Nat) (fault : Bool) : State :=
  match (s.dch c).current with
  | none => s.leaveCodec c
  | some d =>
    match (s.dch c).coded with
    | some out => s.codecOut c d out
    | none =>
      match s.readBy 3 (descSrc d) (descCount d) with
      | none => ((s.dmaAccess 3 (descSrc d) (descCount d)).leaveCodec c).dmaEnd c 4 Code.dataError
      | some src =>
        let s1 := s.dmaAccess 3 (descSrc d) (descCount d)
        let put := fun (t : State) (out : Bytes) =>
          if t.dmaWritable 3 (descDst d) out.length < out.length then
            ((t.dmaAccess 3 (descDst d) out.length).leaveCodec c).dmaEnd c 4 Code.dataError
          else t.codecOut c d out
        if descMode d = 5 then
          let lines := (arrayLines (s.geomWidth c) (s.geomBands c) (s.geomBits c) src.length).getD 1
          let b := codeBlock src 0 0 (s.geomWidth c) (s.geomBands c) (s.geomBits c) lines fault
          if b.stored ∧ s.geomNoGrow c then
            ((((s1.leaveCodec c).codecBusyFor src.length).bumpIf b.failed Obj.codecSelfCheckFails).bump Obj.codecIncompressible).dmaEnd
              c 4 Code.incompressible
          else put (s1.codecCount b src.length) b.block
        else
          match decodeBlock src with
          | none => (((s1.leaveCodec c).codecBusyFor src.length).bump Obj.codecBadChecks).dmaEnd c 4 Code.badCheck
          | some raw => put (s1.codecWorked raw.length src.length) raw

/-- Whether a DMA block is under way at the codec, its output partly out: it is never interrupted (R425). -/
def State.codecHeld (s : State) : Bool :=
  match s.dma.dmaQueue with
  | .dma c :: _ => (s.dch c).coded.isSome
  | _ => false

/-- The next DMA request at the codec (R425). -/
def State.codecNext (s : State) (fault : Bool) : State :=
  match s.dma.dmaQueue with
  | .dma c :: _ => s.codecDma c fault
  | .stream _ _ _ _ _ _ _ _ :: rest => s.modEngine (fun e => { e with dmaQueue := rest })
  | [] => s

/-- CODEC_BLOCK: the codec completes one block, a stream record before a DMA request, at every block boundary (R425). -/
def State.codecBlock (s : State) (fault : Bool) : State :=
  if s.codecHeld then s.codecNext fault
  else
    match s.dma.streamQueue with
    | .stream k dest eth record bits bands width payload :: rest =>
      let b := codeBlock record 32 (record.length - 32 - payload) width bands bits 1 fault
      ((s.modEngine (fun e => { e with streamQueue := rest })).codecCount b record.length).deliverStream k dest eth true b.block
    | .dma _ :: rest => s.modEngine (fun e => { e with streamQueue := rest })
    | [] => s.codecNext fault

end Sys2Proof.Machine
end

