-- ==== Sys2Proof/Machine/Models.lean ====
section
/-! DEFINITION. Object-classifier models: header and layer records (R296, R297), tensors and layers (R298 to R300), the cycle
bound (R301, R302) and the load checks (R305). -/

namespace Sys2Proof.Machine

/-! ## The header -/

def mdlLayers (m : Bytes) : Nat := u16At m 6
def mdlWeightOffset (m : Bytes) : Nat := u32At m 12
def mdlWeightBytes (m : Bytes) : Nat := u32At m 16
def mdlInH (m : Bytes) : Nat := u16At m 20
def mdlInW (m : Bytes) : Nat := u16At m 22
def mdlBands (m : Bytes) : Nat := u8At m 24
def mdlShift (m : Bytes) : Nat := u8At m 25
def mdlInOffset (m : Bytes) : Nat := u32At m 28
def mdlCycles (m : Bytes) : Nat := u32At m 32

/-- The NAME bytes without their padding. -/
def mdlName (m : Bytes) : Bytes := (slice m 36 24).takeWhile (· ≠ 0)

/-- Reason 1 (R305): the header in range, the weight section inside the model. -/
def mdlHeaderOk (m : Bytes) : Bool :=
  decide (64 ≤ m.length) && u32At m 0 = 0x444D4248 && u16At m 4 = 1 && u32At m 8 = m.length &&
  decide (1 ≤ mdlLayers m) && decide (mdlLayers m ≤ 256) && decide (64 + 32 * mdlLayers m ≤ mdlWeightOffset m) &&
  decide (mdlWeightOffset m % 64 = 0) && decide (mdlWeightOffset m + mdlWeightBytes m ≤ m.length) &&
  decide (4 ≤ mdlInH m) && decide (mdlInH m ≤ 128) && decide (4 ≤ mdlInW m) && decide (mdlInW m ≤ 128) &&
  decide (1 ≤ mdlBands m) && decide (mdlBands m ≤ 15) && decide (1 ≤ mdlShift m) && decide (mdlShift m ≤ 16) &&
  u16At m 26 = 0 && decide (mdlInOffset m % 64 = 0) && utf8Valid (mdlName m) &&
  ((slice m 36 24).drop (mdlName m).length).all (· = 0) && u32At m 60 = 0

/-! ## Layer records -/

/-- A layer record (R297). -/
structure Layer where
  kind : Nat
  mode : Nat
  k : Nat
  stride : Nat
  hIn : Nat
  wIn : Nat
  cIn : Nat
  cOut : Nat
  hOut : Nat
  wOut : Nat
  inA : Nat
  inB : Nat
  out : Nat
  param : Nat
  deriving DecidableEq, Repr

/-- Layer record `l` of a model (R297). -/
def mdlLayer (m : Bytes) (l : Nat) : Layer :=
  let r := slice m (64 + 32 * l) 32
  { kind := u8At r 0, mode := u8At r 1, k := u8At r 2, stride := u8At r 3, hIn := u16At r 4, wIn := u16At r 6,
    cIn := u16At r 8, cOut := u16At r 10, hOut := u16At r 12, wOut := u16At r 14, inA := u32At r 16, inB := u32At r 20,
    out := u32At r 24, param := u32At r 28 }

def mdlRecords (m : Bytes) : List Layer := (List.range (mdlLayers m)).map (mdlLayer m)

/-- CONV, DWCONV and POOL have a kernel; ADD and CONCAT a second input. -/
def Layer.kernel (x : Layer) : Bool := decide (1 ≤ x.kind) && decide (x.kind ≤ 3)
def Layer.two (x : Layer) : Bool := x.kind = 5 || x.kind = 8

/-- Inputs of a DENSE layer (R298). -/
def Layer.n (x : Layer) : Nat := x.hIn * x.wIn * x.cIn

/-- The parameter bytes w_l (R298). -/
def Layer.paramBytes (x : Layer) : Nat :=
  if x.kind = 1 then x.cOut * (x.k * x.k) * x.cIn + 8 * x.cOut
  else if x.kind = 2 then x.cIn * (x.k * x.k) + 8 * x.cIn
  else if x.kind = 3 then (if x.mode = 1 then 8 else 0)
  else if x.kind = 4 then x.cOut * x.n + 8 * x.cOut
  else if x.kind = 5 then 8
  else if x.kind = 6 then (if x.mode = 1 then 8 else if x.mode = 2 then 256 else 0)
  else 0

/-- Bytes of a tensor in brick SRAM (R299). -/
def tensorBytes (h w c : Nat) : Nat := h * w * 16 * ceilDiv c 16

/-! ## Load checks -/

/-- Reason 2 for one record: KIND, MODE, K and STRIDE defined, reserved fields 0, ARGMAX last and only last. -/
def Layer.defined (x : Layer) (last : Bool) : Bool :=
  decide (1 ≤ x.kind) && decide (x.kind ≤ 9) &&
  decide (x.mode ≤ (if x.kind = 3 ∨ x.kind = 7 then 1 else if x.kind = 6 then 2 else 0)) &&
  (if x.kernel then decide (x.k ∈ [1, 3, 5, 7]) && decide (x.stride ∈ [1, 2]) else x.k = 1 && x.stride = 1) &&
  (x.two || x.inB = 0) && (x.kind ≠ 9 || x.out = 0) && (decide (x.kind = 9) == last)

/-- Dimensions in their ranges (R297). -/
def Layer.ranged (x : Layer) : Bool :=
  [x.hIn, x.wIn, x.hOut, x.wOut].all (fun d => decide (1 ≤ d) && decide (d ≤ 256)) &&
  [x.cIn, x.cOut].all (fun c => decide (1 ≤ c) && decide (c ≤ 1024))

/-- The output dimensions of R298, given the channels of the second input. -/
def Layer.shaped (x : Layer) (b : Option (Nat × Nat × Nat)) : Bool :=
  let same := x.hOut = x.hIn && x.wOut = x.wIn
  if x.kernel then
    x.hOut = ceilDiv x.hIn x.stride && x.wOut = ceilDiv x.wIn x.stride && (x.kind = 1 || x.cOut = x.cIn)
  else if x.kind = 4 then decide (x.n ≤ 32768) && x.hOut = 1 && x.wOut = 1
  else if x.kind = 5 then same && x.cOut = x.cIn && b = some (x.hIn, x.wIn, x.cIn)
  else if x.kind = 6 then same && x.cOut = x.cIn
  else if x.kind = 7 then x.cOut = x.cIn
  else if x.kind = 8 then
    same && (match b with | some (h, w, c) => h = x.hIn && w = x.wIn && x.cOut = x.cIn + c | none => false)
  else x.hIn = 1 && x.wIn = 1

/-- Reason 3 from record `l` on: `known` are the tensors written so far, newest first. The failing layer, or none. -/
def shapeFault : Nat → List (Nat × Nat × Nat × Nat) → List Layer → Option Nat
  | _, _, [] => none
  | l, known, x :: rest =>
    let a := assoc known x.inA
    let b := if x.two then assoc known x.inB else none
    if x.ranged && a = some (x.hIn, x.wIn, x.cIn) && (!x.two || b.isSome) && x.shaped b then
      shapeFault (l + 1) ((x.out, x.hOut, x.wOut, x.cOut) :: known) rest
    else some l

/-- Whether two spans of SRAM overlap. -/
def overlaps (a n b m : Nat) : Bool := decide (a < b + m) && decide (b < a + n)

/-- Reason 4 for one record (R305): every tensor inside the SRAM, OUT apart from the inputs; offsets multiples of 64. -/
def Layer.fits (x : Layer) : Bool :=
  let a := tensorBytes x.hIn x.wIn x.cIn
  let cb := if x.kind = 8 then x.cOut - x.cIn else x.cIn
  let b := tensorBytes x.hIn x.wIn cb
  let o := tensorBytes x.hOut x.wOut x.cOut
  decide (x.inA % 64 = 0) && decide (x.inA + a ≤ 262144) &&
  (!x.two || (decide (x.inB % 64 = 0) && decide (x.inB + b ≤ 262144))) &&
  (x.kind = 9 || (decide (x.out % 64 = 0) && decide (x.out + o ≤ 262144) && !overlaps x.out o x.inA a &&
    (!x.two || !overlaps x.out o x.inB b)))

/-- Byte `i` of a layer's parameters. -/
def paramAt (m : Bytes) (x : Layer) (i : Nat) : Nat := u8At m (mdlWeightOffset m + x.param + i)
def paramField (m : Bytes) (x : Layer) (i n : Nat) : Nat := fieldAt m (mdlWeightOffset m + x.param + i) n

/-- Reason 5 for one record. -/
def Layer.weighed (x : Layer) (m : Bytes) : Bool :=
  x.paramBytes = 0 ||
  (decide (x.param % 64 = 0) && decide (x.param + x.paramBytes ≤ mdlWeightBytes m) &&
    (x.kind ≠ 6 || x.mode ≠ 1 || decide (toSigned 8 (paramAt m x 0) ≤ toSigned 8 (paramAt m x 1))))

/-- Offset of the first 8-byte parameter block, and how many there are. -/
def Layer.blocks (x : Layer) : Nat × Nat :=
  if x.kind = 1 then (x.cOut * (x.k * x.k) * x.cIn, x.cOut)
  else if x.kind = 2 then (x.cIn * (x.k * x.k), x.cIn)
  else if x.kind = 3 then (0, if x.mode = 1 then 1 else 0)
  else if x.kind = 4 then (x.cOut * x.n, x.cOut)
  else (0, 0)

/-- Reason 6 for one record. -/
def Layer.bounded (x : Layer) (m : Bytes) : Bool :=
  let q := x.blocks
  let span := if x.kind = 4 then x.n else x.k * x.k * x.cIn
  (List.range q.2).all (fun o =>
    decide ((toSigned 32 (paramField m x (q.1 + 8 * o) 4)).natAbs + span * 16384 < 2147483648)) &&
  (x.kind ≠ 9 || decide (x.cIn ≤ 32))

/-- The cycles of a layer's body (R301). -/
def Layer.body (x : Layer) : Nat :=
  let c8 := fun (n : Nat) => ceilDiv n 8
  let c16 := fun (n : Nat) => ceilDiv n 16
  if x.kind = 1 then x.hOut * x.wOut * c16 x.cOut * (x.k * x.k) * c8 x.cIn
  else if x.kind = 2 ∨ x.kind = 3 then x.hOut * c8 x.wOut * c16 x.cOut * (x.k * x.k)
  else if x.kind = 4 then c16 x.cOut * c8 x.n
  else if x.kind = 7 then x.hOut * c8 x.wOut * c16 x.cOut * (if x.mode = 1 then 4 else 1)
  else if x.kind = 9 then c16 x.cIn + 8
  else x.hOut * c8 x.wOut * c16 x.cOut

/-- C_m (R301). -/
def mdlCm (m : Bytes) : Nat :=
  100 + (mdlRecords m).foldl (fun a x => a + 40 + Nat.max x.body (ceilDiv x.paramBytes 64)) 0

/-- COST (R302). -/
def mdlCost (m : Bytes) : Nat := mdlCm m + ceilDiv (mdlInH m * mdlInW m) 8 + 232

/-- The first record a test fails on. -/
def firstBad (f : Layer → Bool) (l : List Layer) : Option Nat :=
  let i := l.findIdx (fun x => !f x)
  if i < l.length then some i else none

/-- Bands fed to a model, ascending (R296, R311). -/
def mdlBandList (m : Bytes) : List Nat := selectedBands (mdlBands m)

/-- The load checks of R305: reason and layer of the first that fails. `others` is the weight space already taken, `demand`
tells whether the slot's RATE fits its COST. -/
def mdlCheck (m : Bytes) (others : Nat) (rateOk : Bool) : Option (Nat × Nat) :=
  let ls := mdlRecords m
  let n := ls.length
  let at_ := fun (r : Nat) (o : Option Nat) => o.map (fun l => (r, l))
  if !mdlHeaderOk m then some (1, 0xFFFF)
  else
    match (List.range n).find? (fun l => !((mdlLayer m l).defined (l + 1 = n))) with
    | some l => some (2, l)
    | none =>
      match at_ 3 (shapeFault 0 [(mdlInOffset m, mdlInH m, mdlInW m, (mdlBandList m).length)] ls) with
      | some r => some r
      | none =>
        match at_ 4 (firstBad Layer.fits ls) with
        | some r => some r
        | none =>
          match at_ 5 (firstBad (fun x => x.weighed m) ls) with
          | some r => some r
          | none =>
            match at_ 6 (firstBad (fun x => x.bounded m) ls) with
            | some r => some r
            | none =>
              if mdlCm m ≠ mdlCycles m then some (7, 0xFFFF)
              else if 917504 < mdlWeightBytes m + others then some (8, 0xFFFF)
              else if !rateOk then some (9, 0xFFFF)
              else none

/-! ## Running a model -/

/-- Element (y, x, c) of a tensor in SRAM (R299); outside it reads 0 (R298). -/
def tensorAt (sram : Mem) (off h w c : Nat) (y x : Int) (k : Nat) : Int :=
  if y < 0 ∨ x < 0 ∨ (h : Int) ≤ y ∨ (w : Int) ≤ x then 0
  else toSigned 8 (Mem.read sram (off + (y.toNat * w + x.toNat) * 16 * ceilDiv c 16 + k)).toNat

/-- The requantisation of R300. -/
def requantise (acc : Int) (scale shift : Nat) : Int :=
  let q := acc * scale
  clampInt (if shift = 0 then q else asr (q + ((2 ^ (shift - 1) : Nat) : Int)) shift) (-128) 127

/-- A sum over a kernel window (R298). -/
def windowSum (k : Nat) (f : Nat → Nat → Int) : Int :=
  (List.range k).foldl (fun a dy => (List.range k).foldl (fun a dx => a + f dy dx) a) 0

/-- The output value of a layer at (y, x, o) (R298, R300, R311). -/
def Layer.value (m : Bytes) (sram : Mem) (l : Layer) (y x o : Nat) : Int :=
  let p : Int := ((l.k - 1) / 2 : Nat)
  let inp := fun (yy xx : Int) (c : Nat) => tensorAt sram l.inA l.hIn l.wIn l.cIn yy xx c
  let w := fun (i : Nat) => toSigned 8 (paramAt m l i)
  let block := fun (o : Nat) => l.blocks.1 + 8 * o
  let quant := fun (o : Nat) (acc : Int) =>
    requantise (acc + toSigned 32 (paramField m l (block o) 4)) (paramField m l (block o + 4) 2) (paramField m l (block o + 6) 1)
  let yy := fun (d : Nat) => ((l.stride * y + d : Nat) : Int) - p
  let xx := fun (d : Nat) => ((l.stride * x + d : Nat) : Int) - p
  if l.kind = 1 then
    quant o (windowSum l.k (fun dy dx => (List.range l.cIn).foldl (fun a i =>
      a + w (((o * l.k + dy) * l.k + dx) * l.cIn + i) * inp (yy dy) (xx dx) i) 0))
  else if l.kind = 2 then quant o (windowSum l.k (fun dy dx => w ((o * l.k + dy) * l.k + dx) * inp (yy dy) (xx dx) o))
  else if l.kind = 3 then
    if l.mode = 1 then quant 0 (windowSum l.k (fun dy dx => inp (yy dy) (xx dx) o))
    else (List.range l.k).foldl (fun a dy => (List.range l.k).foldl (fun a dx =>
      if 0 ≤ yy dy ∧ yy dy < l.hIn ∧ 0 ≤ xx dx ∧ xx dx < l.wIn then max a (inp (yy dy) (xx dx) o) else a) a) (-128)
  else if l.kind = 4 then
    quant o ((List.range l.n).foldl (fun a i =>
      a + w (o * l.n + i) * inp ((i / (l.wIn * l.cIn) : Nat) : Int) ((i / l.cIn % l.wIn : Nat) : Int) (i % l.cIn)) 0)
  else if l.kind = 5 then
    let a := inp y x o
    let b := tensorAt sram l.inB l.hIn l.wIn l.cIn y x o
    requantise (a * (paramField m l 0 2 : Nat) + b * (paramField m l 2 2 : Nat)) 1 (paramField m l 4 1)
  else if l.kind = 6 then
    let a := inp y x o
    if l.mode = 0 then max a 0
    else if l.mode = 1 then clampInt a (w 0) (w 1)
    else w (a + 128).toNat
  else if l.kind = 7 then
    let py := clampNat (((2 * y + 1) * l.hIn * 128 / l.hOut : Nat) - (128 : Int)) 0 ((l.hIn - 1) * 256)
    let px := clampNat (((2 * x + 1) * l.wIn * 128 / l.wOut : Nat) - (128 : Int)) 0 ((l.wIn - 1) * 256)
    let iy := py / 256
    let ix := px / 256
    if l.mode = 0 then inp iy ix o
    else
      let fy : Int := (py % 256 : Nat)
      let fx : Int := (px % 256 : Nat)
      let iy1 := Nat.min (iy + 1) (l.hIn - 1)
      let ix1 := Nat.min (ix + 1) (l.wIn - 1)
      asr ((256 - fy) * ((256 - fx) * inp iy ix o + fx * inp iy ix1 o) +
        fy * ((256 - fx) * inp iy1 ix o + fx * inp iy1 ix1 o) + 32768) 16
  else
    if o < l.cIn then inp y x o else tensorAt sram l.inB l.hIn l.wIn (l.cOut - l.cIn) y x (o - l.cIn)

/-- A tensor written to SRAM, padding bytes 0 (R299). -/
def tensorWrite (sram : Mem) (off h w c : Nat) (f : Nat → Nat → Nat → Int) : Mem :=
  let pad := 16 * ceilDiv c 16
  (List.range (h * w)).foldl (fun m q => (List.range pad).foldl (fun m k =>
    Mem.write m (off + q * pad + k) (BitVec.ofNat 8 (if k < c then ofSigned 8 (f (q / w) (q % w) k) else 0))) m) sram

/-- The index of the largest of the values, ties to the lowest (R298). -/
def argmax (l : List Int) : Nat :=
  ((List.range l.length).foldl (fun (b : Nat × Int) i =>
    if b.2 < intAt l i then (i, intAt l i) else b) (0, intAt l 0)).1

/-- A brick's tensor SRAM with the input tensor in its place, in HWC order (R299, R311). -/
def mdlStart (m : Bytes) (sram : Mem) (input : List Int) : Mem :=
  let bands := (mdlBandList m).length
  tensorWrite sram (mdlInOffset m) (mdlInH m) (mdlInW m) bands (fun y x c => intAt input ((y * mdlInW m + x) * bands + c))

/-- The run of a model on a tensor SRAM that holds its input (R298 to R301): the SRAM as the run leaves it, and the model output
class. -/
def mdlRun (m : Bytes) (sram : Mem) : Mem × Nat :=
  (mdlRecords m).foldl (fun (acc : Mem × Nat) l =>
    if l.kind = 9 then
      (acc.1, argmax ((List.range l.cIn).map (fun c => tensorAt acc.1 l.inA 1 1 l.cIn 0 0 c)))
    else (tensorWrite acc.1 l.out l.hOut l.wOut l.cOut (Layer.value m acc.1 l), acc.2)) (sram, 0)

/-- The weight section of a model (R296, R306). -/
def mdlWeights (m : Bytes) : Bytes := slice m (mdlWeightOffset m) (mdlWeightBytes m)

/-- A window of `hc` lines of `wc` pixels resized to a model's input (R311): `px` gives a pixel's bands, holes as 0. -/
def cropInput (m : Bytes) (hc wc : Nat) (px : Nat → Nat → Nat → Nat) : List Int :=
  let h := mdlInH m
  let w := mdlInW m
  let sh := mdlShift m
  (List.range h).flatMap (fun r => (List.range w).flatMap (fun c => (mdlBandList m).map (fun b =>
    let py := clampNat (((2 * r + 1) * hc * 128 / h : Nat) - (128 : Int)) 0 ((hc - 1) * 256)
    let pxx := clampNat (((2 * c + 1) * wc * 128 / w : Nat) - (128 : Int)) 0 ((wc - 1) * 256)
    let iy := py / 256
    let ix := pxx / 256
    let fy := py % 256
    let fx := pxx % 256
    let iy1 := Nat.min (iy + 1) (hc - 1)
    let ix1 := Nat.min (ix + 1) (wc - 1)
    let t := (256 - fy) * ((256 - fx) * px iy ix b + fx * px iy ix1 b) + fy * ((256 - fx) * px iy1 ix b + fx * px iy1 ix1 b)
    let v := (t + 32768) / 65536
    clampInt (((v + 2 ^ (sh - 1)) / 2 ^ sh : Nat) - (128 : Int)) (-128) 127)))

end Sys2Proof.Machine
end

