-- ==== Sys2Proof/Machine/Tracker.lean ====
section
/-! DEFINITION. The comet tracker: scan-line times, flight, belt (R329 to R333), valve mapping (R334, R335), openings and the
schedule (R336 to R342), fusion (R343 to R345), late and remote comets (R346, R347), the guarantee (R348 to R351) and the
records (R353). -/

namespace Sys2Proof.Machine

/-! ## Time -/

/-- The clock, in ns, that a short time near the present stands for (R31). -/
def State.absOf (s : State) (t : Nat) : Int := (s.clk : Int) + diff32 t s.shortNow

/-- A clock as short time. -/
def State.shortOf (s : State) (t : Int) : Nat := ((t + s.timeOffset) % (wrap32 : Nat)).toNat

def State.bus (s : State) (b : Nat) : Bus := s.buses.getD b Bus.reset
def State.modBus (s : State) (b : Nat) (f : Bus → Bus) : State := { s with buses := s.buses.modify b f }

/-- The first clock of a bus's ticks whose frame is not fixed (R337): the frame of the next tick is fixed. -/
def Bus.unfixed (x : Bus) : Nat := if x.ticking then x.tickClk + x.period + x.nextPeriod else 0

/-- TICK_PERIOD in force, in ns. -/
def State.tickNs (s : State) (b : Nat) : Nat := s.num (Obj.vbTickPeriod b) * 1000

/-- Start and length of the tick of a bus that holds a clock (R336, R363). -/
def State.tickAt (s : State) (b : Nat) (t : Int) : Int × Nat :=
  let x := s.bus b
  if !x.ticking then (t, 1)
  else if t < x.tickClk then
    let k := (t - x.tickClk) / (x.period : Int)
    (x.tickClk + k * x.period, x.period)
  else if t < x.tickClk + x.period then (x.tickClk, x.period)
  else if t < x.unfixed then (x.tickClk + x.period, x.nextPeriod)
  else
    let p := s.tickNs b
    (x.unfixed + (t - x.unfixed) / (p : Int) * p, p)

/-- The module and the bus of a global valve (R334, R360). -/
def valveModule (g : Nat) : Nat := g / 2048
def valveBus (g : Nat) : Nat := g / 512 % 4

/-! ## The guarantee -/

/-- The conditions of R349 that are states: mode, bands, retired regions. -/
def State.lapsedNow (s : State) : Nat :=
  (if s.ctl.mode = .run then 0 else 1) + (if 3 ≤ s.power.band then 2 else 0) +
  (if s.num Obj.gtrRetiredRegionsAllowed < s.retiredRegions then 16 else 0)

/-- The states among the conditions reviewed (R349, R351). -/
def State.reviewGuarantee (s : State) : State :=
  let now := s.lapsedNow
  let old := s.power.lapsed
  let s1 := [0, 1, 4].foldl (fun acc b => if bitOf now b ∧ !bitOf old b then acc.lapse b else acc) s
  let was := old &&& 19
  s1.modPower (fun p => { p with
    lapsed := now ||| (old &&& 12),
    allHeldSince := if now = 0 then (if was = 0 then p.allHeldSince else some s.clk) else p.allHeldSince })

/-- GUARANTEE_HELD: every condition has held for 10 ms (R351). -/
def State.guaranteeHeld (s : State) : State :=
  match s.power.allHeldSince with
  | some t =>
    if s.lapsedNow = 0 ∧ t + 10000000 ≤ s.clk ∧ s.num Obj.gtrGuarantee = 1 then
      (s.putNum Obj.gtrGuarantee 0).modPower (fun p => { p with lapsed := 0 })
    else s
  | none => s

/-- The enabled bus with the shortest TICK_PERIOD, which counts the valve requests (R338). -/
def State.fastestBus (s : State) : Option Nat :=
  let on := (List.range 4).filter (fun b => (s.bus b).ticking)
  let p := on.foldl (fun m b => Nat.min m (s.tickNs b)) 1000000000
  on.find? (fun b => s.tickNs b = p)

/-- Valve requests (R338): the peak per tick period, and condition 3 of R349. -/
def State.request (s : State) (n : Nat) : State :=
  let s1 := { s with buses := s.buses.map (fun x => { x with requests := x.requests + n }) }
  match s.fastestBus with
  | some b =>
    let r := (s1.bus b).requests
    let s2 := s1.peak Obj.gtrRequestsPeak (Nat.min 0xFFFF r)
    if 4096 < r then s2.lapseEvent 3 else s2
  | none => s1

/-! ## Flight -/

/-- The floor of a square root, for the flight of R330. -/
def flightRoot (v g d : Nat) : Nat := isqrt (v * v + 2 * g * d)

/-- The flight in ns over `d` µm from speed `v` µm/s under `g` µm/s² (R330). -/
def flightNs (v g d : Nat) : Nat :=
  let r := flightRoot v g d
  if v + r = 0 then 0 else (2 * d * 1000000000 + (v + r) / 2) / (v + r)

/-- LINE_PERIOD of a view: the mean of its last 64 trigger periods (R329). -/
def State.linePeriod (s : State) (v : Nat) : Nat :=
  let p := (s.trigger v).periods
  if p = [] then 0 else p.foldl (· + ·) 0 / p.length

/-- T_FRONT and T_BACK of a comet (R329). -/
def State.scanTimes (s : State) (e v : Nat) (c : Comet) : Nat × Nat :=
  let p := s.linePeriod v
  let lag : Int := ((c.shift * p / 16 : Nat) : Int) - s.paramInt 32 e (Obj.trkScanOffset v)
  (ofSigned 32 ((c.firstTime : Int) - lag), ofSigned 32 ((c.lastTime : Int) + p - lag))

/-- Raw open and close times of a free fall from given fronts (R330), modulo 2^32. -/
def State.fallTimes (s : State) (e v tFront tBack flight : Nat) : Nat × Nat :=
  (ofSigned 32 ((tFront : Int) + flight - (s.param e (Obj.trkLead v) * 1000 : Nat)),
   (tBack + flight + s.param e (Obj.trkTrail v) * 1000) % wrap32)

/-! ## Belt -/

/-- The position latched at a trigger index (R332). -/
def State.latched (s : State) (v index : Nat) : Option Nat := assoc (s.trigger v).positions (index % wrap32)

/-- Count targets of a comet on a belt (R332); none when a position is no longer held. -/
def State.beltTargets (s : State) (e v : Nat) (c : Comet) : Option (Nat × Nat) :=
  match s.latched v (c.first + wrap32 - 1), s.latched v c.first, s.latched v c.last, s.latched v (c.last + 1) with
  | some p0, some p1, some q0, some q1 =>
    let pitch := s.param e (Obj.trkCountPitch v)
    let dist := (s.param e (Obj.trkValveDistance v) * 1000 + pitch / 2) / pitch
    let front := (p1 : Int) - truncDiv (c.shift * diff32 p1 p0) 16
    let back := (q1 : Int) - truncDiv (c.shift * diff32 q1 q0) 16
    some (ofSigned 32 (front + dist), ofSigned 32 (back + dist))
  | _, _, _, _ => none

/-- The speed of a view's belt as a quotient (R333): a retired channel with a NOMINAL_RATE runs at it. -/
def State.beltSpeed (s : State) (e v : Nat) : Bool × Nat × Nat :=
  let c := s.param e (Obj.trkEncoder v)
  (s.encoder c).speedRat s.clk (s.num (Obj.encNominalRate c))

/-- The clock at which the belt reaches a target (R333); none while it stands or runs backward. -/
def State.beltClock (s : State) (e v target : Nat) : Option Int :=
  let q := s.beltSpeed e v
  let pos := (s.encoder (s.param e (Obj.trkEncoder v))).position
  if q.1 ∨ q.2.1 = 0 then none
  else some ((s.clk : Int) + diff32 target pos * 1000000000 * q.2.2 / (q.2.1 : Int))

/-- Raw open and close clocks of a belt entry (R333). -/
def State.beltTimes (s : State) (e v : Nat) (k : Nat × Nat) : Option (Int × Int) :=
  match s.beltClock e v k.1, s.beltClock e v k.2 with
  | some o, some c => some (o - (s.param e (Obj.trkLead v) * 1000 : Nat), c + (s.param e (Obj.trkTrail v) * 1000 : Nat))
  | _, _ => none

/-- A clock as short time, held within the 2^31 ns that short times can tell (R31): the times of a slow belt are recomputed before
they come. -/
def State.nearShort (s : State) (t : Int) : Nat :=
  s.shortOf (max ((s.clk : Int) - 2147483648) (min t ((s.clk : Int) + 2147483647)))

/-- Whether a belt's channel is retired and has no NOMINAL_RATE, so that nothing of the view is scheduled (R333). -/
def State.beltDead (s : State) (e v : Nat) : Bool :=
  let c := s.param e (Obj.trkEncoder v)
  s.param e (Obj.trkGeometry v) = 2 && s.retired Unit.encoder c && s.num (Obj.encNominalRate c) = 0

/-! ## Valve mapping -/

/-- X and POS of entry `i` of a calibration (R334). -/
def calX (cal : Bytes) (i : Nat) : Int := u32At cal (8 * i)
def calPos (cal : Bytes) (i : Nat) : Int := u32At cal (8 * i + 4)

/-- The map of R334 over `n` entries. -/
def calMap (cal : Bytes) (n : Nat) (x : Int) : Int :=
  if x ≤ calX cal 0 then calPos cal 0
  else if calX cal (n - 1) ≤ x then calPos cal (n - 1)
  else
    let i := (List.range n).foldl (fun m k => if calX cal k ≤ x then k else m) 0
    calPos cal i + (calPos cal (i + 1) - calPos cal i) * (x - calX cal i) / (calX cal (i + 1) - calX cal i)

/-- The valves of an interval (R335): those covered by at least MIN_COVER, or the one at its centre. -/
def coveredValves (a b : Int) (minCover : Nat) : List Nat :=
  let lo := (a / 65536).toNat
  let hi := (max a (b - 1) / 65536).toNat
  let hit := (rangeFrom lo (hi + 1 - lo)).filter (fun k =>
    decide ((minCover * 256 : Nat) ≤ min b (((k + 1) * 65536 : Nat) : Int) - max a ((k * 65536 : Nat) : Int)))
  if hit = [] then [((a + b) / 2 / 65536).toNat] else hit

/-- The interval of a comet and its valves; none when it maps to no valve (R335). -/
def State.mapValves (s : State) (e v : Nat) (c : Comet) : Int × Int × Option (List Nat) :=
  let cal := s.paramBytes e (Obj.trkValveCal v)
  let n := s.param e (Obj.trkCalPoints v)
  let side : Int := s.param e (Obj.trkSideMargin v)
  let e0 := (c.xMin : Int) - side
  let e1 := (c.xMax : Int) + 1 + side
  let m0 := calMap cal n e0
  let m1 := calMap cal n e1
  let a := min m0 m1
  let b := max m0 m1
  if e1 ≤ calX cal 0 ∨ calX cal (n - 1) ≤ e0 then (a, b, none)
  else (a, b, some (coveredValves a b (s.param e (Obj.trkMinCover v))))

/-! ## Openings -/

/-- Membership of an opening in a tick (R336): clocks of its raw times and of the tick's span. -/
def inTick (o c st en : Int) : Bool := (decide (o < en) && decide (st < c)) || (decide (st ≤ o) && decide (o < en))

/-- Whether an opening still has a tick whose frame is not fixed (R337, R338). -/
def State.openingLive (s : State) (q : Nat × Nat × Nat) : Bool :=
  let x := s.bus (valveBus q.1)
  let f : Int := if x.ticking then x.unfixed else s.clk
  decide (f < s.absOf q.2.2) || decide (f ≤ s.absOf q.2.1)

def State.trackLive (s : State) (t : Track) : Bool := t.openings ≠ [] && (t.stalled || t.openings.any s.openingLive)

/-- An armed opening whose first tick is already fixed, and whether anything of it is left (R342, R346). -/
def State.openingLate (s : State) (q : Nat × Nat × Nat) : Bool := decide (s.absOf q.2.1 < (s.bus (valveBus q.1)).unfixed)
def State.openingGone (s : State) (q : Nat × Nat × Nat) : Bool :=
  s.openingLate q && decide (s.absOf q.2.2 ≤ (s.bus (valveBus q.1)).unfixed)

/-- The ticks of an opening (R336): the start of its first and the end of its last. -/
def State.openingSpan (s : State) (q : Nat × Nat × Nat) : Int × Int :=
  let b := valveBus q.1
  let o := s.absOf q.2.1
  let last := s.tickAt b (max o (s.absOf q.2.2 - 1))
  ((s.tickAt b o).1, last.1 + last.2)

/-- The start of the first tick of a track's earliest opening (R313, R336), for an armed one no earlier than the first tick that is
not fixed (R346); none without an opening. -/
def State.trackOpen (s : State) (t : Track) (armed : Bool) : Option Int :=
  if t.stalled then none
  else t.openings.foldl (fun m q =>
    let b := valveBus q.1
    let st := (s.tickAt b (s.absOf q.2.1)).1
    let st1 := if armed then max st (s.bus b).unfixed else st
    match m with | some x => some (min x st1) | none => some st1) none

/-- A pair's action (R344): EJECT when either comet's is, or under BOTH when both are. -/
def State.entryAction (s : State) (x : Entry) : Nat :=
  match x.tracks with
  | [t] => t.action
  | t :: _ =>
    let eject := if s.param x.epoch (Obj.trkFuseRule t.view) = 0 then x.tracks.any (fun t => t.action = 2)
      else x.tracks.all (fun t => t.action = 2)
    if eject then 2 else 1
  | [] => 1

def Entry.openings (x : Entry) : List (Nat × Nat × Nat) := x.tracks.flatMap (fun t => if t.stalled then [] else t.openings)

/-- The openings of an entry on a valve. -/
def Entry.openingsOf (x : Entry) (g : Nat) : List (Nat × Nat × Nat) := x.openings.filter (fun q => q.1 = g)

/-- The valves an entry has openings on, each once (R338). -/
def Entry.valves (x : Entry) : List Nat := (x.openings.map (·.1)).eraseDups

/-! ## Track flags (R353) -/

abbrev TFlag.fused : Nat := 0x0001
abbrev TFlag.partialRule : Nat := 0x0002
abbrev TFlag.late : Nat := 0x0004
abbrev TFlag.unmapped : Nat := 0x0008
abbrev TFlag.horizon : Nat := 0x0010
abbrev TFlag.measured : Nat := 0x0020
abbrev TFlag.rejected : Nat := 0x0040
abbrev TFlag.revisionLate : Nat := 0x0080
abbrev TFlag.held : Nat := 0x0100
abbrev TFlag.synthetic : Nat := 0x0200
abbrev TFlag.remote : Nat := 0x0400
abbrev TFlag.lapsed : Nat := 0x0800

/-! ## Records -/

/-- A record for a ring, dropped and counted when the ring cannot take it (R350, R353); a ring that is off takes none. -/
def State.trackerRecord (s : State) (ring : Nat) (b : Bytes) : State :=
  if (s.ring ring).plan.enabled then
    let r := s.ringRecord ring b
    r.1.bumpIf (!r.2) Obj.gtrRecordsDropped
  else s

/-- The pair action as byte 9 of R284 codes it. -/
def State.entryDisposition (s : State) (x : Entry) : Nat :=
  match x.tracks with
  | [t] => t.comet.disposition
  | t :: _ =>
    let a := s.entryAction x
    ((x.tracks.find? (fun u => u.action = a)).getD t).comet.disposition / 64 * 64 + a
  | [] => 0

/-- The first and the last clock of an entry's planned ticks (R336, R353): those planned so far, and those of its openings. -/
def State.plannedSpan (s : State) (x : Entry) : Option Nat × Option Nat :=
  let grid := x.openings.map (fun q => ((s.openingSpan q).1, (s.openingSpan q).2.toNat))
  let first := match grid with
    | [] => none
    | g :: r => some (s.shortOf (r.foldl (fun m h => min m h.1) g.1))
  let last := grid.foldl (fun m h => some (Nat.max (m.getD 0) h.2)) x.lastPlanned
  (x.firstPlanned.or first, last)

/-- The 64 bytes of a track record (R353). T_OPEN and T_CLOSE of an entry without a planned tick are free values. -/
def State.trackBytes (s : State) (x : Entry) : Bytes :=
  let valves := (x.tracks.flatMap (·.openings)).map (·.1)
  let first := if valves = [] then 0xFFFF else valves.foldl Nat.min 0xFFFF
  let last := if valves = [] then 0xFFFF else valves.foldl Nat.max 0
  let ids := x.tracks.map (fun t => t.comet.id)
  let held := if valves ≠ [] ∧ !x.armed then TFlag.held else 0
  let span := s.plannedSpan x
  leBytes 4 (natAt ids 0) ++ leBytes 4 (ids.getD 1 0xFFFFFFFF) ++ leBytes 2 x.epoch ++ leBytes 1 (s.entryDisposition x) ++
  leBytes 1 ((x.tracks.map (fun t => t.comet.origin)).headD 0) ++ leBytes 2 (x.tflags ||| held) ++ leBytes 2 x.revisions ++
  leBytes 2 first ++ leBytes 2 last ++ leBytes 4 x.tFront ++
  leBytes 4 (span.1.getD (Config.unplanned s.free).toNat) ++
  leBytes 4 ((span.2.map s.shortAt).getD (Config.unplanned (s.free + 1)).toNat) ++ leBytes 4 x.entryTime ++ leBytes 4 x.flight ++ leBytes 4 x.speed ++
  zeros 20

/-- An entry leaves (R353): its comets' records, each once, and the track record of an entry of the schedule. -/
def State.leaveEntry (s : State) (x : Entry) : State :=
  let s1 := x.tracks.foldl (fun acc t => if t.written then acc else acc.trackerRecord (12 + t.view) t.comet.record) s
  match x.tracks with
  | t :: _ =>
    if x.recorded ∧ s.param x.epoch (Obj.trkTrackRecords t.view) ≠ 0 then
      let s2 := s1.trackerRecord (16 + t.view) (s1.trackBytes x)
      if (s1.plannedSpan x).1.isSome then s2 else s2.drawn.drawn
    else s1
  | [] => s1

/-- Whether an entry leaves now (R338): no comet awaits a disposition, no opening has a tick to come, and the last planned
tick has ended. -/
def State.entryDone (s : State) (x : Entry) : Bool :=
  x.tracks.all (fun t => !t.awaiting) &&
  (!x.entered || (x.tracks.all (fun t => !s.trackLive t) && (match x.lastPlanned with
    | some t => decide (t ≤ s.clk)
    | none => true)))

/-- Whether a candidate is the comet of a track (R343). -/
def Candidate.isOf (k : Candidate) (t : Track) : Bool := decide (k.id = t.comet.id) && decide (k.origin = t.comet.origin)

/-- A candidate whose entry leaves keeps what fusion needs of it (R343). DESIGN CHOICE (log entry 69): a comet that fuses with it later
makes a new entry for the pair, for which the first comet's record is not written again. -/
def Candidate.leaving (k : Candidate) (gone : List Entry) : Candidate :=
  match gone.find? (fun x => x.tracks.any k.isOf) with
  | some x => { k with left := some { x with tracks := x.tracks.map (fun t => { t with written := true }) } }
  | none => k

/-- Every entry that is done leaves (R338). -/
def State.reviewEntries (s : State) : State :=
  let gone := s.entries.filter s.entryDone
  gone.foldl State.leaveEntry
    { s with entries := s.entries.filter (fun x => !s.entryDone x),
             candidates := s.candidates.map (fun k => k.leaving gone) }

/-- ENTRIES_NOW (R356). -/
def State.entriesNow (s : State) : Nat := (s.entries.filter (·.entered)).length

/-! ## Arming and revision -/

/-- Held openings keep the ticks that were fixed before they came: a held opening is never late (R338, R346). `kept` are
openings whose ticks are planned already. -/
def State.planHeld (s : State) (x : Entry) (kept : List (Nat × Nat × Nat)) : Entry :=
  (x.openings.filter (fun q => !kept.contains q)).foldl (fun y q =>
    let b := valveBus q.1
    let o := s.absOf q.2.1
    let fixed : Int := if (s.bus b).ticking then (s.bus b).unfixed else s.clk
    if o < fixed then
      let st := s.shortOf (s.tickAt b o).1
      let last := s.tickAt b (max o (min (s.absOf q.2.2) fixed - 1))
      { y with
        firstPlanned := some (match y.firstPlanned with
          | some f => if 0 ≤ diff32 st f then f else st
          | none => st),
        lastPlanned := some (Nat.max (y.lastPlanned.getD 0) (last.1 + last.2).toNat) }
    else y) x

/-- An entry armed or held by its action and the mode (R341), with what is late of the openings that become armed: `kept`
are openings that were armed before. The second component tells whether any is late. -/
def State.armEntry (s : State) (x : Entry) (kept : List (Nat × Nat × Nat)) : Entry × Bool :=
  let armed := x.entered && decide (s.entryAction x = 2) && decide (s.ctl.mode = .run) && !x.held
  if armed then
    let new := x.openings.filter (fun q => !kept.contains q)
    let gone := new.filter s.openingGone
    ({ x with armed := true,
              tracks := x.tracks.map (fun t => { t with openings := t.openings.filter (fun q => !gone.contains q) }) },
     new.any s.openingLate)
  else (if x.entered then s.planHeld { x with armed := false } kept else { x with armed := false }, false)

/-- An entry revised (R342): re-armed, late openings marked, requests counted. `old` is the entry before. -/
def State.reviseEntry (s : State) (old x : Entry) : State × Entry :=
  let kept := if old.armed then old.openings else []
  let r := s.armEntry x kept
  let y : Entry :=
    { r.1 with
      revisions := Nat.min 0xFFFF (x.revisions + 1),
      tflags := if r.2 then r.1.tflags ||| TFlag.revisionLate else r.1.tflags }
  let v := (x.tracks.map (·.view)).headD 0
  let n := (y.valves ++ old.valves).eraseDups.filter (fun g =>
    decide (y.armed ≠ old.armed) || decide (y.openingsOf g ≠ old.openingsOf g))
  ((s.bumpIf r.2 (Obj.trkRevisionsLate v)).request n.length, y)

/-- Whether a track is of a comet of this module with an ID. -/
def State.isOwn (s : State) (id : Nat) (t : Track) : Bool := t.comet.id = id && t.comet.origin / 64 = s.pins.id

/-- The entry and the comet of an ID of this module. -/
def State.findEntry (s : State) (p : Track → Bool) : Option (Nat × Entry) :=
  let i := s.entries.findIdx (fun x => x.tracks.any p)
  (s.entries[i]?).map (fun x => (i, x))

def State.cometOf (s : State) (id : Nat) : Option Track :=
  (s.findEntry (s.isOwn id)).bind (fun q => q.2.tracks.find? (s.isOwn id))

/-- A comet of the schedule changed, and its entry revised (R340, R342). -/
def State.reviseComet (s : State) (p : Track → Bool) (f : Track → Track) : State :=
  match s.findEntry p with
  | none => s
  | some (i, x) =>
    let y := { x with tracks := x.tracks.map (fun t => if p t then f t else t) }
    if x.entered then
      let r := s.reviseEntry x y
      { r.1 with entries := r.1.entries.set i r.2 }.reviewEntries
    else { s with entries := s.entries.set i y }.reviewEntries

/-- A field of a comet changed that no revision is (R312, R317). -/
def State.editComet (s : State) (id : Nat) (f : Comet → Comet) : State :=
  { s with entries := s.entries.map (fun x => { x with tracks := x.tracks.map (fun t =>
      if s.isOwn id t then { t with comet := f t.comet } else t) }) }

/-! ## Entering a comet -/

/-- DISPOSITION by rule, and whether PARTIAL_ACTION decided (R339). -/
def State.ruleAction (s : State) (v : Nat) (c : Comet) : Nat × Bool :=
  let e := c.epoch
  let part := s.param e (Obj.trkPartialAction v)
  if c.has CometFlag.partial_ ∧ part ≠ 0 then (if part = 1 then 2 else 1, true)
  else
    let classes := s.param e (Obj.trkRuleClasses v)
    let n := (List.range 16).foldl (fun a k => if bitOf classes k then a + natAt c.counts k else a) 0
    (if s.param e (Obj.trkRuleMin v) ≤ n then 2 else 1, false)

/-- Whether a comet is entered (R84, R341): RUN or TEACH, and closed since one of them was entered. A change between RUN and TEACH
starts no new count: a comet closed in TEACH and released in RUN is entered. DESIGN CHOICE (log entry 56). -/
def State.entersNow (s : State) (c : Comet) : Bool :=
  (decide (s.ctl.mode = .run) || decide (s.ctl.mode = .teach)) &&
  decide ((s.ctl.sortingSince : Int) ≤ s.absOf c.closeTime)

/-- The prediction of a comet: the track, its flags, flight and speed; LATE where R331 to R333 say so. -/
def State.predict (s : State) (v : Nat) (c : Comet) : Track × Nat × Nat × Nat :=
  let e := c.epoch
  let tt := s.scanTimes e v c
  let m := s.mapValves e v c
  let own := (m.2.2.getD []).filter (fun g => valveModule g = s.pins.id)
  let base : Track := { comet := c, view := v, a := m.1, b := m.2.1, tFront := tt.1, tBack := tt.2, action := 1, openings := [],
                        belt := none, stalled := false, awaiting := false, tDec := 0, opened := false,
                        written := false }
  let late := { base with comet := { c with flags := c.flags ||| CometFlag.late } }
  let unmapped := if m.2.2.isNone then TFlag.unmapped else 0
  let beyond := fun (close : Int) => decide (2000000000 < close - s.clk)
  if s.param e (Obj.trkGeometry v) = 1 then
    let speed := s.param e (Obj.trkChuteSpeed v)
    let fl := flightNs speed (s.param e (Obj.trkGravity v)) (s.param e (Obj.trkValveDistance v))
    let t := s.fallTimes e v tt.1 tt.2 fl
    let close := s.absOf tt.2 + fl + (s.param e (Obj.trkTrail v) * 1000 : Nat)
    if beyond close then (late, TFlag.late ||| TFlag.horizon ||| unmapped, fl, speed)
    else ({ base with openings := own.map (fun g => (g, t.1, t.2)) }, unmapped, fl, speed)
  else if s.param e (Obj.trkGeometry v) = 2 then
    let flags := unmapped ||| (if s.retired Unit.encoder (s.param e (Obj.trkEncoder v)) then TFlag.synthetic else 0)
    let q := s.beltSpeed e v
    let speed := if q.2.2 = 0 then 0 else q.2.1 * s.param e (Obj.trkCountPitch v) / (q.2.2 * 1000)
    if s.beltDead e v then (late, TFlag.late ||| flags, 0, speed)
    else
      match s.beltTargets e v c with
      | none => (late, TFlag.late ||| flags, 0, speed)
      | some k =>
        match s.beltTimes e v k with
        | none => ({ base with belt := some k, stalled := true, openings := own.map (fun g => (g, 0, 0)) }, flags, 0, speed)
        | some t =>
          if beyond t.2 then (late, TFlag.late ||| TFlag.horizon ||| flags, 0, speed)
          else ({ base with belt := some k, openings := own.map (fun g => (g, s.nearShort t.1, s.nearShort t.2)) }, flags, 0, speed)
  else (base, unmapped, 0, 0)

/-- The comet sent to the other modules whose valves it covers; one for a lost partner is dropped (R35, R37, R347). -/
def State.sendToOwners (s : State) (v : Nat) (c : Comet) : State :=
  let m := s.mapValves c.epoch v c
  let others := ((m.2.2.getD []).map valveModule).eraseDups.filter (fun k => decide (k ≠ s.pins.id) && decide (k < 4))
  others.foldl (fun acc k =>
    if acc.retired Unit.syslink k then acc.bump Obj.gtrRemoteDropped else acc.sendComet k c.record) s

/-! ## Fusion -/

/-- The views of a fusion pair (R343): the partner of a view, when each names the other. -/
def State.fusePartner (s : State) (e v : Nat) : Option Nat :=
  let w := s.param e (Obj.trkFuseView v)
  if w < 4 ∧ w ≠ v ∧ s.param e (Obj.trkFuseView w) = v then some w else none

/-- The epoch a pair is decided under: that of the comet that closed first (R25). DESIGN CHOICE (log entry 66): of two equal CLOSE_TIMEs
that of the comet already entered, `a`. -/
def pairEpoch (a b : Track) : Nat := if 0 ≤ diff32 a.comet.closeTime b.comet.closeTime ∧
  a.comet.closeTime ≠ b.comet.closeTime then b.comet.epoch else a.comet.epoch

/-- The nominal delay between the views of a pair, and its upper view (R343). -/
def State.pairDelay (s : State) (e v w : Nat) : Nat × Nat :=
  let up := if s.param e (Obj.trkViewDrop v) ≠ 0 then v else w
  let h := s.param e (Obj.trkViewDrop up)
  (if h = 0 then 0 else flightNs (s.param e (Obj.trkChuteSpeed up)) (s.param e (Obj.trkGravity up)) h, up)

/-- How far two comets are from each other in time when they fuse, or none (R343). -/
def State.fuseError (s : State) (c x : Track) : Option Nat :=
  let e := pairEpoch x c
  let d := s.pairDelay e c.view x.view
  let lower := if d.2 = c.view then x else c
  let upper := if d.2 = c.view then c else x
  let err := (diff32 lower.tFront upper.tFront - d.1).natAbs
  if ((c.a + c.b) - (x.a + x.b)).natAbs ≤ s.param e (Obj.trkFuseX c.view) * 8192 ∧
      err ≤ s.param e (Obj.trkFuseT c.view) * 1000 then some err else none

/-- The entry a comet fuses with (R343): the smallest time difference, then the lower COMET_ID. Whether their views are a pair is
the set's of the comet that closed first (R25). -/
def State.fuseWith (s : State) (c : Track) : Option (Option Nat × Entry) :=
  let here := (List.zip (List.range s.entries.length) s.entries).filter (fun q => q.2.entered)
  let pool := here.map (fun q => (some q.1, q.2)) ++ s.candidates.filterMap (fun k => k.left.map (fun x => (none, x)))
  pool.foldl (fun (best : Option (Option Nat × Entry)) q =>
    match q.2.tracks with
    | [x] =>
      if s.fusePartner (pairEpoch x c) c.view = some x.view ∧ s.candidates.any (fun k => k.isOf x && decide (s.clk ≤ k.until_)) then
        match s.fuseError c x, best with
        | none, _ => best
        | some _, none => some q
        | some err, some (_, y) =>
          match y.tracks with
          | [z] =>
            let e0 := (s.fuseError c z).getD 0
            if err < e0 ∨ (err = e0 ∧ x.comet.id < z.comet.id) then some q else best
          | _ => best
      else best
    | _ => best) none

/-- The speed of a fused pair (R345): none when there is no VIEW_DROP, otherwise the value and whether it is accepted. The rule states no
quotient for Δt = 0: there the value is free (DESIGN CHOICE, log entry 69). -/
def State.pairSpeed (s : State) (x : Entry) : Option (Int × Bool × Nat) :=
  match x.tracks with
  | [t, u] =>
    let d := s.pairDelay x.epoch t.view u.view
    let h := s.param x.epoch (Obj.trkViewDrop d.2)
    if h = 0 then none
    else
      let upper := if d.2 = t.view then t else u
      let lower := if d.2 = t.view then u else t
      let dt := diff32 lower.tFront upper.tFront
      let g : Int := s.param x.epoch (Obj.trkGravity d.2)
      let chute : Int := s.param x.epoch (Obj.trkChuteSpeed d.2)
      let v : Int := if dt = 0 then (Config.speedAtZeroDelay h).toNat
        else truncDiv ((h : Int) * 1000000000) dt - truncDiv (g * dt) 2000000000
      some (v, decide ((v - chute).natAbs * 100 ≤ s.param x.epoch (Obj.trkSpeedTol d.2) * chute.toNat), d.2)
  | _ => none

/-- A track under a measured speed (R345): its opening from the upper view's front with its own length; beyond the horizon it has none
(R331), which the second component tells. -/
def State.respeed (s : State) (e front fl : Nat) (t : Track) : Track × Bool :=
  let back := diff32 t.tBack t.tFront
  let q := s.fallTimes e t.view front (ofSigned 32 ((front : Int) + back)) fl
  let close := s.absOf front + back + fl + (s.param e (Obj.trkTrail t.view) * 1000 : Nat)
  if t.openings ≠ [] ∧ 2000000000 < close - s.clk then
    ({ t with openings := [], comet := { t.comet with flags := t.comet.flags ||| CometFlag.late } }, true)
  else ({ t with openings := t.openings.map (fun o => (o.1, q.1, q.2)) }, false)

/-- A pair with its measured speed (R345), the view whose SPEED_REJECTED counts it, and the views that count one OUT_OF_HORIZON. -/
def State.withSpeed (s : State) (x : Entry) : Entry × Option Nat × List Nat :=
  match s.pairSpeed x with
  | none => (x, none, [])
  | some (v, ok, up) =>
    if ok then
      let e := x.epoch
      let fl := flightNs v.toNat (s.param e (Obj.trkGravity up)) (s.param e (Obj.trkValveDistance up))
      let front := ((x.tracks.find? (fun t => t.view = up)).map (·.tFront)).getD 0
      let l := x.tracks.map (s.respeed e front fl)
      let beyond := (l.filter (·.2)).map (fun q => q.1.view)
      ({ x with
          flight := fl, speed := v.toNat,
          tflags := x.tflags ||| TFlag.measured ||| (if beyond = [] then 0 else TFlag.late ||| TFlag.horizon),
          tracks := l.map (·.1) }, none, beyond)
    else ({ x with tflags := x.tflags ||| TFlag.rejected }, some up, [])

/-! ## Entry -/

/-- The counters of a comet's flags at its entry (R331, R335, R346). -/
def State.countEntry (s : State) (v tflags : Nat) (late : Bool) : State :=
  ((s.bumpIf (decide (tflags &&& TFlag.unmapped ≠ 0)) (Obj.trkUnmapped v)).bumpIf
    (decide (tflags &&& TFlag.horizon ≠ 0)) (Obj.trkOutOfHorizon v)).bumpIf late (Obj.trkLate v)

/-- The decision time of a comet (R313) as the tracker has entered it. -/
def State.decisionTime (s : State) (t : Track) (armed : Bool) : Nat :=
  match s.trackOpen t armed with
  | some o => ofSigned 32 ((s.shortOf o : Int) - (s.param t.comet.epoch (Obj.trkDecisionMargin t.view) * 1000 : Nat))
  | none => (t.comet.closeTime + 1000000) % wrap32

/-- An entry's openings counted and armed at its entry (R338, R341, R346). -/
def State.schedule (s : State) (v : Nat) (x : Entry) : State × Entry :=
  let r := s.armEntry x []
  let y := if r.2 then
      { r.1 with tflags := r.1.tflags ||| TFlag.late,
                 tracks := r.1.tracks.map (fun t => { t with comet := { t.comet with flags := t.comet.flags ||| CometFlag.late } }) }
    else r.1
  let s1 := (s.countEntry v x.tflags r.2).bump (Obj.trkScheduled v)
  let n := (y.tracks.flatMap (·.openings)).length
  let s2 := if s.ctl.mode = .teach then s1.bumpBy (Obj.trkTeachOpenings v) n else s1
  (s2.request n, y)

/-- A comet kept only until its disposition, or recorded at once when it has one; `shared` says that its valves' owners have it. -/
def State.keepComet (s : State) (t : Track) (epoch : Nat) (shared : Bool) : State :=
  let x : Entry := { tracks := [t], entered := false, epoch := epoch, armed := false, held := false, tflags := 0,
                     revisions := 0, entryTime := s.shortNow, tFront := t.tFront, flight := 0, speed := 0,
                     firstPlanned := none, lastPlanned := none, recorded := false, shared := shared }
  if t.awaiting then { s with entries := s.entries ++ [x] } else s.leaveEntry x

/-- A comet enters the schedule (R329 to R348). `matched` says that a predicate matched it, `tflags` adds REMOTE, `action` and
`c.disposition` are as the caller decides. -/
def State.enterComet (s0 : State) (v : Nat) (c : Comet) (action : Nat) (matched : Bool) (tflags0 : Nat) : State :=
  let s := s0.reviewEntries
  let own := decide (tflags0 &&& TFlag.remote = 0)
  let p := s.predict v c
  let t := { p.1 with action := action, awaiting := matched }
  let await := fun (armed : Bool) (u : Track) =>
    if u.comet.id = c.id ∧ u.view = v then { u with tDec := s.decisionTime u armed, opened := (s.trackOpen u armed).isSome } else u
  if !s.entersNow c then
    s.keepComet (await false { t with openings := [], belt := none, stalled := false, comet := c }) c.epoch false
  else if 65536 ≤ s.entriesNow then
    let full := (s.bump Obj.gtrEntriesFull).lapseEvent 2
    (if own then full.sendToOwners v c else full).keepComet (await false { t with
      openings := [], belt := none, stalled := false, comet := { c with flags := c.flags ||| CometFlag.late } }) c.epoch own
  else
    let wait := if c.has CometFlag.throttled then 0 else (s.clk - s.absOf c.closeTime).toNat
    let peaked := s.peak Obj.gtrEntryLatencyMax (Nat.min 0xFFFFFFFF wait)
    let s1 := if own then peaked.sendToOwners v c else peaked
    let lapsed := if s.num Obj.gtrGuarantee = 1 then TFlag.lapsed else 0
    let x : Entry := { tracks := [t], entered := true, epoch := c.epoch, armed := false, held := false,
                       tflags := p.2.1 ||| tflags0 ||| lapsed, revisions := 0, entryTime := s.shortNow, tFront := t.tFront,
                       flight := p.2.2.1, speed := p.2.2.2, firstPlanned := none, lastPlanned := none,
                       recorded := true, shared := own }
    match s1.fuseWith t with
    | none =>
      let r := s1.schedule v x
      let s2 : State := { r.1 with entries := r.1.entries ++ [{ r.2 with tracks := r.2.tracks.map (await r.2.armed) }] }
      let s3 : State := match s.fusePartner c.epoch v with
        | some _ => { s2 with candidates := s2.candidates ++
            [({ id := c.id, origin := c.origin, until_ := s.clk + s.param c.epoch (Obj.trkFuseHold v) * 1000, left := none } : Candidate)] }
        | none => s2
      s3.reviewEntries
    | some (i, e) =>
      let first := e.tracks.headD t
      let merged := { e with tracks := e.tracks ++ [t], epoch := pairEpoch first t,
                             tflags := e.tflags ||| x.tflags ||| TFlag.fused, shared := e.shared || own }
      let sp := s1.withSpeed merged
      let s2 := sp.2.2.foldl (fun acc w => acc.bump (Obj.trkOutOfHorizon w))
        (match sp.2.1 with | some up => s1.bump (Obj.trkSpeedRejected up) | none => s1)
      let ends := sp.1.tracks.getLastD t
      let late := decide (s.entryAction sp.1 = 2) && decide (s.ctl.mode = .run) && !sp.1.held &&
        ends.openings.any s.openingLate
      let s3 := ((s2.bump (Obj.trkFused v)).bump (Obj.trkFused first.view)).countEntry v p.2.1 late
      let s4 := s3.bump (Obj.trkScheduled v)
      let s5 := if s.ctl.mode = .teach then s4.bumpBy (Obj.trkTeachOpenings v) t.openings.length else s4
      let mark := fun (u : Track) => if late ∧ u.comet.id = c.id ∧ u.view = v then
          { u with comet := { u.comet with flags := u.comet.flags ||| CometFlag.late } } else u
      let r := s5.reviseEntry e { sp.1 with tflags := if late then sp.1.tflags ||| TFlag.late else sp.1.tflags,
                                            tracks := sp.1.tracks.map mark }
      let y : Entry := { r.2 with tracks := r.2.tracks.map (await r.2.armed) }
      ({ r.1 with
          entries := match i with | some k => r.1.entries.set k y | none => r.1.entries ++ [y]
          candidates := r.1.candidates.filter (fun k => !k.isOf first) } : State).reviewEntries

/-- FUSE_HOLD: a candidate's time is over (R343). -/
def State.fuseHold (s : State) (id : Nat) : State :=
  { s with candidates := s.candidates.filter (fun k => k.id ≠ id || decide (s.clk < k.until_)) }

/-- The owner of a bus returns t_open of a comet that another module closed (R319), and takes it up for its own t_dec. -/
def State.returnOpen (s : State) (c : Comet) : State :=
  match s.findEntry (fun t => t.comet.id = c.id && t.comet.origin = c.origin) with
  | some (_, x) =>
    match x.tracks.find? (fun t => t.comet.id = c.id && t.comet.origin = c.origin) with
    | some t =>
      (match s.trackOpen t x.armed with | some o => s.emit (.linkOpen (c.origin / 64) c.id (s.shortOf o)) | none => s)
    | none => s
  | none => s

/-- A comet of another module (R319, R347): new, or the update of one that is in the schedule, which counts before that comet's
t_dec only (R317, R319); a revision is only a change of its action (R342). -/
def State.remoteComet (s : State) (v : Nat) (c : Comet) : State :=
  let same := fun (t : Track) => t.comet.id = c.id && t.comet.origin = c.origin
  let action := fun (e : Nat) =>
    if c.disposition % 4 = 0 then (if s.param e (Obj.trkDefaultAction v) = 2 then 2 else 1) else c.disposition % 4
  match s.findEntry same with
  | some (_, x) =>
    if !(x.tracks.any (fun t => same t && decide (diff32 s.shortNow t.tDec < 0))) then s
    else
      let f := fun (t : Track) => { t with action := action x.epoch, comet := { t.comet with
        disposition := c.disposition, flags := t.comet.flags ||| c.flags, modelOut := c.modelOut, crop := c.crop } }
      if x.tracks.any (fun t => same t && decide (t.action ≠ action x.epoch)) then s.reviseComet same f
      else { s with entries := s.entries.map (fun (y : Entry) => { y with
          tracks := y.tracks.map (fun (t : Track) => if same t then f t else t) }) }.reviewEntries
  | none =>
    let e := (s.trigger v).epoch
    let s1 := s.bump Obj.gtrRemoteReceived
    if s.entersNow c then (s1.enterComet v { c with epoch := e } (action e) false TFlag.remote).returnOpen c else s1

/-! ## Mode and encoder events -/

/-- The armed openings of an entry, per view counted in CLEARED (R84); those of a belt that stands have their ticks to come (R333). -/
def State.countCleared (s : State) (x : Entry) : State :=
  if x.entered ∧ x.armed then x.tracks.foldl (fun acc t =>
    acc.bumpBy (Obj.trkCleared t.view) (t.openings.filter (fun q => t.stalled || s.openingLive q)).length) s
  else s

/-- RUN to TEACH: every armed opening is held for good (R84). -/
def State.holdAll (s : State) : State :=
  let gone := (s.entries.filter (fun x => x.entered && x.armed)).flatMap Entry.valves
  let s1 := (s.entries.foldl State.countCleared s).request gone.length
  { s1 with entries := s1.entries.map (fun x => if x.entered && x.armed then { x with armed := false, held := true } else x) }

/-- TEACH to RUN (R341): entries that only the mode held are armed, from the first tick that is not fixed; those that a change from RUN
has held stay so (R84). DESIGN CHOICE (log entry 56): this is no revision, and makes no comet late. -/
def State.armAll (s : State) : State :=
  let r := s.entries.map (fun x => if x.entered && !x.armed then (s.armEntry x []).1 else x)
  let new := (List.zip s.entries r).filter (fun (q : Entry × Entry) => q.2.armed && !q.1.armed)
  ({ s with entries := r } : State).request (new.flatMap (fun (q : Entry × Entry) => q.2.valves)).length

/-- RUN or TEACH left: the schedule is cleared (R84). Comets that still await a disposition are kept for it. -/
def State.clearAll (s : State) : State :=
  let gone := (s.entries.filter (·.entered)).flatMap Entry.valves
  let s1 := (s.entries.foldl State.countCleared s).request gone.length
  let waits := fun (x : Entry) => x.tracks.any (·.awaiting)
  (s1.entries.filter (fun x => x.entered && !waits x)).foldl State.leaveEntry
    { s1 with entries := (s1.entries.filter (fun x => !x.entered || waits x)).map (fun x => { x with entered := false }),
              candidates := [] }

/-- An encoder channel without a NOMINAL_RATE has retired: every belt entry that uses it is dropped, its comets LATE; with
one, its entries are marked (R333). -/
def State.beltLost (s : State) (c : Nat) : State :=
  let uses := fun (t : Track) => t.belt.isSome && decide (s.param t.comet.epoch (Obj.trkEncoder t.view) = c)
  let dead := s.num (Obj.encNominalRate c) = 0
  let edit := fun (x : Entry) =>
    if x.entered && x.tracks.any uses then
      if dead then
        { x with tflags := x.tflags ||| TFlag.late, tracks := x.tracks.map (fun t =>
          if uses t then { t with openings := [], belt := none, stalled := false,
                                  comet := { t.comet with flags := t.comet.flags ||| CometFlag.late } } else t) }
      else { x with tflags := x.tflags ||| TFlag.synthetic }
    else x
  let removed := if dead then (s.entries.filter (·.entered)).flatMap (fun x =>
      ({ x with tracks := x.tracks.filter uses } : Entry).valves) else []
  ({ s with entries := s.entries.map edit }.request removed.length).reviewEntries

/-- A belt track's times brought to the present (R333). -/
def State.beltTrack (s : State) (t : Track) : Track :=
  match t.belt with
  | none => t
  | some k =>
    match s.beltTimes t.comet.epoch t.view k with
    | none => { t with stalled := true }
    | some q => { t with stalled := false, openings := t.openings.map (fun o => (o.1, s.nearShort q.1, s.nearShort q.2)) }

/-- Whether a track's new times open a valve in a tick that is fixed already, and its old ones did not (R342). -/
def State.beltLate (s : State) (old new : Track) : Bool :=
  !new.stalled && (List.zip old.openings new.openings).any (fun q => s.openingLate q.2 && (old.stalled || !s.openingLate q.1))

/-- A belt entry recomputed, which is a revision (R333, R342): its valves with an opening of other ticks are requests (R336, R338). -/
def State.beltEntry (s : State) (x : Entry) : State × Entry :=
  if x.entered ∧ x.tracks.any (fun t => t.belt.isSome) then
    let y := { x with tracks := x.tracks.map s.beltTrack, revisions := Nat.min 0xFFFF (x.revisions + 1) }
    let late := x.armed && (List.zip x.tracks y.tracks).any (fun q => s.beltLate q.1 q.2)
    let n := (y.valves ++ x.valves).eraseDups.filter (fun g =>
      decide ((y.openingsOf g).map s.openingSpan ≠ (x.openingsOf g).map s.openingSpan))
    ((s.bumpIf late (Obj.trkRevisionsLate ((x.tracks.map (·.view)).headD 0))).request n.length,
     { y with tflags := if late then y.tflags ||| TFlag.revisionLate else y.tflags })
  else (s, x)

/-- Every belt entry recomputed (R333). -/
def State.beltReview (s : State) : State :=
  let r := s.entries.foldl (fun (acc : State × List Entry) x =>
    let q := acc.1.beltEntry x
    (q.1, q.2 :: acc.2)) (s, [])
  { r.1 with entries := r.2.reverse }

/-! ## Fixing a frame -/

/-- The openings of a bus that are armed, and those of every entry. -/
def State.busOpenings (s : State) (b : Nat) (armedOnly : Bool) : List (Nat × Nat × Nat) :=
  (s.entries.filter (fun x => x.entered && (x.armed || !armedOnly))).flatMap (fun x =>
    x.openings.filter (fun q => valveBus q.1 = b))

/-- A valve set from global valves of a bus. -/
def valveSet (l : List Nat) : Nat := l.foldl (fun m g => setBit m (g % 512)) 0

/-- The state of tick `n` fixed under MIN_OFF (R337): `want` are the valves whose openings have the tick, `soon` those with
an opening that starts within the off-time, `mask` the state of the tick before. The new list of closing ticks goes with
it. -/
def fixState (want soon mask n minOff : Nat) (closed : List (Nat × Nat)) : Nat × List (Nat × Nat) :=
  let ready := fun (j : Nat) => match assoc closed j with
    | some m => decide (minOff ≤ ahead32 m n) || bitOf mask j
    | none => true
  let on := (List.range 512).filter (fun j =>
    (bitOf want j && ready j) || (bitOf mask j && !bitOf want j && bitOf soon j))
  let state := on.foldl setBit 0
  let now := ((List.range 512).filter (fun j => bitOf mask j && !bitOf state j)).map (fun j => (j, n))
  (state, now ++ closed.filter (fun p => !now.any (fun q => q.1 = p.1) && !bitOf state p.1))

/-- The openings of a tick of a bus: clocks of its span, and the set of valves whose openings have it. -/
def State.wanted (s : State) (l : List (Nat × Nat × Nat)) (st en : Int) : Nat :=
  valveSet ((l.filter (fun q => inTick (s.absOf q.2.1) (s.absOf q.2.2) st en)).map (·.1))

/-- Entries learn that a tick of theirs is planned (R338, R353). -/
def State.planTick (s : State) (b : Nat) (st en : Int) : State :=
  { s with entries := s.entries.map (fun x =>
      if x.entered && (x.openings.filter (fun q => valveBus q.1 = b)).any (fun q =>
          inTick (s.absOf q.2.1) (s.absOf q.2.2) st en) then
        { x with firstPlanned := some (match x.firstPlanned with
                   | some f => if 0 ≤ diff32 (s.shortOf st) f then f else s.shortOf st
                   | none => s.shortOf st),
                 lastPlanned := some (Nat.max (x.lastPlanned.getD 0) en.toNat) }
      else x) }

end Sys2Proof.Machine
end

