-- ==== Sys2Proof/Machine/Bricks.lean ====
section
/-! DEFINITION. The brick array: model slots (R303 to R308), tiles and bricks (R293 to R295, R501 to R503), predicates and crops
(R309 to R312), dispatch and disposition (R313 to R319), capacity (R320, R321), build units (R324), and the release of comets
from the close queue (R282, R283). -/

namespace Sys2Proof.Machine

/-! ## Tiles -/

def State.tile (s : State) (t : Nat) : Tile := s.tiles.getD t Tile.reset
def State.modTile (s : State) (t : Nat) (f : Tile → Tile) : State := { s with tiles := s.tiles.modify t f }
def State.slot (s : State) (n : Nat) : Slot := s.slots.getD n Slot.reset
def State.modSlot (s : State) (n : Nat) (f : Slot → Slot) : State := { s with slots := s.slots.modify n f }

/-- A brick's work set; the tile's idle time starts when its last brick becomes idle, and work wakes it from LIGHT (R294). -/
def State.setJob (s : State) (t b : Nat) (j : BrickJob) : State :=
  s.modTile t (fun x =>
    let y := { x with jobs := x.jobs.set b j }
    if y.idle then { y with idleSince := if x.idle then x.idleSince else s.clk } else { y with light := false })

/-- Whether a tile counts for a mask of regions: fitted, neither it nor its region retired (R315, R320). -/
def State.tileOf (s : State) (t regions : Nat) : Bool :=
  decide (t < s.ctl.part.tiles) && !s.retired Unit.tile t && !s.retired Unit.region (t / 4) && bitOf regions (t / 4)

/-- Whether a tile takes work of a mask of regions (R315): it counts for it, has its power (R495) and is not in reset (R327). -/
def State.tileInUse (s : State) (t regions : Nat) : Bool :=
  s.tileOf t regions && (s.tile t).on && decide ((s.tile t).resetUntil ≤ s.clk)

/-- Whether a tile has power (R18): its port belongs to a view, or its region is enabled for dispatch or builds. -/
def State.tilePowered (s : State) (t : Nat) : Bool :=
  (s.tile t).on &&
  ((s.viewOfPort (t / 4)).isSome || bitOf (s.num Obj.brkDispatchRegions) (t / 4) || bitOf (s.num Obj.brkBuildRegions) (t / 4))

/-- STATE of a tile (R18, R327). -/
def State.tileState (s : State) (t : Nat) : Nat :=
  if s.retired Unit.tile t then 4 else if !s.tilePowered t then 0
  else if s.clk < (s.tile t).resetUntil then 3 else if (s.tile t).map ≠ 0xFF then 2 else 1

/-- TILE_LIGHT (R294). -/
def State.tileLight (s : State) (t : Nat) : State :=
  let x := s.tile t
  if s.tilePowered t ∧ x.idle ∧ x.idleSince + 200 ≤ s.clk ∧ !s.retired Unit.tile t ∧ s.power.state ≠ .deep then
    s.modTile t (fun y => { y with light := true })
  else s

/-! ## Capacity -/

/-- BRICKS_USABLE (R320). -/
def State.bricksUsable (s : State) : Nat :=
  (List.range s.ctl.part.tiles).foldl (fun n t =>
    if s.tileOf t (s.num Obj.brkDispatchRegions) then n + popCount 8 (s.tile t).map else n) 0

/-- The capacity U for given DISPATCH_REGIONS and UTIL_LIMIT, in brick cycles per second (R320). -/
def State.capacityBy (s : State) (regions util : Nat) : Nat :=
  ((List.range s.ctl.part.tiles).foldl (fun n t =>
    if s.tileOf t regions then n + popCount 8 (s.tile t).map else n) 0) * 1000000000 * util / 100

def State.capacity (s : State) : Nat := s.capacityBy (s.num Obj.brkDispatchRegions) (s.num Obj.brkUtilLimit)

/-- The slots named by the enabled predicates of views, each once. -/
def slotsNamedBy (octets : Nat → Bytes) (views : List Nat) : List Nat :=
  (views.flatMap (fun v => (List.range 4).map (fun j => u8At (octets (Obj.viewPred v j)) 0))).filter
    (fun n => decide (n < 8)) |>.eraseDups

/-- The demand of R320 for values that a lookup gives: RATE × COST over the slots that configured views name. -/
def State.demandBy (s : State) (num : Nat → Nat) (octets : Nat → Bytes) : Nat :=
  (slotsNamedBy octets ((List.range 4).filter (viewConfiguredBy num))).foldl (fun a n =>
    a + num (Obj.slotRate n) * (s.slot n).cost) 0

def State.demand (s : State) : Nat := s.demandBy s.num s.octets

/-- LOAD (R320). -/
def State.brickLoad (s : State) : Nat :=
  if s.demand = 0 then 0 else if s.capacity = 0 then 65535 else Nat.min 65535 (s.demand * 1000 / s.capacity)

/-- Retirements between two states have lowered the capacity below the demand (R321). -/
def State.reviewCapacity (s before : State) : State :=
  let fewer := decide (s.ctl.faults.retired ≠ before.ctl.faults.retired) ||
    decide (s.tiles.map (·.map) ≠ before.tiles.map (·.map))
  if fewer ∧ s.capacity < s.demand ∧ before.demand ≤ before.capacity then
    (s.orFlags Obj.brkFlags 2).alert Alert.classifier
  else s

/-! ## Weights in the tiles -/

/-- The weight sections of the READY slots (R306). -/
def State.readyWeights (s : State) : List (Nat × Bytes) :=
  ((List.range 8).filter (fun n => (s.slot n).state = 3)).map (fun n => (n, mdlWeights (s.slot n).model))

/-- The model of a slot read on, or written to, a stack through a port (R381, R399). -/
def State.modelAccess (s : State) (port k n : Nat) : State :=
  s.hbmTouch port (s.staticChannels k (4 * 2 ^ 20 + n * 2 ^ 20) (s.slot n).model.length)

/-- The tiles of a die that take the weights of the READY slots read them from the stack of their die, through CROP_RD (R306, R381, R400). -/
def State.weightReads (s : State) : State :=
  (List.range s.ctl.part.stacks).foldl (fun (acc : State) k =>
    if (rangeFrom (24 * k) 24).any (fun t =>
        s.tileInUse t (s.num Obj.brkDispatchRegions) && decide ((s.tile t).weights ≠ s.readyWeights)) then
      s.readyWeights.foldl (fun (a : State) q => a.modelAccess 1 k q.1) acc
    else acc) s

/-- Every tile of DISPATCH_REGIONS that is not retired holds the weights of every READY slot (R306): so does one that comes up or
joins them, before it takes a crop. -/
def State.giveWeights (s : State) : State :=
  { s.weightReads with tiles := (List.zip (List.range 48) s.tiles).map (fun (q : Nat × Tile) =>
      if s.tileInUse q.1 (s.num Obj.brkDispatchRegions) then { q.2 with weights := s.readyWeights } else q.2) }

/-- The HBM stacks that hold a copy of a READY model (R306). -/
def State.replicaStacks (s : State) : List Nat := List.range s.ctl.part.stacks

/-! ## Model slots -/

/-- The model of a slot taken away with its copies, the slot left in a state (R303). -/
def State.slotEmptied (s : State) (n state : Nat) : State :=
  let s1 := s.modSlot n (fun x => { x with state := state, model := [], cycles := 0, cost := 0, replicas := [] })
  { s1 with tiles := s1.tiles.map (fun (x : Tile) => { x with weights := assocDrop x.weights n }) }

/-- A passed BLOCK_END of MODEL (R303). -/
def State.slotLoaded (s : State) (n : Nat) (model : Bytes) : State :=
  s.modSlot n (fun x => { x with state := 2, model := model, endedAt := s.clk })

/-- Weight space taken by the other READY and CHECKING slots (R305). -/
def State.weightsBeside (s : State) (n : Nat) : Nat :=
  (List.range 8).foldl (fun a k =>
    if k ≠ n ∧ ((s.slot k).state = 2 ∨ (s.slot k).state = 3) then a + mdlWeightBytes (s.slot k).model else a) 0

/-- The first load check that fails for the model in a slot (R305). -/
def State.slotFault (s : State) (n : Nat) : Option (Nat × Nat) :=
  let m := (s.slot n).model
  mdlCheck m (s.weightsBeside n) (decide (s.num (Obj.slotRate n) * mdlCost m ≤ s.capacity))

/-- The 32 bytes of LOAD_RESULT (R308). -/
def loadData (m : Bytes) (fault : Option (Nat × Nat)) (micros : Nat) : Bytes :=
  let reached := decide (7 ≤ (fault.map (·.1)).getD 7)
  leBytes 1 (if fault.isSome then 1 else 0) ++ leBytes 1 ((fault.map (·.1)).getD 0) ++
  leBytes 2 ((fault.map (·.2)).getD 0xFFFF) ++ leBytes 4 (if reached then mdlCm m else 0) ++ leBytes 4 (mdlCycles m) ++
  leBytes 4 (if reached then mdlCost m else 0) ++ leBytes 4 (mdlWeightBytes m) ++ leBytes 4 (crc32c m) ++
  leBytes 4 (Nat.min 0xFFFFFFFF micros) ++ leBytes 4 0

/-- The copies of a READY model are written to the stacks through CTL (R306, R381). -/
def State.modelCopies (s : State) (n : Nat) : State :=
  (s.slot n).replicas.foldl (fun (acc : State) k => acc.modelAccess 6 k n) s

/-- MODEL_CHECK: the load checks of a CHECKING slot complete (R305 to R308); a READY model is in the HBM stacks and its weights in
the tiles, and it goes to NOR. -/
def State.modelCheck (s : State) (n : Nat) : State :=
  let x := s.slot n
  if x.state ≠ 2 then s
  else
    let fault := s.slotFault n
    let s1 := (s.modSlot n (fun y =>
      match fault with
      | some _ => { y with state := 4 }
      | none =>
        { y with
          state := 3, cycles := mdlCm y.model, cost := mdlCost y.model, norState := 1, nor := none,
          replicas := s.replicaStacks })).giveWeights
    (s1.completeResult (Obj.slotLoadResult n) (some s.ctl.staging.lastEpoch)
      (loadData x.model fault ((s.clk - x.endedAt) / 1000))).modelCopies n

/-- NOR_STORED (R307). -/
def State.norStored (s : State) (n : Nat) : State :=
  if (s.slot n).norState = 1 ∧ (s.slot n).state = 3 then
    s.modSlot n (fun x => { x with norState := 2, nor := some x.model })
  else s

/-- The slots at the end of BOOT (R307): each complete NOR copy is loaded and checked, in the order of the slots. -/
def State.bootSlots (s : State) : State :=
  let empty := { s with slots := s.slots.map (fun (x : Slot) => { x with state := 0 }) }
  State.giveWeights ((List.range 8).foldl (fun (acc : State) n =>
    match (acc.slot n).nor with
    | none => acc.modSlot n (fun _ => Slot.reset)
    | some m =>
      let s1 := acc.modSlot n (fun x => { x with state := 2, model := m, cycles := 0, cost := 0, norState := 2 })
      match s1.slotFault n with
      | some _ => s1.modSlot n (fun x => { x with state := 4 })
      | none => s1.modSlot n (fun x => { x with state := 3, cycles := mdlCm m, cost := mdlCost m, replicas := s.replicaStacks }))
    empty)

/-! ## Predicates -/

/-- The value check of a predicate (R309). -/
def predOk (b : Bytes) : Bool :=
  decide (b.length = 16) && (decide (u8At b 0 < 8) || decide (u8At b 0 = 0xFF)) && decide (u8At b 1 = 0) &&
  decide (u32At b 4 ≤ u32At b 8) && !bitOf (u16At b 12) 0

/-- Whether a predicate matches a comet (R310). -/
def predMatches (b : Bytes) (c : Comet) : Bool :=
  decide (u8At b 0 ≠ 0xFF) && decide (c.flags &&& u16At b 2 = 0) && decide (u32At b 4 ≤ c.area) &&
  decide (c.area ≤ u32At b 8) &&
  decide (u16At b 14 ≤ (List.range 16).foldl (fun a k => if bitOf (u16At b 12) k then a + natAt c.counts k else a) 0)

/-- The slot that the first matching predicate of a view selects (R310). -/
def State.predicateSlot (s : State) (v : Nat) (c : Comet) : Option Nat :=
  ((List.range 4).map (fun j => s.paramBytes c.epoch (Obj.viewPred v j))).find? (fun b => predMatches b c) |>.map
    (fun b => u8At b 0)

/-! ## Build units -/

/-- Units of a build that no brick may run any more go back to its list (R324). -/
def State.unitBack (s : State) (v unit : Nat) : State :=
  s.modView v (fun w => { w with build := w.build.map (fun b => { b with todo := b.todo ++ [unit] }) })

/-- Waiting units placed on one idle brick (R324): views in ascending order. -/
def State.giveUnit (s : State) (t b : Nat) : State :=
  if (s.tile t).job b = .idle ∧ bitOf (s.tile t).map b ∧ s.tileInUse t (s.num Obj.brkBuildRegions) then
    match (List.range 4).find? (fun v => (((s.view v).build).map (·.todo)).getD [] ≠ []) with
    | none => s
    | some v =>
      match ((s.view v).build).map (·.todo) with
      | some (u :: rest) =>
        (s.modView v (fun w => { w with build := w.build.map (fun b => { b with todo := rest }) })).setJob t b (.unit v u)
      | _ => s
  else s

/-- Waiting units placed on every idle brick of BUILD_REGIONS (R324), lowest tile and brick first. -/
def State.giveUnits (s : State) : State :=
  if (List.range 4).all (fun v => (((s.view v).build).map (·.todo)).getD [] = []) then s
  else (List.range s.ctl.part.tiles).foldl (fun acc t => (List.range 8).foldl (fun acc b => acc.giveUnit t b) acc) s

/-- BUILD_UNIT: a unit completes on a brick (R324, R327). -/
def State.buildUnit (s : State) (v t b : Nat) : State :=
  match (s.tile t).job b with
  | .unit w u =>
    if w = v then (((s.setJob t b .idle).buildUnitDone v u).bump (Obj.tileBuildUnits t)).giveUnits else s
  | _ => s

/-! ## Dispositions -/

/-- A comet's disposition written and given to the tracker (R317, R340); only a change of action is a revision (R342). The
modules that own valves of it get the updated record (R319). -/
def State.disposeComet (s : State) (v id action disposition flags : Nat) : State :=
  match s.cometOf id with
  | none => s
  | some t =>
    let f := fun (u : Track) => { u with
      action := action, awaiting := false,
      comet := { u.comet with disposition := disposition, flags := u.comet.flags ||| flags } }
    let shared := ((s.findEntry (s.isOwn id)).map (fun q => q.2.shared)).getD false
    let s1 := if shared then s.sendToOwners v (f t).comet else s
    if t.action = action then
      { s1 with entries := s1.entries.map (fun (x : Entry) => { x with
          tracks := x.tracks.map (fun (u : Track) => if s.isOwn id u then f u else u) }) }.reviewEntries
    else s1.reviseComet (s.isOwn id) f

/-- The action the tracker takes for DEFAULT_ACTION: NONE counts as ACCEPT (R340). -/
def defaultAct (a : Nat) : Nat := if a = 2 then 2 else 1

/-- A comet takes its default (R314): counted, DEFAULTED set, taken out of the queue and off its brick. -/
def State.defaultComet (s : State) (v id : Nat) : State :=
  match s.cometOf id with
  | none => s
  | some t =>
    if t.awaiting then
      let a := s.param t.comet.epoch (Obj.trkDefaultAction v)
      let s1 := { s with dispatchQueue := s.dispatchQueue.filter (fun m => m.comet ≠ id) }
      (s1.bump (Obj.viewDefaulted v)).disposeComet v id (defaultAct a) (2 * 64 + a) CometFlag.defaulted
    else s

/-- The brick that works on a comet. -/
def State.brickOf (s : State) (id : Nat) : Option (Nat × Nat) :=
  ((List.range s.tiles.length).flatMap (fun t => (List.range 8).map (fun b => (t, b)))).find? (fun q =>
    match (s.tile q.1).job q.2 with | .crop m _ => m.comet = id | _ => false)

/-- T_DEC_EXPIRY: a matched comet's decision time has passed (R314); a run of it is abandoned. -/
def State.tDecExpiry (s : State) (id : Nat) : State :=
  match s.cometOf id with
  | none => s
  | some t =>
    if t.awaiting ∧ 0 ≤ diff32 s.shortNow t.tDec then
      let s1 := match s.brickOf id with
        | some q => ((s.setJob q.1 q.2 .idle).bump (Obj.tileRunsAbandoned q.1))
        | none => s
      (s1.defaultComet t.view id).giveUnits
    else s

/-! ## The dispatcher -/

/-- The brick clock of a die in tenths of a cycle per ns (R293, R493): 1.0 GHz, or 0.9 GHz from the HOT band on. -/
def State.brickRate (s : State) (east : Bool) : Nat :=
  if 3 ≤ (if east then s.power.bandE else s.power.bandW) then 9 else 10

/-- The cycles of a run so far, in tenths (R301, R318). -/
def State.runTenths (s : State) (t : Nat) (r : Run) : Nat := r.tenths + s.brickRate (decide (6 ≤ t / 4)) * (s.clk - r.since)

/-- The cycles of every run brought to the present, ahead of a change of a brick clock (R318). -/
def State.runsNow (s : State) : State :=
  { s with tiles := (List.zip (List.range 48) s.tiles).map (fun (q : Nat × Tile) =>
      { q.2 with jobs := q.2.jobs.map (fun j => match j with
        | .crop m (some r) => .crop m (some { r with tenths := s.runTenths q.1 r, since := s.clk })
        | x => x) }) }

/-- A comet's estimate lies before its decision time (R316): COST at the brick clock of its die's band; compared in tenths of a cycle,
without rounding. -/
def State.inTime (s : State) (m : Matched) (east : Bool) : Bool :=
  let rate := s.brickRate east
  let tenths := s.num Obj.brkFetchBudget * 1000 * rate + (s.slot m.slot).cost * 10
  decide ((tenths : Int) < diff32 m.tDec s.shortNow * rate)

/-- The dispatcher's order: by decision time, ties by arrival (R314). -/
def insertMatched (m : Matched) : List Matched → List Matched
  | [] => [m]
  | x :: r => if diff32 m.tDec x.tDec < 0 then m :: x :: r else x :: insertMatched m r

/-- The owner of a bus reports t_open of a comet that this module has closed and sent there (R313, R319): the comet's decision time
rests on the first valve-open time reported, the earliest of those on this module and on others. The comet keeps its place on a
brick, and takes its new place in the queue. -/
def State.takeOpen (s : State) (id tOpen : Nat) : State :=
  match s.cometOf id with
  | none => s
  | some t =>
    let dec := ofSigned 32 ((tOpen : Int) - (s.param t.comet.epoch (Obj.trkDecisionMargin t.view) * 1000 : Nat))
    if !t.awaiting || (t.opened && decide (diff32 t.tDec dec ≤ 0)) then s
    else
      let mine := s.dispatchQueue.filter (fun m => m.comet = id)
      let s1 := { s with
        entries := s.entries.map (fun (x : Entry) => { x with tracks := x.tracks.map (fun (u : Track) =>
          if s.isOwn id u then { u with tDec := dec, opened := true } else u) }),
        dispatchQueue := mine.foldl (fun q (m : Matched) => insertMatched { m with tDec := dec } q)
          (s.dispatchQueue.filter (fun m => m.comet ≠ id)) }
      { s1 with tiles := s1.tiles.map (fun (x : Tile) => { x with jobs := x.jobs.map (fun (j : BrickJob) => match j with
          | .crop m r => if m.comet = id then .crop { m with tDec := dec } r else .crop m r
          | y => y) }) }

/-- The region whose slice holds the middle column of a comet (R315). -/
def State.cometRegion (s : State) (v : Nat) (c : Comet) : Nat := (s.geometry c.epoch v).regionOf ((c.xMin + c.xMax) / 2)

/-- A comet arrives at the dispatcher (R314, R495). -/
def State.arrive (s : State) (m : Matched) : State :=
  if s.power.band = 4 then s.defaultComet m.view m.comet
  else if 8192 ≤ s.dispatchQueue.length then
    (((s.bump (Obj.viewQueueFull m.view)).orFlags Obj.brkFlags 1)).defaultComet m.view m.comet
  else { s with dispatchQueue := insertMatched m s.dispatchQueue }

/-- A brick of a tile that is free for a crop: one with a build unit counts as free (R315). -/
def Tile.freeBrick (x : Tile) : Option Nat :=
  (List.range 8).find? (fun b => bitOf x.map b && (match x.job b with | .crop _ _ => false | _ => true))

/-- The brick on which the dispatcher places a comet (R315). -/
def State.placeFor (s : State) (m : Matched) (region : Nat) : Option (Nat × Nat) :=
  let tiles := (List.range s.ctl.part.tiles).filter (fun t =>
    s.tileInUse t (s.num Obj.brkDispatchRegions) && (assoc (s.tile t).weights m.slot).isSome)
  let own := tiles.filter (fun t => t / 4 = region)
  let die := tiles.filter (fun t => t / 4 ≠ region ∧ (decide (t / 4 < 6) = decide (region < 6)))
  let rest := tiles.filter (fun t => decide (t / 4 < 6) ≠ decide (region < 6))
  if (s.slot m.slot).state ≠ 3 then none
  else (own ++ die ++ rest).findSome? (fun t => (s.tile t).freeBrick.map (fun b => (t, b)))

/-- A comet placed on a brick: a unit that runs there is dropped and runs again later (R315, R324); a second placement counts
in RETRIED (R318). -/
def State.placeOn (s : State) (m : Matched) (t b : Nat) : State :=
  let s1 := match (s.tile t).job b with
    | .unit v u => (s.unitBack v u).bump Obj.brkBuildPreempts
    | _ => s
  (s1.bumpIf m.retried (Obj.viewRetried m.view)).setJob t b (.crop m none)

/-- DISPATCH: the head of the queue is placed on a free brick, or takes its default when its estimate is too late. With no comet in
the queue the free bricks go to build units (R324), among them those of a tile whose reset is over. -/
def State.dispatch (s : State) : State :=
  match s.dispatchQueue with
  | [] => s.giveUnits
  | m :: rest =>
    let popped := { s with dispatchQueue := rest }
    match s.cometOf m.comet with
    | none => popped
    | some t =>
      let region := s.cometRegion m.view t.comet
      match s.placeFor m region with
      | some q =>
        if s.inTime m (decide (6 ≤ q.1 / 4)) then (popped.placeOn m q.1 q.2).giveUnits
        else popped.defaultComet m.view m.comet
      | none => if s.inTime m (decide (6 ≤ region)) then s else popped.defaultComet m.view m.comet

/-- A run abandoned (R318): the comet is placed again, once, if its estimate still allows, otherwise it takes its default; a
build unit runs again later (R324). -/
def State.abandon (s : State) (t b : Nat) (again : Bool) : State :=
  match (s.tile t).job b with
  | .idle => s
  | .unit v u => (s.setJob t b .idle).unitBack v u
  | .crop m _ =>
    let s1 := (s.setJob t b .idle).bump (Obj.tileRunsAbandoned t)
    if again ∧ !m.retried ∧ s1.inTime m (decide (6 ≤ t / 4)) then s1.arrive { m with retried := true }
    else s1.defaultComet m.view m.comet

/-! ## Crops -/

/-- The crop window of a comet (R311): first column, width, first line, height. -/
def cropWindow (c : Comet) (margin width : Nat) : Nat × Nat × Nat × Nat :=
  let lo := c.xMin - margin
  let hi := Nat.min (c.xMax + margin) (width - 1)
  let x := if 128 < hi + 1 - lo then (clampNat ((((c.xMin + c.xMax) / 2 : Nat) : Int) - 63) 0 (width - 128), 128)
    else (lo, hi + 1 - lo)
  -- along the track, counted back from the closing line
  let tall := (c.last + wrap32 - c.first) % wrap32 + margin
  let back := Nat.min tall 126
  (x.1, x.2, (c.last + wrap32 - back) % wrap32, back + 2)

/-- The samples of a window as the crop staging area holds them and as the crop ring keeps them (R293, R312): bands 0 to 3 of every pixel,
line by line; a hole reads 0 (R311). -/
def cropSamples (px : List (Option (List Nat))) : Bytes :=
  px.flatMap (fun p => (List.range 4).flatMap (fun b => leBytes 2 (natAt (p.getD []) b)))

/-- The crop-ring record of a window (R312). -/
def cropRecord (c : Comet) (r0 x0 wc hc : Nat) (px : List (Option (List Nat))) : Bytes :=
  let samples := cropSamples px
  let mask := maskBytes (px.map (·.isNone))
  leBytes 4 c.id ++ leBytes 4 r0 ++ leBytes 4 x0 ++ leBytes 2 wc ++ leBytes 2 hc ++ leBytes 2 c.epoch ++ zeros 2 ++
  leBytes 4 (32 + samples.length + mask.length) ++ zeros 8 ++ samples ++ mask

/-- The window written to the view's crop ring, and the comet's CROP_HANDLE (R312). -/
def State.keepCrop (s : State) (v id : Nat) (b : Bytes) : State :=
  let r := s.ringRecord (20 + v) b
  if r.2 then
    let n := (r.1.view v).cropsKept
    (r.1.modView v (fun w => { w with cropsKept := n + 1 })).editComet id (fun c =>
      { c with crop := v * 2 ^ 30 + n % 2 ^ 30 })
  else r.1

/-- CROP_FETCH: the crop engine has read the window and the run starts (R311, R312). It waits for a line that is WRITING or still to be
stitched; a window with a line whose slot has passed to another costs the comet its default (R311, R314, R404). -/
def State.cropFetch (s : State) (t b : Nat) : State :=
  match (s.tile t).job b with
  | .crop m none =>
    match s.cometOf m.comet with
    | none => s.setJob t b .idle
    | some tr =>
      let c := tr.comet
      let v := m.view
      let width := (s.geometry c.epoch v).width
      let w := cropWindow c (s.param c.epoch (Obj.viewCropMargin v)) width
      let lines := (List.range w.2.2.2).map (fun k => (w.2.2.1 + k) % wrap32)
      if lines.any (fun r => s.lineSlot v r = 0 && !s.lineToCome v r) then
        ((s.setJob t b .idle).bump (Obj.viewCropLost v)).defaultComet v m.comet |>.giveUnits
      else if lines.any (fun r => decide (s.lineSlot v r ≤ 1)) then s
      else
        let px := lines.flatMap (fun r => (List.range w.2.1).map (fun x => s.imagePixel v r width (w.1 + x)))
        let read := s.cropRead v width w
        let s1 := if s.param c.epoch (Obj.viewCropKeep v) ≠ 0 then
            read.keepCrop v m.comet (cropRecord c w.2.2.1 w.1 w.2.1 w.2.2.2 px)
          else read
        let staging := cropSamples px
        let input := cropInput (s.slot m.slot).model w.2.2.2 w.2.1 (fun y x k => u16At staging (8 * (y * w.2.1 + x) + 2 * k))
        (s1.setJob t b (.crop m (some { input := input, tenths := 0, since := s.clk }))).modTile t (fun x => { x with
          staging := staging,
          tensors := x.tensors.modify b (fun sram => mdlStart (s.slot m.slot).model sram input) })
  | _ => s

/-- RUN_END: a disposition of die E crosses the die bridge to the tracker (R15; DESIGN CHOICE, log entry 68: as 16 bytes). The run's output
class becomes the comet's disposition when it is in time (R317). A run takes exactly C_m cycles
(R301): before that it goes on. -/
def State.runEnd (s : State) (t b : Nat) : State :=
  match (s.tile t).job b with
  | .crop m (some r) =>
    let v := m.view
    let q := mdlRun (s.slot m.slot).model ((s.tile t).tensors.getD b [])
    if s.runTenths t r < 10 * (s.slot m.slot).cycles then s else
    let s1 := ((s.setJob t b .idle).bump (Obj.tileRuns t)).modTile t (fun x => { x with tensors := x.tensors.set b q.1 })
    let s2 := match s1.cometOf m.comet with
      | none => s1
      | some tr =>
        if diff32 s.shortNow m.tDec < 0 then
          let s1 := if 24 ≤ t then s1.ejectTraffic 16 else s1
          let k := q.2
          let f := s.param tr.comet.epoch (Obj.slotOutAction m.slot) / 4 ^ k % 4
          let dflt := s.param tr.comet.epoch (Obj.trkDefaultAction v)
          let s3 := (s1.editComet m.comet (fun c => { c with modelOut := k })).bump (Obj.viewModelDone v)
          if f = 0 then s3.disposeComet v m.comet (defaultAct dflt) (2 * 64 + dflt) 0
          else s3.disposeComet v m.comet f (64 + f) 0
        else s1.defaultComet v m.comet
    s2.giveUnits
  | _ => s

/-! ## Upsets, resets and retirement -/

/-- Every brick of a tile loses its work. -/
def State.abandonTile (s : State) (t : Nat) (again : Bool) : State :=
  (List.range 8).foldl (fun acc b => acc.abandon t b again) s

/-- A tile retired; a region whose four tiles are retired retires (R13, R294). -/
def State.retireTile (s : State) (t : Nat) : State :=
  let s1 := (s.retire Unit.tile t 0 []).abandonTile t true
  let r := t / 4
  if (List.range 4).all (fun k => s1.retired Unit.tile (4 * r + k)) then s1.retireRegion r 3 else s1

/-- A brick retired (R294): the spare takes its number, later retirements clear its bit, and a map of 0 retires the tile. The
spare is a fresh unit under the same number. -/
def State.retireBrick (s : State) (t b : Nat) : State :=
  let n := 8 * t + b
  let s1 := s.retire Unit.brick n 0 []
  if !(s.tile t).spareUsed then
    let s2 := s1.unretire Unit.brick n
    ({ s2 with ctl := { s2.ctl with faults :=
        { s2.ctl.faults with windows := assocDrop s2.ctl.faults.windows (Unit.brick, n) } } }).modTile t (fun x =>
      { x with spareUsed := true })
  else
    let s2 := s1.modTile t (fun x => { x with map := clearBit x.map b })
    if (s2.tile t).map = 0 then s2.retireTile t else s2

/-- Whether a tile's upsets count: it has power and is not retired (R18, R502). -/
def State.tileLive (s : State) (t : Nat) : Bool :=
  decide (t < s.ctl.part.tiles) && s.tilePowered t && !s.retired Unit.tile t && s.ctl.mode.operating &&
  decide (s.power.state ≠ .deep)

/-- An upset of a unit of a tile, which counts where neither the tile nor its region is in reset, and what the unit's threshold does
(R501, R502). -/
def State.tileUpset (s : State) (t unit inst window threshold : Nat) (gone : State → State) : State :=
  if s.clk < (s.tile t).resetUntil ∨ s.inReset (t / 4) then s
  else
    let s1 := s.upset unit inst window []
    if s1.overThreshold unit inst threshold then gone s1 else s1

/-- BRICK_UPSET: a residue mismatch in a run (R318, R503). -/
def State.brickUpset (s : State) (t b : Nat) : State :=
  if s.tileLive t ∧ (s.tile t).job b ≠ .idle ∧ bitOf (s.tile t).map b then
    ((s.abandon t b true).tileUpset t Unit.brick (8 * t + b) 10000000000 3 (fun a => a.retireBrick t b)).giveUnits
  else s

/-- SRAM_ERROR: a word of a tile's shared SRAM (R295, R503). `slot` is the model slot whose weights the word holds: from the HBM
replica it is as it was. -/
def State.sramError (s : State) (t : Nat) (corrected : Bool) (slot : Nat) : State :=
  if s.tileLive t then
    if corrected then s.bump (Obj.tileSramCorrected t)
    else
      let s1 := (List.range 8).foldl (fun acc b =>
        match (acc.tile t).job b with
        | .crop m (some _) => if m.slot = slot then acc.abandon t b true else acc
        | _ => acc) (s.modelAccess 1 (t / 24) slot)
      (s1.tileUpset t Unit.tileSram t 10000000000 4 (fun a => (a.retire Unit.tileSram t 0 []).retireTile t)).giveUnits
  else s

/-- TILE_RESET (R10, R503): it lasts 2 µs, the most that chapter 1 gives a reset at the level of a tile. DESIGN CHOICE (log entry 46). -/
def State.tileReset (s : State) (t : Nat) : State :=
  if s.tileLive t then
    let s1 := (((s.bump (Obj.tileResets t)).abandonTile t true).tileUpset t Unit.tile t 60000000000 4 (fun a => a.retireTile t))
    (s1.modTile t (fun x => { x with resetUntil := s.clk + 2000 })).giveUnits
  else s

/-- Tiles without power lose their work and what their SRAM holds (R18): a crop is placed again as after any abandoned run, a build unit
runs again on another tile. -/
def State.gateTiles (s : State) : State :=
  let dark := (List.range s.ctl.part.tiles).filter (fun t => !s.tilePowered t)
  let s1 := dark.foldl (fun acc t => acc.abandonTile t true) s
  { s1 with tiles := (List.zip (List.range 48) s1.tiles).map (fun (q : Nat × Tile) =>
      if dark.contains q.1 then { q.2 with weights := [], staging := [], tensors := List.replicate 8 [] } else q.2) }

/-- Every tile loses its power without a second placement (R495), or has it back as after a reset. -/
def State.tilesOff (s : State) : State :=
  let s1 := (List.range s.ctl.part.tiles).foldl (fun acc t => acc.abandonTile t false) s
  { s1 with tiles := s1.tiles.map (fun x => { x with on := false }) }
def State.tilesOn (s : State) : State :=
  { s with tiles := s.tiles.map (fun (x : Tile) =>
      if x.on then x else { x with on := true, light := true, idleSince := s.clk }) }.giveWeights.giveUnits

/-- The tiles at the end of BOOT: the retirement map's bricks take their spares, then lose their bits (R294, R504). -/
def State.bootTiles (s : State) : State :=
  let fresh := { s with tiles := s.tiles.map (fun _ => { Tile.reset with idleSince := s.clk }) }
  s.ctl.faults.map.foldl (fun acc p =>
    if p.1 = Unit.brick then
      acc.modTile (p.2 / 8) (fun x =>
        if x.spareUsed then { x with map := clearBit x.map (p.2 % 8) } else { x with spareUsed := true })
    else acc) fresh

/-! ## The release of comets -/

/-- Whether a comet comes from a segmenter of die E alone, and crosses the die bridge to the tracker (R15, R272). -/
def State.cometEast (s : State) (v : Nat) (c : Comet) : Bool :=
  let ports := (s.geometry c.epoch v).ports
  let mine := (List.range ports.length).filter (fun k => bitOf c.slices k)
  (if mine = [] then [ports.length - 1] else mine).all (fun k => decide (6 ≤ natAt ports k))

/-- COMET_RELEASE: the comet at the head of a view's close queue takes a token from both buckets, gets its ID, and goes to the
tracker and to the dispatcher (R282, R283, R310, R339). -/
def State.cometRelease (s : State) (v : Nat) : State :=
  match (s.view v).closeQueue with
  | [] => s
  | (c0, waited) :: rest =>
    let mine := s.viewTokens v
    let all := s.moduleTokens
    if mine < 1000000000 ∨ all < 1000000000 then s
    else
      let w := s.view v
      let s1 := (s.modView v (fun w => { w with
          closeQueue := rest, tokens := mine - 1000000000, tokenClk := s.clk, issuedIds := w.issuedIds + 1 })).modPower
        (fun p => { p with moduleTokens := all - 1000000000, moduleTokenClk := s.clk })
      let s1 := s1.markWaits
      let s1 := if s1.cometEast v c0 then s1.ejectTraffic 128 else s1
      let c1 := { c0 with id := v * 2 ^ 30 + w.issuedIds % 2 ^ 30,
                          flags := if waited then c0.flags ||| CometFlag.throttled else c0.flags }
      let s2 := if waited then (s1.bump (Obj.viewThrottled v)).lapseEvent 2 else s1
      match s2.predicateSlot v c1 with
      | some n =>
        let s3 := (s2.bump (Obj.viewMatched v)).enterComet v c1 (defaultAct (s2.param c1.epoch (Obj.trkDefaultAction v))) true 0
        match s3.cometOf c1.id with
        | some t => s3.arrive { comet := c1.id, view := v, slot := n, tDec := t.tDec, retried := false }
        | none => s3
      | none =>
        let a := s2.ruleAction v c1
        s2.enterComet v { c1 with disposition := 3 * 64 + a.1 } a.1 false (if a.2 then TFlag.partialRule else 0)

end Sys2Proof.Machine
end

