-- ==== Sys2Proof/Machine/ValveBus.lean ====
section
/-! DEFINITION. The valve buses: ticks and frames (R358 to R363), the status frame (R366), presence and hot-plug (R367), DEEP
(R368), valve test (R369), SAFE_N (R370). -/

namespace Sys2Proof.Machine

/-- SAFE_N is asserted, after its filter (R370). -/
def State.safe (s : State) : Bool := !s.pins.safeN

/-- STATE of a bus (R375): SAFE stands over every state but DISABLED. -/
def State.busState (s : State) (b : Nat) : Nat := if s.safe ∧ (s.bus b).state ≠ 0 then 4 else (s.bus b).state

/-- Whether a bus sends frames apart from SAFE (R367): UP, or STARTING after its 100 µs of IDLE. -/
def Bus.sends (x : Bus) : Bool := decide (x.state = 3) || (decide (x.state = 2) && x.startAt.isNone)

/-- The 74 bytes of a valve frame (R360, R361). -/
def valveFrame (flags tick period valves : Nat) : Bytes :=
  let b := leBytes 1 1 ++ leBytes 1 flags ++ leBytes 4 tick ++ leBytes 1 period ++ leBytes 1 0 ++ leBytes 64 valves
  b ++ leBytes 2 (crc16 b)

abbrev FrameFlag.resync : Nat := 1
abbrev FrameFlag.closed : Nat := 2
abbrev FrameFlag.test : Nat := 4

/-- A bus in STARTING (R367). -/
def Bus.start (x : Bus) (now : Nat) : Bus :=
  { x with state := 2, startAt := some now, goodFrames := 0, badTicks := 0, resync := true, mask := 0, closed := [],
           frameSent := false, judge := false, status := none, released := false }

/-- A bus that stops CLK and DATA, in a state (R366 to R368). -/
def Bus.stop (x : Bus) (state : Nat) : Bus :=
  { x with state := state, startAt := none, goodFrames := 0, badTicks := 0, mask := 0, closed := [], frameSent := false,
           judge := false, status := none, cur := 0 }

/-! ## Ticks -/

/-- Valves with an armed opening that starts within the off-time after a tick that ends at `en` (R337). -/
def State.soonValves (s : State) (l : List (Nat × Nat × Nat)) (en : Int) (minOff period : Nat) : Nat :=
  valveSet ((l.filter (fun q =>
    let o := s.absOf q.2.1
    decide (en ≤ o) && decide (o < en + ((minOff - 1) * period : Nat)))).map (·.1))

/-- The valves of a test frame for a tick from `st` to `en` (R369), and the clocks since which they have been open: TEST_STATE
less every bit that would have been 1 for longer than TEST_PULSE. -/
def testValves (state pulse st en : Nat) (since : List (Nat × Nat)) : Nat × List (Nat × Nat) :=
  let on := (List.range 512).filter (bitOf state)
  let kept := (on.map (fun j => (j, (assoc since j).getD st))).filter (fun q => decide (en ≤ q.2 + pulse))
  (kept.foldl (fun m q => setBit m q.1) 0, kept)

/-- Whether a bus's frames carry TEST_STATE (R362, R369). -/
def State.testing (s : State) (b : Nat) : Bool :=
  decide (s.ctl.mode = .test) && s.flag (Obj.vbTestEnable b) && decide ((s.bus b).state = 3)

/-- The frame of the next tick fixed (R337, R359, R362, R367): `st` and `en` are its span. -/
def State.fixFrame (s : State) (b : Nat) (st en : Nat) : State :=
  let x := s.bus b
  let open_ := s.busOpenings b true
  let want := s.wanted open_ st en
  let off := s.num (Obj.vbMinOff b)
  if s.testing b then
    let old := leNat (s.octets (Obj.vbTestState b))
    let t := testValves old (s.num (Obj.vbTestPulse b) * 1000000) st en x.testSince
    let s1 := s.modBus b (fun y => { y with mask := t.1, closed := [], testSince := t.2 })
    if t.1 = old then s1 else s1.putVal (Obj.vbTestState b) (.bytes (leBytes 64 t.1))
  else
    let s1 :=
      if x.state = 3 then
        let f := fixState want (s.soonValves open_ en off (en - st)) x.mask ((x.tick + 1) % wrap32) off x.closed
        s.modBus b (fun y => { y with mask := f.1, closed := f.2, testSince := [] })
      else (s.bumpBy (Obj.vbDiscarded b) (popCount 512 want)).modBus b (fun y =>
        { y with mask := 0, closed := [], testSince := [] })
    s1.planTick b st en

/-- FLAGS of the next frame (R360, R362, R366). -/
def State.frameFlags (s : State) (b : Nat) : Nat :=
  let x := s.bus b
  (if s.testing b then FrameFlag.test else if s.ctl.mode = .run ∧ x.state = 3 then 0 else FrameFlag.closed) +
  (if x.resync ∨ x.state = 2 then FrameFlag.resync else 0)

/-- The fixed frame sent during the tick, or counted as not sent under SAFE_N (R359, R370). -/
def State.sendFrame (s : State) (b : Nat) : State :=
  let x := s.bus b
  if !x.sends then s
  else if s.safe then (s.bump (Obj.vbSafeTicks b)).modBus b (fun y => { y with resync := true })
  else
    (s.modBus b (fun y => { y with frame := x.mask, frameSent := true, resync := false })).emit
      (.valveFrame b (valveFrame (s.frameFlags b) ((x.tick + 1) % wrap32) (x.nextPeriod / 1000) x.mask))

/-- TICK_START: the next tick of an enabled bus starts with its APPLY; the frame of the tick after it is fixed and sent
(R336, R337, R358, R359, R363), the times of belts being recomputed first (R333). -/
def State.tickStart (s : State) (b : Nat) : State :=
  let x := s.bus b
  let start := if x.ticking then x.tickClk + x.period else s.clk
  if x.state = 0 ∨ x.state = 5 ∨ !s.ctl.mode.operating ∨ s.power.state = .deep ∨ s.clk < start then s
  else
    let n := if x.period = 0 then 0 else (x.tick + 1) % wrap32
    let len := if x.ticking then x.nextPeriod else s.tickNs b
    let applied := x.frameSent && x.sends && !s.safe
    let p := s.tickNs b
    let s1 := (s.modBus b (fun y => { y with requests := 0 })).beltReview.modBus b (fun y =>
      { y with ticking := true, tick := n, tickClk := start, period := len, nextPeriod := p,
               cur := if applied then x.frame else 0, judge := applied, status := none, frameSent := false })
    let s2 := if x.sends ∧ !s.safe then s1.emit (.apply b n) else s1
    (((s2.fixFrame b (start + len) (start + len + p)).sendFrame b).raise false (0x020 + b) n).reviewEntries

/-! ## The status frame -/

/-- STATUS_FRAME: a frame arrives from the board of a bus that sends (R366). -/
def State.statusFrame (s : State) (b : Nat) (frame : Bytes) : State :=
  if (s.bus b).sends ∧ s.ctl.mode.operating then s.modBus b (fun y => { y with status := some frame }) else s

/-- An upset of a bus (R366, R503): RESYNC in the next frame; outside STARTING it counts toward the run. -/
def State.busUpset (s : State) (b : Nat) : State :=
  let s1 := s.modBus b (fun y => { y with resync := true })
  if (s.bus b).state = 2 then s1 else s1.upset Unit.bus b (2 ^ 63) []

/-- A tick without a valid status frame; the 100th in a row retires the port (R366, R503). -/
def State.statusBad (s : State) (b : Nat) (counter : Nat) : State :=
  let s1 := ((s.bump counter).orFlags (Obj.vbFlags b) 1).busUpset b
  let s2 := s1.modBus b (fun y =>
    { y with goodFrames := 0, badTicks := if y.state = 2 then 0 else y.badTicks + 1 })
  if 100 ≤ (s2.bus b).badTicks then
    ((s2.retire Unit.bus b 0 []).modBus b (fun y => y.stop 6)).emit (.busSilent b)
  else s2

/-- A valid status frame (R366, R367). -/
def State.statusGood (s : State) (b : Nat) (f : Bytes) : State :=
  let bits := u16At f 8
  let old := s.num (Obj.vbBoardStatus b)
  let s1 := (s.putNum (Obj.vbBoardStatus b) bits).putNum (Obj.vbFaultCount b) (u16At f 10)
  let s2 := if bits &&& 15 ≠ 0 then s1.orFlags (Obj.vbFlags b) 4 else s1
  let s3 := if andNot (bits &&& 15) old ≠ 0 then s2.alert Alert.valveBoard else s2
  let s4 := { s3 with ctl := { s3.ctl with faults :=
    { s3.ctl.faults with windows := assocDrop s3.ctl.faults.windows (Unit.bus, b) } } }
  let x := s4.bus b
  let s5 :=
    if u32At f 2 ≠ x.tick ∨ u16At f 6 ≠ crc16 (leBytes 64 x.cur) then
      ((s4.bump (Obj.vbStateMismatch b)).orFlags (Obj.vbFlags b) 2).busUpset b
    else s4
  s5.modBus b (fun y =>
    if y.state = 2 then
      if 2 ≤ y.goodFrames then { y with state := 3, goodFrames := 0, badTicks := 0 }
      else { y with goodFrames := y.goodFrames + 1 }
    else { y with badTicks := 0 })

/-- STATUS_JUDGE: the status frame of a tick judged 4.5 µs after its start (R366). A tick whose own frame was not applied has
none to judge. -/
def State.statusJudge (s : State) (b : Nat) : State :=
  let x := s.bus b
  if x.judge ∧ x.sends ∧ x.tickClk + 4500 ≤ s.clk then
    let s1 := s.modBus b (fun y => { y with judge := false, status := none })
    match x.status with
    | none => s1.statusBad b (Obj.vbStatusMissing b)
    | some f =>
      if f.length ≠ 16 ∨ u16At f 14 ≠ crc16 (f.take 14) then s1.statusBad b (Obj.vbStatusCrcErrors b)
      else if u8At f 0 ≠ 2 then s1.statusBad b (Obj.vbStatusMissing b)
      else s1.statusGood b f
  else s

/-! ## Presence, enabling, power -/

/-- A bus starts: with SAFE_N asserted all its symbols are SAFE from the first (R367, R370). -/
def State.startBus (s : State) (b : Nat) : State :=
  let s1 := s.modBus b (fun y => y.start s.clk)
  if s.safe then s1.emit (.safe b) else s1

/-- VB_PRES_ASSERT, after the debounce (R367). -/
def State.vbPresent (s : State) (b : Nat) : State :=
  let x := s.bus b
  let s1 := s.modBus b (fun y => { y with present := true })
  if x.present ∨ !s.ctl.mode.operating then s1
  else if x.state = 1 then (s1.startBus b).alert Alert.valveBoard
  else if x.state = 6 ∧ x.released then ((s1.unretire Unit.bus b).startBus b).alert Alert.valveBoard
  else s1

/-- VB_PRES_RELEASE, after the debounce (R367). -/
def State.vbAbsent (s : State) (b : Nat) : State :=
  let x := s.bus b
  let s1 := s.modBus b (fun y => { y with present := false })
  if !x.present ∨ !s.ctl.mode.operating then s1
  else if x.state = 2 ∨ x.state = 3 then
    (((s1.modBus b (fun y => y.stop 1)).bump (Obj.vbPlugEvents b)).alert Alert.valveBoard).emit (.busSilent b)
  else if x.state = 6 then s1.modBus b (fun y => { y with released := true })
  else s1

/-- BUS_START_IDLE: 100 µs of CLK and IDLE are over (R367). -/
def State.busStartIdle (s : State) (b : Nat) : State :=
  match (s.bus b).startAt with
  | some t =>
    if (s.bus b).state = 2 ∧ t + 100000 ≤ s.clk ∧ s.ctl.mode.operating then s.modBus b (fun y => { y with startAt := none }) else s
  | none => s

/-- The buses follow ENABLE, at a commit's instant or at the end of BOOT (R26, R358, R361, R367): a bus that is enabled
anew counts its ticks from 0. -/
def State.busesEnabled (s : State) : State :=
  let one := fun (s : State) (b : Nat) =>
    let x := s.bus b
    let on := s.flag (Obj.vbEnable b)
    if on ∧ x.state = 0 then
      let s1 := s.modBus b (fun y => { Bus.reset with present := y.present })
      if s.retired Unit.bus b then s1.modBus b (fun y => { y with state := 6, released := !y.present })
      else if x.present then s1.startBus b else s1.modBus b (fun y => { y with state := 1 })
    else if !on ∧ x.state ≠ 0 then
      let s1 := s.modBus b (fun y => { Bus.reset with present := y.present })
      if x.sends ∨ x.state = 2 then s1.emit (.busSilent b) else s1
    else s
  let s1 := (List.range 4).foldl one s
  s1.valveUnit ((List.range 4).any (fun b => decide ((s1.bus b).state ≠ 0)))

/-- BOOT, STANDBY and HALT: the buses are silent and nothing of their state stays but the presence (R362). -/
def State.busesOff (s : State) : State :=
  { s with buses := s.buses.map (fun (x : Bus) => { Bus.reset with present := x.present }) }

/-- Entry to DEEP: each UP bus sends one CLOSED frame and its APPLY, then every started bus stops (R368, R484). -/
def State.busesDeep (s : State) : State :=
  (List.range 4).foldl (fun (acc : State) b =>
    let x := acc.bus b
    let quiet := fun (y : Bus) => { y.stop 5 with ticking := false }
    if x.state = 3 then
      let n := (x.tick + 1) % wrap32
      let s1 := if acc.safe then acc
        else (acc.emit (.valveFrame b (valveFrame (FrameFlag.closed + if x.resync then 1 else 0) n (x.nextPeriod / 1000) 0))).emit
          (.apply b n)
      (s1.modBus b (fun y => { quiet y with tick := n })).emit (.busSilent b)
    else if x.state = 2 then (acc.modBus b quiet).emit (.busSilent b)
    else acc.modBus b (fun y => { y with ticking := false })) s

/-- The exit from DEEP: every silent bus restarts at STARTING, or is ABSENT when its board has gone (R368). -/
def State.busesWake (s : State) : State :=
  (List.range 4).foldl (fun (acc : State) b =>
    let x := acc.bus b
    if x.state ≠ 5 then acc
    else if x.present then acc.startBus b
    else acc.modBus b (fun y => { y.stop 1 with ticking := false })) s

/-! ## SAFE_N -/

/-- SAFE_N asserted: every enabled bus replaces its symbols with SAFE; a frame under way is not sent (R370). -/
def State.busesSafe (s : State) : State :=
  (List.range 4).foldl (fun (acc : State) b =>
    let x := acc.bus b
    if x.state = 2 ∨ x.state = 3 then
      let cut := x.frameSent && decide (s.clk < x.tickClk + 4800)
      ((acc.bumpIf cut (Obj.vbSafeTicks b)).modBus b (fun y =>
        { y with frameSent := false, judge := false, cur := 0, resync := true })).emit (.safe b)
    else acc) s

/-- A new TEST_ENABLE has no other effect than its value; leaving TEST and the host's loss clear it (R369). -/
def State.testOff (s : State) : State := (List.range 4).foldl (fun acc b => acc.putNum (Obj.vbTestEnable b) 0) s

end Sys2Proof.Machine
end

