-- ==== Sys2Proof/Machine/Timed.lean ====
section
/-! DEFINITION. Timed outputs (R371 to R374) and the illumination lamps that run on them (R183 to R186). -/

namespace Sys2Proof.Machine

def State.tout (s : State) (k : Nat) : Tout := s.touts.getD k Tout.reset
def State.modTout (s : State) (k : Nat) (f : Tout → Tout) : State := { s with touts := s.touts.modify k f }

/-- The view that names a timed output as a lamp, by the values a lookup gives (R186, R371). -/
def lampViewBy (num : Nat → Nat) (k : Nat) : Option Nat :=
  (List.range 4).find? (fun v => (List.range (num (Obj.trgPhases v))).any (fun p => num (Obj.trgLampOut v p) = k))

/-- ASSIGNED (R376). -/
def State.toutAssigned (s : State) (k : Nat) : Nat :=
  if (lampViewBy s.num k).isSome then 4 else s.num (Obj.toutFunction k)

/-- Whether a view's lamps are held low (R185): its generator is STOPPED, or the frame is that of a dark capture on one of its
ports. -/
def State.lampsHeld (s : State) (v : Nat) : Bool :=
  stoppedBy s.num v ||
  (s.portsOfView v).any (fun p => match (s.region p).capture with
    | some c => decide (c.kind = 1) && decide (c.frame = some (s.trigger v).frameStart)
    | none => false)

/-- The level a lamp output is to have (R184, R185). -/
def State.lampLevel (s : State) (k v : Nat) : Bool :=
  if s.lampsHeld v then false
  else if s.num (Obj.trgLampMode v) = 1 then decide (s.num (Obj.trgLampOut v 0) = k)
  else (s.tout k).lampLevel

/-- The level a timed output is to drive (R371, R374, R446). -/
def State.toutWants (s : State) (k : Nat) : Bool :=
  let f := s.num (Obj.toutFunction k)
  if !s.ctl.mode.operating then false
  else if s.power.state = .deep then decide (f = 1) && (s.tout k).pin
  else if s.safe then s.flag (Obj.toutSafeLevel k)
  else
    match lampViewBy s.num k with
    | some v => s.lampLevel k v
    | none =>
      if f = 1 then s.flag (Obj.toutLevel k) else if f = 2 then (s.tout k).edgeLevel
      else if f = 3 then (s.tout k).eventLevel else false

/-- One pin brought to the level it is to have, `delay` cycles from now; a change is an edge (R372, R442, R444). -/
def State.toutDriveAt (s : State) (delay k : Nat) : State :=
  let want := s.toutWants k
  if want = (s.tout k).pin then s
  else
    ((s.modTout k (fun x => { x with pin := want, lastEdge := some (s.clk + delay) })).emit
      (.toutLevel k want (s.shortAt (s.clk + delay)))).raiseAt delay false (0x070 + k) 0 (if want then 1 else 0)

/-- One pin brought to its level at once. -/
def State.toutDrive (s : State) (k : Nat) : State := s.toutDriveAt 0 k

/-- Every pin reviewed. -/
def State.toutReview (s : State) : State := (List.range 16).foldl State.toutDrive s

/-- Whether an edge of this output must wait until 4 ns after the one before (R372). -/
def Tout.tooSoon (x : Tout) (now : Nat) : Bool :=
  match x.lastEdge with | some t => decide (now < t + 4) | none => false

/-- Whether an edge that falls due is discarded (R374). -/
def State.edgesDiscarded (s : State) : Bool := s.safe || decide (s.power.state = .deep) || !s.ctl.mode.operating

/-- The head of the EDGES queue placed (R372, R374): discarded, moved to 4 ns after the edge before, or driven. The flag
tells whether it has left the queue. -/
def State.edgeDue (s : State) (k : Nat) : State × Bool :=
  let x := s.tout k
  match x.queue with
  | [] => (s, false)
  | e :: rest =>
    if s.edgesDiscarded then ((s.bump (Obj.toutLateEdges k)).modTout k (fun y => { y with queue := rest }), true)
    else if s.num (Obj.toutFunction k) = 2 ∧ x.tooSoon s.clk then
      ((s.bump (Obj.toutMergedEdges k)).modTout k (fun y =>
        { y with queue := (s.shortAt (x.lastEdge.getD 0 + 4), e.2) :: rest }), false)
    else ((s.modTout k (fun y => { y with queue := rest, edgeLevel := e.2 })).toutDrive k, true)

/-- Edges whose time has passed when they reach the head of the queue are driven at once and counted (R372). -/
def State.lateEdges (s : State) (k : Nat) : Nat → State
  | 0 => s
  | n + 1 =>
    match (s.tout k).queue with
    | [] => s
    | e :: _ =>
      if diff32 e.1 s.shortNow < 0 then
        let r := (s.bumpIf (!s.edgesDiscarded) (Obj.toutLateEdges k)).edgeDue k
        if r.2 then r.1.lateEdges k n else r.1
      else s

/-- The head of the lamp queue placed (R184, R372, R374). DESIGN CHOICE (log entry 37): an edge that is discarded drives nothing, but a low one
ends the lamp's level all the same, and a high one starts none, so that after the release of SAFE_N no lamp is lit beside another
phase's (R185); the spec does not say which level the output then has. -/
def State.lampDue (s : State) (k : Nat) : State × Bool :=
  let x := s.tout k
  match x.lamp with
  | [] => (s, false)
  | e :: rest =>
    if s.edgesDiscarded then
      ((s.bump (Obj.toutLateEdges k)).modTout k (fun y => { y with lamp := rest, lampLevel := y.lampLevel && e.2 }), true)
    else if x.tooSoon s.clk then
      ((s.bump (Obj.toutMergedEdges k)).modTout k (fun y =>
        { y with lamp := (s.shortAt (x.lastEdge.getD 0 + 4), e.2) :: rest }), false)
    else ((s.modTout k (fun y => { y with lamp := rest, lampLevel := e.2 })).toutDrive k, true)

/-- Lamp edges whose time has passed when they reach the head of their queue are driven at once and counted (R372, R184). -/
def State.lateLamps (s : State) (k : Nat) : Nat → State
  | 0 => s
  | n + 1 =>
    match (s.tout k).lamp with
    | [] => s
    | e :: _ =>
      if diff32 e.1 s.shortNow < 0 then
        let r := (s.bumpIf (!s.edgesDiscarded) (Obj.toutLateEdges k)).lampDue k
        if r.2 then r.1.lateLamps k n else r.1
      else s

/-- TIMED_EDGE: the earlier of the heads of an output's two queues is due (R372). -/
def State.timedEdge (s : State) (k : Nat) : State :=
  let x := s.tout k
  let due : List (Nat × Bool) → Bool := fun l => match l with | e :: _ => decide (diff32 e.1 s.shortNow ≤ 0) | [] => false
  let first : Bool := match x.queue, x.lamp with | a :: _, b :: _ => decide (diff32 a.1 b.1 ≤ 0) | _, _ => x.lamp.isEmpty
  if first ∧ due x.queue then
    let r := s.edgeDue k
    if r.2 then r.1.lateEdges k 64 else r.1
  else if due x.lamp then
    let r := s.lampDue k
    if r.2 then r.1.lateLamps k x.lamp.length else r.1
  else s

/-- Whether an edge of a short time has fallen due by now, of the edges that were still to come at a full time `since` (R31, R374). -/
def State.dueSince (s : State) (since : Int) (e : Nat × Bool) : Bool :=
  decide (diff32 e.1 (ofSigned 32 since) ≤ (s.fullNow : Int) - since)

/-- The edges that fell due in DEEP, discarded and counted at its end (R374); of the lamp edges the low ones end the lamp's level, as
under SAFE_N (log entry 37). -/
def State.edgesOfDeep (s : State) (since : Int) : State :=
  (List.range 16).foldl (fun (acc : State) k =>
    let x := acc.tout k
    let q := x.queue.filter (s.dueSince since)
    let l := x.lamp.filter (s.dueSince since)
    (acc.bumpBy (Obj.toutLateEdges k) (q.length + l.length)).modTout k (fun y => { y with
      queue := y.queue.filter (fun e => !s.dueSince since e),
      lamp := y.lamp.filter (fun e => !s.dueSince since e),
      lampLevel := y.lampLevel && l.all (·.2) })) s

/-! ## EDGES -/

/-- The entries of a write to EDGES (R373). -/
def edgeEntries (b : Bytes) : List (Nat × Nat × Nat) :=
  (List.range (b.length / 8)).map (fun i => (u32At b (8 * i), u8At b (8 * i + 4), fieldAt b (8 * i + 5) 3))

/-- Whether the queue has room for a write (R373). -/
def State.edgesRoom (s : State) (k : Nat) (b : Bytes) : Bool := decide ((s.tout k).queue.length + b.length / 8 ≤ 64)

/-- Whether no entry lies earlier than the one before it or than the tail of the queue, and levels and reserved bytes are as
they must be (R373). -/
def State.edgesOk (s : State) (k : Nat) (b : Bytes) : Bool :=
  let l := edgeEntries b
  let tail := ((s.tout k).queue.getLast?).map (·.1)
  let times := tail.toList ++ l.map (·.1)
  decide (b.length % 8 = 0) && decide (8 ≤ b.length) && decide (b.length ≤ 128) &&
  l.all (fun e => decide (e.2.1 ≤ 1) && decide (e.2.2 = 0)) &&
  (List.zip times (times.drop 1)).all (fun q => decide (0 ≤ diff32 q.2 q.1))

/-- EDGES: the entries join the queue (R373); those that have passed at its head are driven at once (R372). -/
def State.putEdges (s : State) (k : Nat) (b : Bytes) : State :=
  (s.modTout k (fun x => { x with queue := x.queue ++ (edgeEntries b).map (fun e => (e.1, decide (e.2.1 = 1))) })).lateEdges k 64

/-- FLUSH (R373). -/
def State.flushEdges (s : State) (k : Nat) : State := s.modTout k (fun x => { x with queue := [] })

/-- A new FUNCTION in force (R371, R446): an EVENT output starts at level 0. -/
def State.toutFunctionNew (s : State) (k : Nat) : State := s.modTout k (fun x => { x with eventLevel := false })

/-! ## Lamps -/

/-- A lamp edge put in its place of an output's lamp queue. -/
def insertEdge (e : Nat × Bool) : List (Nat × Bool) → List (Nat × Bool)
  | [] => [e]
  | x :: r => if diff32 e.1 x.1 < 0 then e :: x :: r else x :: insertEdge e r

/-- The low edges of a view's lamps that lie after a new high edge are moved to it (R185). The flag tells whether any was. -/
def State.cutLamps (s : State) (v hi : Nat) : State × Bool :=
  let outs := (List.range (s.num (Obj.trgPhases v))).map (fun p => s.num (Obj.trgLampOut v p))
  let late := fun (e : Nat × Bool) => !e.2 && decide (0 < diff32 e.1 hi)
  ({ s with touts := (List.zip (List.range s.touts.length) s.touts).map (fun q =>
      if outs.contains q.1 then { q.2 with lamp := q.2.lamp.map (fun e => if late e then (hi, false) else e) } else q.2) },
   outs.any (fun k => (s.tout k).lamp.any late))

/-- The lamp edges of a trigger issued now in a phase (R184, R185): `exposure` is EXPOSURE in ns. One whose time has passed is driven at
once (R372). -/
def State.lampTrigger (s : State) (v phase exposure : Nat) : State :=
  let k := s.num (Obj.trgLampOut v phase)
  if 16 ≤ k ∨ s.lampsHeld v ∨ s.num (Obj.trgLampMode v) = 1 then s
  else
    let hi := ofSigned 32 ((s.shortNow : Int) + 80 - s.num (Obj.trgLampLead v))
    let lo := (s.shortNow + 80 + exposure + s.num (Obj.trgLampTrail v)) % wrap32
    let r := s.cutLamps v hi
    let s1 := (r.1.bumpIf r.2 (Obj.trgLampOverlaps v)).modTout k (fun x =>
      { x with lamp := insertEdge (lo, false) (insertEdge (hi, true) x.lamp) })
    (((List.range (s.num (Obj.trgPhases v))).map (fun p => s.num (Obj.trgLampOut v p))).filter (fun j => decide (j ≠ k))
      ++ [k]).foldl (fun acc j => acc.lateLamps j (acc.tout j).lamp.length) s1

/-- A view's lamps, those of its PHASES, held low (R185): no edge of them stays to come. -/
def State.lampsOff (s : State) (v : Nat) : State :=
  let outs := (List.range (s.num (Obj.trgPhases v))).map (fun p => s.num (Obj.trgLampOut v p))
  { s with touts := (List.zip (List.range s.touts.length) s.touts).map (fun (q : Nat × Tout) =>
      if outs.contains q.1 then { q.2 with lamp := [], lampLevel := false } else q.2) }.toutReview

/-! ## SAFE_N, power -/

/-- SAFE_N_ASSERT (R370, R374, R523, R545): counted and stamped, the buses and the outputs, the fabric's copies of the
event, and what chains EW120 (R441, R442). -/
def State.safeAssert (s : State) : State :=
  if s.safe then s
  else
    let s1 := { s with pins := { s.pins with safeN := false } }
    if s.ctl.mode.operating then
      (((((((s1.bump Obj.pinSafeCount).putNum Obj.pinSafeTime s1.shortNow).bump (Obj.echEvents 120)).busesSafe).toutReview).raise
        false 0x090 0).raiseAt 0 false 0x178 0x090 0)
    else s1

/-- SAFE_N_RELEASE (R370, R374, R446). -/
def State.safeRelease (s : State) : State := { s with pins := { s.pins with safeN := true } }.toutReview

/-- Every output starts afresh (R374): in BOOT, STANDBY and HALT nothing of a queue stays. -/
def State.toutsOff (s : State) : State :=
  { s with touts := s.touts.map (fun (x : Tout) => { Tout.reset with pin := x.pin }) }.toutReview

end Sys2Proof.Machine
end

