-- ==== Sys2Proof/Machine/Power.lean ====
section
/-! DEFINITION. Housekeeping and temperature bands (R490 to R495), the epochs in flight (R27), the power states (R479 to R486). -/

namespace Sys2Proof.Machine

/-! ## Housekeeping -/

/-- A temperature in 0.1 °C, as READINGS codes it; 0x8000 is invalid (R490). -/
def tempOf (raw : Nat) : Option Int := if raw = 0x8000 then none else some (toSigned 16 raw)

/-- The lower bound of a band in 0.1 °C (R493). -/
def bandBound (b : Nat) : Int := if b = 2 then 850 else if b = 3 then 1000 else if b = 4 then 1150 else 20

/-- The band that follows a band at a highest reading (R493). -/
def bandNext (b : Nat) (t : Int) : Nat :=
  let rise := fun (b : Nat) =>
    if b < 4 ∧ (if b = 0 then decide (bandBound 1 ≤ t) else decide (bandBound (b + 1) < t)) then b + 1 else b
  let fall := fun (b : Nat) =>
    if 2 ≤ b ∧ t ≤ bandBound b - 20 then b - 1 else if b = 1 ∧ t < 0 then 0 else b
  fall (fall (fall (fall (rise (rise (rise (rise b)))))))

/-- The highest of some readings. -/
def maxTemp (l : List (Option Int)) : Option Int :=
  l.foldl (fun m t => match m, t with
    | some a, some b => some (max a b)
    | none, x => x
    | x, none => x) none

/-- Channels read in the present state (R490): absent ones never, stacks and supply currents not in HALT and STANDBY. -/
def State.hkRead (s : State) (c : Nat) : Bool :=
  let dark := !s.ctl.mode.operating && decide (s.ctl.mode ≠ .boot)
  let east := s.ctl.part.hasEast
  if (8 ≤ c ∧ c ≤ 15) ∨ c = 17 then east && !(dark && decide (c = 17))
  else if c = 16 ∨ 20 ≤ c then !dark else true

/-- The runs of invalid readings after a round: channels 0 to 18 (R491). -/
def State.invalidRuns (s : State) (vals : List Nat) : List Nat :=
  (List.range 19).map (fun c =>
    if !s.hkRead c then natAt s.power.invalidRuns c
    else if natAt vals c = 0x8000 then natAt s.power.invalidRuns c + 1 else 0)

/-- The readings that band selection uses: the last valid one of each channel that is not left out (R491). -/
def bandReading (held : List Nat) (runs : List Nat) (c : Nat) : Option Int :=
  if 3 ≤ natAt runs c then none else tempOf (held.getD c 0x8000)

/-- A die's band after a round (R491, R493). -/
def dieBand (old : Nat) (held runs : List Nat) (first stack : Nat) : Nat :=
  let sensors := (rangeFrom first 8).map (bandReading held runs)
  if (rangeFrom first 8).all (fun c => decide (3 ≤ natAt runs c)) then 3
  else match maxTemp (bandReading held runs stack :: sensors) with | some t => bandNext old t | none => old

/-- Stream records waiting for the codec are dropped for their destinations (R245, R495). -/
def State.codecDropStreams (s : State) : State :=
  let s1 := s.dma.streamQueue.foldl (fun (acc : State) r =>
    match r with
    | .stream k dest _ _ _ _ _ _ =>
      (acc.bumpIf (bitOf dest 0) (Obj.strLinesDropped k)).bumpIf (bitOf dest 1) (Obj.strLinesDropped k)
    | .dma _ => acc) s
  s1.modEngine (fun e => { e with streamQueue := [] })

/-- CDR preset and core rail offset of a band (R494). -/
def bandPreset (band : Nat) : Nat := Nat.min 3 band
def bandRail (band : Nat) : Int := if band = 0 then 25 else if band = 1 then 0 else if band = 2 then 10 else 20

/-- The core rail of a die, in mV off nominal: it moves to its set-point at 1 mV/µs (R494). -/
def DieSettings.railNow (x : DieSettings) (clk : Nat) : Int :=
  let moved : Int := ((clk - x.railAt) / 1000 : Nat)
  if x.railWas ≤ x.rail then min x.rail (x.railWas + moved) else max x.rail (x.railWas - moved)

/-- The settings of a die's band (R494). -/
def DieSettings.toBand (x : DieSettings) (band clk : Nat) : DieSettings :=
  { cdrPreset := bandPreset band, rail := bandRail band, railWas := x.railNow clk, railAt := clk }

/-- The settings of the dies whose band a round has changed, and the bounds of their lanes (R112, R494). -/
def State.bandSettings (s : State) (oldW oldE : Nat) : State :=
  let west := decide (s.power.bandW ≠ oldW)
  let east := decide (s.power.bandE ≠ oldE)
  let put := fun (on : Bool) (x : DieSettings) (band : Nat) => if on then x.toBand band s.clk else x
  let s1 := s.modPower (fun p => { p with dies := [
    put west (p.dies.getD 0 DieSettings.reset) p.bandW, put east (p.dies.getD 1 DieSettings.reset) p.bandE] })
  ((if west then List.range 24 ++ rangeFrom 48 4 else []) ++ (if east then rangeFrom 24 24 else [])).foldl State.rebound s1

/-- What a change of the module band does to the domains of R495. -/
def State.bandEffect (s : State) (old : Nat) : State :=
  if s.power.band = 4 ∧ old ≠ 4 then ((s.tilesOff).dmaForced).codecDropStreams
  else if s.power.band ≠ 4 ∧ old = 4 then s.tilesOn
  else s

/-- HOUSEKEEPING_ROUND (R490 to R495): `vals` are the 24 readings. In HALT the rounds toward R497 are counted. -/
def State.housekeeping (s0 : State) (vals0 : List Nat) : State :=
  if !s0.power.powered then s0
  else
    let s := s0.runsNow
    let vals := (List.range 24).map (fun c => if s.hkRead c then natAt vals0 c % 65536 else 0x8000)
    let runs := s.invalidRuns vals
    let held := (List.range 24).map (fun c =>
      if s.hkRead c && decide (natAt vals c = 0x8000) then s.power.readings.getD c 0x8000 else natAt vals c)
    let east := s.ctl.part.hasEast
    let old := s.power
    let w := dieBand old.bandW held runs 0 16
    let e := if east then dieBand old.bandE held runs 8 17 else old.bandE
    let b := match bandReading held runs 18 with | some t => bandNext old.bandBoard t | none => 0
    let band := Nat.max w (Nat.max (if east then e else 0) b)
    let round := (old.round + 1) % wrap32
    let temps := (List.range 19).map (fun c => tempOf (natAt vals c))
    let valid := natAt vals 19 ≠ 0x8000 ∧ natAt vals 20 ≠ 0x8000
    let pin := if valid then natAt vals 19 * natAt vals 20 / 100 else 0
    let high := decide (s.num Obj.supPowerAlert * 1000 < pin)
    let highRuns := if high then old.powerRuns + 1 else 0
    let cool := temps.all (fun t => match t with | some x => decide (x < 1000) | none => true)
    let s1 := s.modPower (fun p => { p with
      round := round, readings := held, invalidRuns := runs, bandW := w, bandE := e, bandBoard := b, band := band,
      powerRuns := highRuns, coolRounds := if p.tripHold then (if cool then p.coolRounds + 1 else 0) else 0 })
    let s2 := (((s1.putVal Obj.thReadings (.bytes (vals.flatMap (leBytes 2) ++ leBytes 4 round))).putNum Obj.thBand band).putNum
      Obj.thBandW w).putNum Obj.thBandE e
    let out := ((List.range 19).filter (fun c => decide (3 ≤ natAt runs c))).foldl setBit 0
    let s3 := (s2.putNum Obj.thSensorsInvalid out).putNum Obj.supPin (Nat.min 0xFFFFFFFF pin)
    let s4 := ((List.range 19).filter (fun c => natAt runs c = 3 ∧ natAt old.invalidRuns c = 2)).foldl
      (fun acc _ => acc.alert Alert.sensor) s3
    let s5 := match maxTemp temps with
      | some t =>
        let a := s4.putNum Obj.thMaxTemp (ofSigned 16 t)
        if toSigned 16 (s4.valIn s4.dict.mram Obj.thPeakTemp).toNat < t then a.keepOwn Obj.thPeakTemp (.num (ofSigned 16 t)) else a
      | none => s4
    let s6 := if highRuns = 3 then (s5.orFlags Obj.supFlags 1).alert Alert.power else s5
    let s7 := if natAt vals 19 ≠ 0x8000 ∧ 7500 < natAt vals 19 then s6.orFlags Obj.supFlags 2 else s6
    let changes := (if w ≠ old.bandW then 1 else 0) + (if e ≠ old.bandE then 1 else 0) + (if b ≠ old.bandBoard then 1 else 0)
    let s8 := (List.range changes).foldl (fun acc _ => (acc.bump Obj.thBandChanges).alert Alert.thermal) s7
    let s9 := if w = old.bandW ∧ e = old.bandE then s8 else s8.bandSettings old.bandW old.bandE
    if s.ctl.mode.operating then (s9.bandEffect old.band).reviewGuarantee else s9

/-! ## Epochs in flight -/

/-- Whether an open, unclassified or scheduled comet carries an epoch before a place in the order (R27). -/
def State.cometsBefore (s : State) (pos : Nat) : Bool :=
  let before := fun (e : Nat) => decide (s.epochPos e < pos)
  s.views.any (fun w => w.blobs.any (fun b => before b.epoch) || w.closeQueue.any (fun c => before c.1.epoch)) ||
  s.entries.any (fun x => x.tracks.any (fun t => before t.comet.epoch))

/-- Whether an epoch is in flight (R27): not all of its bound views' stages have switched, or a comet carries an earlier epoch; once it has left flight it is over. The stitcher is the last stage that switches line by line; objects that still
wait for their frame start keep no epoch in flight, as in chapter 1's example of a table swap. -/
def State.epochFlies (s : State) (e : EpochSet) : Bool :=
  let pos := s.epochPos e.epoch
  !e.landed &&
  (s.ctl.staging.armed.any (fun a => a.epoch = e.epoch && !(a.instantDone && a.bindings.all (·.issued))) ||
   e.views.any (fun v => !e.switched.contains v) || s.cometsBefore pos)

/-- IN_FLIGHT (0x1140:02). -/
def State.inFlightCount (s : State) : Nat := (s.dict.sets.filter s.epochFlies).length

/-! ## Model slots in use -/

/-- Whether an enabled predicate names a slot (R304): in the committed configuration, the staged values, or the parameter set
of an epoch in flight. -/
def State.slotNamed (s : State) (n : Nat) : Bool :=
  let names := fun (kv : Kv) => (List.range 4).any (fun v => (List.range 4).any (fun j =>
    u8At (s.valIn kv (Obj.viewPred v j)).toBytes 0 = n))
  names s.dict.committed || names (Kv.overlay s.dict.committed s.dict.staged) ||
  s.dict.sets.any (fun e => s.epochFlies e && names e.params)

/-- Whether a BLOCK_START of MODEL or a CLEAR answers BUSY (R304). -/
def State.slotBusy (s : State) (n : Nat) : Bool :=
  s.slotNamed n || decide ((s.slot n).state = 1) || decide ((s.slot n).state = 2)

/-! ## Power states -/

/-- Whether a tile or a region pipeline is clock-gated (R479). -/
def State.anyGated (s : State) : Bool :=
  (List.range s.ctl.part.tiles).any (fun t => (s.tile t).light) || (List.range s.ctl.part.regions).any (fun r => (s.region r).gated)

/-- POWER_STATE (R479, R498). -/
def State.powerState (s : State) : Nat :=
  match s.power.state with
  | .doze => 2
  | .deep => 3
  | _ => if s.anyGated then 1 else 0

/-- PIPELINE_GATE (R479): a pipeline of a view; one of no view has no power at all (R18). -/
def State.pipelineGate (s : State) (r : Nat) : State :=
  if r < s.ctl.part.regions ∧ (s.viewOfPort r).isSome ∧ (s.region r).lastLine + 200 ≤ s.clk ∧ s.ctl.mode.operating then
    s.modRegion r (fun g => { g with gated := true })
  else s

/-- The code of a wake cause in LAST_WAKE (R498). -/
def wakeCode : WakeCause → Nat
  | .trigger => 1 | .encoder => 2 | .dictionary => 3 | .dma => 4 | .key => 5 | .touch => 6 | .lane => 7 | .i3c => 8

/-- The exit from DOZE, or the end of an entry that a wake aborts (R482, R390, R424). -/
def State.leaveDoze (s : State) (cause : WakeCause) : State :=
  if s.power.state = .doze ∨ s.power.target.isSome then
    let s1 := (s.modPower (fun p => { p with
      state := if p.state = .doze then .active else p.state, target := none, entering := false })).putNum Obj.pwLastWake
        (wakeCode cause)
    (if s.power.state = .doze then (s1.leaveSelfRefresh).powerLanes else s1).dmaUnpark
  else s

/-- Whether a descriptor in progress touches a domain that a power state stops (R424). -/
def dmaHolds (x : Dma) (t : Power) : Bool :=
  x.live && (match x.current with | some d => descTouches d t | none => false)

/-- The channels that park at once when a domain is asked to go down (R424): before DEEP those without a descriptor. -/
def State.parkFor (s : State) (t : Power) : State := match t with | .deep => s.dmaPark | _ => s

/-- The conditions of DOZE (R480, R481). -/
def State.dozeOk (s : State) : Bool :=
  let timer := s.num Obj.pwIdleTimer * 1000000
  s.ctl.mode.operating && decide (30 ≤ s.num Obj.pwLatencyTolerance) && decide (s.power.lastTrigger + timer ≤ s.clk) &&
  decide (s.power.lastRequest + timer ≤ s.clk)

/-- Whether an EX action is running, a build, a model check or an eye scan (R481). -/
def State.actionRuns (s : State) : Bool :=
  s.ctl.scan.isSome || s.ctl.staging.check.isSome || s.ctl.journal.digest.isSome ||
  s.views.any (fun w => w.build.isSome) || s.slots.any (fun x => x.state = 2) ||
  s.regions.any (fun g => g.capture.isSome) || s.ports.any (fun p => p.queue.any (fun a => !a.own))

/-- The conditions of DEEP (R480, R481). -/
def State.deepOk (s : State) : Bool :=
  s.dozeOk && decide (45000 ≤ s.num Obj.pwLatencyTolerance) && decide (s.entriesNow = 0) && s.ctl.staging.armed.isEmpty &&
  decide (s.inFlightCount = 0) && !s.actionRuns

/-- The deepest permitted power state whose conditions hold (R481). -/
def State.stepTarget (s : State) : Option Power := if s.deepOk then some .deep else if s.dozeOk then some .doze else none

/-- The power state entered: DOZE at once; DEEP starts its entry (R481, R484). -/
def State.enterPower (s : State) (t : Power) : State :=
  match t with
  | .doze =>
    ((s.modPower (fun p => { p with state := .doze, target := none, entering := false })).bump Obj.pwDozeEntries).powerLanes
  | .deep => s.modPower (fun p => { p with target := some .deep, entering := true })
  | _ => s

/-- IDLE_TIMER, and every re-test while a step waits (R424, R481): the step is made, or deferred by channels in descriptors
that touch a domain it stops. -/
def State.stepDown (s : State) : State :=
  match s.stepTarget with
  | none => s.modPower (fun p => if p.target = some .deep then { p with target := none, entering := false } else p)
  | some t =>
    if s.power.state = .deep ∨ s.power.entering ∨ s.power.state = t then s
    else if s.dma.channels.any (fun x => dmaHolds x t) then
      if s.power.target = some t then s.parkFor t
      else (((s.bump Obj.pwStepdownDeferred).dmaDefer).parkFor t).modPower (fun p => { p with target := some t })
    else (s.parkFor t).enterPower t

/-- A step that waits is tested again, and in DOZE the step to DEEP (R481). -/
def State.retestStep (s : State) : State :=
  if (s.power.target.isSome ∨ s.power.state = .doze) ∧ !s.power.entering then s.stepDown else s

/-- The 16 counters of the fabric with VALUE as it is now, and those that are at COMPARE under way (R447). -/
def State.countersHeld (s : State) : State := (List.range 16).foldl (fun acc i => acc.counterHeld (s.num (Obj.ectrCompare i)) i) s
def State.countersArmed (s : State) : State := (List.range 16).foldl (fun acc i => acc.counterArmed (s.num (Obj.ectrCompare i)) i) s

/-- DEEP_ENTRY: the entry sequence completes (R484, R486): buses stopped, outputs at their DEEP levels, channels parked, HBM
drained and in self-refresh, lanes OFF, the Ethernet links down. -/
def State.deepEntry (s : State) : State :=
  if s.power.entering ∧ s.power.target = some .deep ∧ s.dmaQuiet then
    let s1 := (List.range 2).foldl State.ethDown s.busesDeep
    let s2 := s1.modPower (fun p => { p with
      state := .deep, target := none, entering := false, exitAt := none, deepAt := s.clk, deepModuleTime := s.fullNow, deepFreq := s.servo.freq })
    let s3 := (s2.bump Obj.pwDeepEntries).toutReview
    let s4 := (List.range s.ctl.part.pchs).foldl (fun acc n => (acc.hbmDrain n).enterSelfRefresh n) s3
    { s4 with
      ctl := { s4.ctl with heartbeat := { s4.ctl.heartbeat with pausedAt := some s.clk } },
      fabric := { (s4.countersHeld).fabric with raised := [] },
      eths := s4.eths.map (fun (x : Eth) => { x with up := false }) }.powerLanes
  else s

/-- Two clocks in one moon cycle of 32,768 Hz (R477, R527). -/
def sameMoonCycle (a b : Nat) : Bool := decide (a * 32768 / 1000000000 = b * 32768 / 1000000000)

/-- WAKE: a wake source in DOZE, during an entry, or in DEEP (R482, R484). Of two wakes from DEEP in one moon cycle LAST_WAKE records the
lower code (R527). An I3C address match wakes from DEEP, and so aborts the entry
into it where DEEP_WAKE enables it. -/
def State.wake (s : State) (cause : WakeCause) : State :=
  if s.power.state = .deep then
    let m := s.num Obj.pwDeepWake
    let on : Bool := match cause with
      | .encoder => bitOf m 0 | .key => bitOf m 1 | .touch => bitOf m 2 | .i3c => bitOf m 3
      | _ => false
    if !on then s
    else
      match s.power.exitAt with
      | none => (s.modPower (fun p => { p with exitAt := some s.clk })).putNum Obj.pwLastWake (wakeCode cause)
      | some t => if sameMoonCycle t s.clk ∧ wakeCode cause < s.num Obj.pwLastWake then s.putNum Obj.pwLastWake (wakeCode cause) else s
  else if cause = .i3c ∧ !(s.power.entering && bitOf (s.num Obj.pwDeepWake) 3) then s else s.leaveDoze cause

/-- Module full time after `n` cycles of the 25 MHz TCXO from an entry time, at the servo frequency in force (R485). -/
def deepTime (entry : Int) (n : Nat) (f : Int) : Int := entry + (n : Int) * 40 * (256000000000 + f) / 256000000000

/-- DEEP_EXIT: the exit sequence completes (R484, R485, R486, R171, R213, R368, R374). -/
def State.deepExit (s : State) (n : Nat) : State :=
  if s.power.state = .deep ∧ s.power.exitAt.isSome then
    let now := deepTime s.power.deepModuleTime n s.power.deepFreq
    let s1 := ({ s with timeOffset := now - s.clk } : State).edgesOfDeep s.power.deepModuleTime
    let s2 := s1.modPower (fun p => { p with
      state := .active, exitAt := none, evtAt := s.clk, lastRequest := s.clk, lastTrigger := s.clk })
    let s3 := (((((s2.holdover).leaveSelfRefresh).powerLanes).busesWake).resetCics).dmaUnpark
    { s3 with
      ctl := { s3.ctl with heartbeat := { s3.ctl.heartbeat with pausedAt := none, restart := s.clk } },
      encoders := (List.zip (List.range 4) s3.encoders).map (fun (q : Nat × Encoder) =>
        let x : Encoder := { q.2 with valid := false, rezero := true, synBase := s.clk, synCount := 0 }
        if s.flag (Obj.encEnable q.1) ∧ !s.retired Unit.encoder q.1 then { x with state := 1, run := 0, absorbed := false } else x),
      pgos := s3.pgos.map (fun (p : Pgo) => { p with acc := 0, lastClk := s.clk }),
      fabric := { s3.fabric with counters := s3.fabric.counters.map (fun (c : Counter) => { c with since := s.clk }) }
        }.toutReview.countersArmed
  else s

/-- A dictionary request accepted: it wakes the module and restarts the idle timer (R481, R482). -/
def State.requestSeen (s : State) : State := (s.leaveDoze .dictionary).modPower (fun p => { p with lastRequest := s.clk })

/-- START of a channel (R422, R482, R495): it wakes the module; in the ALARM band it ends at once. -/
def State.startDma (s : State) (c n : Nat) : State :=
  let s1 := (s.leaveDoze .dma).dmaStart c n
  if s.power.band = 4 then s1.dmaEnd c 4 Code.domainLost else s1

end Sys2Proof.Machine
end

