-- ==== Sys2Proof/Machine/Events.lean ====
section
/-! DEFINITION. The event fabric: gates, storm guard, delivery, tasks, counters, coincidence, the event log (R440 to R452), and
parity errors of its channels (R503). A channel has its number of R451 for die E at 128 and, for this file, bridges from 256 and
system channels from 288: the offset of its index from 0x8100. -/

namespace Sys2Proof.Machine

def State.modFabric (s : State) (f : Fabric → Fabric) : State := { s with fabric := f s.fabric }
def State.modEctr (s : State) (k : Nat) (f : Counter → Counter) : State :=
  s.modFabric (fun b => { b with counters := b.counters.modify k f })

/-- CHANNEL of a record (R451). -/
def channelNo (n : Nat) : Nat := n

/-- OWNER and SECURITY of a channel (R441): owned by MODULE, and SECURE. -/
def channelOwned (n : Nat) : Bool :=
  (decide (120 ≤ n) && decide (n ≤ 127)) || (decide (248 ≤ n) && decide (n ≤ 255)) || decide (n = 270) || decide (n = 271) ||
  decide (n = 286) || decide (n = 287) || (decide (292 ≤ n) && decide (n ≤ 295))
def channelSecure (n : Nat) : Bool :=
  (decide (120 ≤ n) && decide (n ≤ 123)) || decide (n = 248) || decide (n = 271) || decide (n = 287)

/-- Whether a channel is fitted (R454). -/
def Part.channelFitted (p : Part) (n : Nat) : Bool :=
  if n < 128 then true else if n < 288 then p.hasEast else if n < 296 then p.hasSyslink else false

/-- The die on which a channel's source lies (R440): true for E. A system channel's lies on either die of its module. -/
def channelEast (n : Nat) : Bool := (decide (128 ≤ n) && decide (n < 256)) || (decide (272 ≤ n) && decide (n < 288))

/-! ## Value checks -/

/-- The defined sources of R444 on a die. -/
def sourceOk (east : Bool) (x : Nat) : Bool :=
  let west := !east
  decide (x = 0) || (west && decide (1 ≤ x) && decide (x ≤ 8)) || (west && decide (0x10 ≤ x) && decide (x ≤ 0x1B)) ||
  (west && decide (0x20 ≤ x) && decide (x ≤ 0x23)) ||
  (decide (0x30 ≤ x) && decide (x ≤ 0x3B) && decide (decide (0x36 ≤ x) = east)) ||
  (west && decide (0x40 ≤ x) && decide (x ≤ 0x5F)) || (decide (0x60 ≤ x) && decide (x ≤ 0x67)) ||
  (west && decide (0x70 ≤ x) && decide (x ≤ 0x8B)) || (west && decide (0x90 ≤ x) && decide (x ≤ 0x92)) ||
  (decide (0x100 ≤ x) && decide (x ≤ 0x18F)) || (west && decide (0x190 ≤ x) && decide (x ≤ 0x197))

/-- The value check of SOURCE of a channel (R440, R444): a system channel names a source of its own module, on either die. -/
def channelSourceOk (n x : Nat) : Bool := sourceOk (channelEast n) x || (decide (288 ≤ n) && sourceOk true x)

/-- The defined tasks of R445 on a die. -/
def taskOk (east : Bool) (x : Nat) : Bool :=
  let west := !east
  (west && decide (x ≤ 0x2F)) || (west && decide (0x40 ≤ x) && decide (x ≤ 0x5F)) || (decide (0x60 ≤ x) && decide (x ≤ 0x77)) ||
  (west && decide (0xF0 ≤ x) && decide (x ≤ 0xF1)) || decide (x = 0xF2)

/-- The entries of a TASKS value. -/
def taskList (b : Bytes) : List Nat := (List.range (b.length / 2)).map (fun i => u16At b (2 * i))

/-- The value check of TASKS (R445): the die is that on which a channel delivers; a bridge or system channel has one entry. -/
def tasksOk (n : Nat) (b : Bytes) : Bool :=
  let l := taskList b
  let east := if n < 256 then channelEast n else if n < 288 then !channelEast n else false
  decide (b.length % 2 = 0) && decide (b.length ≤ 16) && l.Nodup && l.all (taskOk east) && (decide (n < 256) || decide (l.length ≤ 1))

/-- The value check of GATE (R448). -/
def gateOk (g : Nat) : Bool :=
  let x := g % 4096
  decide (g / 4096 % 8 = 0) && (decide (x ≤ 3) || (decide (0x10 ≤ x) && decide (x ≤ 0x1F)) ||
  (decide (0x20 ≤ x) && decide (x ≤ 0x23)) || (decide (0x28 ≤ x) && decide (x ≤ 0x2B)) ||
  (decide (0x30 ≤ x) && decide (x ≤ 0x38)))

/-! ## Gate, storm guard, record -/

/-- The level of a GATE source (R448). -/
def State.gateLevel (s : State) (x : Nat) : Bool :=
  if x = 0 then true
  else if x = 1 then decide (s.ctl.mode = .run)
  else if x = 2 then decide (s.ctl.mode = .teach)
  else if x = 3 then decide (s.num Obj.gtrGuarantee = 0)
  else if x < 0x20 then (s.tout (x - 0x10)).pin
  else if x < 0x28 then decide ((s.encoder (x - 0x20)).state = 2)
  else if x < 0x30 then !stoppedBy s.num (x - 0x28)
  else if x < 0x38 then bitOf s.pins.keys (x - 0x30)
  else s.safe

/-- Whether a channel's gate is open (R448). -/
def State.gateOpen (s : State) (n : Nat) : Bool :=
  let g := s.num (Obj.echGate n)
  s.gateLevel (g % 4096) != bitOf g 15

/-- The storm guard of a channel (R451): whether the event passes. Windows are 1,024 ns of short time, and those of one wrap of short
time are not those of another. -/
def State.stormGuard (s : State) (n : Nat) : State × Bool :=
  let w := s.fullNow / 1024
  let seen := match s.fabric.storms.find? (fun q => q.1 = n) with
    | some (_, w0, k) => if w0 = w then k else 0
    | none => 0
  let s1 := s.modFabric (fun b => { b with storms := (n, w, seen + 1) :: b.storms.filter (fun q => q.1 ≠ n) })
  if seen < s.num (Obj.echLimit n) then (s1, true)
  else
    let s2 := ((s1.bump (Obj.echStormDrops n)).orFlags (Obj.echFlags n) 1).orFlags Obj.evtFlags 2
    let recent := match assoc s.ctl.faults.stormAlerts n with | some t => decide (s.clk < t + 1000000000) | none => false
    if recent then (s2, false)
    else (({ s2 with ctl := { s2.ctl with faults := { s2.ctl.faults with
      stormAlerts := assocPut s2.ctl.faults.stormAlerts n s.clk } } }).alert Alert.storm, false)

/-- Whether the log takes no record: the 4,096 before it are younger than 4,096 µs (R451, log entry 44). -/
def State.eventLogFull (s : State) : Bool :=
  match s.fabric.logClks[4095]? with | some t => decide (s.clk < t + 4096000) | none => false

/-- An event record (R451): the log keeps the newest 4,096. A record finds no room while the 4,096 before it are younger than
4,096 µs, which is a rate above 1,000,000 a second (log entry 44). -/
def State.eventRecord (s : State) (n source data time : Nat) : State :=
  if s.eventLogFull then s.bump Obj.evtLogLost
  else
    let seq := (s.fabric.logHead + 1) % wrap32
    let r := leBytes 4 seq ++ leBytes 4 time ++ leBytes 2 (channelNo n) ++ leBytes 2 source ++ leBytes 4 data
    s.modFabric (fun b => { b with
      logHead := seq, log := ((seq, r) :: b.log).take 4096, logClks := (s.clk :: b.logClks).take 4096 })

/-- One event at one channel (R442, R448, R451): whether the channel delivers it. -/
def State.channelTakes (s : State) (n source data time : Nat) : State × Bool :=
  if s.retired Unit.channel n ∨ channelOwned n ∨ !s.ctl.part.channelFitted n then (s, false)
  else if !s.gateOpen n then (s.bump (Obj.echGated n), false)
  else
    let g := s.stormGuard n
    if g.2 then
      let s1 := g.1.bump (Obj.echEvents n)
      (if s.flag (Obj.echRecord n) then s1.eventRecord n source data time else s1, true)
    else (g.1, false)

/-! ## Delivery -/

/-- An event on a die in one cycle: the SOURCE value that takes it, the source it came from, its data and time, and the
bridge or system channel that brings it. -/
structure Pulse where
  east : Bool
  source : Nat
  origin : Nat
  data : Nat
  time : Nat
  deriving DecidableEq, Repr

/-- The channels configured with a SOURCE on a die, ascending. -/
def State.channelsOf (s : State) (east : Bool) (source : Nat) : List Nat :=
  (List.range 296).filter (fun n => (channelEast n = east || decide (288 ≤ n)) && decide (source ≠ 0) &&
    decide (s.num (Obj.echSource n) = source))

/-- What one delivering channel adds: the tasks of a local channel, the chained pulse; a bridge's event set off to the other
die; a system channel's packet (R440, R443). -/
def State.channelDelivers (s : State) (n : Nat) (p : Pulse) : State × List Pulse × List (Bool × Nat) :=
  let tasks := (taskList (s.octets (Obj.echTasks n))).map (fun t => (p.east, t))
  if n < 256 then (s, [{ p with source := 0x100 + n % 128 }], tasks)
  else if n < 288 then
    let r : Raised :=
      { clk := s.clk + 7, east := !p.east, source := 0x180 + n % 16 + 65536 * p.origin, data := p.data, time := p.time }
    (s.modFabric (fun b => { b with raised := b.raised ++ [r] }), [], [])
  else if s.num (Obj.echDestModule (n - 288)) < 4 then
    (s.sendEvent (s.num (Obj.echDestModule (n - 288))) (n - 288) p.time p.data, [], [])
  else (s, [], [])

/-- The pulses of one cycle run through the channels that take them; chained channels follow in the same cycle (R442). -/
def State.runPulses : Nat → State → List Pulse → List (Bool × Nat) → State × List (Bool × Nat)
  | 0, s, _, tasks => (s, tasks)
  | _, s, [], tasks => (s, tasks)
  | k + 1, s, ps, tasks =>
    let r := ps.foldl (fun (acc : State × List Pulse × List (Bool × Nat)) p =>
      (s.channelsOf p.east p.source).foldl (fun (acc : State × List Pulse × List (Bool × Nat)) n =>
        let t := acc.1.channelTakes n p.origin p.data p.time
        if t.2 then
          let d := t.1.channelDelivers n p
          (d.1, acc.2.1 ++ d.2.1, acc.2.2 ++ d.2.2)
        else (t.1, acc.2.1, acc.2.2)) acc) (s, [], tasks)
    State.runPulses k r.1 r.2.1 r.2.2

/-! ## Tasks -/

/-- A coincidence (R449). -/
def State.coincidence (s : State) (east : Bool) (task : Nat) : State :=
  ((s.bump Obj.evtCoincidences).putNum Obj.evtLastCoincidence ((if east then 0x8000 else 0) + task)).orFlags Obj.evtFlags 1

/-- How many events reach a task input in the cycle. -/
def taskHits (l : List (Bool × Nat)) (east : Bool) (t : Nat) : Nat := (l.filter (fun q => q.1 = east ∧ q.2 = t)).length

/-- The tasks of one timed output (R446, R449): it drives its pin in the following cycle (R442). -/
def State.toutTasks (s : State) (l : List (Bool × Nat)) (k : Nat) : State :=
  let set := taskHits l false k
  let clear := taskHits l false (0x10 + k)
  let toggle := taskHits l false (0x20 + k)
  if set + clear + toggle = 0 then s
  else if s.num (Obj.toutFunction k) ≠ 3 then s.bumpBy Obj.evtIgnored (set + clear + toggle)
  else
    let wins := bitOf (s.num Obj.evtOutPriority) k
    let put := fun (s : State) (b : Bool) => (s.modTout k (fun x => { x with eventLevel := b })).toutDriveAt 1 k
    if 0 < set ∧ 0 < clear then (put s wins).coincidence false (if wins then k else 0x10 + k)
    else if 0 < set then put s true
    else if 0 < clear then put s false
    else
      let s1 := put s (!(s.tout k).eventLevel)
      if 1 < toggle then s1.coincidence false (0x20 + k) else s1

/-- The task START of a DMA channel (R446, R449). -/
def State.dmaTask (s : State) (l : List (Bool × Nat)) (c : Nat) : State :=
  let n := taskHits l false (0x40 + c)
  if n = 0 then s
  else
    let s1 := if 1 < n then s.coincidence false (0x40 + c) else s
    match (s.dch c).started with
    | some d => if s.dmaBusy c then s1.bump Obj.evtIgnored else s1.startDma c d
    | none => s1.bump Obj.evtIgnored

/-- The tasks of one counter (R447, R449): CAPTURE, then CLEAR, then INC. -/
def State.counterTasks (s : State) (l : List (Bool × Nat)) (east : Bool) (k : Nat) : State :=
  let i := k + (if east then 8 else 0)
  let inc := taskHits l east (0x60 + k)
  let clear := taskHits l east (0x68 + k)
  let capture := taskHits l east (0x70 + k)
  if inc + clear + capture = 0 then s
  else
    let s1 := if 1 < clear then s.coincidence east (0x68 + k) else s
    let s2 := if 1 < capture then s1.coincidence east (0x70 + k) else s1
    let c := s.num (Obj.ectrCompare i)
    ((s2.counterHeld c i).modEctr i (fun x => { x with
      value := ((if 0 < clear then 0 else x.value) + inc) % wrap32,
      captured := if 0 < capture then x.value else x.captured })).counterArmed c i

/-- Every task of a cycle applied (R445 to R449). -/
def State.applyTasks (s : State) (l : List (Bool × Nat)) : State :=
  let s1 := (List.range 16).foldl (fun acc k => acc.toutTasks l k) s
  let s2 := (List.range 32).foldl (fun acc c => acc.dmaTask l c) s1
  (List.range 8).foldl (fun acc k => (acc.counterTasks l false k).counterTasks l true k) s2

/-- The tasks that a bridge or system channel brings to its far side (R440, R445). -/
def State.arrivalTasks (s : State) (r : Raised) : List (Bool × Nat) :=
  let x := r.source % 65536
  if 0x180 ≤ x ∧ x < 0x190 then
    let n := (if r.east then 256 else 272) + (x - 0x180)
    if s.retired Unit.channel n then [] else (taskList (s.octets (Obj.echTasks n))).map (fun t => (r.east, t))
  else if 0x190 ≤ x ∧ x < 0x198 then
    let n := 288 + (x - 0x190)
    if s.retired Unit.channel n then [] else (taskList (s.octets (Obj.echTasks n))).map (fun t => (false, t))
  else []

/-- What follows an event one cycle after it (R447). -/
def State.follower (s : State) (r : Raised) : Option Raised :=
  if r.more = 0 then none else some { r with clk := r.clk + 1, time := s.shortAt (r.clk + 1), more := r.more - 1 }

/-- EVENT_DELIVERY: the events of the earliest cycle that has passed are delivered (R442). -/
def State.eventDelivery (s : State) : State :=
  match s.fabric.raised with
  | [] => s
  | r0 :: rest =>
    let first := rest.foldl (fun m (r : Raised) => Nat.min m r.clk) r0.clk
    if s.clk ≤ first ∨ !s.ctl.mode.operating ∨ s.power.state = .deep then s
    else
      let now := (s.fabric.raised.filter (fun r => r.clk = first)).foldl (fun (l : List Raised) r =>
        if l.any (fun q => q.east = r.east ∧ q.source % 65536 = r.source % 65536) then l else l ++ [r]) []
      let s1 := s.modFabric (fun b => { b with
        raised := b.raised.filter (fun r => r.clk ≠ first) ++ (b.raised.filter (fun r => r.clk = first)).filterMap s.follower })
      let pulse := fun (r : Raised) =>
        Pulse.mk r.east (r.source % 65536) (if 65536 ≤ r.source then r.source / 65536 else r.source) r.data r.time
      let pulses := now.map pulse
      let d := State.runPulses 129 s1 pulses (now.flatMap s.arrivalTasks)
      d.1.applyTasks d.2

/-! ## Parity errors -/

/-- EVENT_CHANNEL_PARITY_ERROR: the channel reloads its registers; the 3rd within 10 s retires it (R503). -/
def State.channelParity (s : State) (n : Nat) : State :=
  if n < 296 ∧ s.ctl.part.channelFitted n ∧ !channelSecure n ∧ !s.retired Unit.channel n ∧ s.ctl.mode.operating ∧
      s.power.state ≠ .deep then
    let s1 := s.upset Unit.channel n 10000000000 []
    if s1.overThreshold Unit.channel n 3 then s1.retire Unit.channel n 0 [] else s1
  else s

end Sys2Proof.Machine
end

