-- ==== Sys2Proof/Machine/Pins.lean ====
section
/-! DEFINITION. The operator's panel and the camera power switches (R525 to R534): keys, touch channels, panel lamps, camera
enables. -/

namespace Sys2Proof.Machine

def State.modPins (s : State) (f : Pins → Pins) : State := { s with pins := f s.pins }

/-! ## Keys -/

/-- A wake source on the panel (R482, R527): it wakes the module from DEEP where DEEP_WAKE lets it, and from DOZE. -/
def State.panelWake (s : State) (cause : WakeCause) : State :=
  if s.power.state = .deep ∨ s.power.state = .doze ∨ s.power.target.isSome then s.wake cause else s

/-- KEY_PRESS: an accepted press of an enabled key that is not held (R525, R527). -/
def State.keyPress (s : State) (k : Nat) : State :=
  if s.ctl.mode.operating ∧ bitOf (s.num Obj.keyKeyEnable) k ∧ !bitOf s.pins.keys k then
    let s1 := s.modPins (fun p => { p with
      keys := setBit p.keys k, silentKeys := clearBit p.silentKeys k, longDone := clearBit p.longDone k,
      pressedAt := setAt p.pressedAt k s.clk })
    ((s1.bump (Obj.keyPresses k)).raise false (0x080 + k) 0).panelWake .key
  else s

/-- KEY_RELEASE: an accepted release (R525). -/
def State.keyRelease (s : State) (k : Nat) : State :=
  if s.ctl.mode.operating then
    s.modPins (fun p => { p with keys := clearBit p.keys k, silentKeys := clearBit p.silentKeys k })
  else s

/-- LONG_PRESS: a press still held LONG_PRESS ms after its acceptance, once per press (R526). -/
def State.longPress (s : State) (k : Nat) : State :=
  let p := s.pins
  if s.ctl.mode.operating ∧ bitOf p.keys k ∧ !bitOf p.silentKeys k ∧ !bitOf p.longDone k ∧
      natAt p.pressedAt k + s.num Obj.keyLongPress * 1000000 ≤ s.clk then
    ((s.modPins (fun q => { q with longDone := setBit q.longDone k })).orFlags Obj.keyLongFlags (2 ^ k)).bump
      (Obj.keyLongCount k)
  else s

/-! ## Touch channels -/

def State.touch (s : State) (c : Nat) : Touch := s.pins.touch.getD c Touch.reset

/-- The difference of a scan from the baseline (R528). -/
def Touch.delta (x : Touch) (raw : Nat) : Int := (raw : Int) - (x.base / 256 : Nat)

/-- The baseline after a scan of a seeded channel (R528). -/
def Touch.follow (x : Touch) (raw threshold shift : Nat) (held : Bool) : Nat :=
  if x.delta raw ≤ -(threshold : Int) then raw * 256
  else if held then x.base
  else ((x.base : Int) + asr ((raw * 256 : Nat) - (x.base : Int)) shift).toNat

/-- One scan of a channel: seeding from the mean of its first 8 scans (R528), then the runs toward on and off (R529) and the
baseline. The second component says whether the channel turns on. -/
def Touch.scan (x : Touch) (now raw threshold shift : Nat) (water : Bool) : Touch × Bool :=
  if !x.seeded then
    let seeds := x.seeds ++ [raw]
    if seeds.length < 8 then ({ x with raw := raw, seeds := seeds }, false)
    else ({ x with raw := raw, seeds := [], seeded := true, base := seeds.foldl (· + ·) 0 * 32 }, false)
  else
    let d := x.delta raw
    let above := if water then 0 else if (threshold : Int) ≤ d then min 3 (x.above + 1) else 0
    let below := if 2 * d < (threshold : Int) then min 3 (x.below + 1) else 0
    let turnsOn : Bool := !x.on && decide (above = 3)
    let turnsOff : Bool := x.on && decide (below = 3) && !water
    let on := (x.on || turnsOn) && !turnsOff
    ({ x with
        raw := raw, diff := d, on := on, onSince := if turnsOn then now else x.onSince,
        above := if on then 0 else above, below := if on then below else 0,
        base := x.follow raw threshold shift (on || water) }, turnsOn)

/-- The enabled channels. -/
def State.touchEnabled (s : State) : List Nat := (List.range 4).filter (fun c => bitOf (s.num Obj.tchTouchEnable) c)

/-- TOUCH_SCAN: the counts of the four channels (R528 to R530). -/
def State.touchScan (s : State) (raw : List Nat) : State :=
  if !s.ctl.mode.operating then s
  else
    let live := s.touchEnabled
    let wet := live.filter (fun c =>
      (s.touch c).seeded && decide ((s.num (Obj.tchcThreshold c) : Int) ≤ (s.touch c).delta (natAt raw c)))
    let water := decide (s.num Obj.tchWaterChannels ≤ wet.length)
    let s1 := if water ∧ !s.pins.water then (s.orFlags Obj.tchFlags 1).bump Obj.tchWaterEvents else s
    live.foldl (fun acc c =>
      let r := (acc.touch c).scan acc.clk (natAt raw c) (acc.num (Obj.tchcThreshold c)) (acc.num Obj.tchBaseShift) water
      let a1 := acc.modPins (fun p => { p with touch := setAt p.touch c r.1 })
      if r.2 then ((a1.bump (Obj.tchcTouches c)).raise false (0x088 + c) 0).panelWake .touch else a1)
      (s1.modPins (fun p => { p with water := water }))

/-- TOUCH_STUCK: a channel on for TOUCH_MAX s is turned off and reseeded from RAW (R531). -/
def State.touchStuck (s : State) (c : Nat) : State :=
  let x := s.touch c
  if s.ctl.mode.operating ∧ x.on ∧ x.onSince + s.num Obj.tchTouchMax * 1000000000 ≤ s.clk then
    ((s.modPins (fun p => { p with
      touch := setAt p.touch c { x with on := false, base := x.raw * 256, above := 0, below := 0 } })).orFlags
        Obj.tchFlags 2).bump (Obj.tchcStuckCount c)
  else s

/-- A write of TOUCH_ENABLE: a channel that is enabled seeds anew, one that is disabled is off (R528). -/
def State.touchEnableNew (s : State) (old : Nat) : State :=
  let now := s.num Obj.tchTouchEnable
  s.modPins (fun p => { p with touch := (List.zip (List.range 4) p.touch).map (fun (q : Nat × Touch) =>
    if bitOf now q.1 = bitOf old q.1 then q.2 else Touch.reset) })

/-- TOUCH_STATE (R538). -/
def State.touchState (s : State) : Nat :=
  ((List.range 4).filter (fun c => (s.touch c).on)).foldl setBit 0

/-! ## Panel lamps -/

/-- The condition a lamp in STATE shows (R532). -/
def State.lampCondition (s : State) (source : Nat) : Bool :=
  if source = 0 then decide (s.ctl.mode = .run)
  else if source = 1 then s.alertPin
  else if source = 2 then decide (s.num Obj.gtrGuarantee = 0)
  else if source = 3 then decide (s.health = 1)
  else decide (s.ctl.mode = .halt)

/-- The level of a panel lamp (R532): a blinking lamp keeps the level its pattern has. -/
def State.lampWants (s : State) (n : Nat) : Bool :=
  let mode := s.num (Obj.lampMode n)
  if s.ctl.mode = .boot ∨ s.ctl.mode = .standby then false
  else if s.ctl.mode = .halt then decide (mode = 4) && decide (s.num (Obj.lampSource n) = 4)
  else if mode = 0 then false
  else if mode = 1 then true
  else if mode = 4 then s.lampCondition (s.num (Obj.lampSource n))
  else s.pins.lampOn.getD n false

/-- A lamp driven. -/
def State.lampDrive (s : State) (n : Nat) (on : Bool) : State :=
  if s.pins.lampOn.getD n false = on then s
  else (s.modPins (fun p => { p with lampOn := setAt p.lampOn n on })).emit (.lamp n on)

/-- Every lamp at the level it is to have. -/
def State.lampReview (s : State) : State :=
  let new := (List.range 4).filter (fun n => s.lampWants n != s.pins.lampOn.getD n false)
  { (s.modPins (fun p => { p with lampOn := (List.range 4).map s.lampWants })) with
    out := s.out ++ new.map (fun n => Emission.lamp n (s.lampWants n)) }

/-- Half the period of a lamp's pattern in ns: SLOW 1 Hz, FAST 4 Hz (R532). -/
def State.lampHalf (s : State) (n : Nat) : Nat := if s.num (Obj.lampMode n) = 2 then 500000000 else 125000000

/-- LAMP_BLINK: a lamp's SLOW or FAST pattern toggles (R532). -/
def State.lampBlink (s : State) (n : Nat) : State :=
  let mode := s.num (Obj.lampMode n)
  if s.ctl.mode.operating ∧ n < 4 ∧ (mode = 2 ∨ mode = 3) ∧ natAt s.pins.lampClk n + s.lampHalf n ≤ s.clk then
    (s.modPins (fun p => { p with lampClk := setAt p.lampClk n (natAt p.lampClk n + s.lampHalf n) })).lampDrive n
      (!s.pins.lampOn.getD n false)
  else s

/-- A write of a lamp's MODE: a blinking pattern starts lit (R532; log entry 50). -/
def State.lampModeNew (s : State) (n old : Nat) : State :=
  let mode := s.num (Obj.lampMode n)
  if mode ≠ old ∧ (mode = 2 ∨ mode = 3) then
    (s.modPins (fun p => { p with lampClk := setAt p.lampClk n s.clk })).lampDrive n true
  else s

/-! ## Camera power -/

def State.camPower (s : State) (k : Nat) : CamPower := s.pins.camera.getD k CamPower.reset
def State.modCam (s : State) (k : Nat) (f : CamPower → CamPower) : State :=
  s.modPins (fun p => { p with camera := p.camera.modify k f })

/-- CAMPWR_ENk raised: PWR_STATE ON (R533, R534). -/
def State.camRaise (s : State) (k : Nat) (retried : Bool) : State :=
  (s.modCam k (fun x => { x with
    enable := true, state := 1, retryAt := none, enabledAt := s.clk, retried := retried })).emit (.camPower k true)

/-- CAMPWR_ENk lowered, in a state of PWR_STATE. -/
def State.camLower (s : State) (k state : Nat) : State :=
  let s1 := s.modCam k (fun x => { x with enable := false, state := state })
  if (s.camPower k).enable then s1.emit (.camPower k false) else s1

/-- The first port from `k` on whose PWR_ENABLE is 1 (R533). -/
def State.nextPowered (s : State) (k : Nat) : Option Nat :=
  (List.range s.ctl.part.ports).find? (fun p => decide (k ≤ p) && s.flag (Obj.camPwrEnable p))

/-- The next camera enable in port order raised, and the one after it waiting for PWR_STAGGER ms (R533). -/
def State.camStagger (s : State) (k due : Nat) : State :=
  match s.nextPowered k with
  | none => s.modPins (fun p => { p with staggerNext := none })
  | some q =>
    let s1 := if (s.camPower q).state = 0 then s.camRaise q false else s
    s1.modPins (fun p => { p with staggerNext := some (q + 1, due + s.num Obj.cpwPwrStagger * 1000000) })

/-- PWR_STAGGER (R533). -/
def State.pwrStagger (s : State) : State :=
  match s.pins.staggerNext with
  | some (k, due) => if s.ctl.mode.operating ∧ due ≤ s.clk then s.camStagger k due else s
  | none => s

/-- A write of PWR_ENABLE (R533, R534): 1 raises the enable at once unless the port is LATCHED, 0 lowers it. -/
def State.pwrEnable (s : State) (k : Nat) : State :=
  if s.flag (Obj.camPwrEnable k) then
    if (s.camPower k).enable ∨ (s.camPower k).state = 3 then s else s.camRaise k false
  else (s.camLower k 0).modCam k (fun x => { x with retryAt := none, retried := false, failed := 0 })

/-- CAMPWR_FLT: a fault while the enable is high (R534). -/
def State.camFault (s : State) (k : Nat) : State :=
  let x := s.camPower k
  if s.ctl.mode.operating ∧ x.enable then
    let y := s.port k
    let s1 := if y.state = 0 ∨ y.state = 1 ∨ y.state = 8 then s else s.unplug k
    let failed := if x.retried ∧ s.clk ≤ x.enabledAt + 1000000000 then x.failed + 1 else 0
    let s2 := s1.bump (Obj.camFaults k)
    if s.num Obj.cpwPwrRetries ≤ failed then
      ((s2.camLower k 3).modCam k (fun z => { z with failed := failed, retryAt := none })).alert Alert.camera
    else
      (s2.camLower k 2).modCam k (fun z => { z with
        failed := failed, retryAt := some (s.clk + s.num Obj.cpwPwrRetry * 1000000) })
  else s

/-- PWR_RETRY (R534). -/
def State.pwrRetry (s : State) (k : Nat) : State :=
  match (s.camPower k).retryAt with
  | some t => if s.ctl.mode.operating ∧ t ≤ s.clk ∧ (s.camPower k).state = 2 then s.camRaise k true else s
  | none => s

/-- PWR_RESET: LATCHED cleared, the port starts at ON (R534). -/
def State.pwrReset (s : State) (k : Nat) : State :=
  if (s.camPower k).state = 3 then (s.modCam k (fun x => { x with failed := 0 })).camRaise k false else s

/-- Every camera enable low (R533). -/
def State.camsOff (s : State) : State :=
  ((List.range 12).foldl (fun acc k => acc.camLower k 0) s).modPins (fun p => { p with
    camera := List.replicate 12 CamPower.reset, staggerNext := none })

/-! ## Pins -/

/-- PIN_STATE (R538). -/
def State.pinState (s : State) : Nat :=
  (if s.alertPin then 1 else 0) + (if s.pins.safeN then 0 else 2) + 4 * s.pins.id + (if s.pins.bootsel then 16 else 0) +
  ((List.range 4).filter (fun b => (s.bus b).present)).foldl (fun a b => a + 2 ^ (12 + b)) 0

end Sys2Proof.Machine
end

