-- ==== Sys2Proof/Machine/Modes.lean ====
section
/-! DEFINITION. The operating modes (R81 to R87): the transitions, what each does, the loss of power of STANDBY, HALT and
RESET_N, and the ways into HALT (R475, R476, R488, R496). -/

namespace Sys2Proof.Machine

/-- The modes that make and schedule comets (R84). -/
def Mode.sorts : Mode → Bool
  | .run => true | .teach => true
  | .boot => false | .standby => false | .config => false | .test => false | .recovery => false | .halt => false

/-- The transitions that a commit may make (R82). -/
def Mode.commitTo : Mode → Mode → Bool
  | .config, m => m = .teach || m = .run || m = .test || m = .recovery || m = .standby
  | .teach, m => m = .config || m = .run || m = .recovery
  | .run, m => m = .config || m = .teach || m = .recovery
  | .test, m => m = .config || m = .recovery
  | .recovery, m => m = .config || m = .teach || m = .run || m = .standby
  | .boot, _ => false
  | .standby, _ => false
  | .halt, _ => false

/-- A mode entered: the mode objects, the schedule (R84), the end of the valve test (R369), and of an armed STEP (R467). -/
def State.enterMode (s : State) (m : Mode) (cause : Nat) : State :=
  let old := s.ctl.mode
  let s1 := { s with ctl := { s.ctl with
    mode := m, previousMode := old, lastCause := cause, modeTime := s.shortNow,
    sortingSince := if m.sorts && !old.sorts then s.clk else s.ctl.sortingSince } }
  let s2 := if old = .run ∧ m = .teach then s1.holdAll else if old = .teach ∧ m = .run then s1.armAll else if old.sorts && !m.sorts then s1.clearAll else s1
  let s3 := if m.sorts then s2.modServo (fun x => { x with stepArmed := none }) else s2
  if old = .test then s3.testOff else s3

def State.modErrLog (s : State) (f : ErrLog → ErrLog) : State :=
  { s with ctl := { s.ctl with errlog := f s.ctl.errlog } }

/-- The MODE entry of a transition (R83, R103). -/
def State.journalMode (s : State) (m : Mode) (cause : Nat) : State :=
  s.journalOwn 8 [BitVec.ofNat 8 s.ctl.mode.code, BitVec.ofNat 8 m.code, BitVec.ofNat 8 cause]

/-- A transition between modes with a running control cluster (R59, R83). -/
def State.setMode (s : State) (m : Mode) (cause : Nat) : State :=
  if s.ctl.mode = m then s
  else
    ((((((s.journalMode m cause).enterMode m cause).event Ibi.modeChanged).raise false 0x091 m.code).toutReview).reviewGuarantee)

/-! ## Loss of power -/

/-! ### MRAM records -/

/-- A record of a SEQ, in its slot of 2,048, with its commit word (R106, R508). -/
def MramRecord.of (seq : Nat) (data : Bytes) : MramRecord :=
  { slot := seq % 2048, data := data, commit := seq * 2 ^ 32 + crc32c data }

/-- The SEQ of a commit word. -/
def MramRecord.seq (r : MramRecord) : Nat := r.commit / 2 ^ 32

/-- Whether a record is complete: its commit word matches its data, and its slot its SEQ (R106). -/
def MramRecord.complete (r : MramRecord) : Bool :=
  decide (r.slot = r.seq % 2048) && decide (r.commit % 2 ^ 32 = crc32c r.data) && decide (u32At r.data 0 = r.seq)

/-- Whether every word of a slot is 0 (R108). -/
def MramRecord.empty_ (r : MramRecord) : Bool := decide (r.commit = 0) && r.data.all (fun b => b = 0)

/-- A record put into its slot: the one it replaces, and the slots after it. -/
def mramPut (slots : List MramRecord) (r : MramRecord) : Option MramRecord × List MramRecord :=
  (slots.find? (fun q => q.slot = r.slot), r :: slots.filter (fun q => q.slot ≠ r.slot))

/-- The slots when the power goes `t` ns after the latest write began (R107, R475, R478). Its words follow each other evenly over 250 ns,
the commit word last (log entry 59), and the one in flight completes; the words after it keep what they held. -/
def mramCut (slots : List MramRecord) (old : Option MramRecord) (t : Nat) : List MramRecord :=
  match slots with
  | [] => []
  | r :: rest =>
    let words := r.data.length / 8
    let done := t * (words + 1) / 250 + 1
    if words < done then slots
    else
      let was := match old with | some q => q | none => { slot := r.slot, data := zeros r.data.length, commit := 0 }
      let torn : MramRecord := { slot := r.slot, data := r.data.take (8 * done) ++ was.data.drop (8 * done), commit := was.commit }
      if torn.empty_ then rest else torn :: rest

/-- The slots at a loss of power, the latest write ending at `ends`. -/
def mramSlots (slots : List MramRecord) (old : Option MramRecord) (clk ends : Nat) : List MramRecord :=
  if clk < ends then mramCut slots old (clk + 250 - ends) else slots

/-- A counter or status that is kept in MRAM, raised by 1 whatever the power state. -/
def State.bumpStored (s : State) (key : Nat) : State :=
  s.putKept key (.num (satAdd 32 (s.valIn s.dict.mram key).toNat 1))

/-- What stays without power (R478, R504, R541): MRAM, NOR, the moon island's own state, the pins. A firmware slot that was
being programmed is invalid (R548). -/
def State.powerLost (s : State) : State :=
  let j := s.ctl.journal
  let l := s.ctl.errlog
  { State.reset with
    clk := s.clk, timeOffset := s.timeOffset, free := s.free, out := s.out, pending := s.pending,
    ctl := { Control.reset with
      part := s.ctl.part, mode := s.ctl.mode, previousMode := s.ctl.previousMode, lastCause := s.ctl.lastCause,
      modeTime := s.ctl.modeTime, bootStatus := s.ctl.bootStatus,
      journal := { Journal.reset with
        mirror := mramSlots j.mirror j.replaced s.clk j.lastMirror, lastMirror := j.lastMirror },
      errlog := { ErrLog.reset with
        slots := mramSlots l.slots l.replaced s.clk l.lastWrite, lastWrite := l.lastWrite,
        tokenClock := s.clk },
      faults := { Faults.reset with map := s.ctl.faults.mapLeft s.clk, mapClear := s.ctl.faults.mapClear },
      images := s.ctl.images.map (fun (x : Image) => if x.writing then { x with valid := false, writing := false } else x),
      boot := s.ctl.boot },
    dict := { Dict.reset with
      mram := s.dict.mram, mramPast := s.dict.mramPast, mramWrites := s.dict.mramWrites, mramTorn := s.dict.tornAt s.clk },
    encoders := s.encoders.map (fun (x : Encoder) => { Encoder.reset with a := x.a, b := x.b, z := x.z }),
    slots := s.slots.map (fun (x : Slot) => { Slot.reset with norState := x.norState, nor := x.nor }),
    buses := s.buses.map (fun (x : Bus) => { Bus.reset with present := x.present }),
    power := { s.power with
      state := .active, target := none, entering := false, exitAt := none, lapsed := 1, allHeldSince := none,
      lastTrigger := s.clk, lastRequest := s.clk, moduleTokens := s.ctl.part.cometDepth * 1000000000,
      moduleTokenClk := s.clk, powerRuns := 0 },
    pins := { s.pins with
      keys := 0, silentKeys := 0, longDone := 0, touch := List.replicate 4 Touch.reset, water := false } }

/-- The domains go: buses silent, outputs and enables low, lamps as the mode has them, ALERT_N released, and what has no
power is lost (R81, R517, R532, R533). -/
def State.unpower (s : State) : State :=
  let loud := fun (b : Nat) => (s.bus b).sends || (s.bus b).state = 2
  let s1 := ((List.range 4).filter loud).foldl (fun acc b => acc.emit (.busSilent b)) s
  let s2 := (((s1.busesOff).toutsOff).camsOff).lampReview
  (if s.alertPin then s2.emit (.alertN false) else s2).powerLost

/-- The timed outputs at SAFE_LEVEL, as under SAFE_N (R374, R475). -/
def State.toutsSafe (s : State) : State :=
  let t := ({ s with pins := { s.pins with safeN := false } }).toutReview
  { t with pins := { t.pins with safeN := s.pins.safeN } }

/-- SAFE on every enabled bus, ahead of its silence (R475, R518). -/
def State.sendSafe (s : State) : State :=
  ((List.range 4).filter (fun b => (s.bus b).state = 2 ∨ (s.bus b).state = 3)).foldl (fun acc b => acc.emit (.safe b)) s

/-! ## HALT -/

/-- Whether the journal and the log are in being: from the end of boot step 0x06 (R545). -/
def State.journalUp (s : State) : Bool :=
  s.ctl.mode.operating || (s.ctl.mode = .boot && decide (6 ≤ s.ctl.boot.step))

/-- Whether CTL runs and writes to MRAM: not in DEEP, nor before the scan of boot step 0x06 (R108, R484). -/
def State.ctlWrites (s : State) : Bool := s.journalUp && decide (s.power.state ≠ .deep)

/-- The level of the log's token bucket (R510). -/
def State.logTokens (s : State) : Nat :=
  min 640000000 (s.ctl.errlog.tokens + (s.clk - s.ctl.errlog.tokenClock))

/-- The record at the head of the queue written to MRAM with the next SEQ, in 250 ns (R475); the reserve moves up (R508,
R510). -/
def State.logPutNext (s : State) : State :=
  match s.ctl.errlog.queue with
  | [] => s
  | r :: rest =>
    let seq := (s.num Obj.logLogHead + 1) % wrap32
    let rec40 := leBytes 4 seq ++ r.drop 4
    let s1 := s.modErrLog (fun l =>
      let q := rest ++ l.reserve.take (64 - rest.length)
      let p := mramPut l.slots (MramRecord.of seq rec40)
      { l with
        queue := q, reserve := l.reserve.drop (64 - rest.length), lastWrite := s.clk + 250, slots := p.2, replaced := p.1 })
    s1.putKept Obj.logLogHead (.num seq)

/-- The next record written when a token is at hand (R510). -/
def State.logTake (s : State) : State :=
  let t := s.logTokens
  if s.ctl.errlog.queue ≠ [] ∧ 10000000 ≤ t then
    (s.modErrLog (fun l => { l with tokens := t - 10000000, tokenClock := s.clk })).logPutNext
  else s

/-- At most `n` records written while tokens are at hand. -/
def State.logDrain (s : State) : Nat → State
  | 0 => s
  | n + 1 => s.logTake.logDrain n

/-- The MODE entry and the log record of a HALT (R83, R509). Records whose token is at hand are written, this one among
them, before the power goes (log entry 15). -/
def State.noteHalt (s : State) (cause : Nat) : State :=
  if s.journalUp then
    let s1 := (s.journalMode .halt cause).logPut 4 Unit.package 0 cause 0 []
    if s.ctlWrites then
      (s1.logDrain s1.ctl.errlog.queue.length).modErrLog (fun l => { l with lastWrite := s.clk })
    else s1
  else s

/-- HALT entered in hardware: its cause recorded, HALT_N low (R87, R475, R476, R488, R496). -/
def State.fallToHalt (s : State) (cause : Nat) : State :=
  let s1 := (s.putKept Obj.modeHaltCause (.num cause)).enterMode .halt cause
  ((s1.unpower).emit (.haltN false)).modPower (fun p => { p with
    haltClk := s.clk, coolRounds := 0, tripHold := decide (cause = 4), resetDuringHalt := false, qualifiedAt := none })

/-- HALT entered at once, with its entries (R476, R488, R496). A HALT already in force keeps its cause. -/
def State.halt (s : State) (cause : Nat) : State :=
  if !s.power.powered ∨ s.ctl.mode = .halt then s else (s.noteHalt cause).fallToHalt cause

/-- THERMAL_TRIP (R477, R496, R497). The sensor's own die's SECURE channels carry it (R441). -/
def State.thermalTrip (s : State) : State :=
  if !s.power.powered then s
  else
    let s1 := s.bumpStored Obj.thTrips
    if s1.ctl.mode = .halt then
      let s2 := s1.modPower (fun p => { p with tripHold := true, coolRounds := 0 })
      if (s2.valIn s2.dict.mram Obj.modeHaltCause).toNat = 5 ∧ sameMoonCycle s2.power.haltClk s2.clk then
        s2.putKept Obj.modeHaltCause (.num 4)
      else s2
    else s1.halt 4

/-- SUPPLY_FAULT (R476, R477); in the moon cycle in which the module has entered HALT it is counted. -/
def State.supplyFault (s : State) : State :=
  if s.power.powered ∧ (s.ctl.mode ≠ .halt ∨ sameMoonCycle s.power.haltClk s.clk) then
    (s.bumpStored Obj.supRailFaults).halt 5
  else s

/-- PLL_LOSS, and the permanent failure of the die bridge: die loss (R12, R488). A power state or mode that stops the PLLs has
none to lose. -/
def State.dieLoss (s : State) : State :=
  if s.ctl.mode = .standby ∨ s.power.state = .deep then s else s.halt 6

/-- A stack that is lost reads FAILED (R406). -/
def State.stacksFailed (s : State) : State :=
  s.modHbm (fun h => { h with dieStacks := (List.zip (List.range h.dieStacks.length) h.dieStacks).map (fun (q : Nat × Stack) =>
    if s.stackLost q.1 then { q.2 with state := 3 } else q.2) })

/-- A stack lost at run time is die loss (R397, R400). -/
def State.stacksReviewed (s : State) : State :=
  if (List.range s.ctl.part.stacks).any (fun k => s.stackLost k && decide ((s.stack k).state ≠ 3)) then s.stacksFailed.dieLoss
  else s

end Sys2Proof.Machine
end

