-- ==== Sys2Proof/Machine/Records.lean ====
section
/-! DEFINITION. The journal's mirror and the error log in MRAM (R104 to R108, R508 to R510), the brown-out that empties their
queues (R475), and the state digest (R109). -/

namespace Sys2Proof.Machine

def State.modJournal (s : State) (f : Journal → Journal) : State :=
  { s with ctl := { s.ctl with journal := f s.ctl.journal } }

/-! ## The journal's mirror -/

/-- The entries of the ring that are not mirrored, oldest first (R105). -/
def Journal.unmirrored (j : Journal) : List (Nat × Bytes) := (j.ring.filter (fun e => later e.1 j.mirrored)).reverse

/-- One entry written to its mirror slot with its commit word (R105, R106); MIRROR_PASSES counts each wrap of the ring. -/
def State.mirrorPut (s : State) (seq : Nat) (e : Bytes) : State :=
  let s1 := s.modJournal (fun j =>
    let p := mramPut j.mirror (MramRecord.of seq e)
    { j with mirrored := seq, lastMirror := s.clk + 250, mirror := p.2, replaced := p.1 })
  if seq % 2048 = 0 then s1.bumpKept Obj.jrMirrorPasses 1 else s1

/-- MIRROR_WRITE: the next entry, at most 250 a second (R105). An entry the ring has lost is skipped. -/
def State.mirrorWrite (s : State) : State :=
  let j := s.ctl.journal
  if s.ctlWrites ∧ j.lastMirror + 3999750 ≤ s.clk then
    match j.unmirrored with
    | [] => s
    | e :: _ => s.mirrorPut e.1 e.2
  else s

/-- The backlog of a brown-out: the newest unmirrored entries, at most 2,048, in SEQ order (R105, R475). -/
def State.mirrorAll (s : State) : State :=
  let l := s.ctl.journal.unmirrored
  (l.drop (l.length - 2048)).foldl (fun acc e => acc.mirrorPut e.1 e.2) s

/-- OLDEST: the oldest SEQ in the ring (R104). -/
def Journal.oldest (j : Journal) : Nat := match j.ring.getLast? with | some e => e.1 | none => j.head

/-- ENTRIES from a cursor on: up to 2,048 entries, oldest first (R104). -/
def Journal.entriesFrom (j : Journal) (cursor : Nat) : Bytes :=
  let old := j.ring.reverse
  let l := if cursor = 0 then old else old.filter (fun e => e.1 = cursor ∨ later e.1 cursor)
  (l.take 2048).flatMap (fun e => e.2)

/-! ## The error log -/

/-- LOG_WRITE: one record takes a token (R510). -/
def State.logWrite (s : State) : State :=
  if s.ctlWrites then s.logTake else s

/-- `n` records written without the rate limit. -/
def State.logPutMany (s : State) : Nat → State
  | 0 => s
  | n + 1 => s.logPutNext.logPutMany n

/-- The whole queue and reserve of a brown-out (R475, R510). -/
def State.logAll (s : State) : State := s.logPutMany (s.ctl.errlog.queue.length + s.ctl.errlog.reserve.length)

/-- LOG_OLDEST. -/
def ErrLog.oldest (l : ErrLog) : Nat := match l.slots.getLast? with | some q => q.seq | none => 0

/-- LOG_ENTRIES from a cursor on: up to 1,638 records, oldest first (R510). -/
def ErrLog.entriesFrom (l : ErrLog) (cursor : Nat) : Bytes :=
  let old := l.slots.reverse
  let k := if cursor = 0 then old else old.filter (fun q => q.seq = cursor ∨ later q.seq cursor)
  (k.take 1638).flatMap (fun q => q.data)

/-! ## The scan at boot -/

/-- The complete records of a store, in the order written, newest first. -/
def complete (slots : List MramRecord) : List MramRecord := slots.filter MramRecord.complete

/-- The scan of the journal's mirror: torn records counted and cleared, the complete ones in the ring; the second component
is their number (R108). -/
def State.scanJournal (s : State) : State × Nat :=
  let j := s.ctl.journal
  let good := complete j.mirror
  let torn := j.mirror.length - good.length
  let head := match good with | q :: _ => q.seq | [] => 0
  let s1 := s.modJournal (fun x => { x with
    mirror := good, ring := good.map (fun q => (q.seq, q.data)), head := head, mirrored := head })
  (if torn = 0 then s1 else s1.bumpKept Obj.jrTornDiscarded torn, torn)

/-- The BOOT entry, at SEQ head + 8,193, or 1 with an empty mirror (R103, R108). -/
def State.bootEntry (s : State) (torn : Nat) : State :=
  let j := s.ctl.journal
  let before := if j.ring = [] then 0 else (j.head + 8192) % wrap32
  (s.modJournal (fun x => { x with head := before })).journalOwn 9
    (leBytes 4 (s.num Obj.idFwVersion) ++ leBytes 2 (min 65535 torn) ++ leBytes 1 s.ctl.boot.slot)

/-- The entries that have waited for the journal, after the BOOT entry (R83, R92, R108). -/
def State.payOwed (s : State) : State :=
  let s1 := s.ctl.boot.owed.foldl (fun acc e => acc.journalOwn e.1 e.2) s
  { s1 with ctl := { s1.ctl with boot := { s1.ctl.boot with owed := [] } } }

/-- The scan of the error log: torn records counted and cleared, the head found (R508). -/
def State.scanLog (s : State) : State × Nat :=
  let l := s.ctl.errlog
  let good := complete l.slots
  let torn := l.slots.length - good.length
  let s1 := s.modErrLog (fun x => { x with slots := good })
  let s2 := match good with | q :: _ => s1.putKept Obj.logLogHead (.num q.seq) | [] => s1.putKept Obj.logLogHead (.num 0)
  (if torn = 0 then s2 else s2.bumpKept Obj.logLogTorn torn, torn)

/-! ## Brown-out -/

/-- BROWN_OUT: the sequence of R475: safe request, MODE entry, queues to MRAM, whose writes end within the sequence as does one in flight, HALT with
the supply's cause. -/
def State.brownOut (s : State) : State :=
  if !s.power.powered ∨ s.ctl.mode = .halt then s
  else
    let s1 := ((s.bumpStored Obj.supBrownouts).sendSafe).toutsSafe
    let s2 := s1.noteHalt 5
    let s2 := { s2 with
      dict := { s2.dict with mramFlight := none }
      ctl := { s2.ctl with faults := { s2.ctl.faults with mapEnds := 0 } } }
    let s3 := if s1.journalUp then
        (((s2.logAll).mirrorAll).modErrLog (fun l => { l with lastWrite := s.clk })).modJournal (fun j => { j with
          lastMirror := s.clk })
      else s2
    s3.fallToHalt 5

/-! ## The state digest -/

/-- The order of a type in R38's table. -/
def Ty.order : Ty → Nat
  | .bool => 0 | .u8 => 1 | .u16 => 2 | .u32 => 3 | .u64 => 4 | .i16 => 5 | .i32 => 6 | .i64 => 7 | .f32 => 8 | .stime => 9
  | .ftime => 10 | .text => 11 | .octets => 12 | .blob => 13

/-- The bytes of a fixed-size type; 0 for TEXT, OCTETS and BLOB (R38). -/
def Ty.size : Ty → Nat
  | .bool => 1 | .u8 => 1 | .u16 => 2 | .u32 => 4 | .u64 => 8 | .i16 => 2 | .i32 => 4 | .i64 => 8 | .f32 => 4 | .stime => 4
  | .ftime => 10 | .text => 0 | .octets => 0 | .blob => 0

/-- A value as the bytes of its type (R38). -/
def Val.encode (ty : Ty) : Val → Bytes
  | .num n => leBytes ty.size n
  | .bytes b => b

/-- A key in its place in a rising list. -/
def insertKey (k : Nat) : List Nat → List Nat
  | [] => [k]
  | x :: r => if k < x then k :: x :: r else x :: insertKey k r

/-- The keys a table row stands for. -/
def ObjRow.keys (r : ObjRow) : List Nat :=
  (List.range r.count).flatMap (fun i => (rangeFrom r.lo (r.hi - r.lo + 1)).map (fun sub => objKey (r.base + r.stride * i) sub))

/-- Every fitted RS and RW object, rising (R109). -/
def digestKeys (part : Part) : List (Nat × Ty) :=
  let rows := Catalog.rows.filter (fun r => r.acc = .rs || r.acc = .rw)
  let keys := rows.flatMap (fun r => (r.keys.filter (fun k => !absentOn part (k / 256))).map (fun k => (k, r.ty)))
  (keys.foldl (fun l p => insertKey p.1 l) []).filterMap (fun k => keys.find? (fun p => p.1 = k))

/-- One object of the digest's stream (R109). -/
def digestItem (key : Nat) (ty : Ty) (v : Val) : Bytes :=
  let b := v.encode ty
  leBytes 2 (key / 256) ++ leBytes 1 (key % 256) ++ [Config.typeCode ty.order] ++ leBytes 4 b.length ++
  (if ty = .blob then leBytes 4 (crc32c b) else b)

/-- The result data of the digest: DIGEST, the journal's head and the number of objects (R109). -/
def State.digestData (s : State) (snapshot : Kv) (head : Nat) : Bytes :=
  let keys := digestKeys s.ctl.part
  let stream := keys.flatMap (fun p => digestItem p.1 p.2 (s.valIn snapshot p.1))
  leBytes 4 (crc32c stream) ++ leBytes 4 (crc32c stream.reverse) ++ leBytes 4 head ++ leBytes 4 keys.length

/-- DIGEST_RESULT: the digest under way completes (R109). DESIGN CHOICE (log entry 59): the header's EPOCH is the last one allocated when
the result completes, as for every result (R75). -/
def State.digestResult (s : State) : State :=
  match s.ctl.journal.digest with
  | none => s
  | some (kv, head, _) =>
    ((s.modJournal (fun j => { j with digest := none })).putNum Obj.jrDigestStart 2).completeResult Obj.digResult
      (some s.ctl.staging.lastEpoch) (s.digestData kv head)

end Sys2Proof.Machine
end

