-- ==== Sys2Proof/Machine/Apply.lean ====
section
/-! DEFINITION. How committed values come into force (R26, R552): what each object belongs to, the effects of new values, the
instants, the parameter sets of epochs (R27), and the commits the module makes alone (R98). -/

namespace Sys2Proof.Machine

/-! ## To which view an object belongs -/

/-- The view of an object (R552), by the values a lookup gives: triggers, views and tracking by their place, ports by the view
that holds them, rings by their owner, output streams by their VIEW (log entry 47). -/
def viewOfKey (num : Nat → Nat) (key : Nat) : Option Nat :=
  let i := key / 256
  if 0x3000 ≤ i ∧ i < 0x3300 then viewOfPortBy num ((i - 0x3000) / 0x40)
  else if 0x3400 ≤ i ∧ i < 0x3440 then some ((i - 0x3400) / 0x10)
  else if 0x4000 ≤ i ∧ i < 0x4400 then some ((i - 0x4000) / 0x100)
  else if 0x4800 ≤ i ∧ i < 0x4900 then some (num (Obj.strView ((i - 0x4800) / 0x20)))
  else if 0x6000 ≤ i ∧ i < 0x6100 then some ((i - 0x6000) / 0x40)
  else if 0x7080 ≤ i ∧ i < 0x7098 then some (ringViewBy num (i - 0x7080))
  else none

/-- Whether an object applies at a frame boundary (R48's columns, R552). -/
def atFrame (key : Nat) : Bool :=
  match Catalog.row key with
  | some r => r.applies = .frameBoundary
  | none => false

/-! ## The effects of new values -/

/-- The objects among `keys` whose value in force differs from what it was. -/
def State.changed (s old : State) (keys : List Nat) : List Nat := keys.filter (fun k => s.val k ≠ old.val k)

/-- Ports whose link objects changed come up again (R119 to R123, R143). -/
def State.relinked (s : State) (ch : List Nat) : State :=
  (List.range 12).foldl (fun acc p =>
    acc.relink p ((ch.filter (fun k => k / 256 = 0x3000 + 0x40 * p)).map (fun k => k % 256))) s

/-- Encoder channels and divided outputs after a change (R168, R169, R173). -/
def State.encodersNew (s old : State) (ch : List Nat) : State :=
  let s1 := (List.range 4).foldl (fun acc c =>
    let a := if ch.contains (Obj.encEnable c) then acc.encEnabled c else acc
    if ch.contains (Obj.encEnable c) ∨ ch.contains (Obj.encNominalRate c) then a.encSpacing c else a) s
  (List.range 4).foldl (fun acc k =>
    if ch.any (fun q => q = Obj.pgoInput k || q = Obj.pgoN k || q = Obj.pgoM k) then
      acc.pgoChanged k (old.num (Obj.pgoInput k)) (old.num (Obj.pgoN k)) (old.num (Obj.pgoM k))
    else acc) s1

/-- A generator whose source is now STOPPED holds no event, and its lamps go low (R153, R185). -/
def State.sourcesNew (s : State) (ch : List Nat) : State :=
  (List.range 4).foldl (fun acc v =>
    if ch.contains (Obj.trgSource v) ∧ acc.num (Obj.trgSource v) = 0 then
      (acc.modTrigger v (fun t => { t with held := none })).lampsOff v
    else acc) s

/-- Timed outputs after a change of function or lamps (R184, R371, R446). -/
def State.toutsNew (s : State) (ch : List Nat) : State :=
  let s1 := (List.range 16).foldl (fun acc k =>
    if ch.contains (Obj.toutFunction k) ∧ acc.num (Obj.toutFunction k) = 3 then acc.toutFunctionNew k else acc) s
  if ch.any (fun k => (0x6300 ≤ k / 256 && k / 256 < 0x6380) || (0x3400 ≤ k / 256 && k / 256 < 0x3440)) then s1.toutReview
  else s1

/-- Counters of the event fabric whose COMPARE changed from what `old` gives: they keep VALUE (R447, R452). -/
def State.countersNew (s : State) (old : Nat → Nat) (ch : List Nat) : State :=
  (List.range 16).foldl (fun acc k =>
    let key := Obj.ectrCompare k
    if ch.contains key then (acc.counterHeld (old key) k).counterArmed (acc.num key) k else acc) s

/-- Ethernet ports after a change (R455, R457): a port that is disabled, or whose line settings change, loses its link; a new
address is announced. -/
def State.ethsNew (s : State) (ch : List Nat) : State :=
  (List.range 2).foldl (fun acc p =>
    let hit := fun (sub : Nat) => ch.contains (objKey (0x9010 + 0x10 * p) sub)
    if hit 1 ∨ hit 2 ∨ hit 3 then acc.ethDown p
    else if hit 5 ∧ (acc.eth p).up then acc.tx p (.arp p true (acc.num (Obj.ethIpv4Addr p)))
    else acc) s

/-- What new values of objects do, beyond being read from now on. `old` is the state before them. -/
def State.reconfigured (s old : State) (keys : List Nat) : State :=
  let ch := s.changed old keys
  if ch = [] then s
  else
    let has := fun (lo hi : Nat) => ch.any (fun k => lo ≤ k / 256 && k / 256 ≤ hi)
    let s1 := if has 0x2000 0x233F then s.powerLanes else s
    let s2 := (((s1.relinked ch).encodersNew old ch).sourcesNew ch).toutsNew ch
    let s3 := if has 0x6200 0x627F then s2.busesEnabled else s2
    let s4 := (s3.countersNew old.num ch).ethsNew ch
    let s5 := if has 0x9080 0x9080 then s4.bmca else s4
    if has 0x4000 0x5FFF then s5.gateTiles.giveWeights.giveUnits else s5

/-! ## Values in force -/

/-- One committed value comes into force, and into MRAM when it is persistent (R47, R552). -/
def State.forceVal (s : State) (key : Nat) (v : Val) : State :=
  match Catalog.row key with
  | some r =>
    let s1 := if r.persistent then s.putKept key v else s.putVal key v
    if r.ty = .blob then s1.blobReplaced key else s1
  | none => s

/-- Committed values come into force, with their effects. -/
def State.forceVals (s : State) (l : Kv) : State :=
  if l = [] then s else (l.foldl (fun acc p => acc.forceVal p.1 p.2) s).reconfigured s (l.map (·.1))

/-- The values of an armed commit that belong to a view it binds, of the line or of the frame boundary. -/
def State.ofView (s : State) (a : Armed) (v : Nat) (frame : Bool) : Kv :=
  a.changes.filter (fun p => viewOfKey (s.param a.epoch) p.1 = some v && atFrame p.1 = frame)

/-- The values of an armed commit that belong to no view it binds (R26, R552); the mode is treated on its own. -/
def State.ofNone (s : State) (a : Armed) : Kv :=
  a.changes.filter (fun p => p.1 ≠ Obj.modeModeRequest &&
    (match viewOfKey (s.param a.epoch) p.1 with
      | some v => !a.bindings.any (fun b => b.view = v)
      | none => true))

def State.modStaging (s : State) (f : Staging → Staging) : State :=
  { s with ctl := { s.ctl with staging := f s.ctl.staging } }

/-- An armed commit changed. -/
def State.modArmed (s : State) (epoch : Nat) (f : Armed → Armed) : State :=
  s.modStaging (fun g => { g with armed := g.armed.map (fun a => if a.epoch = epoch then f a else a) })

/-- An armed commit that is wholly in force is armed no more. -/
def State.dropDone (s : State) : State :=
  s.modStaging (fun g => { g with armed := g.armed.filter (fun a =>
    !(a.instantDone && a.bindings.all (fun b => b.issued && b.frameDone))) })

/-! ## The instant -/

/-- The mode that a commit requests, if it carries a change. -/
def Armed.modeRequest (a : Armed) : Option Mode := (Kv.get? a.changes Obj.modeModeRequest).map (fun v => Mode.ofCode v.toNat)

/-- The commit's mode change (R82, R83, R98): made when it may still be made; lost when the module has changed the mode since. -/
def State.applyMode (s : State) (a : Armed) : State :=
  match a.modeRequest with
  | none => s
  | some m =>
    let s1 := s.putNum Obj.modeModeRequest m.code
    if a.modeLost then s1.journalOwn 7 (leBytes 4 Code.wrongMode ++ leBytes 2 a.epoch ++ leBytes 2 0)
    else if m = s1.ctl.mode ∨ !s1.ctl.mode.commitTo m then s1
    else if m = .standby then
      let on := ((List.range 4).filter (fun c => s1.flag (Obj.encEnable c))).foldl setBit 0
      ((((s1.journalMode m 0).enterMode m 0).event Ibi.modeChanged).modPower (fun p => { p with
        encodersAtStandby := on, standbyCause := 0 })).unpower
    else s1.setMode m 0

/-- The instant of R26: the objects of no bound view come into force, and the mode among them. -/
def State.instantOf (s : State) (a : Armed) : State :=
  if a.instantDone then s
  else
    let s1 := s.modArmed a.epoch (fun x => { x with instantDone := true })
    let s2 := ((s1.forceVals (s.ofNone a)).ringsInstant).reviewGuarantee
    (s2.applyMode a).dropDone

/-- The lowest-lettered view a commit binds to an index (R26). -/
def Armed.lead (a : Armed) : Option Nat := (List.range 4).find? (fun v => a.bindings.any (fun b => b.view = v))

/-- A bound index has been issued, or counts as issued: the view's objects come into force, and for a commit bound to indexes
its instant comes with the lowest-lettered view (R20, R26, R552). -/
def State.bindingIssued (s : State) (a : Armed) (v : Nat) : State :=
  let s1 := (s.forceVals (s.ofView a v false)).modArmed a.epoch (fun x => { x with
    bindings := x.bindings.map (fun b => if b.view = v then { b with issued := true } else b) })
  if (a.kind = 1 ∨ a.kind = 2) ∧ a.lead = some v then s1.instantOf a else s1

/-- A frame start at or after a bound index: the frame-boundary objects come into force (R552). -/
def State.bindingFrame (s : State) (a : Armed) (v : Nat) : State :=
  if a.bindings.any (fun b => b.view = v && b.issued && !b.frameDone) then
    (s.forceVals (s.ofView a v true)).modArmed a.epoch (fun x => { x with
      bindings := x.bindings.map (fun b => if b.view = v then { b with frameDone := true } else b) })
  else s

/-- The frame-boundary objects that a commit binds to a frame start: a new SEAM_SET is loaded there (R237, R552). -/
def State.bindFrame (s : State) (a : Armed) (v n : Nat) : State :=
  let s1 := s.bindingFrame a v
  if s1.octets (Obj.viewSeamSet v) ≠ s.octets (Obj.viewSeamSet v) then s1.loadSeamSet v n else s1

/-- The armed commit of an epoch. -/
def State.armedOf (s : State) (epoch : Nat) : Option Armed := s.ctl.staging.armed.find? (fun a => a.epoch = epoch)

/-- A view that is STOPPED before and after a commit: it counts as having issued its bound index now, and its stages count as
switched (R153, R554). Objects of the frame boundary come into force with it when that index is a frame start, and otherwise
with the first frame start it issues (R552). -/
def State.countIssued (s : State) (epoch v : Nat) : State :=
  match s.armedOf epoch with
  | none => s
  | some a =>
    let n := (s.trigger v).nextIndex
    let s1 := ((s.bindingIssued a v).countSwitched v epoch).viewEpoch v epoch n
    match s1.armedOf epoch with
    | none => s1
    | some b =>
      if s1.startsFrame v n then ((s1.bindFrame b v n).ringsStart v (fun e => e = epoch)).dropDone
      else s1.dropDone

/-- Whether a commit leaves a view's generator STOPPED (R554). -/
def State.staysStopped (s : State) (epoch v : Nat) : Bool :=
  stoppedBy s.num v && stoppedBy (s.param epoch) v

/-- A commit that starts a STOPPED generator starts it before its bound index (R153): SOURCE comes into force now. -/
def State.startSource (s : State) (epoch v : Nat) : State :=
  if s.num (Obj.trgSource v) = 0 ∧ s.param epoch (Obj.trgSource v) ≠ 0 then
    s.forceVals [(Obj.trgSource v, s.paramVal epoch (Obj.trgSource v))]
  else s

/-- A view that continues from another module: its trigger generator stands there (R34). -/
def State.continues (s : State) (v : Nat) : Bool := decide (s.num (Obj.viewContinuesFrom v) ≠ 0xFF)

/-- A full-time instant binds a view to the next index to be issued (R20, R95); a view that stays STOPPED counts as having
issued it (R554); one that the commit starts, starts now (R153, R555). A view that continues from another module is bound by the issue
times of the triggers it receives (R34). -/
def State.bindNow (s : State) (epoch v : Nat) : State :=
  if s.continues v then s
  else if s.staysStopped epoch v then s.countIssued epoch v
  else
    let n := (s.trigger v).nextIndex
    (s.modArmed epoch (fun x => { x with
      bindings := x.bindings.map (fun b => if b.view = v ∧ b.index = none then { b with index := some n } else b) })).startSource
      epoch v

/-- Whether the full-time instant of an armed commit has been reached. -/
def State.instantReached (s : State) (a : Armed) : Bool :=
  a.kind = 3 && !a.instantDone && decide (a.instant ≤ s.fullNow)

/-- COMMIT_INSTANT: the armed full-time commits whose instant has come, oldest first (R20, R26, R95). -/
def State.commitInstant (s : State) : State :=
  (s.ctl.staging.armed.filter s.instantReached).foldl (fun acc a =>
    let b1 := a.bindings.foldl (fun acc2 b => if b.issued then acc2 else acc2.bindNow a.epoch b.view) acc
    match b1.armedOf a.epoch with
    | some c => b1.instantOf c
    | none => b1) s

/-! ## Parameter sets -/

/-- Whether an epoch's parameter set is still in use: by a generator, a stage, a comet, or an epoch in flight (R22, R24, R27). -/
def State.epochUsed (s : State) (e : EpochSet) : Bool :=
  s.epochFlies e || s.ctl.staging.armed.any (fun a => a.epoch = e.epoch) ||
  s.triggers.any (fun t => t.epoch = e.epoch || t.frameEpoch = e.epoch ||
    t.issues.any (fun i => i.epoch = e.epoch || i.frameEpoch = e.epoch)) ||
  s.regions.any (fun g => g.epoch = e.epoch) ||
  s.views.any (fun w => w.epoch = e.epoch || w.segBreaks.contains e.epoch || w.segEpoch = some e.epoch || w.blobs.any (fun b => b.epoch = e.epoch) ||
    w.closeQueue.any (fun c => c.1.epoch = e.epoch)) ||
  s.entries.any (fun x => x.epoch = e.epoch || x.tracks.any (fun t => t.comet.epoch = e.epoch))

/-- The epochs that have left flight are marked, and the sets that no stage and no comet uses any more are given up; the latest
stays (R27). -/
def State.pruneSets (s : State) : State :=
  { s with dict := { s.dict with
    sets := (s.dict.sets.map (fun (e : EpochSet) => { e with landed := !s.epochFlies e })).filter (fun e =>
      e.epoch = s.ctl.staging.lastEpoch || s.epochUsed e) } }

/-- The epoch allocated after the last one: 0x0001 to 0xFFFF, then 0x0001 again (R19). -/
def nextEpoch (e : Nat) : Nat := if e = 0xFFFF then 1 else e + 1

/-! ## Commits the module makes -/

/-- The 36 bytes of the commit result (R101). -/
def commitData (code epoch kind views index sub command seq time : Nat) (bound : List Nat) : Bytes :=
  leBytes 4 code ++ leBytes 2 epoch ++ leBytes 1 kind ++ leBytes 1 views ++ leBytes 2 index ++ leBytes 1 sub ++
  leBytes 1 command ++ leBytes 4 seq ++ leBytes 4 time ++ bound.flatMap (leBytes 4)

/-- A commit result journalled and presented (R97, R101, R103). -/
def State.commitResult (s : State) (code epoch kind views fail command check : Nat) (bound : List Nat) : State :=
  let s1 := s.journalOwn 7 (leBytes 4 code ++ leBytes 2 epoch ++ leBytes 2 check)
  s1.completeResult Obj.cmResResult (if epoch = 0 then none else some epoch)
    (commitData code epoch kind views (fail / 256) (fail % 256) command s1.ctl.journal.head s1.shortNow bound)

/-- The result of a commit of the module's own (R98): no epoch, no check, at once; armed commits lose their mode change.
`code`, `check` and `fail` are those of the boot check, or OK. -/
def State.moduleResult (s : State) (code check fail : Nat) : State :=
  (s.modStaging (fun g => { g with
    armed := g.armed.map (fun a => if a.instantDone then a else { a with modeLost := true }) })).commitResult
      code 0 0 0 fail 3 check [0, 0, 0, 0]

/-- A commit of the module's own with the mode it sets (R98). -/
def State.moduleCommit (s : State) (m : Mode) (cause code check fail : Nat) : State :=
  (s.moduleResult code check fail).setMode m cause

end Sys2Proof.Machine
end

