-- ==== Sys2Proof/Machine/Triggers.lean ====
section
/-! DEFINITION. Trigger generators (R149 to R158): the events of their sources, the hold under MAX_RATE, the issue with what a
commit binds to it (R20, R26, R552), frames, exposure; and what feeds them: encoder counts and divided outputs. -/

namespace Sys2Proof.Machine

/-! ## Frames -/

/-- FRAME_LINES takes its new value from an index on (R155). -/
def Trigger.newFraming (t : Trigger) : Trigger :=
  match t.newFrameLines with
  | some (_, st) => if st = t.nextIndex then { t with frameLines := none, newFrameLines := none } else t
  | none => t

/-- The newest issued line ends its frame, early (R155). -/
def Trigger.cutNewest (t : Trigger) : Trigger :=
  match t.issues with
  | i :: r => { t with issues := { i with frameEnd := true, cut := true } :: r }
  | [] => t

/-- The last line of a frame for one port, where the frame ends early: a line that waits there ends its frame; one that has left the region
ends the frame's statistics, latencies and capture now. -/
def State.endPort (s : State) (v : Nat) (i : Issue) (p : Nat) : State :=
  if (s.port p).forwarded.any (fun l => l.view = v && l.index = i.index) then
    s.modPort p (fun y => { y with forwarded := y.forwarded.map (fun (l : PixLine) =>
      if l.view = v ∧ l.index = i.index then { l with frameEnd := true } else l) })
  else s.cutTaps p v i.frameStart

/-- The cut of the line issued last as it stands in one port (R155): where it has been forwarded, the frame status word is CUT, and the
frame ends with it. -/
def State.cutPort (s : State) (v : Nat) (i : Issue) (p : Nat) : State :=
  if half32 ≤ ahead32 (s.port p).nextForward i.index then
    (s.modPort p (fun y => y.modFrame i.frameStart (fun w => { w with flags := w.flags ||| FrameFlag.cut }))).endPort v i p
  else s

/-- The cut of the line issued last in the stages behind the regions: where it has been stitched, the servo's measurement and the class
statistics of the frame end now (R155, R237, R268). -/
def State.cutStages (s : State) (v : Nat) (i : Issue) : State :=
  match (s.view v).nextStitch with
  | some j => if half32 ≤ ahead32 j i.index then (s.endServo v).endClassStats v else s
  | none => s

/-! ## Messages -/

/-- The first downlink symbol boundary at or after a clock (R131). -/
def State.boundary (s : State) (t : Nat) : Nat := s.power.evtAt + ceilDiv (t - s.power.evtAt) 8 * 8

/-- A trigger message to an HLP camera for an edge 80 ns after `t0` (R131, R132): its FINE, and whether it is late; the downlink
is taken for `len` ns. -/
def State.trigMessage (s : State) (p t0 len : Nat) : State × Nat :=
  let b := s.boundary (Nat.max (Nat.max s.clk t0) (s.port p).downlinkFree)
  let late := decide (t0 + 72 < b)
  ((s.modPort p (fun x => { x with downlinkFree := b + len })).bumpIf late (Obj.portTrigLate p),
    if late then 0 else ((t0 + 80 - b) * 10 + 4) / 8)

/-- The trigger sent to one port of the view (R152). -/
def State.sendTrigger (s : State) (i : Issue) (p : Nat) : State :=
  let mode := s.num (Obj.portLinkMode p)
  if mode = 2 then
    let r := s.trigMessage p i.clk 64
    r.1.emit (.trigStart p i.index r.2 ((if i.index = i.frameStart then 0x80 else 0) + (if i.frameEnd then 0x40 else 0) +
      i.phase % 4))
  else if mode = 1 then s.emit (.cxpTrigger p i.index)
  else s

/-- TRIG_END (R156): EXPOSURE after the issue, to the view's HLP ports. -/
def State.trigEnd (s : State) (v : Nat) : State :=
  match (s.trigger v).endDue with
  | none => s
  | some (t, index) =>
    if s.clk < t then s
    else
      let ports := (List.range 12).filter (fun p => (s.port p).view = some v ∧ s.num (Obj.portLinkMode p) = 2)
      (ports.foldl (fun acc p =>
        let r := acc.trigMessage p t 32
        r.1.emit (.trigEnd p (index % 256) r.2)) s).modTrigger v (fun x => { x with endDue := none })

/-- The CoaXPress exposure write of a view sent to its CoaXPress ports (R157), and kept as the one last sent (R193; in ns, log entry
28). `short` sets LEAD_SHORT. -/
def State.sendExposure (s : State) (v start epoch : Nat) (short : Bool) : State :=
  let unit := s.param epoch (Obj.trgCxpExpUnit v)
  let value := (2 * s.param epoch (Obj.trgExposure v) + unit) / (2 * unit)
  let ns := (start, value * unit)
  let ports := (s.portsOfView v).filter (fun p => s.num (Obj.portLinkMode p) = 1)
  let s1 := ports.foldl (fun acc p =>
    let a := ((acc.queueReg p (ownReg true (acc.param epoch (Obj.trgCxpExpAddr v)) 1 (leBytes 4 value) (some start))).sendReg p)
    let a := a.modPort p (fun x => { x with exposures := (ns :: x.exposures).take 16 })
    if short then a.modPort p (fun x => x.modFrame start (fun w => { w with flags := w.flags ||| FrameFlag.leadShort })) else a) s
  if short ∧ ports ≠ [] then s1.orFlags (Obj.trgFlags v) 4 else s1

/-- The frame start from which a new EXPOSURE applies that was bound to an index (R156). -/
def State.exposureStart (s : State) (v bound : Nat) : Nat :=
  let next := (s.trigger v).nextIndex
  s.frameFrom v (if half32 ≤ ahead32 next bound then next else bound)

/-- The index at which the CoaXPress write of such an EXPOSURE is due, CXP_LEAD before its frame start (R157). -/
def State.exposureIndex (s : State) (v bound epoch : Nat) : Nat :=
  (s.exposureStart v bound + wrap32 - s.param epoch (Obj.trgCxpLead v)) % wrap32

/-- The CoaXPress writes to come of a view whose index has already been issued are sent at once, with LEAD_SHORT (R157): at the commit that
binds them, and where the framing moves since (log entry 28). -/
def State.exposureReview (s : State) (v : Nat) : State :=
  let t := s.trigger v
  let past := fun (q : Nat × Nat) => decide (half32 ≤ ahead32 t.nextIndex (s.exposureIndex v q.1 q.2))
  (t.cxpWrites.filter past).foldl (fun acc q => acc.sendExposure v (s.exposureStart v q.1) q.2 true)
    (s.modTrigger v (fun x => { x with cxpWrites := x.cxpWrites.filter (fun q => !past q) }))

/-- A new EXPOSURE from the first frame start at or after a bound index (R156, R157): its CoaXPress write is put down for the
index CXP_LEAD before, and sent at once when that index has been issued. -/
def State.exposureBound (s : State) (v epoch bound : Nat) : State :=
  (s.modTrigger v (fun t => { t with cxpWrites := t.cxpWrites ++ [(bound, epoch)] })).exposureReview v

/-- A change of FRAME_LINES (R155): `framed` framed until now, or the value before this one where that has taken effect at the next
index. The frame in progress ends just before the first multiple of the new value that is still to be issued; one that would end with the
line issued last ends with it. -/
def State.frameLinesNew (s : State) (v framed : Nat) : State :=
  let n := s.num (Obj.trgFrameLines v)
  let t := s.trigger v
  let old := match t.newFrameLines with
    | some q => if q.2 = t.nextIndex then q.1 else framed
    | none => framed
  if n = old ∧ t.newFrameLines = none then s
  else
    let st := firstMultiple n t.nextIndex
    let s1 := s.modTrigger v (fun x => { x with frameLines := some old, newFrameLines := some (n, st) })
    match t.issues with
    | i :: _ =>
      if st = t.nextIndex ∧ t.nextIndex % old ≠ 0 ∧ !i.frameEnd then
        let s2 := (s1.modTrigger v Trigger.cutNewest).orFlags (Obj.trgFlags v) 2
        ((((List.range 12).filter (fun p => (s.port p).view = some v)).foldl (fun acc p => acc.cutPort v i p) s2).cutStages v i).exposureReview v
      else s1.exposureReview v
    | [] => s1.exposureReview v

/-- COMMIT_INSTANT: the full-time instants that have come (R20, R26, R95), with the exposures they bind (R157). A view that continues
from another module is bound by its triggers (R34). -/
def State.fullTimeInstant (s : State) : State :=
  let due := s.ctl.staging.armed.filter s.instantReached
  due.foldl (fun acc a => (a.bindings.filter (fun b => b.index = none && !s.continues b.view)).foldl (fun acc2 b =>
    if a.exposures.contains b.view then acc2.exposureBound b.view a.epoch (s.trigger b.view).nextIndex else acc2) acc)
      s.commitInstant

/-- The writes put down for the index just issued, oldest first (R157). -/
def State.exposureDue (s : State) (v index : Nat) : State :=
  let due := fun (q : Nat × Nat) => decide (s.exposureIndex v q.1 q.2 = index)
  let l := (s.trigger v).cxpWrites
  (l.filter due).foldl (fun acc q => acc.sendExposure v (s.exposureStart v q.1) q.2 false)
    (s.modTrigger v (fun t => { t with cxpWrites := l.filter (fun q => !due q) }))

/-! ## What a commit binds to the next index -/

/-- The armed commits that bind the next index of a view, oldest first. -/
def State.boundHere (s : State) (v : Nat) : List Armed :=
  s.ctl.staging.armed.filter (fun a =>
    a.bindings.any (fun b => b.view = v && !b.issued && decide (b.index = some (s.trigger v).nextIndex)))

/-- SOURCE of the next index under the commits that bind it: none when it is to be the first not issued (R153). -/
def State.boundSource (s : State) (v : Nat) : Nat :=
  match (s.boundHere v).getLast? with
  | some a => s.param a.epoch (Obj.trgSource v)
  | none => s.num (Obj.trgSource v)

/-- The source whose event takes, or is absorbed in the place of, the next index (R153). -/
def State.effSource (s : State) (v : Nat) : Nat :=
  if s.boundSource v = 0 then s.num (Obj.trgSource v) else s.boundSource v

/-- MAX_RATE for the next index. -/
def State.boundRate (s : State) (v : Nat) : Nat :=
  match (s.boundHere v).getLast? with
  | some a => s.param a.epoch (Obj.trgMaxRate v)
  | none => s.num (Obj.trgMaxRate v)

/-- The bindings of the next index made: the view's objects in force, the epoch of the lines from here on (R20, R552). -/
def State.takeBindings (s : State) (v : Nat) : State :=
  (s.boundHere v).foldl (fun acc a =>
    match acc.armedOf a.epoch with
    | some x => (acc.bindingIssued x v).viewEpoch v a.epoch (acc.trigger v).nextIndex
    | none => acc) s

/-- A port leaves its view and forwards what it holds (R153). Where the frame in progress goes on without it, its own part of the frame
ends here, and a capture of that frame FAILED, for the port delivers no more of it (R191, R194). -/
def State.leaveView (s : State) (p : Nat) : State :=
  match (s.port p).view with
  | none => s
  | some u =>
    let t := s.trigger u
    let s1 := if t.anyIssued then s.forwardTo p ((t.nextIndex + wrap32 - 1) % wrap32) else s
    let s3 := match t.issues.head? with
      | some i =>
        if i.frameEnd then s1
        else
          let s2 := match (s1.region p).capture with
            | some c =>
              if c.frame = some i.frameStart then
                (s1.modRegion p (fun g => { g with capture := none })).putNum (Obj.portCalCapture p) 3
              else s1
            | none => s1
          s2.endPort u i p
      | none => s1
    s3.modPort p (fun x => { x with view := none, lines := [], rejoin := none, marks := [] })

/-- A region's pipeline as power finds it (R18). -/
def Region.powerUp (g : Region) : Region :=
  { g with
    setup := none, held := [none, none, none, none], history := [[], [], [], []], stats := none, latency := none, gated := false }

/-- The ports of a view from an index on (R153, R222): ports that leave forward what they hold, ports that join follow the view's
triggers and rejoin; the pipeline of one that was in no view had no power (R18). A region without its table copy waits for it (R262). -/
def State.joinPorts (s : State) (v n : Nat) : State :=
  let want := s.portsOfView v
  let held := (List.range 12).filter (fun p => (s.port p).view = some v)
  let s1 := (held.filter (fun p => !want.contains p)).foldl State.leaveView s
  (want.filter (fun p => !held.contains p)).foldl (fun acc p =>
    let up := decide ((acc.port p).state = 6) || decide ((acc.port p).state = 7)
    ((acc.leaveView p).modPort p (fun x => { x with
      view := some v, nextForward := n, discarded := [], rejoin := if up then some n else none })).modRegion p
        (fun g =>
          let h := if (acc.port p).view.isNone then g.powerUp else g
          if (acc.view v).joining.contains p then { h with awaiting := true } else h)) s1

/-- Whether a copy that mismatched is still being rewritten in a region, of a bank that is ACTIVE, ARMED or ELIGIBLE (R263). -/
def State.copyPending (s : State) (v p : Nat) : Bool :=
  (s.region p).copyBad.any (fun q =>
    let b := ((s.view v).bank q.1).state
    decide (s.clk < q.2) && (decide (b = BankState.active) || decide (b = BankState.armed) || decide (b = BankState.eligible)))

/-- A waiting region at a frame start (R11, R262, R263): it rejoins under the current epoch, once it has its table copy and every copy that
mismatched is rewritten; otherwise it waits for the next frame start. -/
def State.rejoinRegion (s : State) (v n p : Nat) : State :=
  if (s.region p).awaiting ∧ !(s.view v).joining.contains p ∧ !s.copyPending v p then
    s.modRegion p (fun g => { g with
      awaiting := false, rejoin := some n, resetUntil := Nat.min g.resetUntil s.clk, copyBad := [] })
  else s

/-- A frame start (R11, R143, R182, R194, R235, R262, R404, R552): frame-boundary objects, rings, seams, ports that wait for
their frame, regions that wait to rejoin, captures. -/
def State.frameStarts (s : State) (v n stamp : Nat) : State :=
  let e := (s.trigger v).epoch
  let s1 := s.modTrigger v (fun t => { t with
    frameStart := n, frameEpoch := e, frameNo := n / s.frameLen v, frameTime := stamp,
    afterCut := match t.issues with | i :: _ => i.cut | [] => false })
  let s2 := s1.ctl.staging.armed.foldl (fun acc a =>
    match acc.armedOf a.epoch with | some x => acc.bindFrame x v n | none => acc) (s1.applySeams v n)
  let s3 := s2.ringsStart v (fun x => decide (s2.epochPos x ≤ s2.epochPos e))
  let ports := s3.portsOfView v
  let s4 := ports.foldl (fun acc p =>
    if (acc.port p).state = 5 ∧ (acc.port p).stage = 0 then
      acc.modPort p (fun x => { x with state := if x.degraded then 7 else 6, rejoin := some n, unplugged := false, degrading := false, marks := [],
                                       lines := [] })
    else acc) s3
  let s5 := ports.foldl (fun acc p => acc.rejoinRegion v n p) s4
  let opened := ports.filter (fun p => match (s5.region p).capture with | some c => c.frame.isNone | none => false)
  let s6 := opened.foldl (fun acc p => acc.modRegion p (fun g => { g with
    capture := g.capture.map (fun c => { c with frame := some n, frameNo := (s5.trigger v).frameNo, epoch := e }) })) s5
  if opened.any (fun p => match (s6.region p).capture with | some c => decide (c.kind = 1) | none => false) then s6.lampsOff v
  else if s6.num (Obj.trgLampMode v) = 1 then s6.toutReview else s6

/-- The oldest trigger kept is forwarded by every port of the view before a new one takes its place (R21, R137). -/
def State.forwardOldest (s : State) (v : Nat) : State :=
  match (s.trigger v).issues[8191]? with
  | none => s
  | some i =>
    ((List.range 12).filter (fun p => (s.port p).view = some v ∧ half32 ≤ ahead32 (i.index + 1) (s.port p).nextForward)).foldl
      (fun acc p => acc.forwardTo p i.index) s

/-- The issue of the next trigger of a view (R149, R152): `stamp` is its short time and `period` the time since the one before. A trigger of
a continuing view that was lost on the system link (`lost`) takes its index, but reaches neither camera nor lamp nor fabric: its line is a
placeholder (R21, R34). -/
def State.issueWith (s : State) (v stamp period : Nat) (lost : Bool) : State :=
  let s0 := s.forwardOldest v
  let had := s0.ports.any (fun x => x.view = some v)
  let e0 := (s0.trigger v).epoch
  let s1 := (s0.takeBindings v).modTrigger v Trigger.newFraming
  if !s1.ctl.mode.operating then s1
  else
    let n := (s1.trigger v).nextIndex
    let start := s1.startsFrame v n
    let s2 := s1.joinPorts v n
    let s3 := if start then s2.frameStarts v n stamp else s2
    let t := s3.trigger v
    let next := (n + 1) % wrap32
    let ends := s3.startsFrame v next
    let cut := ends && decide ((n + 1) % s3.frameLen v ≠ 0)
    let phases := Nat.max 1 (s3.param t.frameEpoch (Obj.trgPhases v))
    let exposure := s3.param t.frameEpoch (Obj.trgExposure v)
    let i : Issue :=
      { index := n, clk := s3.clk, time := stamp, epoch := t.epoch, frameEpoch := t.frameEpoch,
        phase := ahead32 t.frameStart n % phases, frameStart := t.frameStart, frameNo := t.frameNo, frameTime := t.frameTime,
        afterCut := t.afterCut, frameEnd := ends, cut := cut }
    let ports := s3.portsOfView v
    let hlp := ports.any (fun p => s3.num (Obj.portLinkMode p) = 2)
    let pos := (s3.encoder (s3.num (Obj.trkEncoder v))).position
    let s4 := s3.modTrigger v (fun t => { t with
      nextIndex := next, anyIssued := true, lastClk := s3.clk,
      periods := if t.anyIssued then (period :: t.periods).take 64 else t.periods,
      issues := (i :: t.issues).take 8192, positions := ((n, pos) :: t.positions).take 8192,
      endDue := if hlp && !lost then some (s3.clk + exposure, n) else none })
    let s5 := s4.modView v (fun w => { w with
      nextStitch := if s4.lineStopped t.epoch ∨ ports = [] then w.nextStitch
        else if !had ∨ s4.lineStopped e0 then some n else some (w.nextStitch.getD n) })
    let s6 := if s5.num (Obj.epViewEpoch v) = t.epoch then s5
              else (s5.putNum (Obj.epViewEpoch v) t.epoch).putNum (Obj.epBound v) n
    let s7 := ((s6.putNum (Obj.trgLastTrigger v) stamp).putNum (Obj.trgNextIndex v) next).putNum (Obj.trgFrame v)
      (s6.trigger v).frameNo
    let s8 := if cut then s7.orFlags (Obj.trgFlags v) 2 else s7
    let s11 := if lost then s8.exposureDue v n
      else
        let s9 := ((ports.foldl (fun acc p => acc.sendTrigger i p) s8).exposureDue v n).lampTrigger v i.phase exposure
        let s10 := s9.raise false (0x001 + v) n
        if start then s10.raise false (0x005 + v) n else s10
    let far := s11.num (Obj.viewContinuesTo v)
    let s12 := if far < 4 then (s11.sendEvent far (4 + v) stamp n).bump (Obj.echEvents (292 + v)) else s11
    let s13 := if ports = [] then s12 else (s12.modPower (fun p => { p with lastTrigger := s12.clk })).leaveDoze .trigger
    let s14 := if ports = [] ∨ s13.lineStopped e0 then s13.countSwitched v t.epoch else s13
    s14.dropDone

/-- The issue of the next trigger of a view (R149, R152). -/
def State.issueTrigger (s : State) (v stamp : Nat) : State := s.issueWith v stamp (s.clk - (s.trigger v).lastClk) false

/-- The event that a stopping commit absorbs (R153): it counts as the issue of the bound index. -/
def State.absorbEvent (s : State) (v : Nat) : State :=
  (s.boundHere v).foldl (fun acc a => acc.countIssued a.epoch v) s

/-- A trigger issued, or absorbed by a commit that stops the generator (R153). -/
def State.fireTrigger (s : State) (v : Nat) : State :=
  if s.boundSource v = 0 then s.absorbEvent v else s.issueTrigger v s.shortNow

/-- The earliest clock of the next trigger (R150). -/
def State.triggerFree (s : State) (v : Nat) : Nat :=
  let t := s.trigger v
  if t.anyIssued then t.lastClk + ceilDiv 1000000000 (s.boundRate v) else 0

/-- An event of a source at a view's generator (R149, R150). A full-time instant that has come counts first (R20). A view that
continues from another module has its generator there and takes no local source (R34). -/
def State.triggerEvent (s0 : State) (source v : Nat) : State :=
  let s := if s0.ctl.staging.armed.any s0.instantReached then s0.fullTimeInstant else s0
  if !s.ctl.mode.operating ∨ s.power.state = .deep ∨ source ≠ s.effSource v ∨ s.num (Obj.viewContinuesFrom v) ≠ 0xFF then s
  else if (s.trigger v).held.isSome then (s.bump (Obj.trgTriggersDropped v)).orFlags (Obj.trgFlags v) 1
  else if s.clk < s.triggerFree v then
    (s.bump (Obj.trgTriggersHeld v)).modTrigger v (fun t => { t with held := some source })
  else s.fireTrigger v

/-- An event of a source at every generator. -/
def State.sourceEvent (s : State) (source : Nat) : State := (List.range 4).foldl (fun acc v => acc.triggerEvent source v) s

/-- TRIGGER_HELD_ISSUE (R150): the held event is issued once its time has come; one whose source no longer feeds the generator
is gone (R153). -/
def State.heldIssue (s0 : State) (v : Nat) : State :=
  let s := if s0.ctl.staging.armed.any s0.instantReached then s0.fullTimeInstant else s0
  match (s.trigger v).held with
  | none => s
  | some source =>
    if !s.ctl.mode.operating ∨ s.power.state = .deep ∨ s.clk < s.triggerFree v then s
    else
      let s1 := s.modTrigger v (fun t => { t with held := none })
      if source = s1.effSource v then s1.fireTrigger v else s1

/-- A full-time commit binds a view that continues from another module to the first trigger that its generator issued at or after the
instant, by the issue time the trigger carries (R20, R34). The rest of the commit has come with the instant itself. -/
def State.bindRemote (s : State) (v index time : Nat) : State :=
  let issued := (s.fullNow : Int) - diff32 s.shortNow time
  (s.ctl.staging.armed.filter (fun a => decide (a.kind = 3) && decide ((a.instant : Int) ≤ issued) &&
    a.bindings.any (fun b => b.view = v && decide (b.index = none) && !b.issued))).foldl (fun acc a =>
      let b := acc.modArmed a.epoch (fun x => { x with
        bindings := x.bindings.map (fun b => if b.view = v ∧ b.index = none then { b with index := some index } else b) })
      if a.exposures.contains v then b.exposureBound v a.epoch index else b) s

/-- A view that continues from another module takes up an index out of sequence: the first it receives, or one behind the
indexes it has had. What was bound to an index in between binds to this one, and the ports and the stitcher go on from it (R20,
R21, R34). -/
def State.jumpIndex (s : State) (v index time : Nat) : State :=
  let t := s.trigger v
  let gap := ahead32 t.nextIndex index
  let start := index - index % s.frameLen v
  let s1 := s.modTrigger v (fun t => { t with
    nextIndex := index, frameStart := start, frameNo := start / s.frameLen v, frameTime := time, frameEpoch := t.epoch })
  let s2 := s1.modStaging (fun g => { g with armed := g.armed.map (fun a => { a with bindings := a.bindings.map (fun b =>
    if b.view = v ∧ !b.issued then { b with index := b.index.map (fun k => if ahead32 t.nextIndex k < gap then index else k) }
    else b) }) })
  let s3 := { s2 with ports := s2.ports.map (fun (x : Port) => if x.view = some v then { x with nextForward := index } else x) }
  (s3.modView v (fun w => { w with nextStitch := w.nextStitch.map (fun _ => index) })).exposureReview v

/-- `n` lost triggers of a continuing view take their indexes. -/
def State.lostTriggers (s : State) (v time period : Nat) : Nat → State
  | 0 => s
  | n + 1 => (s.issueWith v time period true).lostTriggers v time period n

/-- A trigger of a view that continues from another module, with the index it carries (R34, R443). A full-time instant
that has come counts first, and what it left to bind binds by the issue time (R20). Triggers lost before it take their indexes as
placeholders (R21, R147). DESIGN CHOICE (log entry 24): the record of R145 has no epoch, and the lines take this module's own; the periods
of lost triggers are equal. -/
def State.remoteTrigger (s : State) (v index time : Nat) : State :=
  if !s.ctl.mode.operating ∨ s.power.state = .deep ∨ 4 ≤ v ∨ s.num (Obj.viewContinuesFrom v) = 0xFF then s
  else
    let s0 := (if s.instantDue then s.fullTimeInstant else s).bindRemote v index time
    let t := s0.trigger v
    let gap := ahead32 t.nextIndex index
    let period := (time + wrap32 - s0.num (Obj.trgLastTrigger v)) % wrap32 / (gap + 1)
    let s1 := if gap = 0 then s0
      else if t.anyIssued ∧ gap < half32 then s0.lostTriggers v time period gap
      else s0.jumpIndex v index time
    s1.issueWith v time period false

/-! ## Divided outputs -/

/-- A pulse of a divided output (R149, R169, R170, R444). -/
def State.pgoFire (s : State) (k : Nat) : State := ((s.pgoPin k).raise false (0x018 + k) 0).sourceEvent (5 + k)

/-- A step of an encoder through the divided outputs that take it (R169). -/
def State.pgoFeed (s : State) (c : Nat) (step : Int) : State :=
  (List.range 4).foldl (fun acc k =>
    if acc.num (Obj.pgoInput k) = c + 1 then
      let r := pgoStep (acc.pgo k).acc step (acc.num (Obj.pgoN k)) (acc.num (Obj.pgoM k))
      let a := acc.modPgo k (fun x => { x with acc := r.1 })
      if r.2 then a.pgoFire k else a
    else acc) s

/-- PGO_PULSE: the accumulator of a TIMEBASE output has reached M (R169). -/
def State.pgoPulse (s : State) (k : Nat) : State :=
  let m : Int := (s.num (Obj.pgoM k) : Int)
  if k < 4 ∧ s.num (Obj.pgoInput k) = 5 ∧ s.ctl.mode.operating ∧ s.power.state ≠ .deep ∧ m ≤ s.pgoAcc k then
    (s.modPgo k (fun x => { x with acc := s.pgoAcc k - m, lastClk := s.clk })).pgoFire k
  else s

/-! ## Encoders -/

/-- A counted edge: the event, the generators that take the channel, the divided outputs (R149, R163, R169, R444). -/
def State.counted (s : State) (c : Nat) (old new : Encoder) (step : Int) : State :=
  let s1 := s.raise false (0x010 + c) new.position
  let s2 := if old.passes step new then s1.sourceEvent (c + 1) else s1
  s2.pgoFeed c step

/-- COUNT_EDGE (R162 to R165, R171, R482): A and B have stood at new levels for a number of samples of 1 ns; fewer than FILTER are a
pulse that is removed. In DEEP any change is a wake, and no more. -/
def State.countEdge (s : State) (c samples : Nat) (a b : Bool) : State :=
  let x := s.encoder c
  let kind := edgeKind x.a x.b a b (s.num (Obj.encPolarity c))
  let s1 := s.modEncoder c (fun y => { y with a := a, b := b })
  if kind = .noChange ∨ (samples < s.num (Obj.encFilter c) ∧ s.power.state ≠ .deep) then s
  else if s.power.state = .deep then
    (if s.flag (Obj.encEnable c) then s1.wake .encoder else s1)
  else if !s.encRuns c ∨ !s.ctl.mode.operating then s1
  else
    match kind with
    | .noChange => s1
    | .illegal =>
      let s2 := s1.encIllegal c
      if s2.retired Unit.encoder c then s2.beltLost c else s2
    | .count f =>
      let y := (s1.encoder c).edge f s1.clk
      if y.2 = 0 then s1.modEncoder c (fun _ => y.1)
      else ((s1.leaveDoze .encoder).modEncoder c (fun _ => y.1)).counted c (s1.encoder c) y.1 y.2

/-- INDEX_EDGE (R162, R167, R171, R444): Z has been high for a number of samples. -/
def State.indexEdge (s : State) (c samples : Nat) : State :=
  if s.encRuns c ∧ s.ctl.mode.operating ∧ s.num (Obj.encFilter c) ≤ samples then
    let s1 := s.encIndex c
    s1.raise false (0x014 + c) (s1.num (Obj.encIndexPos c))
  else s

/-- SYNTHETIC_COUNT (R168): the next of the evenly spaced counts of a retired channel is due. -/
def State.syntheticCount (s : State) (c : Nat) : State :=
  let x := s.encoder c
  let rate := s.num (Obj.encNominalRate c)
  if s.encSynthetic c ∧ s.ctl.mode.operating ∧ x.synBase + (x.synCount + 1) * 1000000000 / rate ≤ s.clk then
    let y := { (x.atPosition ((x.position + 1) % wrap32)) with synCount := x.synCount + 1 }
    ((s.leaveDoze .encoder).modEncoder c (fun _ => y)).counted c x y 1
  else s

end Sys2Proof.Machine
end

