-- ==== Sys2Proof/Machine/Checks.lean ====
section
/-! DEFINITION. The consistency checks 1 to 29 (R96, R100) over the configuration a commit would make. A check that fails
answers the objects it involves; the failing object is chosen among them by R97. -/

namespace Sys2Proof.Machine

/-- What the checks look at: the values, the keys staged, the mode requested and the mode after the commit, the instant. -/
structure Proposal where
  vals : Kv
  staged : List Nat
  request : Option Mode
  after : Mode
  kind : Nat
  mask : Nat
  atTime : Nat
  deriving DecidableEq, Repr

/-- A value of the proposed configuration as a number, and as a byte string. -/
def State.pnum (s : State) (c : Proposal) (key : Nat) : Nat := (s.valIn c.vals key).toNat
def State.pbytes (s : State) (c : Proposal) (key : Nat) : Bytes := (s.valIn c.vals key).toBytes

/-- The views that hold a port, with their ports (R554). -/
def State.pviews (s : State) (c : Proposal) : List (Nat × List Nat) :=
  ((List.range 4).filter (viewConfiguredBy (s.pnum c))).map (fun v => (v, portsOfViewBy (s.pnum c) v))

/-- The ports in views, with their view. -/
def State.pports (s : State) (c : Proposal) : List (Nat × Nat) :=
  (s.pviews c).flatMap (fun q => q.2.map (fun p => (p, q.1)))

/-- The first of some failures. -/
def firstFail {α : Type} (l : List α) (bad : α → Option (List Nat)) : Option (List Nat) := l.findSome? bad

/-- Fails with the objects involved unless a condition holds. -/
def unless_ (ok : Bool) (keys : List Nat) : Option (List Nat) := if ok then none else some keys

/-- FTIME as ns (R38): seconds in bytes 0 to 5, nanoseconds in bytes 6 to 9. -/
def ftimeNs (n : Nat) : Nat := n % 2 ^ 48 * 1000000000 + n / 2 ^ 48

/-- An encoder channel that is enabled and not retired (R151). -/
def State.encUsable (s : State) (c : Proposal) (k : Nat) : Bool :=
  decide (k < 4) && decide (s.pnum c (Obj.encEnable k) ≠ 0) && !s.retired Unit.encoder k

/-! ## Checks 1 to 4: the commit request -/

def State.check1 (s : State) (c : Proposal) : Option (List Nat) :=
  match c.request with
  | none => none
  | some m => unless_ (decide (m = s.ctl.mode) || s.ctl.mode.commitTo m) [Obj.modeModeRequest]

/-- R100. DESIGN CHOICE (log entry 59): MODE_REQUEST is among the objects of a request for STANDBY that fails. -/
def State.check2 (s : State) (c : Proposal) : Option (List Nat) :=
  if c.kind = 0 ∧ s.ctl.mode ≠ .config then some [Obj.cmInstantKind]
  else unless_ (!(decide (c.request = some .standby) && decide (c.kind ≠ 0 ∧ c.kind ≠ 3))) [Obj.modeModeRequest, Obj.cmInstantKind]

/-- The views with staged objects in 0x3400, 0x4000 or 0x6000. -/
def stagedViews (keys : List Nat) : List Nat :=
  (List.range 4).filter (fun v => keys.any (fun k =>
    let i := k / 256
    decide (0x3400 + 0x10 * v ≤ i ∧ i < 0x3410 + 0x10 * v) || decide (0x4000 + 0x100 * v ≤ i ∧ i < 0x4100 + 0x100 * v) ||
    decide (0x6000 + 0x40 * v ≤ i ∧ i < 0x6040 + 0x40 * v)))

def State.check3 (s : State) (c : Proposal) : Option (List Nat) :=
  if c.kind = 1 ∨ c.kind = 2 then
    unless_ ((List.range 4).any (fun v => bitOf c.mask v && viewConfiguredBy (s.pnum c) v) &&
      (stagedViews c.staged).all (fun v => bitOf c.mask v)) [Obj.cmViewMask]
  else none

def State.check4 (s : State) (c : Proposal) : Option (List Nat) :=
  if c.kind = 3 then unless_ (decide (ftimeNs c.atTime ≤ s.fullNow + 86400 * 1000000000)) [Obj.cmAtTime] else none

/-! ## Checks 5 to 7: views -/

/-- R16: fitted consecutive ports, each in at most one view. PORTS above 0 beside FIRST_PORT 0xFF names ports that do not
exist (log entry 19). -/
def State.check5 (s : State) (c : Proposal) : Option (List Nat) :=
  let keys := fun (v : Nat) => [Obj.viewFirstPort v, Obj.viewPorts v]
  let first := fun (v : Nat) => s.pnum c (Obj.viewFirstPort v)
  let count := fun (v : Nat) => s.pnum c (Obj.viewPorts v)
  let views := (List.range 4).filter (fun v => decide (count v ≠ 0))
  (firstFail views (fun v => unless_ (decide (first v + count v ≤ s.ctl.part.ports)) (keys v))).or
    (firstFail views (fun v => firstFail (views.filter (fun w => decide (v < w))) (fun w =>
      unless_ (decide (first v + count v ≤ first w) || decide (first w + count w ≤ first v)) (keys v ++ keys w))))

def State.pgeometry (s : State) (c : Proposal) (v : Nat) : Geometry := geometryBy (s.pnum c) (s.pbytes c) v

def State.check6 (s : State) (c : Proposal) : Option (List Nat) :=
  firstFail (s.pviews c) (fun q =>
    unless_ (decide ((s.pgeometry c q.1).width ≤ 262144)) ([Obj.viewFirstPort q.1, Obj.viewPorts q.1, Obj.viewOverlaps q.1] ++ q.2.map (fun p => Obj.portOutWidth p)))

/-- R230. -/
def State.check7 (s : State) (c : Proposal) : Option (List Nat) :=
  firstFail (s.pviews c) (fun q =>
    let g := s.pgeometry c q.1
    firstFail (List.range g.seams) (fun k =>
      let right := if k + 1 < g.ports.length then natAt g.widths (k + 1) else natAt g.widths k
      unless_ (decide (2 * natAt g.overlaps k ≤ Nat.min (natAt g.widths k) right))
        ([Obj.viewFirstPort q.1, Obj.viewPorts q.1, Obj.viewOverlaps q.1] ++ ([k, k + 1].filter (fun j => j < g.ports.length)).map (fun j =>
          Obj.portOutWidth (natAt g.ports j)))))

/-! ## Checks 8 to 10: ports -/

/-- The line rates of a link mode (R110). -/
def ratesOf (mode : Nat) : List Nat :=
  if mode = 1 then [1250, 2500, 3125, 5000, 6250, 10000, 12500] else if mode = 2 then [16000, 20000, 21250] else []

def State.quadLanes (s : State) (p : Nat) : List Nat := (quad p).filter (fun n => !s.retired Unit.lane n)

/-- R120, R121. -/
def State.check8 (s : State) (c : Proposal) : Option (List Nat) :=
  firstFail (s.pports c) (fun q =>
    let p := q.1
    let mode := s.pnum c (Obj.portLinkMode p)
    let lanes := s.pnum c (Obj.portLanes p)
    let rate := s.pnum c (Obj.portRate p)
    unless_ (decide (mode = 0) || ((ratesOf mode).contains rate && decide (lanes ≤ (s.quadLanes p).length) &&
        lineFits mode (s.pnum c (Obj.portWidth p)) (s.pnum c (Obj.portBands p)) (s.pnum c (Obj.portBits p)) rate lanes
          (s.pnum c (Obj.trgMaxRate q.2))))
      [Obj.portLinkMode p, Obj.portLanes p, Obj.portRate p, Obj.portWidth p, Obj.portBands p, Obj.portBits p,
       Obj.trgMaxRate q.2])

/-- The lanes of a port that check 9 looks at (R121). -/
def State.check9Lanes (s : State) (c : Proposal) (p : Nat) : List Nat :=
  let lanes := s.pnum c (Obj.portLanes p)
  let x := s.port p
  if s.pnum c (Obj.portLinkMode p) = 1 then rangeFrom (4 * p) lanes
  else if x.state = 6 ∨ x.state = 7 then x.lanesInUse
  else (s.quadLanes p).take lanes

def State.check9 (s : State) (c : Proposal) : Option (List Nat) :=
  firstFail (s.pports c) (fun q =>
    if s.pnum c (Obj.portLinkMode q.1) = 0 then none
    else firstFail (s.check9Lanes c q.1) (fun n => unless_ (decide (s.pnum c (laneKey n 2) ≠ 2)) [laneKey n 2]))

def State.plive (s : State) (c : Proposal) (p v : Nat) : List Nat :=
  liveSlots (s.pnum c (Obj.portPhaseMap p)) (s.pnum c (Obj.trgPhases v)) (s.pnum c (Obj.portBands p))

/-- R203. -/
def State.check10 (s : State) (c : Proposal) : Option (List Nat) :=
  firstFail (s.pports c) (fun q =>
    let p := q.1
    let load := Nat.max (s.pnum c (Obj.portWidth p) * s.pnum c (Obj.portBands p))
      (s.pnum c (Obj.portOutWidth p) * (s.plive c p q.2).length) * s.pnum c (Obj.trgMaxRate q.2)
    unless_ (decide (load ≤ 9600000000))
      [Obj.portWidth p, Obj.portBands p, Obj.portPhaseMap p, Obj.portOutWidth p, Obj.trgMaxRate q.2, Obj.trgPhases q.2])

/-! ## Checks 11 to 13: triggers and lamps -/

/-- R151. -/
def State.check11 (s : State) (c : Proposal) : Option (List Nat) :=
  (firstFail (List.range 4) (fun v =>
    let src := s.pnum c (Obj.trgSource v)
    let input := s.pnum c (Obj.pgoInput (src - 5))
    if 400000 < s.pnum c (Obj.trgMaxRate v) then some [Obj.trgMaxRate v]
    else if src = 0 then none
    else if src ≤ 4 then unless_ (s.encUsable c (src - 1)) [Obj.trgSource v, Obj.encEnable (src - 1)]
    else unless_ (decide (input = 5) || (decide (1 ≤ input) && s.encUsable c (input - 1)))
      ([Obj.trgSource v, Obj.pgoInput (src - 5)] ++ (if 1 ≤ input ∧ input ≤ 4 then [Obj.encEnable (input - 1)] else [])))).or
  (firstFail (List.range 4) (fun k =>
    unless_ (decide (s.pnum c (Obj.pgoInput k) = 0) || decide (s.pnum c (Obj.pgoN k) ≤ s.pnum c (Obj.pgoM k)))
      [Obj.pgoInput k, Obj.pgoN k, Obj.pgoM k]))

/-- R156, R157. -/
def State.check12 (s : State) (c : Proposal) : Option (List Nat) :=
  firstFail (s.pviews c) (fun q =>
    let v := q.1
    let any_ := fun (m : Nat) => q.2.any (fun p => s.pnum c (Obj.portLinkMode p) = m)
    if any_ 2 ∧ 1000000000 < (s.pnum c (Obj.trgExposure v) + 100) * s.pnum c (Obj.trgMaxRate v) then
      some ([Obj.trgMaxRate v, Obj.trgExposure v] ++ q.2.map (fun p => Obj.portLinkMode p))
    else
      let lead := s.pnum c (Obj.trgCxpLead v)
      unless_ (!any_ 1 || (decide (1 ≤ lead) && decide (lead + 1 ≤ s.pnum c (Obj.trgFrameLines v))))
        ([Obj.trgFrameLines v, Obj.trgCxpLead v] ++ q.2.map (fun p => Obj.portLinkMode p)))

/-- The lamp objects of a view's phases and the outputs they name. -/
def State.plamps (s : State) (c : Proposal) (v : Nat) : List (Nat × Nat) :=
  (List.range (Nat.min 4 (s.pnum c (Obj.trgPhases v)))).map (fun p => (Obj.trgLampOut v p, s.pnum c (Obj.trgLampOut v p)))

/-- The lamps of every view, a view without ports among them: it names an output as a lamp too (R371). -/
def State.pallLamps (s : State) (c : Proposal) : List (Nat × Nat × Nat) :=
  (List.range 4).flatMap (fun v => (s.plamps c v).map (fun l => (v, l)))

/-- R186, R371. -/
def State.check13 (s : State) (c : Proposal) : Option (List Nat) :=
  let lamps := s.pallLamps c
  (firstFail (s.pviews c) (fun q =>
    let v := q.1
    let n := s.pnum c (Obj.trgPhases v)
    let lamps := s.plamps c v
    unless_ (decide (1 ≤ n) && decide (n ≤ 4) && lamps.all (fun l => decide (l.2 < 16)) && (lamps.map (·.2)).Nodup &&
        (decide (s.pnum c (Obj.trgLampMode v) ≠ 1) || decide (n = 1)) && decide (s.pnum c (Obj.trgFrameLines v) % n = 0))
      ([Obj.trgFrameLines v, Obj.trgPhases v, Obj.trgLampMode v] ++ lamps.map (·.1)))).or
  (firstFail lamps (fun a => firstFail lamps (fun b =>
    unless_ (decide (16 ≤ a.2.2) || decide (a.2.2 ≠ b.2.2) || decide (b.2.1 ≤ a.2.1))
      [a.2.1, b.2.1, Obj.trgPhases a.1, Obj.trgPhases b.1])))

/-! ## Checks 14 to 18: line processing -/

/-- R178. -/
def State.check14 (s : State) (c : Proposal) : Option (List Nat) :=
  firstFail (List.range s.ctl.part.ports) (fun p =>
    let d := s.pbytes c (Obj.portDefects p)
    let px := (List.range (d.length / 4)).map (fun k => u16At d (4 * k))
    unless_ (px.all (fun x => decide (x < s.pnum c (Obj.portWidth p))) &&
      (List.zip px (px.drop 1)).all (fun q => decide (q.1 ≠ q.2))) [Obj.portWidth p, Obj.portDefects p])

/-- R202. -/
def State.check15 (s : State) (c : Proposal) : Option (List Nat) :=
  firstFail (s.pports c) (fun q =>
    let p := q.1
    unless_ ((s.plive c p q.2).all (fun k =>
      xtMapOk (s.pbytes c (Obj.portXtMap p)) k (s.pnum c (Obj.portOutWidth p)) (s.pnum c (Obj.portWidth p))))
      [Obj.portWidth p, Obj.portBands p, Obj.portPhaseMap p, Obj.portOutWidth p, Obj.portXtMap p, Obj.trgPhases q.2])

/-- The least k with n ≤ 2^k. -/
def log2Up (n : Nat) : Nat := ((List.range 33).find? (fun k => decide (n ≤ 2 ^ k))).getD 33

/-- R212. -/
def State.check16 (s : State) (c : Proposal) : Option (List Nat) :=
  firstFail (List.range 8) (fun k =>
    unless_ (decide (16 + s.pnum c (Obj.strCicOrder k) * log2Up (s.pnum c (Obj.strCicRatio k)) ≤ 40))
      [Obj.strCicOrder k, Obj.strCicRatio k])

/-- Bytes that a stream's record takes on the line a second, as a quotient (R246). -/
def State.streamLoad (s : State) (c : Proposal) (k : Nat) : Nat × Nat :=
  let nout := streamWidth (s.pnum c (Obj.strCropWidth k)) (s.pnum c (Obj.strStep k))
  let rec_ := recordBytes nout (selectedBands (s.pnum c (Obj.strBands k))).length (formatBits (s.pnum c (Obj.strFormat k)))
      (decide (s.pnum c (Obj.strMask k) ≠ 0)) + (if bitOf (s.pnum c (Obj.strDest k)) 2 then 20 else 0)
  ((rec_ + 78 * ceilDiv rec_ 1408) * s.pnum c (Obj.trgMaxRate (s.pnum c (Obj.strView k))), Nat.max 1 (s.pnum c (Obj.strCicRatio k)))

/-- R246. -/
def State.check17 (s : State) (c : Proposal) : Option (List Nat) :=
  let on := (List.range 8).filter (fun k => s.pnum c (Obj.strEnable k) ≠ 0)
  (firstFail on (fun k =>
    let v := s.pnum c (Obj.strView k)
    let dest := s.pnum c (Obj.strDest k)
    if !viewConfiguredBy (s.pnum c) v then some [Obj.viewFirstPort v, Obj.viewPorts v, Obj.strEnable k, Obj.strView k]
    else if (s.pgeometry c v).width < s.pnum c (Obj.strX0 k) + s.pnum c (Obj.strCropWidth k) then
      some [Obj.strEnable k, Obj.strView k, Obj.strX0 k, Obj.strCropWidth k]
    else unless_ ((bitOf dest 0 || bitOf dest 1) && (!bitOf dest 2 || s.ctl.part.hasCodec)) [Obj.strEnable k, Obj.strDest k])).or
  (firstFail [0, 1] (fun p =>
    let here := on.filter (fun k => bitOf (s.pnum c (Obj.strDest k)) 1 && decide (s.pnum c (Obj.strEthPort k) = p))
    let sum := here.foldl (fun (a : Nat × Nat) k => let q := s.streamLoad c k; (a.1 * q.2 + q.1 * a.2, a.2 * q.2)) (0, 1)
    let rate := if s.pnum c (Obj.ethSpeed p) = 0 then 10000000000 else 25000000000
    unless_ (decide (sum.1 * 8 * 100 ≤ 95 * rate * sum.2))
      (Obj.ethSpeed p :: here.flatMap (fun k => [Obj.strEnable k, Obj.strView k, Obj.strCropWidth k, Obj.strStep k, Obj.strBands k,
        Obj.strFormat k, Obj.strMask k, Obj.strDest k, Obj.strEthPort k, Obj.strCicRatio k,
        Obj.trgMaxRate (s.pnum c (Obj.strView k))]))))

/-- R291. -/
def State.check18 (s : State) (c : Proposal) : Option (List Nat) :=
  firstFail (List.range 4) (fun v =>
    unless_ (decide (s.pnum c (Obj.viewFgClasses v) ≠ 0) && decide (s.pnum c (Obj.viewMinArea v) ≤ s.pnum c (Obj.viewMaxArea v)))
      [Obj.viewFgClasses v, Obj.viewMinArea v, Obj.viewMaxArea v])

/-! ## Checks 19, 20, 29: the brick array -/

def State.predSlot (s : State) (c : Proposal) (v j : Nat) : Nat := u8At (s.pbytes c (Obj.viewPred v j)) 0

/-- R320. -/
def State.check19 (s : State) (c : Proposal) : Option (List Nat) :=
  let views := (s.pviews c).map (·.1)
  (firstFail views (fun v => firstFail (List.range 4) (fun j =>
    let n := s.predSlot c v j
    unless_ (decide (n = 0xFF) || decide ((s.slot n).state = 3)) [Obj.viewPred v j]))).or
  (unless_ (decide (s.demandBy (s.pnum c) (s.pbytes c) ≤
      s.capacityBy (s.pnum c Obj.brkDispatchRegions) (s.pnum c Obj.brkUtilLimit)))
    ([Obj.brkDispatchRegions, Obj.brkUtilLimit] ++ views.flatMap (fun v => (List.range 4).map (fun j => Obj.viewPred v j)) ++
      (slotsNamedBy (s.pbytes c) views).map (fun n => Obj.slotRate n)))

/-- The valve positions that a calibration names: the first and last valve between the ends of POS (R334, R354). -/
def State.calValves (s : State) (c : Proposal) (v : Nat) : Nat × Nat :=
  let cal := s.pbytes c (Obj.trkValveCal v)
  let a := u32At cal 4
  let b := u32At cal (8 * (s.pnum c (Obj.trkCalPoints v) - 1) + 4)
  let lo := Nat.min a b / 65536
  (lo, Nat.max lo ((Nat.max a b - 1) / 65536))

/-- The buses of this module in a span of valves. -/
def State.calBuses (s : State) (c : Proposal) (v : Nat) : List Nat :=
  let q := s.calValves c v
  (List.range 4).filter (fun b =>
    let first := 2048 * s.pins.id + 512 * b
    decide (q.1 < first + 512) && decide (first ≤ q.2))

/-- The views that sort after the commit (R84). -/
def State.psorting (s : State) (c : Proposal) : List (Nat × List Nat) := if c.after.sorts then s.pviews c else []

/-- R322: every view with an enabled predicate, with a port or without. -/
def State.check20 (s : State) (c : Proposal) : Option (List Nat) :=
  firstFail (if c.after.sorts then List.range 4 else []) (fun v =>
    let tick := (s.calBuses c v).foldl (fun m b => Nat.max m (s.pnum c (Obj.vbTickPeriod b))) 0
    let action := s.pnum c (Obj.trkDefaultAction v)
    unless_ ((List.range 4).all (fun j => decide (s.predSlot c v j = 0xFF)) ||
        ((decide (action = 1) || decide (action = 2)) && decide (2 * tick + 20 ≤ s.pnum c (Obj.trkDecisionMargin v))))
      ([Obj.trkDefaultAction v, Obj.trkDecisionMargin v] ++ (List.range 4).map (fun j => Obj.viewPred v j) ++
        (s.calBuses c v).map (fun b => Obj.vbTickPeriod b)))

/-- R323. -/
def State.check29 (s : State) (c : Proposal) : Option (List Nat) :=
  firstFail [Obj.brkDispatchRegions, Obj.brkBuildRegions] (fun k =>
    unless_ ((List.range 16).all (fun r => !bitOf (s.pnum c k) r ||
      (decide (r < s.ctl.part.regions) && !s.retired Unit.region r))) [k])

/-! ## Checks 21 to 24: tracking, valves, outputs -/

/-- R354. -/
def State.check21 (s : State) (c : Proposal) : Option (List Nat) :=
  firstFail (s.psorting c) (fun q =>
    let v := q.1
    let g := s.pnum c (Obj.trkGeometry v)
    let d := s.pnum c (Obj.trkValveDistance v)
    let enc := s.pnum c (Obj.trkEncoder v)
    if g = 1 then
      unless_ (decide (0 < d) &&
          decide (flightNs (s.pnum c (Obj.trkChuteSpeed v)) (s.pnum c (Obj.trkGravity v)) d ≤ 2000000000))
        [Obj.trkGeometry v, Obj.trkChuteSpeed v, Obj.trkValveDistance v, Obj.trkGravity v]
    else if g = 2 then
      unless_ (s.encUsable c enc) ([Obj.trkGeometry v, Obj.trkEncoder v] ++ (if enc < 4 then [Obj.encEnable enc] else []))
    else some [Obj.trkGeometry v])

/-- R354. -/
def State.check22 (s : State) (c : Proposal) : Option (List Nat) :=
  firstFail (List.range 4) (fun v =>
    let w := s.pnum c (Obj.trkFuseView v)
    if w = 0xFF then none
    else if w = v ∨ 4 ≤ w ∨ !viewConfiguredBy (s.pnum c) w then some [Obj.trkFuseView v]
    else if s.pnum c (Obj.trkFuseView w) ≠ v then some [Obj.trkFuseView v, Obj.trkFuseView w]
    else unless_ (decide (s.pnum c (Obj.trkViewDrop v) = 0) || decide (s.pnum c (Obj.trkViewDrop w) = 0))
      [Obj.trkFuseView v, Obj.trkFuseView w, Obj.trkViewDrop v, Obj.trkViewDrop w])

/-- Strict rise of a list. -/
def rises (l : List Nat) : Bool := (List.zip l (l.drop 1)).all (fun q => decide (q.1 < q.2))

/-- R354. -/
def State.check23 (s : State) (c : Proposal) : Option (List Nat) :=
  firstFail (s.psorting c) (fun q =>
    let v := q.1
    let cal := s.pbytes c (Obj.trkValveCal v)
    let n := s.pnum c (Obj.trkCalPoints v)
    let xs := (List.range n).map (fun i => u32At cal (8 * i))
    let pos := (List.range n).map (fun i => u32At cal (8 * i + 4))
    let span := s.calValves c v
    let foreign := decide (span.1 / 2048 ≠ s.pins.id) || decide (span.2 / 2048 ≠ s.pins.id)
    let lost := (s.calBuses c v).any (fun b => s.retired Unit.bus b)
    unless_ (rises xs && (rises pos || rises pos.reverse) && (!foreign || s.ctl.part.hasSyslink) && !lost &&
        decide (span.2 < 8192))
      [Obj.trkValveCal v, Obj.trkCalPoints v])

/-- R364, R371. -/
def State.check24 (s : State) (c : Proposal) : Option (List Nat) :=
  (firstFail (List.range 4) (fun b =>
    unless_ (decide (s.pnum c (Obj.vbEnable b) = 0) || decide (1 ≤ s.pnum c (Obj.vbMinOff b))) [Obj.vbEnable b, Obj.vbMinOff b])).or
  (firstFail (s.pallLamps c) (fun l =>
    unless_ (decide (16 ≤ l.2.2) || decide (s.pnum c (Obj.toutFunction l.2.2) = 0))
      [l.2.1, Obj.toutFunction l.2.2, Obj.trgPhases l.1]))

/-! ## Check 25: rings -/

/-- The objects that place a ring. -/
def ringKeys (r : Nat) : List Nat := [Obj.ringSize r, Obj.ringScope r, Obj.ringGrain r, Obj.ringMode r]

/-- The image rings that a commit leaves in their places: one whose lines it makes longer must still hold 256 of them (R401). A retirement
alone never fails it (R398). -/
def State.check25Kept (s : State) (c : Proposal) : Option (List Nat) :=
  let was := fun (v : Nat) => geometryBy (fun k => (s.valIn s.dict.committed k).toNat) (fun k => (s.valIn s.dict.committed k).toBytes) v
  firstFail (List.range 4) (fun v =>
    let x := s.ring v
    let q := match x.next with | some p => p.2 | none => x.plan
    let g := s.pgeometry c v
    unless_ (!q.enabled || decide (imageStride g.width ≤ imageStride (was v).width) || decide (256 ≤ q.cap / imageStride g.width))
      ([Obj.viewFirstPort v, Obj.viewPorts v, Obj.viewOverlaps v] ++ g.ports.map (fun p => Obj.portOutWidth p) ++ ringKeys v))

/-- The objects that check 25 involves for ring `r`: its own, those of the rings placed before it on a channel of its set, and for an
image ring those that give its lines their length (R401, R403). -/
def State.ringInvolved (s : State) (c : Proposal) (plans : List RingPlan) (r : Nat) : List Nat :=
  let q := plans.getD r RingPlan.off
  let before := (List.range r).filter (fun k =>
    let p := plans.getD k RingPlan.off
    p.enabled && p.channels.any (fun n => q.channels.contains n))
  let g := s.pgeometry c r
  (before ++ [r]).flatMap ringKeys ++
  (if r < 4 then [Obj.viewFirstPort r, Obj.viewPorts r, Obj.viewOverlaps r] ++ g.ports.map (fun p => Obj.portOutWidth p) else [])

/-- R401. A commit that changes no ring re-places none (R398). -/
def State.check25 (s : State) (c : Proposal) (boot : Bool) : Option (List Nat) :=
  if !boot ∧ !ringsChanged (fun k => (s.valIn s.dict.committed k).toNat) (s.pnum c) then s.check25Kept c
  else
    let plans := s.placeRings (s.pnum c)
    firstFail (List.range 24) (fun r =>
      let q := plans.getD r RingPlan.off
      unless_ (!q.enabled || ringPlanOk q r (s.pgeometry c (r % 4)).width) (s.ringInvolved c plans r))

/-! ## Check 26: event routing -/

/-- The local channel of a die. -/
def localChannel (east : Bool) (n : Nat) : Nat := (if east then 128 else 0) + n

/-- The local channels that chain a source on a die. -/
def State.chainers (s : State) (c : Proposal) (east : Bool) (source : Nat) : List Nat :=
  (List.range 128).filter (fun n => s.pnum c (Obj.echSource (localChannel east n)) = source)

/-- The local channels on the path of chains that leads to channel `n`, up to `n` itself: none where the path does not return to it. A
chaining channel has one source, so the path is one, and a cycle returns within 128 hops. -/
def State.cycleOf (s : State) (c : Proposal) (east : Bool) (n : Nat) : List Nat :=
  let back := fun (m : Nat) =>
    let src := s.pnum c (Obj.echSource (localChannel east m))
    if 0x100 ≤ src ∧ src < 0x180 then some (src - 0x100) else none
  let rec walk : Nat → Nat → List Nat → List Nat
    | 0, _, _ => []
    | k + 1, m, l => match back m with | none => [] | some x => if x = n then x :: l else walk k x (x :: l)
  walk 128 n []

def State.ptasks (s : State) (c : Proposal) (n : Nat) : List Nat := taskList (s.pbytes c (Obj.echTasks n))

/-- The local channels that chain channel `n` (R450): those of its die, for a bridge those of the far die, for a system channel those of
this module that take what comes from it (DESIGN CHOICE, log entry 67). -/
def State.chainersOf (s : State) (c : Proposal) (n : Nat) : List Nat :=
  let east := channelEast n
  if n < 256 then (s.chainers c east (0x100 + n % 128)).map (localChannel east)
  else if n < 288 then (s.chainers c (!east) (0x180 + n % 16)).map (localChannel (!east))
  else (s.chainers c false (0x190 + (n - 288))).map (localChannel false)

/-- What is wrong with one channel (R450), by the objects involved: the SOURCE of each channel of a cycle, TASKS with a SECURE task,
TASKS and the SOURCE of each chaining channel of a fork that is too large. -/
def State.routingFault (s : State) (c : Proposal) (n : Nat) : List Nat :=
  let tasks := s.ptasks c n
  let chained := s.chainersOf c n
  (if n < 256 then (s.cycleOf c (channelEast n) (n % 128)).map (fun m => Obj.echSource (localChannel (channelEast n) m)) else []) ++
  (if channelSecure n || tasks.all (fun t => !decide (0xF0 ≤ t)) then [] else [Obj.echTasks n]) ++
  (if tasks.length + chained.length ≤ (if n < 256 then 8 else 1) then []
   else (if tasks = [] then [] else [Obj.echTasks n]) ++ chained.map (fun m => Obj.echSource m))

/-- R450. -/
def State.check26 (s : State) (c : Proposal) : Option (List Nat) :=
  let l := ((List.range 296).filter s.ctl.part.channelFitted).flatMap (s.routingFault c)
  if l = [] then none else some l

/-! ## Checks 27 and 28: network, system -/

/-- R461. -/
def State.check27 (s : State) (c : Proposal) : Option (List Nat) :=
  let on := fun (p : Nat) => decide (s.pnum c (Obj.ethEnable p) ≠ 0)
  let ip := fun (p : Nat) => s.pnum c (Obj.ethIpv4Addr p)
  let mask := fun (p : Nat) => s.pnum c (Obj.ethNetmask p)
  let gw := fun (p : Nat) => s.pnum c (Obj.ethGateway p)
  let ydp := s.pnum c Obj.ydpYdpPort
  let portOk := fun (x : Nat) => decide (x ≠ ydp) && decide (x ≠ 319) && decide (x ≠ 320)
  let both := Nat.land (mask 0) (mask 1)
  let streams := (List.range 8).filter (fun k => s.pnum c (Obj.strEnable k) ≠ 0 && bitOf (s.pnum c (Obj.strDest k)) 1)
  let clock := s.pnum c Obj.ptpClockType
  ((((((firstFail ((List.range 2).filter on) (fun p =>
      (unless_ (addressOk (ip p) (mask p)) [Obj.ethIpv4Addr p, Obj.ethNetmask p]).or
        ((unless_ (maskOk (mask p)) [Obj.ethNetmask p]).or
          (unless_ (decide (gw p = 0) || inSubnet (gw p) (ip p) (mask p)) [Obj.ethIpv4Addr p, Obj.ethNetmask p, Obj.ethGateway p])))).or
    (unless_ (!(on 0 && on 1) || decide (Nat.land (ip 0) both ≠ Nat.land (ip 1) both))
      [Obj.ethIpv4Addr 0, Obj.ethNetmask 0, Obj.ethIpv4Addr 1, Obj.ethNetmask 1])).or
    (firstFail ((List.range 2).filter on) (fun p => unless_ (portOk (s.pnum c (Obj.ethHspSrcPort p)))
      [Obj.ethHspSrcPort p, Obj.ydpYdpPort]))).or
    (firstFail streams (fun k => unless_ (portOk (s.pnum c (Obj.hspSDestPort k)) && decide (s.pnum c (Obj.hspSDestIp k) ≠ 0))
      [Obj.hspSDestIp k, Obj.hspSDestPort k, Obj.ydpYdpPort]))).or
    (firstFail (List.range 32) (fun k => unless_ (portOk (s.pnum c (Obj.hspDDestPort k)))
      [Obj.hspDDestPort k, Obj.ydpYdpPort])))).or
    (unless_ (if clock = 2 then on 0 && on 1 else clock = 0 || on (s.pnum c Obj.ptpPtpPort))
      [Obj.ptpClockType, Obj.ptpPtpPort, Obj.ethEnable 0, Obj.ethEnable 1])

/-- R34, R100: a view that continues goes to the next module and comes from the one before, over a link that is there. -/
def State.check28 (s : State) (c : Proposal) : Option (List Nat) :=
  firstFail (s.pviews c) (fun q =>
    let dst := s.pnum c (Obj.viewContinuesTo q.1)
    let frm := s.pnum c (Obj.viewContinuesFrom q.1)
    let linked := fun (k : Nat) => s.ctl.part.hasSyslink && !s.partnerLost k
    (unless_ (decide (frm = 0xFF) || (decide (frm + 1 = s.pins.id) && linked frm)) [Obj.viewContinuesFrom q.1]).or
    (unless_ (decide (dst = 0xFF) || (decide (dst = s.pins.id + 1) && decide (dst < 4) && linked dst)) [Obj.viewContinuesTo q.1]))

/-! ## The checks in order -/

/-- One check by its number (R100). -/
def State.checkNo (s : State) (c : Proposal) (boot : Bool) (n : Nat) : Option (List Nat) :=
  match n with
  | 1 => s.check1 c | 2 => s.check2 c | 3 => s.check3 c | 4 => s.check4 c | 5 => s.check5 c | 6 => s.check6 c
  | 7 => s.check7 c | 8 => s.check8 c | 9 => s.check9 c | 10 => s.check10 c | 11 => s.check11 c | 12 => s.check12 c
  | 13 => s.check13 c | 14 => s.check14 c | 15 => s.check15 c | 16 => s.check16 c | 17 => s.check17 c | 18 => s.check18 c
  | 19 => s.check19 c | 20 => s.check20 c | 21 => s.check21 c | 22 => s.check22 c | 23 => s.check23 c | 24 => s.check24 c
  | 25 => s.check25 c boot | 26 => s.check26 c | 27 => s.check27 c | 28 => s.check28 c | 29 => s.check29 c
  | _ => none

/-- The failing object (R97): the lowest staged object that the check involves, or the lowest it involves. -/
def failingObject (staged involved : List Nat) : Nat :=
  let hit := involved.filter (fun k => staged.contains k)
  let l := if hit = [] then involved else hit
  l.foldl Nat.min (l.headD 0)

/-- The checks run in number order; the first that fails, with its failing object (R96, R97). The boot check leaves out those
of the commit request, 1 to 4 (R86). -/
def State.runChecks (s : State) (c : Proposal) (boot : Bool) : Option (Nat × Nat) :=
  (rangeFrom (if boot then 5 else 1) (if boot then 25 else 29)).findSome? (fun n =>
    (s.checkNo c boot n).map (fun l => (n, failingObject c.staged l)))

end Sys2Proof.Machine
end

