-- ==== Sys2Proof/Machine/Boot.lean ====
section
/-! DEFINITION. The boot (R540 to R548): its steps, what each loads and checks, and what starts a boot: the end of a HALT (R87,
R477, R497), RESET_N (R518, R519), a wake from STANDBY (R61, R487), the package watchdog (R9). -/

namespace Sys2Proof.Machine

/-! ## BOOT_STATUS -/

def State.modBoot (s : State) (f : Boot → Boot) : State := { s with ctl := { s.ctl with boot := f s.ctl.boot } }

/-- The step code of BOOT_STATUS [31:24] (R541). -/
def State.bootCode (s : State) (c : Nat) : State :=
  { s with ctl := { s.ctl with bootStatus := c * 2 ^ 24 + s.ctl.bootStatus % 2 ^ 24 } }

/-- A flag of BOOT_STATUS [23:0] (R544). -/
def State.bootFlag (s : State) (on : Bool) (bit : Nat) : State :=
  if on then { s with ctl := { s.ctl with bootStatus := setBit s.ctl.bootStatus bit } } else s

/-! ## The steps -/

/-- The start of step 0x01 (R468, R541, R544): module time 0, the flags cleared. -/
def State.bootBegin (s : State) : State :=
  let s1 := { s with timeOffset := -(s.clk : Int) }
  let s2 := s1.modPower (fun p => { p with evtAt := s.clk, lastRequest := s.clk, lastTrigger := s.clk })
  let s3 := { s2 with ctl := { s2.ctl with bootStatus := 2 ^ 24 } }
  (((s3.bootFlag s.ctl.boot.afterHalt 10).bootFlag s.ctl.boot.fallback 3).modBoot (fun b => { b with
    started := true, startedAt := s.clk })).putNum Obj.pwLastWake s.power.standbyCause

/-- The end of step 0x02: CTL runs; after a wake transfer WAKE_DONE is raised (R61). -/
def State.bootRom (s : State) : State :=
  if s.ctl.boot.wake then (s.modBoot (fun b => { b with wake := false })).event Ibi.wakeDone else s

/-- Whether an image passes its check (R546): what NOR returns verifies, and the slot was programmed whole (R548). -/
def State.imagePasses (s : State) (i : BootInputs) (k : Nat) : Bool :=
  let x := s.ctl.images.getD k Image.reset
  (if k = 0 then i.imageAValid else i.imageBValid) && x.valid && !x.writing

/-- Step 0x03 (R519, R546): the image named by PREFERRED, the other one with BOOTSEL or after a firmware timeout; the other one
again when the first is rejected; with neither, the boot stays here with code 0xF1. -/
def State.bootImage (s : State) (i : BootInputs) : State :=
  let named := (s.valIn s.dict.mram Obj.fwPreferred).toNat % 2
  let first := if s.ctl.boot.fallback then 1 - s.ctl.boot.slot else if s.pins.bootsel then 1 - named else named
  let s1 := s.bootFlag s.pins.bootsel 2
  let run := fun (s : State) (k : Nat) =>
    ((s.modBoot (fun b => { b with slot := k })).putNum Obj.idFwVersion (s.ctl.images.getD k Image.reset).version).putNum
      Obj.idFwSlot k
  if s.imagePasses i first then run s1 first
  else
    let s2 := (s1.bootFlag true first).bootFlag true 3
    if s.imagePasses i (1 - first) then run s2 (1 - first)
    else ((s2.bootFlag true (1 - first)).bootCode 0xF1).modBoot (fun b => { b with failed := true })

/-- Step 0x05: the stacks are trained and every word written (R399, R541). -/
def State.bootHbm (s : State) : State :=
  s.modHbm (fun h => { h with
    pchs := h.pchs.map (fun _ =>
      { Pch.reset with debtClk := s.clk, busyUntil := s.clk, lastUse := s.clk, srEntered := s.clk, scrubFrom := s.clk }),
    queue := [], failed := [],
    dieStacks := (List.range h.dieStacks.length).map (fun k =>
      { Stack.reset with state := if k < s.ctl.part.stacks then 1 else 0 }) })

/-- A region with all four tiles retired is retired, and one whose resets retired it has its port retired (R13, R503). -/
def derivedRetirements (regions : Nat) (l : List (Nat × Nat)) : List (Nat × Nat) :=
  let gone := (List.range regions).filter (fun r =>
    l.contains (Unit.region, r) || (List.range 4).all (fun k => l.contains (Unit.tile, 4 * r + k)))
  (gone.filter (fun r => !l.contains (Unit.region, r))).map (fun r => (Unit.region, r)) ++
  ((List.range regions).filter (fun r => l.contains (Unit.region, r))).map (fun r => (Unit.port, r))

/-- The retirement map emptied when CLEAR_RETIREMENTS was written, then applied (R504). A brick whose spare took over is no
retired unit. -/
def State.bootMap (s : State) : State :=
  let map := if s.ctl.faults.mapClear then [] else s.ctl.faults.map
  let s1 := ({ s with ctl := { s.ctl with faults := { s.ctl.faults with map := map, mapClear := false } } }).bootTiles
  let out := map.filter (fun p => decide (p.1 ≠ Unit.brick) || !bitOf (s1.tile (p.2 / 8)).map (p.2 % 8))
  let all := out ++ derivedRetirements s.ctl.part.regions out
  { s1 with
    ctl := { s1.ctl with faults := { s1.ctl.faults with retired := all } },
    regions := (List.zip (List.range 12) s1.regions).map (fun (q : Nat × Region) =>
      if all.contains (Unit.region, q.1) then { q.2 with state := 2 } else q.2),
    ports := (List.zip (List.range 12) s1.ports).map (fun (q : Nat × Port) =>
      if all.contains (Unit.port, q.1) then { q.2 with state := 8 } else q.2),
    hbm := { s1.hbm with pchs := (List.zip (List.range 64) s1.hbm.pchs).map (fun (q : Nat × Pch) =>
      if all.contains (Unit.pch, q.1) then { q.2 with state := 3 } else q.2) } }.bootFlag (map ≠ []) 6

/-- A fitted stack has no channel left, or no room for its static content (R397, R400). -/
def State.stackGone (s : State) : Bool := (List.range s.ctl.part.stacks).any s.stackLost

/-- The persistent objects loaded (R47, R478): in force, committed, and the parameter set of epoch 0x0000. -/
def State.bootObjects (s : State) : State :=
  let d := s.dict.recovered
  let t : State := { s with dict :=
    { d with
      inForce := d.mram.foldl (fun kv p => Kv.put kv p.1 p.2) d.inForce,
      committed := d.mram, staged := [],
      sets := [{ epoch := 0, params := d.mram, views := [], switched := [], landed := true }] } }
  t.bootFlag s.dict.mramTorn.isSome 11

/-- Step 0x06: MRAM (R47, R108, R478, R504, R508, R541). -/
def State.bootMram (s : State) : State :=
  let s1 := s.bootMap.bootObjects
  let j := s1.scanJournal
  let l := j.1.scanLog
  (((l.1.bootFlag (j.2 ≠ 0) 4).bootFlag (l.2 ≠ 0) 5).bootEntry j.2).payOwed

/-- A unit that fails its self-test retired with CAUSE 0 (R294, R503, R543), a region with its port (R13): lanes, bricks, regions and event channels are tested. -/
def State.selfTestRetire (s : State) (u i : Nat) : State :=
  if (u = Unit.lane ∧ i < s.ctl.part.lanes) then s.retireLane i 0
  else if u = Unit.syslink ∧ i < s.ctl.part.syslinks then s.retireLane (48 + i) 0
  else if u = Unit.brick ∧ i / 8 < s.ctl.part.tiles ∧ bitOf (s.tile (i / 8)).map (i % 8) then s.retireBrick (i / 8) (i % 8)
  else if u = Unit.region ∧ i < s.ctl.part.regions then s.retirePort i 0
  else if u = Unit.channel ∧ i < 296 ∧ s.ctl.part.channelFitted i then s.retire Unit.channel i 0 []
  else s

/-- Step 0x07: the self-tests, whose retirements are logged in the order of the UNIT codes (R505), and the lane receivers left in the state
set by HOLD (R541, R543). -/
def State.bootSelfTest (s : State) (i : BootInputs) : State :=
  let failed := (List.range 15).flatMap (fun u => i.selfTestFailed.filter (fun p => p.1 = u))
  let s1 := failed.foldl (fun acc p => acc.selfTestRetire p.1 p.2) s
  (s1.bootFlag (s1.num Obj.fltRetirements ≠ s.num Obj.fltRetirements) 7).powerLanes

/-- Step 0x08: the model slots reloaded from NOR and checked (R307). -/
def State.bootModels (s : State) : State :=
  let s1 := s.bootSlots
  s1.bootFlag (s1.slots.any (fun x => x.state = 4)) 8

/-- The configuration the boot check looks at (R86). -/
def State.bootProposal (s : State) : Proposal :=
  { vals := s.dict.committed, staged := [], request := none, after := .config, kind := 0, mask := 0, atTime := 0 }

/-- Step 0x09: the consistency checks over the loaded configuration (R86). -/
def State.bootCheck (s : State) : State :=
  let c := s.runChecks s.bootProposal true
  (s.modBoot (fun b => { b with check := c })).bootFlag c.isSome 9

/-- Step 0x0A (R86, R88, R495, R507, R510, R527, R528, R533, R542): the mode, and what starts with the end of BOOT. -/
def State.bootDone (s : State) (i : BootInputs) : State :=
  let s1 := { s with
    views := s.views.map (fun _ => { View.reset with banks := bootBanks, tokenClk := s.clk }),
    regions := s.regions.map (fun (g : Region) => { g with lastLine := s.clk }),
    pgos := s.pgos.map (fun _ => { Pgo.reset with lastClk := s.clk }),
    ctl := { s.ctl with
      heartbeat := { Heartbeat.reset with restart := s.clk },
      errlog := { s.ctl.errlog with tokens := 640000000, tokenClock := s.clk } },
    pins := { s.pins with silentKeys := i.keysHeld % 256, keys := i.keysHeld % 256 } }
  let s2 := s1.bootRings
  let s3 := match s.ctl.boot.check with
    | none => s2.setMode .config 2
    | some (n, fail) =>
      (s2.modStaging (fun g => { g with pipelinesStopped := true })).moduleCommit .recovery 3 (Code.checkFailed + n) n fail
  let s4 := (List.range 4).foldl State.encEnabled s3
  let s5 := ((s4.busesEnabled).camStagger 0 s.clk).toutReview
  let s6 := s5.modPower (fun p => { p with lastRequest := s.clk, lastTrigger := s.clk, standbyCause := 0 })
  let s7 := if s.ctl.boot.afterHalt then s6.alert Alert.halted else s6
  (if s7.power.band = 4 then s7.tilesOff else s7).reviewGuarantee.lampReview

/-- One step of the boot, and the code of the step that follows (R541, R543). A PLL or stack that does not come up is die loss. -/
def State.bootStep (s : State) (i : BootInputs) (k : Nat) : State :=
  if s.ctl.mode ≠ .boot ∨ s.ctl.boot.failed then s
  else if i.lossStep = k ∧ (k = 2 ∨ k = 4 ∨ k = 5) then s.dieLoss
  else
    let s1 :=
      if k = 2 then s.bootRom
      else if k = 3 then s.bootImage i
      else if k = 5 then s.bootHbm
      else if k = 6 then s.bootMram
      else if k = 7 then s.bootSelfTest i
      else if k = 8 then s.bootModels
      else if k = 9 then s.bootCheck
      else if k = 10 then s.bootDone i
      else s
    if s1.ctl.boot.failed then s1
    else
      let s2 := s1.modBoot (fun b => { b with step := k })
      let s3 := if k < 10 then s2.bootCode (k + 1) else s2
      if k = 6 ∧ s3.stackGone then s3.stacksFailed.dieLoss else s3

/-- BOOT_START: the boot begins, or goes on after the step it had reached, up to the step the command names (R541). The input
must have qualified, and RESET_N be high. -/
def State.bootStart (s : State) (i : BootInputs) : State :=
  let ready : Bool := match s.power.qualifiedAt with | some t => decide (t ≤ s.clk) | none => false
  if s.ctl.mode ≠ .boot ∨ !s.power.powered ∨ !s.pins.resetN ∨ s.ctl.boot.failed ∨ !ready then s
  else
    let s1 := if s.ctl.boot.started then s else s.bootBegin
    let from_ := s1.ctl.boot.step + 1
    (rangeFrom from_ (min 10 i.last + 1 - from_)).foldl (fun acc k => acc.bootStep i k) s1

/-- FIRMWARE_TIMEOUT: the boot restarted once with the other image (R546). -/
def State.firmwareTimeout (s : State) : State :=
  let b := s.ctl.boot
  if s.ctl.mode = .boot ∧ b.started ∧ b.step = 3 ∧ !b.fallback then
    s.modBoot (fun x => { x with started := false, step := 0, fallback := true })
  else s

/-! ## What starts a boot -/

/-- The journal entries that the way into BOOT makes: the release of the staging area, RESET_N's for the I3C session and that of a closed
session otherwise (R92), and the mode change (R83). They follow the BOOT entry, since the journal runs only from there (log entry 59).
DESIGN CHOICE (log entry 63): the I3C session's area is released with RESET_N's cause 4 on every way into BOOT, the package watchdog's
reset among them. -/
def State.bootOwes (s : State) (cause : Nat) : List (Nat × Bytes) :=
  s.ctl.boot.owed ++
  (match s.ctl.staging.holder with
    | none => []
    | some .i3c => [((5 : Nat), ([2, 4] : Bytes))]
    | some (.ydp _) => [((5 : Nat), ([2, 1] : Bytes))]) ++
  (if s.ctl.mode = .boot then []
   else [(8, [BitVec.ofNat 8 s.ctl.mode.code, BitVec.ofNat 8 Mode.boot.code, BitVec.ofNat 8 cause])])

/-- A boot made ready: mode BOOT, everything unpowered lost, HALT_N high (R81, R521, R541). -/
def State.readyBoot (s : State) (cause : Nat) (wake : Bool) : State :=
  let halted := decide (s.ctl.mode = .halt)
  let s1 := ((s.enterMode .boot cause).unpower).modPower (fun p => { p with
    qualifiedAt := some (match p.qualifiedAt with | some t => t | none => s.clk), tripHold := false, coolRounds := 0,
    resetDuringHalt := false })
  let s2 := { s1 with ctl := { s1.ctl with boot := { Boot.reset with
    afterHalt := halted || s.ctl.boot.afterHalt && decide (s.ctl.mode = .boot) && !s.ctl.boot.started, wake := wake,
    owed := s.bootOwes cause } } }
  if halted then s2.emit (.haltN true) else s2

/-- Whether the conditions of leaving the present HALT are met (R87, R477, R497, R518). -/
def State.haltOver (s : State) : Bool :=
  let cause := (s.valIn s.dict.mram Obj.modeHaltCause).toNat
  s.pins.resetN && !s.power.tripHold &&
  (if cause = 5 then s.power.qualifiedAt.isSome else if cause = 6 then s.power.resetDuringHalt else true)

/-- HALT left when its conditions are met. DESIGN CHOICE (log entry 63): 0x1100:05 lists no cause for it; the MODE entry and LAST_CAUSE
read 2, the supply's, or 7 after a RESET_N during HALT (R83). -/
def State.leaveHalt (s : State) : State :=
  if s.ctl.mode = .halt ∧ s.haltOver then s.readyBoot (if s.power.resetDuringHalt then 7 else 2) false else s

/-- SUPPLY_RETURN: the input has been at or above 35.0 V for 100 ms (R477). -/
def State.supplyReturn (s : State) : State :=
  if s.ctl.mode = .halt then (s.modPower (fun p => { p with qualifiedAt := some s.clk })).leaveHalt else s

/-- THERMAL_RESTART: 10 rounds below 100 °C (R497). -/
def State.thermalRestart (s : State) : State :=
  if s.ctl.mode = .halt ∧ s.power.tripHold ∧ 10 ≤ s.power.coolRounds then
    (s.modPower (fun p => { p with tripHold := false })).leaveHalt
  else s

/-- POWER_UP (R474, R519, R540): the input rises; the straps are sampled; the input qualifies after 100 ms at or above 35.0 V. A
module that runs has its input power already. Input power that comes back during HALT is a power cycle (R87): the boot follows that HALT, and the moon island's own
measurements start anew. -/
def State.powerUp (s : State) (vinMv id : Nat) (bootsel : Bool) : State :=
  if s.ctl.mode = .halt ∨ (s.ctl.mode = .boot ∧ !s.ctl.boot.started) ∨ !s.power.powered then
    let s0 := s.readyBoot 2 false
    let s1 := if s.power.powered ∨ s.ctl.mode = .halt then s0 else s0.emit (.haltN true)
    { s1 with
      pins := { s1.pins with id := id % 4, bootsel := bootsel },
      power := { s1.power with
        powered := true, standbyCause := 0, round := 0, readings := PowerSys.reset.readings,
        invalidRuns := PowerSys.reset.invalidRuns, bandW := 1, bandE := 1, bandBoard := 1, band := 1, dies := PowerSys.reset.dies, qualifiedAt := if 35000 ≤ vinMv then some (s.clk + 100000000) else none } }
  else s

/-- RESET_N asserted (R518): SAFE and then silence on the buses, outputs low, a boot abandoned. In HALT it is recorded. -/
def State.resetAssert (s : State) : State :=
  if !s.pins.resetN ∨ !s.power.powered then s
  else if s.ctl.mode = .halt then
    ({ s with pins := { s.pins with resetN := false } }).modPower (fun p => { p with resetDuringHalt := true })
  else
    let s1 := s.sendSafe.readyBoot 7 false
    { s1 with pins := { s1.pins with resetN := false }, power := { s1.power with standbyCause := 0 } }

/-- RESET_N rises (R518, R519): the straps sampled; a boot starts, or a HALT waits for its conditions. -/
def State.resetRise (s : State) (id : Nat) (bootsel : Bool) : State :=
  if s.pins.resetN ∨ !s.power.powered then s
  else ({ s with pins := { s.pins with resetN := true, id := id % 4, bootsel := bootsel } }).leaveHalt

/-- The package watchdog: the package is reset, with a full boot (R9). -/
def State.watchdog (s : State) : State :=
  if s.ctl.mode = .halt ∨ !s.power.powered then s else s.readyBoot 7 false

/-- A wake from STANDBY (R487): a full boot, whose LAST_WAKE reports the cause. -/
def State.wakeStandby (s : State) (cause : WakeCause) (wake : Bool) : State :=
  ((s.modPower (fun p => { p with standbyCause := wakeCode cause })).readyBoot 8 wake).modPower (fun p => { p with wokeAt := some s.clk })

/-- STANDBY_WAKE: a key press or an encoder change that STANDBY_WAKE lets wake (R487); of two in one moon cycle the boot reports the lower
code (R527). -/
def State.standbyWake (s : State) (cause : WakeCause) : State :=
  let m := (s.valIn s.dict.mram Obj.pwStandbyWake).toNat
  let on : Bool := match cause with
    | .key => bitOf m 1
    | .encoder => bitOf m 2 && decide (s.power.encodersAtStandby ≠ 0)
    | _ => false
  if !s.pins.resetN ∨ !on then s
  else if s.ctl.mode = .standby then s.wakeStandby cause false
  else if s.ctl.mode = .boot ∧ !s.ctl.boot.started ∧ s.power.wokeAt.any (fun t => sameMoonCycle t s.clk) ∧
      wakeCode cause < s.power.standbyCause then
    s.modPower (fun p => { p with standbyCause := wakeCode cause })
  else s

/-- COUNT_EDGE: in STANDBY the level-change detector of a channel that was enabled at the entry is a wake input, and the edge is not
counted (R487). -/
def State.edgeSeen (s : State) (c samples : Nat) (a b : Bool) : State :=
  if s.ctl.mode = .standby then
    let x := s.encoder c
    let s1 := s.modEncoder c (fun y => { y with a := a, b := b })
    if (x.a ≠ a ∨ x.b ≠ b) ∧ bitOf s.power.encodersAtStandby c then s1.standbyWake .encoder else s1
  else s.countEdge c samples a b

/-- KEY_PRESS: in STANDBY an accepted press only wakes the module (R525). -/
def State.keySeen (s : State) (k : Nat) : State := if s.ctl.mode = .standby then s.standbyWake .key else s.keyPress k

/-- A one-byte private write (R61, R486, R520, R545): 0x57 in STANDBY wakes; in HALT, and before CTL runs, it is NACKed;
elsewhere it is counted. In DEEP an I3C transfer is a wake source. -/
def State.wakeTransfer (s : State) (b : Byte) : State :=
  if !s.pins.resetN ∨ !s.power.powered then s.emit .i3cNack
  else
    match s.ctl.mode with
    | .standby => if b = 0x57 then s.wakeStandby .i3c true else s.emit .i3cNack
    | .halt => s.emit .i3cNack
    | .boot =>
      let s1 := s.bump Obj.cntStrayWakes
      if s.ctl.boot.step < 2 then s1.emit .i3cNack else s1
    | _ => if s.power.state = .deep then (s.wake .i3c).emit .i3cNack else (s.wake .i3c).bump Obj.cntStrayWakes

end Sys2Proof.Machine
end

