-- ==== Sys2Proof/Machine/Reads.lean ====
section
/-! DEFINITION. What a read of an object returns (R38, R47, R552): the value in force, or for status objects the present state
of the unit they report. -/

namespace Sys2Proof.Machine

/-- A BOOL as a value. -/
def boolVal (b : Bool) : Val := .num (if b then 1 else 0)

/-- The path and number of the holder of the staging area (0x1110:02, :05). -/
def State.holderPath (s : State) : Nat :=
  match s.ctl.staging.holder with | none => 0 | some .i3c => 1 | some (.ydp _) => 2
def State.holderSession (s : State) : Nat :=
  match s.ctl.staging.holder with | some (.ydp n) => n | _ => 0

/-- IMAGE_STATE (R547). -/
def State.imageState (s : State) : Nat :=
  let x := fun (k : Nat) => s.ctl.images.getD k Image.reset
  (if (x 0).valid then 1 else 0) + (if (x 1).valid then 2 else 0) + (if (x 0).writing then 4 else 0) +
  (if (x 1).writing then 8 else 0)

/-- The retired instances of a unit kind below `n`, one bit each. -/
def State.retiredBits (s : State) (unit n : Nat) : Nat :=
  ((List.range n).filter (fun i => s.retired unit i)).foldl setBit 0

/-- LOG_RECORDS from a cursor on: up to 4,096 records, oldest first (R451). -/
def Fabric.recordsFrom (f : Fabric) (cursor : Nat) : Bytes :=
  let old := f.log.reverse
  let l := if cursor = 0 then old else old.filter (fun e => e.1 = cursor ∨ later e.1 cursor)
  (l.take 4096).flatMap (fun e => e.2)

/-- YDP sessions that are open (0x1030:03). -/
def State.ydpSessions (s : State) : List Session := s.ctl.sessions.filter (fun x => x.id ≠ .i3c)

/-- The level code of a session (0x1020:01). -/
def Level.code : Level → Nat
  | .operator => 0 | .integrator => 1 | .service => 2

/-- Status of the control cluster: identity, access, modes, staging, journal, power, faults (0x1000 to 0x13FF). -/
def State.statusControl (s : State) (x : Session) (key : Nat) : Option Val :=
  let j := s.ctl.journal
  if key = Obj.accLevel then some (.num x.level.code)
  else if key = Obj.ydpSessionsOpen then some (.num s.ydpSessions.length)
  else if key = Obj.modeMode then some (.num s.ctl.mode.code)
  else if key = Obj.modeBootStatus then some (.num s.ctl.bootStatus)
  else if key = Obj.modePreviousMode then some (.num s.ctl.previousMode.code)
  else if key = Obj.modeLastCause then some (.num s.ctl.lastCause)
  else if key = Obj.modeModeTime then some (.num s.ctl.modeTime)
  else if key = Obj.hbHostLost then some (boolVal s.ctl.heartbeat.lost)
  else if key = Obj.stgHolderPath then some (.num s.holderPath)
  else if key = Obj.stgStagedCount then some (.num s.dict.staged.length)
  else if key = Obj.stgHolderSession then some (.num s.holderSession)
  else if key = Obj.epLastEpoch then some (.num s.ctl.staging.lastEpoch)
  else if key = Obj.epInFlight then some (.num s.inFlightCount)
  else if key = Obj.jrHead then some (.num j.head)
  else if key = Obj.jrOldest then some (.num j.oldest)
  else if key = Obj.jrCursor then some (.num x.journalCursor)
  else if key = Obj.jrEntries then some (.bytes (j.entriesFrom x.journalCursor))
  else if key = Obj.jrMirrorHead then some (.num j.mirrored)
  else if key = Obj.jrMirrorLag then some (.num j.unmirrored.length)
  else if key = Obj.fwImageState then some (.num s.imageState)
  else if key = Obj.fwImageVersionA then some (.num (s.ctl.images.getD 0 Image.reset).version)
  else if key = Obj.fwImageVersionB then some (.num (s.ctl.images.getD 1 Image.reset).version)
  else if key = Obj.pwPowerState then some (.num s.powerState)
  else if key = Obj.fltHealth then some (.num s.health)
  else if key = Obj.fltRetiredRegions then some (.num s.retiredRegions)
  else if key = Obj.fltDmaRetired then some (.num (s.retiredBits Unit.dma 32))
  else if key = Obj.fltEventRetired then some (.bytes (leBytes 37 (s.retiredBits Unit.channel 296)))
  else if key = Obj.logLogOldest then some (.num s.ctl.errlog.oldest)
  else if key = Obj.logLogCursor then some (.num x.logCursor)
  else if key = Obj.logLogEntries then some (.bytes (s.ctl.errlog.entriesFrom x.logCursor))
  else if 0x1340 ≤ key / 256 ∧ key / 256 < 0x134C ∧ key % 256 = 1 then
    let r := key / 256 - 0x1340
    some (.num (if (s.region r).state = 2 then 2 else if s.inReset r then 1 else 0))
  else none

/-- Status of lanes, system links and ports (0x2000 to 0x33FF). -/
def State.statusLinks (s : State) (key : Nat) : Option Val :=
  let i := key / 256
  let sub := key % 256
  if 0x2000 ≤ i ∧ i < 0x2340 then
    let n := (i - 0x2000) / 16
    if (i - 0x2000) % 16 = 0 ∧ sub = 1 then some (.num (s.lane n).state) else none
  else if 0x3000 ≤ i ∧ i < 0x3300 then
    let p := (i - 0x3000) / 0x40
    if key = Obj.portLinkState p then some (.num (s.port p).state)
    else if key = Obj.portLanesInUse p then
      some (.num (((s.port p).lanesInUse.map (fun n => n % 4)).foldl setBit 0))
    else if key = Obj.portLiveSlots p then
      let phases := match s.viewOfPort p with | some v => s.num (Obj.trgPhases v) | none => 1
      some (.num ((liveSlots (s.num (Obj.portPhaseMap p)) phases (s.num (Obj.portBands p))).foldl setBit 0))
    else if key = Obj.portBankState p then some (.num (s.region p).bankState)
    else if key = Obj.portDarkCrc p then some (.num (crc32c (s.paramBytes (s.region p).epoch (Obj.portDark p))))
    else if key = Obj.portGainCrc p then some (.num (crc32c (s.paramBytes (s.region p).epoch (Obj.portGain p))))
    else if key = Obj.portAtShift p then some (.num (s.atShiftObj p))
    else none
  else none

/-- Status of encoders, views and streams (0x3400 to 0x48FF). -/
def State.statusViews (s : State) (key : Nat) : Option Val :=
  let i := key / 256
  if 0x3480 ≤ i ∧ i < 0x34C0 then
    let c := (i - 0x3480) / 16
    if key = Obj.encPosition c then some (.num (s.encoder c).position)
    else if key = Obj.encPosValid c then some (boolVal (s.encoder c).valid)
    else if key = Obj.encSpeed c then some (.num (s.encSpeed c))
    else if key = Obj.encState c then some (.num (if s.retired Unit.encoder c then 5 else (s.encoder c).state))
    else none
  else if 0x4000 ≤ i ∧ i < 0x4400 then
    let v := (i - 0x4000) / 0x100
    let w := s.view v
    let e := (s.trigger v).epoch
    if key = Obj.viewViewState v then some (.num (s.viewState v))
    else if key = Obj.viewStitchedWidth v then some (.num (geometryBy s.num s.octets v).width)
    else if key = Obj.viewStitchShift v then some (.num (s.stitchShiftOf (s.trigger v).frameEpoch e v))
    else if key = Obj.viewSeamState v then some (.bytes w.seamState)
    else if key = Obj.viewBankState v then some (.num w.bankStates)
    else if key = Obj.viewActiveVersion v then
      some (.num (((w.banks.find? (fun b => b.state = BankState.active)).map (fun b => b.version)).getD 0))
    else if key = Obj.viewBank0Version v then some (.num (w.bank 0).version)
    else if key = Obj.viewBank1Version v then some (.num (w.bank 1).version)
    else if key = Obj.viewBank0Crc v then some (.num (w.bank 0).crc)
    else if key = Obj.viewBank1Crc v then some (.num (w.bank 1).crc)
    else if key = Obj.viewTableRead v then
      some (.bytes (((w.banks.find? (fun b => b.state = BankState.active)).map
        (fun b => Mem.readBytes b.table 0 tableBytes)).getD (zeros tableBytes)))
    else if key = Obj.viewOpenNow v then some (.num w.blobs.length)
    else if key = Obj.viewNextId v then some (.num (v * 2 ^ 30 + w.issuedIds % 2 ^ 30))
    else none
  else if 0x4800 ≤ i ∧ i < 0x4900 then
    let k := (i - 0x4800) / 0x20
    let nout := streamWidth (s.num (Obj.strCropWidth k)) (s.num (Obj.strStep k))
    if key = Obj.strOutWidth k then some (.num nout)
    else if key = Obj.strRecordBytes k then
      some (.num (recordBytes nout (selectedBands (s.num (Obj.strBands k))).length (formatBits (s.num (Obj.strFormat k)))
        (s.flag (Obj.strMask k))))
    else none
  else none

/-- Status of the brick array, tracker, valve buses and timed outputs (0x5000 to 0x63FF). -/
def State.statusSort (s : State) (key : Nat) : Option Val :=
  let i := key / 256
  if key = Obj.brkBricksUsable then some (.num s.bricksUsable)
  else if key = Obj.brkLoad then some (.num s.brickLoad)
  else if key = Obj.brkQueueNow then some (.num s.dispatchQueue.length)
  else if key = Obj.gtrEntriesNow then some (.num s.entriesNow)
  else if 0x5100 ≤ i ∧ i < 0x5180 then
    let n := (i - 0x5100) / 16
    let x := s.slot n
    if key = Obj.slotModel n then some (.bytes x.model)
    else if key = Obj.slotState n then some (.num x.state)
    else if key = Obj.slotCrc n then some (.num (crc32c x.model))
    else if key = Obj.slotCycles n then some (.num x.cycles)
    else if key = Obj.slotCost n then some (.num x.cost)
    else if key = Obj.slotWeightBytes n then some (.num (if x.model = [] then 0 else mdlWeightBytes x.model))
    else if key = Obj.slotName n then some (.bytes (mdlName x.model))
    else if key = Obj.slotNorState n then some (.num x.norState)
    else none
  else if 0x5200 ≤ i ∧ i < 0x5230 then
    let t := i - 0x5200
    if key = Obj.tileState t then some (.num (s.tileState t))
    else if key = Obj.tileBrickMap t then some (.num (s.tile t).map)
    else if key = Obj.tileSpareUsed t then some (boolVal (s.tile t).spareUsed)
    else none
  else if 0x6000 ≤ i ∧ i < 0x6100 then
    let v := (i - 0x6000) / 0x40
    if key = Obj.trkLinePeriod v then some (.num (s.linePeriod v)) else none
  else if 0x6200 ≤ i ∧ i < 0x6280 then
    let b := (i - 0x6200) / 0x20
    let x := s.bus b
    if key = Obj.vbState b then some (.num (s.busState b))
    else if key = Obj.vbTick b then some (.num x.tick)
    else if key = Obj.vbTickStart b then some (.num (if x.ticking then s.shortAt x.tickClk else 0))
    else if key = Obj.vbValveState b then some (.bytes (leBytes 64 (if s.safe then 0 else x.cur)))
    else none
  else if 0x6300 ≤ i ∧ i < 0x6380 then
    let k := (i - 0x6300) / 8
    if key = Obj.toutAssigned k then
      some (.num (s.toutAssigned k))
    else if key = Obj.toutQueued k then some (.num (s.tout k).queue.length)
    else none
  else none

/-- Status of HBM, DMA, codec and check units (0x7000 to 0x74FF). -/
def State.statusMemory (s : State) (key : Nat) : Option Val :=
  let i := key / 256
  if key = Obj.dmaInFlight then some (.num s.inFlight)
  else if key = Obj.codecLoad then some (.num s.codecLoad)
  else if 0x7010 ≤ i ∧ i < 0x7012 then
    let k := i - 0x7010
    if key = Obj.stackState k then some (.num ((s.stack k).state))
    else if key = Obj.stackTemperature k then some (.num (ofSigned 16 (s.stack k).celsius))
    else if key = Obj.stackRefreshRate k then some (boolVal (s.stack k).doubled)
    else if key = Obj.stackRetiredMap k then some (.num (s.retiredMap k))
    else if key = Obj.stackStaticFree k then some (.num (s.staticFree k))
    else none
  else if 0x7020 ≤ i ∧ i < 0x7060 then
    let n := i - 0x7020
    if key = Obj.pchState n then some (.num (if s.retired Unit.pch n then 3 else (s.pch n).state))
    else if key = Obj.pchDebt n then some (.num (ofSigned 32 (s.debt n)))
    else none
  else if 0x7080 ≤ i ∧ i < 0x7098 then
    let r := i - 0x7080
    let x := s.ring r
    if key = Obj.ringCapacity r then some (.num x.plan.cap)
    else if key = Obj.ringDepth r then some (.num (if r < 4 then x.plan.cap / (if x.stride = 0 then imageStride (s.geometry s.ctl.staging.lastEpoch r).width else x.stride)
      else 0))
    else if key = Obj.ringBase r then some (.num x.plan.base)
    else if key = Obj.ringChannels r then some (.num x.plan.channelMask)
    else if key = Obj.ringWritePtr r then some (.num x.writePtr)
    else if key = Obj.ringReadPtr r then some (.num x.readPtr)
    else none
  else if key = Obj.dtabDescriptor then some (.bytes (s.descriptor (s.num Obj.dtabSelect)))
  else if key = Obj.dtabTable then some (.bytes (Mem.readBytes s.dma.table 0 65536))
  else if key = Obj.dmaXbuf then some (.bytes (Mem.readBytes s.dma.xbuf 0 s.dma.xbufLen))
  else if 0x7200 ≤ i ∧ i < 0x7400 then
    let c := (i - 0x7200) / 16
    let x := s.dch c
    if key = Obj.dchState c then some (.num x.state)
    else if key = Obj.dchCause c then some (.num x.cause)
    else if key = Obj.dchCode c then some (.num x.code)
    else if key = Obj.dchDesc c then some (.num x.shown)
    else if key = Obj.dchTag c then some (.num x.tag)
    else if key = Obj.dchBytesDone c then some (.num x.bytesDone)
    else if key = Obj.dchResidue c then some (.num x.residue)
    else if key = Obj.dchOutBytes c then some (.num x.outBytes)
    else if key = Obj.dchCheckValue c then some (.num x.checkValue)
    else if key = Obj.dchCheckReceived c then some (.num x.checkReceived)
    else if key = Obj.dchTraversal c then some (.num x.traversal)
    else none
  else if 0x7480 ≤ i ∧ i < 0x7484 then
    let u := i - 0x7480
    if key = Obj.chkHolder u then some (.num (natAt s.dma.holders u))
    else if key = Obj.chkWaiters u then some (.num (s.dma.waiters.getD u []).length)
    else none
  else none

/-- Status of the event fabric, network, time, panel and pins (0x8000 to 0xA0FF). -/
def State.statusRest (s : State) (x : Session) (key : Nat) : Option Val :=
  let i := key / 256
  if key = Obj.evtLogHead then some (.num s.fabric.logHead)
  else if key = Obj.evtLogCursor then some (.num x.eventCursor)
  else if key = Obj.evtLogRecords then some (.bytes (s.fabric.recordsFrom x.eventCursor))
  else if 0x8020 ≤ i ∧ i < 0x8030 then
    let k := i - 0x8020
    let c := s.fabric.counters.getD k Counter.reset
    if key = Obj.ectrValue k then some (.num (c.at_ (s.num (Obj.ectrCompare k)) s.clk))
    else if key = Obj.ectrCaptured k then some (.num c.captured)
    else none
  else if 0x8100 ≤ i ∧ i < 0x8228 then
    let n := i - 0x8100
    if key = Obj.echLimit n ∧ channelSecure n then some (.num 1024) else none
  else if 0x9010 ≤ i ∧ i < 0x9030 then
    let p := (i - 0x9010) / 16
    if key = Obj.ethLink p then some (boolVal (s.eth p).up)
    else if key = Obj.ethPtpState p then some (.num (s.eth p).ptpState)
    else none
  else if key = Obj.timeShortNow then some (.num s.shortNow)
  else if key = Obj.timeFullNow then some (.num (leNat s.fullTimeBytes))
  else if key = Obj.timeTimeState then some (.num s.servo.state)
  else if key = Obj.timeFreq then some (.num (ofSigned 32 s.servo.freq))
  else if key = Obj.keyKeyState then some (.num s.pins.keys)
  else if key = Obj.tchTouchState then some (.num s.touchState)
  else if key = Obj.pinPinState then some (.num s.pinState)
  else if 0xA011 ≤ i ∧ i < 0xA015 then
    let c := i - 0xA011
    let t := s.touch c
    if key = Obj.tchcRaw c then some (.num t.raw)
    else if key = Obj.tchcBaseline c then some (.num (t.base / 256))
    else if key = Obj.tchcDelta c then some (.num (ofSigned 16 (max (-32768) (min 32767 t.diff))))
    else none
  else if 0xA030 ≤ i ∧ i < 0xA03C then
    if key = Obj.camPwrState (i - 0xA030) then some (.num (s.camPower (i - 0xA030)).state) else none
  else none

/-- The action state of an EX object (R40). -/
def State.actionState (s : State) (key : Nat) : Nat :=
  let i := key / 256
  if key = Obj.cmCommit then (if s.ctl.staging.check.isSome then 1 else s.num key)
  else if 0x7200 ≤ i ∧ i < 0x7400 ∧ key = Obj.dchStart ((i - 0x7200) / 16) then
    let x := s.dch ((i - 0x7200) / 16)
    if x.state = 0 then 0 else if x.state ≠ 5 then 1 else if x.cause = 4 then 3 else 2
  else s.num key

/-- The value a read returns in a session (R38, R552). -/
def State.shown (s : State) (x : Session) (key : Nat) : Val :=
  let i := key / 256
  let special : Option Val :=
    if i < 0x2000 then s.statusControl x key
    else if i < 0x3400 then s.statusLinks key
    else if i < 0x5000 then s.statusViews key
    else if i < 0x7000 then s.statusSort key
    else if i < 0x8000 then s.statusMemory key
    else s.statusRest x key
  special.getD (s.val key)

/-! ## Result objects -/

/-- Whether an object is the RESULT of a result object (R75), and the object its ACK names. -/
def isResult (key : Nat) : Bool :=
  let i := key / 256
  let sub := key % 256
  decide (sub = 1) && (decide (i = 0x2380) || decide (i = 0x1130) || decide (i = 0x1170) ||
  (decide (0x3000 ≤ i ∧ i < 0x3300) && [0x05, 0x0B, 0x0C].contains ((i - 0x3000) % 0x40)) ||
  (decide (0x4000 ≤ i ∧ i < 0x4400) && [0x03, 0x13, 0x14].contains ((i - 0x4000) % 0x100)) ||
  (decide (0x5100 ≤ i ∧ i < 0x5180) && decide ((i - 0x5100) % 16 = 1)))
def isAck (key : Nat) : Bool := decide (key % 256 = 2) && isResult (key - 1)

end Sys2Proof.Machine
end

