-- ==== Sys2Proof/Machine/Staging.lean ====
section
/-! DEFINITION. The staging area and the commits (R91 to R99, R554, R555): opening, releasing and seizing it, staging a value,
the commit request, its check and what a passed commit makes. -/

namespace Sys2Proof.Machine

/-! ## The staging area -/

/-- A commit parameter (R92, R93). -/
def isCommitParam (key : Nat) : Bool := decide (key / 256 = 0x1120) && decide (2 ≤ key % 256) && decide (key % 256 ≤ 8)

/-- A value of an RW object in every place that holds one: in force, in the latest committed configuration, and in the
parameter sets (R96, R109). -/
def State.spread (s : State) (key : Nat) (v : Val) : State :=
  { s with dict :=
    { s.dict with
      inForce := Kv.put s.dict.inForce key v, committed := Kv.put s.dict.committed key v,
      sets := s.dict.sets.map (fun (e : EpochSet) => { e with params := Kv.put e.params key v }) } }

/-- A staging write of the holder: the idle time of the area starts anew (R92). -/
def State.stagingWrite (s : State) : State := s.modStaging (fun g => { g with lastWrite := s.clk })

/-- The staging area released (R92, R188): staged values discarded, commit parameters at their defaults, STAGED banks EMPTY. -/
def State.releaseStaging (s : State) : State :=
  let s1 := (rangeFrom 2 7).foldl (fun acc sub => acc.spread (objKey 0x1120 sub) (acc.dfltOf (objKey 0x1120 sub))) s
  ({ s1 with dict := { s1.dict with staged := [] } }.dropBanks).modStaging (fun g => { g with holder := none })

/-- A release by the module, journalled with its cause: 1 session closed, 2 idle, 3 commit passed (R92, R103). -/
def State.moduleRelease (s : State) (cause : Nat) : State :=
  (s.journalOwn 5 [2, BitVec.ofNat 8 cause]).releaseStaging

/-- STAGING 1, 2 or 3 once it has passed the checks of R42 (R91, R103). -/
def State.stagingCommand (s : State) (src : Src) (v : Nat) : State :=
  let s1 := s.journalReq src 5 Obj.stgStaging [BitVec.ofNat 8 v, 0]
  let id := srcId src
  let free := match s.ctl.staging.holder with | some _ => s1.releaseStaging | none => s1
  let s2 :=
    if v = 2 then free
    else if v = 1 ∧ s.ctl.staging.holder = some id then s1
    else (free.modStaging (fun g => { g with holder := some id })).stagingWrite
  s2.putNum Obj.stgStaging 2

/-- STAGING_IDLE: no staging write for 0x1110:04; the time stands still during a check (R92). -/
def State.stagingIdle (s : State) : State :=
  let g := s.ctl.staging
  if g.holder.isSome ∧ g.check.isNone ∧ g.lastWrite + s.num Obj.stgStagingIdle * 1000000000 ≤ s.clk ∧ s.ctl.mode.operating ∧
      s.power.state ≠ .deep then
    s.moduleRelease 2
  else s

/-- A value staged by the holder (R41, R92). -/
def State.stageVal (s : State) (key : Nat) (v : Val) : State :=
  { s with dict := { s.dict with staged := Kv.put s.dict.staged key v } }.stagingWrite

/-! ## The commit request -/

/-- COMMIT 1 or CHECK_ONLY 2 accepted: the area is frozen over the values of this moment (R93, R96, R103). -/
def State.commitRequest (s : State) (src : Src) (command : Nat) : State :=
  let kind := s.num Obj.cmInstantKind
  let mask := s.num Obj.cmViewMask
  let s1 := s.journalReq src 6 Obj.cmCommit [BitVec.ofNat 8 command, BitVec.ofNat 8 kind, BitVec.ofNat 8 mask]
  (s1.modStaging (fun g => { g with
    check := some {
      command := command, kind := kind, mask := mask, triggers := (List.range 4).map (fun v => s.num (Obj.cmTrigger v)),
      atTime := s.num Obj.cmAtTime, staged := s.dict.staged, acceptedAt := s.clk, holderClosed := false } })).stagingWrite

/-- What the check of a commit request looks at (R96). -/
def State.proposal (s : State) (c : Check) : Proposal :=
  let request := (Kv.get? c.staged Obj.modeModeRequest).map (fun v => Mode.ofCode v.toNat)
  { vals := Kv.overlay s.dict.committed c.staged, staged := c.staged.map (fun p => p.1), request := request,
    after := request.getD s.ctl.mode, kind := c.kind, mask := c.mask, atTime := c.atTime }

/-- A value of the latest committed configuration as a number. -/
def State.cnum (s : State) (key : Nat) : Nat := (s.valIn s.dict.committed key).toNat

/-- The views a commit binds (R554). -/
def State.boundViews (s : State) (c : Proposal) : List Nat :=
  (List.range 4).filter (fun v => (viewConfiguredBy s.cnum v || viewConfiguredBy (s.pnum c) v) &&
    (decide (c.kind = 0 ∨ c.kind = 3) || bitOf c.mask v))

/-- Step 2 of R96: the first view whose bank swap is not ready (R260). -/
def State.swapFails (s : State) (c : Proposal) : Option Nat :=
  ((List.range 4).find? (fun v => !s.bankReady v (s.cnum (Obj.viewActiveBank v)) (s.pnum c (Obj.viewActiveBank v))
    (decide (s.cnum (Obj.viewFirstPort v) = s.pnum c (Obj.viewFirstPort v)) &&
      decide (s.cnum (Obj.viewPorts v) = s.pnum c (Obj.viewPorts v))))).map (fun v => Obj.viewActiveBank v)

/-- Step 4 of R96: the instant that has passed (R31, R95). -/
def State.instantPassed (s : State) (c : Proposal) (triggers : List Nat) : Option Nat :=
  if c.kind = 2 then
    ((s.boundViews c).find? (fun v => later (s.trigger v).nextIndex (natAt triggers v))).map (fun v => Obj.cmTrigger v)
  else if c.kind = 3 ∧ ftimeNs c.atTime ≤ s.fullNow then some Obj.cmAtTime
  else none

/-- The failure of a commit check: its code, the number of the consistency check, the failing object (R96, R97). -/
def State.checkFailure (s : State) (c : Check) : Option (Nat × Nat × Nat) :=
  let p := s.proposal c
  match s.runChecks p false with
  | some (n, key) => some (Code.checkFailed + n, n, key)
  | none =>
    match s.swapFails p with
    | some key => some (Code.tableNotReady, 0, key)
    | none =>
      if 4 ≤ s.inFlightCount then some (Code.epochsInFlight, 0, 0)
      else (s.instantPassed p c.triggers).map (fun key => (Code.instantPassed, 0, key))

/-! ## A passed commit -/

/-- The index a view is bound to when the check ends (R95, R154, R554, R555); a full-time commit binds at its instant. -/
def State.boundIndex (s : State) (c : Proposal) (triggers : List Nat) (v : Nat) : Option Nat :=
  let next := (s.trigger v).nextIndex
  if c.kind = 0 then some next
  else if c.kind = 1 then some (if stoppedBy s.num v then next else s.frameFrom v next)
  else if c.kind = 2 then some (natAt triggers v)
  else none

/-- The regions that join a view (R262). -/
def State.joiners (s : State) (c : Proposal) (v : Nat) : List Nat :=
  (portsOfViewBy (s.pnum c) v).filter (fun p => !(portsOfViewBy s.cnum v).contains p)

/-- The epoch of a passed commit with its parameter set, and the armed commit (R19, R27, R95). -/
def State.allocate (s : State) (c : Check) (p : Proposal) : State :=
  let epoch := nextEpoch s.ctl.staging.lastEpoch
  let views := s.boundViews p
  let s1 := { s with dict :=
    { s.dict with
      committed := p.vals,
      sets := s.dict.sets ++ [({ epoch := epoch, params := p.vals, views := views, switched := [], landed := false } : EpochSet)] } }
  let bindings : List Binding := views.map (fun v =>
    { view := v, index := s.boundIndex p c.triggers v, issued := false, frameDone := false })
  let a : Armed :=
    { epoch := epoch, kind := p.kind, instant := ftimeNs p.atTime, changes := c.staged, bindings := bindings,
      instantDone := false, modeLost := false,
      exposures := (List.range 4).filter (fun v => s.cnum (Obj.trgExposure v) ≠ s.pnum p (Obj.trgExposure v)) }
  s1.modStaging (fun g => { g with lastEpoch := epoch, armed := g.armed ++ [a] })

/-- Tables, banks, rings and joining regions of a passed commit (R188, R261, R262, R401). `s0` is the state before it. -/
def State.armParts (s s0 : State) (p : Proposal) (epoch : Nat) : State :=
  let s1 := (List.range 4).foldl (fun acc v =>
    let bank := s0.pnum p (Obj.viewActiveBank v)
    let a := if bank = s0.cnum (Obj.viewActiveBank v) then acc else acc.armTable v bank epoch
    a.modView v (fun w => { w with banks := w.banks.map (fun b =>
      b.joined (portsOfViewBy (s0.pnum p) v) (s0.joiners p v)) })) s
  let changed := fun (k : Nat) => decide (s0.cnum (Obj.strCicOrder k) ≠ s0.pnum p (Obj.strCicOrder k)) ||
    decide (s0.cnum (Obj.strCicRatio k) ≠ s0.pnum p (Obj.strCicRatio k))
  let s2 := ({ s1 with cics := (List.zip (List.range 8) s1.cics).map (fun (q : Nat × Cic) =>
    if changed q.1 then { q.2 with changes := q.2.changes ++ [epoch] } else q.2) }).armBanks epoch
  if ringsChanged s0.cnum (s0.pnum p) then s2.planRings (s0.pnum p) epoch else s2

/-- The generators of a passed commit (R153, R157, R554, R555): exposures bound, generators that start, views that stay
STOPPED. -/
def State.bindViews (s s0 : State) (p : Proposal) (triggers : List Nat) (epoch : Nat) : State :=
  (s0.boundViews p).foldl (fun acc v =>
    match s0.boundIndex p triggers v with
    | none => acc
    | some n =>
      let a := if s0.cnum (Obj.trgExposure v) ≠ s0.pnum p (Obj.trgExposure v) then acc.exposureBound v epoch n else acc
      if a.staysStopped epoch v then (if p.kind = 2 then a else a.countIssued epoch v) else a.startSource epoch v) s

/-- Step 5 of R96 and what follows: the epoch, the instant, the result, the release of the area, and an IMMEDIATE instant. -/
def State.passCommit (s : State) (c : Check) : State :=
  let p := s.proposal c
  let views := s.boundViews p
  let bound := (List.range 4).map (fun v => if views.contains v then (s.boundIndex p c.triggers v).getD 0 else 0)
  let s1 := (s.allocate c p)
  let epoch := s1.ctl.staging.lastEpoch
  let s2 := (s1.commitResult Code.ok epoch c.kind (views.foldl setBit 0) 0 c.command 0 bound).armParts s p epoch
  let s3 := (s2.moduleRelease 3).bindViews s p c.triggers epoch
  let s4 := match s3.armedOf epoch with
    | none => s3
    | some a => if c.kind = 0 ∨ (a.bindings = [] ∧ c.kind ≠ 3) then s3.instantOf a else s3
  s4.dropDone.pruneSets

/-- A commit request ended with a failure: nothing is applied, the area is frozen no more, and a holder that closed meanwhile
is released now (R92, R94, R97). -/
def State.failCheck (s : State) (c : Check) (code n key : Nat) : State :=
  let s1 := (s.modStaging (fun g => { g with check := none })).stagingWrite
  let s2 := (s1.commitResult code 0 c.kind 0 key c.command n [0, 0, 0, 0]).putNum Obj.cmCommit 3
  if c.holderClosed then s2.moduleRelease 1 else s2

/-- A module-made commit is applied: a holder's commit between acceptance and result fails with WRONG_MODE (R98). -/
def State.overtake (s : State) : State :=
  match s.ctl.staging.check with
  | some c => s.failCheck c Code.wrongMode 0 0
  | none => s

/-- COMMIT_CHECK_END: the steps of R96 end; the result is presented (R94, R96 to R98, R101). The area is frozen no more. -/
def State.commitCheckEnd (s : State) : State :=
  match s.ctl.staging.check with
  | none => s
  | some c =>
    match s.checkFailure c with
    | some (code, n, key) => s.failCheck c code n key
    | none =>
      let s1 := (s.modStaging (fun g => { g with check := none })).stagingWrite
      let s2 := s1.putNum Obj.cmCommit 2
      if c.command = 1 then s2.passCommit c
      else
        let s3 := s2.commitResult Code.ok 0 c.kind 0 0 c.command 0 [0, 0, 0, 0]
        if c.holderClosed then s3.moduleRelease 1 else s3

end Sys2Proof.Machine
end

