-- ==== Sys2Proof/Machine/Operands.lean ====
section
/-! DEFINITION. The operands of a dictionary request: the encodings of R38, the value checks of R39 with those the chapters
state for their objects, and the lengths of R549. -/

namespace Sys2Proof.Machine

/-! ## Types -/

/-- The value that data bytes spell in a type (R38). -/
def Ty.decode (ty : Ty) (b : Bytes) : Val := if ty.size = 0 then .bytes b else .num (leNat b)

/-- The values that a type itself excludes (R39): BOOL, F32, FTIME, TEXT. -/
def Ty.valid (ty : Ty) (v : Val) : Bool :=
  match ty with
  | .bool => decide (v.toNat ≤ 1)
  | .f32 => decide (v.toNat / 2 ^ 23 % 256 ≠ 255)
  | .ftime => decide (v.toNat / 2 ^ 48 < 1000000000)
  | .text => utf8Valid v.toBytes
  | _ => true

/-- The longest value of an object: its Range column's, or its type's (R38, R549). -/
def ObjRow.maxLen (r : ObjRow) : Nat :=
  match r.range with
  | .len _ hi _ => hi
  | _ => if r.ty = .text then 255 else if r.ty = .octets then 65536 else 16777216

/-- The objects whose rule gives OUT_OF_RANGE for every length but one (R198, R199, R204, R221, R242, R250): XT_COEFFS, XT_MAP,
AT_COEFFS, MATRIX, TONE, SCALE_COEFFS, COORD_MATRIX. -/
def ObjRow.oneLength (r : ObjRow) : Bool :=
  [(0x300D, 2), (0x300D, 3), (0x300E, 2), (0x3010, 3), (0x3011, 1), (0x4801, 1), (0x4010, 1)].contains (r.base, r.lo)

/-- Check 8 on the length of a whole value (R39, R549); the length of an object of one length is its value check's. -/
def ObjRow.lengthCode (r : ObjRow) (n : Nat) : Option Nat :=
  if r.ty.size = 0 then (if r.maxLen < n ∧ !r.oneLength then some Code.tooLong else none)
  else if n = r.ty.size then none else some Code.typeMismatch

/-! ## Ranges -/

/-- Whether a value lies in a Range column (R39); a length range holds the whole length. -/
def Rng.holds (g : Rng) (w : Nat) (v : Val) : Bool :=
  let n := v.toNat
  match g with
  | .any => true
  | .special => true
  | .nat lo hi => decide (lo ≤ n) && decide (n ≤ hi)
  | .zeroOr lo hi m => decide (n = 0) || (decide (lo ≤ n) && decide (n ≤ hi) && decide (n % m = 0))
  | .alt lo hi x => decide (n = x) || (decide (lo ≤ n) && decide (n ≤ hi))
  | .mask m => decide (andNot n m = 0)
  | .mult lo hi m => decide (lo ≤ n) && decide (n ≤ hi) && decide (n % m = 0)
  | .int lo hi => decide (lo ≤ toSigned w n) && decide (toSigned w n ≤ hi)
  | .oneOf l => l.contains n
  | .len lo hi m => decide (lo ≤ v.toBytes.length) && decide (v.toBytes.length ≤ hi) && decide (v.toBytes.length % m = 0)

/-- Every coefficient phase of `taps` taps sums to 16,384 (R198, R204). -/
def phasesOk (b : Bytes) (phases taps : Nat) : Bool :=
  (List.range phases).all (fun ph =>
    decide ((List.range taps).foldl (fun a t => a + i16At b (2 * (taps * ph + t))) 0 = 16384))

/-- The value check of OVERLAPS (R230). -/
def overlapsOk (b : Bytes) : Bool :=
  (List.range 12).all (fun k => let o := u16At b (2 * k); decide (64 ≤ o) && decide (o ≤ 2048) && decide (o % 4 = 0))

/-- The value check of OUT_ACTION: no class with code 3. -/
def actionsOk (n : Nat) : Bool := (List.range 32).all (fun k => decide (n / 2 ^ (2 * k) % 4 ≠ 3))

/-- The value check of CODEC_GEOM (R432): BITS 8 to 16 and even, WIDTH 1 to 262,144, reserved bits 0. -/
def geomOk (n : Nat) : Bool :=
  let bits := n / 2 ^ 24 % 32
  let width := n % 2 ^ 19
  decide (8 ≤ bits) && decide (bits ≤ 16) && decide (bits % 2 = 0) && decide (n / 2 ^ 19 % 32 = 0) && decide (1 ≤ width) &&
  decide (width ≤ 262144)

/-- The range of DEST_IP (R471): unicast or multicast; 0.0.0.0, its default, is none yet (R461). -/
def destIpOk (n : Nat) : Bool := decide (n ≠ 0xFFFFFFFF)

/-- The value checks of the chapters for objects of ports, views and streams. RATE's are the rates of the port's mode, the staged one where
one is staged; with mode NONE, those of any (R110, R122; log entry 22). -/
def State.imageValueOk (s : State) (key : Nat) (v : Val) : Bool :=
  let i := key / 256
  let n := v.toNat
  let b := v.toBytes
  if 0x3000 ≤ i ∧ i < 0x3300 then
    let p := (i - 0x3000) / 0x40
    if key = Obj.portRegAccess p then decide (n / 32 % 4 = 0) && decide (1 ≤ n % 32) && decide (n % 32 ≤ 16)
    else if key = Obj.portRate p then
      (let mode := ((Kv.get? s.dict.staged (Obj.portLinkMode p)).getD (s.val (Obj.portLinkMode p))).toNat
       decide (mode = 0) || (ratesOf mode).contains n)
    else if key = Obj.portPhaseMap p then phaseMapOk n
    else if key = Obj.portDefects p then defectsOk b
    else if key = Obj.portXtCoeffs p then phasesOk b 64 8
    else if key = Obj.portAtCoeffs p then phasesOk b 16 4
    else if key = Obj.portMatrix p then matrixOk b
    else true
  else if 0x3400 ≤ i ∧ i < 0x3440 then
    let t := (i - 0x3400) / 0x10
    if key = Obj.trgFrameLines t then decide (n % Nat.max 1 (s.num (Obj.trgPhases t)) = 0) else true
  else if 0x4000 ≤ i ∧ i < 0x4400 then
    let w := (i - 0x4000) / 0x100
    if key = Obj.viewOverlaps w then overlapsOk b
    else if key = Obj.viewCoordMatrix w then coordMatrixOk b
    else if (List.range 4).any (fun j => key = Obj.viewPred w j) then predOk b
    else if (List.range 4).any (fun j => decide (key = Obj.viewHistLabel w j) && s.histGone w j) then false
    else if key = Obj.viewBuild w then
      (List.range 4).all (fun j => !bitOf n j || decide (s.num (Obj.viewHistLabel w j) ≠ 0xFF))
    else true
  else if 0x4800 ≤ i ∧ i < 0x4900 then
    let k := (i - 0x4800) / 0x20
    if key = Obj.strScaleCoeffs k then scaleCoeffsOk b else true
  else true

/-- The value checks of the chapters for the other objects. -/
def State.otherValueOk (s : State) (key : Nat) (v : Val) : Bool :=
  let i := key / 256
  let n := v.toNat
  let b := v.toBytes
  if key = Obj.i3cIbiEnable then decide (n ≤ 0x7F) && bitOf n 0
  else if key = Obj.pwStandbyWake then decide (n < 8) && bitOf n 0
  else if 0x5100 ≤ i ∧ i < 0x5180 then
    (if key = Obj.slotOutAction ((i - 0x5100) / 0x10) then actionsOk n else true)
  else if 0x6300 ≤ i ∧ i < 0x6380 then
    let k := (i - 0x6300) / 8
    if key = Obj.toutEdges k then s.edgesOk k b else true
  else if 0x7080 ≤ i ∧ i < 0x7098 then
    let r := i - 0x7080
    if key = Obj.ringReadPtr r then s.readPtrOk r n
    else if key = Obj.ringMode r then decide (4 ≤ r) || decide (n = 0)
    else true
  else if 0x7200 ≤ i ∧ i < 0x7400 then
    (if key = Obj.dchCodecGeom ((i - 0x7200) / 0x10) then geomOk n else true)
  else if 0x8100 ≤ i ∧ i < 0x8228 then
    let k := i - 0x8100
    if key = Obj.echSource k then channelSourceOk k n
    else if key = Obj.echTasks k then tasksOk k b
    else if key = Obj.echGate k then gateOk n
    else true
  else if 0x9040 ≤ i ∧ i < 0x9070 ∧ key % 256 = 1 then destIpOk n
  else true

/-- Check 9: the value is one of the type's, lies in the Range column, and passes the chapter's own check (R39). -/
def State.valueOk (s : State) (r : ObjRow) (key : Nat) (v : Val) : Bool :=
  r.ty.valid v && r.range.holds (8 * r.ty.size) v && s.imageValueOk key v && s.otherValueOk key v

end Sys2Proof.Machine
end

