-- ==== Sys2Proof/Machine/Flags.lean ====
section
/-! DEFINITION. Flags and counters under an RC write (R40, R80, R511, R512): flags clear by the bits written 1, counters and
maxima by all ones. -/

namespace Sys2Proof.Machine

/-- Whether an RC object holds flags (R511) and not a counter or a maximum. -/
def ObjRow.flags (r : ObjRow) : Bool :=
  match r.range with
  | .mask _ => true
  | _ => false

/-- Check 9 of an RC write: any bits for flags, 0 or all ones for a counter (R512). -/
def ObjRow.clearOk (r : ObjRow) (n : Nat) : Bool :=
  r.flags || decide (n = 0) || decide (n = 2 ^ (8 * r.ty.size) - 1)

/-- What an RC object holds after a write (R511, R512). -/
def ObjRow.cleared (r : ObjRow) (old n : Nat) : Nat := if r.flags then andNot old n else if n = 0 then old else 0

/-- An RC write that passed its checks; ALERT_N follows ALERTS (R507). -/
def State.rcWrite (s : State) (r : ObjRow) (key n : Nat) : State :=
  let v := Val.num (r.cleared (s.num key) n)
  let before := s.alertPin
  let s1 := if r.persistent then s.putKept key v else s.putVal key v
  if key = Obj.alAlerts then s1.alertPinFrom before else s1

end Sys2Proof.Machine
end

