-- ==== Sys2Proof/Machine/Writes.lean ====
section
/-! DEFINITION. What a write of an object does, and when it is refused: the refusals of checks 6 and 7 of R42 with those the
chapters state for their objects (R550), and the effect of an accepted write of each access code (R40). -/

namespace Sys2Proof.Machine

/-! ## Checks 6 and 7 -/

/-- The part a request plays in a write: a whole value (WRITE, or SEG_WRITE with FINAL), a part of one, the start and the end
of a block write. -/
inductive Phase where
  | whole | part | start | finish
  deriving DecidableEq, Repr

/-- Whether the mode allows a write of an object (R40, R48, R81, R194, R369, R467, R504, R548). -/
def State.modeAllows (s : State) (r : ObjRow) (key : Nat) : Bool :=
  let m := s.ctl.mode
  m.operating && (
    if key = Obj.accRestoreDefaults ∨ key = Obj.fltClearRetirements ∨ key = Obj.fwFwImage then decide (m = .config)
    else if key = Obj.timeStep then decide (m ≠ .teach) && decide (m ≠ .run)
    else match r.applies with
      | .testOnly => decide (m = .test)
      | .configTeach => decide (m = .config) || decide (m = .teach)
      | .anyMode => true
      | _ => decide (r.acc ≠ .rw) || decide (m = .config))

/-- A table of a port's corrections (R187): its port and bank, when the object is DARK, GAIN or DEFECTS. -/
def bankOf (key : Nat) : Option (Nat × Nat) :=
  let p := (key / 256 - 0x3000) / 0x40
  if key / 256 < 0x3000 ∨ 0x3300 ≤ key / 256 then none
  else if key = Obj.portDark p then some (p, 0)
  else if key = Obj.portGain p then some (p, 1)
  else if key = Obj.portDefects p then some (p, 2)
  else none

/-- The view whose TABLE_LOAD an object is, and the slot whose MODEL it is. -/
def tableOf (key : Nat) : Option Nat :=
  (List.range 4).find? (fun v => decide (key = Obj.viewTableLoad v))
def modelOf (key : Nat) : Option Nat :=
  (List.range 8).find? (fun n => decide (key = Obj.slotModel n))

/-- Whether an image slot is being written (R547). -/
def State.imageWriting (s : State) (k : Nat) : Bool := (s.ctl.images.getD k Image.reset).writing

/-- BUSY from an object's own chapter (R118, R187, R255, R304, R373, R422, R548). -/
def State.objectBusy (s : State) (key : Nat) (phase : Phase) (data : Bytes) : Bool :=
  let i := key / 256
  let sub := key % 256
  if 0x2000 ≤ i ∧ i < 0x2340 then decide (sub = 0x0C) && s.ctl.scan.isSome
  else if 0x3000 ≤ i ∧ i < 0x3300 then
    match bankOf key with
    | some (p, k) => (decide (phase = .whole) || decide (phase = .finish)) && decide (((s.region p).bank k).state = 2)
    | none => false
  else if 0x4000 ≤ i ∧ i < 0x4400 then
    let v := (i - 0x4000) / 0x100
    if key = Obj.viewBuild v then s.tableBusy v false
    else if key = Obj.viewTableLoad v then
      (decide (phase = .start) && s.tableBusy v true) || (decide (phase = .finish) && s.ctl.staging.check.isSome)
    else false
  else if 0x5100 ≤ i ∧ i < 0x5180 then
    let n := (i - 0x5100) / 0x10
    if key = Obj.slotModel n then decide (phase = .start) && s.slotBusy n
    else decide (key = Obj.slotClear n) && s.slotBusy n
  else if 0x6300 ≤ i ∧ i < 0x6380 then
    let k := (i - 0x6300) / 8
    decide (key = Obj.toutEdges k) && decide (phase = .whole) && !s.edgesRoom k data
  else if 0x7200 ≤ i ∧ i < 0x7400 then
    let c := (i - 0x7200) / 0x10
    decide (key = Obj.dchStart c) && s.dmaBusy c
  else if key = Obj.fwPreferred then s.imageWriting (leNat data)
  else if key = Obj.fwFwImage then decide (phase = .start) && (s.imageWriting 0 || s.imageWriting 1)
  else false

/-- BUSY while a COMMIT or CHECK_ONLY is between acceptance and result (R93): writes of the holder that the staging rule
governs, and every write of STAGING. -/
def State.frozen (s : State) (id : SessId) (r : ObjRow) (key : Nat) : Bool :=
  s.ctl.staging.check.isSome && (decide (key = Obj.stgStaging) ||
    ((decide (r.acc = .rs) || isCommitParam key) && decide (s.ctl.staging.holder = some id)))

/-- Check 6 of R42. -/
def State.check6Code (s : State) (id : SessId) (r : ObjRow) (key : Nat) (phase : Phase) (data : Bytes) : Option Nat :=
  if !s.modeAllows r key then some Code.wrongMode
  else if s.frozen id r key ∨ (r.acc = .ex ∧ s.actionState key = 1) ∨ s.objectBusy key phase data then some Code.busy
  else none

/-- The staging rule of a session (R41). -/
def State.lockCode (s : State) (id : SessId) : Option Nat :=
  match s.ctl.staging.holder with
  | none => some Code.notStaging
  | some h => if h = id then none else some Code.stagingLocked

/-- Check 7 of R42: RS objects, the commit parameters and COMMIT (R41, R93); OPEN and RELEASE (R91). -/
def State.check7Code (s : State) (id : SessId) (r : ObjRow) (key : Nat) (data : Bytes) : Option Nat :=
  if r.acc = .rs ∨ isCommitParam key ∨ key = Obj.cmCommit then s.lockCode id
  else if key = Obj.stgStaging then
    if leNat data = 2 then s.lockCode id
    else if leNat data = 1 ∧ s.ctl.staging.holder.isSome then s.lockCode id
    else none
  else none

/-! ## The BLOB transfer given up, and sessions closed -/

/-- The open transfer is discarded (R71, R73, R258, R303). -/
def State.dropTransfer (s : State) : State :=
  match s.ctl.transfer with
  | none => s
  | some t =>
    let s1 := { s with ctl := { s.ctl with transfer := none } }
    match tableOf t.key with
    | some v => s1.loadDropped v
    | none =>
      match modelOf t.key with
      | some n => s1.slotEmptied n 0
      | none => s1

/-- A session closes, for any cause (R65, R71, R92): its transfer ends, and the staging area it holds is released, at once or
when the result of its commit is presented. -/
def State.closeSession (s : State) (id : SessId) : State :=
  let s1 := match s.ctl.transfer with | some t => if t.session = id then s.dropTransfer else s | none => s
  let s2 :=
    if s1.ctl.staging.holder = some id then
      match s1.ctl.staging.check with
      | some c => s1.modStaging (fun g => { g with check := some { c with holderClosed := true } })
      | none => s1.moduleRelease 1
    else s1
  { s2 with ctl := { s2.ctl with sessions := s2.ctl.sessions.filter (fun x => x.id ≠ id) } }

/-- Every YDP session closes (R551). -/
def State.closeAll (s : State) : State := s.ydpSessions.foldl (fun acc x => acc.closeSession x.id) s

/-! ## Accepted writes of RW objects -/

/-- Whether the value of an RW object is held by its unit, and not among the dictionary's values. -/
def heldByUnit (key : Nat) : Bool :=
  decide (key = Obj.dtabDescriptor) || decide (key = Obj.dtabTable) || decide (key = Obj.dmaXbuf) || (modelOf key).isSome ||
  (List.range 24).any (fun r => decide (key = Obj.ringReadPtr r)) || decide (key = Obj.jrCursor) ||
  decide (key = Obj.logLogCursor) || decide (key = Obj.evtLogCursor)

/-- A value held by its unit: read cursors of the session, DMA tables and XBUF, model slots, ring pointers. -/
def State.unitWrite (s : State) (id : SessId) (key : Nat) (v : Val) : State :=
  let n := v.toNat
  if key = Obj.jrCursor then s.modSession id (fun x => { x with journalCursor := n })
  else if key = Obj.logLogCursor then s.modSession id (fun x => { x with logCursor := n })
  else if key = Obj.evtLogCursor then s.modSession id (fun x => { x with eventCursor := n })
  else if key = Obj.dtabDescriptor then
    s.modEngine (fun e => { e with table := Mem.writeBytes e.table (32 * s.num Obj.dtabSelect) v.toBytes })
  else if key = Obj.dtabTable then s.modEngine (fun e => { e with table := Mem.ofBytes v.toBytes })
  else if key = Obj.dmaXbuf then
    (s.modEngine (fun e => { e with xbuf := Mem.ofBytes v.toBytes, xbufLen := v.toBytes.length })).xbufReplaced
  else
    match modelOf key with
    | some k => (s.slotLoaded k v.toBytes).blobReplaced key
    | none => s.modRing (key / 256 - 0x7080) (fun x => { x with readPtr := n })

/-- What a new value of an RW object does beyond being read from now on. `old` is the state before it. -/
def State.rwHook (s old : State) (key : Nat) : State :=
  let i := key / 256
  if key = Obj.hbPeriod then
    { s with ctl := { s.ctl with heartbeat := { s.ctl.heartbeat with restart := s.clk, late := false } } }
  else if isCommitParam key then s.stagingWrite
  else if 0x3400 ≤ i ∧ i < 0x3440 then
    let v := (i - 0x3400) / 0x10
    if key = Obj.trgFrameLines v then s.frameLinesNew v (old.frameLen v) else s
  else if 0x4000 ≤ i ∧ i < 0x4400 then
    match tableOf key with
    | some v =>
      (match (s.view v).loadingBank with
        | some k => let m := Mem.ofBytes (s.octets key); s.bankLoaded v k m (crc32c (s.octets key))
        | none => s)
    | none => s
  else if 0x6300 ≤ i ∧ i < 0x6380 then s.toutReview
  else if key = Obj.pwLatencyTolerance ∨ key = Obj.pwIdleTimer then s.retestStep
  else if key = Obj.alAlertMask then s.alertPinFrom old.alertPin
  else if key = Obj.tchTouchEnable then s.touchEnableNew (old.num key)
  else if 0xA020 ≤ i ∧ i < 0xA024 then (s.lampModeNew (i - 0xA020) (old.num (Obj.lampMode (i - 0xA020)))).lampReview
  else if 0xA030 ≤ i ∧ i < 0xA03C then s.pwrEnable (i - 0xA030)
  else s

/-- A value of an RW object in force, everywhere one is kept, and in MRAM when it is persistent (R40, R47). -/
def State.rwPut (s : State) (r : ObjRow) (key : Nat) (v : Val) : State :=
  let s1 := (if r.persistent then s.putKept key v else s).spread key v
  if r.ty = .blob then s1.blobReplaced key else s1

/-- An accepted write of an RW object. -/
def State.rwWrite (s : State) (id : SessId) (r : ObjRow) (key : Nat) (v : Val) : State :=
  if heldByUnit key then s.unitWrite id key v else (s.rwPut r key v).rwHook s key

/-- An accepted write of an RS object: staged (R41); a table of corrections goes to its inactive bank (R187). -/
def State.rsWrite (s : State) (key : Nat) (v : Val) : State :=
  let s1 := s.stageVal key v
  match bankOf key with
  | some (p, k) => s1.stageBank p k
  | none => s1

/-! ## Accepted writes of WO objects -/

/-- Whether a source counts for heartbeats (R88): bit 0 of SOURCES for I3C, bit 1 for YDP. -/
def State.heartbeatPath (s : State) (src : Src) : Bool :=
  bitOf (s.num Obj.hbSources) (match src with | .i3c _ => 0 | .ydp _ _ _ _ _ => 1)

/-- A heartbeat (R88); the first one after host loss is journalled (R90). -/
def State.heartbeat (s : State) (src : Src) : State :=
  if s.heartbeatPath src then
    let h := s.ctl.heartbeat
    let s1 := { s with ctl := { s.ctl with heartbeat := { h with restart := s.clk, late := false, lost := false } } }
    if h.lost then s1.journalOwn 10 [1] else s1
  else s

/-- The response a challenge expects (R44). -/
def State.expected (s : State) (nonce : Nat) : Nat := crc32c (leBytes 4 nonce ++ leBytes 4 (s.num Obj.accIntegratorCode))

/-- Whether the lockout of R45 is in force. -/
def State.lockedOut (s : State) : Bool := match s.ctl.lockoutUntil with | some t => decide (s.clk < t) | none => false

/-- A response evaluated (R44, R45): whether it raises the session, and the state after it; one write uses the nonce up.
DESIGN CHOICE (log entry 58): a write during the lockout is not evaluated, and leaves the nonce as it is. -/
def State.answerChallenge (s : State) (id : SessId) (n : Nat) : State × Bool :=
  if s.lockedOut then (s, false)
  else
    let good : Bool := match (s.session? id).bind (fun x => x.challenge) with
      | some (nonce, until_) => decide (s.clk < until_) && decide (n = s.expected nonce)
      | none => false
    let s1 := s.modSession id (fun x => { x with challenge := none, level := if good then .integrator else x.level })
    if good then ({ s1 with ctl := { s1.ctl with challengeRun := 0, lockoutUntil := none } }, true)
    else if 3 ≤ s.ctl.challengeRun + 1 then
      ({ s1 with ctl := { s1.ctl with challengeRun := 0, lockoutUntil := some (s.clk + 60000000000) } }, false)
    else ({ s1 with ctl := { s1.ctl with challengeRun := s.ctl.challengeRun + 1 } }, false)

/-- A write of ACK (R79): whether it names the presented result, and the state after it. -/
def State.acknowledge (s : State) (key n : Nat) : State × Bool :=
  let r := s.result (key - 1)
  match r.presented with
  | some p =>
    if p.seq = n then
      let s1 := s.putResult r.release
      (if r.pending.isSome then s1.event Ibi.resultReady else s1, true)
    else (s, false)
  | none => (s, false)

/-- The image slot that is not running (R547). -/
def State.spareImage (s : State) : Nat := 1 - s.num Obj.idFwSlot % 2

/-- A passed BLOCK_END of FW_IMAGE: programming of the slot that is not running starts (R547, R548). -/
def State.writeImage (s : State) (b : Bytes) : State :=
  let k := s.spareImage
  let x : Image := { valid := false, version := (Config.imageVersion b).toNat, writing := true }
  { s with ctl := { s.ctl with images := setAt s.ctl.images k x } }

/-- An accepted write of a WO object that has no outcome of its own: HEARTBEAT, INTEGRATOR_CODE, EDGES, FW_IMAGE. -/
def State.woWrite (s : State) (src : Src) (r : ObjRow) (key : Nat) (v : Val) : State :=
  let i := key / 256
  if key = Obj.hbHeartbeat then s.heartbeat src
  else if key = Obj.fwFwImage then s.writeImage v.toBytes
  else if 0x6300 ≤ i ∧ i < 0x6380 then s.putEdges ((i - 0x6300) / 8) v.toBytes
  else if r.persistent then s.putKept key v
  else s.putVal key v

/-! ## EX actions -/

/-- Whether RESTORE_DEFAULTS returns an object to its default (R48). -/
def restored (key : Nat) : Bool :=
  match Catalog.row key with
  | some r => r.persistent && (decide (r.acc = .rs) || decide (r.acc = .rw)) && decide (key ≠ Obj.fwPreferred)
  | none => false

/-- RESTORE_DEFAULTS (R48): persistent settings at their defaults in MRAM and in force, with what new values do. -/
def State.restoreDefaults (s : State) : State :=
  let keys := (s.dict.inForce.map (fun p => p.1)).filter restored
  let keep := fun (kv : Kv) => kv.filter (fun p => !restored p.1)
  let s1 : State := { s with dict :=
    { ((s.dict.mram.filter (fun p => restored p.1)).foldl (fun (d : Dict) p => d.slotted p.1) s.dict) with
      inForce := keep s.dict.inForce, committed := keep s.dict.committed, mram := keep s.dict.mram,
      sets := s.dict.sets.map (fun (e : EpochSet) => { e with params := keep e.params }) } }
  let s2 := s1.reconfigured s keys
  let s3 := keys.foldl (fun acc k =>
    match Catalog.row k with
    | some r => if r.ty = .blob then acc.blobReplaced k else if r.acc = .rw then acc.rwHook s k else acc
    | none => acc) s2
  if ringsChanged s.num s3.num then (s3.planRings s3.num s3.ctl.staging.lastEpoch).ringsInstant else s3

/-- The committed configuration as the digest takes it (R109): the values of the latest epoch with RW writes since; values
held by units among them. -/
def State.digestSnapshot (s : State) : Kv :=
  let units := [Obj.dtabDescriptor, Obj.dtabTable, Obj.dmaXbuf] ++ (List.range 24).map (fun r => Obj.ringReadPtr r)
  let kv := units.foldl (fun kv k => match s.statusMemory k with | some v => Kv.put kv k v | none => kv) s.dict.committed
  (List.range 8).foldl (fun kv n => Kv.put kv (Obj.slotModel n) (.bytes (s.slot n).model)) kv

/-- DIGEST_START (R109). -/
def State.digestStart (s : State) : State :=
  (s.modJournal (fun j => { j with digest := some (s.digestSnapshot, j.head, s.clk) })).putNum Obj.jrDigestStart 1

/-- EYE_SCAN (R118): FAILED at once on a lane that is not ALIGNED. -/
def State.scanStart (s : State) (n dwell : Nat) : State :=
  if (s.lane n).state = 4 then
    ({ s with ctl := { s.ctl with scan := some { lane := n, dwell := dwell } } }).putNum (laneKey n 0x0C) 1
  else s.putNum (laneKey n 0x0C) 3

/-- CAL_CAPTURE (R194). -/
def State.captureStart (s : State) (p kind : Nat) : State :=
  (s.modRegion p (fun g => { g with capture := some {
    kind := kind, writtenAt := s.clk, frame := none, frameNo := 0, epoch := 0, sums := [[], [], [], []], lines := 0, live := [] } })).putNum
    (Obj.portCalCapture p) 1

/-- BUILD (R266). -/
def State.buildStart (s : State) (v mask : Nat) : State :=
  match (s.view v).target with
  | some k => (s.startBuild v mask k).putNum (Obj.viewBuild v) 1
  | none => s

/-- STEP (R467). -/
def State.stepArm (s : State) : State :=
  (s.modServo (fun x => { x with stepArmed := some s.clk })).putNum Obj.timeStep 2

/-- CLEAR_RETIREMENTS (R504). -/
def State.clearRetirements (s : State) : State :=
  let s1 := { s with ctl := { s.ctl with faults := { s.ctl.faults with mapClear := true } } }
  (s1.logPut 3 Unit.package 0 0 0 []).putNum Obj.fltClearRetirements 2

/-- An accepted write of an EX object (R40) of the control cluster, the lanes or the ports. STAGING and COMMIT make their own
journal entries. -/
def State.exControl (s : State) (src : Src) (key n : Nat) : State :=
  let i := key / 256
  if key = Obj.accDropLevel then (s.modSession (srcId src) (fun x => { x with level := .operator })).putNum key 2
  else if key = Obj.accRestoreDefaults then s.restoreDefaults.putNum key 2
  else if key = Obj.stgStaging then s.stagingCommand src n
  else if key = Obj.cmCommit then s.commitRequest src n
  else if key = Obj.jrDigestStart then s.digestStart
  else if key = Obj.fltClearRetirements then s.clearRetirements
  else if 0x2000 ≤ i ∧ i < 0x2340 then s.scanStart ((i - 0x2000) / 0x10) n
  else
    let p := (i - 0x3000) / 0x40
    if key = Obj.portAdopt p then s.adopt p
    else if key = Obj.portRegAccess p then s.regAccess p n
    else s.captureStart p n

/-- An accepted write of an EX object of the other units. -/
def State.exUnit (s : State) (key n : Nat) : State :=
  let i := key / 256
  if 0x3480 ≤ i ∧ i < 0x34C0 then s.encPositionSet ((i - 0x3480) / 0x10) n
  else if 0x4000 ≤ i ∧ i < 0x4400 then
    let v := (i - 0x4000) / 0x100
    if key = Obj.viewBuild v then s.buildStart v n else (s.clearHist v n).putNum key 2
  else if 0x5100 ≤ i ∧ i < 0x5180 then (s.slotEmptied ((i - 0x5100) / 0x10) 0).putNum key 2
  else if 0x6300 ≤ i ∧ i < 0x6380 then (s.flushEdges ((i - 0x6300) / 8)).putNum key 2
  else if 0x7200 ≤ i ∧ i < 0x7400 then
    let c := (i - 0x7200) / 0x10
    if key = Obj.dchStart c then s.startDma c n else (s.dmaStop c).putNum key 2
  else if key = Obj.timeStep then s.stepArm
  else (s.pwrReset (i - 0xA030)).putNum key 2

/-- An accepted write of an EX object (R40). -/
def State.exWrite (s : State) (src : Src) (key n : Nat) : State :=
  if key / 256 < 0x3400 then s.exControl src key n else s.exUnit key n

/-! ## An accepted write -/

/-- Whether an accepted write goes into the journal under the kinds WRITE, STAGE and EX (R102, R103). -/
def journalled (key : Nat) : Bool :=
  !isAck key && decide (key ≠ Obj.jrCursor) && decide (key ≠ Obj.logLogCursor) && decide (key ≠ Obj.evtLogCursor) &&
  decide (key ≠ Obj.stgStaging) && decide (key ≠ Obj.cmCommit)

/-- KIND of an accepted write (R103). -/
def writeKind (r : ObjRow) : Nat := match r.acc with | .rs => 2 | .ex => 4 | _ => 1

/-- The journal entry of an accepted write, made before its effect: MODE, EPOCH and TIME are those of acceptance (R103). A
BLOB entry always carries its digest. -/
def State.journalWrite (s : State) (src : Src) (r : ObjRow) (key : Nat) (raw : Bytes) : State :=
  if r.ty = .blob then
    s.journalPut (srcCode src) 3 (srcSession src) key 0 0x80 (leBytes 4 raw.length ++ leBytes 4 (crc32c raw))
  else if journalled key then s.journalReq src (writeKind r) key raw
  else s

/-- The effect of an accepted write by the object's access code (R40). -/
def State.writeEffect (s : State) (src : Src) (r : ObjRow) (key : Nat) (v : Val) : State :=
  match r.acc with
  | .rw => s.rwWrite (srcId src) r key v
  | .rs => s.rsWrite key v
  | .rc => s.rcWrite r key v.toNat
  | .ex => s.exWrite src key v.toNat
  | .wo => s.woWrite src r key v
  | .ro => s

/-- A write that has passed every check: its result code and the state after it. RESPONSE and ACK have outcomes of their own
(R44, R45, R79, R550). -/
def State.applyWrite (s : State) (src : Src) (r : ObjRow) (key : Nat) (raw : Bytes) : State × Nat :=
  let v := r.ty.decode raw
  if key = Obj.accResponse then
    let good := (s.answerChallenge (srcId src) v.toNat).2
    let s1 := if good then s.journalReq src 1 key raw else s.journalFailed src 1 key Code.challengeFailed
    ((s1.answerChallenge (srcId src) v.toNat).1, if good then Code.ok else Code.challengeFailed)
  else if isAck key then
    let a := s.acknowledge key v.toNat
    (a.1, if a.2 then Code.ok else Code.seqMismatch)
  else ((s.journalWrite src r key raw).writeEffect src r key v, Code.ok)

end Sys2Proof.Machine
end

