-- ==== Sys2Proof/Machine/Requests.lean ====
section
/-! DEFINITION. Dictionary requests: the checks of R42 in their order, the opcodes (R50 to R52, R69 to R74, R549), and the two
paths with their repeats and sessions (R54 to R57, R61 to R67, R551). -/

namespace Sys2Proof.Machine

/-! ## Answers -/

/-- What a response says: FLAGS, CODE and DATA (R51). -/
structure Answer where
  flags : Nat
  code : Nat
  data : Bytes
  /-- whether the request has been executed; a rejected one has not (R550) -/
  executed : Bool := true
  deriving DecidableEq, Repr

/-- An answer of a code alone, with FINAL (R52). -/
def Answer.of (code : Nat) : Answer := { flags := 1, code := code, data := [] }

/-- An answer with data (R52). -/
def Answer.data_ (b : Bytes) : Answer := { flags := 1, code := Code.ok, data := b }

/-- The rejected-request counter of a path (R42, R550). -/
def rejectedKey : Src → Nat
  | .i3c _ => Obj.cntRejectedI3c
  | .ydp _ _ _ _ _ => Obj.cntRejectedYdp

/-- The answer to a request that is rejected (R42, R550). -/
def Answer.rejected (code : Nat) : Answer := { Answer.of code with executed := false }

/-- A rejected request: counted, nothing else (R42, R550). -/
def State.reject (s : State) (src : Src) (code : Nat) : State × Answer := (s.bump (rejectedKey src), Answer.rejected code)

/-- DATA of one frame (R54, the YDP path). -/
def frameMax : Src → Nat
  | .i3c _ => 256
  | .ydp _ _ _ _ _ => 1408

/-! ## Checks 1 to 7 -/

/-- Subindex 0 of an index with several subindexes (R38). -/
def subZero : ObjRow :=
  { base := 0, stride := 1, count := 1, lo := 0, hi := 0, ty := .u8, acc := .ro, level := .operator, persistent := false,
    dflt := .none, range := .any, applies := .atOnce }

/-- The row of an object, subindex 0 among them (R38). -/
def objectRow (index sub : Nat) : Option ObjRow :=
  if sub = 0 ∧ Catalog.severalSubs index then some subZero else Catalog.find index sub

/-- Checks 1 to 3 of R42; the service range answers ACCESS_LEVEL to every session that can exist (R46). -/
def State.place (s : State) (index sub : Nat) : Except Nat ObjRow :=
  if 0xF000 ≤ index then .error Code.accessLevel
  else if !Catalog.hasIndex index then .error Code.noObject
  else match objectRow index sub with
    | none => .error Code.noSubindex
    | some r => if absentKey s.ctl.part index sub then .error Code.objectAbsent else .ok r

/-- Check 4 of R42. SEIZE needs INTEGRATOR (R91). -/
def levelOk (l : Level) (r : ObjRow) (seize : Bool) : Bool :=
  decide (l ≠ .operator) || (decide (r.level = .operator) && !seize)

/-- Whether BOOT answers a read (R85). -/
def bootReads (index sub : Nat) : Bool := decide (index = 0x1000) || (decide (index = 0x1100) && (decide (sub = 1) || decide (sub = 3)))

/-- Checks 1 to 6 of a read (R42, R85). -/
def State.admitRead (s : State) (x : Session) (index sub : Nat) : Except Nat ObjRow :=
  match s.place index sub with
  | .error c => .error c
  | .ok r =>
    if !levelOk x.level r false then .error Code.accessLevel
    else if r.acc = .wo then .error Code.writeOnly
    else if s.ctl.mode.operating || bootReads index sub then .ok r
    else .error Code.wrongMode

/-- Whether an object may be written at all (R40); configuration of a channel that MODULE owns may not (R441). -/
def readOnly (r : ObjRow) (index : Nat) : Bool :=
  decide (r.acc = .ro) ||
  (decide (r.acc = .rs) && decide (0x8100 ≤ index) && decide (index < 0x8228) && channelOwned (index - 0x8100))

/-- Checks 1 to 7 of a write (R42). -/
def State.admitWrite (s : State) (x : Session) (index sub : Nat) (phase : Phase) (data : Bytes) : Except Nat ObjRow :=
  match s.place index sub with
  | .error c => .error c
  | .ok r =>
    let key := objKey index sub
    if !levelOk x.level r (decide (key = Obj.stgStaging) && decide (leNat data = 3)) then .error Code.accessLevel
    else if readOnly r index then .error Code.readOnly
    else match s.check6Code x.id r key phase data with
      | some c => .error c
      | none =>
        match s.check7Code x.id r key data with
        | some c => .error c
        | none => .ok r

/-! ## Reads -/

/-- The bytes a read returns (R38, R40). -/
def State.readBytes (s : State) (x : Session) (r : ObjRow) (index sub : Nat) : Bytes :=
  if sub = 0 then leBytes 1 (Catalog.highest index)
  else if r.acc = .ex then leBytes 1 (s.actionState (objKey index sub))
  else (s.shown x (objKey index sub)).encode r.ty

/-- A response that covers offset 0 of a presented result has been sent (R77). -/
def State.markRead (s : State) (key : Nat) : State :=
  if isResult key then s.putResult { (s.result key) with alreadyRead := true } else s

/-- The response to this request covers offset 0 of a presented result (R77): on I3C it is sent when it is read; on YDP it counts as
sent when it joins the queue of a port that has a link, while a port without one sends none (DESIGN CHOICE, log entry 62). -/
def State.covered (s : State) (src : Src) (key : Nat) : State :=
  match src with
  | .ydp e _ _ _ _ => if (s.eth e).up then s.markRead key else s
  | .i3c _ =>
    if isResult key then
      { s with ctl := { s.ctl with i3c := { s.ctl.i3c with
          covers := (s.result key).presented.map (fun p => (key, p.seq)) } } }
    else s

/-- The value a read of an object returns, or the NOT_READY header of a result object that presents none (R77, R78). -/
def State.content (s : State) (x : Session) (r : ObjRow) (index sub : Nat) : Except Bytes Bytes :=
  let key := objKey index sub
  if isResult key then
    match (s.result key).value with
    | some b => .ok b
    | none => .error (s.result key).lastHeader
  else .ok (s.readBytes x r index sub)

/-- A read of CHALLENGE: a fresh nonce, valid for 10 s (R44). -/
def State.freshNonce (s : State) (id : SessId) : State × Nat :=
  let n := (Config.nonce s.free).toNat
  ((s.drawn).modSession id (fun x => { x with challenge := some (n, s.clk + 10000000000) }), n)

/-- READ (R52, R549). -/
def State.doRead (s : State) (src : Src) (x : Session) (q : Req) : State × Answer :=
  match s.admitRead x q.index q.sub with
  | .error c => s.reject src c
  | .ok r =>
    let key := objKey q.index q.sub
    if r.ty = .blob then s.reject src Code.typeMismatch
    else if key = Obj.accChallenge then
      let a := s.requestSeen.freshNonce x.id
      (a.1, Answer.data_ (leBytes 4 a.2))
    else
      match (if bitOf q.flags 1 ∧ r.acc = .rs then Kv.get? s.dict.staged key else none) with
      | some v =>
        let b := v.encode r.ty
        if frameMax src < b.length then s.reject src Code.tooLong
        else (s.requestSeen, { flags := 5, code := Code.ok, data := b })
      | none =>
        match s.content x r q.index q.sub with
        | .error h => (s.requestSeen, { flags := 1, code := Code.notReady, data := h })
        | .ok b =>
          if frameMax src < b.length then s.reject src Code.tooLong else (s.requestSeen.covered src key, Answer.data_ b)

/-- The response to this request ends the session's snapshot of an object when it is sent (R70): on I3C when it is read. -/
def State.endsSnapshot (s : State) (src : Src) (id : SessId) (key : Nat) : State :=
  match src with
  | .ydp _ _ _ _ _ => s.modSession id (fun x => { x with snapshots := assocDrop x.snapshots key })
  | .i3c _ => { s with ctl := { s.ctl with i3c := { s.ctl.i3c with ends := some key } } }

/-- A segment of a snapshot; the response that reaches its end carries FINAL and ends it (R52, R70). -/
def State.segment (s : State) (src : Src) (id : SessId) (key offset : Nat) (b : Bytes) : State × Answer :=
  if b.length < offset then s.reject src Code.outOfRange
  else
    let part := slice b offset (frameMax src)
    let last := decide (b.length ≤ offset + part.length)
    let s1 := s.requestSeen.modSession id (fun x => { x with snapshots := assocPut x.snapshots key b })
    (if last then s1.endsSnapshot src id key else s1, { flags := if last then 1 else 0, code := Code.ok, data := part })

/-- SEG_READ (R70). DESIGN CHOICE (log entry 58): at an OFFSET above 0 with no snapshot R70's SEGMENT_ORDER answers, also for a RESULT
that presents nothing (R78). DESIGN CHOICE (log entry 62): one at OFFSET 0 that answers NOT_READY takes no snapshot and leaves the one
the session holds. -/
def State.doSegRead (s : State) (src : Src) (x : Session) (q : Req) : State × Answer :=
  match s.admitRead x q.index q.sub with
  | .error c => s.reject src c
  | .ok r =>
    let key := objKey q.index q.sub
    if r.ty ≠ .text ∧ r.ty ≠ .octets then s.reject src Code.typeMismatch
    else if q.offset = 0 then
      match s.content x r q.index q.sub with
      | .error h => (s.requestSeen, { flags := 1, code := Code.notReady, data := h })
      | .ok b => (s.covered src key).segment src x.id key 0 b
    else
      match assoc x.snapshots key with
      | none => (s.requestSeen, Answer.of Code.segmentOrder)
      | some b => s.segment src x.id key q.offset b

/-- Which value a BLOB holds (R74): a result by its number, others by the count of their replacements. -/
def State.blobVersion (s : State) (key : Nat) : Nat :=
  if isResult key then match (s.result key).presented with | some p => p.seq | none => 0
  else (assoc s.ctl.blobVersions key).getD 0

/-- Where a BLOB lies in static content (R399): the ACTIVE bank of TABLE_READ, the slot of MODEL. -/
def State.blobStatic (s : State) (key : Nat) : Option Nat :=
  match (List.range 4).find? (fun v => decide (key = Obj.viewTableRead v)) with
  | some v => some ((2 * v + ((List.range 2).find? (fun k => decide (((s.view v).bank k).state = BankState.active))).getD 0) * 2 ^ 19)
  | none => (modelOf key).map (fun n => 4 * 2 ^ 20 + n * 2 ^ 20)

/-- CTL reads `n` bytes of a BLOB that lies in static content, from stack W (R381, R400): whether it got them. DATA_ERROR is left where no
replica stands in (R394). -/
def State.blobRead (s : State) (key offset n : Nat) : State × Bool :=
  match s.blobStatic key with
  | none => (s, true)
  | some base =>
    let off := base + offset
    let r := (s.hbmTouch 6 (s.staticChannels 0 off n)).hbmFailed 6 ((burstsOf off n).map (fun o =>
      let q := s.staticAt 0 o
      hbmAddr q.1 q.2))
    (r.1, !r.2)

/-- BLOCK_READ (R74); of static content that HBM cannot give it answers DATA_ERROR (R394). -/
def State.doBlockRead (s : State) (src : Src) (x : Session) (q : Req) : State × Answer :=
  match s.admitRead x q.index q.sub with
  | .error c => s.reject src c
  | .ok r =>
    let key := objKey q.index q.sub
    let n := s.blobVersion key
    if r.ty ≠ .blob then s.reject src Code.typeMismatch
    else
      match s.content x r q.index q.sub with
      | .error h => (s.requestSeen, { flags := 1, code := Code.notReady, data := h })
      | .ok b =>
        if b.length < q.offset then s.reject src Code.outOfRange
        else if q.offset ≠ 0 ∧ (assoc x.blobSeen key).getD n ≠ n then (s.requestSeen, Answer.of Code.valueChanged)
        else
          let got := s.requestSeen.blobRead key q.offset (Nat.min (frameMax src) (b.length - q.offset))
          if !got.2 then (got.1, Answer.of Code.dataError)
          else if q.offset = 0 then
            ((got.1.covered src key).modSession x.id (fun y => { y with blobSeen := assocPut y.blobSeen key n }),
              Answer.data_ (slice b 0 (frameMax src)))
          else (got.1, Answer.data_ (slice b q.offset (frameMax src)))

/-! ## Writes -/

/-- Check 8 of a WRITE (R39, R549). -/
def writeLength (src : Src) (r : ObjRow) (n : Nat) : Option Nat :=
  if r.ty = .blob then some Code.typeMismatch
  else if r.ty.size = 0 ∧ frameMax src < n then some Code.tooLong
  else r.lengthCode n

/-- Check 9: flags and counters have their own (R511, R512). -/
def State.check9Ok (s : State) (r : ObjRow) (key : Nat) (data : Bytes) : Bool :=
  let v := r.ty.decode data
  if r.acc = .rc then r.clearOk v.toNat else s.valueOk r key v

/-- WRITE (R42). -/
def State.doWrite (s : State) (src : Src) (x : Session) (q : Req) : State × Answer :=
  match s.admitWrite x q.index q.sub .whole q.data with
  | .error c => s.reject src c
  | .ok r =>
    let key := objKey q.index q.sub
    match writeLength src r q.data.length with
    | some c => s.reject src c
    | none =>
      if s.check9Ok r key q.data then
        let a := s.requestSeen.applyWrite src r key q.data
        (a.1, Answer.of a.2)
      else s.reject src Code.outOfRange

/-- An accepted request that the staging rule governs (R92). -/
def State.touch_ (s : State) (r : ObjRow) : State := if r.acc = .rs then s.stagingWrite else s

/-- The bytes of a segmented write with a segment in its place: none where the segment is out of order (R69). -/
def Session.joined (x : Session) (key offset : Nat) (data : Bytes) : Option Bytes :=
  if offset = 0 then some data
  else match x.segWrite with
    | some (k, b) => if k = key ∧ b.length = offset then some (b ++ data) else none
    | none => none

/-- The completed value of a segmented write (R69, R550): its value check is part of the outcome. -/
def State.segFinish (s : State) (src : Src) (r : ObjRow) (key : Nat) (b : Bytes) : State × Answer :=
  let s1 := s.modSession (srcId src) (fun x => { x with segWrite := none })
  match r.lengthCode b.length with
  | some c => (s1.journalFailed src (writeKind r) key c, Answer.of c)
  | none =>
    if s.valueOk r key (r.ty.decode b) then
      let a := s1.applyWrite src r key b
      (a.1, Answer.of a.2)
    else (s1.journalFailed src (writeKind r) key Code.outOfRange, Answer.of Code.outOfRange)

/-- SEG_WRITE (R69). -/
def State.doSegWrite (s : State) (src : Src) (x : Session) (q : Req) : State × Answer :=
  let key := objKey q.index q.sub
  let joined := x.joined key q.offset q.data
  let final := bitOf q.flags 0 && joined.isSome
  match s.admitWrite x q.index q.sub (if final then .whole else .part) (joined.getD []) with
  | .error c => s.reject src c
  | .ok r =>
    if r.ty ≠ .text ∧ r.ty ≠ .octets then s.reject src Code.typeMismatch
    else if frameMax src < q.data.length then s.reject src Code.tooLong
    else
      let s1 := s.requestSeen.touch_ r
      match joined with
      | none =>
        ((s1.modSession x.id (fun y => { y with segWrite := none })).journalFailed src (writeKind r) key Code.segmentOrder,
          Answer.of Code.segmentOrder)
      | some b =>
        if final then s1.segFinish src r key b
        else (s1.modSession x.id (fun y => { y with segWrite := some (key, b) }), Answer.of Code.ok)

/-! ## Block writes -/

/-- The limits on the length of a BLOB (R71, R258): its maximum, the transfer buffer, the one length of a sort table. -/
def State.blobLength (s : State) (r : ObjRow) (key n : Nat) : Option Nat :=
  if r.maxLen < n ∨ s.blobBuffer < n then some Code.tooLong
  else if (tableOf key).isSome ∧ n < tableBytes then some Code.outOfRange
  else none

/-- The unit that a BLOB is for gets ready for it (R256, R303). -/
def State.blobOpens (s : State) (key : Nat) : State :=
  match tableOf key with
  | some v => (match (s.view v).target with | some k => s.bankLoading v k | none => s)
  | none =>
    match modelOf key with
    | some n => s.slotEmptied n 1
    | none => s

/-- BLOCK_START (R71). -/
def State.doBlockStart (s : State) (src : Src) (x : Session) (q : Req) : State × Answer :=
  match s.admitWrite x q.index q.sub .start q.data with
  | .error c => s.reject src c
  | .ok r =>
    let key := objKey q.index q.sub
    let n := leNat q.data
    if r.ty ≠ .blob ∨ q.data.length ≠ 4 then s.reject src Code.typeMismatch
    else match s.blobLength r key n with
      | some c => s.reject src c
      | none =>
        let s1 := s.requestSeen.touch_ r
        match s.ctl.transfer with
        | some t =>
          if t.session ≠ x.id then (s1, Answer.of Code.transferBusy)
          else
            let s2 := s1.dropTransfer.blobOpens key
            ({ s2 with ctl := { s2.ctl with transfer := some { session := x.id, key := key, length := n, buffer := [], received := [] } } },
              Answer.of Code.ok)
        | none =>
          let s2 := s1.blobOpens key
          ({ s2 with ctl := { s2.ctl with transfer := some { session := x.id, key := key, length := n, buffer := [], received := [] } } },
            Answer.of Code.ok)

/-- The open transfer of a session for an object, or the code of R72. -/
def State.openTransfer (s : State) (id : SessId) (key : Nat) : Except Nat Transfer :=
  match s.ctl.transfer with
  | some t => if t.session ≠ id then .error Code.transferBusy else if t.key = key then .ok t else .error Code.outOfRange
  | none => .error Code.outOfRange

/-- Whether a segment keeps the rules of R72. -/
def Transfer.fits (t : Transfer) (offset n : Nat) : Bool :=
  decide (offset % 128 = 0) && decide (offset + n ≤ t.length) && (decide (n % 128 = 0) || decide (offset + n = t.length))

/-- A segment entered; blocks already received keep their bytes (R67, R72). -/
def Transfer.enter (t : Transfer) (offset : Nat) (data : Bytes) : Transfer :=
  let blocks := (rangeFrom (offset / 128) (ceilDiv data.length 128)).filter (fun b => !t.received.contains b)
  { t with
    buffer := blocks.foldl (fun m b => Mem.writeBytes m (128 * b) (slice data (128 * b - offset) 128)) t.buffer,
    received := blocks ++ t.received }

/-- Blocks written to the BLOB transfer buffer in stack W, through CTL (R71, R381, R399). -/
def State.blobBuffered (s : State) (offset n : Nat) : State := s.hbmTouch 6 (s.staticChannels 0 (12 * 2 ^ 20 + offset) n)

/-- BLOCK_DATA (R72). -/
def State.doBlockData (s : State) (src : Src) (x : Session) (q : Req) : State × Answer :=
  match s.admitWrite x q.index q.sub .part q.data with
  | .error c => s.reject src c
  | .ok r =>
    if r.ty ≠ .blob then s.reject src Code.typeMismatch
    else if frameMax src < q.data.length then s.reject src Code.tooLong
    else match s.openTransfer x.id (objKey q.index q.sub) with
      | .error c => if c = Code.transferBusy then (s.requestSeen.touch_ r, Answer.of c) else s.reject src c
      | .ok t =>
        if t.fits q.offset q.data.length then
          let s1 := (s.requestSeen.touch_ r).blobBuffered q.offset q.data.length
          ({ s1 with ctl := { s1.ctl with transfer := some (t.enter q.offset q.data) } }, Answer.of Code.ok)
        else s.reject src Code.outOfRange

/-- The first block of a transfer that has not been received (R73). -/
def Transfer.missing (t : Transfer) : Option Nat :=
  (List.range (ceilDiv t.length 128)).find? (fun b => !t.received.contains b)

/-- The value of a transfer. -/
def Transfer.value (t : Transfer) : Bytes := Mem.readBytes t.buffer 0 t.length

/-- The outcome of the value check at BLOCK_END (R73, R547). -/
def State.blobCode (s : State) (r : ObjRow) (key : Nat) (b : Bytes) : Option Nat :=
  match r.lengthCode b.length with
  | some c => some c
  | none =>
    if !s.valueOk r key (.bytes b) ∨ (key = Obj.fwFwImage ∧ !Config.imageSigned b) then some Code.outOfRange else none

/-- BLOCK_END with every block there (R73): the CRC, the value, and the write. DESIGN CHOICE (log entry 59): the entry of a failed one
holds its code, so its FORM is 4 with DIGEST clear (R103). -/
def State.blobFinish (s : State) (src : Src) (r : ObjRow) (key crc : Nat) (b : Bytes) : State × Answer :=
  match (if crc32c b = crc then s.blobCode r key b else some Code.badCheck) with
  | some c => (s.dropTransfer.journalFailed src 3 key c, Answer.of c)
  | none =>
    let a := ({ s with ctl := { s.ctl with transfer := none } }).applyWrite src r key b
    (a.1, Answer.of a.2)

/-- BLOCK_END (R73). -/
def State.doBlockEnd (s : State) (src : Src) (x : Session) (q : Req) : State × Answer :=
  match s.admitWrite x q.index q.sub .finish q.data with
  | .error c => s.reject src c
  | .ok r =>
    let key := objKey q.index q.sub
    if r.ty ≠ .blob ∨ q.data.length ≠ 4 then s.reject src Code.typeMismatch
    else match s.openTransfer x.id key with
      | .error c => if c = Code.transferBusy then (s.requestSeen.touch_ r, Answer.of c) else s.reject src c
      | .ok t =>
        let s1 := s.requestSeen.touch_ r
        match t.missing with
        | some b => (s1, { flags := 1, code := Code.blockIncomplete, data := leBytes 4 (128 * b) })
        | none => s1.blobFinish src r key (leNat q.data) t.value

/-! ## One request -/

abbrev Op.read : Nat := 0x01
abbrev Op.write : Nat := 0x02
abbrev Op.segRead : Nat := 0x03
abbrev Op.segWrite : Nat := 0x04
abbrev Op.blockStart : Nat := 0x05
abbrev Op.blockData : Nat := 0x06
abbrev Op.blockEnd : Nat := 0x07
abbrev Op.blockRead : Nat := 0x08
abbrev Op.sessionOpen : Nat := 0x10
abbrev Op.sessionClose : Nat := 0x11

/-- A request executed for its session; any other opcode answers NO_OBJECT (R52). DESIGN CHOICE (log entry 62): SESSION_OPEN and
SESSION_CLOSE on I3C, which are YDP's alone, are such opcodes there and are rejected. -/
def State.executeAt (s : State) (src : Src) (x : Session) (q : Req) : State × Answer :=
  if q.opcode = Op.read then s.doRead src x q
  else if q.opcode = Op.write then s.doWrite src x q
  else if q.opcode = Op.segRead then s.doSegRead src x q
  else if q.opcode = Op.segWrite then s.doSegWrite src x q
  else if q.opcode = Op.blockStart then s.doBlockStart src x q
  else if q.opcode = Op.blockData then s.doBlockData src x q
  else if q.opcode = Op.blockEnd then s.doBlockEnd src x q
  else if q.opcode = Op.blockRead then s.doBlockRead src x q
  else s.reject src Code.noObject

/-- A request executed for its session, on the object that its INDEX and SUB name (R38). -/
def State.execute (s : State) (src : Src) (x : Session) (q : Req) : State × Answer :=
  s.executeAt src x { q with sub := Catalog.subOf q.index q.sub }

/-- The response body of a request (R51). -/
def Req.respond (q : Req) (a : Answer) : Resp :=
  { opcode := (q.opcode + 0x80) % 256, flags := a.flags, index := q.index, sub := q.sub, code := a.code, offset := q.offset,
    data := a.data }

/-- Whether a request has moved the YDP port (R551). -/
def movesPort (q : Req) (a : Answer) : Bool :=
  decide (q.opcode = Op.write) && decide (objKey q.index q.sub = Obj.ydpYdpPort) && decide (a.code = Code.ok)

/-! ## The I3C path -/

/-- Whether the module answers its I3C address (R61, R81, R486, R520, R541). -/
def State.i3cUp (s : State) : Bool :=
  s.pins.resetN && s.power.powered && decide (s.power.state ≠ .deep) &&
  (s.ctl.mode.operating || (decide (s.ctl.mode = .boot) && decide (2 ≤ s.ctl.boot.step)))

/-- A private transfer that is NACKed; in DEEP its address match wakes the module (R486). -/
def State.i3cNack (s : State) : State :=
  (if s.pins.resetN ∧ s.power.powered ∧ s.power.state = .deep then s.wake .i3c else s).emit .i3cNack

/-- A response made ready (R57, R59). -/
def State.i3cReady (s : State) (tag : Nat) (x : Resp) : State :=
  ({ s with ctl := { s.ctl with i3c := { s.ctl.i3c with response := some (tag, x) } } }).event Ibi.responseReady

/-- The I3C session; it is always there. -/
def State.i3cSession (s : State) : Session := (s.session? .i3c).getD Session.i3c

/-- The I3C path as a new request finds it: the response before it covers and ends nothing more (R70, R77). -/
def State.i3cFresh (s : State) : State :=
  { s with ctl := { s.ctl with i3c := { s.ctl.i3c with covers := none, ends := none } } }

/-- A new request: executed, its response kept with it (R53, R56). A moved YDP port closes the YDP sessions once a response has been
sent (R551; DESIGN CHOICE, log entry 62: the next one that is read, where the host never reads this one). -/
def State.i3cExecute (s : State) (tag : Nat) (q : Req) : State :=
  let s0 := s.i3cFresh
  let a := s0.execute (.i3c tag) s0.i3cSession q
  let x := q.respond a.2
  let s1 := a.1.modSession .i3c (fun y => { y with lastRequest := s.clk })
  let s2 := { s1 with ctl := { s1.ctl with i3c := { s1.ctl.i3c with previous := some (tag, q), answer := some x } } }
  let s3 := s2.i3cReady tag x
  if movesPort q a.2 then { s3 with ctl := { s3.ctl with i3c := { s3.ctl.i3c with moves := true } } } else s3

/-- A request frame on I3C that has passed its checks (R56, R57). -/
def State.i3cRequest (s : State) (tag : Nat) (q : Req) : State :=
  if !s.i3cUp then s.i3cNack
  else
    match s.ctl.i3c.answer with
    | some x =>
      if s.ctl.i3c.previous = some (tag, q) then
        (s.bump Obj.cntCachedResponses).i3cReady tag { x with flags := x.flags ||| 2 }
      else s.i3cExecute tag q
    | none => s.i3cExecute tag q

/-- The answer to a frame that fails its checks (R55): the frame is no request; its answer is made ready. -/
def State.frameCheck (s : State) (tag : Nat) : State :=
  if !s.i3cUp then s.i3cNack
  else s.i3cReady tag
    { opcode := 0x80, flags := 1, index := 0, sub := 0, code := Code.frameCheck, offset := 0, data := [] }

/-- A response covers offset 0 of a result: it has been read (R77), where it is still presented. -/
def State.resultSent (s : State) : State :=
  match s.ctl.i3c.covers with
  | some (key, seq) => if (s.result key).presented.map (fun p => p.seq) = some seq then s.markRead key else s
  | none => s

/-- A response reaches the end of a snapshot, which ends (R70). -/
def State.snapshotSent (s : State) : State :=
  match s.ctl.i3c.ends with
  | some key => s.modSession .i3c (fun x => { x with snapshots := assocDrop x.snapshots key })
  | none => s

/-- A response has been sent on I3C: what it covers has been read (R77), what it ends has ended (R70), and a moved YDP port has closed
the YDP sessions (R551). The answer to a frame that failed its checks does none of it (R55). -/
def State.responseSent (s : State) (x : Resp) : State :=
  if x.code = Code.frameCheck then s
  else
    let s1 := s.resultSent.snapshotSent
    if s1.ctl.i3c.moves then
      { s1.closeAll with ctl := { s1.closeAll.ctl with i3c := { s1.closeAll.ctl.i3c with moves := false } } }
    else s1

/-- RESPONSE_READ: the latest response, as often as it is read (R57). -/
def State.responseRead (s : State) : State :=
  if !s.i3cUp then s.i3cNack
  else match s.ctl.i3c.response with
    | some (tag, x) => (s.responseSent x).emit (.i3cResponse tag x)
    | none => s.emit .i3cNack

/-- IBI_DELIVERY: the collected bits go out together (R59). -/
def State.ibiDelivery (s : State) : State :=
  if s.i3cUp ∧ s.ctl.i3c.ibi ≠ 0 then
    ({ s with ctl := { s.ctl with i3c := { s.ctl.i3c with ibi := 0 } } }).emit (.i3cIbi s.ctl.i3c.ibi)
  else s

/-- SETDASA and ENTDAA: a dynamic address (R54, R520). -/
def State.setAddress (s : State) (address : Nat) : State :=
  if s.i3cUp then s.putNum Obj.i3cDynamicAddr (address % 128) else s

/-! ## The YDP path -/

/-- Whether YDP runs: an Ethernet link, in the modes with CTL, and in BOOT from step 0x08 on (R61, R81, R486, R541). -/
def State.ydpUp (s : State) (e : Nat) : Bool :=
  decide (e < 2) && (s.eth e).up && decide (s.power.state ≠ .deep) &&
  (s.ctl.mode.operating || (decide (s.ctl.mode = .boot) && decide (7 ≤ s.ctl.boot.step)))

/-- A response datagram (R62, R470), whose next hop ARP resolves (R457). DESIGN CHOICE (log entry 74): an unresolved one is asked for, and
the response goes back to where its request came from meanwhile. -/
def State.ydpAnswer (s : State) (e ip port sess seq : Nat) (x : Resp) : State :=
  (s.resolve e ip).1.tx e (.ydpResponse e ip port sess seq x)

/-- The lowest unused session number above the last one allocated, from 0xFFFF on to 1 (R65). -/
def State.freeNumber (s : State) : Nat :=
  let used := fun (n : Nat) => (s.session? (.ydp n)).isSome
  ((List.range 9).map (fun k => (s.ctl.lastSession + k) % 65535 + 1)).find? (fun n => !used n) |>.getD 1

/-- SESSION_OPEN (R64, R65): the state, the session number (0 where nothing opens), the answer. -/
def State.openSession (s : State) (e ip port : Nat) (data : Bytes) : State × Nat × Answer :=
  let nonce := u32At data 0
  if data.length ≠ 8 then (s.bump Obj.cntRejectedYdp, 0, Answer.of Code.typeMismatch)
  else match s.ydpSessions.find? (fun x => x.ip = ip && x.port = port && x.clientNonce = nonce) with
    | some x =>
      let n := match x.id with | .ydp n => n | .i3c => 0
      (s.modSession x.id (fun y => { y with lastRequest := s.clk, eth := e }), n, Answer.data_ (leBytes 2 n))
    | none =>
      if 8 ≤ s.ydpSessions.length then (s, 0, Answer.of Code.sessionLimit)
      else
        let n := s.freeNumber
        let x : Session := { Session.i3c with
          id := .ydp n, eth := e, ip := ip, port := port, clientNonce := nonce, mask := u8At data 4,
          idleTime := s.num Obj.ydpIdleTime, lastRequest := s.clk }
        ({ s with ctl := { s.ctl with sessions := s.ctl.sessions ++ [x], lastSession := n } }, n, Answer.data_ (leBytes 2 n))

/-- The response to an executed request kept for its repeats, the last 16 of a session (R66). DEDUCED (log entry 62): a rejected
request is not executed (R550), so its response is not kept and its SEQ does not raise the session's highest. -/
def Session.keep (x : Session) (seq : Nat) (r : Resp) : Session :=
  { x with kept := ((seq, r) :: x.kept.filter (fun k => k.1 ≠ seq)).take 16 }

/-- A request of an open session (R65 to R67): BLOCK_DATA whatever its SEQ; a kept response for a repeat; otherwise in order. -/
def State.ydpOrdered (s : State) (e ip port sess seq : Nat) (x : Session) (q : Req) : State :=
  let src := Src.ydp e ip port sess seq
  if q.opcode = Op.blockData then
    let a := s.execute src x q
    let r := q.respond a.2
    (if a.2.executed then a.1.modSession x.id (fun y => y.keep seq r) else a.1).ydpAnswer e ip port sess seq r
  else match assoc x.kept seq with
    | some r => (s.bump Obj.cntCachedResponses).ydpAnswer e ip port sess seq { r with flags := r.flags ||| 2 }
    | none =>
      if !later seq x.highSeq then s.ydpAnswer e ip port sess seq (q.respond (Answer.of Code.sequenceOrder))
      else if q.opcode = Op.sessionClose then
        (s.closeSession x.id).ydpAnswer e ip port sess seq (q.respond (Answer.of Code.ok))
      else
        let a := s.execute src x q
        let r := q.respond a.2
        let s0 := if a.2.executed then a.1.modSession x.id (fun y => { y.keep seq r with highSeq := seq }) else a.1
        let s1 := s0.ydpAnswer e ip port sess seq r
        if movesPort q a.2 then s1.closeAll else s1

/-- A well-formed YDP request datagram to YDP_PORT (R61, R63 to R66). In BOOT every request answers WRONG_MODE (R85, R541). -/
def State.ydpRequest (s0 : State) (e ip port sess seq : Nat) (q : Req) : State :=
  if !s0.ydpUp e then s0
  else
    let s := s0.rx e
    if s.ctl.mode = .boot then
      (s.bump Obj.cntRejectedYdp).ydpAnswer e ip port (if q.opcode = Op.sessionOpen then 0 else sess) seq
        (q.respond (Answer.of Code.wrongMode))
    else if q.opcode = Op.sessionOpen then
      let a := s.openSession e ip port q.data
      a.1.ydpAnswer e ip port a.2.1 seq (q.respond a.2.2)
    else match s.session? (.ydp sess) with
      | none => s.ydpAnswer e ip port sess seq (q.respond (Answer.of Code.noSession))
      | some x =>
        if x.ip ≠ ip ∨ x.port ≠ port then s.ydpAnswer e ip port sess seq (q.respond (Answer.of Code.noSession))
        else
          (s.modSession x.id (fun y => { y with lastRequest := s.clk, eth := e })).ydpOrdered e ip port sess seq x q

/-- A malformed datagram to YDP_PORT (R63). -/
def State.datagramDrop (s : State) (e : Nat) : State :=
  if s.ydpUp e then (s.rx e).bump Obj.cntDatagramsDropped else s

/-- SESSION_IDLE: no request of a session for its IDLE_TIME (R65). -/
def State.sessionIdle (s : State) (n : Nat) : State :=
  match s.session? (.ydp n) with
  | some x => if x.lastRequest + x.idleTime * 1000000000 ≤ s.clk then s.closeSession x.id else s
  | none => s

/-- A dictionary request from either path. -/
def State.dictionary (s : State) (src : Src) (q : Req) : State :=
  let r := { q with index := q.index % 65536, sub := q.sub % 256, offset := q.offset % wrap32, reserved := q.reserved % 256 }
  match src with
  | .i3c tag => s.i3cRequest (tag % 256) r
  | .ydp e ip port sess seq => s.ydpRequest e ip port sess (seq % wrap32) r

/-- FRAME_CHECK: the bytes of a private write (R54, R55). A frame that passes its checks is the request it spells; of any other only the
TAG is used. A one-byte write is no frame (R61). -/
def State.frameBytes (s : State) (frame : Bytes) : State :=
  match frame with
  | [] => s
  | [b] => s.wakeTransfer b
  | b :: _ =>
    match parseFrame frame with
    | some (tag, q) => s.dictionary (.i3c tag) q
    | none => s.frameCheck b.toNat

/-- DATAGRAM_DROP: the bytes of a datagram to YDP_PORT, and whether its UDP checksum is zero or right (R62, R63). A datagram with no
fault is the request it spells. -/
def State.datagramBytes (s : State) (e ip port : Nat) (datagram : Bytes) (checksumOk : Bool) : State :=
  match (if checksumOk then parseDatagram datagram else none) with
  | some (sess, seq, q) => s.dictionary (.ydp e ip port sess seq) q
  | none => s.datagramDrop e

/-- NONCE_EXPIRY (R44). -/
def State.nonceExpiry (s : State) (id : SessId) : State :=
  s.modSession id (fun x => match x.challenge with
    | some (_, t) => if t ≤ s.clk then { x with challenge := none } else x
    | none => x)

/-- LOCKOUT_END (R45). -/
def State.lockoutEnd (s : State) : State :=
  match s.ctl.lockoutUntil with
  | some t => if t ≤ s.clk then { s with ctl := { s.ctl with lockoutUntil := none, challengeRun := 0 } } else s
  | none => s

end Sys2Proof.Machine
end

