-- ==== Sys2Proof/Machine/Settle.lean ====
section
/-! DEFINITION. The form of every command: time passes, the command has its effect where the module can take it, and what
follows at once from the new state settles: build units on idle bricks (R324), lost seams (R290), views that enter DEGRADED
(R507), the brick array's overload (R321), the guarantee (R351), a power step that waits (R481), panel lamps (R532),
parameter sets no longer in use (R27), and frames that leave on Ethernet (R460). -/

namespace Sys2Proof.Machine

/-- Whether the module's units run: in an operating mode, outside DEEP (R81, R480). -/
def State.unitsRun (s : State) : Bool := s.ctl.mode.operating && decide (s.power.state ≠ .deep)

/-- The objects that wait for a lost partner close (R290, R37), and those of a view without ports (R280). -/
def State.seamsReviewed (s : State) : State :=
  (List.range 4).foldl (fun acc0 v =>
    let acc := acc0.closePortless v
    let k := acc.num (Obj.viewContinuesTo v)
    let waits := decide ((acc.view v).fragments ≠ []) || decide ((acc.view v).edges ≠ []) || (acc.view v).blobs.any (fun b => b.remote ≠ [] || b.edgeLines ≠ [])
    if k ≠ 0xFF ∧ acc.partnerLost k ∧ waits then acc.seamLost v else acc) s

/-- The packets and frames that have left by now on the system link and on Ethernet (R146, R460). -/
def State.drained (s : State) : State := (s.linksDrain.ethDrain 0).ethDrain 1

/-- The start of every command: `dt` ns pass, and what waited leaves in that time as it stood before the command (R146, R460, R463; log
entry 1). So do the HBM requests whose command slots have come (R382, R384), and a stack may be lost to their errors (R397). -/
def State.advance (dt : Nat) (s : State) : State :=
  let t := (s.elapse dt).drained
  if t.hbm.queue = [] then t else t.hbmSettle.stacksReviewed

/-- What follows at once from the state a command leaves; `before` is the state it found. -/
def State.settle (s before : State) : State :=
  let s1 := if s.unitsRun then s.giveUnits.seamsReviewed else s
  let s2 := if s1.ctl.mode.operating then
      ((((s1.reviewViews).reviewCapacity before).reviewGuarantee).retestStep).pruneSets
    else s1
  (if s2.power.powered then s2.lampReview else s2).drained

/-- A command: `dt` ns pass, its effect takes place where the state admits it, and the module settles (log entry 1). The queue
of waiting commands and the clock are none of the effect's. -/
def State.run (s : State) (dt : Nat) (admits : State → Bool) (effect : State → State) :
    Host.Outcome State Fault Refusal :=
  let s1 := s.advance dt
  .next ({ (if admits s1 then effect s1 else s1) with clk := s.clk + dt, pending := s.pending }.settle s1)

/-- The admission of a command that any state takes; the effect itself holds its conditions. -/
def State.any (_ : State) : Bool := true

end Sys2Proof.Machine
end

