-- ==== Sys2Proof/Machine/Stages.lean ====
section
/-! DEFINITION. The reset of a region (R11, R280, R503), and one line of a view through stitcher, classifier, segmenter,
image ring and streams (R228, R241, R248, R270). -/

namespace Sys2Proof.Machine

/-- The columns of a region's slice in a view's stitched line, first and one past the last (R224). -/
def Geometry.sliceOf (g : Geometry) (r : Nat) : Nat × Nat :=
  match (List.range g.ports.length).find? (fun k => natAt g.ports k = r) with
  | some k => (g.sliceStart k, g.sliceEnd k)
  | none => (0, 0)

/-- Whether an object had a run in some columns in the latest line (R280). -/
def Blob.touches (b : Blob) (lo hi : Nat) : Bool := b.runs.any (fun q => decide (q.1 < hi) && decide (lo ≤ q.2))

/-- The objects of a view with a run in a region's slice close with PARTIAL and FORCED_CLOSE (R280). -/
def State.closeSlice (s : State) (v r : Nat) : State :=
  let q := (s.geometry (s.view v).epoch v).sliceOf r
  s.forceClose v CometFlag.partial_ (fun b => b.touches q.1 q.2)

/-- A region that can be reset: fitted, not retired, and powered, which it is while its port belongs to a view (R18). -/
def State.regionLive (s : State) (r : Nat) : Bool :=
  decide (r < s.ctl.part.regions) && decide ((s.region r).state ≠ 2) && (s.viewOfPort r).isSome

/-- A region as its reset leaves it (R11): its span is a hole in every line not yet stitched, until the next frame start. -/
def Region.cleared (g : Region) (now : Nat) : Region :=
  { g with
    resetUntil := now + 50000, awaiting := true, rejoin := none, setup := none, held := [none, none, none, none],
    history := [[], [], [], []], stats := none, latency := none, gated := false,
    repairUntil := 0,
    coloured := g.coloured.map (fun (l : PixLine) => { l with holes := l.holes.map (fun _ => true) }) }

/-- REGION_RESET (R11, R280, R501 to R503): an upset of the region; the 4th reset within 60 s retires the port. A word of a table copy
whose rewriting the reset cuts short leaves a copy that mismatches (R263, R264). -/
def State.regionReset (s : State) (r : Nat) : State :=
  if s.regionLive r then
    let s1 := if s.inReset r then s else s.upset Unit.region r 60000000000 []
    let cut := decide (s.clk < (s.region r).repairUntil)
    let s2 := (s1.bump (Obj.regResets r)).modRegion r (fun g => g.cleared s.clk)
    let s2 := if cut then s2.copyMismatch (s.region r).repairBank r else s2
    let s3 := match s2.viewOfPort r with | some v => s2.closeSlice v r | none => s2
    if s3.overThreshold Unit.region r 4 then s3.retirePort r 2 else s3
  else s

/-- A word of a table copy that a lookup found in error (R264): corrected, or counted toward the region's reset at the 16th
within 1 s (R503). The window of region r stands under unit 0. -/
def State.eccWord (s : State) (v k : Nat) (e : EccCell) : State :=
  if e.2.2 then s.bump (Obj.regTableCorrected e.1)
  else
    let s1 := (s.bump (Obj.regTableUncorrectable e.1)).bump (Obj.viewEccErrors v)
    if s1.inReset e.1 then s1
    else
      let s2 := s1.modRegion e.1 (fun g => { g with repairUntil := s1.clk + 10000, repairBank := k })
      let ts := upsetTimes s2.clk 1000000000 (s2.ctl.faults.times 0 e.1)
      let put := fun (l : List Nat) => { s2 with ctl := { s2.ctl with faults :=
        { s2.ctl.faults with windows := assocPut s2.ctl.faults.windows (0, e.1) l } } }
      if 16 ≤ ts.length then (put []).regionReset e.1 else put ts

/-- The histograms that count a line in TEACH go through LINE_WR (R265, R381). -/
def State.histFlush (s : State) (v : Nat) : State :=
  if s.ctl.mode = .teach ∧ (List.range 4).any (fun k => s.num (Obj.viewHistLabel v k) ≠ 0xFF) then
    let k := s.histStack v
    let off := (12 * 2 ^ 20) + (if k = 0 then s.blobBuffer else 0)
    s.hbmTouch 0 ((List.zip (List.range 16) (s.histHeld k)).flatMap (fun q =>
      if q.2.1 = v ∧ s.num (Obj.viewHistLabel v q.2.2) ≠ 0xFF then s.staticChannels k (off + q.1 * 2 ^ 21) (2 ^ 21) else [])).eraseDups
  else s

/-- One line classified, counted, segmented, stored and sent on, after the stitcher (R228, R241, R248 to R283, R403). -/
def State.lineOn (s : State) (v : Nat) (i : Issue) (g : Geometry) (line : PixLine) (ecc : List EccCell) : State :=
  let shift := s.stitchShiftOf i.frameEpoch i.epoch v
  let k := s.classBank v i.epoch
  let s1 := s.swapBank v k
  let span := s1.sliceSpan i.epoch v g
  let mine := ecc.filter (fun e => g.ports.contains e.1)
  let c := classifyLine line g (s1.paramBytes i.epoch (Obj.viewCoordMatrix v)) ((s1.view v).bank k) mine span.1 span.2
  let s2 := (((s1.countHist v c).histFlush v).classStats v i c).segmentLine v i g line c
  mine.foldl (fun acc e => acc.eccWord v k e) ((s2.imageWrite v g line shift).streams v i line shift)

/-- STITCH_LINE: the view's next line, once every port has delivered it (R228). -/
def State.stitchNext (s : State) (v : Nat) (ecc : List EccCell) : State :=
  match (s.view v).nextStitch with
  | none => s
  | some j =>
    match s.issueOf v j with
    | none => s
    | some i =>
      if s.stitchReady v i then
        let q := s.stitch v i
        q.1.lineOn v i q.2.1 q.2.2 ecc
      else s

end Sys2Proof.Machine
end

