-- ==== Sys2Proof/Machine/Syslink.lean ====
section
/-! DEFINITION. What arrives on lanes: lane events (R111 to R118, R141, R143), CoaXPress packets (R135, R136), system-link
traffic (R33 to R37, R145 to R148, R347, R443), and the heartbeat's deadlines (R88, R89). -/

namespace Sys2Proof.Machine

/-! ## Lanes -/

/-- A fitted lane: a camera lane, or one of the system link (R117). -/
def State.laneFitted (s : State) (n : Nat) : Bool :=
  decide (n < s.ctl.part.lanes) || (decide (48 ≤ n) && decide (n < 48 + s.ctl.part.syslinks))

/-- A fitted camera port. -/
def State.portFitted (s : State) (p : Nat) : Bool := decide (p < s.ctl.part.regions)

/-- LANE_EXIT: the exit to ACTIVE completes with the lane locked and aligned, or without swing in NO_SIGNAL (R114); a port
whose lane comes up goes on with its link-up, and one whose camera was pulled meanwhile is unplugged (R141, R143). -/
def State.laneExit (s : State) (n : Nat) : State :=
  let x := s.lane n
  if x.exiting ∧ (x.state = 0 ∨ x.state = 1) then
    if x.signal then
      ((s.modLane n (fun y => { y with exiting := false, state := 2, pseq := none })).laneSignal n).laneAligned n
    else (s.darkLane n).lanesReviewed n
  else s

/-- ALIGNMENT_LOSS of an aligned lane: by symbols, or by a packet that fails its CRC (R111, R116). -/
def State.alignmentLoss (s : State) (n : Nat) (crc : Bool) : State :=
  if s.laneReceives n then (if crc then s.laneCrc n else s.realign n) else s

/-- EYE_MEASURE of an aligned lane, or of one in NO_SIGNAL, which reports height 0 (R113). -/
def State.eyeRound (s : State) (n height width : Nat) : State :=
  if (s.lane n).state = 2 ∨ (s.lane n).state = 4 then s.eyeTaken n (min 1000 height) (min 64 width) else s

/-- EYE_FLOOR: 1 s below the floor without a break (R116). -/
def State.eyeFloor (s : State) (n : Nat) : State :=
  match (s.lane n).lowEyeSince with
  | some t => if t + 1000000000 ≤ s.clk then s.retireLane n 2 else s
  | none => s

/-- The data of an eye scan (R118): lane, dwell, 4,096 saturating counts. -/
def scanData (x : Scan) (counts : List Nat) : Bytes :=
  leBytes 2 x.lane ++ leBytes 2 x.dwell ++ (List.range 4096).flatMap (fun k => leBytes 2 (min 0xFFFF (natAt counts k)))

/-- EYE_SCAN_DONE (R118): a lane that is no longer ALIGNED ends its scan FAILED. DESIGN CHOICE (log entry 63): the result is made under no
epoch, so its EPOCH_VALID is 0. -/
def State.scanDone (s : State) (counts : List Nat) : State :=
  match s.ctl.scan with
  | none => s
  | some x =>
    let s1 := { s with ctl := { s.ctl with scan := none } }
    if (s.lane x.lane).state = 4 then
      (s1.putNum (laneKey x.lane 0x0C) 2).completeResult Obj.eyeResult none (scanData x counts)
    else s1.putNum (laneKey x.lane 0x0C) 3

/-! ## CoaXPress -/

/-- Whether a port receives anything: some lane of its quad is aligned (R115). -/
def State.portReceives (s : State) (p : Nat) : Bool := s.portFitted p && (quad p).any s.laneReceives

/-- Whether a port receives CoaXPress packets: its LINK_MODE is CXP (R121, R135). -/
def State.cxpReceives (s : State) (p : Nat) : Bool := s.portReceives p && decide (s.num (Obj.portLinkMode p) = 1)

/-- Whether a port receives an HLP packet on a lane: a lane of its quad, aligned, with LINK_MODE HLP (R115, R119, R125). -/
def State.hlpReceives (s : State) (p lane : Nat) : Bool :=
  s.portFitted p && (quad p).contains lane && s.laneReceives lane && decide (s.num (Obj.portLinkMode p) = 2)

/-- Whether a port receives a packet that both link modes have: an HLP port on the lane named, a CoaXPress port by its standard. -/
def State.packetComes (s : State) (p lane : Nat) : Bool := s.hlpReceives p lane || s.cxpReceives p

/-- The header of such a packet: an HLP packet has PSEQ and CAM_STATUS (R126). -/
def State.packetHeader (s : State) (p lane pseq camStatus : Nat) : State :=
  if s.num (Obj.portLinkMode p) = 2 then s.hlpHeader p lane pseq camStatus else s

/-- CAMERA_EVENT (R122, R126, R128): presented under R75. DESIGN CHOICE (log entry 63): the result is made under no epoch, so its
EPOCH_VALID is 0. -/
def State.cameraEvent (s : State) (p : Nat) (payload : Bytes) : State :=
  s.completeResult (Obj.portCameraEvent p) none (payload.take 1024)

/-- CXP_IMAGE_PACKET (R135, R136): a line-scan header whose width or pixel format differs from the port's sets GEOMETRY_DIFFERS, and the
line goes on (R144). -/
def State.cxpImage (s : State) (p : Nat) (kind : CxpKind) (width bits bands : Nat) (h : HlpHeader) (payload : Bytes) : State :=
  match kind with
  | .lineSlice =>
    let same := decide (width = s.num (Obj.portWidth p)) && decide (bits = s.num (Obj.portBits p)) &&
      decide (bands = s.num (Obj.portBands p))
    (if same then s else s.orFlags (Obj.portFlags p) 0x40).lineSlice p h payload
  | .unsupportedFormat => s.orFlags (Obj.portFlags p) 2
  | .unsupported => (s.bump (Obj.portPacketsStray p)).orFlags (Obj.portFlags p) 8

/-! ## System link -/

/-- A system-link lane is in use: fitted, and the loopback lane, the one with the module's own number, in TEST alone (R32). -/
def State.linkUsed (s : State) (n : Nat) : Bool :=
  decide (48 ≤ n) && s.laneFitted n && (decide (n ≠ 48 + s.pins.id) || decide (s.ctl.mode = .test))

/-- A system-link lane takes a packet: in use, aligned, and its partner has not reported this module's own ID, save on the loopback
lane (R32, R33). -/
def State.linkTakes (s : State) (n : Nat) : Bool :=
  s.linkUsed n && s.laneReceives n &&
  (decide (s.num (laneKey n 0x0E) ≠ s.pins.id) || decide (n = 48 + s.pins.id))

/-- PSEQ of a system-link packet: a gap counts in LOST_PACKETS and raises an alert (R147). -/
def State.linkSeq (s : State) (n pseq : Nat) : State :=
  let r := s.trackPseq n pseq (laneKey n 0x0F)
  if r.2 = 0 then r.1 else r.1.alert Alert.syslink

/-- SEAM (R147, R232, R234). -/
def State.seamPacket (s : State) (n v index offset pseq : Nat) (last : Bool) (payload : Bytes) : State :=
  (s.linkSeq n pseq).seamBytes v index offset last payload

/-- One record of a COMET packet: an edge record, a fragment, or a comet for this module's valves (R287, R288, R347), or the t_open that
the owner of a bus returns (R319). -/
def State.linkRecord (s : State) (r : LinkRecord) : State :=
  match r with
  | .record b =>
    let c := Comet.ofRecord b
    let v := u8At b 8 % 4
    if c.has CometFlag.edgeReport then s.takeEdges v b
    else if c.has CometFlag.fragment then s.takeFragment v c
    else s.remoteComet v c
  | .opened id time => s.takeOpen id time

/-- COMET_PACKET (R145, R147). -/
def State.cometRecords (s : State) (n pseq : Nat) (records : List LinkRecord) : State :=
  (records.take 24).foldl State.linkRecord (s.linkSeq n pseq)

/-- One record of an EVENT packet, `k` cycles after the first (R34, R441, R443): an event of its system channel, and on SY4 to SY7 the
trigger of a view too. -/
def State.linkEvent (s : State) (k channel time index : Nat) : State :=
  let e : Raised := { clk := s.clk + k, east := false, source := 0x190 + channel, data := index, time := time }
  let s1 := { s with fabric := { s.fabric with raised := s.fabric.raised ++ [e] } }
  if 4 ≤ channel then s1.remoteTrigger (channel - 4) index time else s1

/-- EVENT_PACKET (R145, R147, R443). -/
def State.linkEvents (s : State) (n pseq : Nat) (events : List (Nat × Nat × Nat)) : State :=
  let l := (events.take 64).filter (fun q => decide (q.1 < 8))
  (List.zip (List.range l.length) l).foldl (fun acc q => acc.linkEvent q.1 q.2.1 q.2.2.1 q.2.2.2) (s.linkSeq n pseq)

/-- LINK_STATUS (R33, R126, R147, R148): its PSEQ, and the partner's module ID; this module's own is refused with an alert when it first
comes. The partner's epoch has no object. -/
def State.linkStatusIn (s0 : State) (n pseq sender : Nat) : State :=
  let s := s0.linkSeq n pseq
  let s1 := (s.modLane n (fun x => { x with lastStatus := s.clk })).putNum (laneKey n 0x0E) (sender % 4)
  if sender % 4 = s.pins.id ∧ n ≠ 48 + s.pins.id ∧ s.num (laneKey n 0x0E) ≠ s.pins.id then s1.alert Alert.syslink else s1

/-- The 16 bytes of LINK_STATUS: module ID and last epoch (R145). -/
def State.linkStatusBytes (s : State) : Bytes := leBytes 1 s.pins.id ++ leBytes 2 s.ctl.staging.lastEpoch ++ zeros 13

/-- LINK_STATUS_SEND: on every system-link lane in ACTIVE (R145, R147). -/
def State.linkStatusOut (s : State) : State :=
  ((rangeFrom 48 s.ctl.part.syslinks).filter s.linkUsed).foldl (fun acc n =>
    acc.sendLink n 0x13 0 0 0 0 s.linkStatusBytes) s

/-- LINK_STATUS_TIMEOUT: 100 µs without one is an upset, and the lane realigns with no partner (R147). -/
def State.linkStatusLost (s : State) (n : Nat) : State :=
  if s.laneReceives n ∧ (s.lane n).lastStatus + 100000 ≤ s.clk then (s.putNum (laneKey n 0x0E) 0xFF).realign n else s

/-! ## Heartbeat -/

/-- The heartbeat period in ns, 0 when host loss is disabled (R88). -/
def State.heartbeatPeriod (s : State) : Nat := s.num Obj.hbPeriod * 1000000

/-- HEARTBEAT_LATE: half the period has passed (R88). -/
def State.heartbeatLate (s : State) : State :=
  let h := s.ctl.heartbeat
  if s.heartbeatPeriod ≠ 0 ∧ !h.late ∧ h.restart + s.heartbeatPeriod / 2 ≤ s.clk then
    ({ s with ctl := { s.ctl with heartbeat := { h with late := true } } }).event Ibi.heartbeatLate
  else s

/-- HOST_LOST: the whole period has passed (R89). -/
def State.hostLost (s : State) : State :=
  let h := s.ctl.heartbeat
  if s.heartbeatPeriod ≠ 0 ∧ !h.lost ∧ h.restart + s.heartbeatPeriod ≤ s.clk then
    let s1 := (({ s with ctl := { s.ctl with heartbeat := { h with lost := true } } }).bump Obj.hbLossCount).alert Alert.hostLost
    let s2 := (s1.journalOwn 10 [0]).testOff
    if s2.num Obj.hbAction = 1 ∧ s2.ctl.mode ≠ .recovery then ((s2.moduleResult Code.ok 0 0).overtake).setMode .recovery 1 else s2
  else s

end Sys2Proof.Machine
end

