-- ==== Sys2Proof/Machine/Commands.lean ====
section
/-! DEFINITION. What the commands need besides the shared operations: the requests that rows of the table stand for (R50),
and small effects that only one command has. -/

namespace Sys2Proof.Machine

/-! ## Requests -/

/-- A READ request; flag bit 1 asks for the staged value (R50, R52). -/
def Req.ofRead (index sub : Nat) (staged : Bool) : Req :=
  { opcode := Op.read, flags := if staged then 2 else 0, index := index, sub := sub, offset := 0, data := [] }

/-- A WRITE request (R50, R52). -/
def Req.ofWrite (index sub : Nat) (data : Bytes) : Req :=
  { opcode := Op.write, flags := 0, index := index, sub := sub, offset := 0, data := data }

/-- A WRITE of an unsigned value of `size` bytes to an object. -/
def Req.ofNumber (key size value : Nat) : Req := Req.ofWrite (key / 256) (key % 256) (leBytes size value)

/-- A request of a segmented or block transfer, or of a session; flag bit 0 is FINAL (R50, R64, R69 to R74). -/
def Req.ofSegment (opcode index sub offset : Nat) (final : Bool) (data : Bytes) : Req :=
  { opcode := opcode, flags := if final then 1 else 0, index := index, sub := sub, offset := offset, data := data }

/-! ## Effects of one command -/

/-- CAL_CAPTURE_TIMEOUT: no frame start within 10 s of the write (R194). -/
def State.captureTimeout (s : State) (p : Nat) : State :=
  match (s.region p).capture with
  | none => s
  | some c =>
    if c.frame = none ∧ c.writtenAt + 10000000000 ≤ s.clk then
      (s.modRegion p (fun g => { g with capture := none })).putNum (Obj.portCalCapture p) 3
    else s

/-- FW_PROGRAMMED: the slot that was being programmed is valid (R547, R548). -/
def State.imageProgrammed (s : State) (k : Nat) : State :=
  { s with ctl := { s.ctl with images := s.ctl.images.modify k (fun (x : Image) =>
    if x.writing then { x with valid := true, writing := false } else x) } }

/-- A Sync frame of a port (R456, R462, R464): on the SLAVE port one of the module's domain brings an offset. -/
def State.syncFrame (s : State) (p : Nat) (origin : Int) (f : PtpFields) : State :=
  if !s.ptpPort p f.transport then s.bump (Obj.ethRxDropped p)
  else if (s.eth p).ptpState = 9 ∧ s.ptpDomain f.domain then s.syncTaken p origin f.correction f.twoStep f.sequence
  else s.rx p

/-- An Announce frame of a port (R456, R462, R465). -/
def State.announceFrame (s : State) (p : Nat) (h : AnnounceHead) (rank : Nat) (utc : Int) : State :=
  if !s.ptpPort p h.transport then s.bump (Obj.ethRxDropped p)
  else if s.ptpDomain h.domain then s.announce p h.identity rank utc
  else s.rx p

end Sys2Proof.Machine
end

