-- ==== Sys2Proof/Machine/DictionaryCommands.lean ====
section
/-! DEFINITION. The commands of the dictionary paths, sessions and access levels (R42 to R79, R511, R551). -/

namespace Sys2Proof.Machine

/-- READ (R52, R549): flag bit 1 asks for the staged value. -/
def execRead (dt : Nat) (src : Src) (index sub : Nat) (staged : Bool) (s : State) : Host.Outcome State Fault Refusal :=
  s.run dt State.any (fun t => t.dictionary src (Req.ofRead index sub staged))

/-- WRITE (R42, R52). -/
def execWrite (dt : Nat) (src : Src) (index sub : Nat) (data : Bytes) (s : State) : Host.Outcome State Fault Refusal :=
  s.run dt State.any (fun t => t.dictionary src (Req.ofWrite index sub data))

/-- SEG_READ (R70). -/
def execSegRead (dt : Nat) (src : Src) (index sub offset : Nat) (s : State) : Host.Outcome State Fault Refusal :=
  s.run dt State.any (fun t => t.dictionary src (Req.ofSegment Op.segRead index sub offset false []))

/-- SEG_WRITE (R69): flag bit 0 is FINAL. -/
def execSegWrite (dt : Nat) (src : Src) (index sub offset : Nat) (final : Bool) (data : Bytes) (s : State) :
    Host.Outcome State Fault Refusal :=
  s.run dt State.any (fun t => t.dictionary src (Req.ofSegment Op.segWrite index sub offset final data))

/-- BLOCK_START (R71). -/
def execBlockStart (dt : Nat) (src : Src) (index sub : Nat) (data : Bytes) (s : State) :
    Host.Outcome State Fault Refusal :=
  s.run dt State.any (fun t => t.dictionary src (Req.ofSegment Op.blockStart index sub 0 false data))

/-- BLOCK_DATA (R72). -/
def execBlockData (dt : Nat) (src : Src) (index sub offset : Nat) (data : Bytes) (s : State) :
    Host.Outcome State Fault Refusal :=
  s.run dt State.any (fun t => t.dictionary src (Req.ofSegment Op.blockData index sub offset false data))

/-- BLOCK_END (R73). -/
def execBlockEnd (dt : Nat) (src : Src) (index sub : Nat) (data : Bytes) (s : State) :
    Host.Outcome State Fault Refusal :=
  s.run dt State.any (fun t => t.dictionary src (Req.ofSegment Op.blockEnd index sub 0 false data))

/-- BLOCK_READ (R74). -/
def execBlockRead (dt : Nat) (src : Src) (index sub offset : Nat) (s : State) : Host.Outcome State Fault Refusal :=
  s.run dt State.any (fun t => t.dictionary src (Req.ofSegment Op.blockRead index sub offset false []))

/-- SESSION_OPEN (R64): its SESSION field is 0. -/
def execSessionOpen (dt eth ip port seq : Nat) (data : Bytes) (s : State) : Host.Outcome State Fault Refusal :=
  s.run dt State.any (fun t => t.dictionary (.ydp eth ip port 0 seq) (Req.ofSegment Op.sessionOpen 0 0 0 false data))

/-- SESSION_CLOSE (R65). -/
def execSessionClose (dt : Nat) (src : Src) (s : State) : Host.Outcome State Fault Refusal :=
  s.run dt State.any (fun t => t.dictionary src (Req.ofSegment Op.sessionClose 0 0 0 false []))

/-- SESSION_IDLE (R65). -/
def execSessionIdle (dt number : Nat) (s : State) : Host.Outcome State Fault Refusal :=
  s.run dt State.unitsRun (fun t => t.sessionIdle number)

/-- FRAME_CHECK (R55): the bytes of a private write. -/
def execFrameCheck (dt : Nat) (frame : Bytes) (s : State) : Host.Outcome State Fault Refusal :=
  s.run dt State.any (fun t => t.frameBytes frame)

/-- DATAGRAM_DROP (R63): the bytes of a datagram to YDP_PORT. -/
def execDatagramDrop (dt : Nat) (packet : UdpPacket) (s : State) :
    Host.Outcome State Fault Refusal :=
  s.run dt State.any (fun t => t.datagramBytes packet.eth packet.ip packet.port packet.bytes packet.checksumOk)

/-- RESPONSE_READ (R57). -/
def execResponseRead (dt : Nat) (s : State) : Host.Outcome State Fault Refusal :=
  s.run dt State.any (fun t => t.responseRead)

/-- IBI_DELIVERY (R59). -/
def execIbiDelivery (dt : Nat) (s : State) : Host.Outcome State Fault Refusal :=
  s.run dt State.any (fun t => t.ibiDelivery)

/-- SETDASA (R54): the dynamic address assigned from the static address. -/
def execSetdasa (dt address : Nat) (s : State) : Host.Outcome State Fault Refusal :=
  s.run dt State.any (fun t => t.setAddress address)

/-- ENTDAA (R54): the dynamic address assigned by arbitration. -/
def execEntdaa (dt address : Nat) (s : State) : Host.Outcome State Fault Refusal :=
  s.run dt State.any (fun t => t.setAddress address)

/-- WAKE_TRANSFER (R61): the one-byte private write. -/
def execWakeTransfer (dt : Nat) (byte : Byte) (s : State) : Host.Outcome State Fault Refusal :=
  s.run dt State.any (fun t => t.wakeTransfer byte)

/-- YDP_PORT (R551). -/
def execYdpPort (dt : Nat) (src : Src) (value : Nat) (s : State) : Host.Outcome State Fault Refusal :=
  s.run dt State.any (fun t => t.dictionary src (Req.ofNumber Obj.ydpYdpPort 2 value))

/-- CHALLENGE (R44): a read of it. -/
def execChallenge (dt : Nat) (src : Src) (s : State) : Host.Outcome State Fault Refusal :=
  s.run dt State.any (fun t => t.dictionary src (Req.ofRead (Obj.accChallenge / 256) (Obj.accChallenge % 256) false))

/-- RESPONSE (R44). -/
def execResponse (dt : Nat) (src : Src) (value : Nat) (s : State) : Host.Outcome State Fault Refusal :=
  s.run dt State.any (fun t => t.dictionary src (Req.ofNumber Obj.accResponse 4 value))

/-- NONCE_EXPIRY (R44). -/
def execNonceExpiry (dt : Nat) (session : SessId) (s : State) : Host.Outcome State Fault Refusal :=
  s.run dt State.unitsRun (fun t => t.nonceExpiry session)

/-- LOCKOUT_END (R45). -/
def execLockoutEnd (dt : Nat) (s : State) : Host.Outcome State Fault Refusal :=
  s.run dt State.unitsRun (fun t => t.lockoutEnd)

/-- DROP_LEVEL (R43). -/
def execDropLevel (dt : Nat) (src : Src) (value : Nat) (s : State) : Host.Outcome State Fault Refusal :=
  s.run dt State.any (fun t => t.dictionary src (Req.ofNumber Obj.accDropLevel 1 value))

/-- RESTORE_DEFAULTS (R48). -/
def execRestoreDefaults (dt : Nat) (src : Src) (value : Nat) (s : State) : Host.Outcome State Fault Refusal :=
  s.run dt State.any (fun t => t.dictionary src (Req.ofNumber Obj.accRestoreDefaults 4 value))

/-- RC_CLEAR (R511): a write of an RC object. -/
def execRcClear (dt : Nat) (src : Src) (index sub : Nat) (data : Bytes) (s : State) :
    Host.Outcome State Fault Refusal :=
  s.run dt State.any (fun t => t.dictionary src (Req.ofWrite index sub data))

/-- ACK (R79): the ACK object of a result object is its subindex 2. -/
def execAck (dt : Nat) (src : Src) (index seq : Nat) (s : State) : Host.Outcome State Fault Refusal :=
  s.run dt State.any (fun t => t.dictionary src (Req.ofNumber (objKey (index % 65536) 2) 4 seq))

end Sys2Proof.Machine
end

