-- ==== Sys2Proof/Machine/ConfigurationCommands.lean ====
section
/-! DEFINITION. The commands of heartbeat, staging, commits, journal and error log (R88 to R110, R510). -/

namespace Sys2Proof.Machine

/-- HEARTBEAT (R88, R90). -/
def execHeartbeat (dt : Nat) (src : Src) (value : Nat) (s : State) : Host.Outcome State Fault Refusal :=
  s.run dt State.any (fun t => t.dictionary src (Req.ofNumber Obj.hbHeartbeat 1 value))

/-- PERIOD (R88). -/
def execPeriod (dt : Nat) (src : Src) (value : Nat) (s : State) : Host.Outcome State Fault Refusal :=
  s.run dt State.any (fun t => t.dictionary src (Req.ofNumber Obj.hbPeriod 4 value))

/-- HEARTBEAT_LATE (R88). -/
def execHeartbeatLate (dt : Nat) (s : State) : Host.Outcome State Fault Refusal :=
  s.run dt State.unitsRun (fun t => t.heartbeatLate)

/-- HOST_LOST (R89). -/
def execHostLost (dt : Nat) (s : State) : Host.Outcome State Fault Refusal :=
  s.run dt State.unitsRun (fun t => t.hostLost)

/-- OPEN (R91). -/
def execOpenStaging (dt : Nat) (src : Src) (s : State) : Host.Outcome State Fault Refusal :=
  s.run dt State.any (fun t => t.dictionary src (Req.ofNumber Obj.stgStaging 1 1))

/-- RELEASE (R91, R92). -/
def execReleaseStaging (dt : Nat) (src : Src) (s : State) : Host.Outcome State Fault Refusal :=
  s.run dt State.any (fun t => t.dictionary src (Req.ofNumber Obj.stgStaging 1 2))

/-- SEIZE (R91). -/
def execSeize (dt : Nat) (src : Src) (s : State) : Host.Outcome State Fault Refusal :=
  s.run dt State.any (fun t => t.dictionary src (Req.ofNumber Obj.stgStaging 1 3))

/-- STAGING_IDLE (R92). -/
def execStagingIdle (dt : Nat) (s : State) : Host.Outcome State Fault Refusal :=
  s.run dt State.unitsRun (fun t => t.stagingIdle)

/-- COMMIT (R96). -/
def execCommit (dt : Nat) (src : Src) (s : State) : Host.Outcome State Fault Refusal :=
  s.run dt State.any (fun t => t.dictionary src (Req.ofNumber Obj.cmCommit 1 1))

/-- CHECK_ONLY (R96). -/
def execCheckOnly (dt : Nat) (src : Src) (s : State) : Host.Outcome State Fault Refusal :=
  s.run dt State.any (fun t => t.dictionary src (Req.ofNumber Obj.cmCommit 1 2))

/-- COMMIT_CHECK_END (R97). -/
def execCommitCheckEnd (dt : Nat) (s : State) : Host.Outcome State Fault Refusal :=
  s.run dt State.unitsRun (fun t => t.commitCheckEnd)

/-- COMMIT_INSTANT (R26). -/
def execCommitInstant (dt : Nat) (s : State) : Host.Outcome State Fault Refusal :=
  s.run dt State.unitsRun (fun t => t.fullTimeInstant)

/-- DIGEST_START (R109). -/
def execDigestStart (dt : Nat) (src : Src) (value : Nat) (s : State) : Host.Outcome State Fault Refusal :=
  s.run dt State.any (fun t => t.dictionary src (Req.ofNumber Obj.jrDigestStart 1 value))

/-- DIGEST_RESULT (R109). -/
def execDigestResult (dt : Nat) (s : State) : Host.Outcome State Fault Refusal :=
  s.run dt State.unitsRun (fun t => t.digestResult)

/-- MIRROR_WRITE (R105). -/
def execMirrorWrite (dt : Nat) (s : State) : Host.Outcome State Fault Refusal :=
  s.run dt State.any (fun t => t.mirrorWrite)

/-- LOG_WRITE (R510). -/
def execLogWrite (dt : Nat) (s : State) : Host.Outcome State Fault Refusal :=
  s.run dt State.any (fun t => t.logWrite)

end Sys2Proof.Machine
end

