-- ==== Sys2Proof/Machine/PowerCommands.lean ====
section
/-! DEFINITION. The commands of supply, boot, HALT, thermal protection and power states (R474 to R498, R518, R540 to R546). -/

namespace Sys2Proof.Machine

/-- POWER_UP (R540). -/
def execPowerUp (dt vinMv : Nat) (id bootsel : Nat) (s : State) : Host.Outcome State Fault Refusal :=
  s.run dt State.any (fun t => t.powerUp vinMv id (decide (bootsel ≠ 0)))

/-- BOOT_START (R541). -/
def execBootStart (dt : Nat) (inputs : BootInputs) (s : State) : Host.Outcome State Fault Refusal :=
  s.run dt State.any (fun t => t.bootStart inputs)

/-- FIRMWARE_TIMEOUT (R546). -/
def execFirmwareTimeout (dt : Nat) (s : State) : Host.Outcome State Fault Refusal :=
  s.run dt State.any (fun t => t.firmwareTimeout)

/-- RESET_N_ASSERT (R518). -/
def execResetNAssert (dt : Nat) (s : State) : Host.Outcome State Fault Refusal :=
  s.run dt State.any (fun t => t.resetAssert)

/-- RESET_N_RISE (R518). -/
def execResetNRise (dt id bootsel : Nat) (s : State) : Host.Outcome State Fault Refusal :=
  s.run dt State.any (fun t => t.resetRise id (decide (bootsel ≠ 0)))

/-- BROWN_OUT (R475). -/
def execBrownOut (dt : Nat) (s : State) : Host.Outcome State Fault Refusal :=
  s.run dt State.any (fun t => t.brownOut)

/-- SUPPLY_FAULT (R476). -/
def execSupplyFault (dt : Nat) (s : State) : Host.Outcome State Fault Refusal :=
  s.run dt State.any (fun t => t.supplyFault)

/-- SUPPLY_RETURN (R477). -/
def execSupplyReturn (dt : Nat) (s : State) : Host.Outcome State Fault Refusal :=
  s.run dt State.any (fun t => t.supplyReturn)

/-- THERMAL_TRIP (R496): sensors 0 to 7 stand on die W, 8 to 15 on die E. -/
def execThermalTrip (dt sensor : Nat) (s : State) : Host.Outcome State Fault Refusal :=
  s.run dt (fun t => decide (sensor < 8) || (decide (sensor < 16) && t.ctl.part.hasEast)) (fun t => t.thermalTrip)

/-- THERMAL_RESTART (R497). -/
def execThermalRestart (dt : Nat) (s : State) : Host.Outcome State Fault Refusal :=
  s.run dt State.any (fun t => t.thermalRestart)

/-- PLL_LOSS (R488). -/
def execPllLoss (dt : Nat) (s : State) : Host.Outcome State Fault Refusal :=
  s.run dt State.any (fun t => t.dieLoss)

/-- HOUSEKEEPING_ROUND (R490). -/
def execHousekeepingRound (dt : Nat) (readings : List Nat) (s : State) : Host.Outcome State Fault Refusal :=
  s.run dt State.any (fun t => t.housekeeping readings)

/-- GUARANTEE_HELD (R351). -/
def execGuaranteeHeld (dt : Nat) (s : State) : Host.Outcome State Fault Refusal :=
  s.run dt State.unitsRun (fun t => t.guaranteeHeld)

/-- IDLE_TIMER (R481). -/
def execIdleTimer (dt : Nat) (s : State) : Host.Outcome State Fault Refusal :=
  s.run dt State.unitsRun (fun t => t.stepDown)

/-- SELF_REFRESH_ENTRY (R390). -/
def execSelfRefreshEntry (dt pch : Nat) (s : State) : Host.Outcome State Fault Refusal :=
  s.run dt (fun t => t.ctl.mode.operating && decide (pch < t.ctl.part.pchs)) (fun t => t.selfRefresh pch)

/-- DEEP_ENTRY (R484). -/
def execDeepEntry (dt : Nat) (s : State) : Host.Outcome State Fault Refusal :=
  s.run dt State.unitsRun (fun t => t.deepEntry)

/-- WAKE (R482). -/
def execWake (dt : Nat) (cause : WakeCause) (s : State) : Host.Outcome State Fault Refusal :=
  s.run dt (fun t => t.ctl.mode.operating) (fun t => t.wake cause)

/-- DEEP_EXIT (R484). -/
def execDeepExit (dt tcxoCycles : Nat) (s : State) : Host.Outcome State Fault Refusal :=
  s.run dt (fun t => t.ctl.mode.operating) (fun t => t.deepExit tcxoCycles)

/-- STANDBY_WAKE (R487). -/
def execStandbyWake (dt : Nat) (cause : WakeCause) (s : State) : Host.Outcome State Fault Refusal :=
  s.run dt State.any (fun t => t.standbyWake cause)

/-- PIPELINE_GATE (R479). -/
def execPipelineGate (dt region : Nat) (s : State) : Host.Outcome State Fault Refusal :=
  s.run dt State.unitsRun (fun t => t.pipelineGate region)

/-- TILE_LIGHT (R294). -/
def execTileLight (dt tile : Nat) (s : State) : Host.Outcome State Fault Refusal :=
  s.run dt (fun t => t.unitsRun && decide (tile < t.ctl.part.tiles)) (fun t => t.tileLight tile)

end Sys2Proof.Machine
end

