-- ==== Sys2Proof/Machine/LinkCommands.lean ====
section
/-! DEFINITION. The commands of lanes, camera links and system link (R110 to R148, R232 to R234, R290, R347, R443). -/

namespace Sys2Proof.Machine

/-- NO_SIGNAL (R141). -/
def execNoSignal (dt lane : Nat) (s : State) : Host.Outcome State Fault Refusal :=
  s.run dt (fun t => t.unitsRun && t.laneFitted lane) (fun t => t.laneNoSignal lane)

/-- SIGNAL_DETECT (R143). -/
def execSignalDetect (dt lane : Nat) (s : State) : Host.Outcome State Fault Refusal :=
  s.run dt (fun t => t.unitsRun && t.laneFitted lane) (fun t => t.laneSignal lane)

/-- ALIGNED (R111). -/
def execAligned (dt lane : Nat) (s : State) : Host.Outcome State Fault Refusal :=
  s.run dt (fun t => t.unitsRun && t.laneFitted lane) (fun t => t.laneAligned lane)

/-- ALIGNMENT_LOSS (R111, R116). -/
def execAlignmentLoss (dt lane : Nat) (crc : Bool) (s : State) : Host.Outcome State Fault Refusal :=
  s.run dt (fun t => t.unitsRun && t.laneFitted lane) (fun t => t.alignmentLoss lane crc)

/-- LANE_EXIT (R114). -/
def execLaneExit (dt lane : Nat) (s : State) : Host.Outcome State Fault Refusal :=
  s.run dt (fun t => t.unitsRun && t.laneFitted lane) (fun t => t.laneExit lane)

/-- EYE_MEASURE (R113). -/
def execEyeMeasure (dt lane height width : Nat) (s : State) : Host.Outcome State Fault Refusal :=
  s.run dt (fun t => t.unitsRun && t.laneFitted lane) (fun t => t.eyeRound lane height width)

/-- EYE_FLOOR (R116). -/
def execEyeFloor (dt lane : Nat) (s : State) : Host.Outcome State Fault Refusal :=
  s.run dt (fun t => t.unitsRun && t.laneFitted lane) (fun t => t.eyeFloor lane)

/-- EYE_SCAN (R118). -/
def execEyeScan (dt : Nat) (src : Src) (lane dwell : Nat) (s : State) : Host.Outcome State Fault Refusal :=
  s.run dt (fun _ => decide (lane < 52)) (fun t => t.dictionary src (Req.ofNumber (laneKey lane 0x0C) 2 dwell))

/-- EYE_SCAN_DONE (R118). -/
def execEyeScanDone (dt : Nat) (counts : List Nat) (s : State) : Host.Outcome State Fault Refusal :=
  s.run dt State.unitsRun (fun t => t.scanDone counts)

/-- ADOPT (R144). -/
def execAdopt (dt : Nat) (src : Src) (port value : Nat) (s : State) : Host.Outcome State Fault Refusal :=
  s.run dt (fun _ => decide (port < 12)) (fun t => t.dictionary src (Req.ofNumber (Obj.portAdopt port) 1 value))

/-- REG_READ (R134): REG_ACCESS with bit 7 clear. -/
def execRegRead (dt : Nat) (src : Src) (port words : Nat) (s : State) : Host.Outcome State Fault Refusal :=
  s.run dt (fun _ => decide (port < 12))
    (fun t => t.dictionary src (Req.ofNumber (Obj.portRegAccess port) 1 (words % 128)))

/-- REG_WRITE (R134): REG_ACCESS with bit 7 set. -/
def execRegWrite (dt : Nat) (src : Src) (port words : Nat) (s : State) : Host.Outcome State Fault Refusal :=
  s.run dt (fun _ => decide (port < 12))
    (fun t => t.dictionary src (Req.ofNumber (Obj.portRegAccess port) 1 (128 + words % 128)))

/-- REG_TIMEOUT (R134). -/
def execRegTimeout (dt port : Nat) (s : State) : Host.Outcome State Fault Refusal :=
  s.run dt (fun t => t.unitsRun && t.portFitted port) (fun t => t.regTimeout port)

/-- REG_RESPONSE (R134): the outstanding TAG decides; the answer of another TAG is none. -/
def execRegResponse (dt : Nat) (head : PacketHead) (tag _address status : Nat) (data : Bytes) (s : State) :
    Host.Outcome State Fault Refusal :=
  s.run dt (fun t => t.unitsRun && t.packetComes head.port head.lane)
    (fun t => (t.packetHeader head.port head.lane head.tail.pseq head.tail.camStatus).regAnswer head.port (some tag) status data)

/-- LINE_PACKET (R137): on a lane of the quad of an HLP port. -/
def execLinePacket (dt port lane : Nat) (header : HlpHeader) (payload : Bytes) (crcOk : Bool) (s : State) :
    Host.Outcome State Fault Refusal :=
  s.run dt (fun t => t.unitsRun && t.hlpReceives port lane) (fun t => t.hlpLine port lane header payload crcOk)

/-- CAMERA_EVENT (R122). -/
def execCameraEvent (dt : Nat) (head : PacketHead) (payload : Bytes) (s : State) : Host.Outcome State Fault Refusal :=
  s.run dt (fun t => t.unitsRun && t.packetComes head.port head.lane)
    (fun t => (t.packetHeader head.port head.lane head.tail.pseq head.tail.camStatus).cameraEvent head.port payload)

/-- STATUS_PACKET (R128). -/
def execStatusPacket (dt port lane : Nat) (tail : PacketTail) (s : State) : Host.Outcome State Fault Refusal :=
  s.run dt (fun t => t.unitsRun && t.hlpReceives port lane) (fun t => t.hlpHeader port lane tail.pseq tail.camStatus)

/-- CXP_IMAGE_PACKET (R135, R136). -/
def execCxpImagePacket (dt port : Nat) (kind : CxpKind) (header : CxpHeader) (payload : Bytes)
    (s : State) : Host.Outcome State Fault Refusal :=
  s.run dt (fun t => t.unitsRun && t.cxpReceives port)
    (fun t => t.cxpImage port kind header.width header.bits header.bands header.slice payload)

/-- CXP_CONTROL_RESPONSE (R135). -/
def execCxpControlResponse (dt port status : Nat) (data : Bytes) (s : State) : Host.Outcome State Fault Refusal :=
  s.run dt (fun t => t.unitsRun && t.cxpReceives port) (fun t => t.cxpControl port status data)

/-- TRIG_ACK (R135). -/
def execTrigAck (dt port : Nat) (s : State) : Host.Outcome State Fault Refusal :=
  s.run dt (fun t => t.unitsRun && t.cxpReceives port) (fun t => t.bump (Obj.portTrigAcks port))

/-- CXP_HEARTBEAT (R135). -/
def execCxpHeartbeat (dt port time : Nat) (s : State) : Host.Outcome State Fault Refusal :=
  s.run dt (fun t => t.unitsRun && t.cxpReceives port) (fun t => t.putNum (Obj.portCameraTime port) (time % 2 ^ 64))

/-- REASM_WINDOW (R137). -/
def execReasmWindow (dt port index : Nat) (s : State) : Host.Outcome State Fault Refusal :=
  s.run dt (fun t => t.unitsRun && t.portFitted port) (fun t => t.windowPassed port index)

/-- SEAM (R232). -/
def execSeam (dt lane view index offset pseq : Nat) (last : Bool) (payload : Bytes) (s : State) :
    Host.Outcome State Fault Refusal :=
  s.run dt (fun t => t.unitsRun && t.linkTakes lane && decide (view < 4))
    (fun t => t.seamPacket lane view index offset pseq last payload)

/-- COMET_PACKET (R347). -/
def execCometPacket (dt lane pseq : Nat) (records : List LinkRecord) (s : State) : Host.Outcome State Fault Refusal :=
  s.run dt (fun t => t.unitsRun && t.linkTakes lane) (fun t => t.cometRecords lane pseq records)

/-- EVENT_PACKET (R443). -/
def execEventPacket (dt lane pseq : Nat) (events : List (Nat × Nat × Nat)) (s : State) :
    Host.Outcome State Fault Refusal :=
  s.run dt (fun t => t.unitsRun && t.linkTakes lane) (fun t => t.linkEvents lane pseq events)

/-- LINK_STATUS (R147); `epoch` is the last epoch of the partner, which no object shows. -/
def execLinkStatus (dt : Nat) (head : LinkHead) (sender _epoch : Nat) (s : State) : Host.Outcome State Fault Refusal :=
  s.run dt (fun t => t.unitsRun && t.linkUsed head.lane && t.laneReceives head.lane)
    (fun t => t.linkStatusIn head.lane head.pseq sender)

/-- LINK_STATUS_SEND (R147). -/
def execLinkStatusSend (dt : Nat) (s : State) : Host.Outcome State Fault Refusal :=
  s.run dt State.unitsRun (fun t => t.linkStatusOut)

/-- LINK_STATUS_TIMEOUT (R147). -/
def execLinkStatusTimeout (dt lane : Nat) (s : State) : Host.Outcome State Fault Refusal :=
  s.run dt (fun t => t.unitsRun && t.linkUsed lane && t.laneReceives lane)
    (fun t => t.linkStatusLost lane)

/-- SEAM_LATE (R234). -/
def execSeamLate (dt view index : Nat) (s : State) : Host.Outcome State Fault Refusal :=
  s.run dt (fun t => t.unitsRun && decide (view < 4)) (fun t => t.seamLateNow view index)

/-- EDGE_LATE (R290). -/
def execEdgeLate (dt view index : Nat) (s : State) : Host.Outcome State Fault Refusal :=
  s.run dt (fun t => t.unitsRun && decide (view < 4)) (fun t => t.edgeLateNow view index)

end Sys2Proof.Machine
end

