-- ==== Sys2Proof/Machine/TriggerCommands.lean ====
section
/-! DEFINITION. The commands of triggers, encoders and divided outputs (R149 to R173). -/

namespace Sys2Proof.Machine

/-- TRIG_END (R156). -/
def execTrigEnd (dt view : Nat) (s : State) : Host.Outcome State Fault Refusal :=
  s.run dt (fun t => t.unitsRun && decide (view < 4)) (fun t => t.trigEnd view)

/-- COUNT_EDGE (R162, R163): the levels of A and B and the samples for which they have stood there. -/
def execCountEdge (dt channel samples : Nat) (levels : EdgeLevels) (s : State) : Host.Outcome State Fault Refusal :=
  s.run dt (fun _ => decide (channel < 4)) (fun t => t.edgeSeen channel samples levels.a levels.b)

/-- INDEX_EDGE (R162, R167). -/
def execIndexEdge (dt : Nat) (edge : IndexEdge) (s : State) : Host.Outcome State Fault Refusal :=
  s.run dt (fun t => t.unitsRun && decide (edge.channel < 4)) (fun t => t.indexEdge edge.channel edge.samples)

/-- SPEED_TIMEOUT (R166). -/
def execSpeedTimeout (dt channel : Nat) (s : State) : Host.Outcome State Fault Refusal :=
  s.run dt (fun t => t.unitsRun && decide (channel < 4)) (fun t => t.encTimeout channel)

/-- SYNTHETIC_COUNT (R168). -/
def execSyntheticCount (dt channel : Nat) (s : State) : Host.Outcome State Fault Refusal :=
  s.run dt (fun t => t.unitsRun && decide (channel < 4)) (fun t => t.syntheticCount channel)

/-- POSITION_SET (R167). -/
def execPositionSet (dt : Nat) (src : Src) (channel value : Nat) (s : State) : Host.Outcome State Fault Refusal :=
  s.run dt (fun _ => decide (channel < 4))
    (fun t => t.dictionary src (Req.ofNumber (Obj.encPositionSet channel) 4 value))

/-- PGO_PULSE (R169). -/
def execPgoPulse (dt output : Nat) (s : State) : Host.Outcome State Fault Refusal :=
  s.run dt State.unitsRun (fun t => t.pgoPulse output)

/-- TRIGGER_HELD_ISSUE (R150). -/
def execTriggerHeldIssue (dt view : Nat) (s : State) : Host.Outcome State Fault Refusal :=
  s.run dt (fun t => t.unitsRun && decide (view < 4)) (fun t => t.heldIssue view)

/-- FRAME_LINES (R155). -/
def execFrameLines (dt : Nat) (src : Src) (view value : Nat) (s : State) : Host.Outcome State Fault Refusal :=
  s.run dt (fun _ => decide (view < 4)) (fun t => t.dictionary src (Req.ofNumber (Obj.trgFrameLines view) 4 value))

end Sys2Proof.Machine
end

