-- ==== Sys2Proof/Machine/ImageCommands.lean ====
section
/-! DEFINITION. The commands of line correction, stitching and the release of comets (R174 to R292, R343). -/

namespace Sys2Proof.Machine

/-- LINE_CORRECTION (R174). -/
def execLineCorrection (dt port : Nat) (s : State) : Host.Outcome State Fault Refusal :=
  s.run dt (fun t => t.unitsRun && t.portFitted port) (fun t => t.lineThrough port)

/-- CAL_CAPTURE of 1 (R194). -/
def execCalCaptureDark (dt : Nat) (src : Src) (port : Nat) (s : State) : Host.Outcome State Fault Refusal :=
  s.run dt (fun _ => decide (port < 12)) (fun t => t.dictionary src (Req.ofNumber (Obj.portCalCapture port) 1 1))

/-- CAL_CAPTURE of 2 (R194). -/
def execCalCaptureFlat (dt : Nat) (src : Src) (port : Nat) (s : State) : Host.Outcome State Fault Refusal :=
  s.run dt (fun _ => decide (port < 12)) (fun t => t.dictionary src (Req.ofNumber (Obj.portCalCapture port) 1 2))

/-- CAL_CAPTURE_TIMEOUT (R194). -/
def execCalCaptureTimeout (dt port : Nat) (s : State) : Host.Outcome State Fault Refusal :=
  s.run dt (fun t => t.unitsRun && t.portFitted port) (fun t => t.captureTimeout port)

/-- STITCH_LINE (R228): `eccCells` are the table words found in error, by region and word, and whether each could be
corrected (R264). -/
def execStitchLine (dt view : Nat) (eccCells : List (Nat × Nat × Bool)) (s : State) :
    Host.Outcome State Fault Refusal :=
  s.run dt (fun t => t.unitsRun && decide (view < 4)) (fun t => t.stitchNext view eccCells)

/-- COMET_RELEASE (R282). -/
def execCometRelease (dt view : Nat) (s : State) : Host.Outcome State Fault Refusal :=
  s.run dt (fun t => t.unitsRun && decide (view < 4)) (fun t => t.cometRelease view)

/-- FUSE_HOLD (R343). -/
def execFuseHold (dt comet : Nat) (s : State) : Host.Outcome State Fault Refusal :=
  s.run dt State.unitsRun (fun t => t.fuseHold comet)

end Sys2Proof.Machine
end

