-- ==== Sys2Proof/Machine/ClassifierCommands.lean ====
section
/-! DEFINITION. The commands of sort tables, the brick array, regions and model slots (R248 to R327, R11). -/

namespace Sys2Proof.Machine

/-- HIST_CLEAR (R265). -/
def execHistClear (dt : Nat) (src : Src) (view mask : Nat) (s : State) : Host.Outcome State Fault Refusal :=
  s.run dt (fun _ => decide (view < 4)) (fun t => t.dictionary src (Req.ofNumber (Obj.viewHistClear view) 1 mask))

/-- BUILD (R266). -/
def execBuild (dt : Nat) (src : Src) (view mask : Nat) (s : State) : Host.Outcome State Fault Refusal :=
  s.run dt (fun _ => decide (view < 4)) (fun t => t.dictionary src (Req.ofNumber (Obj.viewBuild view) 1 mask))

/-- BUILD_UNIT (R324). -/
def execBuildUnit (dt view tile brick : Nat) (s : State) : Host.Outcome State Fault Refusal :=
  s.run dt (fun t => t.unitsRun && decide (view < 4)) (fun t => t.buildUnit view tile brick)

/-- BUILD_TIMEOUT (R267). -/
def execBuildTimeout (dt view : Nat) (s : State) : Host.Outcome State Fault Refusal :=
  s.run dt (fun t => t.unitsRun && decide (view < 4)) (fun t => t.buildTimeout view)

/-- TABLE_VERIFY (R256, R262): the region copies of a bank; `mismatches` counts, by region, the checks of its copy that have failed. -/
def execTableVerify (dt : Nat) (bank : ViewBank) (mismatches : List (Nat × Nat)) (s : State) :
    Host.Outcome State Fault Refusal :=
  s.run dt (fun t => t.unitsRun && decide (bank.view < 4) && decide (bank.bank < 2))
    (fun t => (t.tableVerify bank.view bank.bank mismatches).tableReads bank.view bank.bank)

/-- DISPATCH (R315). -/
def execDispatch (dt : Nat) (s : State) : Host.Outcome State Fault Refusal :=
  s.run dt State.unitsRun (fun t => t.dispatch)

/-- CROP_FETCH (R311). -/
def execCropFetch (dt tile brick : Nat) (s : State) : Host.Outcome State Fault Refusal :=
  s.run dt State.unitsRun (fun t => t.cropFetch tile brick)

/-- RUN_END (R317). -/
def execRunEnd (dt tile brick : Nat) (s : State) : Host.Outcome State Fault Refusal :=
  s.run dt State.unitsRun (fun t => t.runEnd tile brick)

/-- T_DEC_EXPIRY (R314). -/
def execTDecExpiry (dt comet : Nat) (s : State) : Host.Outcome State Fault Refusal :=
  s.run dt State.unitsRun (fun t => t.tDecExpiry comet)

/-- BRICK_UPSET (R318). -/
def execBrickUpset (dt tile brick : Nat) (s : State) : Host.Outcome State Fault Refusal :=
  s.run dt State.unitsRun (fun t => t.brickUpset tile brick)

/-- SRAM_ERROR (R295). -/
def execSramError (dt tile : Nat) (corrected : Bool) (slot : Nat) (s : State) : Host.Outcome State Fault Refusal :=
  s.run dt State.unitsRun (fun t => t.sramError tile corrected slot)

/-- TILE_RESET (R10). -/
def execTileReset (dt tile : Nat) (s : State) : Host.Outcome State Fault Refusal :=
  s.run dt State.unitsRun (fun t => t.tileReset tile)

/-- REGION_RESET (R11). -/
def execRegionReset (dt region : Nat) (s : State) : Host.Outcome State Fault Refusal :=
  s.run dt State.unitsRun (fun t => t.regionReset region)

/-- MODEL_CHECK (R305). -/
def execModelCheck (dt slot : Nat) (s : State) : Host.Outcome State Fault Refusal :=
  s.run dt (fun t => t.unitsRun && decide (slot < 8)) (fun t => t.modelCheck slot)

/-- NOR_STORED (R307). -/
def execNorStored (dt slot : Nat) (s : State) : Host.Outcome State Fault Refusal :=
  s.run dt (fun t => t.unitsRun && decide (slot < 8)) (fun t => t.norStored slot)

/-- CLEAR (R303). -/
def execClear (dt : Nat) (src : Src) (slot value : Nat) (s : State) : Host.Outcome State Fault Refusal :=
  s.run dt (fun _ => decide (slot < 8)) (fun t => t.dictionary src (Req.ofNumber (Obj.slotClear slot) 1 value))

end Sys2Proof.Machine
end

