-- ==== Sys2Proof/Machine/ValveCommands.lean ====
section
/-! DEFINITION. The commands of valve buses and timed outputs (R357 to R376). -/

namespace Sys2Proof.Machine

/-- TICK_START (R358). -/
def execTickStart (dt bus : Nat) (s : State) : Host.Outcome State Fault Refusal :=
  s.run dt State.unitsRun (fun t => t.tickStart bus)

/-- STATUS_FRAME (R366). -/
def execStatusFrame (dt bus : Nat) (frame : Bytes) (s : State) : Host.Outcome State Fault Refusal :=
  s.run dt State.unitsRun (fun t => t.statusFrame bus frame)

/-- STATUS_JUDGE (R366). -/
def execStatusJudge (dt bus : Nat) (s : State) : Host.Outcome State Fault Refusal :=
  s.run dt State.unitsRun (fun t => t.statusJudge bus)

/-- VB_PRES_ASSERT (R367). -/
def execVbPresAssert (dt bus : Nat) (s : State) : Host.Outcome State Fault Refusal :=
  s.run dt State.any (fun t => t.vbPresent bus)

/-- VB_PRES_RELEASE (R367). -/
def execVbPresRelease (dt bus : Nat) (s : State) : Host.Outcome State Fault Refusal :=
  s.run dt State.any (fun t => t.vbAbsent bus)

/-- BUS_START_IDLE (R367). -/
def execBusStartIdle (dt bus : Nat) (s : State) : Host.Outcome State Fault Refusal :=
  s.run dt State.unitsRun (fun t => t.busStartIdle bus)

/-- TEST_ENABLE (R369). -/
def execTestEnable (dt : Nat) (src : Src) (bus value : Nat) (s : State) : Host.Outcome State Fault Refusal :=
  s.run dt (fun _ => decide (bus < 4)) (fun t => t.dictionary src (Req.ofNumber (Obj.vbTestEnable bus) 1 value))

/-- SAFE_N_ASSERT (R370). -/
def execSafeNAssert (dt : Nat) (s : State) : Host.Outcome State Fault Refusal :=
  s.run dt State.any (fun t => t.safeAssert)

/-- SAFE_N_RELEASE (R370). -/
def execSafeNRelease (dt : Nat) (s : State) : Host.Outcome State Fault Refusal :=
  s.run dt State.any (fun t => t.safeRelease)

/-- TIMED_EDGE (R372); in DEEP too, where the edge is discarded (R374). -/
def execTimedEdge (dt output : Nat) (s : State) : Host.Outcome State Fault Refusal :=
  s.run dt (fun t => t.ctl.mode.operating && decide (output < 16)) (fun t => t.timedEdge output)

/-- EDGES (R373). -/
def execEdges (dt : Nat) (src : Src) (output : Nat) (data : Bytes) (s : State) : Host.Outcome State Fault Refusal :=
  s.run dt (fun _ => decide (output < 16))
    (fun t => t.dictionary src (Req.ofWrite (Obj.toutEdges output / 256) (Obj.toutEdges output % 256) data))

/-- FLUSH (R373). -/
def execFlush (dt : Nat) (src : Src) (output value : Nat) (s : State) : Host.Outcome State Fault Refusal :=
  s.run dt (fun _ => decide (output < 16)) (fun t => t.dictionary src (Req.ofNumber (Obj.toutFlush output) 1 value))

end Sys2Proof.Machine
end

