-- ==== Sys2Proof/Machine/MemoryCommands.lean ====
section
/-! DEFINITION. The commands of HBM, DMA, codec, check units and the event fabric (R377 to R454). -/

namespace Sys2Proof.Machine

/-- HBM_REQUEST (R382): a write of whole bursts with its data, or a read of one; `outcome` is how the stack answers. -/
def execHbmRequest (dt port pch pa : Nat) (data : Option Bytes) (outcome : HbmOutcome) (s : State) :
    Host.Outcome State Fault Refusal :=
  s.run dt (fun t => t.unitsRun && decide (pch < t.ctl.part.pchs) && decide (port < 7))
    (fun t => (t.hbmRequest port pch (pa % 2 ^ 29) data outcome).stacksReviewed)

/-- LINE_WRITE_DROP (R385). -/
def execLineWriteDrop (dt region : Nat) (s : State) : Host.Outcome State Fault Refusal :=
  s.run dt State.unitsRun (fun t => t.lineWriteDrop region)

/-- STACK_TEMPERATURE (R386). -/
def execStackTemperature (dt stack : Nat) (celsius : Int) (s : State) : Host.Outcome State Fault Refusal :=
  s.run dt (fun t => t.unitsRun && decide (stack < t.ctl.part.stacks)) (fun t => t.stackTemperature stack celsius)

/-- REFRESH (R388). -/
def execRefresh (dt pch : Nat) (s : State) : Host.Outcome State Fault Refusal :=
  s.run dt (fun t => t.unitsRun && decide (pch < t.ctl.part.pchs)) (fun t => t.hbmRefresh pch)

/-- POWER_DOWN (R389). -/
def execPowerDown (dt pch : Nat) (s : State) : Host.Outcome State Fault Refusal :=
  s.run dt (fun t => t.unitsRun && decide (pch < t.ctl.part.pchs)) (fun t => t.hbmPowerDown pch)

/-- PATROL_SCRUB (R396). -/
def execPatrolScrub (dt pch : Nat) (outcome : HbmOutcome) (s : State) : Host.Outcome State Fault Refusal :=
  s.run dt (fun t => t.unitsRun && decide (pch < t.ctl.part.pchs)) (fun t => (t.patrolScrub pch outcome).stacksReviewed)

/-- START (R422). -/
def execStart (dt : Nat) (src : Src) (channel descriptor : Nat) (s : State) : Host.Outcome State Fault Refusal :=
  s.run dt (fun _ => decide (channel < 32))
    (fun t => t.dictionary src (Req.ofNumber (Obj.dchStart channel) 2 descriptor))

/-- STOP (R420). -/
def execStop (dt : Nat) (src : Src) (channel value : Nat) (s : State) : Host.Outcome State Fault Refusal :=
  s.run dt (fun _ => decide (channel < 32)) (fun t => t.dictionary src (Req.ofNumber (Obj.dchStop channel) 1 value))

/-- FLIGHT_ENTRY (R416). -/
def execFlightEntry (dt : Nat) (s : State) : Host.Outcome State Fault Refusal :=
  s.run dt State.unitsRun (fun t => t.flightEntry)

/-- DESCRIPTOR_FETCH (R412). -/
def execDescriptorFetch (dt channel : Nat) (s : State) : Host.Outcome State Fault Refusal :=
  s.run dt State.unitsRun (fun t => t.dmaFetch channel)

/-- FOLLOW_READY (R415). -/
def execFollowReady (dt channel : Nat) (s : State) : Host.Outcome State Fault Refusal :=
  s.run dt State.unitsRun (fun t => t.followReady channel)

/-- DESCRIPTOR_DONE (R419). -/
def execDescriptorDone (dt channel : Nat) (s : State) : Host.Outcome State Fault Refusal :=
  s.run dt State.unitsRun (fun t => t.descriptorDone channel)

/-- BUS_ERROR (R423). -/
def execBusError (dt channel : Nat) (s : State) : Host.Outcome State Fault Refusal :=
  s.run dt State.unitsRun (fun t => t.busError channel)

/-- CODEC_BLOCK (R425); `selfCheckFails` is the outcome of the codec's self-check. -/
def execCodecBlock (dt : Nat) (selfCheckFails : Bool) (s : State) : Host.Outcome State Fault Refusal :=
  s.run dt State.unitsRun (fun t => t.codecBlock selfCheckFails)

/-- CHECK_UNIT_GRANT (R434). -/
def execCheckUnitGrant (dt unit : Nat) (s : State) : Host.Outcome State Fault Refusal :=
  s.run dt (fun t => t.unitsRun && decide (unit < 4)) (fun t => t.grantUnit unit)

/-- EVENT_DELIVERY (R442). -/
def execEventDelivery (dt : Nat) (s : State) : Host.Outcome State Fault Refusal :=
  s.run dt State.unitsRun (fun t => t.eventDelivery)

end Sys2Proof.Machine
end

