-- ==== Sys2Proof/Machine/NetworkCommands.lean ====
section
/-! DEFINITION. The commands of Ethernet, PTP and time (R455 to R473). -/

namespace Sys2Proof.Machine

/-- ETH_LINK_UP (R457). -/
def execEthLinkUp (dt port : Nat) (s : State) : Host.Outcome State Fault Refusal :=
  s.run dt (fun t => t.netRuns && decide (port < 2)) (fun t => t.ethUp port)

/-- ETH_LINK_DOWN (R455). -/
def execEthLinkDown (dt port : Nat) (s : State) : Host.Outcome State Fault Refusal :=
  s.run dt State.netRuns (fun t => t.ethDown port)

/-- ARP_FRAME (R457). -/
def execArpFrame (dt port : Nat) (kind : ArpKind) (senderIp senderMac targetIp : Nat) (s : State) :
    Host.Outcome State Fault Refusal :=
  s.run dt (fun t => t.netRuns && (t.eth port).up) (fun t => t.arpFrame port kind senderIp senderMac targetIp)

/-- ICMP_ECHO (R456). -/
def execIcmpEcho (dt port sourceIp : Nat) (payload : Bytes) (s : State) : Host.Outcome State Fault Refusal :=
  s.run dt (fun t => t.netRuns && (t.eth port).up) (fun t => t.icmpEcho port sourceIp payload)

/-- ARP_RETRY (R457). -/
def execArpRetry (dt port ip : Nat) (s : State) : Host.Outcome State Fault Refusal :=
  s.run dt State.netRuns (fun t => t.arpRetry port ip)

/-- ARP_REFRESH (R457). -/
def execArpRefresh (dt port ip : Nat) (s : State) : Host.Outcome State Fault Refusal :=
  s.run dt State.netRuns (fun t => t.arpRefresh port ip)

/-- ARP_EXPIRY (R457). -/
def execArpExpiry (dt port ip : Nat) (s : State) : Host.Outcome State Fault Refusal :=
  s.run dt State.netRuns (fun t => t.arpExpiry port ip)

/-- SYNC (R463, R464): the time it left the master and its correction in ns, and whether a Follow_Up brings that time. -/
def execSync (dt port : Nat) (origin : Int) (fields : PtpFields) (s : State) : Host.Outcome State Fault Refusal :=
  s.run dt (fun t => t.netRuns && (t.eth port).up) (fun t => t.syncFrame port origin fields)

/-- ANNOUNCE (R465). -/
def execAnnounce (dt port : Nat) (source : AnnounceHead) (rank : Nat) (utcOffset : Int) (s : State) :
    Host.Outcome State Fault Refusal :=
  s.run dt (fun t => t.netRuns && (t.eth port).up) (fun t => t.announceFrame port source rank utcOffset)

/-- PTP_MESSAGE (R462). -/
def execPtpMessage (dt port : Nat) (message : PtpMessage) (s : State) :
    Host.Outcome State Fault Refusal :=
  s.run dt (fun t => t.netRuns && (t.eth port).up)
    (fun t => t.ptpMessage port message.kind message.time message.fields)

/-- PTP_SEND (R462). -/
def execPtpSend (dt port : Nat) (kind : PtpSendKind) (s : State) : Host.Outcome State Fault Refusal :=
  s.run dt (fun t => t.netRuns && (t.eth port).up) (fun t => t.ptpSend port kind)

/-- SYNC_TIMEOUT (R465). -/
def execSyncTimeout (dt : Nat) (s : State) : Host.Outcome State Fault Refusal :=
  s.run dt State.unitsRun (fun t => t.syncTimeout)

/-- ANNOUNCE_TIMEOUT (R465). -/
def execAnnounceTimeout (dt port : Nat) (s : State) : Host.Outcome State Fault Refusal :=
  s.run dt State.unitsRun (fun t => t.announceTimeout port)

/-- STEP (R467). -/
def execStep (dt : Nat) (src : Src) (value : Nat) (s : State) : Host.Outcome State Fault Refusal :=
  s.run dt State.any (fun t => t.dictionary src (Req.ofNumber Obj.timeStep 1 value))

/-- STEP_WITHDRAW (R467). -/
def execStepWithdraw (dt : Nat) (s : State) : Host.Outcome State Fault Refusal :=
  s.run dt State.unitsRun (fun t => t.stepWithdraw)

/-- RX_DROPPED (R456). -/
def execRxDropped (dt : Nat) (packet : RxPacket) (s : State) : Host.Outcome State Fault Refusal :=
  s.run dt (fun t => t.netRuns && (t.eth packet.port).up) (fun t => t.rxDrop packet.port packet.frame)

end Sys2Proof.Machine
end

