-- ==== Sys2Proof/Machine/PanelCommands.lean ====
section
/-! DEFINITION. The commands of keys, touch channels, lamps and camera power (R515 to R539). -/

namespace Sys2Proof.Machine

/-- KEY_PRESS (R487, R525). -/
def execKeyPress (dt key : Nat) (s : State) : Host.Outcome State Fault Refusal :=
  s.run dt (fun _ => decide (key < 8)) (fun t => t.keySeen key)

/-- KEY_RELEASE (R525). -/
def execKeyRelease (dt key : Nat) (s : State) : Host.Outcome State Fault Refusal :=
  s.run dt (fun _ => decide (key < 8)) (fun t => t.keyRelease key)

/-- LONG_PRESS (R526). -/
def execLongPress (dt key : Nat) (s : State) : Host.Outcome State Fault Refusal :=
  s.run dt (fun _ => decide (key < 8)) (fun t => t.longPress key)

/-- TOUCH_SCAN (R528). -/
def execTouchScan (dt : Nat) (raw : List Nat) (s : State) : Host.Outcome State Fault Refusal :=
  s.run dt State.any (fun t => t.touchScan raw)

/-- TOUCH_STUCK (R531). -/
def execTouchStuck (dt channel : Nat) (s : State) : Host.Outcome State Fault Refusal :=
  s.run dt (fun _ => decide (channel < 4)) (fun t => t.touchStuck channel)

/-- LAMP_BLINK (R532). -/
def execLampBlink (dt lamp : Nat) (s : State) : Host.Outcome State Fault Refusal :=
  s.run dt State.any (fun t => t.lampBlink lamp)

/-- CAMPWR_FLT (R534). -/
def execCampwrFlt (dt port : Nat) (s : State) : Host.Outcome State Fault Refusal :=
  s.run dt (fun _ => decide (port < 12)) (fun t => t.camFault port)

/-- PWR_RETRY (R534). -/
def execPwrRetry (dt port : Nat) (s : State) : Host.Outcome State Fault Refusal :=
  s.run dt (fun _ => decide (port < 12)) (fun t => t.pwrRetry port)

/-- PWR_STAGGER (R533). -/
def execPwrStagger (dt : Nat) (s : State) : Host.Outcome State Fault Refusal :=
  s.run dt State.any (fun t => t.pwrStagger)

/-- PWR_ENABLE (R533). -/
def execPwrEnable (dt : Nat) (src : Src) (port value : Nat) (s : State) : Host.Outcome State Fault Refusal :=
  s.run dt (fun _ => decide (port < 12)) (fun t => t.dictionary src (Req.ofNumber (Obj.camPwrEnable port) 1 value))

/-- PWR_RESET (R534). -/
def execPwrReset (dt : Nat) (src : Src) (port value : Nat) (s : State) : Host.Outcome State Fault Refusal :=
  s.run dt (fun _ => decide (port < 12)) (fun t => t.dictionary src (Req.ofNumber (Obj.camPwrReset port) 1 value))

end Sys2Proof.Machine
end

