-- ==== Sys2Proof/Machine/FaultCommands.lean ====
section
/-! DEFINITION. The commands of retirement, firmware images and fatal faults (R12, R501 to R514, R546 to R548). -/

namespace Sys2Proof.Machine

/-- CLEAR_RETIREMENTS (R504). -/
def execClearRetirements (dt : Nat) (src : Src) (value : Nat) (s : State) : Host.Outcome State Fault Refusal :=
  s.run dt State.any (fun t => t.dictionary src (Req.ofNumber Obj.fltClearRetirements 1 value))

/-- PREFERRED (R548). -/
def execPreferred (dt : Nat) (src : Src) (value : Nat) (s : State) : Host.Outcome State Fault Refusal :=
  s.run dt State.any (fun t => t.dictionary src (Req.ofNumber Obj.fwPreferred 1 value))

/-- FW_PROGRAMMED (R548). -/
def execFwProgrammed (dt slot : Nat) (s : State) : Host.Outcome State Fault Refusal :=
  s.run dt (fun t => t.ctl.mode.operating) (fun t => t.imageProgrammed slot)

/-- DIE_BRIDGE_FAILURE (R12). -/
def execDieBridgeFailure (dt : Nat) (s : State) : Host.Outcome State Fault Refusal :=
  s.run dt State.any (fun t => t.dieLoss)

/-- WATCHDOG (R9). -/
def execWatchdog (dt : Nat) (s : State) : Host.Outcome State Fault Refusal :=
  s.run dt State.any (fun t => t.watchdog)

/-- DMA_PARITY_ERROR (R503). -/
def execDmaParityError (dt channel : Nat) (s : State) : Host.Outcome State Fault Refusal :=
  s.run dt (fun t => t.unitsRun && decide (channel < 32)) (fun t => t.dmaParity channel)

/-- EVENT_CHANNEL_PARITY_ERROR (R503). -/
def execEventChannelParityError (dt channel : Nat) (s : State) : Host.Outcome State Fault Refusal :=
  s.run dt State.unitsRun (fun t => t.channelParity channel)

end Sys2Proof.Machine
end

