-- ==== Sys2Proof/Machine/Dispatch.lean ====
section
/-! DEFINITION. What each command does: one arm for each constructor of `Instr`. -/

namespace Sys2Proof.Machine

open Sys2Proof

def exec (i : Instr) (s : State) : Host.Outcome State Fault Refusal :=
  match i with
  | .read dt src index sub staged => Sys2Proof.Machine.execRead dt src index sub staged s
  | .write dt src index sub data => Sys2Proof.Machine.execWrite dt src index sub data s
  | .segRead dt src index sub offset => Sys2Proof.Machine.execSegRead dt src index sub offset s
  | .segWrite dt src index sub offset final data => Sys2Proof.Machine.execSegWrite dt src index sub offset final data s
  | .blockStart dt src index sub data => Sys2Proof.Machine.execBlockStart dt src index sub data s
  | .blockData dt src index sub offset data => Sys2Proof.Machine.execBlockData dt src index sub offset data s
  | .blockEnd dt src index sub data => Sys2Proof.Machine.execBlockEnd dt src index sub data s
  | .blockRead dt src index sub offset => Sys2Proof.Machine.execBlockRead dt src index sub offset s
  | .sessionOpen dt eth ip port seq data => Sys2Proof.Machine.execSessionOpen dt eth ip port seq data s
  | .sessionClose dt src => Sys2Proof.Machine.execSessionClose dt src s
  | .sessionIdle dt number => Sys2Proof.Machine.execSessionIdle dt number s
  | .frameCheck dt frame => Sys2Proof.Machine.execFrameCheck dt frame s
  | .datagramDrop dt packet => Sys2Proof.Machine.execDatagramDrop dt packet s
  | .responseRead dt => Sys2Proof.Machine.execResponseRead dt s
  | .ibiDelivery dt => Sys2Proof.Machine.execIbiDelivery dt s
  | .setdasa dt address => Sys2Proof.Machine.execSetdasa dt address s
  | .entdaa dt address => Sys2Proof.Machine.execEntdaa dt address s
  | .wakeTransfer dt byte => Sys2Proof.Machine.execWakeTransfer dt byte s
  | .ydpPort dt src value => Sys2Proof.Machine.execYdpPort dt src value s
  | .challenge dt src => Sys2Proof.Machine.execChallenge dt src s
  | .response dt src value => Sys2Proof.Machine.execResponse dt src value s
  | .nonceExpiry dt session => Sys2Proof.Machine.execNonceExpiry dt session s
  | .lockoutEnd dt => Sys2Proof.Machine.execLockoutEnd dt s
  | .dropLevel dt src value => Sys2Proof.Machine.execDropLevel dt src value s
  | .restoreDefaults dt src value => Sys2Proof.Machine.execRestoreDefaults dt src value s
  | .rcClear dt src index sub data => Sys2Proof.Machine.execRcClear dt src index sub data s
  | .ack dt src index seq => Sys2Proof.Machine.execAck dt src index seq s
  | .heartbeat dt src value => Sys2Proof.Machine.execHeartbeat dt src value s
  | .period dt src value => Sys2Proof.Machine.execPeriod dt src value s
  | .heartbeatLate dt => Sys2Proof.Machine.execHeartbeatLate dt s
  | .hostLost dt => Sys2Proof.Machine.execHostLost dt s
  | .openStaging dt src => Sys2Proof.Machine.execOpenStaging dt src s
  | .releaseStaging dt src => Sys2Proof.Machine.execReleaseStaging dt src s
  | .seize dt src => Sys2Proof.Machine.execSeize dt src s
  | .stagingIdle dt => Sys2Proof.Machine.execStagingIdle dt s
  | .commit dt src => Sys2Proof.Machine.execCommit dt src s
  | .checkOnly dt src => Sys2Proof.Machine.execCheckOnly dt src s
  | .commitCheckEnd dt => Sys2Proof.Machine.execCommitCheckEnd dt s
  | .commitInstant dt => Sys2Proof.Machine.execCommitInstant dt s
  | .digestStart dt src value => Sys2Proof.Machine.execDigestStart dt src value s
  | .digestResult dt => Sys2Proof.Machine.execDigestResult dt s
  | .mirrorWrite dt => Sys2Proof.Machine.execMirrorWrite dt s
  | .logWrite dt => Sys2Proof.Machine.execLogWrite dt s
  | .powerUp dt vinMv id bootsel => Sys2Proof.Machine.execPowerUp dt vinMv id bootsel s
  | .bootStart dt inputs => Sys2Proof.Machine.execBootStart dt inputs s
  | .firmwareTimeout dt => Sys2Proof.Machine.execFirmwareTimeout dt s
  | .resetNAssert dt => Sys2Proof.Machine.execResetNAssert dt s
  | .resetNRise dt id bootsel => Sys2Proof.Machine.execResetNRise dt id bootsel s
  | .brownOut dt => Sys2Proof.Machine.execBrownOut dt s
  | .supplyFault dt => Sys2Proof.Machine.execSupplyFault dt s
  | .supplyReturn dt => Sys2Proof.Machine.execSupplyReturn dt s
  | .thermalTrip dt sensor => Sys2Proof.Machine.execThermalTrip dt sensor s
  | .thermalRestart dt => Sys2Proof.Machine.execThermalRestart dt s
  | .pllLoss dt => Sys2Proof.Machine.execPllLoss dt s
  | .housekeepingRound dt readings => Sys2Proof.Machine.execHousekeepingRound dt readings s
  | .guaranteeHeld dt => Sys2Proof.Machine.execGuaranteeHeld dt s
  | .idleTimer dt => Sys2Proof.Machine.execIdleTimer dt s
  | .selfRefreshEntry dt pch => Sys2Proof.Machine.execSelfRefreshEntry dt pch s
  | .deepEntry dt => Sys2Proof.Machine.execDeepEntry dt s
  | .wake dt cause => Sys2Proof.Machine.execWake dt cause s
  | .deepExit dt tcxoCycles => Sys2Proof.Machine.execDeepExit dt tcxoCycles s
  | .standbyWake dt cause => Sys2Proof.Machine.execStandbyWake dt cause s
  | .pipelineGate dt region => Sys2Proof.Machine.execPipelineGate dt region s
  | .tileLight dt tile => Sys2Proof.Machine.execTileLight dt tile s
  | .noSignal dt lane => Sys2Proof.Machine.execNoSignal dt lane s
  | .signalDetect dt lane => Sys2Proof.Machine.execSignalDetect dt lane s
  | .aligned dt lane => Sys2Proof.Machine.execAligned dt lane s
  | .alignmentLoss dt lane crc => Sys2Proof.Machine.execAlignmentLoss dt lane crc s
  | .laneExit dt lane => Sys2Proof.Machine.execLaneExit dt lane s
  | .eyeMeasure dt lane height width => Sys2Proof.Machine.execEyeMeasure dt lane height width s
  | .eyeFloor dt lane => Sys2Proof.Machine.execEyeFloor dt lane s
  | .eyeScan dt src lane dwell => Sys2Proof.Machine.execEyeScan dt src lane dwell s
  | .eyeScanDone dt counts => Sys2Proof.Machine.execEyeScanDone dt counts s
  | .adopt dt src port value => Sys2Proof.Machine.execAdopt dt src port value s
  | .regRead dt src port words => Sys2Proof.Machine.execRegRead dt src port words s
  | .regWrite dt src port words => Sys2Proof.Machine.execRegWrite dt src port words s
  | .regTimeout dt port => Sys2Proof.Machine.execRegTimeout dt port s
  | .regResponse dt head tag address status data => Sys2Proof.Machine.execRegResponse dt head tag address status data s
  | .linePacket dt port lane header payload crcOk => Sys2Proof.Machine.execLinePacket dt port lane header payload crcOk s
  | .cameraEvent dt head payload => Sys2Proof.Machine.execCameraEvent dt head payload s
  | .statusPacket dt port lane tail => Sys2Proof.Machine.execStatusPacket dt port lane tail s
  | .cxpImagePacket dt port kind header payload => Sys2Proof.Machine.execCxpImagePacket dt port kind header payload s
  | .cxpControlResponse dt port status data => Sys2Proof.Machine.execCxpControlResponse dt port status data s
  | .trigAck dt port => Sys2Proof.Machine.execTrigAck dt port s
  | .cxpHeartbeat dt port time => Sys2Proof.Machine.execCxpHeartbeat dt port time s
  | .reasmWindow dt port index => Sys2Proof.Machine.execReasmWindow dt port index s
  | .trigEnd dt view => Sys2Proof.Machine.execTrigEnd dt view s
  | .seam dt lane view index offset pseq last payload => Sys2Proof.Machine.execSeam dt lane view index offset pseq last payload s
  | .cometPacket dt lane pseq records => Sys2Proof.Machine.execCometPacket dt lane pseq records s
  | .eventPacket dt lane pseq events => Sys2Proof.Machine.execEventPacket dt lane pseq events s
  | .linkStatus dt head sender epoch => Sys2Proof.Machine.execLinkStatus dt head sender epoch s
  | .linkStatusSend dt => Sys2Proof.Machine.execLinkStatusSend dt s
  | .linkStatusTimeout dt lane => Sys2Proof.Machine.execLinkStatusTimeout dt lane s
  | .seamLate dt view index => Sys2Proof.Machine.execSeamLate dt view index s
  | .edgeLate dt view index => Sys2Proof.Machine.execEdgeLate dt view index s
  | .countEdge dt channel samples levels => Sys2Proof.Machine.execCountEdge dt channel samples levels s
  | .indexEdge dt edge => Sys2Proof.Machine.execIndexEdge dt edge s
  | .speedTimeout dt channel => Sys2Proof.Machine.execSpeedTimeout dt channel s
  | .syntheticCount dt channel => Sys2Proof.Machine.execSyntheticCount dt channel s
  | .positionSet dt src channel value => Sys2Proof.Machine.execPositionSet dt src channel value s
  | .pgoPulse dt output => Sys2Proof.Machine.execPgoPulse dt output s
  | .triggerHeldIssue dt view => Sys2Proof.Machine.execTriggerHeldIssue dt view s
  | .frameLines dt src view value => Sys2Proof.Machine.execFrameLines dt src view value s
  | .lineCorrection dt port => Sys2Proof.Machine.execLineCorrection dt port s
  | .calCaptureDark dt src port => Sys2Proof.Machine.execCalCaptureDark dt src port s
  | .calCaptureFlat dt src port => Sys2Proof.Machine.execCalCaptureFlat dt src port s
  | .calCaptureTimeout dt port => Sys2Proof.Machine.execCalCaptureTimeout dt port s
  | .stitchLine dt view eccCells => Sys2Proof.Machine.execStitchLine dt view eccCells s
  | .cometRelease dt view => Sys2Proof.Machine.execCometRelease dt view s
  | .fuseHold dt comet => Sys2Proof.Machine.execFuseHold dt comet s
  | .histClear dt src view mask => Sys2Proof.Machine.execHistClear dt src view mask s
  | .build dt src view mask => Sys2Proof.Machine.execBuild dt src view mask s
  | .buildUnit dt view tile brick => Sys2Proof.Machine.execBuildUnit dt view tile brick s
  | .buildTimeout dt view => Sys2Proof.Machine.execBuildTimeout dt view s
  | .tableVerify dt bank mismatches => Sys2Proof.Machine.execTableVerify dt bank mismatches s
  | .dispatch dt => Sys2Proof.Machine.execDispatch dt s
  | .cropFetch dt tile brick => Sys2Proof.Machine.execCropFetch dt tile brick s
  | .runEnd dt tile brick => Sys2Proof.Machine.execRunEnd dt tile brick s
  | .tDecExpiry dt comet => Sys2Proof.Machine.execTDecExpiry dt comet s
  | .brickUpset dt tile brick => Sys2Proof.Machine.execBrickUpset dt tile brick s
  | .sramError dt tile corrected slot => Sys2Proof.Machine.execSramError dt tile corrected slot s
  | .tileReset dt tile => Sys2Proof.Machine.execTileReset dt tile s
  | .regionReset dt region => Sys2Proof.Machine.execRegionReset dt region s
  | .modelCheck dt slot => Sys2Proof.Machine.execModelCheck dt slot s
  | .norStored dt slot => Sys2Proof.Machine.execNorStored dt slot s
  | .clear dt src slot value => Sys2Proof.Machine.execClear dt src slot value s
  | .tickStart dt bus => Sys2Proof.Machine.execTickStart dt bus s
  | .statusFrame dt bus frame => Sys2Proof.Machine.execStatusFrame dt bus frame s
  | .statusJudge dt bus => Sys2Proof.Machine.execStatusJudge dt bus s
  | .vbPresAssert dt bus => Sys2Proof.Machine.execVbPresAssert dt bus s
  | .vbPresRelease dt bus => Sys2Proof.Machine.execVbPresRelease dt bus s
  | .busStartIdle dt bus => Sys2Proof.Machine.execBusStartIdle dt bus s
  | .testEnable dt src bus value => Sys2Proof.Machine.execTestEnable dt src bus value s
  | .safeNAssert dt => Sys2Proof.Machine.execSafeNAssert dt s
  | .safeNRelease dt => Sys2Proof.Machine.execSafeNRelease dt s
  | .timedEdge dt output => Sys2Proof.Machine.execTimedEdge dt output s
  | .edges dt src output data => Sys2Proof.Machine.execEdges dt src output data s
  | .flush dt src output value => Sys2Proof.Machine.execFlush dt src output value s
  | .hbmRequest dt port pch pa data outcome => Sys2Proof.Machine.execHbmRequest dt port pch pa data outcome s
  | .lineWriteDrop dt region => Sys2Proof.Machine.execLineWriteDrop dt region s
  | .stackTemperature dt stack celsius => Sys2Proof.Machine.execStackTemperature dt stack celsius s
  | .refresh dt pch => Sys2Proof.Machine.execRefresh dt pch s
  | .powerDown dt pch => Sys2Proof.Machine.execPowerDown dt pch s
  | .patrolScrub dt pch outcome => Sys2Proof.Machine.execPatrolScrub dt pch outcome s
  | .start dt src channel descriptor => Sys2Proof.Machine.execStart dt src channel descriptor s
  | .stop dt src channel value => Sys2Proof.Machine.execStop dt src channel value s
  | .flightEntry dt => Sys2Proof.Machine.execFlightEntry dt s
  | .descriptorFetch dt channel => Sys2Proof.Machine.execDescriptorFetch dt channel s
  | .followReady dt channel => Sys2Proof.Machine.execFollowReady dt channel s
  | .descriptorDone dt channel => Sys2Proof.Machine.execDescriptorDone dt channel s
  | .busError dt channel => Sys2Proof.Machine.execBusError dt channel s
  | .codecBlock dt selfCheckFails => Sys2Proof.Machine.execCodecBlock dt selfCheckFails s
  | .checkUnitGrant dt unit => Sys2Proof.Machine.execCheckUnitGrant dt unit s
  | .eventDelivery dt => Sys2Proof.Machine.execEventDelivery dt s
  | .ethLinkUp dt port => Sys2Proof.Machine.execEthLinkUp dt port s
  | .ethLinkDown dt port => Sys2Proof.Machine.execEthLinkDown dt port s
  | .arpFrame dt port kind senderIp senderMac targetIp => Sys2Proof.Machine.execArpFrame dt port kind senderIp senderMac targetIp s
  | .icmpEcho dt port sourceIp payload => Sys2Proof.Machine.execIcmpEcho dt port sourceIp payload s
  | .arpRetry dt port ip => Sys2Proof.Machine.execArpRetry dt port ip s
  | .arpRefresh dt port ip => Sys2Proof.Machine.execArpRefresh dt port ip s
  | .arpExpiry dt port ip => Sys2Proof.Machine.execArpExpiry dt port ip s
  | .sync dt port origin fields => Sys2Proof.Machine.execSync dt port origin fields s
  | .announce dt port source rank utcOffset => Sys2Proof.Machine.execAnnounce dt port source rank utcOffset s
  | .ptpMessage dt port message => Sys2Proof.Machine.execPtpMessage dt port message s
  | .ptpSend dt port kind => Sys2Proof.Machine.execPtpSend dt port kind s
  | .syncTimeout dt => Sys2Proof.Machine.execSyncTimeout dt s
  | .announceTimeout dt port => Sys2Proof.Machine.execAnnounceTimeout dt port s
  | .step dt src value => Sys2Proof.Machine.execStep dt src value s
  | .stepWithdraw dt => Sys2Proof.Machine.execStepWithdraw dt s
  | .keyPress dt key => Sys2Proof.Machine.execKeyPress dt key s
  | .keyRelease dt key => Sys2Proof.Machine.execKeyRelease dt key s
  | .longPress dt key => Sys2Proof.Machine.execLongPress dt key s
  | .touchScan dt raw => Sys2Proof.Machine.execTouchScan dt raw s
  | .touchStuck dt channel => Sys2Proof.Machine.execTouchStuck dt channel s
  | .lampBlink dt lamp => Sys2Proof.Machine.execLampBlink dt lamp s
  | .campwrFlt dt port => Sys2Proof.Machine.execCampwrFlt dt port s
  | .pwrRetry dt port => Sys2Proof.Machine.execPwrRetry dt port s
  | .pwrStagger dt => Sys2Proof.Machine.execPwrStagger dt s
  | .pwrEnable dt src port value => Sys2Proof.Machine.execPwrEnable dt src port value s
  | .pwrReset dt src port value => Sys2Proof.Machine.execPwrReset dt src port value s
  | .clearRetirements dt src value => Sys2Proof.Machine.execClearRetirements dt src value s
  | .preferred dt src value => Sys2Proof.Machine.execPreferred dt src value s
  | .fwProgrammed dt slot => Sys2Proof.Machine.execFwProgrammed dt slot s
  | .dieBridgeFailure dt => Sys2Proof.Machine.execDieBridgeFailure dt s
  | .watchdog dt => Sys2Proof.Machine.execWatchdog dt s
  | .dmaParityError dt channel => Sys2Proof.Machine.execDmaParityError dt channel s
  | .eventChannelParityError dt channel => Sys2Proof.Machine.execEventChannelParityError dt channel s
  | .rxDropped dt packet => Sys2Proof.Machine.execRxDropped dt packet s

end Sys2Proof.Machine
end

