-- ==== Sys2Proof/Safety.lean ====
section
/-! DEFINITION. The words that the statements are made in: what a command carries, when it completes, what it keeps, and the
invariant of the module's stores. -/

namespace Sys2Proof

open Machine

/-- The time that a command lets pass before its effect (log entry 1). -/
def Instr.dt : Instr → Nat
  | .read dt _ _ _ _ => dt
  | .write dt _ _ _ _ => dt
  | .segRead dt _ _ _ _ => dt
  | .segWrite dt _ _ _ _ _ _ => dt
  | .blockStart dt _ _ _ _ => dt
  | .blockData dt _ _ _ _ _ => dt
  | .blockEnd dt _ _ _ _ => dt
  | .blockRead dt _ _ _ _ => dt
  | .sessionOpen dt _ _ _ _ _ => dt
  | .sessionClose dt _ => dt
  | .sessionIdle dt _ => dt
  | .frameCheck dt _ => dt
  | .datagramDrop dt _ => dt
  | .responseRead dt => dt
  | .ibiDelivery dt => dt
  | .setdasa dt _ => dt
  | .entdaa dt _ => dt
  | .wakeTransfer dt _ => dt
  | .ydpPort dt _ _ => dt
  | .challenge dt _ => dt
  | .response dt _ _ => dt
  | .nonceExpiry dt _ => dt
  | .lockoutEnd dt => dt
  | .dropLevel dt _ _ => dt
  | .restoreDefaults dt _ _ => dt
  | .rcClear dt _ _ _ _ => dt
  | .ack dt _ _ _ => dt
  | .heartbeat dt _ _ => dt
  | .period dt _ _ => dt
  | .heartbeatLate dt => dt
  | .hostLost dt => dt
  | .openStaging dt _ => dt
  | .releaseStaging dt _ => dt
  | .seize dt _ => dt
  | .stagingIdle dt => dt
  | .commit dt _ => dt
  | .checkOnly dt _ => dt
  | .commitCheckEnd dt => dt
  | .commitInstant dt => dt
  | .digestStart dt _ _ => dt
  | .digestResult dt => dt
  | .mirrorWrite dt => dt
  | .logWrite dt => dt
  | .powerUp dt _ _ _ => dt
  | .bootStart dt _ => dt
  | .firmwareTimeout dt => dt
  | .resetNAssert dt => dt
  | .resetNRise dt _ _ => dt
  | .brownOut dt => dt
  | .supplyFault dt => dt
  | .supplyReturn dt => dt
  | .thermalTrip dt _ => dt
  | .thermalRestart dt => dt
  | .pllLoss dt => dt
  | .housekeepingRound dt _ => dt
  | .guaranteeHeld dt => dt
  | .idleTimer dt => dt
  | .selfRefreshEntry dt _ => dt
  | .deepEntry dt => dt
  | .wake dt _ => dt
  | .deepExit dt _ => dt
  | .standbyWake dt _ => dt
  | .pipelineGate dt _ => dt
  | .tileLight dt _ => dt
  | .noSignal dt _ => dt
  | .signalDetect dt _ => dt
  | .aligned dt _ => dt
  | .alignmentLoss dt _ _ => dt
  | .laneExit dt _ => dt
  | .eyeMeasure dt _ _ _ => dt
  | .eyeFloor dt _ => dt
  | .eyeScan dt _ _ _ => dt
  | .eyeScanDone dt _ => dt
  | .adopt dt _ _ _ => dt
  | .regRead dt _ _ _ => dt
  | .regWrite dt _ _ _ => dt
  | .regTimeout dt _ => dt
  | .regResponse dt _ _ _ _ _ => dt
  | .linePacket dt _ _ _ _ _ => dt
  | .cameraEvent dt _ _ => dt
  | .statusPacket dt _ _ _ => dt
  | .cxpImagePacket dt _ _ _ _ => dt
  | .cxpControlResponse dt _ _ _ => dt
  | .trigAck dt _ => dt
  | .cxpHeartbeat dt _ _ => dt
  | .reasmWindow dt _ _ => dt
  | .trigEnd dt _ => dt
  | .seam dt _ _ _ _ _ _ _ => dt
  | .cometPacket dt _ _ _ => dt
  | .eventPacket dt _ _ _ => dt
  | .linkStatus dt _ _ _ => dt
  | .linkStatusSend dt => dt
  | .linkStatusTimeout dt _ => dt
  | .seamLate dt _ _ => dt
  | .edgeLate dt _ _ => dt
  | .countEdge dt _ _ _ => dt
  | .indexEdge dt _ => dt
  | .speedTimeout dt _ => dt
  | .syntheticCount dt _ => dt
  | .positionSet dt _ _ _ => dt
  | .pgoPulse dt _ => dt
  | .triggerHeldIssue dt _ => dt
  | .frameLines dt _ _ _ => dt
  | .lineCorrection dt _ => dt
  | .calCaptureDark dt _ _ => dt
  | .calCaptureFlat dt _ _ => dt
  | .calCaptureTimeout dt _ => dt
  | .stitchLine dt _ _ => dt
  | .cometRelease dt _ => dt
  | .fuseHold dt _ => dt
  | .histClear dt _ _ _ => dt
  | .build dt _ _ _ => dt
  | .buildUnit dt _ _ _ => dt
  | .buildTimeout dt _ => dt
  | .tableVerify dt _ _ => dt
  | .dispatch dt => dt
  | .cropFetch dt _ _ => dt
  | .runEnd dt _ _ => dt
  | .tDecExpiry dt _ => dt
  | .brickUpset dt _ _ => dt
  | .sramError dt _ _ _ => dt
  | .tileReset dt _ => dt
  | .regionReset dt _ => dt
  | .modelCheck dt _ => dt
  | .norStored dt _ => dt
  | .clear dt _ _ _ => dt
  | .tickStart dt _ => dt
  | .statusFrame dt _ _ => dt
  | .statusJudge dt _ => dt
  | .vbPresAssert dt _ => dt
  | .vbPresRelease dt _ => dt
  | .busStartIdle dt _ => dt
  | .testEnable dt _ _ _ => dt
  | .safeNAssert dt => dt
  | .safeNRelease dt => dt
  | .timedEdge dt _ => dt
  | .edges dt _ _ _ => dt
  | .flush dt _ _ _ => dt
  | .hbmRequest dt _ _ _ _ _ => dt
  | .lineWriteDrop dt _ => dt
  | .stackTemperature dt _ _ => dt
  | .refresh dt _ => dt
  | .powerDown dt _ => dt
  | .patrolScrub dt _ _ => dt
  | .start dt _ _ _ => dt
  | .stop dt _ _ _ => dt
  | .flightEntry dt => dt
  | .descriptorFetch dt _ => dt
  | .followReady dt _ => dt
  | .descriptorDone dt _ => dt
  | .busError dt _ => dt
  | .codecBlock dt _ => dt
  | .checkUnitGrant dt _ => dt
  | .eventDelivery dt => dt
  | .ethLinkUp dt _ => dt
  | .ethLinkDown dt _ => dt
  | .arpFrame dt _ _ _ _ _ => dt
  | .icmpEcho dt _ _ _ => dt
  | .arpRetry dt _ _ => dt
  | .arpRefresh dt _ _ => dt
  | .arpExpiry dt _ _ => dt
  | .sync dt _ _ _ => dt
  | .announce dt _ _ _ _ => dt
  | .ptpMessage dt _ _ => dt
  | .ptpSend dt _ _ => dt
  | .syncTimeout dt => dt
  | .announceTimeout dt _ => dt
  | .step dt _ _ => dt
  | .stepWithdraw dt => dt
  | .keyPress dt _ => dt
  | .keyRelease dt _ => dt
  | .longPress dt _ => dt
  | .touchScan dt _ => dt
  | .touchStuck dt _ => dt
  | .lampBlink dt _ => dt
  | .campwrFlt dt _ => dt
  | .pwrRetry dt _ => dt
  | .pwrStagger dt => dt
  | .pwrEnable dt _ _ _ => dt
  | .pwrReset dt _ _ _ => dt
  | .clearRetirements dt _ _ => dt
  | .preferred dt _ _ => dt
  | .fwProgrammed dt _ => dt
  | .dieBridgeFailure dt => dt
  | .watchdog dt => dt
  | .dmaParityError dt _ => dt
  | .eventChannelParityError dt _ => dt
  | .rxDropped dt _ => dt

/-- A request with its fields in their widths (R50). -/
def Machine.Req.normal (q : Machine.Req) : Machine.Req :=
  { q with index := q.index % 65536, sub := q.sub % 256, offset := q.offset % wrap32, reserved := q.reserved % 256 }

/-- An origin with its fields in their widths (R54, R62). -/
def Src.normal : Src → Src
  | .i3c tag => .i3c (tag % 256)
  | .ydp e ip port sess seq => .ydp e ip port sess (seq % wrap32)

/-- The request that a command of the dictionary's rows is, with its origin; SESSION_OPEN and SESSION_CLOSE are none of an open
session. -/
def Instr.request : Instr → Option (Src × Req)
  | .read _ src index sub staged => some (src.normal, (Req.ofRead index sub staged).normal)
  | .write _ src index sub data => some (src.normal, (Req.ofWrite index sub data).normal)
  | .segRead _ src index sub offset => some (src.normal, (Req.ofSegment Op.segRead index sub offset false []).normal)
  | .segWrite _ src index sub offset final data => some (src.normal, (Req.ofSegment Op.segWrite index sub offset final data).normal)
  | .blockStart _ src index sub data => some (src.normal, (Req.ofSegment Op.blockStart index sub 0 false data).normal)
  | .blockData _ src index sub offset data => some (src.normal, (Req.ofSegment Op.blockData index sub offset false data).normal)
  | .blockEnd _ src index sub data => some (src.normal, (Req.ofSegment Op.blockEnd index sub 0 false data).normal)
  | .blockRead _ src index sub offset => some (src.normal, (Req.ofSegment Op.blockRead index sub offset false []).normal)
  | .sessionOpen _ _ _ _ _ _ => none
  | .sessionClose _ _ => none
  | .sessionIdle _ _ => none
  | .frameCheck _ _ => none
  | .datagramDrop _ _ => none
  | .responseRead _ => none
  | .ibiDelivery _ => none
  | .setdasa _ _ => none
  | .entdaa _ _ => none
  | .wakeTransfer _ _ => none
  | .ydpPort _ src value => some (src.normal, (Req.ofNumber Obj.ydpYdpPort 2 value).normal)
  | .challenge _ src => some (src.normal, (Req.ofRead (Obj.accChallenge / 256) (Obj.accChallenge % 256) false).normal)
  | .response _ src value => some (src.normal, (Req.ofNumber Obj.accResponse 4 value).normal)
  | .nonceExpiry _ _ => none
  | .lockoutEnd _ => none
  | .dropLevel _ src value => some (src.normal, (Req.ofNumber Obj.accDropLevel 1 value).normal)
  | .restoreDefaults _ src value => some (src.normal, (Req.ofNumber Obj.accRestoreDefaults 4 value).normal)
  | .rcClear _ src index sub data => some (src.normal, (Req.ofWrite index sub data).normal)
  | .ack _ src index seq => some (src.normal, (Req.ofNumber (objKey (index % 65536) 2) 4 seq).normal)
  | .heartbeat _ src value => some (src.normal, (Req.ofNumber Obj.hbHeartbeat 1 value).normal)
  | .period _ src value => some (src.normal, (Req.ofNumber Obj.hbPeriod 4 value).normal)
  | .heartbeatLate _ => none
  | .hostLost _ => none
  | .openStaging _ src => some (src.normal, (Req.ofNumber Obj.stgStaging 1 1).normal)
  | .releaseStaging _ src => some (src.normal, (Req.ofNumber Obj.stgStaging 1 2).normal)
  | .seize _ src => some (src.normal, (Req.ofNumber Obj.stgStaging 1 3).normal)
  | .stagingIdle _ => none
  | .commit _ src => some (src.normal, (Req.ofNumber Obj.cmCommit 1 1).normal)
  | .checkOnly _ src => some (src.normal, (Req.ofNumber Obj.cmCommit 1 2).normal)
  | .commitCheckEnd _ => none
  | .commitInstant _ => none
  | .digestStart _ src value => some (src.normal, (Req.ofNumber Obj.jrDigestStart 1 value).normal)
  | .digestResult _ => none
  | .mirrorWrite _ => none
  | .logWrite _ => none
  | .powerUp _ _ _ _ => none
  | .bootStart _ _ => none
  | .firmwareTimeout _ => none
  | .resetNAssert _ => none
  | .resetNRise _ _ _ => none
  | .brownOut _ => none
  | .supplyFault _ => none
  | .supplyReturn _ => none
  | .thermalTrip _ _ => none
  | .thermalRestart _ => none
  | .pllLoss _ => none
  | .housekeepingRound _ _ => none
  | .guaranteeHeld _ => none
  | .idleTimer _ => none
  | .selfRefreshEntry _ _ => none
  | .deepEntry _ => none
  | .wake _ _ => none
  | .deepExit _ _ => none
  | .standbyWake _ _ => none
  | .pipelineGate _ _ => none
  | .tileLight _ _ => none
  | .noSignal _ _ => none
  | .signalDetect _ _ => none
  | .aligned _ _ => none
  | .alignmentLoss _ _ _ => none
  | .laneExit _ _ => none
  | .eyeMeasure _ _ _ _ => none
  | .eyeFloor _ _ => none
  | .eyeScan _ src lane dwell => if lane < 52 then some (src.normal, (Req.ofNumber (laneKey lane 0x0C) 2 dwell).normal) else none
  | .eyeScanDone _ _ => none
  | .adopt _ src port value => if port < 12 then some (src.normal, (Req.ofNumber (Obj.portAdopt port) 1 value).normal) else none
  | .regRead _ src port words => if port < 12 then some (src.normal, (Req.ofNumber (Obj.portRegAccess port) 1 (words % 128)).normal) else none
  | .regWrite _ src port words => if port < 12 then some (src.normal, (Req.ofNumber (Obj.portRegAccess port) 1 (128 + words % 128)).normal) else none
  | .regTimeout _ _ => none
  | .regResponse _ _ _ _ _ _ => none
  | .linePacket _ _ _ _ _ _ => none
  | .cameraEvent _ _ _ => none
  | .statusPacket _ _ _ _ => none
  | .cxpImagePacket _ _ _ _ _ => none
  | .cxpControlResponse _ _ _ _ => none
  | .trigAck _ _ => none
  | .cxpHeartbeat _ _ _ => none
  | .reasmWindow _ _ _ => none
  | .trigEnd _ _ => none
  | .seam _ _ _ _ _ _ _ _ => none
  | .cometPacket _ _ _ _ => none
  | .eventPacket _ _ _ _ => none
  | .linkStatus _ _ _ _ => none
  | .linkStatusSend _ => none
  | .linkStatusTimeout _ _ => none
  | .seamLate _ _ _ => none
  | .edgeLate _ _ _ => none
  | .countEdge _ _ _ _ => none
  | .indexEdge _ _ => none
  | .speedTimeout _ _ => none
  | .syntheticCount _ _ => none
  | .positionSet _ src channel value => if channel < 4 then some (src.normal, (Req.ofNumber (Obj.encPositionSet channel) 4 value).normal) else none
  | .pgoPulse _ _ => none
  | .triggerHeldIssue _ _ => none
  | .frameLines _ src view value => if view < 4 then some (src.normal, (Req.ofNumber (Obj.trgFrameLines view) 4 value).normal) else none
  | .lineCorrection _ _ => none
  | .calCaptureDark _ src port => if port < 12 then some (src.normal, (Req.ofNumber (Obj.portCalCapture port) 1 1).normal) else none
  | .calCaptureFlat _ src port => if port < 12 then some (src.normal, (Req.ofNumber (Obj.portCalCapture port) 1 2).normal) else none
  | .calCaptureTimeout _ _ => none
  | .stitchLine _ _ _ => none
  | .cometRelease _ _ => none
  | .fuseHold _ _ => none
  | .histClear _ src view mask => if view < 4 then some (src.normal, (Req.ofNumber (Obj.viewHistClear view) 1 mask).normal) else none
  | .build _ src view mask => if view < 4 then some (src.normal, (Req.ofNumber (Obj.viewBuild view) 1 mask).normal) else none
  | .buildUnit _ _ _ _ => none
  | .buildTimeout _ _ => none
  | .tableVerify _ _ _ => none
  | .dispatch _ => none
  | .cropFetch _ _ _ => none
  | .runEnd _ _ _ => none
  | .tDecExpiry _ _ => none
  | .brickUpset _ _ _ => none
  | .sramError _ _ _ _ => none
  | .tileReset _ _ => none
  | .regionReset _ _ => none
  | .modelCheck _ _ => none
  | .norStored _ _ => none
  | .clear _ src slot value => if slot < 8 then some (src.normal, (Req.ofNumber (Obj.slotClear slot) 1 value).normal) else none
  | .tickStart _ _ => none
  | .statusFrame _ _ _ => none
  | .statusJudge _ _ => none
  | .vbPresAssert _ _ => none
  | .vbPresRelease _ _ => none
  | .busStartIdle _ _ => none
  | .testEnable _ src bus value => if bus < 4 then some (src.normal, (Req.ofNumber (Obj.vbTestEnable bus) 1 value).normal) else none
  | .safeNAssert _ => none
  | .safeNRelease _ => none
  | .timedEdge _ _ => none
  | .edges _ src output data => if output < 16 then some (src.normal, (Req.ofWrite (Obj.toutEdges output / 256) (Obj.toutEdges output % 256) data).normal) else none
  | .flush _ src output value => if output < 16 then some (src.normal, (Req.ofNumber (Obj.toutFlush output) 1 value).normal) else none
  | .hbmRequest _ _ _ _ _ _ => none
  | .lineWriteDrop _ _ => none
  | .stackTemperature _ _ _ => none
  | .refresh _ _ => none
  | .powerDown _ _ => none
  | .patrolScrub _ _ _ => none
  | .start _ src channel descriptor => if channel < 32 then some (src.normal, (Req.ofNumber (Obj.dchStart channel) 2 descriptor).normal) else none
  | .stop _ src channel value => if channel < 32 then some (src.normal, (Req.ofNumber (Obj.dchStop channel) 1 value).normal) else none
  | .flightEntry _ => none
  | .descriptorFetch _ _ => none
  | .followReady _ _ => none
  | .descriptorDone _ _ => none
  | .busError _ _ => none
  | .codecBlock _ _ => none
  | .checkUnitGrant _ _ => none
  | .eventDelivery _ => none
  | .ethLinkUp _ _ => none
  | .ethLinkDown _ _ => none
  | .arpFrame _ _ _ _ _ _ => none
  | .icmpEcho _ _ _ _ => none
  | .arpRetry _ _ _ => none
  | .arpRefresh _ _ _ => none
  | .arpExpiry _ _ _ => none
  | .sync _ _ _ _ => none
  | .announce _ _ _ _ _ => none
  | .ptpMessage _ _ _ => none
  | .ptpSend _ _ _ => none
  | .syncTimeout _ => none
  | .announceTimeout _ _ => none
  | .step _ src value => some (src.normal, (Req.ofNumber Obj.timeStep 1 value).normal)
  | .stepWithdraw _ => none
  | .keyPress _ _ => none
  | .keyRelease _ _ => none
  | .longPress _ _ => none
  | .touchScan _ _ => none
  | .touchStuck _ _ => none
  | .lampBlink _ _ => none
  | .campwrFlt _ _ => none
  | .pwrRetry _ _ => none
  | .pwrStagger _ => none
  | .pwrEnable _ src port value => if port < 12 then some (src.normal, (Req.ofNumber (Obj.camPwrEnable port) 1 value).normal) else none
  | .pwrReset _ src port value => if port < 12 then some (src.normal, (Req.ofNumber (Obj.camPwrReset port) 1 value).normal) else none
  | .clearRetirements _ src value => some (src.normal, (Req.ofNumber Obj.fltClearRetirements 1 value).normal)
  | .preferred _ src value => some (src.normal, (Req.ofNumber Obj.fwPreferred 1 value).normal)
  | .fwProgrammed _ _ => none
  | .dieBridgeFailure _ => none
  | .watchdog _ => none
  | .dmaParityError _ _ => none
  | .eventChannelParityError _ _ => none
  | .rxDropped _ _ => none

/-- The origin of a command that is a dictionary request. -/
def Instr.source : Instr → Option Src
  | .read _ src _ _ _ => some src
  | .write _ src _ _ _ => some src
  | .segRead _ src _ _ _ => some src
  | .segWrite _ src _ _ _ _ _ => some src
  | .blockStart _ src _ _ _ => some src
  | .blockData _ src _ _ _ _ => some src
  | .blockEnd _ src _ _ _ => some src
  | .blockRead _ src _ _ _ => some src
  | .sessionOpen _ _ _ _ _ _ => none
  | .sessionClose _ src => some src
  | .sessionIdle _ _ => none
  | .frameCheck _ _ => none
  | .datagramDrop _ _ => none
  | .responseRead _ => none
  | .ibiDelivery _ => none
  | .setdasa _ _ => none
  | .entdaa _ _ => none
  | .wakeTransfer _ _ => none
  | .ydpPort _ src _ => some src
  | .challenge _ src => some src
  | .response _ src _ => some src
  | .nonceExpiry _ _ => none
  | .lockoutEnd _ => none
  | .dropLevel _ src _ => some src
  | .restoreDefaults _ src _ => some src
  | .rcClear _ src _ _ _ => some src
  | .ack _ src _ _ => some src
  | .heartbeat _ src _ => some src
  | .period _ src _ => some src
  | .heartbeatLate _ => none
  | .hostLost _ => none
  | .openStaging _ src => some src
  | .releaseStaging _ src => some src
  | .seize _ src => some src
  | .stagingIdle _ => none
  | .commit _ src => some src
  | .checkOnly _ src => some src
  | .commitCheckEnd _ => none
  | .commitInstant _ => none
  | .digestStart _ src _ => some src
  | .digestResult _ => none
  | .mirrorWrite _ => none
  | .logWrite _ => none
  | .powerUp _ _ _ _ => none
  | .bootStart _ _ => none
  | .firmwareTimeout _ => none
  | .resetNAssert _ => none
  | .resetNRise _ _ _ => none
  | .brownOut _ => none
  | .supplyFault _ => none
  | .supplyReturn _ => none
  | .thermalTrip _ _ => none
  | .thermalRestart _ => none
  | .pllLoss _ => none
  | .housekeepingRound _ _ => none
  | .guaranteeHeld _ => none
  | .idleTimer _ => none
  | .selfRefreshEntry _ _ => none
  | .deepEntry _ => none
  | .wake _ _ => none
  | .deepExit _ _ => none
  | .standbyWake _ _ => none
  | .pipelineGate _ _ => none
  | .tileLight _ _ => none
  | .noSignal _ _ => none
  | .signalDetect _ _ => none
  | .aligned _ _ => none
  | .alignmentLoss _ _ _ => none
  | .laneExit _ _ => none
  | .eyeMeasure _ _ _ _ => none
  | .eyeFloor _ _ => none
  | .eyeScan _ src _ _ => some src
  | .eyeScanDone _ _ => none
  | .adopt _ src _ _ => some src
  | .regRead _ src _ _ => some src
  | .regWrite _ src _ _ => some src
  | .regTimeout _ _ => none
  | .regResponse _ _ _ _ _ _ => none
  | .linePacket _ _ _ _ _ _ => none
  | .cameraEvent _ _ _ => none
  | .statusPacket _ _ _ _ => none
  | .cxpImagePacket _ _ _ _ _ => none
  | .cxpControlResponse _ _ _ _ => none
  | .trigAck _ _ => none
  | .cxpHeartbeat _ _ _ => none
  | .reasmWindow _ _ _ => none
  | .trigEnd _ _ => none
  | .seam _ _ _ _ _ _ _ _ => none
  | .cometPacket _ _ _ _ => none
  | .eventPacket _ _ _ _ => none
  | .linkStatus _ _ _ _ => none
  | .linkStatusSend _ => none
  | .linkStatusTimeout _ _ => none
  | .seamLate _ _ _ => none
  | .edgeLate _ _ _ => none
  | .countEdge _ _ _ _ => none
  | .indexEdge _ _ => none
  | .speedTimeout _ _ => none
  | .syntheticCount _ _ => none
  | .positionSet _ src _ _ => some src
  | .pgoPulse _ _ => none
  | .triggerHeldIssue _ _ => none
  | .frameLines _ src _ _ => some src
  | .lineCorrection _ _ => none
  | .calCaptureDark _ src _ => some src
  | .calCaptureFlat _ src _ => some src
  | .calCaptureTimeout _ _ => none
  | .stitchLine _ _ _ => none
  | .cometRelease _ _ => none
  | .fuseHold _ _ => none
  | .histClear _ src _ _ => some src
  | .build _ src _ _ => some src
  | .buildUnit _ _ _ _ => none
  | .buildTimeout _ _ => none
  | .tableVerify _ _ _ => none
  | .dispatch _ => none
  | .cropFetch _ _ _ => none
  | .runEnd _ _ _ => none
  | .tDecExpiry _ _ => none
  | .brickUpset _ _ _ => none
  | .sramError _ _ _ _ => none
  | .tileReset _ _ => none
  | .regionReset _ _ => none
  | .modelCheck _ _ => none
  | .norStored _ _ => none
  | .clear _ src _ _ => some src
  | .tickStart _ _ => none
  | .statusFrame _ _ _ => none
  | .statusJudge _ _ => none
  | .vbPresAssert _ _ => none
  | .vbPresRelease _ _ => none
  | .busStartIdle _ _ => none
  | .testEnable _ src _ _ => some src
  | .safeNAssert _ => none
  | .safeNRelease _ => none
  | .timedEdge _ _ => none
  | .edges _ src _ _ => some src
  | .flush _ src _ _ => some src
  | .hbmRequest _ _ _ _ _ _ => none
  | .lineWriteDrop _ _ => none
  | .stackTemperature _ _ _ => none
  | .refresh _ _ => none
  | .powerDown _ _ => none
  | .patrolScrub _ _ _ => none
  | .start _ src _ _ => some src
  | .stop _ src _ _ => some src
  | .flightEntry _ => none
  | .descriptorFetch _ _ => none
  | .followReady _ _ => none
  | .descriptorDone _ _ => none
  | .busError _ _ => none
  | .codecBlock _ _ => none
  | .checkUnitGrant _ _ => none
  | .eventDelivery _ => none
  | .ethLinkUp _ _ => none
  | .ethLinkDown _ _ => none
  | .arpFrame _ _ _ _ _ _ => none
  | .icmpEcho _ _ _ _ => none
  | .arpRetry _ _ _ => none
  | .arpRefresh _ _ _ => none
  | .arpExpiry _ _ _ => none
  | .sync _ _ _ _ => none
  | .announce _ _ _ _ _ => none
  | .ptpMessage _ _ _ => none
  | .ptpSend _ _ _ => none
  | .syncTimeout _ => none
  | .announceTimeout _ _ => none
  | .step _ src _ => some src
  | .stepWithdraw _ => none
  | .keyPress _ _ => none
  | .keyRelease _ _ => none
  | .longPress _ _ => none
  | .touchScan _ _ => none
  | .touchStuck _ _ => none
  | .lampBlink _ _ => none
  | .campwrFlt _ _ => none
  | .pwrRetry _ _ => none
  | .pwrStagger _ => none
  | .pwrEnable _ src _ _ => some src
  | .pwrReset _ src _ _ => some src
  | .clearRetirements _ src _ => some src
  | .preferred _ src _ => some src
  | .fwProgrammed _ _ => none
  | .dieBridgeFailure _ => none
  | .watchdog _ => none
  | .dmaParityError _ _ => none
  | .eventChannelParityError _ _ => none
  | .rxDropped _ _ => none

namespace Machine

/-- Command `i` completes in state `s`, in a state of which `P` holds. -/
def Completes (i : Instr) (s : State) (P : State → Prop) : Prop := ∃ t, exec i s = .next t ∧ P t

/-- The objects that what follows a command may move beside it, whichever command it was: alerts (R507), frames sent (R470),
objects closed at a lost seam and fragments dropped there (R37, R290), the overload flag (R321), the guarantee (R351), deferred power steps (R481). -/
def ownStatus (key : Nat) : Bool :=
  decide (key = Obj.alAlerts) || decide (key / 256 = 0x1311) || decide (key = Obj.ethFramesTx 0) ||
  decide (key = Obj.ethFramesTx 1) || ((decide (key / 256 = 0x4021) || decide (key / 256 = 0x4121) ||
  decide (key / 256 = 0x4221) || decide (key / 256 = 0x4321)) && decide (key % 256 ≠ 9) && decide (key % 256 ≠ 11)) ||
  decide (key = Obj.brkFlags) || decide (key = Obj.gtrGuarantee) || decide (key = Obj.gtrLapseCause) ||
  decide (key = Obj.gtrLapses) || decide (key = Obj.pwStepdownDeferred) || decide (key = Obj.pwDozeEntries) ||
  decide (key = Obj.dmaDeferrals) || decide (key = Obj.gtrRemoteDropped)

/-- A view, a tile, the power system, an Ethernet port and a lane with everything blanked that the settling may move. -/
def View.unsettled (w : View) : View :=
  { w with
    degraded := false, build := w.build.map (fun (b : Build) => { b with todo := [] }), blobs := [], closeQueue := [],
    edges := [], fragments := [], taken := [], segEpoch := none, segBreaks := [], prevHoles := [] }
def Tile.unsettled (x : Tile) : Tile := { x with jobs := [], light := false, idleSince := 0 }
def PowerSys.unsettled (p : PowerSys) : PowerSys :=
  { p with state := .active, target := none, entering := false, lapsed := 0, allHeldSince := none }

def Eth.unsettled (x : Eth) : Eth := { x with queue := [], lineFree := 0, underWay := 0, txHead := 0, delayTx := none, pdelayTx := none }
def Lane.unsettled (x : Lane) : Lane := { x with sent := 0, waiting := [], linkFree := 0 }

/-- A state with everything blanked that the settling may move, and the clock and the queue, which are no effect's. -/
def State.unsettled (s : State) : State :=
  { s with
    clk := 0, pending := [], out := [], lanes := [],
    ctl := { s.ctl with
      i3c := { s.ctl.i3c with ibi := 0 }, sessions := s.ctl.sessions.map (fun (x : Session) => { x with notified := 0 }) },
    dict := { s.dict with inForce := [], sets := [] },
    views := s.views.map View.unsettled,
    tiles := s.tiles.map Tile.unsettled,
    dma := { s.dma with channels := [] },
    eths := s.eths.map Eth.unsettled,
    fabric := { s.fabric with raised := [] },
    power := s.power.unsettled,
    pins := { s.pins with lampOn := [] } }

/-- What is sent on a port has left it, or waits there for the line (R460). -/
def State.sends (t : State) (e : Nat) (m : Emission) : Prop := m ∈ t.out ∨ ∃ f ∈ (t.eth e).queue, f.what = m

/-- A PTP event message, whose stamp is taken as it leaves (R463). -/
def Emission.isEvent : Emission → Bool
  | .ptp _ kind _ _ _ _ => decide (kind < 4)
  | _ => false

/-- `t` is `a` settled: all but the blanked fields is the same, what has left the module stays and what waits leaves or waits on,
every object that is not the settling's own holds its value, and what alerts and what work of the bricks stand, stand. -/
structure Settled (a t : State) : Prop where
  same : t.unsettled = a.unsettled
  out : ∃ l, t.out = a.out ++ l
  raised : ∃ l, t.fabric.raised = a.fabric.raised ++ l
  get : ∀ key, ownStatus key = false → Kv.get? t.dict.inForce key = Kv.get? a.dict.inForce key
  alerts : ∀ bit, bitOf (a.num Obj.alAlerts) bit = true → bitOf (t.num Obj.alAlerts) bit = true
  jobs : ∀ k b, (a.tile k).job b ≠ .idle → (t.tile k).job b = (a.tile k).job b
  frames : ∀ e f, f ∈ (a.eth e).queue → f.what.isEvent = false → f ∈ (t.eth e).queue ∨ f.what ∈ t.out

/-! ### Dictionary requests -/

/-- Request `q` from `src` is one that the module executes now, in state `w`, for session `x`: on I3C one that does not repeat
the one before (R56, R57); on YDP one of an open session from its address and port, in sequence or BLOCK_DATA (R65 to R67),
outside BOOT (R85), with what its datagram itself moves (R64, R470). -/
def State.serves (u : State) (src : Src) (q : Req) (w : State) (x : Session) : Prop :=
  match src with
  | .i3c tag =>
    u.i3cUp = true ∧ (u.ctl.i3c.answer = none ∨ u.ctl.i3c.previous ≠ some (tag, q)) ∧
    w = u.i3cFresh ∧ x = u.i3cSession
  | .ydp e ip port sess seq =>
    u.ydpUp e = true ∧ u.ctl.mode ≠ .boot ∧ u.session? (.ydp sess) = some x ∧ x.ip = ip ∧ x.port = port ∧
    (q.opcode = Op.blockData ∨ (assoc x.kept seq = none ∧ later seq x.highSeq = true)) ∧
    w = (u.rx e).modSession x.id (fun (y : Session) => { y with lastRequest := u.clk, eth := e })

/-- A session with everything blanked that an answer moves. -/
def Session.unreplied (x : Session) : Session := { x with notified := 0, highSeq := 0, kept := [], lastRequest := 0, eth := 0 }

/-- A state with everything blanked that an answer or the settling may move. -/
def State.unreplied (s : State) : State :=
  let u := s.unsettled
  { u with
    ctl := { u.ctl with i3c := I3cPath.reset, sessions := u.ctl.sessions.map Session.unreplied },
    eths := u.eths.map (fun (x : Eth) => { x with arp := [] }) }

/-- The response to a request has been made ready on its path (R57), or sent on the request's port while that has a link (R62). -/
def State.carries (t : State) (src : Src) (r : Resp) : Prop :=
  match src with
  | .i3c tag => t.ctl.i3c.response = some (tag, r)
  | .ydp e ip port sess seq => (t.eth e).up = true → t.sends e (.ydpResponse e ip port sess seq r)

/-- `t` is `a` after the answer `ans` to request `q` from `src`, settled: all but what answers and settling move is the same. -/
structure Answered (a t : State) (src : Src) (q : Req) (ans : Answer) : Prop where
  same : t.unreplied = a.unreplied
  out : ∃ l, t.out = a.out ++ l
  raised : ∃ l, t.fabric.raised = a.fabric.raised ++ l
  get : ∀ key, ownStatus key = false → Kv.get? t.dict.inForce key = Kv.get? a.dict.inForce key
  alerts : ∀ bit, bitOf (a.num Obj.alAlerts) bit = true → bitOf (t.num Obj.alAlerts) bit = true
  answer : t.carries src (q.respond ans)

/-- The subindex and the object that a request names (R38). -/
def Req.at_ (q : Req) : Nat := Catalog.subOf q.index q.sub
def Req.key (q : Req) : Nat := objKey q.index q.at_

/-- The session that a request comes in. -/
def State.speaker (u : State) : Src → Session
  | .i3c _ => u.i3cSession
  | .ydp _ _ _ sess _ => (u.session? (.ydp sess)).getD Session.i3c

/-- The state in which a request is executed: on YDP its datagram has been counted, and its session's idle time begun anew (R65, R470). -/
def State.heard (u : State) (src : Src) : State :=
  match src with
  | .i3c _ => u.i3cFresh
  | .ydp e _ _ _ _ =>
    (u.rx e).modSession (u.speaker src).id (fun (y : Session) => { y with lastRequest := u.clk, eth := e })

/-- A request that the module executes, by its state and the request alone: its path is open; on I3C it does not repeat the one
before (R56, R57, R61); on YDP its session is open from its address and port, outside BOOT, and it is in sequence or BLOCK_DATA
(R65 to R67, R85). Its origin fits the fields of its header (R54, R62). -/
def State.hears (u : State) (src : Src) (q : Req) : Prop :=
  src.normal = src ∧
  match src with
  | .i3c tag => u.i3cUp = true ∧ (u.ctl.i3c.answer = none ∨ u.ctl.i3c.previous ≠ some (tag, q))
  | .ydp e ip port sess seq =>
    let x := u.speaker src
    u.ydpUp e = true ∧ u.ctl.mode ≠ .boot ∧ (u.session? (.ydp sess)).isSome = true ∧ x.ip = ip ∧ x.port = port ∧
    (q.opcode = Op.blockData ∨ (assoc x.kept seq = none ∧ later seq x.highSeq = true))

/-- The object that a request names exists on this part; `r` is its row (checks 1 to 3 of R42). -/
structure State.names (w : State) (q : Req) (r : ObjRow) : Prop where
  row : objectRow q.index q.at_ = some r
  index : Catalog.hasIndex q.index = true
  reach : q.index < 0xF000
  present : absentKey w.ctl.part q.index q.at_ = false

/-- A read that passes checks 1 to 6 of R42: the object exists, it may be read at the session's level, and the mode answers it. -/
structure State.acceptsRead (w : State) (x : Session) (q : Req) (r : ObjRow) : Prop where
  names : w.names q r
  level : x.level ≠ .operator ∨ r.level = .operator
  access : r.acc ≠ .wo
  mode : w.ctl.mode.operating = true ∨ bootReads q.index q.at_ = true

/-- A WRITE that passes every check of R42: the object exists; the session's level is the row's, and INTEGRATOR for SEIZE (R91); it
may be written (R40); the mode allows it; it is neither frozen (R96), nor an action that runs, nor busy; the staging rule holds (R41);
the value has a length of its type and passes its range and its chapter's check (R39). -/
structure State.acceptsWrite (w : State) (src : Src) (x : Session) (q : Req) (r : ObjRow) : Prop where
  opcode : q.opcode = Op.write
  names : w.names q r
  level : x.level ≠ .operator ∨ (r.level = .operator ∧ ¬ (q.key = Obj.stgStaging ∧ leNat q.data = 3))
  access : readOnly r q.index = false
  mode : w.modeAllows r q.key = true
  thawed : w.frozen x.id r q.key = false
  idle : r.acc = .ex → w.actionState q.key ≠ 1
  free : w.objectBusy q.key .whole q.data = false
  staging : w.check7Code x.id r q.key q.data = none
  type : r.ty ≠ .blob
  length : if r.ty.size = 0 then q.data.length ≤ frameMax src ∧ (q.data.length ≤ r.maxLen ∨ r.oneLength = true)
    else q.data.length = r.ty.size
  value : w.check9Ok r q.key q.data = true

/-- A write that the module executes and that passes every check, by the state and the request alone. -/
def State.takes (u : State) (src : Src) (q : Req) : Prop :=
  u.hears src q ∧ ∃ r, (u.heard src).acceptsWrite src (u.speaker src) q r

/-- Every panel lamp stands at the level its MODE and the module's state ask for (R532). -/
def State.lampsShow (s : State) : Prop :=
  s.power.powered = true → ∀ n, n < 4 → s.pins.lampOn.getD n false = s.lampWants n

/-- In an operating mode every view's DEGRADED, whose rise alerts, is what VIEW_STATE reads (R240, R507). -/
def State.viewsReported (s : State) : Prop :=
  s.ctl.mode.operating = true → ∀ v, v < 4 → v < s.views.length → (∀ p ∈ s.portsOfView v, p < 12) →
    (s.view v).degraded = decide (s.viewState v = 3)

/-- In an operating mode the tracker's record of the lapsed conditions 0, 1 and 4 of the guarantee is how they stand (R349,
R351). -/
def State.lapsesWatched (s : State) : Prop :=
  s.ctl.mode.operating = true → s.power.lapsed &&& 19 = s.lapsedNow

/-- Every store of bytes of the module is in its canonical form: HBM, the descriptor table, the exchange buffer, the buffer of
the BLOB transfer, and the copies of the sort tables. -/
def State.storesCanonical (s : State) : Prop :=
  s.hbm.mem.wf = true ∧ s.dma.table.wf = true ∧ s.dma.xbuf.wf = true ∧
  (∀ t, s.ctl.transfer = some t → t.buffer.wf = true) ∧
  (∀ w ∈ s.views, ∀ b ∈ w.banks, b.table.wf = true)

end Machine

end Sys2Proof
end

