-- ==== Sys2Proof/Certificates/Slice0/Obligations.lean ====
section
/-! DEFINITION. The statements about the module, for the provers. -/

open Sys2Proof Sys2Proof.Machine

/-- A step takes the command at the front of the queue and executes it with the queue's rest. -/
def Obligations.StepRunsTheFront : Prop :=
  ∀ (c : Instr) (rest : List Instr) (s : State), s.pending = c :: rest → step s = exec c { s with pending := rest }

/-- On an empty queue a step idles (the model's choice, log entry 6). A command leaves the queue of waiting commands
alone and lets exactly its own time pass (the model's choice, log entries 1 and 6): along every step the queue loses its
front and the clock never goes back. -/
def Obligations.QueueAndTime : Prop :=
  (∀ s : State, s.pending = [] → step s = .next s) ∧
  (∀ (c : Instr) (rest : List Instr) (s t : State), s.pending = c :: rest → step s = .next t →
    t.pending = rest ∧ t.clk = s.clk + c.dt)

/-- Reset leaves mode BOOT with the boot not begun, an empty queue, no volatile or persistent value, so that every
object reads its default (R47, R81, R540). -/
def Obligations.ResetLeavesDefaults : Prop :=
  State.reset.ctl.mode = .boot ∧ State.reset.ctl.boot.started = false ∧ State.reset.pending = [] ∧
  (∀ key : Nat, State.reset.val key = State.reset.dfltOf key) ∧ State.reset.ctl.sessions = [Session.i3c] ∧
  State.reset.ctl.staging.lastEpoch = 0 ∧ State.reset.storesCanonical

/-- Every command that is a dictionary request, served on its path, is executed for its session and answered there: what
executing it gives is the next state, but for what answering and settling move (R51, R57, R62, R66). -/
def Obligations.RequestsAreExecutedAndAnswered : Prop :=
  ∀ (i : Instr) (src : Src) (q : Req) (s w : State) (x : Session), i.request = some (src, q) →
    (s.advance i.dt).serves src q w x → movesPort q (w.execute src x q).2 = false →
    Completes i s (fun t => Answered (w.execute src x q).1 t src q (w.execute src x q).2)

/-- A WRITE that passes the checks of R42 is applied for its object's access code, and answers what applying it gives;
one that fails a check only counts as rejected on its path, and answers the code of the first check that failed (R40,
R42). The row WRITE itself so completes for every object but YDP_PORT. -/
def Obligations.WritesApplyOrOnlyCount : Prop :=
  (∀ (dt : Nat) (src : Src) (index sub : Nat) (data : Bytes) (s : State) (r : ObjRow),
    let u := s.advance dt
    let q := (Req.ofWrite index sub data).normal
    let w := u.heard src
    let a := w.requestSeen.applyWrite src r q.key q.data
    u.hears src q → w.acceptsWrite src (u.speaker src) q r → objKey q.index q.sub ≠ Obj.ydpYdpPort →
    Completes (.write dt src index sub data) s (fun t => Answered a.1 t src q (Answer.of a.2))) ∧
  ∀ (i : Instr) (src : Src) (q : Req) (s w : State) (x : Session), i.request = some (src, q) → q.opcode = Op.write →
    (s.advance i.dt).serves src q w x →
    (∀ r, w.acceptsWrite src x q r →
      movesPort q (Answer.of (w.requestSeen.applyWrite src r q.key q.data).2) = false →
      Completes i s (fun t => Answered (w.requestSeen.applyWrite src r q.key q.data).1 t src q
        (Answer.of (w.requestSeen.applyWrite src r q.key q.data).2))) ∧
    (∀ code, w.admitWrite x q.index q.at_ .whole q.data = .error code → code ≠ Code.ok →
      Completes i s (fun t => Answered (w.bump (rejectedKey src)) t src q (Answer.of code)))

/-- READ of an object that may be read returns its value in the object's type, whole, where the path's frame holds it:
the value in force; with the flag for staged values, a staged value where one is staged, flagged; of a result object the
presented result, and NOT_READY with the last header where none is presented (R38, R52, R77, R78). -/
def Obligations.ReadReturnsTheValue : Prop :=
  ∀ (dt : Nat) (src : Src) (index sub : Nat) (staged : Bool) (s : State) (r : ObjRow),
    let u := s.advance dt
    let q := (Req.ofRead index sub staged).normal
    let w := u.heard src
    let x := u.speaker src
    let answers := fun (a : State) (ans : Answer) =>
      Completes (.read dt src index sub staged) s (fun t => Answered a t src q ans)
    u.hears src q → w.acceptsRead x q r → r.ty ≠ .blob → q.key ≠ Obj.accChallenge →
    (∀ v, staged = true → r.acc = .rs → Kv.get? w.dict.staged q.key = some v → (v.encode r.ty).length ≤ frameMax src →
      answers w.requestSeen { flags := 5, code := Code.ok, data := v.encode r.ty }) ∧
    (staged = false ∨ r.acc ≠ .rs ∨ Kv.get? w.dict.staged q.key = none →
      (isResult q.key = false → (w.readBytes x r q.index q.at_).length ≤ frameMax src →
        answers w.requestSeen (Answer.data_ (w.readBytes x r q.index q.at_))) ∧
      (∀ b, isResult q.key = true → (w.result q.key).value = some b → b.length ≤ frameMax src →
        answers (w.requestSeen.covered src q.key) (Answer.data_ b)) ∧
      (isResult q.key = true → (w.result q.key).value = none →
        answers w.requestSeen { flags := 1, code := Code.notReady, data := (w.result q.key).lastHeader }))

/-- A read of CHALLENGE gives a fresh nonce of the session's own, valid for 10 s (R44); the nonce is a free value.
Outside a lockout, the response that the session's challenge expects, in time, raises the session to INTEGRATOR, uses
the nonce up and ends the count of failures; any other write of RESPONSE uses the nonce up too, answers CHALLENGE_FAILED
and, the third in a row, locks responses out for 60 s (R44, R45). -/
def Obligations.ChallengesAndResponses : Prop :=
  (∀ (dt : Nat) (src : Src) (s : State) (r : ObjRow),
    let u := s.advance dt
    let q := Req.ofRead (Obj.accChallenge / 256) (Obj.accChallenge % 256) false
    let w := u.heard src
    let x := u.speaker src
    u.hears src q → w.acceptsRead x q r →
    Completes (.challenge dt src) s (fun t =>
      Answered (({ w.requestSeen with free := w.free + 1 } : State).modSession x.id (fun y => { y with
          challenge := some ((Config.nonce w.free).toNat, w.clk + 10000000000) })) t src q
        (Answer.data_ (leBytes 4 (Config.nonce w.free).toNat)))) ∧
  (∀ (dt : Nat) (src : Src) (value : Nat) (s : State),
    let u := s.advance dt
    let q := Req.ofNumber Obj.accResponse 4 value
    let w := u.heard src
    let asked := (w.session? (srcId src)).bind (fun y => y.challenge)
    u.takes src q → w.lockedOut = false →
    (∀ nonce until_, asked = some (nonce, until_) → w.clk < until_ → value % wrap32 = w.expected nonce →
      Completes (.response dt src value) s (fun t =>
        (∃ y ∈ t.ctl.sessions, y.id = srcId src ∧ y.level = .integrator ∧ y.challenge = none) ∧
        t.ctl.challengeRun = 0 ∧ t.ctl.lockoutUntil = none ∧ t.carries src (q.respond (Answer.of Code.ok)))) ∧
    ((∀ nonce until_, asked = some (nonce, until_) → w.clk < until_ → value % wrap32 ≠ w.expected nonce) →
      Completes (.response dt src value) s (fun t =>
        (∀ y ∈ t.ctl.sessions, y.id = srcId src → y.challenge = none) ∧
        t.ctl.challengeRun = (if 3 ≤ w.ctl.challengeRun + 1 then 0 else w.ctl.challengeRun + 1) ∧
        t.ctl.lockoutUntil = (if 3 ≤ w.ctl.challengeRun + 1 then some (w.clk + 60000000000) else w.ctl.lockoutUntil) ∧
        t.carries src (q.respond (Answer.of Code.challengeFailed)))))

/-- DROP_LEVEL takes its session back to OPERATOR; RESTORE_DEFAULTS takes every persistent object back to its default;
each is journalled and done with its action (R43, R48, R102). A write of YDP_PORT puts it in force, and right after its
response has been sent every YDP session closes: on YDP with the write, on I3C when the response is read (R551). -/
def Obligations.LevelDefaultsAndPort : Prop :=
  (∀ (dt : Nat) (src : Src) (value : Nat) (s : State),
    let u := s.advance dt
    let w := u.heard src
    (let q := Req.ofNumber Obj.accDropLevel 1 value;
      u.takes src q → Completes (.dropLevel dt src value) s (fun t => Answered
        (((w.requestSeen.journalReq src 4 Obj.accDropLevel q.data).modSession (srcId src) (fun y => { y with
          level := .operator })).putNum Obj.accDropLevel 2) t src q (Answer.of Code.ok))) ∧
    (let q := Req.ofNumber Obj.accRestoreDefaults 4 value;
      u.takes src q → Completes (.restoreDefaults dt src value) s (fun t => Answered
        ((w.requestSeen.journalReq src 4 Obj.accRestoreDefaults q.data).restoreDefaults.putNum Obj.accRestoreDefaults 2)
        t src q (Answer.of Code.ok)))) ∧
  (∀ (dt : Nat) (s : State),
    let u := s.advance dt
    (∀ src value, u.takes src (Req.ofNumber Obj.ydpYdpPort 2 value) → Completes (.ydpPort dt src value) s (fun t =>
      t.num Obj.ydpYdpPort = value % 65536 ∧
      match src with
      | .ydp _ _ _ _ _ => ∀ y ∈ t.ctl.sessions, y.id = .i3c
      | .i3c _ => t.ctl.i3c.moves = true)) ∧
    (∀ tag r, u.i3cUp = true → u.ctl.i3c.response = some (tag, r) → u.ctl.i3c.moves = true → r.code ≠ Code.frameCheck →
      Completes (.responseRead dt) s (fun t =>
        Emission.i3cResponse tag r ∈ t.out ∧ t.ctl.i3c.moves = false ∧ ∀ y ∈ t.ctl.sessions, y.id = .i3c)))

/-- An RC write clears the flags written 1, and a counter by all ones, in force and, where the object is persistent, in
MRAM; it is journalled (R102, R511, R512). -/
def Obligations.RcWriteClears : Prop :=
  ∀ (dt : Nat) (src : Src) (index sub : Nat) (data : Bytes) (s : State) (r : ObjRow),
    let u := s.advance dt
    let q := (Req.ofWrite index sub data).normal
    let w := u.heard src
    u.hears src q → w.acceptsWrite src (u.speaker src) q r → r.acc = .rc →
    journalled q.key = true → isAck q.key = false → q.key ≠ Obj.accResponse → objKey q.index q.sub ≠ Obj.ydpYdpPort →
    let key := q.key
    let j := w.requestSeen.journalReq src 1 key q.data
    let v := Val.num (r.cleared (w.requestSeen.num key) (r.ty.decode q.data).toNat)
    let a := if r.persistent then j.putKept key v else j.putVal key v
    Completes (.rcClear dt src index sub data) s (fun t => Answered
      (if key = Obj.alAlerts then a.alertPinFrom w.requestSeen.alertPin else a) t src q (Answer.of Code.ok))

/-- ACK with the presented result's SEQ releases it, and a pending one is presented; any other SEQ answers SEQ_MISMATCH
and changes nothing (R79). -/
def Obligations.AckReleasesTheResult : Prop :=
  ∀ (dt : Nat) (src : Src) (index seq : Nat) (s : State),
    let u := s.advance dt
    let q := Req.ofNumber (objKey (index % 65536) 2) 4 seq
    let w := u.heard src
    let slot := w.result (q.key - 1)
    u.takes src q → isAck q.key = true →
    (∀ p, slot.presented = some p → seq % wrap32 = p.seq → Completes (.ack dt src index seq) s (fun t =>
      t.result (q.key - 1) = slot.release ∧ slot.release.pending = none ∧
      slot.release.presented.map (fun z => z.seq) = slot.pending.map (fun z => z.seq) ∧
      t.carries src (q.respond (Answer.of Code.ok)))) ∧
    ((∀ p, slot.presented = some p → seq % wrap32 ≠ p.seq) → Completes (.ack dt src index seq) s (fun t =>
      Answered w.requestSeen t src q (Answer.of Code.seqMismatch)))

/-- SEG_READ at OFFSET 0 takes a snapshot of the value and returns its first segment; at a further OFFSET it returns the
snapshot's bytes from there; the segment that reaches the end carries FINAL, and on YDP ends the snapshot as it is sent
(R70; on I3C the snapshot ends as the response is read, PathsAnswerAndDrop). SEG_READ at an OFFSET other than 0 without
a snapshot answers SEGMENT_ORDER and changes nothing (R70). -/
def Obligations.SegReadsServeASnapshot : Prop :=
  (∀ (dt : Nat) (src : Src) (index sub offset : Nat) (s : State) (r : ObjRow) (b : Bytes),
    let u := s.advance dt
    let q := (Req.ofSegment Op.segRead index sub offset false []).normal
    let w := u.heard src
    let x := u.speaker src
    u.hears src q → w.acceptsRead x q r → (r.ty = .text ∨ r.ty = .octets) → isResult (q.key) = false →
    let key := q.key
    let part := slice b q.offset (frameMax src)
    let last := decide (b.length ≤ q.offset + part.length)
    ((q.offset = 0 ∧ b = w.readBytes x r q.index q.at_) ∨ (q.offset ≠ 0 ∧ assoc x.snapshots key = some b)) →
    q.offset ≤ b.length →
    let a := w.requestSeen.modSession x.id (fun y => { y with snapshots := assocPut y.snapshots key b })
    let ended := match src with
      | .ydp _ _ _ _ _ => a.modSession x.id (fun y => { y with snapshots := assocDrop y.snapshots key })
      | .i3c _ => a
    Completes (.segRead dt src index sub offset) s (fun t =>
      Answered (if last then ended else a) t src q { flags := if last then 1 else 0, code := Code.ok, data := part })) ∧
  (∀ (dt : Nat) (src : Src) (index sub offset : Nat) (s : State) (r : ObjRow),
    let u := s.advance dt
    let q := (Req.ofSegment Op.segRead index sub offset false []).normal
    let w := u.heard src
    let x := u.speaker src
    u.hears src q → w.acceptsRead x q r → (r.ty = .text ∨ r.ty = .octets) → q.offset ≠ 0 →
    assoc x.snapshots (q.key) = none →
    Completes (.segRead dt src index sub offset) s (fun t => Answered w.requestSeen t src q (Answer.of Code.segmentOrder)))

/-- SEG_WRITE gathers the segments of a value in order; the one with FINAL writes the whole value as a WRITE would, and
one out of order gives the value up with SEGMENT_ORDER, an accepted request whose failure is journalled (R69, R102). -/
def Obligations.SegWriteGathersAValue : Prop :=
  ∀ (dt : Nat) (src : Src) (q : Req) (index sub offset : Nat) (final : Bool) (data : Bytes) (s w : State) (x : Session)
    (r : ObjRow), (Instr.segWrite dt src index sub offset final data).request = some (src, q) →
    (s.advance dt).serves src q w x → (r.ty = .text ∨ r.ty = .octets) → q.data.length ≤ frameMax src →
    let key := q.key
    (∀ b, x.joined key q.offset q.data = some b →
      w.admitWrite x q.index q.at_ (if final then .whole else .part) b = .ok r →
      (final = false → Completes (.segWrite dt src index sub offset final data) s (fun t =>
        Answered ((w.requestSeen.touch_ r).modSession x.id (fun y => { y with segWrite := some (key, b) })) t src q
          (Answer.of Code.ok))) ∧
      (final = true → r.lengthCode b.length = none →
        (w.requestSeen.touch_ r).valueOk r key (r.ty.decode b) = true → key ≠ Obj.accResponse → isAck key = false →
        Completes (.segWrite dt src index sub offset final data) s (fun t =>
          Answered (((((w.requestSeen.touch_ r).modSession (srcId src) (fun y => { y with segWrite := none })).journalWrite
            src r key b).writeEffect src r key (r.ty.decode b))) t src q (Answer.of Code.ok)))) ∧
    (x.joined key q.offset q.data = none → w.admitWrite x q.index q.at_ .part [] = .ok r →
      Completes (.segWrite dt src index sub offset final data) s (fun t =>
        Answered (((w.requestSeen.touch_ r).modSession x.id (fun y => { y with segWrite := none })).journalFailed src
          (writeKind r) key Code.segmentOrder) t src q (Answer.of Code.segmentOrder)))

/-- BLOCK_START opens the transfer, and empties the table bank or model slot that it is for; while another session's
transfer is open it answers TRANSFER_BUSY (R71, R256, R303). BLOCK_DATA enters its blocks into the open transfer, out of
order and repeated too, through the HBM port CTL (R67, R72, R381). A segment of a transfer changes no byte outside
itself, puts its own bytes where no block was, and keeps the buffer canonical (R72). -/
def Obligations.BlocksEnterATransfer : Prop :=
  (∀ (dt : Nat) (src : Src) (q : Req) (index sub : Nat) (data : Bytes) (s w : State) (x : Session) (r : ObjRow),
    (Instr.blockStart dt src index sub data).request = some (src, q) → (s.advance dt).serves src q w x →
    w.admitWrite x q.index q.at_ .start q.data = .ok r → r.ty = .blob → q.data.length = 4 →
    w.blobLength r (q.key) (leNat q.data) = none →
    (w.ctl.transfer = none → Completes (.blockStart dt src index sub data) s (fun t =>
      let a := (w.requestSeen.touch_ r).blobOpens (q.key)
      Answered { a with ctl := { a.ctl with transfer := some { session := x.id, key := q.key, length := leNat q.data, buffer := [], received := [] } } } t src q (Answer.of Code.ok))) ∧
    (∀ tr, w.ctl.transfer = some tr → tr.session ≠ x.id →
      Completes (.blockStart dt src index sub data) s (fun t =>
        Answered (w.requestSeen.touch_ r) t src q (Answer.of Code.transferBusy)))) ∧
  (∀ (dt : Nat) (src : Src) (q : Req) (index sub offset : Nat) (data : Bytes) (s w : State) (x : Session) (r : ObjRow)
    (tr : Transfer), (Instr.blockData dt src index sub offset data).request = some (src, q) →
    (s.advance dt).serves src q w x → w.admitWrite x q.index q.at_ .part q.data = .ok r → r.ty = .blob →
    q.data.length ≤ frameMax src → w.ctl.transfer = some tr → tr.session = x.id → tr.key = q.key →
    tr.fits q.offset q.data.length = true →
    Completes (.blockData dt src index sub offset data) s (fun t =>
      let a := (w.requestSeen.touch_ r).blobBuffered q.offset q.data.length
      Answered { a with ctl := { a.ctl with transfer := some (tr.enter q.offset q.data) } } t src q (Answer.of Code.ok))) ∧
  (∀ (tr : Transfer) (offset : Nat) (data : Bytes), offset % 128 = 0 → tr.buffer.wf = true →
    (tr.enter offset data).buffer.wf = true ∧
    (∀ a, a < offset ∨ offset + data.length ≤ a → Mem.read (tr.enter offset data).buffer a = Mem.read tr.buffer a) ∧
    (∀ k, k < data.length → tr.received.contains ((offset + k) / 128) = false →
      Mem.read (tr.enter offset data).buffer (offset + k) = data.getD k 0))

/-- BLOCK_END with a block missing answers BLOCK_INCOMPLETE with the first missing block's offset; with every block, a
wrong CRC gives the transfer up with BAD_CHECK, and a right one writes the value (R73). -/
def Obligations.BlockEndWritesTheValue : Prop :=
  ∀ (dt : Nat) (src : Src) (q : Req) (index sub : Nat) (data : Bytes) (s w : State) (x : Session) (r : ObjRow)
    (tr : Transfer), (Instr.blockEnd dt src index sub data).request = some (src, q) → (s.advance dt).serves src q w x →
    w.admitWrite x q.index q.at_ .finish q.data = .ok r → r.ty = .blob → q.data.length = 4 → w.ctl.transfer = some tr →
    tr.session = x.id → tr.key = q.key →
    let key := q.key
    let a := w.requestSeen.touch_ r
    (∀ b, tr.missing = some b → Completes (.blockEnd dt src index sub data) s (fun t =>
      Answered a t src q { flags := 1, code := Code.blockIncomplete, data := leBytes 4 (128 * b) })) ∧
    (tr.missing = none → crc32c tr.value ≠ leNat q.data → Completes (.blockEnd dt src index sub data) s (fun t =>
      Answered (a.dropTransfer.journalFailed src 3 key Code.badCheck) t src q (Answer.of Code.badCheck))) ∧
    (tr.missing = none → crc32c tr.value = leNat q.data → a.blobCode r key tr.value = none → key ≠ Obj.accResponse →
      isAck key = false → Completes (.blockEnd dt src index sub data) s (fun t =>
        Answered ((({ a with ctl := { a.ctl with transfer := none } } : State).journalWrite src r key tr.value).writeEffect src
          r key (.bytes tr.value)) t src q (Answer.of Code.ok)))

/-- BLOCK_READ returns a frame of the value from OFFSET on, at OFFSET 0 with the value noted for the session and a
result read; a value that has been replaced since the session's read at OFFSET 0 answers VALUE_CHANGED, and one that HBM
cannot give, DATA_ERROR (R74, R77, R394). -/
def Obligations.BlockReadReturnsAFrame : Prop :=
  ∀ (dt : Nat) (src : Src) (index sub offset : Nat) (s : State) (r : ObjRow) (b : Bytes),
    let u := s.advance dt
    let q := (Req.ofSegment Op.blockRead index sub offset false []).normal
    let w := u.heard src
    let x := u.speaker src
    u.hears src q → w.acceptsRead x q r → r.ty = .blob → w.content x r q.index q.at_ = .ok b → q.offset ≤ b.length →
    let key := q.key
    let seen := (assoc x.blobSeen key).getD (w.blobVersion key)
    let part := slice b q.offset (frameMax src)
    let got := w.requestSeen.blobRead key q.offset (Nat.min (frameMax src) (b.length - q.offset))
    (q.offset ≠ 0 → seen ≠ w.blobVersion key → Completes (.blockRead dt src index sub offset) s (fun t =>
      Answered w.requestSeen t src q (Answer.of Code.valueChanged))) ∧
    (q.offset = 0 ∨ seen = w.blobVersion key → got.2 = false → Completes (.blockRead dt src index sub offset) s (fun t =>
      Answered got.1 t src q (Answer.of Code.dataError))) ∧
    (q.offset = 0 → got.2 = true → Completes (.blockRead dt src index sub offset) s (fun t =>
      Answered ((got.1.covered src key).modSession x.id (fun y => { y with
        blobSeen := assocPut y.blobSeen key (w.blobVersion key) })) t src q (Answer.data_ part))) ∧
    (q.offset ≠ 0 → seen = w.blobVersion key → got.2 = true → Completes (.blockRead dt src index sub offset) s (fun t =>
      Answered got.1 t src q (Answer.data_ part)))

/-- SESSION_OPEN opens a session of OPERATOR under a number no open session has, with the notification mask and the
nonce it brings and IDLE_TIME of this moment, and answers the number (R43, R64, R65). -/
def Obligations.SessionOpenGivesAFreshNumber : Prop :=
  ∀ (dt e ip port seq : Nat) (data : Bytes) (s : State),
    let u := s.advance dt
    u.ydpUp e = true → u.ctl.mode ≠ .boot → data.length = 8 → u.ydpSessions.length < 8 →
    u.ydpSessions.find? (fun x => x.ip = ip && x.port = port && x.clientNonce = u32At data 0) = none →
    Completes (.sessionOpen dt e ip port seq data) s (fun t =>
      u.session? (.ydp u.freeNumber) = none ∧ 1 ≤ u.freeNumber ∧ u.freeNumber ≤ 65535 ∧ t.ctl.lastSession = u.freeNumber ∧
      (∃ y ∈ t.ctl.sessions, y.id = .ydp u.freeNumber ∧ y.ip = ip ∧ y.port = port ∧ y.level = .operator ∧
        y.clientNonce = u32At data 0 ∧ y.mask = u8At data 4 ∧ y.idleTime = u.num Obj.ydpIdleTime) ∧
      ∃ r, t.sends e (.ydpResponse e ip port u.freeNumber (seq % wrap32) r) ∧ r.code = Code.ok ∧
        r.data = leBytes 2 u.freeNumber)

/-- SESSION_CLOSE closes its session, which answers OK; SESSION_IDLE closes a session that has been silent for its
IDLE_TIME. No other session closes (R65). A challenge's nonce expires 10 s after the read that gave it, and a lockout
ends 60 s after it began (R44, R45). -/
def Obligations.SessionsNoncesAndLockoutsEnd : Prop :=
  ((∀ (dt e ip port sess seq : Nat) (s w : State) (x : Session),
    let q : Req := { opcode := Op.sessionClose, flags := 0, index := 0, sub := 0, offset := 0, data := [] }
    (s.advance dt).serves (.ydp e ip port sess (seq % wrap32)) q w x →
    Completes (.sessionClose dt (.ydp e ip port sess seq)) s (fun t =>
      (∀ y ∈ t.ctl.sessions, y.id ≠ x.id) ∧ (∀ z ∈ s.ctl.sessions, z.id ≠ x.id → ∃ y ∈ t.ctl.sessions, y.id = z.id) ∧
      ∃ r, t.sends e (.ydpResponse e ip port sess (seq % wrap32) r) ∧ r.code = Code.ok)) ∧
  (∀ (dt n : Nat) (s : State) (x : Session),
    let u := s.advance dt
    u.unitsRun = true → u.session? (.ydp n) = some x → x.lastRequest + x.idleTime * 1000000000 ≤ u.clk →
    Completes (.sessionIdle dt n) s (fun t =>
      (∀ y ∈ t.ctl.sessions, y.id ≠ x.id) ∧ ∀ z ∈ s.ctl.sessions, z.id ≠ x.id → ∃ y ∈ t.ctl.sessions, y.id = z.id))) ∧
  (∀ (dt : Nat) (s : State),
    let u := s.advance dt
    u.unitsRun = true →
    (∀ id, Completes (.nonceExpiry dt id) s (fun t =>
      t.ctl.sessions.length = u.ctl.sessions.length ∧
      ∀ y ∈ t.ctl.sessions, y.id = id → ∀ n until_, y.challenge = some (n, until_) → u.clk < until_)) ∧
    (∀ until_, u.ctl.lockoutUntil = some until_ → until_ ≤ u.clk →
      Completes (.lockoutEnd dt) s (Settled { u with ctl := { u.ctl with lockoutUntil := none, challengeRun := 0 } })))

/-- A frame that fails its checks makes a FRAME_CHECK answer ready, with the TAG it brought, and one that passes them is
the request it spells; the latest response is what a read of it returns, as often as it is read; with it the result it
covers has been read and the snapshot it ends has ended (R54, R55, R57, R70, R77). A datagram that is malformed or whose
checksum is wrong is dropped and counted, any other is the request it spells (R62, R63). The IBI takes every collected
bit out together; SETDASA and ENTDAA assign the dynamic address; the one-byte transfer wakes a module in STANDBY and is
counted in an operating mode (R54, R59, R61). -/
def Obligations.PathsAnswerAndDeliver : Prop :=
  (∀ (dt : Nat) (s : State),
    let u := s.advance dt
    (∀ tag body, u.i3cUp = true → body ≠ [] → parseFrame (tag :: body) = none →
      Completes (.frameCheck dt (tag :: body)) s (fun t => ∃ r : Resp, t.ctl.i3c.response = some (tag.toNat, r) ∧
        r.opcode = 0x80 ∧ r.code = Code.frameCheck ∧ r.flags = 1 ∧ r.data = [])) ∧
    (∀ frame tag q, 2 ≤ frame.length → parseFrame frame = some (tag, q) →
      exec (.frameCheck dt frame) s = s.run dt State.any (fun x => x.dictionary (.i3c tag) q)) ∧
    (∀ tag r, u.i3cUp = true → u.ctl.i3c.response = some (tag, r) → u.ctl.i3c.moves = false →
      (u.ctl.i3c.covers = none → u.ctl.i3c.ends = none →
        Completes (.responseRead dt) s (Settled (u.emit (.i3cResponse tag r)))) ∧
      (∀ key seq, u.ctl.i3c.covers = some (key, seq) → u.ctl.i3c.ends = none → r.code ≠ Code.frameCheck →
        (u.result key).presented.map (fun x => x.seq) = some seq →
        Completes (.responseRead dt) s (Settled ((u.markRead key).emit (.i3cResponse tag r)))) ∧
      (∀ key, u.ctl.i3c.covers = none → u.ctl.i3c.ends = some key → r.code ≠ Code.frameCheck →
        Completes (.responseRead dt) s (Settled ((u.modSession .i3c (fun x => { x with
          snapshots := assocDrop x.snapshots key })).emit (.i3cResponse tag r))))) ∧
    (u.i3cUp = true → u.ctl.i3c.response = none → Completes (.responseRead dt) s (Settled (u.emit .i3cNack))) ∧
    (∀ e ip port b good, u.ydpUp e = true → (good = false ∨ parseDatagram b = none) →
      Completes (.datagramDrop dt ⟨e, ip, port, b, good⟩) s (Settled ((u.bump (Obj.ethFramesRx e)).bump Obj.cntDatagramsDropped))) ∧
    (∀ e ip port b sess seq q, parseDatagram b = some (sess, seq, q) →
      exec (.datagramDrop dt ⟨e, ip, port, b, true⟩) s = s.run dt State.any (fun x => x.dictionary (.ydp e ip port sess seq) q))) ∧
  (∀ (dt : Nat) (s : State),
    let u := s.advance dt
    (u.i3cUp = true → u.ctl.i3c.ibi ≠ 0 →
      Completes (.ibiDelivery dt) s (Settled (u.emit (.i3cIbi u.ctl.i3c.ibi)))) ∧
    (∀ a, u.i3cUp = true → Completes (.setdasa dt a) s (Settled (u.putNum Obj.i3cDynamicAddr (a % 128)))) ∧
    (∀ a, u.i3cUp = true → Completes (.entdaa dt a) s (Settled (u.putNum Obj.i3cDynamicAddr (a % 128)))) ∧
    (∀ b, u.pins.resetN = true → u.power.powered = true → u.ctl.mode.operating = true → u.power.state ≠ .deep →
      Completes (.wakeTransfer dt b) s (Settled
        ((if u.power.entering ∧ bitOf (u.num Obj.pwDeepWake) 3 = true then u.leaveDoze .i3c else u).bump Obj.cntStrayWakes))))

/-- A heartbeat on a path that counts starts the period anew and takes host loss back; the first after a loss is
journalled. A path that SOURCES leaves out only has its write journalled (R88, R90). A write of PERIOD starts it anew
too (R88). Half a period without a heartbeat sets HEARTBEAT_LATE, once; a whole one is host loss: counted, alerted,
journalled, the valve test off, and with ACTION 1 mode RECOVERY (R88, R89). -/
def Obligations.HeartbeatAndHostLoss : Prop :=
  (∀ (dt : Nat) (src : Src) (value : Nat) (s : State),
    let u := s.advance dt
    let w := u.heard src
    (let q := Req.ofNumber Obj.hbHeartbeat 1 value;
      u.takes src q →
      let a := w.requestSeen.journalReq src 1 Obj.hbHeartbeat q.data
      let b : State := { a with ctl := { a.ctl with heartbeat := { a.ctl.heartbeat with
        restart := w.clk, late := false, lost := false } } }
      Completes (.heartbeat dt src value) s (fun t => Answered
        (if w.heartbeatPath src = false then a else if w.ctl.heartbeat.lost then b.journalOwn 10 [1] else b) t src q
        (Answer.of Code.ok))) ∧
    (let q := Req.ofNumber Obj.hbPeriod 4 value;
      u.takes src q → Completes (.period dt src value) s (fun t =>
        t.num Obj.hbPeriod = value % wrap32 ∧ t.ctl.heartbeat = { w.ctl.heartbeat with restart := w.clk, late := false } ∧
        t.carries src (q.respond (Answer.of Code.ok))))) ∧
  (∀ (dt : Nat) (s : State),
    let u := s.advance dt
    let h := u.ctl.heartbeat
    u.unitsRun = true → u.heartbeatPeriod ≠ 0 →
    (h.late = false → h.restart + u.heartbeatPeriod / 2 ≤ u.clk →
      Completes (.heartbeatLate dt) s
        (Settled (({ u with ctl := { u.ctl with heartbeat := { h with late := true } } } : State).event Ibi.heartbeatLate))) ∧
    (h.lost = false → h.restart + u.heartbeatPeriod ≤ u.clk →
      let a := (((({ u with ctl := { u.ctl with heartbeat := { h with lost := true } } } : State).bump Obj.hbLossCount).alert
        Alert.hostLost).journalOwn 10 [0]).testOff
      (u.num Obj.hbAction ≠ 1 ∨ u.ctl.mode = .recovery → Completes (.hostLost dt) s (Settled a)) ∧
      (u.num Obj.hbAction = 1 → u.ctl.mode ≠ .recovery → Completes (.hostLost dt) s (fun t =>
        t.ctl.mode = .recovery ∧ t.ctl.heartbeat.lost = true))))

/-- OPEN gives the free staging area to its session; RELEASE frees it with every staged value discarded; SEIZE takes it,
freed, from whoever holds it; each is journalled (R91, R92). A staging area without a staging write for STAGING_IDLE is
released, outside a check (R92). -/
def Obligations.StagingIsHeldAndReleased : Prop :=
  (∀ (dt : Nat) (src : Src) (s : State),
    let u := s.advance dt
    let w := u.heard src
    let q := fun (k : Nat) => Req.ofNumber Obj.stgStaging 1 k
    let a := fun (v : Byte) => w.requestSeen.journalReq src 5 Obj.stgStaging [v, 0]
    let take := fun (z : State) => (z.modStaging (fun g => { g with holder := some (srcId src) })).stagingWrite
    (u.takes src (q 1) → w.ctl.staging.holder = none →
      Completes (.openStaging dt src) s (fun t =>
        Answered ((take (a 1)).putNum Obj.stgStaging 2) t src (q 1) (Answer.of Code.ok) ∧
        t.ctl.staging.holder = some (srcId src) ∧ t.ctl.staging.lastWrite = w.clk)) ∧
    (u.takes src (q 2) → w.ctl.staging.holder = some (srcId src) →
      Completes (.releaseStaging dt src) s (fun t =>
        Answered ((a 2).releaseStaging.putNum Obj.stgStaging 2) t src (q 2) (Answer.of Code.ok) ∧
        t.ctl.staging.holder = none ∧ t.dict.staged = [])) ∧
    (∀ h, u.takes src (q 3) → w.ctl.staging.holder = some h →
      Completes (.seize dt src) s (fun t =>
        Answered ((take (a 3).releaseStaging).putNum Obj.stgStaging 2) t src (q 3) (Answer.of Code.ok) ∧
        t.ctl.staging.holder = some (srcId src) ∧ t.dict.staged = []))) ∧
  (∀ (dt : Nat) (s : State),
    let u := s.advance dt
    u.unitsRun = true → u.ctl.staging.holder.isSome = true → u.ctl.staging.check = none →
    u.ctl.staging.lastWrite + u.num Obj.stgStagingIdle * 1000000000 ≤ u.clk →
    Completes (.stagingIdle dt) s (fun t =>
      Settled (u.moduleRelease 2) t ∧ t.ctl.staging.holder = none ∧ t.dict.staged = []))

/-- COMMIT and CHECK_ONLY freeze the area over the values staged and the commit parameters of this moment, journalled,
until their result (R93, R96). -/
def Obligations.CommitRequestFreezesTheArea : Prop :=
  ∀ (dt : Nat) (src : Src) (s : State),
    let u := s.advance dt
    let w := u.heard src
    let v := w.requestSeen
    let c := fun (command : Nat) =>
      ({ command := command, kind := v.num Obj.cmInstantKind, mask := v.num Obj.cmViewMask,
         triggers := (List.range 4).map (fun k => v.num (Obj.cmTrigger k)), atTime := v.num Obj.cmAtTime,
         staged := w.dict.staged, acceptedAt := w.clk, holderClosed := false } : Check)
    let frozen := fun (command : Nat) => (v.journalReq src 6 Obj.cmCommit [BitVec.ofNat 8 command,
        BitVec.ofNat 8 (c command).kind, BitVec.ofNat 8 (c command).mask]).modStaging (fun g => { g with
      check := some (c command), lastWrite := w.clk })
    let q := fun (command : Nat) => Req.ofNumber Obj.cmCommit 1 command
    (u.takes src (q 1) → Completes (.commit dt src) s (fun t => Answered (frozen 1) t src (q 1) (Answer.of Code.ok))) ∧
    (u.takes src (q 2) → Completes (.checkOnly dt src) s (fun t => Answered (frozen 2) t src (q 2) (Answer.of Code.ok)))

/-- A commit whose check fails applies nothing: its result and COMMIT show the failure. A CHECK_ONLY that passes
presents OK and applies nothing; where the holder of the area has closed meanwhile, either releases it. A COMMIT that
passes goes into the steps of R96 with the area frozen no more (R94, R96, R97). An armed commit whose full-time instant
has come, each view that it binds already past its index or there being none, comes into force, once (R20, R26, R95). -/
def Obligations.CommitChecksAndInstantsEnd : Prop :=
  (∀ (dt : Nat) (s : State) (c : Check),
    let u := s.advance dt
    let a := u.modStaging (fun g => { g with check := none, lastWrite := u.clk })
    let freed := fun (b : State) => if c.holderClosed then b.moduleRelease 1 else b
    u.unitsRun = true → u.ctl.staging.check = some c →
    (∀ code n key, u.checkFailure c = some (code, n, key) → Completes (.commitCheckEnd dt) s (Settled
      (freed ((a.commitResult code 0 c.kind 0 key c.command n [0, 0, 0, 0]).putNum Obj.cmCommit 3)))) ∧
    (u.checkFailure c = none → c.command = 2 → Completes (.commitCheckEnd dt) s (Settled
      (freed ((a.putNum Obj.cmCommit 2).commitResult Code.ok 0 c.kind 0 0 c.command 0 [0, 0, 0, 0])))) ∧
    (u.checkFailure c = none → c.command = 1 → Completes (.commitCheckEnd dt) s (Settled
      ((a.putNum Obj.cmCommit 2).passCommit c)))) ∧
  (∀ (dt : Nat) (s : State) (a : Armed),
    let u := s.advance dt
    u.unitsRun = true → u.ctl.staging.armed = [a] → (∀ b ∈ a.bindings, b.issued = true ∧ b.index ≠ none) → a.kind = 3 →
    a.instantDone = false →
    (a.instant ≤ u.fullNow → Completes (.commitInstant dt) s (Settled (u.instantOf a))) ∧
    (u.fullNow < a.instant → Completes (.commitInstant dt) s (Settled u)))

/-- A passed commit takes the next epoch of 1 to 0xFFFF, whose parameter set is the committed configuration with the
staged values in place, and is armed for the views it binds (R19, R27, R95). -/
def Obligations.PassedCommitTakesTheNextEpoch : Prop :=
  ∀ (u : State) (c : Check) (p : Proposal),
    let e := if u.ctl.staging.lastEpoch = 0xFFFF then 1 else u.ctl.staging.lastEpoch + 1
    (u.allocate c p).ctl.staging.lastEpoch = e ∧ (u.allocate c p).dict.committed = p.vals ∧
    (u.allocate c p).dict.sets = u.dict.sets ++ [{ epoch := e, params := p.vals, views := u.boundViews p, switched := [], landed := false }] ∧
    (∃ a, (u.allocate c p).ctl.staging.armed = u.ctl.staging.armed ++ [a] ∧ a.epoch = e ∧ a.changes = c.staged ∧
      a.bindings.map (fun b => b.view) = u.boundViews p ∧ a.instantDone = false) ∧
    ((∀ x ∈ u.dict.sets, x.epoch ≠ e) → ∀ key, (u.allocate c p).paramVal e key = u.valIn p.vals key)

/-- DIGEST_START snapshots the committed configuration; DIGEST_RESULT presents the digest of that snapshot (R109).
MIRROR_WRITE writes the oldest entry that is not mirrored to its slot with its commit word, at most 250 a second (R105,
R106). LOG_WRITE writes the record at the head of the queue with the next SEQ to its slot when a token is at hand, and
the reserve moves up; without a token it does nothing (R508, R510). -/
def Obligations.DigestMirrorAndLog : Prop :=
  ((∀ (dt : Nat) (src : Src) (value : Nat) (s : State),
    let u := s.advance dt
    let q := Req.ofNumber Obj.jrDigestStart 1 value
    let w := u.heard src
    u.takes src q →
    let a := w.requestSeen.journalReq src 4 Obj.jrDigestStart q.data
    Completes (.digestStart dt src value) s (fun t => Answered
      ((a.modJournal (fun j => { j with digest := some (a.digestSnapshot, a.ctl.journal.head, w.clk) })).putNum
        Obj.jrDigestStart 1) t src q (Answer.of Code.ok))) ∧
  (∀ (dt : Nat) (s : State) (kv : Kv) (head at_ : Nat),
    let u := s.advance dt
    u.unitsRun = true → u.ctl.journal.digest = some (kv, head, at_) →
    Completes (.digestResult dt) s (Settled
      (((u.modJournal (fun j => { j with digest := none })).putNum Obj.jrDigestStart 2).completeResult Obj.digResult
        (some u.ctl.staging.lastEpoch) (u.digestData kv head))))) ∧
  (∀ (dt seq : Nat) (e : Bytes) (rest : List (Nat × Bytes)) (s : State),
    let u := s.advance dt
    let j := u.ctl.journal
    u.ctlWrites = true →
    (j.lastMirror + 3999750 ≤ u.clk → j.unmirrored = (seq, e) :: rest →
      Completes (.mirrorWrite dt) s (fun t =>
        t.ctl.journal = { j with
          mirrored := seq, lastMirror := u.clk + 250, replaced := j.mirror.find? (fun q => q.slot = seq % 2048),
          mirror := { slot := seq % 2048, data := e, commit := seq * 2 ^ 32 + crc32c e } ::
            j.mirror.filter (fun q => q.slot ≠ seq % 2048) })) ∧
    (u.clk < j.lastMirror + 3999750 → Completes (.mirrorWrite dt) s (Settled u))) ∧
  (∀ (dt : Nat) (r : Bytes) (rest : List Bytes) (s : State),
    let u := s.advance dt
    let l := u.ctl.errlog
    let seq := (u.num Obj.logLogHead + 1) % wrap32
    u.ctlWrites = true → l.queue = r :: rest →
    (10000000 ≤ u.logTokens → Completes (.logWrite dt) s (fun t =>
      t.num Obj.logLogHead = seq ∧
      t.ctl.errlog = { l with
        tokens := u.logTokens - 10000000, tokenClock := u.clk, queue := rest ++ l.reserve.take (64 - rest.length),
        reserve := l.reserve.drop (64 - rest.length), lastWrite := u.clk + 250,
        replaced := l.slots.find? (fun q => q.slot = seq % 2048),
        slots := MramRecord.of seq (leBytes 4 seq ++ r.drop 4) :: l.slots.filter (fun q => q.slot ≠ seq % 2048) })) ∧
    (u.logTokens < 10000000 → Completes (.logWrite dt) s (Settled u)))

/-- Every journal entry is 32 bytes, takes the next SEQ, and the ring keeps the newest 8,192 (R103, R104). -/
def Obligations.JournalKeepsTheNewest : Prop :=
  ∀ (s : State) (source kind session key outcome form : Nat) (value : Bytes),
    let t := s.journalPut source kind session key outcome form value
    t.ctl.journal.head = (s.ctl.journal.head + 1) % wrap32 ∧
    (s.ctl.journal.ring.length ≤ 8192 → t.ctl.journal.ring.length ≤ 8192) ∧
    (∃ e, t.ctl.journal.ring.head? = some ((s.ctl.journal.head + 1) % wrap32, e) ∧ e.length = 32 ∧
      leNat (e.take 4) = (s.ctl.journal.head + 1) % wrap32) ∧
    ∀ k, k + 1 < 8192 → t.ctl.journal.ring[k + 1]? = s.ctl.journal.ring[k]?

/-- Input power in HALT, before a boot has begun or without power readies a boot: mode BOOT, the straps sampled, the
sessions of the module's power gone, and the input qualified 100 ms later when it is at 35.0 V or more (R474, R519,
R540). In STANDBY a transfer of 0x57 and the sources that STANDBY_WAKE names boot the module, and LAST_WAKE will report
them: a key press, and a change of A or B of a channel that was enabled at the entry (R61, R487, R525). -/
def Obligations.PowerUpAndStandbyBoot : Prop :=
  (∀ (dt vinMv id bootsel : Nat) (s : State),
    let u := s.advance dt
    (u.ctl.mode = .halt ∨ (u.ctl.mode = .boot ∧ u.ctl.boot.started = false) ∨ u.power.powered = false) →
    Completes (.powerUp dt vinMv id bootsel) s (fun t =>
      t.ctl.mode = .boot ∧ t.ctl.boot.started = false ∧ t.ctl.boot.step = 0 ∧ t.power.powered = true ∧
      t.pins.id = id % 4 ∧ t.pins.bootsel = decide (bootsel ≠ 0) ∧ t.ctl.sessions.map (fun x => x.id) = [SessId.i3c] ∧
      t.dict.staged = [] ∧ t.power.qualifiedAt = if 35000 ≤ vinMv then some (u.clk + 100000000) else none)) ∧
  (∀ (dt : Nat) (s : State),
    let u := s.advance dt
    let m := (u.valIn u.dict.mram Obj.pwStandbyWake).toNat
    u.ctl.mode = .standby → u.pins.resetN = true → u.power.powered = true →
    (bitOf m 1 = true → Completes (.standbyWake dt .key) s (fun t =>
      t.ctl.mode = .boot ∧ t.ctl.boot.wake = false ∧ t.power.standbyCause = 5)) ∧
    (∀ k, k < 8 → bitOf m 1 = true → Completes (.keyPress dt k) s (fun t =>
      t.ctl.mode = .boot ∧ t.power.standbyCause = 5 ∧ t.num (Obj.keyPresses k) = 0)) ∧
    (∀ c n levels, c < 4 → bitOf m 2 = true → bitOf u.power.encodersAtStandby c = true →
      (u.encoder c).a ≠ levels.a ∨ (u.encoder c).b ≠ levels.b → Completes (.countEdge dt c n levels) s (fun t =>
        t.ctl.mode = .boot ∧ t.power.standbyCause = 2)) ∧
    Completes (.wakeTransfer dt 0x57) s (fun t =>
      t.ctl.mode = .boot ∧ t.ctl.boot.wake = true ∧ t.power.standbyCause = 8))

/-- A boot starts module time at 0 with the first step's end in BOOT_STATUS; its image is the one PREFERRED names, or
the other with BOOTSEL, and with neither valid the boot stays with code 0xF1; a boot whose last check passes ends in
CONFIG, and one with a failing check in RECOVERY. A firmware timeout begins it once more with the other image. An object
whose newer MRAM slot is torn sets PERSIST_TORN (R86, R468, R478, R541, R544, R546). -/
def Obligations.BootRunsItsSteps : Prop :=
  ∀ (dt : Nat) (i : BootInputs) (s : State),
    let u := s.advance dt
    let b := u.ctl.boot
    u.ctl.mode = .boot → u.power.powered = true → u.pins.resetN = true → b.failed = false →
    (∃ q, u.power.qualifiedAt = some q ∧ q ≤ u.clk) →
    (b.started = false → b.step = 0 → i.last = 1 → Completes (.bootStart dt i) s (fun t =>
      t.ctl.mode = .boot ∧ t.ctl.boot.started = true ∧ t.ctl.boot.step = 1 ∧ t.timeOffset = -(u.clk : Int) ∧
      t.ctl.bootStatus / 2 ^ 24 = 2)) ∧
    (∀ named, b.started = true → b.step = 2 → i.last = 3 → b.fallback = false →
      named = (u.valIn u.dict.mram Obj.fwPreferred).toNat % 2 →
      let first := if u.pins.bootsel then 1 - named else named
      (u.imagePasses i first = true → Completes (.bootStart dt i) s (fun t =>
        t.ctl.boot.slot = first ∧ t.ctl.boot.step = 3 ∧ t.num Obj.idFwSlot = first)) ∧
      (u.imagePasses i first = false → u.imagePasses i (1 - first) = false → Completes (.bootStart dt i) s (fun t =>
        t.ctl.mode = .boot ∧ t.ctl.boot.failed = true ∧ t.ctl.bootStatus / 2 ^ 24 = 0xF1))) ∧
    (b.started = true → b.step = 9 → i.last = 10 → Completes (.bootStart dt i) s (fun t =>
      t.ctl.mode = (if b.check.isNone then .config else .recovery) ∧ t.ctl.boot.step = 10)) ∧
    (∀ key, b.started = true → b.step = 5 → i.last = 6 → u.dict.mramTorn = some key → Completes (.bootStart dt i) s (fun t =>
      bitOf t.ctl.bootStatus 11 = true)) ∧
    (b.started = true → b.step = 3 → b.fallback = false → Completes (.firmwareTimeout dt) s (Settled
      { u with ctl := { u.ctl with boot := { b with started := false, step := 0, fallback := true } } }))

/-- RESET_N sends SAFE on every enabled bus and readies a boot that waits for its rise, which samples the straps; in
HALT it is recorded; the watchdog readies a boot too (R9, R518, R519). -/
def Obligations.ResetReadiesABoot : Prop :=
  ∀ (dt : Nat) (s : State),
    let u := s.advance dt
    u.power.powered = true →
    (u.pins.resetN = true → u.ctl.mode ≠ .halt → Completes (.resetNAssert dt) s (fun t =>
      t.ctl.mode = .boot ∧ t.ctl.boot.started = false ∧ t.pins.resetN = false ∧ t.ctl.lastCause = 7 ∧ t.dict.staged = [] ∧
      ∀ b, b < 4 → (u.bus b).state = 2 ∨ (u.bus b).state = 3 → Emission.safe b ∈ t.out ∧ Emission.busSilent b ∈ t.out)) ∧
    (u.pins.resetN = true → u.ctl.mode = .halt → Completes (.resetNAssert dt) s (Settled { u with
      pins := { u.pins with resetN := false }, power := { u.power with resetDuringHalt := true } })) ∧
    (∀ id bootsel, u.pins.resetN = false → u.ctl.mode ≠ .halt → Completes (.resetNRise dt id bootsel) s (Settled { u with
      pins := { u.pins with resetN := true, id := id % 4, bootsel := decide (bootsel ≠ 0) } })) ∧
    (u.ctl.mode ≠ .halt → Completes (.watchdog dt) s (fun t =>
      t.ctl.mode = .boot ∧ t.ctl.boot.started = false ∧ t.ctl.lastCause = 7 ∧ t.dict.staged = []))

/-- Brown-out, a rail fault, a thermal trip, a PLL that loses lock and a broken die bridge enter HALT: HALT_N falls,
HALT_CAUSE names the cause in MRAM, everything without power is lost (R12, R87, R475, R476, R488, R496). HALT ends when
the supply has returned, or after 10 cool rounds: HALT_N rises and a boot is ready (R87, R477, R497). -/
def Obligations.FaultsHaltAndHaltEnds : Prop :=
  (∀ (dt n : Nat) (s : State),
    let u := s.advance dt
    let halts := fun (cause : Nat) (t : State) =>
      t.ctl.mode = .halt ∧ t.ctl.previousMode = u.ctl.mode ∧ t.ctl.lastCause = cause ∧
      Kv.get? t.dict.mram Obj.modeHaltCause = some (.num cause) ∧ Emission.haltN false ∈ t.out ∧ t.dict.staged = [] ∧
      t.power.haltClk = u.clk ∧ t.power.tripHold = decide (cause = 4) ∧ t.ctl.sessions.map (fun x => x.id) = [SessId.i3c]
    u.power.powered = true → u.ctl.mode ≠ .halt →
    Completes (.brownOut dt) s (halts 5) ∧
    Completes (.supplyFault dt) s (halts 5) ∧
    (n < 8 → Completes (.thermalTrip dt n) s (halts 4)) ∧
    (u.ctl.mode ≠ .standby → u.power.state ≠ .deep →
      Completes (.pllLoss dt) s (halts 6) ∧ Completes (.dieBridgeFailure dt) s (halts 6))) ∧
  (∀ (dt : Nat) (s : State),
    let u := s.advance dt
    let cause := (u.valIn u.dict.mram Obj.modeHaltCause).toNat
    let boots := fun (t : State) => t.ctl.mode = .boot ∧ t.ctl.boot.started = false ∧ t.ctl.boot.afterHalt = true ∧
      Emission.haltN true ∈ t.out
    u.ctl.mode = .halt → u.pins.resetN = true →
    (u.power.tripHold = false → (cause ≠ 6 ∨ u.power.resetDuringHalt = true) → Completes (.supplyReturn dt) s boots) ∧
    (u.power.tripHold = true → 10 ≤ u.power.coolRounds → cause = 4 → Completes (.thermalRestart dt) s boots))

/-- The temperature bands rise above their bound and fall 2.0 °C below it: between the two a band stays (R493). A
housekeeping round counts itself and presents the readings with its number; one without a lapsed condition for 10 ms
ends the loss of the guarantee (R351, R490, R492). -/
def Obligations.RoundsBandsAndTheGuarantee : Prop :=
  ((∀ t : Int, (bandNext 2 t = 2 ↔ 830 < t ∧ t ≤ 1000) ∧ (bandNext 3 t = 3 ↔ 980 < t ∧ t ≤ 1150) ∧
    (bandNext 4 t = 4 ↔ 1130 < t) ∧ (bandNext 1 t = 1 ↔ 0 ≤ t ∧ t ≤ 850) ∧ (bandNext 0 t = 0 ↔ t < 20)) ∧
  ∀ (b : Nat) (t : Int), b ≤ 4 → bandNext b t ≤ 4 ∧ bandNext (bandNext b t) t = bandNext b t) ∧
  (∀ (dt : Nat) (vals : List Nat) (s : State),
    let u := s.advance dt
    (u.power.powered = true → Completes (.housekeepingRound dt vals) s (fun t =>
      let read := (List.range 24).map (fun c => if u.hkRead c then natAt vals c % 65536 else 0x8000)
      let round := (u.power.round + 1) % wrap32
      t.power.round = round ∧ Kv.get? t.dict.inForce Obj.thReadings =
        some (.bytes (read.flatMap (leBytes 2) ++ leBytes 4 round)))) ∧
    (∀ since, u.unitsRun = true → u.lapsedNow = 0 → u.power.allHeldSince = some since → since + 10000000 ≤ u.clk →
      u.num Obj.gtrGuarantee = 1 → Completes (.guaranteeHeld dt) s (Settled
        { (u.putNum Obj.gtrGuarantee 0) with power := { u.power with lapsed := 0 } })))

/-- The idle timer steps the module down to DOZE where its conditions hold and DEEP's do not, and the entry sequence
into DEEP leaves it there with the heartbeat paused and the Ethernet links down (R90, R480, R481, R484). A wake source
takes DOZE back to ACTIVE, and in DEEP, where DEEP_WAKE lets it, begins the exit, whose end sets the clock from the
cycles of the low-power oscillator and restarts the heartbeat (R482, R484, R485, R486). -/
def Obligations.PowerStatesChange : Prop :=
  (∀ (dt : Nat) (s : State),
    let u := s.advance dt
    u.unitsRun = true →
    (u.dozeOk = true → u.deepOk = false → u.power.state = .active → u.power.target = none → u.power.entering = false →
      (∀ x ∈ u.dma.channels, dmaHolds x .doze = false) → Completes (.idleTimer dt) s (fun t => t.power.state = .doze)) ∧
    (u.power.entering = true → u.power.target = some .deep → u.dmaQuiet = true → Completes (.deepEntry dt) s (fun t =>
      t.power.state = .deep ∧ t.power.target = none ∧ t.ctl.heartbeat.pausedAt = some u.clk ∧
      (∀ x ∈ t.eths, x.up = false) ∧ t.power.deepAt = u.clk ∧ t.power.deepFreq = u.servo.freq))) ∧
  (∀ (dt n : Nat) (s : State),
    let u := s.advance dt
    u.ctl.mode.operating = true →
    (u.power.state = .doze → Completes (.wake dt .trigger) s (fun t =>
      t.power.state = .active ∧ t.num Obj.pwLastWake = 1)) ∧
    (u.power.state = .deep → u.power.exitAt = none → bitOf (u.num Obj.pwDeepWake) 1 = true →
      Completes (.wake dt .key) s (Settled
        ({ u with power := { u.power with exitAt := some u.clk } }.putNum Obj.pwLastWake 5))) ∧
    (u.power.state = .deep → u.power.exitAt.isSome = true → u.power.target = none →
      Completes (.deepExit dt n) s (fun t =>
        t.power.state = .active ∧ t.power.exitAt = none ∧ t.ctl.heartbeat.pausedAt = none ∧
        t.ctl.heartbeat.restart = u.clk ∧
        t.timeOffset = deepTime u.power.deepModuleTime n u.power.deepFreq - u.clk)))

/-- A region pipeline of a view without a line for 200 ns and a powered tile without work for 200 ns are gated; a
pseudo-channel whose bank queue is empty enters self-refresh in DOZE, and its stack with the last of its channels (R390,
R479). -/
def Obligations.IdleUnitsAreGated : Prop :=
  ∀ (dt n : Nat) (s : State),
    let u := s.advance dt
    (u.unitsRun = true → n < u.ctl.part.regions → (u.viewOfPort n).isSome = true → (u.region n).lastLine + 200 ≤ u.clk →
      Completes (.pipelineGate dt n) s (Settled (u.modRegion n (fun g => { g with gated := true })))) ∧
    (u.unitsRun = true → n < u.ctl.part.tiles → u.tilePowered n = true → (u.tile n).idle = true →
      (u.tile n).idleSince + 200 ≤ u.clk → u.retired Unit.tile n = false →
      Completes (.tileLight dt n) s (Settled (u.modTile n (fun y => { y with light := true })))) ∧
    (u.ctl.mode.operating = true → n < u.ctl.part.pchs → u.hbm.queue = [] → u.power.state = .doze → (u.pch n).state ≤ 1 →
      (u.pch n).busyUntil ≤ u.clk → (u.pch n).srRetry ≤ u.clk → Completes (.selfRefreshEntry dt n) s (fun t =>
        t.hbm.mem = u.hbm.mem ∧ t.hbm.pchs = u.hbm.pchs.modify n (fun y => { y with
          state := 2, debt := 0, debtClk := u.clk, srEntered := u.clk })))

/-- A lane that loses its signal goes to NO_SIGNAL, which on the system link is an error of the lane at once; signal
trains it, and starts the link-up of a port that is down; aligned it receives; a lost alignment is counted and takes it
out of ACTIVE; the end of an exit without swing is NO_SIGNAL (R111, R114, R141, R143). The eye of an aligned lane is
presented, that of a lane in NO_SIGNAL has height 0; 1 s below the floor retires the lane with RETIRE_CAUSE 2; an eye
scan ends DONE with its counts as a result, or FAILED where the lane is aligned no more (R113, R116, R118). -/
def Obligations.LanesSignalAndEyes : Prop :=
  (∀ (dt n : Nat) (s : State),
    let u := s.advance dt
    let x := u.lane n
    u.unitsRun = true → u.laneFitted n = true → u.power.target = none →
    (x.state = 4 → Completes (.noSignal dt n) s (fun t =>
      (n < 48 → (t.lane n).state = 2) ∧ (t.lane n).state ≠ 4 ∧ (t.lane n).signal = false ∧ (t.lane n).lostAt = u.clk ∧
      (48 ≤ n → t.num (laneKey n 9) = satAdd 32 (u.num (laneKey n 9)) 1))) ∧
    (x.state = 2 → 48 ≤ n → Completes (.signalDetect dt n) s (fun t =>
      (t.lane n).unsettled = ({ x with signal := true, state := 3, pseq := none } : Lane).unsettled)) ∧
    (x.state = 2 → n < 48 → u.num (Obj.portLinkMode (n / 4)) ≠ 0 → n / 4 < u.ports.length → (u.port (n / 4)).state = 0 →
      u.lostAlone n = false → Completes (.signalDetect dt n) s (fun t => (t.port (n / 4)).state = 2 ∧ (t.port (n / 4)).stage = 1)) ∧
    (x.state = 3 → x.signal = true → 48 ≤ n → Completes (.aligned dt n) s (fun t =>
      (t.lane n).unsettled = ({ x with state := 4, pseq := none, lastStatus := u.clk } : Lane).unsettled ∧
        t.num (laneKey n 3) = 21250)) ∧
    (∀ crc, x.state = 4 → Completes (.alignmentLoss dt n crc) s (fun t =>
      t.num (laneKey n 9) = satAdd 32 (u.num (laneKey n 9)) 1 ∧ (t.lane n).state ≠ 4)) ∧
    (x.exiting = true → x.state ≤ 1 → x.signal = false → Completes (.laneExit dt n) s (fun t =>
      (t.lane n).unsettled = ({ x with
        exiting := false, state := 2, pseq := none, lostAt := u.clk, lowEyeSince := none, alone := false } : Lane).unsettled ∧
      t.num (laneKey n 6) = 0))) ∧
  (∀ (dt n : Nat) (s : State),
    let u := s.advance dt
    u.unitsRun = true → u.laneFitted n = true →
    (∀ height width, (u.lane n).state = 4 ∨ (u.lane n).state = 2 → Completes (.eyeMeasure dt n height width) s (fun t =>
      t.num (laneKey n 6) = (if (u.lane n).state = 2 then 0 else min 1000 height) ∧ t.num (laneKey n 7) = min 64 width)) ∧
    (∀ since, (u.lane n).lowEyeSince = some since → since + 1000000000 ≤ u.clk → (u.lane n).state = 4 →
      u.power.target = none → Completes (.eyeFloor dt n) s (fun t =>
        (t.lane n).state = 5 ∧ t.num (laneKey n 13) = 2 ∧ t.retired (laneUnit n) (laneInst n) = true)) ∧
    (∀ x counts, u.ctl.scan = some x →
      let a : State := { u with ctl := { u.ctl with scan := none } }
      ((u.lane x.lane).state = 4 → Completes (.eyeScanDone dt counts) s (Settled
        ((a.putNum (laneKey x.lane 0x0C) 2).completeResult Obj.eyeResult none (scanData x counts)))) ∧
      ((u.lane x.lane).state ≠ 4 → Completes (.eyeScanDone dt counts) s (Settled (a.putNum (laneKey x.lane 0x0C) 3)))))

/-- The outstanding register message is sent once more after 100 µs, and ends FAILED with TIMEOUT after another; an
answer with its TAG ends it, DONE with the words of a read; one with another TAG is none, and only the PSEQ and
CAM_STATUS of its packet count (R126, R134, R135, R139). -/
def Obligations.RegisterMessagesEnd : Prop :=
  ∀ (dt p at_ : Nat) (s : State) (a : RegAccess) (rest : List RegAccess),
    let u := s.advance dt
    let drop := u.modPort p (fun x => { x with queue := [] })
    let done := fun (z : State) (data : Bytes) =>
      let y := z.modPort p (fun x => { x with queue := [] })
      (if a.isWrite then y else y.putVal (Obj.portRegData p) (.bytes (data.take (4 * a.words)))).putNum (Obj.portRegAccess p) 2
    let header := fun (n pseq status : Nat) => if u.num (Obj.portLinkMode p) = 2
      then (u.trackPseq n pseq (Obj.portPacketsLost p)).1.camStatus p status else u
    u.unitsRun = true → (u.port p).queue = a :: rest → a.sentAt = some at_ →
    (u.portFitted p = true → a.standard = 0 → at_ + 100000 ≤ u.clk → a.retried = false → Completes (.regTimeout dt p) s (Settled
      ((u.modPort p (fun x => { x with queue := { a with retried := true, sentAt := some u.clk } :: rest })).emit
        (.regMessage p a.tag a.isWrite a.address a.words a.data)))) ∧
    (u.portFitted p = true → a.standard = 0 → at_ + 100000 ≤ u.clk → a.retried = true → a.own = false → a.frame = none → rest = [] →
      Completes (.regTimeout dt p) s (Settled
        ((drop.orFlags (Obj.portFlags p) 4).putNum (Obj.portRegAccess p) 3))) ∧
    (∀ n address pseq status data, (u.hlpReceives p n = true ∨ u.cxpReceives p = true) → a.own = false → rest = [] →
      Completes (.regResponse dt ⟨p, n, ⟨pseq, status⟩⟩ a.tag address 0 data) s (Settled (done (header n pseq status) data))) ∧
    (∀ n tag address code pseq status data, (u.hlpReceives p n = true ∨ u.cxpReceives p = true) → tag ≠ a.tag →
      Completes (.regResponse dt ⟨p, n, ⟨pseq, status⟩⟩ tag address code data) s (Settled (header n pseq status))) ∧
    (∀ data, u.cxpReceives p = true → a.own = false → rest = [] →
      Completes (.cxpControlResponse dt p 0 data) s (Settled (done u data)))

/-- A good packet of a line that has been forwarded is late, one of no issued line stray; a slice of a line enters its
buffer, which stays until it is complete; a packet that fails its CRC is counted on its lane and port. Every good
packet's PSEQ is followed and its status bits set the port's flags; events become results; a line-scan header of another
geometry sets GEOMETRY_DIFFERS (R122, R125, R126, R128, R135 to R139, R144). A line whose window has passed is
forwarded: the next line without a packet as a placeholder, a hole throughout, counted in LINES_HOLED (R21, R137, R138).
-/
def Obligations.CameraPacketsBecomeLines : Prop :=
  (∀ (dt p n : Nat) (h : HlpHeader) (payload : Bytes) (s : State),
    let u := s.advance dt
    let head := fun (pseq status : Nat) => (u.trackPseq n pseq (Obj.portPacketsLost p)).1.camStatus p status
    let z := head h.pseq h.camStatus
    (u.unitsRun = true → u.hlpReceives p n = true →
      (u.ctl.staging.pipelinesStopped = false → u.lineCase p h.index = .late →
        Completes (.linePacket dt p n h payload true) s (Settled (z.bump (Obj.portPacketsLate p)))) ∧
      (u.ctl.staging.pipelinesStopped = false → u.lineCase p h.index = .stray →
        Completes (.linePacket dt p n h payload true) s (Settled (z.bump (Obj.portPacketsStray p)))) ∧
      (∀ i l, u.ctl.staging.pipelinesStopped = false → u.lineCase p h.index = .taken i → h.frameEnd = false →
        (u.port p).nextForward = h.index → (u.port p).lines.find? (fun m => m.index = h.index) = some l →
        (l.add (u.portLineBytes p i.epoch) h.offset payload).full (u.portLineBytes p i.epoch) = false →
        Completes (.linePacket dt p n h payload true) s (Settled (z.modPort p (fun y => { y with
          lines := y.lines.map (fun m =>
            if m.index = h.index then l.add (u.portLineBytes p i.epoch) h.offset payload else m) })))) ∧
      Completes (.linePacket dt p n h payload false) s (fun t =>
        t.num (Obj.portPacketsCrc p) = satAdd 32 (u.num (Obj.portPacketsCrc p)) 1 ∧
        t.num (laneKey n 10) = satAdd 32 (u.num (laneKey n 10)) 1) ∧
      (∀ pseq status, Completes (.statusPacket dt p n ⟨pseq, status⟩) s (Settled (head pseq status))) ∧
      (∀ pseq status, u.num (Obj.portLinkMode p) = 2 → Completes (.cameraEvent dt ⟨p, n, ⟨pseq, status⟩⟩ payload) s (Settled
        ((head pseq status).completeResult (Obj.portCameraEvent p) none (payload.take 1024))))) ∧
    (∀ width bits bands, u.unitsRun = true → u.cxpReceives p = true →
      (∀ pseq status, Completes (.cameraEvent dt ⟨p, n, ⟨pseq, status⟩⟩ payload) s (Settled
        (u.completeResult (Obj.portCameraEvent p) none (payload.take 1024)))) ∧
      let same := width = u.num (Obj.portWidth p) ∧ bits = u.num (Obj.portBits p) ∧ bands = u.num (Obj.portBands p)
      (u.ctl.staging.pipelinesStopped = false → u.lineCase p h.index = .late →
        (same → Completes (.cxpImagePacket dt p .lineSlice ⟨width, bits, bands, h⟩ payload) s (Settled
          (u.bump (Obj.portPacketsLate p)))) ∧
        (¬ same → Completes (.cxpImagePacket dt p .lineSlice ⟨width, bits, bands, h⟩ payload) s (Settled
          ((u.orFlags (Obj.portFlags p) 0x40).bump (Obj.portPacketsLate p))))) ∧
      Completes (.cxpImagePacket dt p .unsupportedFormat ⟨width, bits, bands, h⟩ payload) s (Settled
        (u.orFlags (Obj.portFlags p) 2)) ∧
      Completes (.trigAck dt p) s (Settled (u.bump (Obj.portTrigAcks p))) ∧
      ∀ time, Completes (.cxpHeartbeat dt p time) s (Settled (u.putNum (Obj.portCameraTime p) (time % 2 ^ 64))))) ∧
  (∀ (dt p v : Nat) (s : State) (i : Issue),
    let u := s.advance dt
    let x := u.port p
    u.unitsRun = true → u.portFitted p = true → x.view = some v → x.lines = [] → x.nextForward < wrap32 →
    u.issueOf v x.nextForward = some i → i.clk + u.param i.epoch (Obj.portReasmWindow p) * 1000 ≤ u.clk →
    u.ctl.staging.pipelinesStopped = false → 0 < u.param i.epoch (Obj.portWidth p) →
    Completes (.reasmWindow dt p x.nextForward) s (fun t =>
      (t.port p).nextForward = (x.nextForward + 1) % wrap32 ∧
      t.num (Obj.portLinesHoled p) = satAdd 32 (u.num (Obj.portLinesHoled p)) 1 ∧
      ∃ line, (t.port p).forwarded = x.forwarded ++ [line] ∧ line.index = i.index ∧ line.epoch = i.epoch ∧
        line.holes = List.replicate (u.param i.epoch (Obj.portWidth p)) true))

/-- What comes on a system-link lane: seam bytes go to their line, comets and edge records to their view in order,
events to the fabric. LINK_STATUS names the partner, 100 µs without one is an error of the lane; it is sent on every
lane in ACTIVE, the loopback lane in TEST alone, at once where nothing waits there. A seam slice or edge record that
does not come in time counts as late (R147, R232, R234, R290, R347, R443). -/
def Obligations.SystemLinkPackets : Prop :=
  ∀ (dt n : Nat) (s : State),
    let u := s.advance dt
    u.unitsRun = true →
    (∀ pseq, u.linkTakes n = true → (u.lane n).pseq = some ((pseq + 255) % 256) → pseq < 256 →
      (∀ v index offset last payload, v < 4 → Completes (.seam dt n v index offset pseq last payload) s (Settled
        ((u.linkSeq n pseq).seamBytes v index offset last payload))) ∧
      (∀ records, Completes (.cometPacket dt n pseq records) s (Settled
        ((records.take 24).foldl State.linkRecord (u.linkSeq n pseq)))) ∧
      (∀ channel time index, channel < 4 → Completes (.eventPacket dt n pseq [(channel, time, index)]) s (fun t =>
        { clk := u.clk, east := false, source := 0x190 + channel, data := index, time := time } ∈ t.fabric.raised))) ∧
    (∀ pseq sender epoch, u.linkUsed n = true → u.laneReceives n = true →
      Completes (.linkStatus dt ⟨n, pseq⟩ sender epoch) s (fun t =>
        t.num (laneKey n 0x0E) = sender % 4 ∧
        (u.power.target = none → (t.lane n).pseq = some pseq ∧ (t.lane n).lastStatus = u.clk))) ∧
    (u.linkUsed n = true → u.laneReceives n = true → (u.lane n).lastStatus + 100000 ≤ u.clk →
      Completes (.linkStatusTimeout dt n) s (fun t =>
        t.num (laneKey n 0x0E) = 0xFF ∧ t.num (laneKey n 9) = satAdd 32 (u.num (laneKey n 9)) 1)) ∧
    (u.power.target = none → Completes (.linkStatusSend dt) s (fun t => ∀ k, k < u.ctl.part.syslinks → u.linkUsed (48 + k) = true →
      2 ≤ (u.lane (48 + k)).state → (u.lane (48 + k)).state ≤ 4 → (u.lane (48 + k)).waiting = [] → (u.lane (48 + k)).linkFree ≤ 17 * u.clk →
      Emission.linkPacket (48 + k) 0x13 0 0 0 0 (u.lane (48 + k)).sent
        (leBytes 1 u.pins.id ++ leBytes 2 u.ctl.staging.lastEpoch ++ zeros 13) ∈ t.out)) ∧
    (∀ v index j i, v < 4 → (u.view v).nextStitch = some j → u.issueOf v index = some i →
      let g := u.geometry i.epoch v
      g.remote = true → ahead32 j index < half32 → (u.view v).slices.find? (fun q => q.index = index) = none →
      i.clk + ((g.ports.map (fun p => u.param i.epoch (Obj.portReasmWindow p))).foldl Nat.max 0) * 1000 + 10000 ≤ u.clk →
      Completes (.seamLate dt v index) s (fun t =>
        t.num (Obj.viewSeamLate v) = satAdd 32 (u.num (Obj.viewSeamLate v)) 1 ∧
        ∃ q ∈ (t.view v).slices, q.index = index ∧ q.late = true ∧ q.last = true)) ∧
    (∀ v index i, v < 4 → u.issueOf v index = some i → u.param i.epoch (Obj.viewContinuesTo v) ≠ 0xFF →
      (∀ e ∈ (u.view v).edges, e.1 ≠ index) → u.edgeDeadline v i ≤ u.clk → Completes (.edgeLate dt v index) s (fun t =>
        t.num (Obj.viewEdgeLate v) = satAdd 32 (u.num (Obj.viewEdgeLate v)) 1))

/-- The actions of lanes, ports, encoders and calibration: an eye scan runs on an aligned lane and fails at once on
another; ADOPT takes the camera's identity as the expected one; REG_ACCESS queues a register message; POSITION_SET sets
the position; CAL_CAPTURE begins a capture (R118, R134, R144, R167, R194). The actions of the other units: BUILD takes a
build up, HIST_CLEAR empties histogram slots, CLEAR a model slot, FLUSH the edges of an output; START starts a channel
and STOP stops it; STEP arms a step of the clock; CLEAR_RETIREMENTS marks the map for the next boot; PWR_RESET starts a
latched port (R255, R266, R309, R373, R422, R467, R504, R534). -/
def Obligations.ActionsOfTheUnits : Prop :=
  (∀ (dt n value : Nat) (src : Src) (s : State),
    let u := s.advance dt
    let w := u.heard src
    let j := fun (q : Req) => w.requestSeen.journalReq src 4 q.key q.data
    let done := fun (q : Req) (a t : State) => Answered a t src q (Answer.of Code.ok)
    (let q := Req.ofNumber (laneKey n 0x0C) 2 value;
      n < 52 → u.takes src q → Completes (.eyeScan dt src n value) s (done q
        (if ((j q).lane n).state = 4 then
          ({ j q with ctl := { (j q).ctl with scan := some { lane := n, dwell := value % 65536 } } } : State).putNum
            (laneKey n 0x0C) 1
        else (j q).putNum (laneKey n 0x0C) 3))) ∧
    (let q := Req.ofNumber (Obj.portAdopt n) 1 value;
      n < 12 → u.takes src q → Completes (.adopt dt src n value) s (done q
        (let e := ((((j q).putKept (Obj.portExpVendor n) ((j q).val (Obj.portVendor n))).putKept (Obj.portExpModel n)
          ((j q).val (Obj.portModel n))).putKept (Obj.portExpSerial n) ((j q).val (Obj.portSerial n))).putNum (Obj.portAdopt n) 2
        if ((j q).port n).badProtocol then (j q).putNum (Obj.portAdopt n) 3
        else if ((j q).port n).state = 4 then e.configureLink n else e))) ∧
    (let access := fun (write : Bool) (a : State) =>
        ((a.putNum (Obj.portRegAccess n) 1).queueReg n
          { standard := 0, isWrite := write, address := a.num (Obj.portRegAddress n), words := value % 32,
            data := if write then (a.octets (Obj.portRegData n) ++ zeros (4 * (value % 32))).take (4 * (value % 32)) else [],
            tag := 0, retried := false, own := false, frame := none, sentAt := none }).sendReg n
      let q := Req.ofNumber (Obj.portRegAccess n) 1
      (n < 12 → u.takes src (q (value % 128)) →
        Completes (.regRead dt src n value) s (done (q (value % 128)) (access false (j (q (value % 128)))))) ∧
      (n < 12 → u.takes src (q (128 + value % 128)) →
        Completes (.regWrite dt src n value) s (done (q (128 + value % 128)) (access true (j (q (128 + value % 128))))))) ∧
    (let q := Req.ofNumber (Obj.encPositionSet n) 4 value;
      n < 4 → u.takes src q → Completes (.positionSet dt src n value) s (done q
        (((j q).modEncoder n (fun e => { e.setPosition (value % wrap32) with valid := true })).putNum (Obj.encPositionSet n) 2))) ∧
    (let begins := fun (kind : Nat) (a : State) =>
        (a.modRegion n (fun g => { g with capture := some {
          kind := kind, writtenAt := a.clk, frame := none, frameNo := 0, epoch := 0, sums := [[], [], [], []], lines := 0,
          live := [] } })).putNum (Obj.portCalCapture n) 1
      let q := Req.ofNumber (Obj.portCalCapture n) 1
      (n < 12 → u.takes src (q 1) → Completes (.calCaptureDark dt src n) s (done (q 1) (begins 1 (j (q 1))))) ∧
      (n < 12 → u.takes src (q 2) → Completes (.calCaptureFlat dt src n) s (done (q 2) (begins 2 (j (q 2))))))) ∧
  (∀ (dt n value : Nat) (src : Src) (s : State),
    let u := s.advance dt
    let w := u.heard src
    let j := fun (q : Req) => w.requestSeen.journalReq src 4 q.key q.data
    let done := fun (q : Req) (a t : State) => Answered a t src q (Answer.of Code.ok)
    (let q := Req.ofNumber (Obj.viewBuild n) 1 value;
      ∀ k, n < 4 → u.takes src q → ((j q).view n).target = some k →
        Completes (.build dt src n value) s (done q (((j q).startBuild n (value % 256) k).putNum (Obj.viewBuild n) 1))) ∧
    (let q := Req.ofNumber (Obj.viewHistClear n) 1 value;
      n < 4 → u.takes src q →
        Completes (.histClear dt src n value) s (done q (((j q).clearHist n (value % 256)).putNum (Obj.viewHistClear n) 2))) ∧
    (let q := Req.ofNumber (Obj.slotClear n) 1 value;
      n < 8 → u.takes src q → Completes (.clear dt src n value) s (done q (((j q).slotEmptied n 0).putNum (Obj.slotClear n) 2))) ∧
    (let q := Req.ofNumber (Obj.toutFlush n) 1 value;
      n < 16 → u.takes src q → Completes (.flush dt src n value) s (done q (((j q).flushEdges n).putNum (Obj.toutFlush n) 2))) ∧
    (let q := Req.ofNumber (Obj.dchStart n) 2 value;
      n < 32 → u.takes src q → Completes (.start dt src n value) s (done q ((j q).startDma n (value % 65536)))) ∧
    (let q := Req.ofNumber (Obj.dchStop n) 1 value;
      n < 32 → u.takes src q → Completes (.stop dt src n value) s (done q (((j q).dmaStop n).putNum (Obj.dchStop n) 2))) ∧
    (let q := Req.ofNumber Obj.timeStep 1 value;
      u.takes src q →
        Completes (.step dt src value) s (done q (((j q).modServo (fun v => { v with stepArmed := some (j q).clk })).putNum Obj.timeStep 2))) ∧
    (let q := Req.ofNumber Obj.fltClearRetirements 1 value;
      u.takes src q → Completes (.clearRetirements dt src value) s (done q
        ((({ j q with ctl := { (j q).ctl with faults := { (j q).ctl.faults with mapClear := true } } } : State).logPut 3
          Unit.package 0 0 0 []).putNum Obj.fltClearRetirements 2))) ∧
    (let q := Req.ofNumber (Obj.camPwrReset n) 1 value;
      n < 12 → u.takes src q → Completes (.pwrReset dt src n value) s (done q (((j q).pwrReset n).putNum (Obj.camPwrReset n) 2))))

/-- Writes of FRAME_LINES, PWR_ENABLE, TEST_ENABLE and PREFERRED come into force at once, PREFERRED in MRAM too; a write
of EDGES queues its edges at its output (R155, R369, R372, R533, R548). -/
def Obligations.UnitWritesTakeEffect : Prop :=
  ∀ (dt n value : Nat) (src : Src) (data : Bytes) (s : State),
    let u := s.advance dt
    let w := u.heard src
    let ok := Answer.of Code.ok
    (let q := Req.ofNumber (Obj.trgFrameLines n) 4 value;
      n < 4 → u.takes src q → Completes (.frameLines dt src n value) s (fun t =>
        t.num (Obj.trgFrameLines n) = value % wrap32 ∧ t.carries src (q.respond ok))) ∧
    (let q := Req.ofNumber (Obj.camPwrEnable n) 1 value;
      n < 12 → u.takes src q → Completes (.pwrEnable dt src n value) s (fun t =>
        t.num (Obj.camPwrEnable n) = value % 256 ∧ t.carries src (q.respond ok))) ∧
    (let q := Req.ofNumber (Obj.vbTestEnable n) 1 value;
      n < 4 → u.takes src q → Completes (.testEnable dt src n value) s (fun t =>
        t.num (Obj.vbTestEnable n) = value % 256 ∧ t.carries src (q.respond ok))) ∧
    (let q := Req.ofNumber Obj.fwPreferred 1 value;
      u.takes src q → Completes (.preferred dt src value) s (fun t =>
        t.num Obj.fwPreferred = value % 256 ∧ Kv.get? t.dict.mram Obj.fwPreferred = some (.num (value % 256)) ∧
        t.carries src (q.respond ok))) ∧
    (let q := Req.ofWrite (Obj.toutEdges n / 256) (Obj.toutEdges n % 256) data;
      n < 16 → u.takes src q → Completes (.edges dt src n data) s (fun t =>
        Answered ((w.requestSeen.journalReq src 1 q.key q.data).putEdges n q.data) t src q ok))

/-- A count edge whose levels hold for FILTER samples moves its channel alone, by the rule of its two levels, and a
shorter one does nothing; an illegal transition is counted and flagged; an index edge latches the position, and with
INDEX_MODE 1 sets it to 0; without edges for SPEED_TIMEOUT the channel is STILL; a retired channel goes on synthetically
(R162 to R168). -/
def Obligations.EncodersCount : Prop :=
  ∀ (dt c n : Nat) (a b : Bool) (s : State),
    let u := s.advance dt
    let x := u.encoder c
    let y : Encoder := { x with a := a, b := b }
    let quiet := u.ctl.staging.armed = [] ∧ (∀ v, v < 4 → u.num (Obj.trgSource v) ≠ c + 1) ∧
      ∀ k, k < 4 → u.num (Obj.pgoInput k) ≠ c + 1
    u.unitsRun = true → c < 4 → c < u.encoders.length →
    (n < u.num (Obj.encFilter c) → Completes (.countEdge dt c n ⟨a, b⟩) s (Settled u) ∧ Completes (.indexEdge dt ⟨c, n⟩) s (Settled u)) ∧
    (u.encRuns c = true → u.num (Obj.encFilter c) ≤ n →
      (∀ f, edgeKind x.a x.b a b (u.num (Obj.encPolarity c)) = .count f → quiet → Completes (.countEdge dt c n ⟨a, b⟩) s (fun t =>
        t.encoders = u.encoders.set c (y.edge f u.clk).1)) ∧
      (edgeKind x.a x.b a b (u.num (Obj.encPolarity c)) = .illegal → x.illegal.length < 8 →
        Completes (.countEdge dt c n ⟨a, b⟩) s (fun t =>
          t.num (Obj.encPhaseErrors c) = satAdd 32 (u.num (Obj.encPhaseErrors c)) 1 ∧
          bitOf (t.num (Obj.encFlags c)) 0 = true ∧ (t.encoder c).position = x.position)) ∧
      (x.rezero = false → Completes (.indexEdge dt ⟨c, n⟩) s (fun t =>
        t.num (Obj.encIndexPos c) = x.position ∧
        t.num (Obj.encIndexCount c) = satAdd 32 (u.num (Obj.encIndexCount c)) 1 ∧
        (t.encoder c).position = if u.num (Obj.encIndexMode c) = 1 then 0 else x.position)) ∧
      (x.state = 2 ∨ x.state = 3 ∨ x.state = 4 → x.lastEdge + u.num (Obj.encSpeedTimeout c) * 1000000 ≤ u.clk →
        Completes (.speedTimeout dt c) s (Settled (u.modEncoder c (fun e => { e with state := 1, run := 0 }))))) ∧
    (u.encSynthetic c = true → quiet →
      x.synBase + (x.synCount + 1) * 1000000000 / u.num (Obj.encNominalRate c) ≤ u.clk →
      Completes (.syntheticCount dt c) s (fun t =>
        t.encoders = u.encoders.set c { (x.atPosition ((x.position + 1) % wrap32)) with synCount := x.synCount + 1 }))

/-- Quadrature: from 00 the edges 10, 11, 01, 00 count forward and the reverse order backward; both levels at once are
illegal; POLARITY turns the direction round (R163, R164). After an absorbed first edge the second against the direction
reverses and counts; in the direction every edge counts, and a count moves POSITION by one modulo 2^32 (R163, R165). -/
def Obligations.QuadratureAbsorbsAReversal : Prop :=
  (∀ a b a' b' : Bool, ∀ p, p < 2 →
    (edgeKind a b a' b' p = .noChange ↔ a' = a ∧ b' = b) ∧ (edgeKind a b a' b' p = .illegal ↔ a' ≠ a ∧ b' ≠ b) ∧
    ∀ f, edgeKind a b a' b' p = .count f → edgeKind a' b' a b p = .count (!f) ∧ edgeKind a b a' b' (1 - p) = .count (!f)) ∧
  (edgeKind false false true false 0 = .count true ∧ edgeKind true false true true 0 = .count true ∧
    edgeKind true true false true 0 = .count true ∧ edgeKind false true false false 0 = .count true) ∧
  ∀ (x : Encoder) (now : Nat), (x.run ≠ 0 ∨ x.lastEdge ≠ 0) →
    let against := x.edge (!x.forward) now
    ((x.edge x.forward now).1.position = (x.position + (if x.forward then 1 else wrap32 - 1)) % wrap32) ∧
    (x.absorbed = false → against.1.position = x.position ∧ against.2 = 0 ∧ against.1.absorbed = true ∧ against.1.forward = x.forward ∧
      (against.1.edge (!x.forward) now).1.forward = (!x.forward) ∧ (against.1.edge (!x.forward) now).1.state = 4 ∧
      (against.1.edge (!x.forward) now).1.position = (x.position + (if x.forward then wrap32 - 1 else 1)) % wrap32)

/-- A held event is issued when its time has come, with the next index; one whose source feeds the generator no more is
gone. The end of an exposure sends TRIG_END to the view's HLP ports. A TIMEBASE output pulses when its accumulator has
reached M (R149, R150, R153, R156, R169). -/
def Obligations.TriggersAreIssued : Prop :=
  ∀ (dt v : Nat) (s : State),
    let u := s.advance dt
    let g := u.trigger v
    u.unitsRun = true → v < 4 → u.ctl.staging.armed = [] →
    (∀ source, g.held = some source → u.triggerFree v ≤ u.clk →
      (source = u.num (Obj.trgSource v) → source ≠ 0 → Completes (.triggerHeldIssue dt v) s (fun t =>
        (t.trigger v).held = none ∧ (t.trigger v).nextIndex = (g.nextIndex + 1) % wrap32 ∧ (t.trigger v).lastClk = u.clk ∧
        (∃ i rest, (t.trigger v).issues = i :: rest ∧ i.index = g.nextIndex ∧ i.clk = u.clk) ∧
        t.num (Obj.trgNextIndex v) = (g.nextIndex + 1) % wrap32)) ∧
      (source ≠ u.num (Obj.trgSource v) → Completes (.triggerHeldIssue dt v) s (Settled
        (u.modTrigger v (fun x => { x with held := none }))))) ∧
    (∀ at_ index, g.endDue = some (at_, index) → at_ ≤ u.clk → Completes (.trigEnd dt v) s (fun t =>
      (t.trigger v).endDue = none ∧ ∀ p, p < 12 → (u.port p).view = some v → u.num (Obj.portLinkMode p) = 2 →
        ∃ fine, Emission.trigEnd p (index % 256) fine ∈ t.out)) ∧
    (∀ k, k < 4 → k < u.pgos.length → u.num (Obj.pgoInput k) = 5 → (u.num (Obj.pgoM k) : Int) ≤ u.pgoAcc k →
      (∀ w, w < 4 → u.num (Obj.trgSource w) ≠ 5 + k) → Completes (.pgoPulse dt k) s (fun t =>
        (t.pgo k).acc = u.pgoAcc k - u.num (Obj.pgoM k) ∧ (t.pgo k).lastClk = u.clk))

/-- A region takes the port's oldest line, and one that is retired or in reset passes a hole on; a capture without a
frame for 10 s fails; a stitched line makes the next one due; a comet leaves the close queue with a token of its view
and of the module and takes the view's next ID; the time a comet is held for fusion ends (R11, R13, R174, R194, R228,
R282, R343). -/
def Obligations.LinesAndCometsMoveOn : Prop :=
  ∀ (dt n : Nat) (s : State),
    let u := s.advance dt
    u.unitsRun = true →
    (∀ l rest, u.portFitted n = true → (u.port n).forwarded = l :: rest →
      Completes (.lineCorrection dt n) s (fun t => (t.port n).forwarded = rest ∧
        (u.regionIdle n l.index = true →
          (t.region n).coloured = holeLine l (u.param l.epoch (Obj.portOutWidth n)) :: (u.region n).coloured))) ∧
    (∀ c, u.portFitted n = true → (u.region n).capture = some c → c.frame = none → c.writtenAt + 10000000000 ≤ u.clk →
      Completes (.calCaptureTimeout dt n) s (Settled
        ((u.modRegion n (fun g => { g with capture := none })).putNum (Obj.portCalCapture n) 3))) ∧
    (∀ ecc j i, n < 4 → (u.view n).nextStitch = some j → u.issueOf n j = some i → u.stitchReady n i = true →
      Completes (.stitchLine dt n ecc) s (fun t => (t.view n).nextStitch = some ((j + 1) % wrap32))) ∧
    (∀ c rest, n < 4 → (u.view n).closeQueue = (c, false) :: rest → 1000000000 ≤ u.viewTokens n →
      1000000000 ≤ u.moduleTokens → Completes (.cometRelease dt n) s (fun t =>
        (t.view n).issuedIds = (u.view n).issuedIds + 1 ∧ (t.view n).tokens = u.viewTokens n - 1000000000 ∧
        (t.view n).tokenClk = u.clk ∧ t.power.moduleTokens = u.moduleTokens - 1000000000)) ∧
    Completes (.fuseHold dt n) s (Settled { u with
      candidates := u.candidates.filter (fun k => k.id ≠ n || decide (u.clk < k.until_)) })

/-- A build unit classifies its 4,096 cells and counts; 10 s without a whole table end the build with TIMEOUT and an
EMPTY bank; the check of a bank's copies makes it ELIGIBLE with the next VERSION, or FAILED where a copy failed twice,
and in a bank in use gives the joining regions theirs (R256, R257, R262, R266, R267, R324). A cell of a table holds the
class put into it, every other cell keeps its own, and the table stays canonical (R251). -/
def Obligations.TablesAreBuiltAndKept : Prop :=
  (∀ (dt v : Nat) (s : State),
    let u := s.advance dt
    let w := u.view v
    u.unitsRun = true → v < 4 →
    (∀ b k n x, k < 48 → w.build = some b → (u.tile k).job n = .unit v x → Completes (.buildUnit dt v k n) s (fun t =>
      ((t.view v).build.map (fun c => c.unitsDone)) = some (b.unitsDone + 1) ∧
      t.num (Obj.tileBuildUnits k) = satAdd 32 (u.num (Obj.tileBuildUnits k)) 1)) ∧
    (∀ b, w.build = some b → (w.bank b.bank).state = BankState.loading → b.startedAt + 10000000000 ≤ u.clk →
      Completes (.buildTimeout dt v) s (fun t =>
        (t.view v).build = none ∧ (t.view v).bank b.bank = Bank.reset ∧ t.num (Obj.viewBuild v) = 3)) ∧
    (∀ mismatches k, k < 2 → u.copyWaits v = false →
      let failed := fun (r : Nat) => decide (2 ≤ (assoc mismatches r).getD 0)
      ((w.bank k).state = BankState.verifying → (w.bank k).verified = false → w.build = none →
        let bad := (u.copyHolders v).filter (fun r => !u.retired Unit.region r && failed r)
        (bad = [] → Completes (.tableVerify dt ⟨v, k⟩ mismatches) s (Settled
          (((u.modBank v k (fun b => { b with
            state := BankState.eligible, version := nextVersionOf w.nextVersion, lacks := [], verified := true })).modView v
            (fun x => { x with nextVersion := nextVersionOf w.nextVersion })).tableReads v k))) ∧
        (bad ≠ [] → Completes (.tableVerify dt ⟨v, k⟩ mismatches) s (fun t =>
          ((t.view v).bank k).state = BankState.failed ∧ bitOf (t.num Obj.alAlerts) Alert.table = true))) ∧
      ((w.bank k).state = BankState.active → (w.bank k).lacks.filter failed = [] →
        (∀ r ∈ u.portsOfView v, (u.region r).awaiting = true → (assoc mismatches r).getD 0 = 0) →
        Completes (.tableVerify dt ⟨v, k⟩ mismatches) s (Settled
          ((u.modBank v k (fun b => { b with lacks := [] })).tableReads v k))))) ∧
  (∀ (t : Mem) (cell cls : Nat), cls < 16 → t.wf = true →
    tableClass (tablePut t cell cls) cell = cls ∧ (∀ c, c ≠ cell → tableClass (tablePut t cell cls) c = tableClass t c) ∧
    (tablePut t cell cls).wf = true)

/-- The dispatcher places the most urgent comet on a free brick when its estimate is in time and gives it its default
when it is not; the crop starts the run; the run ends after its C_m cycles and not before, and is counted; a decision
time that passes defaults its comet (R301, R311, R314 to R317). -/
def Obligations.CometsAreDispatched : Prop :=
  ∀ (dt : Nat) (s : State),
    let u := s.advance dt
    u.unitsRun = true →
    (∀ m rest tr, u.dispatchQueue = m :: rest → u.cometOf m.comet = some tr →
      let region := u.cometRegion m.view tr.comet
      (∀ q, u.placeFor m region = some q → u.inTime m (decide (6 ≤ q.1 / 4)) = true → q.1 < u.tiles.length → q.2 < 8 →
        (u.tile q.1).jobs.length = 8 → Completes (.dispatch dt) s (fun t =>
          t.dispatchQueue = rest ∧ (t.tile q.1).job q.2 = .crop m none)) ∧
      (u.placeFor m region = none → u.inTime m (decide (6 ≤ region)) = false → Completes (.dispatch dt) s (Settled
        (({ u with dispatchQueue := rest } : State).defaultComet m.view m.comet)))) ∧
    (∀ k b m tr, (u.tile k).job b = .crop m none → u.cometOf m.comet = some tr →
      let w := cropWindow tr.comet (u.param tr.comet.epoch (Obj.viewCropMargin m.view))
        (u.geometry tr.comet.epoch m.view).width
      (∀ n, n < w.2.2.2 → 2 ≤ u.lineSlot m.view ((w.2.2.1 + n) % wrap32)) →
      Completes (.cropFetch dt k b) s (fun t =>
        ∃ run, (t.tile k).job b = .crop m (some run) ∧ run.tenths = 0 ∧ run.since = u.clk)) ∧
    (∀ k b m run, (u.tile k).job b = .crop m (some run) → u.runTenths k run < 10 * (u.slot m.slot).cycles →
      Completes (.runEnd dt k b) s (Settled u)) ∧
    (∀ k b m run tr, k < 48 → m.view < 4 → (u.tile k).job b = .crop m (some run) → u.cometOf m.comet = some tr →
      10 * (u.slot m.slot).cycles ≤ u.runTenths k run → diff32 u.shortNow m.tDec < 0 → Completes (.runEnd dt k b) s (fun t =>
        t.num (Obj.tileRuns k) = satAdd 32 (u.num (Obj.tileRuns k)) 1 ∧
        t.num (Obj.viewModelDone m.view) = satAdd 32 (u.num (Obj.viewModelDone m.view)) 1)) ∧
    (∀ id tr, tr.view < 4 → u.cometOf id = some tr → tr.awaiting = true → 0 ≤ diff32 u.shortNow tr.tDec →
      Completes (.tDecExpiry dt id) s (fun t =>
        t.num (Obj.viewDefaulted tr.view) = satAdd 32 (u.num (Obj.viewDefaulted tr.view)) 1 ∧
        ∀ m ∈ t.dispatchQueue, m.comet ≠ id))

/-- Upsets and resets of the array: a brick's residue mismatch abandons its run; a corrected SRAM word is counted; a
tile reset and a region reset are counted, and a region stays in reset for 50 µs (R10, R11, R295, R318, R503). -/
def Obligations.UpsetsAndResets : Prop :=
  ∀ (dt n : Nat) (s : State),
    let u := s.advance dt
    u.unitsRun = true →
    (∀ b m c, m.view < 4 → u.tileLive n = true → (u.tile n).job b = .crop m c → bitOf (u.tile n).map b = true →
      (u.tile n).resetUntil ≤ u.clk → u.inReset (n / 4) = false → u.ctl.faults.times Unit.brick (8 * n + b) = [] → Completes (.brickUpset dt n b) s (fun t =>
        t.num (Obj.tileRunsAbandoned n) = satAdd 32 (u.num (Obj.tileRunsAbandoned n)) 1 ∧
        t.num Obj.fltUpsets = satAdd 32 (u.num Obj.fltUpsets) 1 ∧
        t.ctl.faults.times Unit.brick (8 * n + b) = [u.clk])) ∧
    (∀ slot, u.tileLive n = true → Completes (.sramError dt n true slot) s (Settled (u.bump (Obj.tileSramCorrected n)))) ∧
    (u.tileLive n = true → Completes (.tileReset dt n) s (fun t =>
      t.num (Obj.tileResets n) = satAdd 32 (u.num (Obj.tileResets n)) 1)) ∧
    (u.regionLive n = true → n < u.regions.length → Completes (.regionReset dt n) s (fun t =>
      (t.region n).resetUntil = u.clk + 50000 ∧ (t.region n).awaiting = true ∧
      t.num (Obj.regResets n) = satAdd 32 (u.num (Obj.regResets n)) 1))

/-- The load checks make a model READY with its cycles and cost, give it to the stacks and the tiles and start its
storing, or leave it FAILED; the result says which. Storing ends with the copy in NOR (R305 to R308). -/
def Obligations.ModelsAreCheckedAndStored : Prop :=
  ∀ (dt n : Nat) (s : State),
    let u := s.advance dt
    let x := u.slot n
    u.unitsRun = true → n < 8 →
    (x.state = 2 → Completes (.modelCheck dt n) s (Settled
      (((u.modSlot n (fun y => match u.slotFault n with
        | some _ => { y with state := 4 }
        | none => { y with
          state := 3, cycles := mdlCm y.model, cost := mdlCost y.model, norState := 1, nor := none,
          replicas := u.replicaStacks })).giveWeights.completeResult
        (Obj.slotLoadResult n) (some u.ctl.staging.lastEpoch)
        (loadData x.model (u.slotFault n) ((u.clk - x.endedAt) / 1000))).modelCopies n))) ∧
    (x.state = 3 → x.norState = 1 → Completes (.norStored dt n) s (Settled
      (u.modSlot n (fun y => { y with norState := 2, nor := some y.model }))))

/-- A tick starts with the frame number after the last one, where its predecessor ended; a bus that runs sends APPLY for
it and the frame of the next tick, 74 bytes long; the board's status frame is judged once, 4.5 µs into the tick: counted
when it is missing, its bits presented when it is good (R358 to R360, R366). -/
def Obligations.ValveTicksAndStatus : Prop :=
  (∀ flags tick period valves, (valveFrame flags tick period valves).length = 74) ∧
  ∀ (dt b : Nat) (s : State),
    let u := s.advance dt
    let x := u.bus b
    u.unitsRun = true → b < 4 →
    (x.state = 3 → x.ticking = true → x.period ≠ 0 → x.tickClk + x.period ≤ u.clk → Completes (.tickStart dt b) s (fun t =>
      (t.bus b).tick = (x.tick + 1) % wrap32 ∧ (t.bus b).tickClk = x.tickClk + x.period ∧
      (t.bus b).period = x.nextPeriod ∧
      (u.safe = false → Emission.apply b ((x.tick + 1) % wrap32) ∈ t.out ∧
        ∃ flags period valves, Emission.valveFrame b (valveFrame flags ((x.tick + 2) % wrap32) period valves) ∈ t.out))) ∧
    (∀ frame, x.sends = true → Completes (.statusFrame dt b frame) s (Settled
      (u.modBus b (fun y => { y with status := some frame })))) ∧
    (x.judge = true → x.sends = true → x.tickClk + 4500 ≤ u.clk →
      (x.status = none → Completes (.statusJudge dt b) s (fun t =>
        t.num (Obj.vbStatusMissing b) = satAdd 32 (u.num (Obj.vbStatusMissing b)) 1 ∧ (t.bus b).judge = false)) ∧
      (∀ f, x.status = some f → f.length = 16 → u16At f 14 = crc16 (f.take 14) → u8At f 0 = 2 →
        Completes (.statusJudge dt b) s (fun t => t.num (Obj.vbBoardStatus b) = u16At f 8 ∧
          t.num (Obj.vbFaultCount b) = u16At f 10 ∧ (t.bus b).judge = false)))

/-- A board that is plugged in starts its bus and one that is pulled out makes it ABSENT, counted; 100 µs of IDLE end
the first part of a start. SAFE_N counts and stamps itself, sends SAFE on every enabled bus and takes every output to
its SAFE_LEVEL; its release lets the outputs go. A due edge of an output's queue sets its level (R367, R370, R372,
R374). -/
def Obligations.BusesAndOutputsFollowTheirPins : Prop :=
  ∀ (dt b : Nat) (s : State),
    let u := s.advance dt
    let x := u.bus b
    u.unitsRun = true → b < 4 →
    (x.present = false → x.state = 1 → Completes (.vbPresAssert dt b) s (fun t =>
      t.bus b = ({ x with present := true } : Bus).start u.clk ∧ bitOf (t.num Obj.alAlerts) Alert.valveBoard = true)) ∧
    (x.present = true → x.state = 3 → Completes (.vbPresRelease dt b) s (fun t =>
      t.bus b = ({ x with present := false } : Bus).stop 1 ∧
      t.num (Obj.vbPlugEvents b) = satAdd 32 (u.num (Obj.vbPlugEvents b)) 1 ∧ Emission.busSilent b ∈ t.out)) ∧
    (∀ at_, x.state = 2 → x.startAt = some at_ → at_ + 100000 ≤ u.clk → Completes (.busStartIdle dt b) s (Settled
      (u.modBus b (fun y => { y with startAt := none })))) ∧
    (u.safe = false → u.touts.length = 16 → Completes (.safeNAssert dt) s (fun t =>
      t.pins.safeN = false ∧ t.num Obj.pinSafeCount = satAdd 32 (u.num Obj.pinSafeCount) 1 ∧
      t.num Obj.pinSafeTime = u.shortNow ∧
      (∀ k, k < 4 → (u.bus k).state = 2 ∨ (u.bus k).state = 3 → Emission.safe k ∈ t.out) ∧
      ∀ k, k < 16 → (t.tout k).pin = u.flag (Obj.toutSafeLevel k))) ∧
    Completes (.safeNRelease dt) s (Settled ({ u with pins := { u.pins with safeN := true } } : State).toutReview) ∧
    (∀ e k, k < 16 → (u.tout k).queue = [e] → (u.tout k).lamp = [] → diff32 e.1 u.shortNow ≤ 0 → u.edgesDiscarded = false →
      (u.tout k).tooSoon u.clk = false → Completes (.timedEdge dt k) s (fun t =>
        (t.tout k).queue = [] ∧ (t.tout k).edgeLevel = e.2))

/-- A burst write to a pseudo-channel that takes commands stores its bytes from the burst's address on and no others,
and keeps the store canonical; a read changes no byte (R377, R382, R384). -/
def Obligations.BurstsStoreTheirBytes : Prop :=
  ∀ (dt port pch pa : Nat) (data : Option Bytes) (s : State),
    let u := s.advance dt
    let base := hbmAddr pch (pa % 2 ^ 29 / 32 * 32)
    u.unitsRun = true → pch < u.ctl.part.pchs → port < 7 → u.hbm.queue = [] → u.retired Unit.pch pch = false →
    (u.pch pch).state = 0 → (u.pch pch).busyUntil ≤ u.clk → u.hbm.mem.wf = true → (∀ k, u.stackLost k = false) →
    Completes (.hbmRequest dt port pch pa data .clean) s (fun t =>
      t.hbm.queue = [] ∧ t.hbm.mem.wf = true ∧
      (∀ b, data = some b →
        (∀ k, k < b.length → Mem.read t.hbm.mem (base + k) = b.getD k 0) ∧
        ∀ a, a < base ∨ base + b.length ≤ a → Mem.read t.hbm.mem a = Mem.read u.hbm.mem a) ∧
      (data = none → ∀ a, Mem.read t.hbm.mem a = Mem.read u.hbm.mem a))

/-- The upkeep of the stacks: an urgent refresh pays one interval of the debt and is counted; an idle pseudo-channel
enters power-down after PD_TIMER; the patrol moves on by a burst; a stack above 85 °C halves its refresh interval, and
takes it back at 83 °C; the oldest line that waits for its write is MISSING (R385 to R389, R396). -/
def Obligations.StacksAreKept : Prop :=
  ∀ (dt n : Nat) (s : State),
    let u := s.advance dt
    let x := u.pch n
    u.unitsRun = true →
    (n < u.ctl.part.pchs → u.hbm.queue = [] → x.state ≤ 1 → x.busyUntil ≤ u.clk → (u.refreshL n : Int) < u.debt n →
      Completes (.refresh dt n) s (Settled ((u.modPch n (fun y => { y with
        debt := u.debt n - u.refreshT n, debtClk := u.clk, busyUntil := u.clk + 350, lastUse := u.clk,
        state := if y.state = 1 then 0 else y.state })).bump (Obj.pchUrgentRefreshes n)))) ∧
    (n < u.ctl.part.pchs → u.hbm.queue = [] → x.state = 0 → u.num Obj.hbmPdTimer ≠ 0 →
      x.lastUse + u.num Obj.hbmPdTimer ≤ u.clk → x.busyUntil ≤ u.clk → u.debt n < u.refreshT n →
      Completes (.powerDown dt n) s (Settled (u.modPch n (fun y => { y with state := 1 })))) ∧
    (n < u.ctl.part.pchs → n < u.hbm.pchs.length → u.hbm.queue = [] → x.state = 0 → x.busyUntil ≤ u.clk →
      u.num Obj.hbmScrubPeriod ≠ 0 → u.scrubDue n ≤ u.clk → u.retired Unit.pch n = false → (∀ k, u.stackLost k = false) →
      Completes (.patrolScrub dt n .clean) s (fun t =>
        (t.pch n).scrubNext = (x.scrubNext + 32) % 2 ^ 29 ∧ t.hbm.mem = u.hbm.mem)) ∧
    (∀ celsius, n < u.ctl.part.stacks →
      let hot := if (u.stack n).doubled then decide (83 < celsius) else decide (85 < celsius)
      Completes (.stackTemperature dt n celsius) s (Settled
        ((u.modStack n (fun y => { y with celsius := celsius, doubled := hot })).bumpIf (hot ≠ (u.stack n).doubled)
          (objKey (0x7010 + n) 4)))) ∧
    (∀ v j, u.viewOfPort n = some v → (u.view v).nextStitch = some j →
      let index := u.oldestWaiting v n j
      u.lineSlot v index ≠ 0 → Completes (.lineWriteDrop dt n) s (Settled
        ((u.modRing v (fun y => { y with
          slots := y.slots.map (fun t => if t.2.1 = index then (t.1, t.2.1, 3) else t),
          writing := y.writing.filter (fun t => t.1 ≠ index) })).bump (Obj.ringDropped v))))

/-- The life of a DMA descriptor: fetched it is checked and waits for its turn, its source or its unit; a failed check
ends the channel with cause 4; flight is entered by the ready channel of the highest priority while 16 buffers last; its
end moves the data, presents BYTES_DONE and takes the channel to the next descriptor or to its end; a port that takes
nothing for 10 µs is a bus error (R409, R412 to R419, R421, R423). -/
def Obligations.DescriptorsRun : Prop :=
  ∀ (dt c : Nat) (s : State),
    let u := s.advance dt
    let x := u.dch c
    u.unitsRun = true → u.power.target = none → u.power.state ≠ .doze → c < 32 →
    (x.state = 1 → x.current = none → c < u.dma.channels.length → u.power.band ≠ 4 →
      let d := u.descriptor x.desc
      (∀ code, u.fetchCheck c x.desc d = some code → Completes (.descriptorFetch dt c) s (fun t =>
        (t.dch c).state = 5 ∧ (t.dch c).cause = 4 ∧ (t.dch c).code = code)) ∧
      (u.fetchCheck c x.desc d = none → descFollow d = true → u.followReached d = false →
        Completes (.descriptorFetch dt c) s (fun t =>
          (t.dch c).state = 2 ∧ (t.dch c).current = some d ∧ (t.dch c).following = true)) ∧
      (u.fetchCheck c x.desc d = none → descFollow d = false → descAction d = 0 → Completes (.descriptorFetch dt c) s (fun t =>
        (t.dch c).state = 1 ∧ (t.dch c).current = some d ∧ (t.dch c).bytesDone = 0 ∧
        (t.dch c).residue = descCount d))) ∧
    (∀ d, x.current = some d → x.following = true → u.followReached d = true → descAction d = 0 →
      Completes (.followReady dt c) s (fun t => (t.dch c).state = 1 ∧ (t.dch c).following = false)) ∧
    (u.inFlight < 16 → u.dmaNext = some c → Completes (.flightEntry dt) s (fun t =>
      t.dch c = { x with state := 3, inFlight := true, issuedAt := u.clk } ∧
      ∀ k, k < 32 → u.dmaWants k = true → u.num (Obj.dchPriority k) ≤ u.num (Obj.dchPriority c))) ∧
    (∀ d b, x.current = some d → x.state = 3 → x.inFlight = true → u.dmaServes c = true → descAction d = 0 → descNext d = 0xFFFF →
      addrSpace (descDst d) ≠ 4 → u.dmaRead (descSrc d) (descCount d) = some b →
      u.dmaWritable 4 (descDst d) (descCount d) = descCount d → Completes (.descriptorDone dt c) s (fun t =>
        (t.dch c).state = 5 ∧ (t.dch c).cause = 1 ∧ (t.dch c).bytesDone = descCount d ∧ (t.dch c).residue = 0 ∧
        t.num (Obj.dchDescDone c) = satAdd 32 (u.num (Obj.dchDescDone c)) 1)) ∧
    (∀ d, x.current = some d → x.state = 3 → x.inFlight = true → u.dmaServes c = true → u.dmaRead (descSrc d) (descCount d) = none →
      Completes (.descriptorDone dt c) s (fun t =>
        (t.dch c).state = 5 ∧ (t.dch c).cause = 4 ∧ (t.dch c).code = Code.dataError)) ∧
    (∀ d, x.current = some d → x.state = 3 → addrSpace (descDst d) = 4 → x.issuedAt + 10000 ≤ u.clk →
      (u.eth (addrEth (descDst d))).up = false → Completes (.busError dt c) s (fun t =>
        (t.dch c).state = 5 ∧ (t.dch c).cause = 4 ∧ (t.dch c).code = Code.busError))

/-- A free check unit goes to the first that waits for it; the codec takes a stream record before a DMA request; parity
errors of a channel of DMA or of the event fabric are upsets, but of a retired one none, and the latter's 3rd within 10
s retires it (R425, R434, R502, R503). The events of a cycle that has passed leave the fabric: one that no channel takes
is gone, and one that a channel with an open gate takes below its storm limit counts in the channel's EVENTS (R442,
R448, R451). -/
def Obligations.UnitsAndEventsAreShared : Prop :=
  (∀ (dt n : Nat) (s : State),
    let u := s.advance dt
    u.unitsRun = true →
    (∀ rest, n < 4 → u.power.target = none → u.power.state ≠ .doze → u.dma.holders.getD n 0xFF = 0xFF → u.dma.waiters.getD n [] = 0x40 :: rest →
      Completes (.checkUnitGrant dt n) s (fun t =>
        t.dma = { u.dma with waiters := u.dma.waiters.set n rest, holders := u.dma.holders.set n 0x40 })) ∧
    (∀ fails k dest eth record bits bands width payload rest, u.codecHeld = false →
      u.dma.streamQueue = .stream k dest eth record bits bands width payload :: rest →
      let b := codeBlock record 32 (record.length - 32 - payload) width bands bits 1 fails
      Completes (.codecBlock dt fails) s (Settled
        (((u.modEngine (fun e => { e with streamQueue := rest })).codecCount b record.length).deliverStream k dest eth true
          b.block))) ∧
    (n < 32 → (u.retired Unit.dma n = false → u.ctl.faults.times Unit.dma n = [] → Completes (.dmaParityError dt n) s (Settled
      (u.upset Unit.dma n 10000000000 []))) ∧
      (u.retired Unit.dma n = true → Completes (.dmaParityError dt n) s (Settled u))) ∧
    (n < 296 → u.ctl.part.channelFitted n = true → channelSecure n = false → u.retired Unit.channel n = false →
      let a := u.upset Unit.channel n 10000000000 []
      (a.overThreshold Unit.channel n 3 = false → Completes (.eventChannelParityError dt n) s (Settled a)) ∧
      (a.overThreshold Unit.channel n 3 = true → Completes (.eventChannelParityError dt n) s (fun t =>
        Settled (a.retire Unit.channel n 0 []) t ∧ t.retired Unit.channel n = true)))) ∧
  (∀ (dt : Nat) (r : Raised) (s : State),
    let u := s.advance dt
    u.unitsRun = true → u.fabric.raised = [r] → r.more = 0 → r.clk < u.clk → r.source < 0x100 →
    (u.channelsOf r.east r.source = [] → Completes (.eventDelivery dt) s (Settled
      (u.modFabric (fun b => { b with raised := [] })))) ∧
    (∀ n, u.channelsOf r.east r.source = [n] → n < 128 → u.retired Unit.channel n = false → channelOwned n = false →
      u.channelsOf r.east (0x100 + n) = [] → u.octets (Obj.echTasks n) = [] →
      (u.gateOpen n = false → Completes (.eventDelivery dt) s (fun t =>
        t.num (Obj.echGated n) = satAdd 32 (u.num (Obj.echGated n)) 1 ∧ t.num (Obj.echEvents n) = u.num (Obj.echEvents n))) ∧
      (u.gateOpen n = true → (u.stormGuard n).2 = true → Completes (.eventDelivery dt) s (fun t =>
        t.num (Obj.echEvents n) = satAdd 32 (u.num (Obj.echEvents n)) 1))))

/-- A link that comes up sends a gratuitous ARP, one that goes down forgets the grandmaster announced on it; ARP
requests for the port's address and echo requests are answered, replies to the module's requests fill the entry, other
frames count in RX_DROPPED; unresolved entries are asked for once a second, entries asked for again after 290 s and gone
after 300 s (R456, R457). -/
def Obligations.PortsKeepTheirAddresses : Prop :=
  ∀ (dt p ip mac target : Nat) (s : State),
    let u := s.advance dt
    let own := u.num (Obj.ethIpv4Addr p)
    u.netRuns = true →
    (p < 2 → p < u.eths.length → u.flag (Obj.ethEnable p) = true → (u.eth p).up = false → Completes (.ethLinkUp dt p) s (fun t =>
      (t.eth p).up = true ∧ t.sends p (.arp p true own))) ∧
    ((u.eth p).up = true →
      Completes (.ethLinkDown dt p) s (fun t => (t.eth p).up = false ∧ (t.eth p).announced = none) ∧
      Completes (.arpFrame dt p .request ip mac own) s (Settled ((u.rx p).tx p (.arp p false ip))) ∧
      (target ≠ own → Completes (.arpFrame dt p .request ip mac target) s (Settled (u.bump (Obj.ethRxDropped p)))) ∧
      ((u.eth p).entry ip = none → Completes (.arpFrame dt p .reply ip mac target) s (Settled (u.bump (Obj.ethRxDropped p)))) ∧
      (∀ f, u.rxAccepts p f = false → Completes (.rxDropped dt ⟨p, f⟩) s (Settled (u.bump (Obj.ethRxDropped p)))) ∧
      ∀ a, (u.eth p).entry ip = some a →
        (a.mac = none → Completes (.arpFrame dt p .reply ip mac target) s (fun t =>
          (t.eth p).entry ip = some { a with mac := some mac, at_ := u.clk })) ∧
        (a.mac = none → a.asked + 1000000000 ≤ u.clk → Completes (.arpRetry dt p ip) s (fun t =>
          t.sends p (.arp p true ip) ∧ (t.eth p).entry ip = some { a with asked := u.clk })) ∧
        (a.mac.isSome = true → a.asked ≤ a.at_ → a.at_ + 290000000000 ≤ u.clk → Completes (.arpRefresh dt p ip) s (fun t =>
          t.sends p (.arp p true ip) ∧ (t.eth p).entry ip = some { a with asked := u.clk })) ∧
        (a.mac.isSome = true → a.at_ + 300000000000 ≤ u.clk → Completes (.arpExpiry dt p ip) s (fun t =>
          (t.eth p).entry ip = none))) ∧
    (∀ payload, (u.eth p).up = true →
      (1472 < payload.length → Completes (.icmpEcho dt p ip payload) s (Settled (u.bump (Obj.ethRxDropped p)))) ∧
      (payload.length ≤ 1472 → (u.eth p).echoes = [] → Completes (.icmpEcho dt p ip payload) s (fun t =>
        t.sends p (.icmpReply p ip payload) ∧ (t.eth p).echoes = [u.clk])))

/-- The offset that a one-step Sync yields, its arrival less its origin, its correction and the path delay, is taken in
within JUMP_THRESHOLD, applied as a step where one may be, and otherwise refused with module time as it was: HOLDOVER,
STEP_NEEDED and the alert TIME; a new grandmaster's first offsets are only reported. A two-step Sync waits for its
Follow_Up. 4 sync intervals without an offset are HOLDOVER (R464 to R467). The messages of PTP, in the module's
transport and domain: an Announce is one of the port's announced grandmasters, beside the others, until its receipt
timeout; management and signaling count in IGNORED; a MASTER port answers Delay_Req with the time of its arrival under
the request's number and sends Announce at its interval under the next number; a message in the other transport counts
in RX_DROPPED (R456, R462, R463, R465). -/
def Obligations.TimeIsSteered : Prop :=
  (∀ (dt p seq : Nat) (origin correction : Int) (s : State),
    let u := s.advance dt
    let f := fun (two : Bool) => PtpFields.mk correction two (u.num Obj.ptpTransport) (u.num Obj.ptpDomain) seq
    let arrival : Int := (u.clk : Int) + u.timeOffset - (u.num (Obj.ethPhyDelayRx p) : Nat)
    let o := arrival - origin - correction - (u.eth p).pathDelay
    let v : Servo := { u.servo with offset := o, lastSync := u.clk }
    (p < 2 → u.netRuns = true → (u.eth p).up = true → u.ptpOn p = true → (u.eth p).ptpState = 9 →
      (u.servo.state ≠ 1 → o.natAbs ≤ u.num Obj.timeJumpThreshold → Completes (.sync dt p origin (f false)) s (fun t =>
        t.servo = v.accept (u.num Obj.timeKp) (u.num Obj.timeKi) (u.num Obj.timeLockThreshold) o ∧
        t.timeOffset = u.timeOffset ∧ t.num Obj.timeStepNeeded = 0)) ∧
      (u.servo.state ≠ 1 → u.num Obj.timeJumpThreshold < o.natAbs → u.mayStep = true → Completes (.sync dt p origin (f false)) s (fun t =>
        t.timeOffset = u.timeOffset - o ∧ t.servo.state = 2 ∧ t.servo.integ = u.servo.integ ∧ t.servo.stepArmed = none ∧
        t.num Obj.timeStepsApplied = satAdd 32 (u.num Obj.timeStepsApplied) 1)) ∧
      (u.servo.state ≠ 1 → u.num Obj.timeJumpThreshold < o.natAbs → u.mayStep = false → Completes (.sync dt p origin (f false)) s (fun t =>
        t.timeOffset = u.timeOffset ∧ t.servo.state = 4 ∧ t.num Obj.timeStepNeeded = 1 ∧
        t.num Obj.timeLastRefused = ofSigned 64 o ∧
        t.num Obj.timeStepsRefused = satAdd 32 (u.num Obj.timeStepsRefused) 1 ∧
        bitOf (t.num Obj.alAlerts) Alert.time = true)) ∧
      (u.servo.state = 1 → u.clk < u.servo.qualifying + 8 * logSeconds (u.int 16 Obj.ptpLogSync) →
        Completes (.sync dt p origin (f false)) s (fun t => t.servo = v ∧ t.timeOffset = u.timeOffset)) ∧
      Completes (.sync dt p origin (f true)) s (fun t =>
        (t.eth p).syncRx = some (arrival, correction, seq) ∧ t.servo = u.servo ∧ t.timeOffset = u.timeOffset)) ∧
    (u.unitsRun = true → 1 ≤ u.servo.state → u.servo.state ≤ 3 →
      u.servo.lastSync + 4 * logSeconds (u.int 16 Obj.ptpLogSync) ≤ u.clk → Completes (.syncTimeout dt) s (fun t =>
        t.servo = { u.servo with state := 4, freq := -u.servo.integ, run := 0, beyond := 0 })) ∧
    (∀ at_, u.unitsRun = true → u.servo.stepArmed = some at_ → at_ + 60000000000 ≤ u.clk → Completes (.stepWithdraw dt) s (fun t =>
      t.servo = { u.servo with stepArmed := none }))) ∧
  (∀ (dt p : Nat) (s : State),
    let u := s.advance dt
    let arrival : Int := (u.clk : Int) + u.timeOffset - (u.num (Obj.ethPhyDelayRx p) : Nat)
    let own := u.num Obj.ptpTransport
    let here := u.num Obj.ptpDomain
    (u.netRuns = true → (u.eth p).up = true → u.ptpOn p = true →
      (∀ identity rank utc, Completes (.announce dt p ⟨identity, own, here⟩ rank utc) s (fun t =>
        ⟨identity, rank, u.clk, utc⟩ ∈ (t.eth p).masters ∧
        ∀ m ∈ (u.eth p).masters, m.identity ≠ identity → m ∈ (t.eth p).masters)) ∧
      (∀ time c two seq, Completes (.ptpMessage dt p ⟨.other, time, ⟨c, two, own, here, seq⟩⟩) s (Settled
        ((u.rx p).bump (Obj.ethIgnored p)))) ∧
      (∀ k time c two seq transport, transport ≠ own → Completes (.ptpMessage dt p ⟨k, time, ⟨c, two, transport, here, seq⟩⟩) s
        (Settled (u.bump (Obj.ethRxDropped p)))) ∧
      ((u.eth p).ptpState = 6 → u.num Obj.ptpProfile = 0 → ∀ time c two seq,
        let answer := Emission.ptp p 9 (some arrival) c false (u.ptpHead p 9 seq)
        Completes (.ptpMessage dt p ⟨.delayReq, time, ⟨c, two, own, here, seq⟩⟩) s (fun t =>
          Settled ((u.rx p).tx p answer) t ∧ t.sends p answer)) ∧
      (let n := natAt (u.eth p).ptpSeqs 0
        let message := Emission.ptp p 11 none 0 false (u.ptpHead p 11 n)
        (u.eth p).ptpState = 6 → natAt (u.eth p).sent 0 + logSeconds (u.int 16 Obj.ptpLogAnnounce) ≤ u.clk →
        Completes (.ptpSend dt p .announce) s (fun t =>
          Settled ((u.modEth p (fun y => { y with
            sent := y.sent.set 0 u.clk, ptpSeqs := y.ptpSeqs.set 0 ((n + 1) % 65536) })).tx p message) t ∧
          t.sends p message))) ∧
    (u.unitsRun = true → (u.eth p).masters ≠ [] →
      (∀ m ∈ (u.eth p).masters, m.at_ + u.num Obj.ptpAnnounceTimeout * logSeconds (u.int 16 Obj.ptpLogAnnounce) ≤ u.clk) →
      Completes (.announceTimeout dt p) s (fun t => (t.eth p).masters = [] ∧ (t.eth p).announced = none)))

/-- Keys: an accepted press of an enabled key sets its bit and counts, its release clears the bit, and a press still
held after LONG_PRESS is a long press once. A lamp that blinks toggles at its half period (R525, R526, R532). Camera
power: a fault lowers the enable and counts, and the port waits for its retry or, with its retries used up, is latched;
a retry raises the enable; after BOOT the enables rise one at a time in port order (R533, R534). The programming of an
image slot ends with a valid image (R547, R548). -/
def Obligations.KeysLampsAndCameraPower : Prop :=
  (∀ (dt k : Nat) (s : State),
    let u := s.advance dt
    u.ctl.mode.operating = true →
    (k < 8 → bitOf (u.num Obj.keyKeyEnable) k = true → bitOf u.pins.keys k = false → Completes (.keyPress dt k) s (fun t =>
      bitOf t.pins.keys k = true ∧ t.num (Obj.keyPresses k) = satAdd 32 (u.num (Obj.keyPresses k)) 1)) ∧
    (k < 8 → Completes (.keyRelease dt k) s (fun t => ∀ j, bitOf t.pins.keys j = (bitOf u.pins.keys j && decide (j ≠ k)))) ∧
    (k < 8 → bitOf u.pins.keys k = true → bitOf u.pins.silentKeys k = false → bitOf u.pins.longDone k = false →
      natAt u.pins.pressedAt k + u.num Obj.keyLongPress * 1000000 ≤ u.clk → Completes (.longPress dt k) s (Settled
        (((u.modPins (fun p => { p with longDone := setBit p.longDone k })).orFlags Obj.keyLongFlags (2 ^ k)).bump
          (Obj.keyLongCount k)))) ∧
    (k < 8 → bitOf u.pins.longDone k = true → Completes (.longPress dt k) s (Settled u)) ∧
    (k < 4 → k < u.pins.lampOn.length → (u.num (Obj.lampMode k) = 2 ∨ u.num (Obj.lampMode k) = 3) →
      natAt u.pins.lampClk k + u.lampHalf k ≤ u.clk → Completes (.lampBlink dt k) s (fun t =>
        t.pins.lampOn.getD k false = !u.pins.lampOn.getD k false ∧
        Emission.lamp k (!u.pins.lampOn.getD k false) ∈ t.out))) ∧
  (∀ (dt k : Nat) (s : State),
    let u := s.advance dt
    let x := u.camPower k
    u.ctl.mode.operating = true →
    (k < 12 → x.enable = true →
      let failed := if x.retried = true ∧ u.clk ≤ x.enabledAt + 1000000000 then x.failed + 1 else 0
      Completes (.campwrFlt dt k) s (fun t =>
        (t.camPower k).enable = false ∧ (t.camPower k).failed = failed ∧ Emission.camPower k false ∈ t.out ∧
        t.num (Obj.camFaults k) = satAdd 32 (u.num (Obj.camFaults k)) 1 ∧
        (failed < u.num Obj.cpwPwrRetries → (t.camPower k).state = 2 ∧
          (t.camPower k).retryAt = some (u.clk + u.num Obj.cpwPwrRetry * 1000000)) ∧
        (u.num Obj.cpwPwrRetries ≤ failed → (t.camPower k).state = 3 ∧ (t.camPower k).retryAt = none ∧
          bitOf (t.num Obj.alAlerts) Alert.camera = true))) ∧
    (∀ at_, k < 12 → x.retryAt = some at_ → at_ ≤ u.clk → x.state = 2 → Completes (.pwrRetry dt k) s (fun t =>
      t.camPower k = { x with enable := true, state := 1, retryAt := none, enabledAt := u.clk, retried := true } ∧
      Emission.camPower k true ∈ t.out)) ∧
    (∀ at_ q, u.pins.staggerNext = some (k, at_) → at_ ≤ u.clk → u.nextPowered k = some q → (u.camPower q).state = 0 →
      q < u.pins.camera.length → Completes (.pwrStagger dt) s (fun t =>
        (t.camPower q).enable = true ∧ Emission.camPower q true ∈ t.out ∧
        t.pins.staggerNext = some (q + 1, at_ + u.num Obj.cpwPwrStagger * 1000000) ∧
        ∀ n, n ≠ q → t.camPower n = u.camPower n)) ∧
    (∀ i : Image, u.ctl.images[k]? = some i → i.writing = true → Completes (.fwProgrammed dt k) s (fun t =>
      t.ctl.images[k]? = some { i with valid := true, writing := false })))

/-- Touch: three scans in a row at THRESHOLD or more turn a seeded channel on, fewer do not, three below half of it turn
it off; a scan runs the enabled channels, and a channel on for TOUCH_MAX is turned off, reseeded and counted (R528 to
R531). -/
def Obligations.TouchChannelsTakeThreeScans : Prop :=
  (∀ (x : Touch) (now raw thr sh : Nat), x.seeded = true → 0 < thr →
    (x.on = false → (thr : Int) ≤ x.delta raw → (x.scan now raw thr sh false).1.on = decide (2 ≤ x.above) ∧
      (x.above < 2 → (x.scan now raw thr sh false).1.base = ((x.base : Int) + asr ((raw * 256 : Nat) - (x.base : Int)) sh).toNat)) ∧
    (x.on = false → x.delta raw < thr → (x.scan now raw thr sh false).1.above = 0 ∧ (x.scan now raw thr sh false).1.on = false) ∧
    (x.on = true → 2 * x.delta raw < thr → (x.scan now raw thr sh false).1.on = decide (x.below < 2))) ∧
  ∀ (dt c raw : Nat) (s : State),
    let u := s.advance dt
    u.ctl.mode.operating = true → c < 4 → c < u.pins.touch.length →
    (u.touchEnabled = [c] → 1 < u.num Obj.tchWaterChannels → Completes (.touchScan dt (List.replicate 4 raw)) s (fun t =>
      t.touch c = ((u.touch c).scan u.clk raw (u.num (Obj.tchcThreshold c)) (u.num Obj.tchBaseShift) false).1 ∧
      ∀ d, d ≠ c → t.touch d = u.touch d)) ∧
    ((u.touch c).on = true → (u.touch c).onSince + u.num Obj.tchTouchMax * 1000000000 ≤ u.clk →
      Completes (.touchStuck dt c) s (fun t =>
        Settled (((u.modPins (fun p => { p with
          touch := setAt p.touch c { u.touch c with on := false, base := (u.touch c).raw * 256, above := 0, below := 0 } })).orFlags
            Obj.tchFlags 2).bump (Obj.tchcStuckCount c)) t ∧
        (t.touch c).on = false ∧ (t.touch c).base = (u.touch c).raw * 256 ∧ bitOf (t.num Obj.tchFlags) 1 = true ∧
        t.num (Obj.tchcStuckCount c) = satAdd 32 (u.num (Obj.tchcStuckCount c)) 1))

/-- Every step keeps the panel lamps at the levels their MODE and SOURCE ask for: off in BOOT and STANDBY, in HALT only
those that show HALT, ON and OFF fixed, STATE lamps as their condition holds (R532). -/
def Obligations.LampsShowInEveryStep : Prop :=
  ∀ s t : State, s.lampsShow → step s = .next t → t.lampsShow

/-- Every step keeps each view's record of DEGRADED, on which its alert rests, as VIEW_STATE reads (R240, R507). Every
step keeps the tracker's record of the conditions RUN, HOT and retired regions as they stand, so that none lapses or
returns without being seen (R349, R351). -/
def Obligations.ViewsAndLapsesInEveryStep : Prop :=
  (∀ s t : State, s.viewsReported → step s = .next t → t.viewsReported) ∧
  (∀ s t : State, s.lapsesWatched → step s = .next t → t.lapsesWatched)

/-- Every step keeps every store of bytes of the module in its canonical form: HBM, the descriptor table, the exchange
buffer, the buffer of the BLOB transfer and the copies of the sort tables. -/
def Obligations.StoresStayCanonical : Prop :=
  ∀ s t : State, s.storesCanonical → step s = .next t → t.storesCanonical

/-- The three invariants hold at reset. -/
def Obligations.InvariantsHoldAtReset : Prop :=
  State.reset.lampsShow ∧ State.reset.viewsReported ∧ State.reset.lapsesWatched
end

