-- ==== Sys2Proof/Laws/Exec.lean ====
section
/-! SUPPORT. What holds of every command at once: it answers a next state; and each command's form, which no proof has to
unfold. -/

namespace Sys2Proof.Machine

/-- The form of every meaning: the effect where the state admits it, then the settling. -/
theorem State.run_next (s : State) (dt : Nat) (admits : State → Bool) (effect : State → State) :
    s.run dt admits effect =
      .next ({ (if admits (s.advance dt) then effect (s.advance dt) else s.advance dt) with
        clk := s.clk + dt, pending := s.pending }.settle (s.advance dt)) := rfl

/-- No command faults or refuses. -/
theorem exec_next (i : Instr) (s : State) : ∃ t, exec i s = .next t := by
  cases i <;> exact ⟨_, rfl⟩

/-- A command completes where its next state has what is claimed of it. -/
theorem completes_iff (i : Instr) (s : State) (P : State → Prop) :
    Completes i s P ↔ ∀ t, exec i s = .next t → P t := by
  obtain ⟨t, h⟩ := exec_next i s
  constructor
  · rintro ⟨u, hu, p⟩ v hv
    rw [hu] at hv
    cases hv
    exact p
  · intro f
    exact ⟨t, h, f t h⟩

/-- What a completed command's next state has, it has of anything that follows from it. -/
theorem Completes.imp {i : Instr} {s : State} {P Q : State → Prop} (h : Completes i s P) (k : ∀ t, P t → Q t) : Completes i s Q := by
  obtain ⟨t, e, p⟩ := h
  exact ⟨t, e, k t p⟩

/-! ## The form of each command -/

variable (s : State)

theorem exec_read (dt : Nat) (src : Src) (index : Nat) (sub : Nat) (staged : Bool) :
    exec (.read dt src index sub staged) s = s.run dt State.any (fun t => t.dictionary src (Req.ofRead index sub staged)) := rfl

theorem exec_write (dt : Nat) (src : Src) (index : Nat) (sub : Nat) (data : Bytes) :
    exec (.write dt src index sub data) s = s.run dt State.any (fun t => t.dictionary src (Req.ofWrite index sub data)) := rfl

theorem exec_segRead (dt : Nat) (src : Src) (index : Nat) (sub : Nat) (offset : Nat) :
    exec (.segRead dt src index sub offset) s = s.run dt State.any (fun t => t.dictionary src (Req.ofSegment Op.segRead index sub offset false [])) := rfl

theorem exec_segWrite (dt : Nat) (src : Src) (index : Nat) (sub : Nat) (offset : Nat) (final : Bool) (data : Bytes) :
    exec (.segWrite dt src index sub offset final data) s = s.run dt State.any (fun t => t.dictionary src (Req.ofSegment Op.segWrite index sub offset final data)) := rfl

theorem exec_blockStart (dt : Nat) (src : Src) (index : Nat) (sub : Nat) (data : Bytes) :
    exec (.blockStart dt src index sub data) s = s.run dt State.any (fun t => t.dictionary src (Req.ofSegment Op.blockStart index sub 0 false data)) := rfl

theorem exec_blockData (dt : Nat) (src : Src) (index : Nat) (sub : Nat) (offset : Nat) (data : Bytes) :
    exec (.blockData dt src index sub offset data) s = s.run dt State.any (fun t => t.dictionary src (Req.ofSegment Op.blockData index sub offset false data)) := rfl

theorem exec_blockEnd (dt : Nat) (src : Src) (index : Nat) (sub : Nat) (data : Bytes) :
    exec (.blockEnd dt src index sub data) s = s.run dt State.any (fun t => t.dictionary src (Req.ofSegment Op.blockEnd index sub 0 false data)) := rfl

theorem exec_blockRead (dt : Nat) (src : Src) (index : Nat) (sub : Nat) (offset : Nat) :
    exec (.blockRead dt src index sub offset) s = s.run dt State.any (fun t => t.dictionary src (Req.ofSegment Op.blockRead index sub offset false [])) := rfl

theorem exec_sessionOpen (dt : Nat) (eth : Nat) (ip : Nat) (port : Nat) (seq : Nat) (data : Bytes) :
    exec (.sessionOpen dt eth ip port seq data) s = s.run dt State.any (fun t => t.dictionary (.ydp eth ip port 0 seq) (Req.ofSegment Op.sessionOpen 0 0 0 false data)) := rfl

theorem exec_sessionClose (dt : Nat) (src : Src) :
    exec (.sessionClose dt src) s = s.run dt State.any (fun t => t.dictionary src (Req.ofSegment Op.sessionClose 0 0 0 false [])) := rfl

theorem exec_sessionIdle (dt : Nat) (number : Nat) :
    exec (.sessionIdle dt number) s = s.run dt State.unitsRun (fun t => t.sessionIdle number) := rfl

theorem exec_frameCheck (dt : Nat) (frame : Bytes) :
    exec (.frameCheck dt frame) s = s.run dt State.any (fun t => t.frameBytes frame) := rfl

theorem exec_datagramDrop (dt : Nat) (packet : UdpPacket) :
    exec (.datagramDrop dt packet) s = s.run dt State.any (fun t => t.datagramBytes packet.eth packet.ip packet.port packet.bytes packet.checksumOk) := rfl

theorem exec_responseRead (dt : Nat) :
    exec (.responseRead dt) s = s.run dt State.any (fun t => t.responseRead) := rfl

theorem exec_ibiDelivery (dt : Nat) :
    exec (.ibiDelivery dt) s = s.run dt State.any (fun t => t.ibiDelivery) := rfl

theorem exec_setdasa (dt : Nat) (address : Nat) :
    exec (.setdasa dt address) s = s.run dt State.any (fun t => t.setAddress address) := rfl

theorem exec_entdaa (dt : Nat) (address : Nat) :
    exec (.entdaa dt address) s = s.run dt State.any (fun t => t.setAddress address) := rfl

theorem exec_wakeTransfer (dt : Nat) (byte : Byte) :
    exec (.wakeTransfer dt byte) s = s.run dt State.any (fun t => t.wakeTransfer byte) := rfl

theorem exec_ydpPort (dt : Nat) (src : Src) (value : Nat) :
    exec (.ydpPort dt src value) s = s.run dt State.any (fun t => t.dictionary src (Req.ofNumber Obj.ydpYdpPort 2 value)) := rfl

theorem exec_challenge (dt : Nat) (src : Src) :
    exec (.challenge dt src) s = s.run dt State.any (fun t => t.dictionary src (Req.ofRead (Obj.accChallenge / 256) (Obj.accChallenge % 256) false)) := rfl

theorem exec_response (dt : Nat) (src : Src) (value : Nat) :
    exec (.response dt src value) s = s.run dt State.any (fun t => t.dictionary src (Req.ofNumber Obj.accResponse 4 value)) := rfl

theorem exec_nonceExpiry (dt : Nat) (session : SessId) :
    exec (.nonceExpiry dt session) s = s.run dt State.unitsRun (fun t => t.nonceExpiry session) := rfl

theorem exec_lockoutEnd (dt : Nat) :
    exec (.lockoutEnd dt) s = s.run dt State.unitsRun (fun t => t.lockoutEnd) := rfl

theorem exec_dropLevel (dt : Nat) (src : Src) (value : Nat) :
    exec (.dropLevel dt src value) s = s.run dt State.any (fun t => t.dictionary src (Req.ofNumber Obj.accDropLevel 1 value)) := rfl

theorem exec_restoreDefaults (dt : Nat) (src : Src) (value : Nat) :
    exec (.restoreDefaults dt src value) s = s.run dt State.any (fun t => t.dictionary src (Req.ofNumber Obj.accRestoreDefaults 4 value)) := rfl

theorem exec_rcClear (dt : Nat) (src : Src) (index : Nat) (sub : Nat) (data : Bytes) :
    exec (.rcClear dt src index sub data) s = s.run dt State.any (fun t => t.dictionary src (Req.ofWrite index sub data)) := rfl

theorem exec_ack (dt : Nat) (src : Src) (index : Nat) (seq : Nat) :
    exec (.ack dt src index seq) s = s.run dt State.any (fun t => t.dictionary src (Req.ofNumber (objKey (index % 65536) 2) 4 seq)) := rfl

theorem exec_heartbeat (dt : Nat) (src : Src) (value : Nat) :
    exec (.heartbeat dt src value) s = s.run dt State.any (fun t => t.dictionary src (Req.ofNumber Obj.hbHeartbeat 1 value)) := rfl

theorem exec_period (dt : Nat) (src : Src) (value : Nat) :
    exec (.period dt src value) s = s.run dt State.any (fun t => t.dictionary src (Req.ofNumber Obj.hbPeriod 4 value)) := rfl

theorem exec_heartbeatLate (dt : Nat) :
    exec (.heartbeatLate dt) s = s.run dt State.unitsRun (fun t => t.heartbeatLate) := rfl

theorem exec_hostLost (dt : Nat) :
    exec (.hostLost dt) s = s.run dt State.unitsRun (fun t => t.hostLost) := rfl

theorem exec_openStaging (dt : Nat) (src : Src) :
    exec (.openStaging dt src) s = s.run dt State.any (fun t => t.dictionary src (Req.ofNumber Obj.stgStaging 1 1)) := rfl

theorem exec_releaseStaging (dt : Nat) (src : Src) :
    exec (.releaseStaging dt src) s = s.run dt State.any (fun t => t.dictionary src (Req.ofNumber Obj.stgStaging 1 2)) := rfl

theorem exec_seize (dt : Nat) (src : Src) :
    exec (.seize dt src) s = s.run dt State.any (fun t => t.dictionary src (Req.ofNumber Obj.stgStaging 1 3)) := rfl

theorem exec_stagingIdle (dt : Nat) :
    exec (.stagingIdle dt) s = s.run dt State.unitsRun (fun t => t.stagingIdle) := rfl

theorem exec_commit (dt : Nat) (src : Src) :
    exec (.commit dt src) s = s.run dt State.any (fun t => t.dictionary src (Req.ofNumber Obj.cmCommit 1 1)) := rfl

theorem exec_checkOnly (dt : Nat) (src : Src) :
    exec (.checkOnly dt src) s = s.run dt State.any (fun t => t.dictionary src (Req.ofNumber Obj.cmCommit 1 2)) := rfl

theorem exec_commitCheckEnd (dt : Nat) :
    exec (.commitCheckEnd dt) s = s.run dt State.unitsRun (fun t => t.commitCheckEnd) := rfl

theorem exec_commitInstant (dt : Nat) :
    exec (.commitInstant dt) s = s.run dt State.unitsRun (fun t => t.fullTimeInstant) := rfl

theorem exec_digestStart (dt : Nat) (src : Src) (value : Nat) :
    exec (.digestStart dt src value) s = s.run dt State.any (fun t => t.dictionary src (Req.ofNumber Obj.jrDigestStart 1 value)) := rfl

theorem exec_digestResult (dt : Nat) :
    exec (.digestResult dt) s = s.run dt State.unitsRun (fun t => t.digestResult) := rfl

theorem exec_mirrorWrite (dt : Nat) :
    exec (.mirrorWrite dt) s = s.run dt State.any (fun t => t.mirrorWrite) := rfl

theorem exec_logWrite (dt : Nat) :
    exec (.logWrite dt) s = s.run dt State.any (fun t => t.logWrite) := rfl

theorem exec_powerUp (dt : Nat) (vinMv : Nat) (id : Nat) (bootsel : Nat) :
    exec (.powerUp dt vinMv id bootsel) s = s.run dt State.any (fun t => t.powerUp vinMv id (decide (bootsel ≠ 0))) := rfl

theorem exec_bootStart (dt : Nat) (inputs : BootInputs) :
    exec (.bootStart dt inputs) s = s.run dt State.any (fun t => t.bootStart inputs) := rfl

theorem exec_firmwareTimeout (dt : Nat) :
    exec (.firmwareTimeout dt) s = s.run dt State.any (fun t => t.firmwareTimeout) := rfl

theorem exec_resetNAssert (dt : Nat) :
    exec (.resetNAssert dt) s = s.run dt State.any (fun t => t.resetAssert) := rfl

theorem exec_resetNRise (dt : Nat) (id : Nat) (bootsel : Nat) :
    exec (.resetNRise dt id bootsel) s = s.run dt State.any (fun t => t.resetRise id (decide (bootsel ≠ 0))) := rfl

theorem exec_brownOut (dt : Nat) :
    exec (.brownOut dt) s = s.run dt State.any (fun t => t.brownOut) := rfl

theorem exec_supplyFault (dt : Nat) :
    exec (.supplyFault dt) s = s.run dt State.any (fun t => t.supplyFault) := rfl

theorem exec_supplyReturn (dt : Nat) :
    exec (.supplyReturn dt) s = s.run dt State.any (fun t => t.supplyReturn) := rfl

theorem exec_thermalTrip (dt : Nat) (sensor : Nat) :
    exec (.thermalTrip dt sensor) s = s.run dt (fun t => decide (sensor < 8) || (decide (sensor < 16) && t.ctl.part.hasEast)) (fun t => t.thermalTrip) := rfl

theorem exec_thermalRestart (dt : Nat) :
    exec (.thermalRestart dt) s = s.run dt State.any (fun t => t.thermalRestart) := rfl

theorem exec_pllLoss (dt : Nat) :
    exec (.pllLoss dt) s = s.run dt State.any (fun t => t.dieLoss) := rfl

theorem exec_housekeepingRound (dt : Nat) (readings : List Nat) :
    exec (.housekeepingRound dt readings) s = s.run dt State.any (fun t => t.housekeeping readings) := rfl

theorem exec_guaranteeHeld (dt : Nat) :
    exec (.guaranteeHeld dt) s = s.run dt State.unitsRun (fun t => t.guaranteeHeld) := rfl

theorem exec_idleTimer (dt : Nat) :
    exec (.idleTimer dt) s = s.run dt State.unitsRun (fun t => t.stepDown) := rfl

theorem exec_selfRefreshEntry (dt : Nat) (pch : Nat) :
    exec (.selfRefreshEntry dt pch) s = s.run dt (fun t => t.ctl.mode.operating && decide (pch < t.ctl.part.pchs)) (fun t => t.selfRefresh pch) := rfl

theorem exec_deepEntry (dt : Nat) :
    exec (.deepEntry dt) s = s.run dt State.unitsRun (fun t => t.deepEntry) := rfl

theorem exec_wake (dt : Nat) (cause : WakeCause) :
    exec (.wake dt cause) s = s.run dt (fun t => t.ctl.mode.operating) (fun t => t.wake cause) := rfl

theorem exec_deepExit (dt : Nat) (tcxoCycles : Nat) :
    exec (.deepExit dt tcxoCycles) s = s.run dt (fun t => t.ctl.mode.operating) (fun t => t.deepExit tcxoCycles) := rfl

theorem exec_standbyWake (dt : Nat) (cause : WakeCause) :
    exec (.standbyWake dt cause) s = s.run dt State.any (fun t => t.standbyWake cause) := rfl

theorem exec_pipelineGate (dt : Nat) (region : Nat) :
    exec (.pipelineGate dt region) s = s.run dt State.unitsRun (fun t => t.pipelineGate region) := rfl

theorem exec_tileLight (dt : Nat) (tile : Nat) :
    exec (.tileLight dt tile) s = s.run dt (fun t => t.unitsRun && decide (tile < t.ctl.part.tiles)) (fun t => t.tileLight tile) := rfl

theorem exec_noSignal (dt : Nat) (lane : Nat) :
    exec (.noSignal dt lane) s = s.run dt (fun t => t.unitsRun && t.laneFitted lane) (fun t => t.laneNoSignal lane) := rfl

theorem exec_signalDetect (dt : Nat) (lane : Nat) :
    exec (.signalDetect dt lane) s = s.run dt (fun t => t.unitsRun && t.laneFitted lane) (fun t => t.laneSignal lane) := rfl

theorem exec_aligned (dt : Nat) (lane : Nat) :
    exec (.aligned dt lane) s = s.run dt (fun t => t.unitsRun && t.laneFitted lane) (fun t => t.laneAligned lane) := rfl

theorem exec_alignmentLoss (dt : Nat) (lane : Nat) (crc : Bool) :
    exec (.alignmentLoss dt lane crc) s = s.run dt (fun t => t.unitsRun && t.laneFitted lane) (fun t => t.alignmentLoss lane crc) := rfl

theorem exec_laneExit (dt : Nat) (lane : Nat) :
    exec (.laneExit dt lane) s = s.run dt (fun t => t.unitsRun && t.laneFitted lane) (fun t => t.laneExit lane) := rfl

theorem exec_eyeMeasure (dt : Nat) (lane : Nat) (height : Nat) (width : Nat) :
    exec (.eyeMeasure dt lane height width) s = s.run dt (fun t => t.unitsRun && t.laneFitted lane) (fun t => t.eyeRound lane height width) := rfl

theorem exec_eyeFloor (dt : Nat) (lane : Nat) :
    exec (.eyeFloor dt lane) s = s.run dt (fun t => t.unitsRun && t.laneFitted lane) (fun t => t.eyeFloor lane) := rfl

theorem exec_eyeScan (dt : Nat) (src : Src) (lane : Nat) (dwell : Nat) :
    exec (.eyeScan dt src lane dwell) s = s.run dt (fun _ => decide (lane < 52)) (fun t => t.dictionary src (Req.ofNumber (laneKey lane 0x0C) 2 dwell)) := rfl

theorem exec_eyeScanDone (dt : Nat) (counts : List Nat) :
    exec (.eyeScanDone dt counts) s = s.run dt State.unitsRun (fun t => t.scanDone counts) := rfl

theorem exec_adopt (dt : Nat) (src : Src) (port : Nat) (value : Nat) :
    exec (.adopt dt src port value) s = s.run dt (fun _ => decide (port < 12)) (fun t => t.dictionary src (Req.ofNumber (Obj.portAdopt port) 1 value)) := rfl

theorem exec_regRead (dt : Nat) (src : Src) (port : Nat) (words : Nat) :
    exec (.regRead dt src port words) s = s.run dt (fun _ => decide (port < 12)) (fun t => t.dictionary src (Req.ofNumber (Obj.portRegAccess port) 1 (words % 128))) := rfl

theorem exec_regWrite (dt : Nat) (src : Src) (port : Nat) (words : Nat) :
    exec (.regWrite dt src port words) s = s.run dt (fun _ => decide (port < 12)) (fun t => t.dictionary src (Req.ofNumber (Obj.portRegAccess port) 1 (128 + words % 128))) := rfl

theorem exec_regTimeout (dt : Nat) (port : Nat) :
    exec (.regTimeout dt port) s = s.run dt (fun t => t.unitsRun && t.portFitted port) (fun t => t.regTimeout port) := rfl

theorem exec_regResponse (dt : Nat) (head : PacketHead) (tag : Nat) (address : Nat) (status : Nat) (data : Bytes) :
    exec (.regResponse dt head tag address status data) s = s.run dt (fun t => t.unitsRun && t.packetComes head.port head.lane) (fun t => (t.packetHeader head.port head.lane head.tail.pseq head.tail.camStatus).regAnswer head.port (some tag) status data) := rfl

theorem exec_linePacket (dt : Nat) (port : Nat) (lane : Nat) (header : HlpHeader) (payload : Bytes) (crcOk : Bool) :
    exec (.linePacket dt port lane header payload crcOk) s = s.run dt (fun t => t.unitsRun && t.hlpReceives port lane) (fun t => t.hlpLine port lane header payload crcOk) := rfl

theorem exec_cameraEvent (dt : Nat) (head : PacketHead) (payload : Bytes) :
    exec (.cameraEvent dt head payload) s = s.run dt (fun t => t.unitsRun && t.packetComes head.port head.lane) (fun t => (t.packetHeader head.port head.lane head.tail.pseq head.tail.camStatus).cameraEvent head.port payload) := rfl

theorem exec_statusPacket (dt : Nat) (port : Nat) (lane : Nat) (tail : PacketTail) :
    exec (.statusPacket dt port lane tail) s = s.run dt (fun t => t.unitsRun && t.hlpReceives port lane) (fun t => t.hlpHeader port lane tail.pseq tail.camStatus) := rfl

theorem exec_cxpImagePacket (dt : Nat) (port : Nat) (kind : CxpKind) (header : CxpHeader) (payload : Bytes) :
    exec (.cxpImagePacket dt port kind header payload) s = s.run dt (fun t => t.unitsRun && t.cxpReceives port) (fun t => t.cxpImage port kind header.width header.bits header.bands header.slice payload) := rfl

theorem exec_cxpControlResponse (dt : Nat) (port : Nat) (status : Nat) (data : Bytes) :
    exec (.cxpControlResponse dt port status data) s = s.run dt (fun t => t.unitsRun && t.cxpReceives port) (fun t => t.cxpControl port status data) := rfl

theorem exec_trigAck (dt : Nat) (port : Nat) :
    exec (.trigAck dt port) s = s.run dt (fun t => t.unitsRun && t.cxpReceives port) (fun t => t.bump (Obj.portTrigAcks port)) := rfl

theorem exec_cxpHeartbeat (dt : Nat) (port : Nat) (time : Nat) :
    exec (.cxpHeartbeat dt port time) s = s.run dt (fun t => t.unitsRun && t.cxpReceives port) (fun t => t.putNum (Obj.portCameraTime port) (time % 2 ^ 64)) := rfl

theorem exec_reasmWindow (dt : Nat) (port : Nat) (index : Nat) :
    exec (.reasmWindow dt port index) s = s.run dt (fun t => t.unitsRun && t.portFitted port) (fun t => t.windowPassed port index) := rfl

theorem exec_trigEnd (dt : Nat) (view : Nat) :
    exec (.trigEnd dt view) s = s.run dt (fun t => t.unitsRun && decide (view < 4)) (fun t => t.trigEnd view) := rfl

theorem exec_seam (dt : Nat) (lane : Nat) (view : Nat) (index : Nat) (offset : Nat) (pseq : Nat) (last : Bool) (payload : Bytes) :
    exec (.seam dt lane view index offset pseq last payload) s = s.run dt (fun t => t.unitsRun && t.linkTakes lane && decide (view < 4)) (fun t => t.seamPacket lane view index offset pseq last payload) := rfl

theorem exec_cometPacket (dt : Nat) (lane : Nat) (pseq : Nat) (records : List LinkRecord) :
    exec (.cometPacket dt lane pseq records) s = s.run dt (fun t => t.unitsRun && t.linkTakes lane) (fun t => t.cometRecords lane pseq records) := rfl

theorem exec_eventPacket (dt : Nat) (lane : Nat) (pseq : Nat) (events : List (Nat × Nat × Nat)) :
    exec (.eventPacket dt lane pseq events) s = s.run dt (fun t => t.unitsRun && t.linkTakes lane) (fun t => t.linkEvents lane pseq events) := rfl

theorem exec_linkStatus (dt : Nat) (head : LinkHead) (sender : Nat) (epoch : Nat) :
    exec (.linkStatus dt head sender epoch) s = s.run dt (fun t => t.unitsRun && t.linkUsed head.lane && t.laneReceives head.lane) (fun t => t.linkStatusIn head.lane head.pseq sender) := rfl

theorem exec_linkStatusSend (dt : Nat) :
    exec (.linkStatusSend dt) s = s.run dt State.unitsRun (fun t => t.linkStatusOut) := rfl

theorem exec_linkStatusTimeout (dt : Nat) (lane : Nat) :
    exec (.linkStatusTimeout dt lane) s = s.run dt (fun t => t.unitsRun && t.linkUsed lane && t.laneReceives lane) (fun t => t.linkStatusLost lane) := rfl

theorem exec_seamLate (dt : Nat) (view : Nat) (index : Nat) :
    exec (.seamLate dt view index) s = s.run dt (fun t => t.unitsRun && decide (view < 4)) (fun t => t.seamLateNow view index) := rfl

theorem exec_edgeLate (dt : Nat) (view : Nat) (index : Nat) :
    exec (.edgeLate dt view index) s = s.run dt (fun t => t.unitsRun && decide (view < 4)) (fun t => t.edgeLateNow view index) := rfl

theorem exec_countEdge (dt : Nat) (channel : Nat) (samples : Nat) (levels : EdgeLevels) :
    exec (.countEdge dt channel samples levels) s = s.run dt (fun _ => decide (channel < 4)) (fun t => t.edgeSeen channel samples levels.a levels.b) := rfl

theorem exec_indexEdge (dt : Nat) (edge : IndexEdge) :
    exec (.indexEdge dt edge) s = s.run dt (fun t => t.unitsRun && decide (edge.channel < 4)) (fun t => t.indexEdge edge.channel edge.samples) := rfl

theorem exec_speedTimeout (dt : Nat) (channel : Nat) :
    exec (.speedTimeout dt channel) s = s.run dt (fun t => t.unitsRun && decide (channel < 4)) (fun t => t.encTimeout channel) := rfl

theorem exec_syntheticCount (dt : Nat) (channel : Nat) :
    exec (.syntheticCount dt channel) s = s.run dt (fun t => t.unitsRun && decide (channel < 4)) (fun t => t.syntheticCount channel) := rfl

theorem exec_positionSet (dt : Nat) (src : Src) (channel : Nat) (value : Nat) :
    exec (.positionSet dt src channel value) s = s.run dt (fun _ => decide (channel < 4)) (fun t => t.dictionary src (Req.ofNumber (Obj.encPositionSet channel) 4 value)) := rfl

theorem exec_pgoPulse (dt : Nat) (output : Nat) :
    exec (.pgoPulse dt output) s = s.run dt State.unitsRun (fun t => t.pgoPulse output) := rfl

theorem exec_triggerHeldIssue (dt : Nat) (view : Nat) :
    exec (.triggerHeldIssue dt view) s = s.run dt (fun t => t.unitsRun && decide (view < 4)) (fun t => t.heldIssue view) := rfl

theorem exec_frameLines (dt : Nat) (src : Src) (view : Nat) (value : Nat) :
    exec (.frameLines dt src view value) s = s.run dt (fun _ => decide (view < 4)) (fun t => t.dictionary src (Req.ofNumber (Obj.trgFrameLines view) 4 value)) := rfl

theorem exec_lineCorrection (dt : Nat) (port : Nat) :
    exec (.lineCorrection dt port) s = s.run dt (fun t => t.unitsRun && t.portFitted port) (fun t => t.lineThrough port) := rfl

theorem exec_calCaptureDark (dt : Nat) (src : Src) (port : Nat) :
    exec (.calCaptureDark dt src port) s = s.run dt (fun _ => decide (port < 12)) (fun t => t.dictionary src (Req.ofNumber (Obj.portCalCapture port) 1 1)) := rfl

theorem exec_calCaptureFlat (dt : Nat) (src : Src) (port : Nat) :
    exec (.calCaptureFlat dt src port) s = s.run dt (fun _ => decide (port < 12)) (fun t => t.dictionary src (Req.ofNumber (Obj.portCalCapture port) 1 2)) := rfl

theorem exec_calCaptureTimeout (dt : Nat) (port : Nat) :
    exec (.calCaptureTimeout dt port) s = s.run dt (fun t => t.unitsRun && t.portFitted port) (fun t => t.captureTimeout port) := rfl

theorem exec_stitchLine (dt : Nat) (view : Nat) (eccCells : List (Nat × Nat × Bool)) :
    exec (.stitchLine dt view eccCells) s = s.run dt (fun t => t.unitsRun && decide (view < 4)) (fun t => t.stitchNext view eccCells) := rfl

theorem exec_cometRelease (dt : Nat) (view : Nat) :
    exec (.cometRelease dt view) s = s.run dt (fun t => t.unitsRun && decide (view < 4)) (fun t => t.cometRelease view) := rfl

theorem exec_fuseHold (dt : Nat) (comet : Nat) :
    exec (.fuseHold dt comet) s = s.run dt State.unitsRun (fun t => t.fuseHold comet) := rfl

theorem exec_histClear (dt : Nat) (src : Src) (view : Nat) (mask : Nat) :
    exec (.histClear dt src view mask) s = s.run dt (fun _ => decide (view < 4)) (fun t => t.dictionary src (Req.ofNumber (Obj.viewHistClear view) 1 mask)) := rfl

theorem exec_build (dt : Nat) (src : Src) (view : Nat) (mask : Nat) :
    exec (.build dt src view mask) s = s.run dt (fun _ => decide (view < 4)) (fun t => t.dictionary src (Req.ofNumber (Obj.viewBuild view) 1 mask)) := rfl

theorem exec_buildUnit (dt : Nat) (view : Nat) (tile : Nat) (brick : Nat) :
    exec (.buildUnit dt view tile brick) s = s.run dt (fun t => t.unitsRun && decide (view < 4)) (fun t => t.buildUnit view tile brick) := rfl

theorem exec_buildTimeout (dt : Nat) (view : Nat) :
    exec (.buildTimeout dt view) s = s.run dt (fun t => t.unitsRun && decide (view < 4)) (fun t => t.buildTimeout view) := rfl

theorem exec_tableVerify (dt : Nat) (bank : ViewBank) (mismatches : List (Nat × Nat)) :
    exec (.tableVerify dt bank mismatches) s = s.run dt (fun t => t.unitsRun && decide (bank.view < 4) && decide (bank.bank < 2)) (fun t => (t.tableVerify bank.view bank.bank mismatches).tableReads bank.view bank.bank) := rfl

theorem exec_dispatch (dt : Nat) :
    exec (.dispatch dt) s = s.run dt State.unitsRun (fun t => t.dispatch) := rfl

theorem exec_cropFetch (dt : Nat) (tile : Nat) (brick : Nat) :
    exec (.cropFetch dt tile brick) s = s.run dt State.unitsRun (fun t => t.cropFetch tile brick) := rfl

theorem exec_runEnd (dt : Nat) (tile : Nat) (brick : Nat) :
    exec (.runEnd dt tile brick) s = s.run dt State.unitsRun (fun t => t.runEnd tile brick) := rfl

theorem exec_tDecExpiry (dt : Nat) (comet : Nat) :
    exec (.tDecExpiry dt comet) s = s.run dt State.unitsRun (fun t => t.tDecExpiry comet) := rfl

theorem exec_brickUpset (dt : Nat) (tile : Nat) (brick : Nat) :
    exec (.brickUpset dt tile brick) s = s.run dt State.unitsRun (fun t => t.brickUpset tile brick) := rfl

theorem exec_sramError (dt : Nat) (tile : Nat) (corrected : Bool) (slot : Nat) :
    exec (.sramError dt tile corrected slot) s = s.run dt State.unitsRun (fun t => t.sramError tile corrected slot) := rfl

theorem exec_tileReset (dt : Nat) (tile : Nat) :
    exec (.tileReset dt tile) s = s.run dt State.unitsRun (fun t => t.tileReset tile) := rfl

theorem exec_regionReset (dt : Nat) (region : Nat) :
    exec (.regionReset dt region) s = s.run dt State.unitsRun (fun t => t.regionReset region) := rfl

theorem exec_modelCheck (dt : Nat) (slot : Nat) :
    exec (.modelCheck dt slot) s = s.run dt (fun t => t.unitsRun && decide (slot < 8)) (fun t => t.modelCheck slot) := rfl

theorem exec_norStored (dt : Nat) (slot : Nat) :
    exec (.norStored dt slot) s = s.run dt (fun t => t.unitsRun && decide (slot < 8)) (fun t => t.norStored slot) := rfl

theorem exec_clear (dt : Nat) (src : Src) (slot : Nat) (value : Nat) :
    exec (.clear dt src slot value) s = s.run dt (fun _ => decide (slot < 8)) (fun t => t.dictionary src (Req.ofNumber (Obj.slotClear slot) 1 value)) := rfl

theorem exec_tickStart (dt : Nat) (bus : Nat) :
    exec (.tickStart dt bus) s = s.run dt State.unitsRun (fun t => t.tickStart bus) := rfl

theorem exec_statusFrame (dt : Nat) (bus : Nat) (frame : Bytes) :
    exec (.statusFrame dt bus frame) s = s.run dt State.unitsRun (fun t => t.statusFrame bus frame) := rfl

theorem exec_statusJudge (dt : Nat) (bus : Nat) :
    exec (.statusJudge dt bus) s = s.run dt State.unitsRun (fun t => t.statusJudge bus) := rfl

theorem exec_vbPresAssert (dt : Nat) (bus : Nat) :
    exec (.vbPresAssert dt bus) s = s.run dt State.any (fun t => t.vbPresent bus) := rfl

theorem exec_vbPresRelease (dt : Nat) (bus : Nat) :
    exec (.vbPresRelease dt bus) s = s.run dt State.any (fun t => t.vbAbsent bus) := rfl

theorem exec_busStartIdle (dt : Nat) (bus : Nat) :
    exec (.busStartIdle dt bus) s = s.run dt State.unitsRun (fun t => t.busStartIdle bus) := rfl

theorem exec_testEnable (dt : Nat) (src : Src) (bus : Nat) (value : Nat) :
    exec (.testEnable dt src bus value) s = s.run dt (fun _ => decide (bus < 4)) (fun t => t.dictionary src (Req.ofNumber (Obj.vbTestEnable bus) 1 value)) := rfl

theorem exec_safeNAssert (dt : Nat) :
    exec (.safeNAssert dt) s = s.run dt State.any (fun t => t.safeAssert) := rfl

theorem exec_safeNRelease (dt : Nat) :
    exec (.safeNRelease dt) s = s.run dt State.any (fun t => t.safeRelease) := rfl

theorem exec_timedEdge (dt : Nat) (output : Nat) :
    exec (.timedEdge dt output) s = s.run dt (fun t => t.ctl.mode.operating && decide (output < 16)) (fun t => t.timedEdge output) := rfl

theorem exec_edges (dt : Nat) (src : Src) (output : Nat) (data : Bytes) :
    exec (.edges dt src output data) s = s.run dt (fun _ => decide (output < 16)) (fun t => t.dictionary src (Req.ofWrite (Obj.toutEdges output / 256) (Obj.toutEdges output % 256) data)) := rfl

theorem exec_flush (dt : Nat) (src : Src) (output : Nat) (value : Nat) :
    exec (.flush dt src output value) s = s.run dt (fun _ => decide (output < 16)) (fun t => t.dictionary src (Req.ofNumber (Obj.toutFlush output) 1 value)) := rfl

theorem exec_hbmRequest (dt : Nat) (port : Nat) (pch : Nat) (pa : Nat) (data : Option Bytes) (outcome : HbmOutcome) :
    exec (.hbmRequest dt port pch pa data outcome) s = s.run dt (fun t => t.unitsRun && decide (pch < t.ctl.part.pchs) && decide (port < 7)) (fun t => (t.hbmRequest port pch (pa % 2 ^ 29) data outcome).stacksReviewed) := rfl

theorem exec_lineWriteDrop (dt : Nat) (region : Nat) :
    exec (.lineWriteDrop dt region) s = s.run dt State.unitsRun (fun t => t.lineWriteDrop region) := rfl

theorem exec_stackTemperature (dt : Nat) (stack : Nat) (celsius : Int) :
    exec (.stackTemperature dt stack celsius) s = s.run dt (fun t => t.unitsRun && decide (stack < t.ctl.part.stacks)) (fun t => t.stackTemperature stack celsius) := rfl

theorem exec_refresh (dt : Nat) (pch : Nat) :
    exec (.refresh dt pch) s = s.run dt (fun t => t.unitsRun && decide (pch < t.ctl.part.pchs)) (fun t => t.hbmRefresh pch) := rfl

theorem exec_powerDown (dt : Nat) (pch : Nat) :
    exec (.powerDown dt pch) s = s.run dt (fun t => t.unitsRun && decide (pch < t.ctl.part.pchs)) (fun t => t.hbmPowerDown pch) := rfl

theorem exec_patrolScrub (dt : Nat) (pch : Nat) (outcome : HbmOutcome) :
    exec (.patrolScrub dt pch outcome) s = s.run dt (fun t => t.unitsRun && decide (pch < t.ctl.part.pchs)) (fun t => (t.patrolScrub pch outcome).stacksReviewed) := rfl

theorem exec_start (dt : Nat) (src : Src) (channel : Nat) (descriptor : Nat) :
    exec (.start dt src channel descriptor) s = s.run dt (fun _ => decide (channel < 32)) (fun t => t.dictionary src (Req.ofNumber (Obj.dchStart channel) 2 descriptor)) := rfl

theorem exec_stop (dt : Nat) (src : Src) (channel : Nat) (value : Nat) :
    exec (.stop dt src channel value) s = s.run dt (fun _ => decide (channel < 32)) (fun t => t.dictionary src (Req.ofNumber (Obj.dchStop channel) 1 value)) := rfl

theorem exec_flightEntry (dt : Nat) :
    exec (.flightEntry dt) s = s.run dt State.unitsRun (fun t => t.flightEntry) := rfl

theorem exec_descriptorFetch (dt : Nat) (channel : Nat) :
    exec (.descriptorFetch dt channel) s = s.run dt State.unitsRun (fun t => t.dmaFetch channel) := rfl

theorem exec_followReady (dt : Nat) (channel : Nat) :
    exec (.followReady dt channel) s = s.run dt State.unitsRun (fun t => t.followReady channel) := rfl

theorem exec_descriptorDone (dt : Nat) (channel : Nat) :
    exec (.descriptorDone dt channel) s = s.run dt State.unitsRun (fun t => t.descriptorDone channel) := rfl

theorem exec_busError (dt : Nat) (channel : Nat) :
    exec (.busError dt channel) s = s.run dt State.unitsRun (fun t => t.busError channel) := rfl

theorem exec_codecBlock (dt : Nat) (selfCheckFails : Bool) :
    exec (.codecBlock dt selfCheckFails) s = s.run dt State.unitsRun (fun t => t.codecBlock selfCheckFails) := rfl

theorem exec_checkUnitGrant (dt : Nat) (unit : Nat) :
    exec (.checkUnitGrant dt unit) s = s.run dt (fun t => t.unitsRun && decide (unit < 4)) (fun t => t.grantUnit unit) := rfl

theorem exec_eventDelivery (dt : Nat) :
    exec (.eventDelivery dt) s = s.run dt State.unitsRun (fun t => t.eventDelivery) := rfl

theorem exec_ethLinkUp (dt : Nat) (port : Nat) :
    exec (.ethLinkUp dt port) s = s.run dt (fun t => t.netRuns && decide (port < 2)) (fun t => t.ethUp port) := rfl

theorem exec_ethLinkDown (dt : Nat) (port : Nat) :
    exec (.ethLinkDown dt port) s = s.run dt State.netRuns (fun t => t.ethDown port) := rfl

theorem exec_arpFrame (dt : Nat) (port : Nat) (kind : ArpKind) (senderIp : Nat) (senderMac : Nat) (targetIp : Nat) :
    exec (.arpFrame dt port kind senderIp senderMac targetIp) s = s.run dt (fun t => t.netRuns && (t.eth port).up) (fun t => t.arpFrame port kind senderIp senderMac targetIp) := rfl

theorem exec_icmpEcho (dt : Nat) (port : Nat) (sourceIp : Nat) (payload : Bytes) :
    exec (.icmpEcho dt port sourceIp payload) s = s.run dt (fun t => t.netRuns && (t.eth port).up) (fun t => t.icmpEcho port sourceIp payload) := rfl

theorem exec_arpRetry (dt : Nat) (port : Nat) (ip : Nat) :
    exec (.arpRetry dt port ip) s = s.run dt State.netRuns (fun t => t.arpRetry port ip) := rfl

theorem exec_arpRefresh (dt : Nat) (port : Nat) (ip : Nat) :
    exec (.arpRefresh dt port ip) s = s.run dt State.netRuns (fun t => t.arpRefresh port ip) := rfl

theorem exec_arpExpiry (dt : Nat) (port : Nat) (ip : Nat) :
    exec (.arpExpiry dt port ip) s = s.run dt State.netRuns (fun t => t.arpExpiry port ip) := rfl

theorem exec_sync (dt : Nat) (port : Nat) (origin : Int) (fields : PtpFields) :
    exec (.sync dt port origin fields) s = s.run dt (fun t => t.netRuns && (t.eth port).up) (fun t => t.syncFrame port origin fields) := rfl

theorem exec_announce (dt : Nat) (port : Nat) (source : AnnounceHead) (rank : Nat) (utcOffset : Int) :
    exec (.announce dt port source rank utcOffset) s = s.run dt (fun t => t.netRuns && (t.eth port).up) (fun t => t.announceFrame port source rank utcOffset) := rfl

theorem exec_ptpMessage (dt : Nat) (port : Nat) (message : PtpMessage) :
    exec (.ptpMessage dt port message) s = s.run dt (fun t => t.netRuns && (t.eth port).up) (fun t => t.ptpMessage port message.kind message.time message.fields) := rfl

theorem exec_ptpSend (dt : Nat) (port : Nat) (kind : PtpSendKind) :
    exec (.ptpSend dt port kind) s = s.run dt (fun t => t.netRuns && (t.eth port).up) (fun t => t.ptpSend port kind) := rfl

theorem exec_syncTimeout (dt : Nat) :
    exec (.syncTimeout dt) s = s.run dt State.unitsRun (fun t => t.syncTimeout) := rfl

theorem exec_announceTimeout (dt : Nat) (port : Nat) :
    exec (.announceTimeout dt port) s = s.run dt State.unitsRun (fun t => t.announceTimeout port) := rfl

theorem exec_step (dt : Nat) (src : Src) (value : Nat) :
    exec (.step dt src value) s = s.run dt State.any (fun t => t.dictionary src (Req.ofNumber Obj.timeStep 1 value)) := rfl

theorem exec_stepWithdraw (dt : Nat) :
    exec (.stepWithdraw dt) s = s.run dt State.unitsRun (fun t => t.stepWithdraw) := rfl

theorem exec_keyPress (dt : Nat) (key : Nat) :
    exec (.keyPress dt key) s = s.run dt (fun _ => decide (key < 8)) (fun t => t.keySeen key) := rfl

theorem exec_keyRelease (dt : Nat) (key : Nat) :
    exec (.keyRelease dt key) s = s.run dt (fun _ => decide (key < 8)) (fun t => t.keyRelease key) := rfl

theorem exec_longPress (dt : Nat) (key : Nat) :
    exec (.longPress dt key) s = s.run dt (fun _ => decide (key < 8)) (fun t => t.longPress key) := rfl

theorem exec_touchScan (dt : Nat) (raw : List Nat) :
    exec (.touchScan dt raw) s = s.run dt State.any (fun t => t.touchScan raw) := rfl

theorem exec_touchStuck (dt : Nat) (channel : Nat) :
    exec (.touchStuck dt channel) s = s.run dt (fun _ => decide (channel < 4)) (fun t => t.touchStuck channel) := rfl

theorem exec_lampBlink (dt : Nat) (lamp : Nat) :
    exec (.lampBlink dt lamp) s = s.run dt State.any (fun t => t.lampBlink lamp) := rfl

theorem exec_campwrFlt (dt : Nat) (port : Nat) :
    exec (.campwrFlt dt port) s = s.run dt (fun _ => decide (port < 12)) (fun t => t.camFault port) := rfl

theorem exec_pwrRetry (dt : Nat) (port : Nat) :
    exec (.pwrRetry dt port) s = s.run dt (fun _ => decide (port < 12)) (fun t => t.pwrRetry port) := rfl

theorem exec_pwrStagger (dt : Nat) :
    exec (.pwrStagger dt) s = s.run dt State.any (fun t => t.pwrStagger) := rfl

theorem exec_pwrEnable (dt : Nat) (src : Src) (port : Nat) (value : Nat) :
    exec (.pwrEnable dt src port value) s = s.run dt (fun _ => decide (port < 12)) (fun t => t.dictionary src (Req.ofNumber (Obj.camPwrEnable port) 1 value)) := rfl

theorem exec_pwrReset (dt : Nat) (src : Src) (port : Nat) (value : Nat) :
    exec (.pwrReset dt src port value) s = s.run dt (fun _ => decide (port < 12)) (fun t => t.dictionary src (Req.ofNumber (Obj.camPwrReset port) 1 value)) := rfl

theorem exec_clearRetirements (dt : Nat) (src : Src) (value : Nat) :
    exec (.clearRetirements dt src value) s = s.run dt State.any (fun t => t.dictionary src (Req.ofNumber Obj.fltClearRetirements 1 value)) := rfl

theorem exec_preferred (dt : Nat) (src : Src) (value : Nat) :
    exec (.preferred dt src value) s = s.run dt State.any (fun t => t.dictionary src (Req.ofNumber Obj.fwPreferred 1 value)) := rfl

theorem exec_fwProgrammed (dt : Nat) (slot : Nat) :
    exec (.fwProgrammed dt slot) s = s.run dt (fun t => t.ctl.mode.operating) (fun t => t.imageProgrammed slot) := rfl

theorem exec_dieBridgeFailure (dt : Nat) :
    exec (.dieBridgeFailure dt) s = s.run dt State.any (fun t => t.dieLoss) := rfl

theorem exec_watchdog (dt : Nat) :
    exec (.watchdog dt) s = s.run dt State.any (fun t => t.watchdog) := rfl

theorem exec_dmaParityError (dt : Nat) (channel : Nat) :
    exec (.dmaParityError dt channel) s = s.run dt (fun t => t.unitsRun && decide (channel < 32)) (fun t => t.dmaParity channel) := rfl

theorem exec_eventChannelParityError (dt : Nat) (channel : Nat) :
    exec (.eventChannelParityError dt channel) s = s.run dt State.unitsRun (fun t => t.channelParity channel) := rfl

theorem exec_rxDropped (dt : Nat) (packet : RxPacket) :
    exec (.rxDropped dt packet) s = s.run dt (fun t => t.netRuns && (t.eth packet.port).up) (fun t => t.rxDrop packet.port packet.frame) := rfl

/-- Every command lets its time pass, has its effect where the state admits it, and settles. -/
theorem exec_run (i : Instr) : ∃ admits effect, exec i s = s.run i.dt admits effect :=
  match i with
  | .read a0 a1 a2 a3 a4 => ⟨_, _, exec_read s a0 a1 a2 a3 a4⟩
  | .write a0 a1 a2 a3 a4 => ⟨_, _, exec_write s a0 a1 a2 a3 a4⟩
  | .segRead a0 a1 a2 a3 a4 => ⟨_, _, exec_segRead s a0 a1 a2 a3 a4⟩
  | .segWrite a0 a1 a2 a3 a4 a5 a6 => ⟨_, _, exec_segWrite s a0 a1 a2 a3 a4 a5 a6⟩
  | .blockStart a0 a1 a2 a3 a4 => ⟨_, _, exec_blockStart s a0 a1 a2 a3 a4⟩
  | .blockData a0 a1 a2 a3 a4 a5 => ⟨_, _, exec_blockData s a0 a1 a2 a3 a4 a5⟩
  | .blockEnd a0 a1 a2 a3 a4 => ⟨_, _, exec_blockEnd s a0 a1 a2 a3 a4⟩
  | .blockRead a0 a1 a2 a3 a4 => ⟨_, _, exec_blockRead s a0 a1 a2 a3 a4⟩
  | .sessionOpen a0 a1 a2 a3 a4 a5 => ⟨_, _, exec_sessionOpen s a0 a1 a2 a3 a4 a5⟩
  | .sessionClose a0 a1 => ⟨_, _, exec_sessionClose s a0 a1⟩
  | .sessionIdle a0 a1 => ⟨_, _, exec_sessionIdle s a0 a1⟩
  | .frameCheck a0 a1 => ⟨_, _, exec_frameCheck s a0 a1⟩
  | .datagramDrop a0 a1 => ⟨_, _, exec_datagramDrop s a0 a1⟩
  | .responseRead a0 => ⟨_, _, exec_responseRead s a0⟩
  | .ibiDelivery a0 => ⟨_, _, exec_ibiDelivery s a0⟩
  | .setdasa a0 a1 => ⟨_, _, exec_setdasa s a0 a1⟩
  | .entdaa a0 a1 => ⟨_, _, exec_entdaa s a0 a1⟩
  | .wakeTransfer a0 a1 => ⟨_, _, exec_wakeTransfer s a0 a1⟩
  | .ydpPort a0 a1 a2 => ⟨_, _, exec_ydpPort s a0 a1 a2⟩
  | .challenge a0 a1 => ⟨_, _, exec_challenge s a0 a1⟩
  | .response a0 a1 a2 => ⟨_, _, exec_response s a0 a1 a2⟩
  | .nonceExpiry a0 a1 => ⟨_, _, exec_nonceExpiry s a0 a1⟩
  | .lockoutEnd a0 => ⟨_, _, exec_lockoutEnd s a0⟩
  | .dropLevel a0 a1 a2 => ⟨_, _, exec_dropLevel s a0 a1 a2⟩
  | .restoreDefaults a0 a1 a2 => ⟨_, _, exec_restoreDefaults s a0 a1 a2⟩
  | .rcClear a0 a1 a2 a3 a4 => ⟨_, _, exec_rcClear s a0 a1 a2 a3 a4⟩
  | .ack a0 a1 a2 a3 => ⟨_, _, exec_ack s a0 a1 a2 a3⟩
  | .heartbeat a0 a1 a2 => ⟨_, _, exec_heartbeat s a0 a1 a2⟩
  | .period a0 a1 a2 => ⟨_, _, exec_period s a0 a1 a2⟩
  | .heartbeatLate a0 => ⟨_, _, exec_heartbeatLate s a0⟩
  | .hostLost a0 => ⟨_, _, exec_hostLost s a0⟩
  | .openStaging a0 a1 => ⟨_, _, exec_openStaging s a0 a1⟩
  | .releaseStaging a0 a1 => ⟨_, _, exec_releaseStaging s a0 a1⟩
  | .seize a0 a1 => ⟨_, _, exec_seize s a0 a1⟩
  | .stagingIdle a0 => ⟨_, _, exec_stagingIdle s a0⟩
  | .commit a0 a1 => ⟨_, _, exec_commit s a0 a1⟩
  | .checkOnly a0 a1 => ⟨_, _, exec_checkOnly s a0 a1⟩
  | .commitCheckEnd a0 => ⟨_, _, exec_commitCheckEnd s a0⟩
  | .commitInstant a0 => ⟨_, _, exec_commitInstant s a0⟩
  | .digestStart a0 a1 a2 => ⟨_, _, exec_digestStart s a0 a1 a2⟩
  | .digestResult a0 => ⟨_, _, exec_digestResult s a0⟩
  | .mirrorWrite a0 => ⟨_, _, exec_mirrorWrite s a0⟩
  | .logWrite a0 => ⟨_, _, exec_logWrite s a0⟩
  | .powerUp a0 a1 a2 a3 => ⟨_, _, exec_powerUp s a0 a1 a2 a3⟩
  | .bootStart a0 a1 => ⟨_, _, exec_bootStart s a0 a1⟩
  | .firmwareTimeout a0 => ⟨_, _, exec_firmwareTimeout s a0⟩
  | .resetNAssert a0 => ⟨_, _, exec_resetNAssert s a0⟩
  | .resetNRise a0 a1 a2 => ⟨_, _, exec_resetNRise s a0 a1 a2⟩
  | .brownOut a0 => ⟨_, _, exec_brownOut s a0⟩
  | .supplyFault a0 => ⟨_, _, exec_supplyFault s a0⟩
  | .supplyReturn a0 => ⟨_, _, exec_supplyReturn s a0⟩
  | .thermalTrip a0 a1 => ⟨_, _, exec_thermalTrip s a0 a1⟩
  | .thermalRestart a0 => ⟨_, _, exec_thermalRestart s a0⟩
  | .pllLoss a0 => ⟨_, _, exec_pllLoss s a0⟩
  | .housekeepingRound a0 a1 => ⟨_, _, exec_housekeepingRound s a0 a1⟩
  | .guaranteeHeld a0 => ⟨_, _, exec_guaranteeHeld s a0⟩
  | .idleTimer a0 => ⟨_, _, exec_idleTimer s a0⟩
  | .selfRefreshEntry a0 a1 => ⟨_, _, exec_selfRefreshEntry s a0 a1⟩
  | .deepEntry a0 => ⟨_, _, exec_deepEntry s a0⟩
  | .wake a0 a1 => ⟨_, _, exec_wake s a0 a1⟩
  | .deepExit a0 a1 => ⟨_, _, exec_deepExit s a0 a1⟩
  | .standbyWake a0 a1 => ⟨_, _, exec_standbyWake s a0 a1⟩
  | .pipelineGate a0 a1 => ⟨_, _, exec_pipelineGate s a0 a1⟩
  | .tileLight a0 a1 => ⟨_, _, exec_tileLight s a0 a1⟩
  | .noSignal a0 a1 => ⟨_, _, exec_noSignal s a0 a1⟩
  | .signalDetect a0 a1 => ⟨_, _, exec_signalDetect s a0 a1⟩
  | .aligned a0 a1 => ⟨_, _, exec_aligned s a0 a1⟩
  | .alignmentLoss a0 a1 a2 => ⟨_, _, exec_alignmentLoss s a0 a1 a2⟩
  | .laneExit a0 a1 => ⟨_, _, exec_laneExit s a0 a1⟩
  | .eyeMeasure a0 a1 a2 a3 => ⟨_, _, exec_eyeMeasure s a0 a1 a2 a3⟩
  | .eyeFloor a0 a1 => ⟨_, _, exec_eyeFloor s a0 a1⟩
  | .eyeScan a0 a1 a2 a3 => ⟨_, _, exec_eyeScan s a0 a1 a2 a3⟩
  | .eyeScanDone a0 a1 => ⟨_, _, exec_eyeScanDone s a0 a1⟩
  | .adopt a0 a1 a2 a3 => ⟨_, _, exec_adopt s a0 a1 a2 a3⟩
  | .regRead a0 a1 a2 a3 => ⟨_, _, exec_regRead s a0 a1 a2 a3⟩
  | .regWrite a0 a1 a2 a3 => ⟨_, _, exec_regWrite s a0 a1 a2 a3⟩
  | .regTimeout a0 a1 => ⟨_, _, exec_regTimeout s a0 a1⟩
  | .regResponse a0 a1 a2 a3 a4 a5 => ⟨_, _, exec_regResponse s a0 a1 a2 a3 a4 a5⟩
  | .linePacket a0 a1 a2 a3 a4 a5 => ⟨_, _, exec_linePacket s a0 a1 a2 a3 a4 a5⟩
  | .cameraEvent a0 a1 a2 => ⟨_, _, exec_cameraEvent s a0 a1 a2⟩
  | .statusPacket a0 a1 a2 a3 => ⟨_, _, exec_statusPacket s a0 a1 a2 a3⟩
  | .cxpImagePacket a0 a1 a2 a3 a4 => ⟨_, _, exec_cxpImagePacket s a0 a1 a2 a3 a4⟩
  | .cxpControlResponse a0 a1 a2 a3 => ⟨_, _, exec_cxpControlResponse s a0 a1 a2 a3⟩
  | .trigAck a0 a1 => ⟨_, _, exec_trigAck s a0 a1⟩
  | .cxpHeartbeat a0 a1 a2 => ⟨_, _, exec_cxpHeartbeat s a0 a1 a2⟩
  | .reasmWindow a0 a1 a2 => ⟨_, _, exec_reasmWindow s a0 a1 a2⟩
  | .trigEnd a0 a1 => ⟨_, _, exec_trigEnd s a0 a1⟩
  | .seam a0 a1 a2 a3 a4 a5 a6 a7 => ⟨_, _, exec_seam s a0 a1 a2 a3 a4 a5 a6 a7⟩
  | .cometPacket a0 a1 a2 a3 => ⟨_, _, exec_cometPacket s a0 a1 a2 a3⟩
  | .eventPacket a0 a1 a2 a3 => ⟨_, _, exec_eventPacket s a0 a1 a2 a3⟩
  | .linkStatus a0 a1 a2 a3 => ⟨_, _, exec_linkStatus s a0 a1 a2 a3⟩
  | .linkStatusSend a0 => ⟨_, _, exec_linkStatusSend s a0⟩
  | .linkStatusTimeout a0 a1 => ⟨_, _, exec_linkStatusTimeout s a0 a1⟩
  | .seamLate a0 a1 a2 => ⟨_, _, exec_seamLate s a0 a1 a2⟩
  | .edgeLate a0 a1 a2 => ⟨_, _, exec_edgeLate s a0 a1 a2⟩
  | .countEdge a0 a1 a2 a3 => ⟨_, _, exec_countEdge s a0 a1 a2 a3⟩
  | .indexEdge a0 a1 => ⟨_, _, exec_indexEdge s a0 a1⟩
  | .speedTimeout a0 a1 => ⟨_, _, exec_speedTimeout s a0 a1⟩
  | .syntheticCount a0 a1 => ⟨_, _, exec_syntheticCount s a0 a1⟩
  | .positionSet a0 a1 a2 a3 => ⟨_, _, exec_positionSet s a0 a1 a2 a3⟩
  | .pgoPulse a0 a1 => ⟨_, _, exec_pgoPulse s a0 a1⟩
  | .triggerHeldIssue a0 a1 => ⟨_, _, exec_triggerHeldIssue s a0 a1⟩
  | .frameLines a0 a1 a2 a3 => ⟨_, _, exec_frameLines s a0 a1 a2 a3⟩
  | .lineCorrection a0 a1 => ⟨_, _, exec_lineCorrection s a0 a1⟩
  | .calCaptureDark a0 a1 a2 => ⟨_, _, exec_calCaptureDark s a0 a1 a2⟩
  | .calCaptureFlat a0 a1 a2 => ⟨_, _, exec_calCaptureFlat s a0 a1 a2⟩
  | .calCaptureTimeout a0 a1 => ⟨_, _, exec_calCaptureTimeout s a0 a1⟩
  | .stitchLine a0 a1 a2 => ⟨_, _, exec_stitchLine s a0 a1 a2⟩
  | .cometRelease a0 a1 => ⟨_, _, exec_cometRelease s a0 a1⟩
  | .fuseHold a0 a1 => ⟨_, _, exec_fuseHold s a0 a1⟩
  | .histClear a0 a1 a2 a3 => ⟨_, _, exec_histClear s a0 a1 a2 a3⟩
  | .build a0 a1 a2 a3 => ⟨_, _, exec_build s a0 a1 a2 a3⟩
  | .buildUnit a0 a1 a2 a3 => ⟨_, _, exec_buildUnit s a0 a1 a2 a3⟩
  | .buildTimeout a0 a1 => ⟨_, _, exec_buildTimeout s a0 a1⟩
  | .tableVerify a0 a1 a2 => ⟨_, _, exec_tableVerify s a0 a1 a2⟩
  | .dispatch a0 => ⟨_, _, exec_dispatch s a0⟩
  | .cropFetch a0 a1 a2 => ⟨_, _, exec_cropFetch s a0 a1 a2⟩
  | .runEnd a0 a1 a2 => ⟨_, _, exec_runEnd s a0 a1 a2⟩
  | .tDecExpiry a0 a1 => ⟨_, _, exec_tDecExpiry s a0 a1⟩
  | .brickUpset a0 a1 a2 => ⟨_, _, exec_brickUpset s a0 a1 a2⟩
  | .sramError a0 a1 a2 a3 => ⟨_, _, exec_sramError s a0 a1 a2 a3⟩
  | .tileReset a0 a1 => ⟨_, _, exec_tileReset s a0 a1⟩
  | .regionReset a0 a1 => ⟨_, _, exec_regionReset s a0 a1⟩
  | .modelCheck a0 a1 => ⟨_, _, exec_modelCheck s a0 a1⟩
  | .norStored a0 a1 => ⟨_, _, exec_norStored s a0 a1⟩
  | .clear a0 a1 a2 a3 => ⟨_, _, exec_clear s a0 a1 a2 a3⟩
  | .tickStart a0 a1 => ⟨_, _, exec_tickStart s a0 a1⟩
  | .statusFrame a0 a1 a2 => ⟨_, _, exec_statusFrame s a0 a1 a2⟩
  | .statusJudge a0 a1 => ⟨_, _, exec_statusJudge s a0 a1⟩
  | .vbPresAssert a0 a1 => ⟨_, _, exec_vbPresAssert s a0 a1⟩
  | .vbPresRelease a0 a1 => ⟨_, _, exec_vbPresRelease s a0 a1⟩
  | .busStartIdle a0 a1 => ⟨_, _, exec_busStartIdle s a0 a1⟩
  | .testEnable a0 a1 a2 a3 => ⟨_, _, exec_testEnable s a0 a1 a2 a3⟩
  | .safeNAssert a0 => ⟨_, _, exec_safeNAssert s a0⟩
  | .safeNRelease a0 => ⟨_, _, exec_safeNRelease s a0⟩
  | .timedEdge a0 a1 => ⟨_, _, exec_timedEdge s a0 a1⟩
  | .edges a0 a1 a2 a3 => ⟨_, _, exec_edges s a0 a1 a2 a3⟩
  | .flush a0 a1 a2 a3 => ⟨_, _, exec_flush s a0 a1 a2 a3⟩
  | .hbmRequest a0 a1 a2 a3 a4 a5 => ⟨_, _, exec_hbmRequest s a0 a1 a2 a3 a4 a5⟩
  | .lineWriteDrop a0 a1 => ⟨_, _, exec_lineWriteDrop s a0 a1⟩
  | .stackTemperature a0 a1 a2 => ⟨_, _, exec_stackTemperature s a0 a1 a2⟩
  | .refresh a0 a1 => ⟨_, _, exec_refresh s a0 a1⟩
  | .powerDown a0 a1 => ⟨_, _, exec_powerDown s a0 a1⟩
  | .patrolScrub a0 a1 a2 => ⟨_, _, exec_patrolScrub s a0 a1 a2⟩
  | .start a0 a1 a2 a3 => ⟨_, _, exec_start s a0 a1 a2 a3⟩
  | .stop a0 a1 a2 a3 => ⟨_, _, exec_stop s a0 a1 a2 a3⟩
  | .flightEntry a0 => ⟨_, _, exec_flightEntry s a0⟩
  | .descriptorFetch a0 a1 => ⟨_, _, exec_descriptorFetch s a0 a1⟩
  | .followReady a0 a1 => ⟨_, _, exec_followReady s a0 a1⟩
  | .descriptorDone a0 a1 => ⟨_, _, exec_descriptorDone s a0 a1⟩
  | .busError a0 a1 => ⟨_, _, exec_busError s a0 a1⟩
  | .codecBlock a0 a1 => ⟨_, _, exec_codecBlock s a0 a1⟩
  | .checkUnitGrant a0 a1 => ⟨_, _, exec_checkUnitGrant s a0 a1⟩
  | .eventDelivery a0 => ⟨_, _, exec_eventDelivery s a0⟩
  | .ethLinkUp a0 a1 => ⟨_, _, exec_ethLinkUp s a0 a1⟩
  | .ethLinkDown a0 a1 => ⟨_, _, exec_ethLinkDown s a0 a1⟩
  | .arpFrame a0 a1 a2 a3 a4 a5 => ⟨_, _, exec_arpFrame s a0 a1 a2 a3 a4 a5⟩
  | .icmpEcho a0 a1 a2 a3 => ⟨_, _, exec_icmpEcho s a0 a1 a2 a3⟩
  | .arpRetry a0 a1 a2 => ⟨_, _, exec_arpRetry s a0 a1 a2⟩
  | .arpRefresh a0 a1 a2 => ⟨_, _, exec_arpRefresh s a0 a1 a2⟩
  | .arpExpiry a0 a1 a2 => ⟨_, _, exec_arpExpiry s a0 a1 a2⟩
  | .sync a0 a1 a2 a3 => ⟨_, _, exec_sync s a0 a1 a2 a3⟩
  | .announce a0 a1 a2 a3 a4 => ⟨_, _, exec_announce s a0 a1 a2 a3 a4⟩
  | .ptpMessage a0 a1 a2 => ⟨_, _, exec_ptpMessage s a0 a1 a2⟩
  | .ptpSend a0 a1 a2 => ⟨_, _, exec_ptpSend s a0 a1 a2⟩
  | .syncTimeout a0 => ⟨_, _, exec_syncTimeout s a0⟩
  | .announceTimeout a0 a1 => ⟨_, _, exec_announceTimeout s a0 a1⟩
  | .step a0 a1 a2 => ⟨_, _, exec_step s a0 a1 a2⟩
  | .stepWithdraw a0 => ⟨_, _, exec_stepWithdraw s a0⟩
  | .keyPress a0 a1 => ⟨_, _, exec_keyPress s a0 a1⟩
  | .keyRelease a0 a1 => ⟨_, _, exec_keyRelease s a0 a1⟩
  | .longPress a0 a1 => ⟨_, _, exec_longPress s a0 a1⟩
  | .touchScan a0 a1 => ⟨_, _, exec_touchScan s a0 a1⟩
  | .touchStuck a0 a1 => ⟨_, _, exec_touchStuck s a0 a1⟩
  | .lampBlink a0 a1 => ⟨_, _, exec_lampBlink s a0 a1⟩
  | .campwrFlt a0 a1 => ⟨_, _, exec_campwrFlt s a0 a1⟩
  | .pwrRetry a0 a1 => ⟨_, _, exec_pwrRetry s a0 a1⟩
  | .pwrStagger a0 => ⟨_, _, exec_pwrStagger s a0⟩
  | .pwrEnable a0 a1 a2 a3 => ⟨_, _, exec_pwrEnable s a0 a1 a2 a3⟩
  | .pwrReset a0 a1 a2 a3 => ⟨_, _, exec_pwrReset s a0 a1 a2 a3⟩
  | .clearRetirements a0 a1 a2 => ⟨_, _, exec_clearRetirements s a0 a1 a2⟩
  | .preferred a0 a1 a2 => ⟨_, _, exec_preferred s a0 a1 a2⟩
  | .fwProgrammed a0 a1 => ⟨_, _, exec_fwProgrammed s a0 a1⟩
  | .dieBridgeFailure a0 => ⟨_, _, exec_dieBridgeFailure s a0⟩
  | .watchdog a0 => ⟨_, _, exec_watchdog s a0⟩
  | .dmaParityError a0 a1 => ⟨_, _, exec_dmaParityError s a0 a1⟩
  | .eventChannelParityError a0 a1 => ⟨_, _, exec_eventChannelParityError s a0 a1⟩
  | .rxDropped a0 a1 => ⟨_, _, exec_rxDropped s a0 a1⟩

end Sys2Proof.Machine
end

