-- ==== Sys2Proof/Laws/Memory.lean ====
section
/-! SUPPORT. The laws of the two sparse stores and of the dictionary's values: what is read after a write, and that every
operation on a byte store keeps its canonical form. -/

namespace Sys2Proof.Machine

/-! ## Values by key -/

@[simp] theorem Kv.get?_put_same (m : Kv) (key : Nat) (v : Val) : Kv.get? (Kv.put m key v) key = some v := by
  induction m with
  | nil => simp [Kv.put, Kv.get?]
  | cons p r ih =>
    obtain ⟨k, w⟩ := p
    by_cases h1 : key < k
    · simp [Kv.put, Kv.get?, h1]
    · by_cases h2 : key = k
      · simp [Kv.put, Kv.get?, h2]
      · simp [Kv.put, Kv.get?, h1, h2, Ne.symm h2, ih]

theorem Kv.get?_put_other (m : Kv) {key other : Nat} (v : Val) (h : other ≠ key) :
    Kv.get? (Kv.put m key v) other = Kv.get? m other := by
  induction m with
  | nil => simp [Kv.put, Kv.get?, Ne.symm h]
  | cons p r ih =>
    obtain ⟨k, w⟩ := p
    by_cases h1 : key < k
    · simp [Kv.put, Kv.get?, h1, Ne.symm h]
    · by_cases h2 : key = k
      · subst h2
        simp [Kv.put, Kv.get?, Ne.symm h]
      · simp [Kv.put, Kv.get?, h1, h2, ih]

/-! ## Values of the dictionary -/

@[simp] theorem State.val_putVal_same (s : State) (key : Nat) (v : Val) : (s.putVal key v).val key = v := by
  simp [State.val, State.valIn, State.putVal]

theorem State.val_putVal_other (s : State) {key other : Nat} (v : Val) (h : other ≠ key) :
    (s.putVal key v).val other = s.val other := by
  simp [State.val, State.valIn, State.putVal, Kv.get?_put_other _ _ h, State.dfltOf]

@[simp] theorem State.num_putNum_same (s : State) (key n : Nat) : (s.putNum key n).num key = n := by
  simp [State.num, State.putNum, Val.toNat]

theorem State.num_putNum_other (s : State) {key other : Nat} (n : Nat) (h : other ≠ key) :
    (s.putNum key n).num other = s.num other := by
  simp [State.num, State.putNum, State.val_putVal_other _ _ h]

@[simp] theorem State.val_putKept_same (s : State) (key : Nat) (v : Val) : (s.putKept key v).val key = v := by
  simp [State.val, State.valIn, State.putKept]

theorem State.val_putKept_other (s : State) {key other : Nat} (v : Val) (h : other ≠ key) :
    (s.putKept key v).val other = s.val other := by
  simp [State.val, State.valIn, State.putKept, Kv.get?_put_other _ _ h, State.dfltOf]

/-- A counter after `bump`: one more, or all ones (R511). -/
theorem State.num_bump_same (s : State) (key : Nat) : (s.bump key).num key = satAdd 32 (s.num key) 1 := by
  simp [State.bump, State.bumpBy]

theorem State.num_bump_other (s : State) {key other : Nat} (h : other ≠ key) : (s.bump key).num other = s.num other := by
  simp [State.bump, State.bumpBy, State.num_putNum_other _ _ h]

@[simp] theorem State.val_elapse (s : State) (dt key : Nat) : (s.elapse dt).val key = s.val key := rfl
@[simp] theorem State.num_elapse (s : State) (dt key : Nat) : (s.elapse dt).num key = s.num key := rfl

/-! ## Bytes by address -/

theorem Mem.wfFrom_mono {lo lo' : Nat} {m : Mem} (h : lo' ≤ lo) (w : Mem.wfFrom lo m = true) :
    Mem.wfFrom lo' m = true := by
  cases m with
  | nil => rfl
  | cons p r =>
    obtain ⟨k, b⟩ := p
    simp only [Mem.wfFrom, Bool.and_eq_true, decide_eq_true_eq] at w ⊢
    exact ⟨⟨Nat.le_trans h w.1.1, w.1.2⟩, w.2⟩

/-- Below the bound of a canonical store every byte reads 0. -/
theorem Mem.read_below {lo a : Nat} {m : Mem} (w : Mem.wfFrom lo m = true) (h : a < lo) : Mem.read m a = 0 := by
  induction m generalizing lo with
  | nil => rfl
  | cons p r ih =>
    obtain ⟨k, b⟩ := p
    simp only [Mem.wfFrom, Bool.and_eq_true, decide_eq_true_eq] at w
    have hk : k ≠ a := by omega
    simp [Mem.read, hk]
    exact ih w.2 (by omega)

theorem Mem.write_wfFrom {lo a : Nat} {m : Mem} (b : Byte) (w : Mem.wfFrom lo m = true) (h : lo ≤ a) :
    Mem.wfFrom lo (Mem.write m a b) = true := by
  induction m generalizing lo with
  | nil => by_cases hb : b = 0#8 <;> simp [Mem.write, Mem.wfFrom, hb, h]
  | cons p r ih =>
    obtain ⟨k, c⟩ := p
    have w' := w
    simp only [Mem.wfFrom, Bool.and_eq_true, decide_eq_true_eq] at w'
    by_cases h1 : a < k
    · by_cases hb : b = 0#8
      · simp [Mem.write, h1, hb, w]
      · rw [Mem.write, if_pos h1, if_neg (show ¬b = 0 from hb)]
        simp only [Mem.wfFrom, Bool.and_eq_true, decide_eq_true_eq]
        exact ⟨⟨h, hb⟩, ⟨by omega, w'.1.2⟩, w'.2⟩
    · by_cases h2 : a = k
      · by_cases hb : b = 0#8
        · simp [Mem.write, h2, hb]
          exact Mem.wfFrom_mono (by omega) w'.2
        · subst h2
          simp [Mem.write, hb, Mem.wfFrom, h, w'.2]
      · simp only [Mem.write, h1, h2, if_false, Mem.wfFrom, Bool.and_eq_true, decide_eq_true_eq]
        exact ⟨w'.1, ih w'.2 (by omega)⟩

/-- A write keeps the canonical form. -/
theorem Mem.write_wf {m : Mem} (a : Nat) (b : Byte) (w : m.wf = true) : (Mem.write m a b).wf = true :=
  Mem.write_wfFrom b w (Nat.zero_le a)

/-- A write of a byte string keeps the canonical form. -/
theorem Mem.writeBytes_wf {m : Mem} (a : Nat) (b : Bytes) (w : m.wf = true) : (Mem.writeBytes m a b).wf = true := by
  induction b generalizing m a with
  | nil => exact w
  | cons x r ih => exact ih (a + 1) (Mem.write_wf a x w)

theorem Mem.ofBytes_wf (b : Bytes) : (Mem.ofBytes b).wf = true := Mem.writeBytes_wf 0 b rfl

/-- A byte reads as it was written. -/
theorem Mem.read_write_same {lo a : Nat} {m : Mem} (b : Byte) (w : Mem.wfFrom lo m = true) :
    Mem.read (Mem.write m a b) a = b := by
  induction m generalizing lo with
  | nil => by_cases hb : b = 0#8 <;> simp [Mem.write, Mem.read, hb]
  | cons p r ih =>
    obtain ⟨k, c⟩ := p
    simp only [Mem.wfFrom, Bool.and_eq_true, decide_eq_true_eq] at w
    by_cases h1 : a < k
    · by_cases hb : b = 0#8
      · have hk : k ≠ a := by omega
        simp [Mem.write, h1, hb, Mem.read, hk]
        exact Mem.read_below w.2 (by omega)
      · simp [Mem.write, h1, hb, Mem.read]
    · by_cases h2 : a = k
      · by_cases hb : b = 0#8
        · subst h2
          simp [Mem.write, hb]
          exact Mem.read_below w.2 (by omega)
        · simp [Mem.write, h2, hb, Mem.read]
      · simp [Mem.write, h1, h2, Mem.read, Ne.symm h2]
        exact ih w.2

/-- A write leaves every other byte alone. -/
theorem Mem.read_write_other {a other : Nat} {m : Mem} (b : Byte) (h : other ≠ a) :
    Mem.read (Mem.write m a b) other = Mem.read m other := by
  induction m with
  | nil => by_cases hb : b = 0#8 <;> simp [Mem.write, Mem.read, hb, Ne.symm h]
  | cons p r ih =>
    obtain ⟨k, c⟩ := p
    by_cases h1 : a < k
    · by_cases hb : b = 0#8 <;> simp [Mem.write, h1, hb, Mem.read, Ne.symm h]
    · by_cases h2 : a = k
      · subst h2
        by_cases hb : b = 0#8 <;> simp [Mem.write, hb, Mem.read, Ne.symm h]
      · simp [Mem.write, h1, h2, Mem.read, ih]

/-- A byte string leaves every byte outside it alone. -/
theorem Mem.read_writeBytes_other {a other : Nat} {m : Mem} (b : Bytes) (h : other < a ∨ a + b.length ≤ other) :
    Mem.read (Mem.writeBytes m a b) other = Mem.read m other := by
  induction b generalizing m a with
  | nil => rfl
  | cons x r ih =>
    have h' : other < a + 1 ∨ a + 1 + r.length ≤ other := by
      simp only [List.length_cons] at h
      omega
    have hne : other ≠ a := by
      simp only [List.length_cons] at h
      omega
    simp [Mem.writeBytes, ih h', Mem.read_write_other x hne]

end Sys2Proof.Machine
end

