-- ==== Sys2Proof/Laws/Hbm.lean ====
section
/-! SUPPORT. What the shared operations of the memory controllers can do, said once: the split of an address and its join, and what an
access of one of the module's users leaves alone. -/

namespace Sys2Proof.Machine

/-- The fields of a pseudo-channel address are the address (R377). -/
theorem HbmFields.pa_of_fields {pa : Nat} (h : pa < 2 ^ 29) : (hbmFields pa).pa = pa := by
  simp only [hbmFields, HbmFields.pa]
  omega

/-- The address of some fields has these fields, each in its width (R377). -/
theorem hbmFields_of_pa {f : HbmFields} (h1 : f.row < 2 ^ 14) (h2 : f.sid < 2) (h3 : f.bank < 4) (h4 : f.bankGroup < 4)
    (h5 : f.column < 32) (h6 : f.byte < 32) : hbmFields f.pa = f := by
  cases f
  simp only [hbmFields, HbmFields.pa, HbmFields.mk.injEq] at *
  omega

/-- All that an access through a port can move: the controllers, and the port's counters (R384, R389 to R391). -/
structure Touched (a b : State) : Prop where
  rest : { b with hbm := a.hbm, dict := { b.dict with inForce := a.dict.inForce } } = a
  mem : b.hbm.mem = a.hbm.mem
  failed : b.hbm.failed = a.hbm.failed
  queue : b.hbm.queue = a.hbm.queue
  rings : b.hbm.rings = a.hbm.rings

theorem Touched.refl (a : State) : Touched a a := ⟨rfl, rfl, rfl, rfl, rfl⟩

theorem Touched.trans {a b c : State} (h : Touched a b) (k : Touched b c) : Touched a c := by
  refine ⟨?_, k.mem.trans h.mem, k.failed.trans h.failed, k.queue.trans h.queue, k.rings.trans h.rings⟩
  have e := h.rest
  rw [← k.rest] at e
  exact e

theorem Touched.putVal (s : State) (key : Nat) (v : Val) : Touched s (s.putVal key v) := ⟨rfl, rfl, rfl, rfl, rfl⟩

theorem Touched.modPch (s : State) (n : Nat) (f : Pch → Pch) : Touched s (s.modPch n f) := ⟨rfl, rfl, rfl, rfl, rfl⟩

theorem Touched.ite {p : Prop} [Decidable p] {s a b : State} (ha : Touched s a) (hb : Touched s b) : Touched s (if p then a else b) := by
  split <;> assumption

theorem Touched.hbmServed (s : State) (port n age t : Nat) (w : Bool) : Touched s (s.hbmServed port n age t w) := by
  unfold State.hbmServed State.peak
  exact (((ite (putVal s _ _) (refl s)).trans (ite (putVal _ _ _) (refl _))).trans (ite (putVal _ _ _) (refl _))).trans (modPch _ _ _)

/-- An access moves no byte, no ring and no waiting request. -/
theorem Touched.hbmTouch (s : State) (port : Nat) (channels : List Nat) : Touched s (s.hbmTouch port channels) := by
  unfold State.hbmTouch
  induction channels generalizing s with
  | nil => exact refl s
  | cons n r ih => exact Touched.trans (ite (refl s) ((modPch s _ _).trans (hbmServed _ _ _ _ _ _))) (ih _)

end Sys2Proof.Machine
end

