-- ==== Sys2Proof/WellFormed.lean ====
section
/-! DEFINITION. The operand ranges of the commands: what a connector, a bus or a unit number of the module can carry. -/

namespace Sys2Proof

/-- The values of a request's origin (R54, R62). -/
def Src.ok : Src → Bool
  | .i3c tag => decide (tag < 256)
  | .ydp eth ip port session seq =>
    decide (eth < 2) && decide (ip < 2 ^ 32) && decide (port < 65536) && decide (session < 65536) && decide (seq < 2 ^ 32)

/-- An object's address (R38). -/
def objectOk (index sub : Nat) : Bool := decide (index < 65536) && decide (sub < 256)

/-- The fields of a PTP message (R456, R462). -/
def PtpFields.ok (f : PtpFields) : Bool := decide (f.transport < 2) && decide (f.domain < 256) && decide (f.sequence < 65536)

/-- What a frame that a port receives can carry (R456). -/
def RxFrame.ok : RxFrame → Bool
  | .arp _ sender target => decide (sender < 2 ^ 32) && decide (target < 2 ^ 32)
  | .ipv4 destination headerBytes _ _ body =>
    decide (destination < 2 ^ 32) && decide (headerBytes ≤ 60) &&
    (match body with | .udp port => decide (port < 65536) | .echo _ => true | .icmp => true | .other => true)
  | .ptp destination => decide (destination < 2 ^ 48)
  | .other => true

/-- Operand ranges of every command. -/
def Instr.wellFormed : Instr → Bool
  | .read _ src index sub _ => src.ok && objectOk index sub
  | .write _ src index sub _ => src.ok && objectOk index sub
  | .segRead _ src index sub offset => src.ok && objectOk index sub && decide (offset < 2 ^ 32)
  | .segWrite _ src index sub offset _ _ => src.ok && objectOk index sub && decide (offset < 2 ^ 32)
  | .blockStart _ src index sub _ => src.ok && objectOk index sub
  | .blockData _ src index sub offset _ => src.ok && objectOk index sub && decide (offset < 2 ^ 32)
  | .blockEnd _ src index sub _ => src.ok && objectOk index sub
  | .blockRead _ src index sub offset => src.ok && objectOk index sub && decide (offset < 2 ^ 32)
  | .sessionOpen _ eth ip port seq _ =>
    decide (eth < 2) && decide (ip < 2 ^ 32) && decide (port < 65536) && decide (seq < 2 ^ 32)
  | .sessionClose _ src => src.ok
  | .sessionIdle _ number => decide (number < 65536)
  | .frameCheck _ _ => true
  | .datagramDrop _ ⟨eth, ip, port, _, _⟩ => decide (eth < 2) && decide (ip < 2 ^ 32) && decide (port < 65536)
  | .responseRead _ => true
  | .ibiDelivery _ => true
  | .setdasa _ address => decide (address < 128)
  | .entdaa _ address => decide (address < 128)
  | .wakeTransfer _ _ => true
  | .ydpPort _ src value => src.ok && decide (value < 65536)
  | .challenge _ src => src.ok
  | .response _ src value => src.ok && decide (value < 2 ^ 32)
  | .nonceExpiry _ session => (match session with | .i3c => true | .ydp k => decide (k < 65536))
  | .lockoutEnd _ => true
  | .dropLevel _ src value => src.ok && decide (value < 256)
  | .restoreDefaults _ src value => src.ok && decide (value < 2 ^ 32)
  | .rcClear _ src index sub _ => src.ok && objectOk index sub
  | .ack _ src index seq => src.ok && decide (index < 65536) && decide (seq < 2 ^ 32)
  | .heartbeat _ src value => src.ok && decide (value < 256)
  | .period _ src value => src.ok && decide (value < 2 ^ 32)
  | .heartbeatLate _ => true
  | .hostLost _ => true
  | .openStaging _ src => src.ok
  | .releaseStaging _ src => src.ok
  | .seize _ src => src.ok
  | .stagingIdle _ => true
  | .commit _ src => src.ok
  | .checkOnly _ src => src.ok
  | .commitCheckEnd _ => true
  | .commitInstant _ => true
  | .digestStart _ src value => src.ok && decide (value < 256)
  | .digestResult _ => true
  | .mirrorWrite _ => true
  | .logWrite _ => true
  | .powerUp _ _ id bootsel => decide (id < 4) && decide (bootsel < 2)
  | .bootStart _ _ => true
  | .firmwareTimeout _ => true
  | .resetNAssert _ => true
  | .resetNRise _ id bootsel => decide (id < 4) && decide (bootsel < 2)
  | .brownOut _ => true
  | .supplyFault _ => true
  | .supplyReturn _ => true
  | .thermalTrip _ sensor => decide (sensor < 16)
  | .thermalRestart _ => true
  | .pllLoss _ => true
  | .housekeepingRound _ readings => decide (readings.length = 24)
  | .guaranteeHeld _ => true
  | .idleTimer _ => true
  | .selfRefreshEntry _ pch => decide (pch < 64)
  | .deepEntry _ => true
  | .wake _ _ => true
  | .deepExit _ _ => true
  | .standbyWake _ _ => true
  | .pipelineGate _ region => decide (region < 12)
  | .tileLight _ tile => decide (tile < 48)
  | .noSignal _ lane => decide (lane < 52)
  | .signalDetect _ lane => decide (lane < 52)
  | .aligned _ lane => decide (lane < 52)
  | .alignmentLoss _ lane _ => decide (lane < 52)
  | .laneExit _ lane => decide (lane < 52)
  | .eyeMeasure _ lane _ _ => decide (lane < 52)
  | .eyeFloor _ lane => decide (lane < 52)
  | .eyeScan _ src lane dwell => src.ok && decide (lane < 52) && decide (dwell < 65536)
  | .eyeScanDone _ counts => decide (counts.length = 4096)
  | .adopt _ src port value => src.ok && decide (port < 12) && decide (value < 256)
  | .regRead _ src port words => src.ok && decide (port < 12) && decide (words < 128)
  | .regWrite _ src port words => src.ok && decide (port < 12) && decide (words < 128)
  | .regTimeout _ port => decide (port < 12)
  | .regResponse _ ⟨port, lane, ⟨pseq, camStatus⟩⟩ tag address status _ =>
    decide (port < 12) && decide (lane < 52) && decide (tag < 256) && decide (address < 2 ^ 32) &&
    decide (status < 256) && decide (pseq < 256) && decide (camStatus < 256)
  | .linePacket _ port lane _ _ _ => decide (port < 12) && decide (lane < 52)
  | .cameraEvent _ ⟨port, lane, ⟨pseq, camStatus⟩⟩ _ =>
    decide (port < 12) && decide (lane < 52) && decide (pseq < 256) && decide (camStatus < 256)
  | .statusPacket _ port lane ⟨pseq, camStatus⟩ =>
    decide (port < 12) && decide (lane < 52) && decide (pseq < 256) && decide (camStatus < 256)
  | .cxpImagePacket _ port _ _ _ => decide (port < 12)
  | .cxpControlResponse _ port status _ => decide (port < 12) && decide (status < 256)
  | .trigAck _ port => decide (port < 12)
  | .cxpHeartbeat _ port time => decide (port < 12) && decide (time < 2 ^ 64)
  | .reasmWindow _ port index => decide (port < 12) && decide (index < 2 ^ 32)
  | .trigEnd _ view => decide (view < 4)
  | .seam _ lane view index offset pseq _ _ =>
    decide (lane < 52) && decide (view < 4) && decide (index < 2 ^ 32) && decide (offset < 2 ^ 32) &&
    decide (pseq < 256)
  | .cometPacket _ lane pseq records =>
    decide (lane < 52) && decide (pseq < 256) && decide (1 ≤ records.length) && decide (records.length ≤ 24) &&
    records.all (fun r => match r with
      | .record b => decide (b.length = 128)
      | .opened id time => decide (id < 2 ^ 32) && decide (time < 2 ^ 32))
  | .eventPacket _ lane pseq events =>
    decide (lane < 52) && decide (pseq < 256) && decide (1 ≤ events.length) && decide (events.length ≤ 64) &&
    events.all (fun e => decide (e.1 < 8))
  | .linkStatus _ ⟨lane, pseq⟩ sender epoch =>
    decide (lane < 52) && decide (pseq < 256) && decide (sender < 4) && decide (epoch < 65536)
  | .linkStatusSend _ => true
  | .linkStatusTimeout _ lane => decide (lane < 52)
  | .seamLate _ view index => decide (view < 4) && decide (index < 2 ^ 32)
  | .edgeLate _ view index => decide (view < 4) && decide (index < 2 ^ 32)
  | .countEdge _ channel _ _ => decide (channel < 4)
  | .indexEdge _ ⟨channel, _⟩ => decide (channel < 4)
  | .speedTimeout _ channel => decide (channel < 4)
  | .syntheticCount _ channel => decide (channel < 4)
  | .positionSet _ src channel value => src.ok && decide (channel < 4) && decide (value < 2 ^ 32)
  | .pgoPulse _ output => decide (output < 4)
  | .triggerHeldIssue _ view => decide (view < 4)
  | .frameLines _ src view value => src.ok && decide (view < 4) && decide (value < 2 ^ 32)
  | .lineCorrection _ port => decide (port < 12)
  | .calCaptureDark _ src port => src.ok && decide (port < 12)
  | .calCaptureFlat _ src port => src.ok && decide (port < 12)
  | .calCaptureTimeout _ port => decide (port < 12)
  | .stitchLine _ view _ => decide (view < 4)
  | .cometRelease _ view => decide (view < 4)
  | .fuseHold _ comet => decide (comet < 2 ^ 32)
  | .histClear _ src view mask => src.ok && decide (view < 4) && decide (mask < 256)
  | .build _ src view mask => src.ok && decide (view < 4) && decide (mask < 256)
  | .buildUnit _ view tile brick => decide (view < 4) && decide (tile < 48) && decide (brick < 8)
  | .buildTimeout _ view => decide (view < 4)
  | .tableVerify _ ⟨view, bank⟩ _ => decide (view < 4) && decide (bank < 2)
  | .dispatch _ => true
  | .cropFetch _ tile brick => decide (tile < 48) && decide (brick < 8)
  | .runEnd _ tile brick => decide (tile < 48) && decide (brick < 8)
  | .tDecExpiry _ comet => decide (comet < 2 ^ 32)
  | .brickUpset _ tile brick => decide (tile < 48) && decide (brick < 8)
  | .sramError _ tile _ slot => decide (tile < 48) && decide (slot < 8)
  | .tileReset _ tile => decide (tile < 48)
  | .regionReset _ region => decide (region < 12)
  | .modelCheck _ slot => decide (slot < 8)
  | .norStored _ slot => decide (slot < 8)
  | .clear _ src slot value => src.ok && decide (slot < 8) && decide (value < 256)
  | .tickStart _ bus => decide (bus < 4)
  | .statusFrame _ bus _ => decide (bus < 4)
  | .statusJudge _ bus => decide (bus < 4)
  | .vbPresAssert _ bus => decide (bus < 4)
  | .vbPresRelease _ bus => decide (bus < 4)
  | .busStartIdle _ bus => decide (bus < 4)
  | .testEnable _ src bus value => src.ok && decide (bus < 4) && decide (value < 256)
  | .safeNAssert _ => true
  | .safeNRelease _ => true
  | .timedEdge _ output => decide (output < 16)
  | .edges _ src output _ => src.ok && decide (output < 16)
  | .flush _ src output value => src.ok && decide (output < 16) && decide (value < 256)
  | .hbmRequest _ port pch pa data _ =>
    decide (port < 7) && decide (pch < 64) && decide (pa < 2 ^ 29) &&
    (match data with
      | some b => decide (b.length % 32 = 0) && decide (0 < b.length) && decide (pa / 32 * 32 + b.length ≤ 2 ^ 29)
      | none => true)
  | .lineWriteDrop _ region => decide (region < 12)
  | .stackTemperature _ stack _ => decide (stack < 2)
  | .refresh _ pch => decide (pch < 64)
  | .powerDown _ pch => decide (pch < 64)
  | .patrolScrub _ pch _ => decide (pch < 64)
  | .start _ src channel descriptor => src.ok && decide (channel < 32) && decide (descriptor < 65536)
  | .stop _ src channel value => src.ok && decide (channel < 32) && decide (value < 256)
  | .flightEntry _ => true
  | .descriptorFetch _ channel => decide (channel < 32)
  | .followReady _ channel => decide (channel < 32)
  | .descriptorDone _ channel => decide (channel < 32)
  | .busError _ channel => decide (channel < 32)
  | .codecBlock _ _ => true
  | .checkUnitGrant _ unit => decide (unit < 4)
  | .eventDelivery _ => true
  | .ethLinkUp _ port => decide (port < 2)
  | .ethLinkDown _ port => decide (port < 2)
  | .arpFrame _ port _ senderIp senderMac targetIp =>
    decide (port < 2) && decide (senderIp < 2 ^ 32) && decide (senderMac < 2 ^ 48) && decide (targetIp < 2 ^ 32)
  | .icmpEcho _ port sourceIp _ => decide (port < 2) && decide (sourceIp < 2 ^ 32)
  | .arpRetry _ port ip => decide (port < 2) && decide (ip < 2 ^ 32)
  | .arpRefresh _ port ip => decide (port < 2) && decide (ip < 2 ^ 32)
  | .arpExpiry _ port ip => decide (port < 2) && decide (ip < 2 ^ 32)
  | .sync _ port _ fields => decide (port < 2) && fields.ok
  | .announce _ port source _ _ =>
    decide (port < 2) && decide (source.identity < 2 ^ 64) && decide (source.transport < 2) && decide (source.domain < 256)
  | .ptpMessage _ port message => decide (port < 2) && message.fields.ok
  | .ptpSend _ port _ => decide (port < 2)
  | .syncTimeout _ => true
  | .announceTimeout _ port => decide (port < 2)
  | .step _ src value => src.ok && decide (value < 256)
  | .stepWithdraw _ => true
  | .keyPress _ key => decide (key < 8)
  | .keyRelease _ key => decide (key < 8)
  | .longPress _ key => decide (key < 8)
  | .touchScan _ raw => decide (raw.length = 4)
  | .touchStuck _ channel => decide (channel < 4)
  | .lampBlink _ lamp => decide (lamp < 4)
  | .campwrFlt _ port => decide (port < 12)
  | .pwrRetry _ port => decide (port < 12)
  | .pwrStagger _ => true
  | .pwrEnable _ src port value => src.ok && decide (port < 12) && decide (value < 256)
  | .pwrReset _ src port value => src.ok && decide (port < 12) && decide (value < 256)
  | .clearRetirements _ src value => src.ok && decide (value < 256)
  | .preferred _ src value => src.ok && decide (value < 256)
  | .fwProgrammed _ slot => decide (slot < 2)
  | .dieBridgeFailure _ => true
  | .watchdog _ => true
  | .dmaParityError _ channel => decide (channel < 32)
  | .eventChannelParityError _ channel => decide (channel < 296)
  | .rxDropped _ packet => decide (packet.port < 2) && packet.frame.ok

end Sys2Proof
end

