-- ==== Sys2Proof/Laws/PerInstr.lean ====
section
/-! SUPPORT. Statements for every constructor of Instr, one lemma each: a well-formed request has a well-formed origin. -/

namespace Sys2Proof.Laws.Origin

/-- The origin of a well-formed command that is a dictionary request fits its path's fields (R54, R62). -/
def Statement (i : Instr) : Prop := i.wellFormed = true → ∀ x, i.source = some x → x.ok = true

theorem read (a0 : Nat) (a1 : Src) (a2 : Nat) (a3 : Nat) (a4 : Bool) : Statement (.read a0 a1 a2 a3 a4) :=
  fun h _ e => Option.some.inj e ▸ (Bool.and_eq_true_iff.mp h).1

theorem write (a0 : Nat) (a1 : Src) (a2 : Nat) (a3 : Nat) (a4 : Bytes) : Statement (.write a0 a1 a2 a3 a4) :=
  fun h _ e => Option.some.inj e ▸ (Bool.and_eq_true_iff.mp h).1

theorem segRead (a0 : Nat) (a1 : Src) (a2 : Nat) (a3 : Nat) (a4 : Nat) : Statement (.segRead a0 a1 a2 a3 a4) :=
  fun h _ e => Option.some.inj e ▸ (Bool.and_eq_true_iff.mp (Bool.and_eq_true_iff.mp h).1).1

theorem segWrite (a0 : Nat) (a1 : Src) (a2 : Nat) (a3 : Nat) (a4 : Nat) (a5 : Bool) (a6 : Bytes) : Statement (.segWrite a0 a1 a2 a3 a4 a5 a6) :=
  fun h _ e => Option.some.inj e ▸ (Bool.and_eq_true_iff.mp (Bool.and_eq_true_iff.mp h).1).1

theorem blockStart (a0 : Nat) (a1 : Src) (a2 : Nat) (a3 : Nat) (a4 : Bytes) : Statement (.blockStart a0 a1 a2 a3 a4) :=
  fun h _ e => Option.some.inj e ▸ (Bool.and_eq_true_iff.mp h).1

theorem blockData (a0 : Nat) (a1 : Src) (a2 : Nat) (a3 : Nat) (a4 : Nat) (a5 : Bytes) : Statement (.blockData a0 a1 a2 a3 a4 a5) :=
  fun h _ e => Option.some.inj e ▸ (Bool.and_eq_true_iff.mp (Bool.and_eq_true_iff.mp h).1).1

theorem blockEnd (a0 : Nat) (a1 : Src) (a2 : Nat) (a3 : Nat) (a4 : Bytes) : Statement (.blockEnd a0 a1 a2 a3 a4) :=
  fun h _ e => Option.some.inj e ▸ (Bool.and_eq_true_iff.mp h).1

theorem blockRead (a0 : Nat) (a1 : Src) (a2 : Nat) (a3 : Nat) (a4 : Nat) : Statement (.blockRead a0 a1 a2 a3 a4) :=
  fun h _ e => Option.some.inj e ▸ (Bool.and_eq_true_iff.mp (Bool.and_eq_true_iff.mp h).1).1

theorem sessionOpen (a0 : Nat) (a1 : Nat) (a2 : Nat) (a3 : Nat) (a4 : Nat) (a5 : Bytes) : Statement (.sessionOpen a0 a1 a2 a3 a4 a5) :=
  fun _ _ e => nomatch e

theorem sessionClose (a0 : Nat) (a1 : Src) : Statement (.sessionClose a0 a1) :=
  fun h _ e => Option.some.inj e ▸ h

theorem sessionIdle (a0 : Nat) (a1 : Nat) : Statement (.sessionIdle a0 a1) :=
  fun _ _ e => nomatch e

theorem frameCheck (a0 : Nat) (a1 : Bytes) : Statement (.frameCheck a0 a1) :=
  fun _ _ e => nomatch e

theorem datagramDrop (a0 : Nat) (a1 : UdpPacket) : Statement (.datagramDrop a0 a1) :=
  fun _ _ e => nomatch e

theorem responseRead (a0 : Nat) : Statement (.responseRead a0) :=
  fun _ _ e => nomatch e

theorem ibiDelivery (a0 : Nat) : Statement (.ibiDelivery a0) :=
  fun _ _ e => nomatch e

theorem setdasa (a0 : Nat) (a1 : Nat) : Statement (.setdasa a0 a1) :=
  fun _ _ e => nomatch e

theorem entdaa (a0 : Nat) (a1 : Nat) : Statement (.entdaa a0 a1) :=
  fun _ _ e => nomatch e

theorem wakeTransfer (a0 : Nat) (a1 : Byte) : Statement (.wakeTransfer a0 a1) :=
  fun _ _ e => nomatch e

theorem ydpPort (a0 : Nat) (a1 : Src) (a2 : Nat) : Statement (.ydpPort a0 a1 a2) :=
  fun h _ e => Option.some.inj e ▸ (Bool.and_eq_true_iff.mp h).1

theorem challenge (a0 : Nat) (a1 : Src) : Statement (.challenge a0 a1) :=
  fun h _ e => Option.some.inj e ▸ h

theorem response (a0 : Nat) (a1 : Src) (a2 : Nat) : Statement (.response a0 a1 a2) :=
  fun h _ e => Option.some.inj e ▸ (Bool.and_eq_true_iff.mp h).1

theorem nonceExpiry (a0 : Nat) (a1 : SessId) : Statement (.nonceExpiry a0 a1) :=
  fun _ _ e => nomatch e

theorem lockoutEnd (a0 : Nat) : Statement (.lockoutEnd a0) :=
  fun _ _ e => nomatch e

theorem dropLevel (a0 : Nat) (a1 : Src) (a2 : Nat) : Statement (.dropLevel a0 a1 a2) :=
  fun h _ e => Option.some.inj e ▸ (Bool.and_eq_true_iff.mp h).1

theorem restoreDefaults (a0 : Nat) (a1 : Src) (a2 : Nat) : Statement (.restoreDefaults a0 a1 a2) :=
  fun h _ e => Option.some.inj e ▸ (Bool.and_eq_true_iff.mp h).1

theorem rcClear (a0 : Nat) (a1 : Src) (a2 : Nat) (a3 : Nat) (a4 : Bytes) : Statement (.rcClear a0 a1 a2 a3 a4) :=
  fun h _ e => Option.some.inj e ▸ (Bool.and_eq_true_iff.mp h).1

theorem ack (a0 : Nat) (a1 : Src) (a2 : Nat) (a3 : Nat) : Statement (.ack a0 a1 a2 a3) :=
  fun h _ e => Option.some.inj e ▸ (Bool.and_eq_true_iff.mp (Bool.and_eq_true_iff.mp h).1).1

theorem heartbeat (a0 : Nat) (a1 : Src) (a2 : Nat) : Statement (.heartbeat a0 a1 a2) :=
  fun h _ e => Option.some.inj e ▸ (Bool.and_eq_true_iff.mp h).1

theorem period (a0 : Nat) (a1 : Src) (a2 : Nat) : Statement (.period a0 a1 a2) :=
  fun h _ e => Option.some.inj e ▸ (Bool.and_eq_true_iff.mp h).1

theorem heartbeatLate (a0 : Nat) : Statement (.heartbeatLate a0) :=
  fun _ _ e => nomatch e

theorem hostLost (a0 : Nat) : Statement (.hostLost a0) :=
  fun _ _ e => nomatch e

theorem openStaging (a0 : Nat) (a1 : Src) : Statement (.openStaging a0 a1) :=
  fun h _ e => Option.some.inj e ▸ h

theorem releaseStaging (a0 : Nat) (a1 : Src) : Statement (.releaseStaging a0 a1) :=
  fun h _ e => Option.some.inj e ▸ h

theorem seize (a0 : Nat) (a1 : Src) : Statement (.seize a0 a1) :=
  fun h _ e => Option.some.inj e ▸ h

theorem stagingIdle (a0 : Nat) : Statement (.stagingIdle a0) :=
  fun _ _ e => nomatch e

theorem commit (a0 : Nat) (a1 : Src) : Statement (.commit a0 a1) :=
  fun h _ e => Option.some.inj e ▸ h

theorem checkOnly (a0 : Nat) (a1 : Src) : Statement (.checkOnly a0 a1) :=
  fun h _ e => Option.some.inj e ▸ h

theorem commitCheckEnd (a0 : Nat) : Statement (.commitCheckEnd a0) :=
  fun _ _ e => nomatch e

theorem commitInstant (a0 : Nat) : Statement (.commitInstant a0) :=
  fun _ _ e => nomatch e

theorem digestStart (a0 : Nat) (a1 : Src) (a2 : Nat) : Statement (.digestStart a0 a1 a2) :=
  fun h _ e => Option.some.inj e ▸ (Bool.and_eq_true_iff.mp h).1

theorem digestResult (a0 : Nat) : Statement (.digestResult a0) :=
  fun _ _ e => nomatch e

theorem mirrorWrite (a0 : Nat) : Statement (.mirrorWrite a0) :=
  fun _ _ e => nomatch e

theorem logWrite (a0 : Nat) : Statement (.logWrite a0) :=
  fun _ _ e => nomatch e

theorem powerUp (a0 : Nat) (a1 : Nat) (a2 : Nat) (a3 : Nat) : Statement (.powerUp a0 a1 a2 a3) :=
  fun _ _ e => nomatch e

theorem bootStart (a0 : Nat) (a1 : BootInputs) : Statement (.bootStart a0 a1) :=
  fun _ _ e => nomatch e

theorem firmwareTimeout (a0 : Nat) : Statement (.firmwareTimeout a0) :=
  fun _ _ e => nomatch e

theorem resetNAssert (a0 : Nat) : Statement (.resetNAssert a0) :=
  fun _ _ e => nomatch e

theorem resetNRise (a0 : Nat) (a1 : Nat) (a2 : Nat) : Statement (.resetNRise a0 a1 a2) :=
  fun _ _ e => nomatch e

theorem brownOut (a0 : Nat) : Statement (.brownOut a0) :=
  fun _ _ e => nomatch e

theorem supplyFault (a0 : Nat) : Statement (.supplyFault a0) :=
  fun _ _ e => nomatch e

theorem supplyReturn (a0 : Nat) : Statement (.supplyReturn a0) :=
  fun _ _ e => nomatch e

theorem thermalTrip (a0 : Nat) (a1 : Nat) : Statement (.thermalTrip a0 a1) :=
  fun _ _ e => nomatch e

theorem thermalRestart (a0 : Nat) : Statement (.thermalRestart a0) :=
  fun _ _ e => nomatch e

theorem pllLoss (a0 : Nat) : Statement (.pllLoss a0) :=
  fun _ _ e => nomatch e

theorem housekeepingRound (a0 : Nat) (a1 : List Nat) : Statement (.housekeepingRound a0 a1) :=
  fun _ _ e => nomatch e

theorem guaranteeHeld (a0 : Nat) : Statement (.guaranteeHeld a0) :=
  fun _ _ e => nomatch e

theorem idleTimer (a0 : Nat) : Statement (.idleTimer a0) :=
  fun _ _ e => nomatch e

theorem selfRefreshEntry (a0 : Nat) (a1 : Nat) : Statement (.selfRefreshEntry a0 a1) :=
  fun _ _ e => nomatch e

theorem deepEntry (a0 : Nat) : Statement (.deepEntry a0) :=
  fun _ _ e => nomatch e

theorem wake (a0 : Nat) (a1 : WakeCause) : Statement (.wake a0 a1) :=
  fun _ _ e => nomatch e

theorem deepExit (a0 : Nat) (a1 : Nat) : Statement (.deepExit a0 a1) :=
  fun _ _ e => nomatch e

theorem standbyWake (a0 : Nat) (a1 : WakeCause) : Statement (.standbyWake a0 a1) :=
  fun _ _ e => nomatch e

theorem pipelineGate (a0 : Nat) (a1 : Nat) : Statement (.pipelineGate a0 a1) :=
  fun _ _ e => nomatch e

theorem tileLight (a0 : Nat) (a1 : Nat) : Statement (.tileLight a0 a1) :=
  fun _ _ e => nomatch e

theorem noSignal (a0 : Nat) (a1 : Nat) : Statement (.noSignal a0 a1) :=
  fun _ _ e => nomatch e

theorem signalDetect (a0 : Nat) (a1 : Nat) : Statement (.signalDetect a0 a1) :=
  fun _ _ e => nomatch e

theorem aligned (a0 : Nat) (a1 : Nat) : Statement (.aligned a0 a1) :=
  fun _ _ e => nomatch e

theorem alignmentLoss (a0 : Nat) (a1 : Nat) (a2 : Bool) : Statement (.alignmentLoss a0 a1 a2) :=
  fun _ _ e => nomatch e

theorem laneExit (a0 : Nat) (a1 : Nat) : Statement (.laneExit a0 a1) :=
  fun _ _ e => nomatch e

theorem eyeMeasure (a0 : Nat) (a1 : Nat) (a2 : Nat) (a3 : Nat) : Statement (.eyeMeasure a0 a1 a2 a3) :=
  fun _ _ e => nomatch e

theorem eyeFloor (a0 : Nat) (a1 : Nat) : Statement (.eyeFloor a0 a1) :=
  fun _ _ e => nomatch e

theorem eyeScan (a0 : Nat) (a1 : Src) (a2 : Nat) (a3 : Nat) : Statement (.eyeScan a0 a1 a2 a3) :=
  fun h _ e => Option.some.inj e ▸ (Bool.and_eq_true_iff.mp (Bool.and_eq_true_iff.mp h).1).1

theorem eyeScanDone (a0 : Nat) (a1 : List Nat) : Statement (.eyeScanDone a0 a1) :=
  fun _ _ e => nomatch e

theorem adopt (a0 : Nat) (a1 : Src) (a2 : Nat) (a3 : Nat) : Statement (.adopt a0 a1 a2 a3) :=
  fun h _ e => Option.some.inj e ▸ (Bool.and_eq_true_iff.mp (Bool.and_eq_true_iff.mp h).1).1

theorem regRead (a0 : Nat) (a1 : Src) (a2 : Nat) (a3 : Nat) : Statement (.regRead a0 a1 a2 a3) :=
  fun h _ e => Option.some.inj e ▸ (Bool.and_eq_true_iff.mp (Bool.and_eq_true_iff.mp h).1).1

theorem regWrite (a0 : Nat) (a1 : Src) (a2 : Nat) (a3 : Nat) : Statement (.regWrite a0 a1 a2 a3) :=
  fun h _ e => Option.some.inj e ▸ (Bool.and_eq_true_iff.mp (Bool.and_eq_true_iff.mp h).1).1

theorem regTimeout (a0 : Nat) (a1 : Nat) : Statement (.regTimeout a0 a1) :=
  fun _ _ e => nomatch e

theorem regResponse (a0 : Nat) (a1 : PacketHead) (a2 : Nat) (a3 : Nat) (a4 : Nat) (a5 : Bytes) : Statement (.regResponse a0 a1 a2 a3 a4 a5) :=
  fun _ _ e => nomatch e

theorem linePacket (a0 : Nat) (a1 : Nat) (a2 : Nat) (a3 : HlpHeader) (a4 : Bytes) (a5 : Bool) : Statement (.linePacket a0 a1 a2 a3 a4 a5) :=
  fun _ _ e => nomatch e

theorem cameraEvent (a0 : Nat) (a1 : PacketHead) (a2 : Bytes) : Statement (.cameraEvent a0 a1 a2) :=
  fun _ _ e => nomatch e

theorem statusPacket (a0 : Nat) (a1 : Nat) (a2 : Nat) (a3 : PacketTail) : Statement (.statusPacket a0 a1 a2 a3) :=
  fun _ _ e => nomatch e

theorem cxpImagePacket (a0 : Nat) (a1 : Nat) (a2 : CxpKind) (a3 : CxpHeader) (a4 : Bytes) : Statement (.cxpImagePacket a0 a1 a2 a3 a4) :=
  fun _ _ e => nomatch e

theorem cxpControlResponse (a0 : Nat) (a1 : Nat) (a2 : Nat) (a3 : Bytes) : Statement (.cxpControlResponse a0 a1 a2 a3) :=
  fun _ _ e => nomatch e

theorem trigAck (a0 : Nat) (a1 : Nat) : Statement (.trigAck a0 a1) :=
  fun _ _ e => nomatch e

theorem cxpHeartbeat (a0 : Nat) (a1 : Nat) (a2 : Nat) : Statement (.cxpHeartbeat a0 a1 a2) :=
  fun _ _ e => nomatch e

theorem reasmWindow (a0 : Nat) (a1 : Nat) (a2 : Nat) : Statement (.reasmWindow a0 a1 a2) :=
  fun _ _ e => nomatch e

theorem trigEnd (a0 : Nat) (a1 : Nat) : Statement (.trigEnd a0 a1) :=
  fun _ _ e => nomatch e

theorem seam (a0 : Nat) (a1 : Nat) (a2 : Nat) (a3 : Nat) (a4 : Nat) (a5 : Nat) (a6 : Bool) (a7 : Bytes) : Statement (.seam a0 a1 a2 a3 a4 a5 a6 a7) :=
  fun _ _ e => nomatch e

theorem cometPacket (a0 : Nat) (a1 : Nat) (a2 : Nat) (a3 : List LinkRecord) : Statement (.cometPacket a0 a1 a2 a3) :=
  fun _ _ e => nomatch e

theorem eventPacket (a0 : Nat) (a1 : Nat) (a2 : Nat) (a3 : List (Nat × Nat × Nat)) : Statement (.eventPacket a0 a1 a2 a3) :=
  fun _ _ e => nomatch e

theorem linkStatus (a0 : Nat) (a1 : LinkHead) (a2 : Nat) (a3 : Nat) : Statement (.linkStatus a0 a1 a2 a3) :=
  fun _ _ e => nomatch e

theorem linkStatusSend (a0 : Nat) : Statement (.linkStatusSend a0) :=
  fun _ _ e => nomatch e

theorem linkStatusTimeout (a0 : Nat) (a1 : Nat) : Statement (.linkStatusTimeout a0 a1) :=
  fun _ _ e => nomatch e

theorem seamLate (a0 : Nat) (a1 : Nat) (a2 : Nat) : Statement (.seamLate a0 a1 a2) :=
  fun _ _ e => nomatch e

theorem edgeLate (a0 : Nat) (a1 : Nat) (a2 : Nat) : Statement (.edgeLate a0 a1 a2) :=
  fun _ _ e => nomatch e

theorem countEdge (a0 : Nat) (a1 : Nat) (a2 : Nat) (a3 : EdgeLevels) : Statement (.countEdge a0 a1 a2 a3) :=
  fun _ _ e => nomatch e

theorem indexEdge (a0 : Nat) (a1 : IndexEdge) : Statement (.indexEdge a0 a1) :=
  fun _ _ e => nomatch e

theorem speedTimeout (a0 : Nat) (a1 : Nat) : Statement (.speedTimeout a0 a1) :=
  fun _ _ e => nomatch e

theorem syntheticCount (a0 : Nat) (a1 : Nat) : Statement (.syntheticCount a0 a1) :=
  fun _ _ e => nomatch e

theorem positionSet (a0 : Nat) (a1 : Src) (a2 : Nat) (a3 : Nat) : Statement (.positionSet a0 a1 a2 a3) :=
  fun h _ e => Option.some.inj e ▸ (Bool.and_eq_true_iff.mp (Bool.and_eq_true_iff.mp h).1).1

theorem pgoPulse (a0 : Nat) (a1 : Nat) : Statement (.pgoPulse a0 a1) :=
  fun _ _ e => nomatch e

theorem triggerHeldIssue (a0 : Nat) (a1 : Nat) : Statement (.triggerHeldIssue a0 a1) :=
  fun _ _ e => nomatch e

theorem frameLines (a0 : Nat) (a1 : Src) (a2 : Nat) (a3 : Nat) : Statement (.frameLines a0 a1 a2 a3) :=
  fun h _ e => Option.some.inj e ▸ (Bool.and_eq_true_iff.mp (Bool.and_eq_true_iff.mp h).1).1

theorem lineCorrection (a0 : Nat) (a1 : Nat) : Statement (.lineCorrection a0 a1) :=
  fun _ _ e => nomatch e

theorem calCaptureDark (a0 : Nat) (a1 : Src) (a2 : Nat) : Statement (.calCaptureDark a0 a1 a2) :=
  fun h _ e => Option.some.inj e ▸ (Bool.and_eq_true_iff.mp h).1

theorem calCaptureFlat (a0 : Nat) (a1 : Src) (a2 : Nat) : Statement (.calCaptureFlat a0 a1 a2) :=
  fun h _ e => Option.some.inj e ▸ (Bool.and_eq_true_iff.mp h).1

theorem calCaptureTimeout (a0 : Nat) (a1 : Nat) : Statement (.calCaptureTimeout a0 a1) :=
  fun _ _ e => nomatch e

theorem stitchLine (a0 : Nat) (a1 : Nat) (a2 : List (Nat × Nat × Bool)) : Statement (.stitchLine a0 a1 a2) :=
  fun _ _ e => nomatch e

theorem cometRelease (a0 : Nat) (a1 : Nat) : Statement (.cometRelease a0 a1) :=
  fun _ _ e => nomatch e

theorem fuseHold (a0 : Nat) (a1 : Nat) : Statement (.fuseHold a0 a1) :=
  fun _ _ e => nomatch e

theorem histClear (a0 : Nat) (a1 : Src) (a2 : Nat) (a3 : Nat) : Statement (.histClear a0 a1 a2 a3) :=
  fun h _ e => Option.some.inj e ▸ (Bool.and_eq_true_iff.mp (Bool.and_eq_true_iff.mp h).1).1

theorem build (a0 : Nat) (a1 : Src) (a2 : Nat) (a3 : Nat) : Statement (.build a0 a1 a2 a3) :=
  fun h _ e => Option.some.inj e ▸ (Bool.and_eq_true_iff.mp (Bool.and_eq_true_iff.mp h).1).1

theorem buildUnit (a0 : Nat) (a1 : Nat) (a2 : Nat) (a3 : Nat) : Statement (.buildUnit a0 a1 a2 a3) :=
  fun _ _ e => nomatch e

theorem buildTimeout (a0 : Nat) (a1 : Nat) : Statement (.buildTimeout a0 a1) :=
  fun _ _ e => nomatch e

theorem tableVerify (a0 : Nat) (a1 : ViewBank) (a2 : List (Nat × Nat)) : Statement (.tableVerify a0 a1 a2) :=
  fun _ _ e => nomatch e

theorem dispatch (a0 : Nat) : Statement (.dispatch a0) :=
  fun _ _ e => nomatch e

theorem cropFetch (a0 : Nat) (a1 : Nat) (a2 : Nat) : Statement (.cropFetch a0 a1 a2) :=
  fun _ _ e => nomatch e

theorem runEnd (a0 : Nat) (a1 : Nat) (a2 : Nat) : Statement (.runEnd a0 a1 a2) :=
  fun _ _ e => nomatch e

theorem tDecExpiry (a0 : Nat) (a1 : Nat) : Statement (.tDecExpiry a0 a1) :=
  fun _ _ e => nomatch e

theorem brickUpset (a0 : Nat) (a1 : Nat) (a2 : Nat) : Statement (.brickUpset a0 a1 a2) :=
  fun _ _ e => nomatch e

theorem sramError (a0 : Nat) (a1 : Nat) (a2 : Bool) (a3 : Nat) : Statement (.sramError a0 a1 a2 a3) :=
  fun _ _ e => nomatch e

theorem tileReset (a0 : Nat) (a1 : Nat) : Statement (.tileReset a0 a1) :=
  fun _ _ e => nomatch e

theorem regionReset (a0 : Nat) (a1 : Nat) : Statement (.regionReset a0 a1) :=
  fun _ _ e => nomatch e

theorem modelCheck (a0 : Nat) (a1 : Nat) : Statement (.modelCheck a0 a1) :=
  fun _ _ e => nomatch e

theorem norStored (a0 : Nat) (a1 : Nat) : Statement (.norStored a0 a1) :=
  fun _ _ e => nomatch e

theorem clear (a0 : Nat) (a1 : Src) (a2 : Nat) (a3 : Nat) : Statement (.clear a0 a1 a2 a3) :=
  fun h _ e => Option.some.inj e ▸ (Bool.and_eq_true_iff.mp (Bool.and_eq_true_iff.mp h).1).1

theorem tickStart (a0 : Nat) (a1 : Nat) : Statement (.tickStart a0 a1) :=
  fun _ _ e => nomatch e

theorem statusFrame (a0 : Nat) (a1 : Nat) (a2 : Bytes) : Statement (.statusFrame a0 a1 a2) :=
  fun _ _ e => nomatch e

theorem statusJudge (a0 : Nat) (a1 : Nat) : Statement (.statusJudge a0 a1) :=
  fun _ _ e => nomatch e

theorem vbPresAssert (a0 : Nat) (a1 : Nat) : Statement (.vbPresAssert a0 a1) :=
  fun _ _ e => nomatch e

theorem vbPresRelease (a0 : Nat) (a1 : Nat) : Statement (.vbPresRelease a0 a1) :=
  fun _ _ e => nomatch e

theorem busStartIdle (a0 : Nat) (a1 : Nat) : Statement (.busStartIdle a0 a1) :=
  fun _ _ e => nomatch e

theorem testEnable (a0 : Nat) (a1 : Src) (a2 : Nat) (a3 : Nat) : Statement (.testEnable a0 a1 a2 a3) :=
  fun h _ e => Option.some.inj e ▸ (Bool.and_eq_true_iff.mp (Bool.and_eq_true_iff.mp h).1).1

theorem safeNAssert (a0 : Nat) : Statement (.safeNAssert a0) :=
  fun _ _ e => nomatch e

theorem safeNRelease (a0 : Nat) : Statement (.safeNRelease a0) :=
  fun _ _ e => nomatch e

theorem timedEdge (a0 : Nat) (a1 : Nat) : Statement (.timedEdge a0 a1) :=
  fun _ _ e => nomatch e

theorem edges (a0 : Nat) (a1 : Src) (a2 : Nat) (a3 : Bytes) : Statement (.edges a0 a1 a2 a3) :=
  fun h _ e => Option.some.inj e ▸ (Bool.and_eq_true_iff.mp h).1

theorem flush (a0 : Nat) (a1 : Src) (a2 : Nat) (a3 : Nat) : Statement (.flush a0 a1 a2 a3) :=
  fun h _ e => Option.some.inj e ▸ (Bool.and_eq_true_iff.mp (Bool.and_eq_true_iff.mp h).1).1

theorem hbmRequest (a0 : Nat) (a1 : Nat) (a2 : Nat) (a3 : Nat) (a4 : Option Bytes) (a5 : HbmOutcome) : Statement (.hbmRequest a0 a1 a2 a3 a4 a5) :=
  fun _ _ e => nomatch e

theorem lineWriteDrop (a0 : Nat) (a1 : Nat) : Statement (.lineWriteDrop a0 a1) :=
  fun _ _ e => nomatch e

theorem stackTemperature (a0 : Nat) (a1 : Nat) (a2 : Int) : Statement (.stackTemperature a0 a1 a2) :=
  fun _ _ e => nomatch e

theorem refresh (a0 : Nat) (a1 : Nat) : Statement (.refresh a0 a1) :=
  fun _ _ e => nomatch e

theorem powerDown (a0 : Nat) (a1 : Nat) : Statement (.powerDown a0 a1) :=
  fun _ _ e => nomatch e

theorem patrolScrub (a0 : Nat) (a1 : Nat) (a2 : HbmOutcome) : Statement (.patrolScrub a0 a1 a2) :=
  fun _ _ e => nomatch e

theorem start (a0 : Nat) (a1 : Src) (a2 : Nat) (a3 : Nat) : Statement (.start a0 a1 a2 a3) :=
  fun h _ e => Option.some.inj e ▸ (Bool.and_eq_true_iff.mp (Bool.and_eq_true_iff.mp h).1).1

theorem stop (a0 : Nat) (a1 : Src) (a2 : Nat) (a3 : Nat) : Statement (.stop a0 a1 a2 a3) :=
  fun h _ e => Option.some.inj e ▸ (Bool.and_eq_true_iff.mp (Bool.and_eq_true_iff.mp h).1).1

theorem flightEntry (a0 : Nat) : Statement (.flightEntry a0) :=
  fun _ _ e => nomatch e

theorem descriptorFetch (a0 : Nat) (a1 : Nat) : Statement (.descriptorFetch a0 a1) :=
  fun _ _ e => nomatch e

theorem followReady (a0 : Nat) (a1 : Nat) : Statement (.followReady a0 a1) :=
  fun _ _ e => nomatch e

theorem descriptorDone (a0 : Nat) (a1 : Nat) : Statement (.descriptorDone a0 a1) :=
  fun _ _ e => nomatch e

theorem busError (a0 : Nat) (a1 : Nat) : Statement (.busError a0 a1) :=
  fun _ _ e => nomatch e

theorem codecBlock (a0 : Nat) (a1 : Bool) : Statement (.codecBlock a0 a1) :=
  fun _ _ e => nomatch e

theorem checkUnitGrant (a0 : Nat) (a1 : Nat) : Statement (.checkUnitGrant a0 a1) :=
  fun _ _ e => nomatch e

theorem eventDelivery (a0 : Nat) : Statement (.eventDelivery a0) :=
  fun _ _ e => nomatch e

theorem ethLinkUp (a0 : Nat) (a1 : Nat) : Statement (.ethLinkUp a0 a1) :=
  fun _ _ e => nomatch e

theorem ethLinkDown (a0 : Nat) (a1 : Nat) : Statement (.ethLinkDown a0 a1) :=
  fun _ _ e => nomatch e

theorem arpFrame (a0 : Nat) (a1 : Nat) (a2 : ArpKind) (a3 : Nat) (a4 : Nat) (a5 : Nat) : Statement (.arpFrame a0 a1 a2 a3 a4 a5) :=
  fun _ _ e => nomatch e

theorem icmpEcho (a0 : Nat) (a1 : Nat) (a2 : Nat) (a3 : Bytes) : Statement (.icmpEcho a0 a1 a2 a3) :=
  fun _ _ e => nomatch e

theorem arpRetry (a0 : Nat) (a1 : Nat) (a2 : Nat) : Statement (.arpRetry a0 a1 a2) :=
  fun _ _ e => nomatch e

theorem arpRefresh (a0 : Nat) (a1 : Nat) (a2 : Nat) : Statement (.arpRefresh a0 a1 a2) :=
  fun _ _ e => nomatch e

theorem arpExpiry (a0 : Nat) (a1 : Nat) (a2 : Nat) : Statement (.arpExpiry a0 a1 a2) :=
  fun _ _ e => nomatch e

theorem sync (a0 : Nat) (a1 : Nat) (a2 : Int) (a3 : PtpFields) : Statement (.sync a0 a1 a2 a3) :=
  fun _ _ e => nomatch e

theorem announce (a0 : Nat) (a1 : Nat) (a2 : AnnounceHead) (a3 : Nat) (a4 : Int) : Statement (.announce a0 a1 a2 a3 a4) :=
  fun _ _ e => nomatch e

theorem ptpMessage (a0 : Nat) (a1 : Nat) (a2 : PtpMessage) : Statement (.ptpMessage a0 a1 a2) :=
  fun _ _ e => nomatch e

theorem ptpSend (a0 : Nat) (a1 : Nat) (a2 : PtpSendKind) : Statement (.ptpSend a0 a1 a2) :=
  fun _ _ e => nomatch e

theorem syncTimeout (a0 : Nat) : Statement (.syncTimeout a0) :=
  fun _ _ e => nomatch e

theorem announceTimeout (a0 : Nat) (a1 : Nat) : Statement (.announceTimeout a0 a1) :=
  fun _ _ e => nomatch e

theorem step (a0 : Nat) (a1 : Src) (a2 : Nat) : Statement (.step a0 a1 a2) :=
  fun h _ e => Option.some.inj e ▸ (Bool.and_eq_true_iff.mp h).1

theorem stepWithdraw (a0 : Nat) : Statement (.stepWithdraw a0) :=
  fun _ _ e => nomatch e

theorem keyPress (a0 : Nat) (a1 : Nat) : Statement (.keyPress a0 a1) :=
  fun _ _ e => nomatch e

theorem keyRelease (a0 : Nat) (a1 : Nat) : Statement (.keyRelease a0 a1) :=
  fun _ _ e => nomatch e

theorem longPress (a0 : Nat) (a1 : Nat) : Statement (.longPress a0 a1) :=
  fun _ _ e => nomatch e

theorem touchScan (a0 : Nat) (a1 : List Nat) : Statement (.touchScan a0 a1) :=
  fun _ _ e => nomatch e

theorem touchStuck (a0 : Nat) (a1 : Nat) : Statement (.touchStuck a0 a1) :=
  fun _ _ e => nomatch e

theorem lampBlink (a0 : Nat) (a1 : Nat) : Statement (.lampBlink a0 a1) :=
  fun _ _ e => nomatch e

theorem campwrFlt (a0 : Nat) (a1 : Nat) : Statement (.campwrFlt a0 a1) :=
  fun _ _ e => nomatch e

theorem pwrRetry (a0 : Nat) (a1 : Nat) : Statement (.pwrRetry a0 a1) :=
  fun _ _ e => nomatch e

theorem pwrStagger (a0 : Nat) : Statement (.pwrStagger a0) :=
  fun _ _ e => nomatch e

theorem pwrEnable (a0 : Nat) (a1 : Src) (a2 : Nat) (a3 : Nat) : Statement (.pwrEnable a0 a1 a2 a3) :=
  fun h _ e => Option.some.inj e ▸ (Bool.and_eq_true_iff.mp (Bool.and_eq_true_iff.mp h).1).1

theorem pwrReset (a0 : Nat) (a1 : Src) (a2 : Nat) (a3 : Nat) : Statement (.pwrReset a0 a1 a2 a3) :=
  fun h _ e => Option.some.inj e ▸ (Bool.and_eq_true_iff.mp (Bool.and_eq_true_iff.mp h).1).1

theorem clearRetirements (a0 : Nat) (a1 : Src) (a2 : Nat) : Statement (.clearRetirements a0 a1 a2) :=
  fun h _ e => Option.some.inj e ▸ (Bool.and_eq_true_iff.mp h).1

theorem preferred (a0 : Nat) (a1 : Src) (a2 : Nat) : Statement (.preferred a0 a1 a2) :=
  fun h _ e => Option.some.inj e ▸ (Bool.and_eq_true_iff.mp h).1

theorem fwProgrammed (a0 : Nat) (a1 : Nat) : Statement (.fwProgrammed a0 a1) :=
  fun _ _ e => nomatch e

theorem dieBridgeFailure (a0 : Nat) : Statement (.dieBridgeFailure a0) :=
  fun _ _ e => nomatch e

theorem watchdog (a0 : Nat) : Statement (.watchdog a0) :=
  fun _ _ e => nomatch e

theorem dmaParityError (a0 : Nat) (a1 : Nat) : Statement (.dmaParityError a0 a1) :=
  fun _ _ e => nomatch e

theorem eventChannelParityError (a0 : Nat) (a1 : Nat) : Statement (.eventChannelParityError a0 a1) :=
  fun _ _ e => nomatch e

theorem rxDropped (a0 : Nat) (a1 : RxPacket) : Statement (.rxDropped a0 a1) :=
  fun _ _ e => nomatch e

end Sys2Proof.Laws.Origin
end

