-- ==== Sys2Proof/Laws/Settle.lean ====
section
/-! SUPPORT. What the settling after every command can do, said once: `Settled a t` says that `t` is `a` but for what
settling moves. The statements' proofs cite it in place of unfolding the settling. -/

namespace Sys2Proof.Machine

/-- A list keeps what a change of one element keeps of it. -/
theorem map_modify {α β : Type} (g : α → β) {f : α → α} (h : ∀ x, g (f x) = g x) (l : List α) (n : Nat) :
    (l.modify n f).map g = l.map g := by
  induction l generalizing n with
  | nil => simp
  | cons x r ih =>
    cases n with
    | zero => simp only [List.modify_zero_cons, List.map_cons, h]
    | succ n => simp only [List.modify_succ_cons, List.map_cons, ih]

namespace Settled

/-- Where nothing but blanked fields moves. -/
theorem of_same {a t : State} (h : t.unsettled = a.unsettled) (o : t.out = a.out) (r : t.fabric.raised = a.fabric.raised)
    (d : t.dict.inForce = a.dict.inForce) (x : t.tiles = a.tiles) (e : t.eths = a.eths) : Settled a t :=
  ⟨h, ⟨[], by rw [o, List.append_nil]⟩, ⟨[], by rw [r, List.append_nil]⟩, fun _ _ => by rw [d],
    fun bit k => by rw [show t.num Obj.alAlerts = a.num Obj.alAlerts by
      have p : t.unsettled.ctl.part = a.unsettled.ctl.part := by rw [h]
      have q : t.unsettled.pins.id = a.unsettled.pins.id := by rw [h]
      simp only [State.num, State.val, State.valIn, State.dfltOf, d]
      rw [show t.ctl.part = a.ctl.part from p, show t.pins.id = a.pins.id from q]]; exact k,
    fun _ _ _ => by unfold State.tile; rw [x], fun _ _ f _ => Or.inl (by unfold State.eth; rw [e]; exact f)⟩

theorem refl (a : State) : Settled a a := of_same rfl rfl rfl rfl rfl rfl

theorem trans {a b c : State} (h : Settled a b) (k : Settled b c) : Settled a c := by
  obtain ⟨l, hl⟩ := h.out
  obtain ⟨m, hm⟩ := k.out
  obtain ⟨p, hp⟩ := h.raised
  obtain ⟨q, hq⟩ := k.raised
  exact ⟨k.same.trans h.same, ⟨l ++ m, by simp [hm, hl]⟩, ⟨p ++ q, by simp [hq, hp]⟩,
    fun key e => (k.get key e).trans (h.get key e), fun bit e => k.alerts bit (h.alerts bit e),
    fun t b e => by rw [k.jobs t b (by rw [h.jobs t b e]; exact e), h.jobs t b e], fun e f q z => (h.frames e f q z).elim (fun i => k.frames e f i z) (fun i => Or.inr (by
      rw [hm]; exact List.mem_append_left _ i))⟩

theorem fold {α : Type} {f : State → α → State} (h : ∀ s x, Settled s (f s x)) (l : List α) (s : State) :
    Settled s (l.foldl f s) := by
  induction l generalizing s with
  | nil => exact refl s
  | cons x r ih => exact (h s x).trans (ih (f s x))

theorem ite {p : Prop} [Decidable p] {s a b : State} (ha : Settled s a) (hb : Settled s b) : Settled s (if p then a else b) := by
  split <;> assumption

/-! ### The shared operations -/

theorem putVal (s : State) {key : Nat} (v : Val) (h : ownStatus key = true ∧ key ≠ Obj.alAlerts) :
    Settled s (s.putVal key v) := by
  refine ⟨rfl, ⟨[], (List.append_nil _).symm⟩, ⟨[], (List.append_nil _).symm⟩, fun k e => Kv.get?_put_other _ _ (by
    rintro rfl; simp [h.1] at e), fun bit e => ?_, fun _ _ _ => rfl, fun _ _ q _ => Or.inl q⟩
  have k : (s.putVal key v).num Obj.alAlerts = s.num Obj.alAlerts := by
    unfold State.num State.val State.valIn
    rw [show Kv.get? (s.putVal key v).dict.inForce Obj.alAlerts = Kv.get? s.dict.inForce Obj.alAlerts from
      Kv.get?_put_other _ _ (Ne.symm h.2)]
    rfl
  rw [k]
  exact e

theorem putNum (s : State) {key : Nat} (v : Nat) (h : ownStatus key = true ∧ key ≠ Obj.alAlerts) :
    Settled s (s.putNum key v) := putVal s _ h
theorem bump (s : State) {key : Nat} (h : ownStatus key = true ∧ key ≠ Obj.alAlerts) : Settled s (s.bump key) :=
  putNum s _ h
theorem bumpIf (s : State) (c : Bool) {key : Nat} (h : ownStatus key = true ∧ key ≠ Obj.alAlerts) :
    Settled s (s.bumpIf c key) := by
  unfold State.bumpIf
  exact ite (bump s h) (refl s)
theorem orFlags (s : State) {key : Nat} (b : Nat) (h : ownStatus key = true ∧ key ≠ Obj.alAlerts) :
    Settled s (s.orFlags key b) := putNum s _ h

theorem orAlerts (s : State) (b : Nat) : Settled s (s.orFlags Obj.alAlerts b) := by
  refine ⟨rfl, ⟨[], (List.append_nil _).symm⟩, ⟨[], (List.append_nil _).symm⟩, fun k e => Kv.get?_put_other _ _ (by
    rintro rfl; exact absurd e (by decide)), fun bit e => ?_, fun _ _ _ => rfl, fun _ _ q _ => Or.inl q⟩
  have k : (s.orFlags Obj.alAlerts b).num Obj.alAlerts = s.num Obj.alAlerts ||| b := by
    show (Val.toNat ((Kv.get? (Kv.put s.dict.inForce Obj.alAlerts _) Obj.alAlerts).getD _)) = _
    rw [Kv.get?_put_same]
    rfl
  rw [k]
  unfold bitOf at *
  rw [Nat.testBit_or, e]
  rfl

theorem emit (s : State) (e : Emission) : Settled s (s.emit e) := 
  ⟨rfl, ⟨[e], rfl⟩, ⟨[], (List.append_nil _).symm⟩, fun _ _ => rfl, fun _ h => h, fun _ _ _ => rfl, fun _ _ q _ => Or.inl q⟩

theorem raise (s : State) (east : Bool) (source data : Nat) : Settled s (s.raise east source data) := by
  unfold State.raise
  exact ite ⟨rfl, ⟨[], (List.append_nil _).symm⟩, ⟨_, rfl⟩, fun _ _ => rfl, fun _ h => h, fun _ _ _ => rfl, fun _ _ q _ => Or.inl q⟩ (refl s)

theorem ibi (s : State) (bit : Nat) : Settled s (s.ibi bit) := by
  unfold State.ibi
  exact ite (of_same rfl rfl rfl rfl rfl rfl) (refl s)

theorem notified_blank (bit : Nat) (x : Session) :
    { (Session.notified_ bit x) with notified := 0 } = { x with notified := 0 } := by
  unfold Session.notified_
  split <;> rfl

/-- A port after the change of one. -/
theorem eth_modEth (s : State) (p e : Nat) (f : Eth → Eth) : (s.modEth p f).eth e = s.eth e ∨ (s.modEth p f).eth e = f (s.eth e) := by
  unfold State.modEth State.eth
  simp only [List.getD_eq_getElem?_getD, List.getElem?_modify]
  cases h : s.eths[e]? with
  | none => simp
  | some x => by_cases k : p = e <;> simp [k]

theorem eth_modEth_other (s : State) {p e : Nat} {f : Eth → Eth} (h : e ≠ p) : (s.modEth p f).eth e = s.eth e := by
  unfold State.modEth State.eth
  simp only [List.getD_eq_getElem?_getD, List.getElem?_modify, if_neg (Ne.symm h)]
  simp

theorem ownStatus_tx (e : Nat) (h : e < 2) :
    ownStatus (Obj.ethFramesTx e) = true ∧ Obj.ethFramesTx e ≠ Obj.alAlerts := by
  match e, h with
  | 0, _ => exact ⟨rfl, by decide⟩
  | 1, _ => exact ⟨rfl, by decide⟩

/-- A change of one Ethernet port that keeps what waits there. -/
theorem modEth (s : State) (p : Nat) (f : Eth → Eth) (h : ∀ x, (f x).unsettled = x.unsettled)
    (q : ∀ x (m : TxFrame), m ∈ x.queue → m ∈ (f x).queue) : Settled s (s.modEth p f) := by
  refine ⟨?_, ⟨[], (List.append_nil _).symm⟩, ⟨[], (List.append_nil _).symm⟩, fun _ _ => rfl, fun _ h => h, fun _ _ _ => rfl,
    fun e m k _ => Or.inl ?_⟩
  · simp only [State.unsettled, State.modEth, map_modify Eth.unsettled h]
  · rcases eth_modEth s p e f with i | i <;> rw [i]
    · exact k
    · exact q _ _ k

theorem send (s : State) (p prio line hsp : Nat) (m : Emission) : Settled s (s.send p prio line hsp m) := by
  unfold State.send
  exact ite (modEth s p _ (fun _ => rfl) (fun _ _ k => List.mem_append_left _ k)) (refl s)

theorem notify (s : State) (bit : Nat) : Settled s (s.notify bit) := by
  unfold State.notify
  refine trans (b := { s with ctl := { s.ctl with sessions := s.ctl.sessions.map (Session.notified_ bit) } })
    (of_same ?_ rfl rfl rfl rfl rfl) (fold (fun a x => fold (fun c _ => send c _ _ _ _ _) _ a) _ _)
  simp only [State.unsettled, List.map_map]
  congr 2
  exact List.map_congr_left (fun x _ => notified_blank bit x)

theorem event (s : State) (bit : Nat) : Settled s (s.event bit) := (ibi s bit).trans (notify _ bit)

theorem alertPinFrom (s : State) (b : Bool) : Settled s (s.alertPinFrom b) := by
  unfold State.alertPinFrom
  exact ite (refl s) (emit s _)

theorem ownStatus_alert (bit : Nat) (h : bit < 255) :
    ownStatus (objKey 0x1311 (bit + 1)) = true ∧ objKey 0x1311 (bit + 1) ≠ Obj.alAlerts := by
  have : objKey 0x1311 (bit + 1) / 256 = 0x1311 := by simp [objKey]; omega
  refine ⟨by simp [ownStatus, this], fun e => ?_⟩
  rw [e] at this
  exact absurd this (by decide)

theorem alert (s : State) (bit : Nat) (h : bit < 255) : Settled s (s.alert bit) := by
  unfold State.alert
  exact ite (refl s) ((((((orAlerts s _).trans (bump _ (ownStatus_alert bit h))).trans (event _ _)).trans
    (alertPinFrom _ _)).trans (raise _ _ _ _)))

theorem modView (s : State) (v : Nat) (f : View → View) (h : ∀ w, (f w).unsettled = w.unsettled) :
    Settled s (s.modView v f) := by
  exact of_same (by simp only [State.unsettled, State.modView, map_modify View.unsettled h]) rfl rfl rfl rfl rfl

theorem modPower (s : State) (f : PowerSys → PowerSys) (h : ∀ p, (f p).unsettled = p.unsettled) : Settled s (s.modPower f) := by
  exact of_same (by simp only [State.unsettled, State.modPower, h]) rfl rfl rfl rfl rfl

theorem channels (s : State) (f : List Dma → List Dma) :
    Settled s (s.modEngine (fun e => { e with channels := f e.channels })) :=
  of_same rfl rfl rfl rfl rfl rfl

theorem powerLane (s : State) (n : Nat) : Settled s (s.powerLane n) :=
  of_same rfl rfl rfl rfl rfl rfl

theorem powerLanes (s : State) : Settled s s.powerLanes := fold powerLane _ s

/-! ### The settling's own steps -/

theorem job_setJob (s : State) (t b : Nat) (j : BrickJob) (k c : Nat) (h : k ≠ t ∨ c ≠ b) :
    ((s.setJob t b j).tile k).job c = (s.tile k).job c := by
  unfold State.setJob State.modTile State.tile
  simp only [List.getD_eq_getElem?_getD, List.getElem?_modify]
  by_cases e : t = k
  · subst e
    have hc : b ≠ c := by rintro rfl; simp at h
    cases hx : s.tiles[t]? with
    | none => simp
    | some x =>
      simp only [if_true, Option.map_eq_map, Option.map_some, Option.getD_some]
      split <;> simp [Tile.job, hc]
  · simp [e]

theorem setJob (s : State) (t b : Nat) (j : BrickJob) (h : (s.tile t).job b = .idle) : Settled s (s.setJob t b j) := by
  refine ⟨?_, ⟨[], (List.append_nil _).symm⟩, ⟨[], (List.append_nil _).symm⟩, fun _ _ => rfl, fun _ h => h, fun k c e => ?_,
    fun _ _ q _ => Or.inl q⟩
  · simp only [State.unsettled, State.setJob, State.modTile]
    rw [map_modify Tile.unsettled]
    intro x
    unfold Tile.unsettled
    split <;> rfl
  · refine job_setJob s t b j k c ?_
    by_cases ht : k = t
    · right
      rintro rfl
      subst ht
      exact e h
    · exact Or.inl ht

theorem giveUnit (s : State) (t b : Nat) : Settled s (s.giveUnit t b) := by
  unfold State.giveUnit
  split
  · rename_i idle
    split
    · exact refl s
    · split
      · refine (modView s _ _ ?_).trans (setJob _ _ _ _ idle.1)
        intro w
        cases hb : w.build <;> simp [View.unsettled, hb]
      · exact refl s
  · exact refl s

theorem giveUnits (s : State) : Settled s s.giveUnits := by
  unfold State.giveUnits
  exact ite (refl s) (fold (fun a t => fold (fun c b => giveUnit c t b) _ a) _ s)

theorem ownStatus_block {key : Nat} (h9 : key % 256 ≠ 9) (hb : key % 256 ≠ 11)
    (e : key / 256 = 0x4021 ∨ key / 256 = 0x4121 ∨ key / 256 = 0x4221 ∨ key / 256 = 0x4321) : ownStatus key = true := by
  unfold ownStatus
  rcases e with e | e | e | e <;> simp [e, h9, hb]

theorem ownStatus_view (v sub : Nat) (hv : v < 4) (h : sub < 256) (h9 : sub ≠ 9) (hb : sub ≠ 11) :
    ownStatus (objKey (0x4021 + 256 * v) sub) = true ∧ objKey (0x4021 + 256 * v) sub ≠ Obj.alAlerts := by
  have e : objKey (0x4021 + 256 * v) sub / 256 = 0x4021 + 256 * v := by simp [objKey]; omega
  have m : objKey (0x4021 + 256 * v) sub % 256 = sub := by simp [objKey]; omega
  refine ⟨?_, fun k => ?_⟩
  · exact ownStatus_block (by omega) (by omega) (by omega)
  · rw [k] at e
    have : Obj.alAlerts / 256 = 0x1310 := by decide
    omega

theorem markWaits (s : State) : Settled s s.markWaits :=
  fold (fun a v => ite (modView a v _ (by intro _; rfl)) (refl a)) _ s

theorem lapse (s : State) (bit : Nat) : Settled s (s.lapse bit) :=
  (((putNum s _ ⟨rfl, by decide⟩).trans (orFlags _ _ ⟨rfl, by decide⟩)).trans (bump _ ⟨rfl, by decide⟩)).trans (alert _ _ (by decide))

theorem lapseEvent (s : State) (bit : Nat) : Settled s (s.lapseEvent bit) :=
  (ite (p := bitOf s.power.lapsed bit = true) (refl s) (lapse s bit)).trans
    (modPower _ (fun p => { p with lapsed := setBit p.lapsed bit, allHeldSince := some s.clk }) (by intro _; rfl))

theorem enqueueComet (s : State) (v : Nat) (hv : v < 4) (c : Comet) : Settled s (s.enqueueComet v c) := by
  unfold State.enqueueComet
  exact ite (((bump s (ownStatus_view v _ hv (by omega) (by omega) (by omega))).trans (orFlags _ _ (ownStatus_view v _ hv (by omega) (by omega) (by omega)))).trans
    (alert _ _ (by decide)) |>.trans (lapseEvent _ _)) ((modView s _ _ (by intro _; rfl)).trans (markWaits _))

theorem closeBlob (s : State) (v : Nat) (hv : v < 4) (b : Blob) : Settled s (s.closeBlob v b) := by
  unfold State.closeBlob
  refine ite (bump s (ownStatus_view v _ hv (by omega) (by omega) (by omega))) ?_
  exact ((bump s (ownStatus_view v _ hv (by omega) (by omega) (by omega))).trans (bumpIf _ _ (ownStatus_view v _ hv (by omega) (by omega) (by omega)))).trans
    (enqueueComet _ v hv _)

theorem modLane (s : State) (n : Nat) (f : Lane → Lane) : Settled s (s.modLane n f) := of_same rfl rfl rfl rfl rfl rfl

theorem sendLink (s : State) (n kind flags index offset byte12 : Nat) (b : Bytes) :
    Settled s (s.sendLink n kind flags index offset byte12 b) := by
  unfold State.sendLink
  exact ite (modLane s _ _) (refl s)

theorem endBlob (s : State) (v : Nat) (hv : v < 4) (b : Blob) : Settled s (s.endBlob v b) := by
  unfold State.endBlob
  exact ite (fold (fun a _ => sendLink a _ _ _ _ _ _ _) _ s) (closeBlob s v hv b)

theorem forceClose (s : State) (v : Nat) (hv : v < 4) (flags : Nat) (which : Blob → Bool) : Settled s (s.forceClose v flags which) := by
  unfold State.forceClose
  exact (modView s v _ (by intro _; rfl)).trans
    (fold (fun a _ => (bump a (ownStatus_view v 0x0C hv (by omega) (by omega) (by omega))).trans (endBlob _ v hv _)) _ _)

theorem closeFinished (s : State) (v : Nat) (hv : v < 4) : Settled s (s.closeFinished v) := by
  unfold State.closeFinished
  exact (modView s v _ (by intro _; rfl)).trans (fold (fun a _ => endBlob a v hv _) _ _)

theorem seamLost (s : State) (v : Nat) (hv : v < 4) : Settled s (s.seamLost v) := by
  unfold State.seamLost
  exact (((forceClose s v hv _ _).trans (putNum _ _ ⟨rfl, by decide⟩)).trans (modView _ v _ (by intro _; rfl))).trans
    (closeFinished _ v hv)

theorem segEpochOf (s : State) (v : Nat) (hv : v < 4) (epoch : Nat) : Settled s (s.segEpochOf v epoch) := by
  unfold State.segEpochOf
  exact (ite ((forceClose s v hv _ _).trans (modView _ v _ (by intro _; rfl))) (refl s)).trans (modView _ v _ (by intro _; rfl))

theorem closePortless (s : State) (v : Nat) (hv : v < 4) : Settled s (s.closePortless v) := by
  unfold State.closePortless
  exact ite (segEpochOf s v hv _) (refl s)

theorem foldMem {α : Type} {f : State → α → State} (l : List α) (h : ∀ s x, x ∈ l → Settled s (f s x)) (s : State) :
    Settled s (l.foldl f s) := by
  induction l generalizing s with
  | nil => exact refl s
  | cons x r ih =>
    exact (h s x (List.mem_cons_self ..)).trans (ih (fun a y hy => h a y (List.mem_cons_of_mem _ hy)) (f s x))

theorem seamsReviewed (s : State) : Settled s s.seamsReviewed :=
  foldMem _ (fun a v h =>
    (closePortless a v (List.mem_range.mp h)).trans (ite (seamLost _ v (List.mem_range.mp h)) (refl _))) s

theorem reviewViews (s : State) : Settled s s.reviewViews :=
  foldMem _ (fun a _ _ => ite ((modView a _ _ (by intro _; rfl)).trans (alert _ _ (by decide))) (modView a _ _ (by intro _; rfl))) s

theorem reviewCapacity (s before : State) : Settled s (s.reviewCapacity before) := by
  unfold State.reviewCapacity
  exact ite ((orFlags s _ ⟨rfl, by decide⟩).trans (alert _ _ (by decide))) (refl s)

theorem reviewGuarantee (s : State) : Settled s s.reviewGuarantee := by
  unfold State.reviewGuarantee
  refine trans (fold (fun a b => ite (lapse a b) (refl a)) _ s) (modPower _ _ ?_)
  intro p
  rfl

theorem enterPower (s : State) (t : Power) : Settled s (s.enterPower t) := by
  unfold State.enterPower
  split
  · exact ((modPower s _ (by intro _; rfl)).trans (bump _ ⟨rfl, by decide⟩)).trans (powerLanes _)
  · exact modPower s _ (by intro _; rfl)
  · exact refl s

theorem parkFor (s : State) (t : Power) : Settled s (s.parkFor t) := by
  unfold State.parkFor
  split
  · exact channels s _
  · exact refl s

theorem dmaDefer (s : State) : Settled s s.dmaDefer := by
  unfold State.dmaDefer
  exact bumpIf s _ ⟨rfl, by decide⟩

theorem stepDown (s : State) : Settled s s.stepDown := by
  unfold State.stepDown
  split
  · exact modPower s _ (fun p => by split <;> rfl)
  · refine ite (refl s) (ite (ite (parkFor s _) ?_) ((parkFor s _).trans (enterPower _ _)))
    exact (((bump s ⟨rfl, by decide⟩).trans (dmaDefer _)).trans (parkFor _ _)).trans (modPower _ _ (by intro _; rfl))

theorem retestStep (s : State) : Settled s s.retestStep := ite (stepDown s) (refl s)

theorem pruneSets (s : State) : Settled s s.pruneSets := of_same rfl rfl rfl rfl rfl rfl

theorem lampReview (s : State) : Settled s s.lampReview := 
  ⟨rfl, ⟨_, rfl⟩, ⟨[], (List.append_nil _).symm⟩, fun _ _ => rfl, fun _ h => h, fun _ _ _ => rfl, fun _ _ q _ => Or.inl q⟩

/-! ### Frames that leave -/

/-- The frame that leaves next was waiting, and the others wait on. -/
theorem next_spec {x : Eth} {clk start : Nat} {f : TxFrame} {rest : List TxFrame} (h : x.next clk = some (start, f, rest)) :
    rest = x.queue.erase f := by
  unfold Eth.next at h
  split at h
  · cases h
  · dsimp only at h
    split at h
    · cases h
    · obtain ⟨g, -, k⟩ := Option.map_eq_some_iff.mp h
      cases k
      rfl

theorem tx (s : State) (p : Nat) (m : Emission) : Settled s (s.tx p m) := send s _ _ _ _ _

theorem ptpLeaves (s : State) (p kind : Nat) (time : Option Int) (c stamp : Int) (head : PtpHead) :
    Settled s (s.ptpLeaves p kind time c stamp head) := by
  have m : ∀ (z : State) (f : Eth → Eth), (∀ x, (f x).unsettled = x.unsettled) → (∀ x, (f x).queue = x.queue) →
      Settled z (z.modEth p f) := fun z f h q => modEth z p f h (fun x n k => by rw [q x]; exact k)
  unfold State.ptpLeaves
  refine ite (ite ((emit s _).trans (tx _ _ _)) (emit s _)) (ite (ite ((emit s _).trans (tx _ _ _)) (emit s _)) ?_)
  exact ite ((emit s _).trans (m _ _ (fun _ => rfl) (fun _ => rfl))) ((emit s _).trans (m _ _ (fun _ => rfl) (fun _ => rfl)))

/-- The frame that leaves a port is taken from what waits there. -/
theorem frameTaken (s : State) (p : Nat) (g : Eth → Eth) (f : TxFrame) (hp : p < 2) {z : State}
    (hu : ∀ x, (g x).unsettled = x.unsettled) (hq : (g (s.eth p)).queue = (s.eth p).queue.erase f)
    (k : Settled ((s.modEth p g).bump (Obj.ethFramesTx p)) z) (o : f.what.isEvent = false → f.what ∈ z.out) : Settled s z := by
  have k := (bump (s.modEth p g) (ownStatus_tx p hp)).trans k
  refine ⟨k.same.trans ?_, k.out, k.raised, k.get, k.alerts, k.jobs, fun e h q w => ?_⟩
  · simp only [State.unsettled, State.modEth, map_modify Eth.unsettled hu]
  · by_cases hg : h = f
    · subst hg
      exact Or.inr (o w)
    · refine k.frames e h ?_ w
      by_cases he : e = p
      · subst he
        rcases eth_modEth s e e g with i | i <;> rw [i]
        · exact q
        · rw [hq]
          exact (List.mem_erase_of_ne hg).mpr q
      · rw [eth_modEth_other s he]
        exact q

/-- One frame leaves a port: it has left the module, and the others wait on. -/
theorem frameLeaves (s : State) (p : Nat) (g : Eth → Eth) (f : TxFrame) (stamp : Int)
    (hu : ∀ x, (g x).unsettled = x.unsettled) (hq : (g (s.eth p)).queue = (s.eth p).queue.erase f) (hp : p < 2) :
    Settled s (match f.what with
      | .ptp _ kind time correction _ head =>
        if kind < 4 then ((s.modEth p g).bump (Obj.ethFramesTx p)).ptpLeaves p kind time correction stamp head
        else ((s.modEth p g).bump (Obj.ethFramesTx p)).emit f.what
      | e => ((s.modEth p g).bump (Obj.ethFramesTx p)).emit e) := by
  split
  · rename_i e
    split
    · rename_i hk
      exact frameTaken s p g f hp hu hq (ptpLeaves _ _ _ _ _ _ _) (fun w => by
        rw [e] at w; simp only [Emission.isEvent, hk, decide_true] at w; cases w)
    · exact frameTaken s p g f hp hu hq (emit _ _) (fun _ => List.mem_append_right _ (List.mem_singleton_self _))
  · exact frameTaken s p g f hp hu hq (emit _ _) (fun _ => List.mem_append_right _ (List.mem_singleton_self _))

theorem ethDrainN (s : State) (p : Nat) (hp : p < 2) (n : Nat) : Settled s (s.ethDrainN p n) := by
  induction n generalizing s with
  | zero => exact refl s
  | succ n ih =>
    unfold State.ethDrainN
    split
    · exact refl s
    · rename_i h
      exact (frameLeaves s p (fun x => { x with
        queue := _, lineFree := _, underWay := _, txHead := (x.txHead + _) % txQueueBytes }) _ _ (fun _ => rfl) (next_spec h) hp).trans (ih _)

theorem ethDrain (s : State) (p : Nat) (hp : p < 2) : Settled s (s.ethDrain p) := by
  unfold State.ethDrain
  exact ite (ethDrainN s p hp _) (ite (refl s) (modEth s p _ (fun _ => rfl) (fun _ _ k => k)))

theorem linkDrainN (s : State) (n k : Nat) : Settled s (s.linkDrainN n k) := by
  induction k generalizing s with
  | zero => exact refl s
  | succ k ih =>
    unfold State.linkDrainN
    refine ite (refl s) ?_
    split
    · exact refl s
    · exact ((modLane s _ _).trans (emit _ _)).trans (ih _)

theorem linkDrain (s : State) (n : Nat) : Settled s (s.linkDrain n) :=
  ite (linkDrainN s n _) (ite (refl s) (modLane s _ _))

theorem drained (s : State) : Settled s s.drained :=
  ((fold linkDrain _ s).trans (ethDrain _ 0 (by decide))).trans (ethDrain _ 1 (by decide))

/-- What the settling of a command leaves. -/
theorem settle (s before : State) : Settled s (s.settle before) := by
  unfold State.settle
  have h1 : Settled s (if s.unitsRun then s.giveUnits.seamsReviewed else s) :=
    ite ((giveUnits s).trans (seamsReviewed _)) (refl s)
  refine (ite ((h1.trans ?_).trans (lampReview _)) (h1.trans ?_)).trans (drained _)
  all_goals exact ite (((((reviewViews _).trans (reviewCapacity _ _)).trans (reviewGuarantee _)).trans (retestStep _)).trans
    (pruneSets _)) (refl _)

/-- The clock and the queue are none of the settling's. -/
theorem retimed {a t : State} (h : Settled a t) (c : Nat) (p : List Instr) : Settled a { t with clk := c, pending := p } :=
  ⟨h.same, h.out, h.raised, h.get, h.alerts, h.jobs, h.frames⟩

end Settled

/-! ## What the settling never moves -/

/-- `g` reads no part of the state that the settling moves, a power step that waits aside. -/
structure Quiet {α : Type} (g : State → α) : Prop where
  dict : ∀ s x, g { s with dict := x } = g s
  out : ∀ s x, g { s with out := x } = g s
  ctl : ∀ s x, g { s with ctl := x } = g s
  views : ∀ s x, g { s with views := x } = g s
  tiles : ∀ s x, g { s with tiles := x } = g s
  eths : ∀ s x, g { s with eths := x } = g s
  fabric : ∀ s x, g { s with fabric := x } = g s
  pins : ∀ s x, g { s with pins := x } = g s
  sent : ∀ s n (x l : Lane → Nat) (q : Lane → List LinkTx),
    g (s.modLane n (fun y => { y with sent := x y, waiting := q y, linkFree := l y })) = g s
  watch : ∀ s x y, g { s with power := { s.power with lapsed := x, allHeldSince := y } } = g s

namespace Quiet

variable {α : Type} {g : State → α}

theorem fold {β : Type} {f : State → β → State} (h : ∀ s x, g (f s x) = g s) (l : List β) (s : State) : g (l.foldl f s) = g s := by
  induction l generalizing s with
  | nil => rfl
  | cons x r ih => exact (ih (f s x)).trans (h s x)

theorem ite {p : Prop} [Decidable p] {s a b : State} (ha : g a = g s) (hb : g b = g s) : g (if p then a else b) = g s := by
  split <;> assumption

variable (k : Quiet g)
include k

theorem putNum (s : State) (key n : Nat) : g (s.putNum key n) = g s := k.dict s _
theorem emit (s : State) (e : Emission) : g (s.emit e) = g s := k.out s _
theorem modView (s : State) (v : Nat) (f : View → View) : g (s.modView v f) = g s := k.views s _
theorem modEth (s : State) (p : Nat) (f : Eth → Eth) : g (s.modEth p f) = g s := k.eths s _
theorem bumpIf (s : State) (c : Bool) (key : Nat) : g (s.bumpIf c key) = g s := ite (k.putNum s _ _) rfl
theorem send (s : State) (p a b c : Nat) (m : Emission) : g (s.send p a b c m) = g s := ite (k.modEth s _ _) rfl

theorem event (s : State) (bit : Nat) : g (s.event bit) = g s := by
  unfold State.event State.notify
  refine (fold (fun a x => fold (fun c _ => k.send c _ _ _ _ _) _ a) _ _).trans ((k.ctl _ _).trans ?_)
  exact ite (k.ctl s _) rfl

theorem alert (s : State) (bit : Nat) : g (s.alert bit) = g s := by
  have h : ∀ z b, g (State.alertPinFrom z b) = g z := fun z b => ite rfl (k.emit z _)
  have r : ∀ z, g (State.raise z false 0x092 0) = g z := fun z => ite (k.fabric z _) rfl
  unfold State.alert
  exact ite rfl ((r _).trans ((h _ _).trans ((k.event _ _).trans ((k.putNum _ _ _).trans (k.putNum s _ _)))))

theorem giveUnits (s : State) : g s.giveUnits = g s := by
  have h : ∀ a t b, g (State.giveUnit a t b) = g a := by
    intro a t b
    unfold State.giveUnit
    split
    · split
      · rfl
      · split
        · exact (k.tiles _ _).trans (k.views a _)
        · rfl
    · rfl
  exact ite rfl (fold (fun a t => fold (fun c b => h c t b) _ a) _ s)

theorem lapse (s : State) (bit : Nat) : g (s.lapse bit) = g s :=
  (k.alert _ _).trans ((k.putNum _ _ _).trans ((k.putNum _ _ _).trans (k.putNum s _ _)))

theorem lapseEvent (s : State) (bit : Nat) : g (s.lapseEvent bit) = g s :=
  (k.watch _ _ _).trans (ite (s := s) rfl (k.lapse s bit))

theorem endBlob (s : State) (v : Nat) (b : Blob) : g (s.endBlob v b) = g s := by
  have w : ∀ z, g (State.markWaits z) = g z := fun z => fold (fun a v => ite (k.modView a v _) rfl) _ z
  have q : ∀ z c, g (State.enqueueComet z v c) = g z := fun z c =>
    ite ((k.lapseEvent _ _).trans ((k.alert _ _).trans ((k.putNum _ _ _).trans (k.putNum z _ _)))) ((w _).trans (k.modView z v _))
  have l : ∀ z n a b c d e f, g (State.sendLink z n a b c d e f) = g z := fun z n a b c d e f =>
    ite (k.sent z n (fun y => y.sent) (fun y => y.linkFree) _) rfl
  refine ite (fold (fun a _ => l a _ _ _ _ _ _ _) _ s) ?_
  exact ite (k.putNum s _ _) ((q _ _).trans ((k.bumpIf _ _ _).trans (k.putNum s _ _)))

theorem forceClose (s : State) (v flags : Nat) (which : Blob → Bool) : g (s.forceClose v flags which) = g s :=
  (fold (fun a _ => (k.endBlob _ v _).trans (k.putNum a _ _)) _ _).trans (k.modView s v _)

theorem seamLost (s : State) (v : Nat) : g (s.seamLost v) = g s := by
  have f : ∀ z, g (State.closeFinished z v) = g z := fun z =>
    (fold (fun a _ => k.endBlob a v _) _ _).trans (k.modView z v _)
  exact (f _).trans ((k.modView _ v _).trans ((k.putNum _ _ _).trans (k.forceClose s v _ _)))

theorem closePortless (s : State) (v : Nat) : g (s.closePortless v) = g s := by
  unfold State.closePortless State.segEpochOf
  exact ite ((k.modView _ v _).trans (ite (s := s) ((k.modView _ v _).trans (k.forceClose s v _ _)) rfl)) rfl

theorem seamsReviewed (s : State) : g s.seamsReviewed = g s :=
  fold (fun a v => (ite (s := a.closePortless v) (k.seamLost _ v) rfl).trans (k.closePortless a v)) _ s

theorem reviewViews (s : State) : g s.reviewViews = g s :=
  fold (fun a v => ite ((k.alert _ _).trans (k.modView a v _)) (k.modView a v _)) _ s

theorem reviewCapacity (s before : State) : g (s.reviewCapacity before) = g s := ite ((k.alert _ _).trans (k.putNum s _ _)) rfl

theorem reviewGuarantee (s : State) : g s.reviewGuarantee = g s :=
  (k.watch _ _ _).trans (fold (fun a b => ite (k.lapse a b) rfl) _ s)

theorem pruneSets (s : State) : g s.pruneSets = g s := k.dict s _

theorem lampReview (s : State) : g s.lampReview = g s := (k.out _ _).trans (k.pins s _)

theorem ethDrain (s : State) (p : Nat) : g (s.ethDrain p) = g s := by
  have l : ∀ z b t c i e, g (State.ptpLeaves z p b t c i e) = g z := by
    intro z b t c i e
    unfold State.ptpLeaves
    refine ite (ite ((k.send _ _ _ _ _ _).trans (k.emit z _)) (k.emit z _)) (ite (ite ((k.send _ _ _ _ _ _).trans (k.emit z _)) (k.emit z _)) ?_)
    exact ite ((k.modEth _ _ _).trans (k.emit z _)) ((k.modEth _ _ _).trans (k.emit z _))
  have n : ∀ m z, g (State.ethDrainN z p m) = g z := by
    intro m
    induction m with
    | zero => exact fun _ => rfl
    | succ m ih =>
      intro z
      unfold State.ethDrainN
      split
      · rfl
      · refine (ih _).trans ?_
        split
        · split
          · exact (l _ _ _ _ _ _).trans ((k.putNum _ _ _).trans (k.modEth z _ _))
          · exact (k.emit _ _).trans ((k.putNum _ _ _).trans (k.modEth z _ _))
        · exact (k.emit _ _).trans ((k.putNum _ _ _).trans (k.modEth z _ _))
  exact ite (n _ s) (ite rfl (k.modEth s p _))

theorem drained (s : State) : g s.drained = g s := by
  have n : ∀ m z l, g (State.linkDrainN z l m) = g z := by
    intro m
    induction m with
    | zero => exact fun _ _ => rfl
    | succ m ih =>
      intro z l
      unfold State.linkDrainN
      refine ite rfl ?_
      split
      · rfl
      · exact (ih _ _).trans ((k.emit _ _).trans (k.sent z l (fun y => (y.sent + 1) % 256) _ _))
  have h : ∀ z l, g (State.linkDrain z l) = g z := fun z l =>
    ite (n _ z l) (ite rfl (k.sent z l (fun y => y.sent) (fun y => y.linkFree) (fun _ => [])))
  exact (k.ethDrain _ 1).trans ((k.ethDrain _ 0).trans (fold (fun a x => h a x) _ s))

/-- The settling of an operating mode. -/
theorem operating (z before : State) (h : ∀ y : State, g y = g z → g y.retestStep = g z) :
    g ((((z.reviewViews).reviewCapacity before).reviewGuarantee).retestStep).pruneSets = g z := by
  rw [k.pruneSets]
  refine h _ ?_
  rw [k.reviewGuarantee, k.reviewCapacity, k.reviewViews]

/-- The settling keeps it, where the power step that waits does. -/
theorem settle (s before : State) (h : ∀ z : State, g z = g s → g z.retestStep = g s) : g (s.settle before) = g s := by
  have h1 : g (if s.unitsRun then s.giveUnits.seamsReviewed else s) = g s := by
    split
    · rw [k.seamsReviewed, k.giveUnits]
    · rfl
  unfold State.settle
  simp only [k.drained]
  generalize (if s.unitsRun then s.giveUnits.seamsReviewed else s) = z at h1
  have h2 : g (if z.ctl.mode.operating then
      ((((z.reviewViews).reviewCapacity before).reviewGuarantee).retestStep).pruneSets else z) = g s := by
    split
    · rw [k.operating z before (fun y hy => by rw [h1]; exact h y (hy.trans h1)), h1]
    · exact h1
  generalize (if z.ctl.mode.operating then
      ((((z.reviewViews).reviewCapacity before).reviewGuarantee).retestStep).pruneSets else z) = y at h2
  show g (if y.power.powered then y.lampReview else y) = g s
  split
  · rw [k.lampReview, h2]
  · exact h2

end Quiet

/-- The clock and the queue of waiting commands stay. -/
structure Timed (a t : State) : Prop where
  clk : t.clk = a.clk
  pending : t.pending = a.pending

/-- The settling leaves the clock and the queue. -/
theorem Timed.settle (s before : State) : Timed s (s.settle before) := by
  have q : Quiet (fun s : State => (s.clk, s.pending)) := by constructor <;> intros <;> rfl
  have r : ∀ z : State, (z.retestStep.clk, z.retestStep.pending) = (z.clk, z.pending) := by
    intro z
    have pl : ∀ a : State, (a.powerLanes.clk, a.powerLanes.pending) = (a.clk, a.pending) := by
      intro a
      unfold State.powerLanes
      exact Quiet.fold (g := fun s : State => (s.clk, s.pending)) (f := State.powerLane) (fun _ _ => rfl) _ a
    have he : ∀ (a : State) (p : Power), ((a.enterPower p).clk, (a.enterPower p).pending) = (a.clk, a.pending) := by
      intro a p
      cases p
      · rfl
      · rfl
      · exact pl _
      · rfl
    have hp : ∀ (a : State) (p : Power), ((a.parkFor p).clk, (a.parkFor p).pending) = (a.clk, a.pending) := by
      intro a p
      cases p <;> rfl
    have hd : ∀ a : State, (a.dmaDefer.clk, a.dmaDefer.pending) = (a.clk, a.pending) := fun a => q.bumpIf a _ _
    have h2 : ∀ (a b : State) (p : Power), (b.clk, b.pending) = (a.clk, a.pending) →
        ((b.parkFor p).clk, (b.parkFor p).pending) = (a.clk, a.pending) := fun a b p e => (hp b p).trans e
    unfold State.retestStep
    split
    · unfold State.stepDown
      split
      · rfl
      · split
        · rfl
        · split
          · split
            · exact hp z _
            · exact h2 z _ _ ((hd _).trans rfl)
          · exact (he _ _).trans (hp z _)
    · rfl
  have h := q.settle s before (fun z hz => (r z).trans hz)
  simp only [Prod.mk.injEq] at h
  exact ⟨h.1, h.2⟩

theorem next_inj {a b : State} (h : (Host.Outcome.next a : Host.Outcome State Fault Refusal) = .next b) : a = b := by
  injection h

/-- A command leaves the queue alone and lets its own time pass. -/
theorem State.run_timed {s t : State} {dt : Nat} {a : State → Bool} {f : State → State} (h : s.run dt a f = .next t) :
    t.pending = s.pending ∧ t.clk = s.clk + dt := by
  have e := next_inj ((State.run_next s dt a f).symm.trans h)
  rw [← e]
  have k := Timed.settle { (if a (s.advance dt) = true then f (s.advance dt) else s.advance dt) with
    clk := s.clk + dt, pending := s.pending } (s.advance dt)
  exact ⟨k.pending, k.clk⟩

/-- Settled from a state with another clock and queue. -/
theorem Settled.from_retimed {a t : State} {c : Nat} {p : List Instr} (h : Settled { a with clk := c, pending := p } t) :
    Settled a t := ⟨h.same, h.out, h.raised, h.get, h.alerts, h.jobs, h.frames⟩

/-- A command completes in its effect, settled. -/
theorem State.run_completes {i : Instr} {s : State} {dt : Nat} {admits : State → Bool} {effect : State → State}
    {P : State → Prop} (hi : exec i s = s.run dt admits effect) (ha : admits (s.advance dt) = true)
    (hp : ∀ t, Settled (effect (s.advance dt)) t → t.clk = s.clk + dt → t.pending = s.pending → P t) :
    Completes i s P := by
  refine ⟨_, hi, hp _ ?_ (Timed.settle _ _).clk (Timed.settle _ _).pending⟩
  simp only [ha, if_true]
  exact (Settled.settle _ _).from_retimed

/-! ## Without a power step that waits -/

/-- What the settling leaves where no power step waits: the power state and the lanes but for their counts of packets sent; and outside
DOZE, where the step to DEEP is tested again, the DMA channels and the step. -/
structure Still (a t : State) : Prop where
  state : t.power.state = a.power.state
  lanes : t.lanes.map Lane.unsettled = a.lanes.map Lane.unsettled
  target : a.power.state ≠ .doze → t.power.target = a.power.target
  entering : a.power.state ≠ .doze → t.power.entering = a.power.entering
  dma : a.power.state ≠ .doze → t.dma = a.dma

/-- In DOZE the test of the step to DEEP leaves the power state and the lanes. -/
theorem State.retestStep_doze {z : State} (h : z.power.state = .doze) :
    z.retestStep.power.state = .doze ∧ z.retestStep.lanes = z.lanes := by
  have hp : ∀ (a : State) (p : Power), (a.parkFor p).power = a.power ∧ (a.parkFor p).lanes = a.lanes := by
    intro a p
    cases p <;> exact ⟨rfl, rfl⟩
  have hd : (z.bump Obj.pwStepdownDeferred).dmaDefer.power = z.power ∧ (z.bump Obj.pwStepdownDeferred).dmaDefer.lanes = z.lanes := by
    unfold State.dmaDefer State.bumpIf
    split <;> exact ⟨rfl, rfl⟩
  unfold State.retestStep
  split
  · unfold State.stepDown
    split
    · refine ⟨?_, rfl⟩
      show (if z.power.target = some .deep then _ else z.power : PowerSys).state = .doze
      split <;> exact h
    · next t _ =>
      split
      · exact ⟨h, rfl⟩
      · split
        · split
          · exact ⟨(congrArg PowerSys.state (hp z t).1).trans h, (hp z t).2⟩
          · exact ⟨(congrArg PowerSys.state ((hp _ t).1.trans hd.1)).trans h, (hp _ t).2.trans hd.2⟩
        · next n _ =>
          cases t
          · exact ⟨h, rfl⟩
          · exact ⟨h, rfl⟩
          · exact absurd (Or.inr (Or.inr h)) n
          · exact ⟨h, rfl⟩
  · exact ⟨h, rfl⟩

/-- Outside DOZE nothing is tested again where no step waits. -/
theorem State.retestStep_none {z : State} (h : z.power.state ≠ .doze) (t : z.power.target = none) : z.retestStep = z := by
  simp [State.retestStep, h, t]

/-- The settling where no power step waits. -/
theorem Still.settle (s before : State) (h : s.power.target = none) : Still s (s.settle before) := by
  have q1 : Quiet (fun s : State => (s.power.state, s.lanes.map Lane.unsettled, decide (s.power.state = .doze ∨ s.power.target = none))) := by
    constructor <;> intros <;> try rfl
    simp only [State.modLane]
    rw [map_modify Lane.unsettled (by intro _; rfl)]
    rfl
  have e1 := q1.settle s before (fun z hz => by
    simp only [Prod.mk.injEq] at hz
    by_cases d : z.power.state = .doze
    · have r := State.retestStep_doze d
      simp only [Prod.mk.injEq]
      refine ⟨r.1.trans (d.symm.trans hz.1), (congrArg _ r.2).trans hz.2.1, ?_⟩
      rw [← hz.2.2]
      simp [r.1, d]
    · have n : z.power.target = none := by
        have := hz.2.2.trans (decide_eq_true (Or.inr h))
        exact (of_decide_eq_true this).resolve_left d
      rw [State.retestStep_none d n]
      simp only [Prod.mk.injEq]
      exact hz)
  simp only [Prod.mk.injEq] at e1
  have q2 : Quiet (fun s : State => (s.power.state, s.power.target, s.power.entering, s.dma)) := by
    constructor <;> intros <;> rfl
  have e2 : s.power.state ≠ .doze → (fun s : State => (s.power.state, s.power.target, s.power.entering, s.dma)) (s.settle before) =
      (s.power.state, s.power.target, s.power.entering, s.dma) := fun d => q2.settle s before (fun z hz => by
    simp only [Prod.mk.injEq] at hz
    rw [State.retestStep_none (fun x => d (hz.1.symm.trans x)) (hz.2.1.trans h)]
    simp only [Prod.mk.injEq]
    exact hz)
  simp only [Prod.mk.injEq] at e2
  exact ⟨e1.1, e1.2.1, fun d => (e2 d).2.1, fun d => (e2 d).2.2.1, fun d => (e2 d).2.2.2⟩

/-- Still from a state with another clock and queue. -/
theorem Still.from_retimed {a t : State} {c : Nat} {p : List Instr} (h : Still { a with clk := c, pending := p } t) :
    Still a t := ⟨h.state, h.lanes, h.target, h.entering, h.dma⟩

/-- A command whose effect leaves no power step waiting completes in it, settled and still. -/
theorem State.run_still {i : Instr} {s : State} {dt : Nat} {admits : State → Bool} {effect : State → State}
    {P : State → Prop} (hi : exec i s = s.run dt admits effect) (ha : admits (s.advance dt) = true)
    (hq : (effect (s.advance dt)).power.target = none)
    (hp : ∀ t, Settled (effect (s.advance dt)) t → Still (effect (s.advance dt)) t → P t) : Completes i s P := by
  refine ⟨_, hi, hp _ ?_ ?_⟩
  · simp only [ha, if_true]
    exact (Settled.settle _ _).from_retimed
  · simp only [ha, if_true]
    generalize effect (s.advance dt) = a at hq
    generalize s.advance dt = b
    exact (Still.settle { a with clk := s.clk + dt, pending := s.pending } b hq).from_retimed

end Sys2Proof.Machine
end

