-- ==== Sys2Proof/Laws/Requests.lean ====
section
/-! SUPPORT. What a dictionary request that is served does, said once for both paths: it is executed, and answered. -/

namespace Sys2Proof.Machine

theorem Src.normal_normal (src : Src) : src.normal.normal = src.normal := by
  cases src <;> simp [Src.normal, wrap32]

theorem Req.normal_normal (q : Req) : q.normal.normal = q.normal := by
  simp [Req.normal, wrap32]

/-- A request is what its normal form is. -/
theorem State.dictionary_normal (u : State) (src : Src) (q : Req) : u.dictionary src q = u.dictionary src.normal q.normal := by
  cases src <;> simp [State.dictionary, Src.normal, Req.normal, wrap32]

namespace Answered

/-- What settles after an answer leaves it. -/
theorem settled {a b t : State} {src : Src} {q : Req} {ans : Answer} (h : Answered a b src q ans) (k : Settled b t) :
    Answered a t src q ans := by
  obtain ⟨l, hl⟩ := h.out
  obtain ⟨m, hm⟩ := k.out
  obtain ⟨p, hp⟩ := h.raised
  obtain ⟨r, hr⟩ := k.raised
  refine ⟨Eq.trans ?_ h.same, ⟨l ++ m, by simp [hm, hl]⟩, ⟨p ++ r, by simp [hr, hp]⟩,
    fun key e => (k.get key e).trans (h.get key e), fun bit e => k.alerts bit (h.alerts bit e), ?_⟩
  · unfold State.unreplied
    rw [k.same]
  · have c := h.answer
    cases src with
    | i3c tag =>
      have e : t.unsettled.ctl.i3c.response = b.unsettled.ctl.i3c.response := by rw [k.same]
      exact e.trans c
    | ydp e ip port sess seq =>
      intro up
      have ue : (b.eth e).up = true := by
        have g : ∀ s : State, (s.unsettled.eth e).up = (s.eth e).up := by
          intro s
          unfold State.eth State.unsettled
          simp only [List.getD_eq_getElem?_getD, List.getElem?_map]
          cases s.eths[e]? <;> rfl
        rw [← g b, ← k.same, g t]
        exact up
      rcases c ue with c | ⟨f, c, w⟩
      · left
        rw [hm]
        exact List.mem_append_left _ c
      · rcases k.frames e f c (by rw [w]; rfl) with c | c
        · exact Or.inr ⟨f, c, w⟩
        · exact Or.inl (w ▸ c)

/-- A rejected request's answer is its code. -/
theorem of_rejected {a t : State} {src : Src} {q : Req} {c : Nat} (h : Answered a t src q (Answer.rejected c)) :
    Answered a t src q (Answer.of c) := ⟨h.same, h.out, h.raised, h.get, h.alerts, h.answer⟩

theorem retimed {a t : State} {src : Src} {q : Req} {ans : Answer} (h : Answered a t src q ans) (c : Nat) (p : List Instr) :
    Answered a { t with clk := c, pending := p } src q ans :=
  ⟨h.same, h.out, h.raised, h.get, h.alerts, by cases src <;> exact h.answer⟩

end Answered

theorem map_unreplied (l : List Session) (f : Session → Session) (h : ∀ x, (f x).unreplied = x.unreplied) :
    ((l.map f).map (fun (x : Session) => ({ x with notified := 0 } : Session))).map Session.unreplied =
      (l.map (fun (x : Session) => ({ x with notified := 0 } : Session))).map Session.unreplied := by
  simp only [List.map_map]
  exact List.map_congr_left (fun x _ => (h x))

/-- What is sent on a port with a link waits there (R460). -/
theorem State.send_sends (s : State) {p prio line hsp : Nat} {m : Emission} (up : ((s.send p prio line hsp m).eth p).up = true) :
    (s.send p prio line hsp m).sends p m := by
  have u : (s.eth p).up = true := by
    unfold State.send at up
    split at up
    · rcases Settled.eth_modEth s p p _ with i | i <;> rw [i] at up <;> exact up
    · exact up
  unfold State.send
  rw [if_pos (Or.inl u)]
  right
  unfold State.eth at u
  simp only [State.eth, State.modEth, List.getD_eq_getElem?_getD, List.getElem?_modify, if_true] at u ⊢
  cases h : s.eths[p]? with
  | none => rw [h] at u; cases u
  | some x => exact ⟨_, List.mem_append_right _ (List.mem_singleton_self _), rfl⟩

theorem State.tx_sends (s : State) {p : Nat} {m : Emission} (up : ((s.tx p m).eth p).up = true) : (s.tx p m).sends p m :=
  State.send_sends s up

/-- What asking for a next hop leaves: all but the ports' ARP tables and what waits on them (R457). -/
structure Asked (a b : State) : Prop where
  same : b.unreplied = a.unreplied
  out : b.out = a.out
  raised : b.fabric.raised = a.fabric.raised
  dict : b.dict = a.dict
  part : b.ctl.part = a.ctl.part
  id : b.pins.id = a.pins.id

theorem Asked.trans {a b c : State} (h : Asked a b) (k : Asked b c) : Asked a c :=
  ⟨k.same.trans h.same, k.out.trans h.out, k.raised.trans h.raised, k.dict.trans h.dict, k.part.trans h.part, k.id.trans h.id⟩

theorem Asked.send (s : State) (p prio line hsp : Nat) (m : Emission) : Asked s (s.send p prio line hsp m) := by
  refine ⟨?_, ?_, ?_, ?_, ?_, ?_⟩
  · unfold State.unreplied
    rw [(Settled.send s p prio line hsp m).same]
  all_goals
    unfold State.send
    split <;> rfl

theorem Asked.tx (s : State) (p : Nat) (m : Emission) : Asked s (s.tx p m) := Asked.send s _ _ _ _ _

theorem Asked.resolve (s : State) (p ip : Nat) : Asked s (s.resolve p ip).1 := by
  have r : Asked s s := ⟨rfl, rfl, rfl, rfl, rfl, rfl⟩
  have m : ∀ f : Eth → Eth, (∀ x, { (f x).unsettled with arp := [] } = { x.unsettled with arp := [] }) → Asked s (s.modEth p f) := by
    intro f h
    refine ⟨?_, rfl, rfl, rfl, rfl, rfl⟩
    unfold State.unreplied
    simp only [State.unsettled, State.modEth, List.map_map]
    congr 1
    exact map_modify ((fun (x : Eth) => ({ x with arp := [] } : Eth)) ∘ Eth.unsettled) h _ _
  have a : ∀ hop, Asked s (s.arpAsk p hop) := by
    intro hop
    unfold State.arpAsk
    dsimp only
    split
    · exact r
    · refine Asked.trans ?_ (Asked.tx _ _ _)
      exact m _ (fun _ => rfl)
  unfold State.resolve
  split
  · exact r
  · dsimp only
    split
    · exact r
    · exact a _

theorem Asked.num {a b : State} (h : Asked a b) (key : Nat) : b.num key = a.num key := by
  unfold State.num State.val State.valIn State.dfltOf
  rw [h.dict, h.part, h.id]

/-- A response on YDP: it is sent, and all but what answers move is the same. -/
theorem Answered.ydpAnswer (a : State) (e ip port sess seq : Nat) {q : Req} {ans : Answer} :
    Answered a (a.ydpAnswer e ip port sess seq (q.respond ans)) (.ydp e ip port sess seq) q ans := by
  have k := Asked.resolve a e ip
  unfold State.ydpAnswer
  have j := Settled.tx (a.resolve e ip).1 e (.ydpResponse e ip port sess seq (q.respond ans))
  obtain ⟨l, hl⟩ := j.out
  obtain ⟨m, hm⟩ := j.raised
  refine ⟨?_, ⟨l, by rw [hl, k.out]⟩, ⟨m, by rw [hm, k.raised]⟩, fun key h => by rw [j.get key h, k.dict],
    fun bit h => j.alerts bit (by rw [k.num]; exact h), State.tx_sends _⟩
  refine Eq.trans ?_ k.same
  unfold State.unreplied
  rw [j.same]

/-- A served request on either path is executed and answered. -/
theorem State.dictionary_served {u w : State} {src : Src} {q : Req} {x : Session} (h : u.serves src q w x)
    (hn : src.normal = src) (hq : q.normal = q) (ho : q.opcode ≠ Op.sessionOpen) (hc : q.opcode ≠ Op.sessionClose)
    (hm : movesPort q (w.execute src x q).2 = false) :
    Answered (w.execute src x q).1 (u.dictionary src q) src q (w.execute src x q).2 := by
  cases src with
  | i3c tag =>
    obtain ⟨h1, h2, hw, hx⟩ := h
    subst hw hx
    have e1 : u.dictionary (.i3c tag) q = u.i3cRequest (tag % 256) q.normal := rfl
    have e2 : tag % 256 = tag := by simpa [Src.normal] using hn
    rw [e1, e2, hq]
    have e3 : u.i3cRequest tag q = u.i3cExecute tag q := by
      unfold State.i3cRequest
      simp only [h1, Bool.not_true, Bool.false_eq_true, if_false]
      cases ha : u.ctl.i3c.answer with
      | none => rfl
      | some y =>
        have h3 : u.ctl.i3c.previous ≠ some (tag, q) := by
          rcases h2 with h2 | h2
          · rw [ha] at h2; cases h2
          · exact h2
        simp only [h3, if_false]
    rw [e3]
    unfold State.i3cExecute
    have e4 : u.i3cFresh.i3cSession = u.i3cSession := rfl
    rw [← e4] at hm ⊢
    generalize u.i3cFresh = w at hm ⊢
    dsimp only
    rw [if_neg (by rw [hm]; decide)]
    unfold State.i3cReady
    refine Answered.settled ?_ (Settled.event _ _)
    refine ⟨?_, ⟨[], (List.append_nil _).symm⟩, ⟨[], (List.append_nil _).symm⟩, fun _ _ => rfl, fun _ h => h, rfl⟩
    unfold State.unreplied
    simp only [State.unsettled, State.modSession]
    rw [map_unreplied]
    intro y
    split <;> rfl
  | ydp e ip port sess seq =>
    obtain ⟨h1, h2, h3, h4, h5, h6, rfl⟩ := h
    have e1 : u.dictionary (.ydp e ip port sess seq) q = u.ydpRequest e ip port sess (seq % wrap32) q.normal := rfl
    have e2 : seq % wrap32 = seq := by simpa [Src.normal] using hn
    have he : e < 2 := by
      unfold State.ydpUp at h1
      simp only [Bool.and_eq_true, decide_eq_true_eq] at h1
      exact h1.1.1.1
    rw [e1, e2, hq]
    have m1 : (u.rx e).ctl.mode ≠ .boot := h2
    have m2 : (u.rx e).session? (.ydp sess) = some x := h3
    have m3 : ¬ (x.ip ≠ ip ∨ x.port ≠ port) := by simp [h4, h5]
    have via : ∀ (a b : State) (ans : Answer), b.unreplied = a.unreplied → b.out = a.out → b.fabric.raised = a.fabric.raised →
        b.dict = a.dict → b.ctl.part = a.ctl.part → b.pins.id = a.pins.id →
        Answered a (b.ydpAnswer e ip port sess seq (q.respond ans)) (.ydp e ip port sess seq) q ans := by
      intro a b ans hs ho hr hd hp hi
      have k := Answered.ydpAnswer b e ip port sess seq (q := q) (ans := ans)
      refine ⟨k.same.trans hs, ho ▸ k.out, hr ▸ k.raised, fun key h => by rw [k.get key h, hd], fun bit h => k.alerts bit ?_, k.answer⟩
      rw [(⟨hs, ho, hr, hd, hp, hi⟩ : Asked a b).num]
      exact h
    have kept : ∀ (a : State) (c : Bool) (f : Session → Session), (∀ y, (f y).unreplied = y.unreplied) →
        (if c then a.modSession x.id f else a).unreplied = a.unreplied := by
      intro a c f h
      split
      · unfold State.unreplied
        simp only [State.unsettled, State.modSession]
        rw [map_unreplied]
        intro y
        split
        · exact h y
        · rfl
      · rfl
    generalize hw : (u.rx e).modSession x.id (fun (y : Session) => { y with lastRequest := u.clk, eth := e }) = w at *
    have e4 : u.ydpRequest e ip port sess seq q = w.ydpOrdered e ip port sess seq x q := by
      unfold State.ydpRequest
      simp only [h1, Bool.not_true, Bool.false_eq_true, if_false, m1, ho, m2, m3]
      rw [← hw]
      rfl
    rw [e4]
    unfold State.ydpOrdered
    by_cases hb : q.opcode = Op.blockData
    · simp only [hb, if_true]
      generalize w.execute (.ydp e ip port sess seq) x q = a
      exact via a.1 _ a.2 (kept _ _ _ (fun _ => rfl)) (by split <;> rfl) (by split <;> rfl) (by split <;> rfl) (by split <;> rfl)
        (by split <;> rfl)
    · obtain ⟨k1, k2⟩ := h6.resolve_left hb
      simp only [hb, if_false, k1, k2, Bool.not_true, Bool.false_eq_true, hc, hm]
      generalize w.execute (.ydp e ip port sess seq) x q = a
      exact via a.1 _ a.2 (kept _ _ _ (fun _ => rfl)) (by split <;> rfl) (by split <;> rfl) (by split <;> rfl) (by split <;> rfl)
        (by split <;> rfl)

/-- A command that runs as a request, given as the table of requests gives it, is executed as that request. -/
def RunsRequest (s : State) (dt : Nat) (o : Host.Outcome State Fault Refusal) (src : Src) (q : Req) : Prop :=
  ∃ a : State → Bool, a (s.advance dt) = true ∧ o = s.run dt a (fun t => t.dictionary src q)

theorem runsRequest_none {s : State} {dt : Nat} {o : Host.Outcome State Fault Refusal} {src : Src} {q : Req}
    (h : (none : Option (Src × Req)) = some (src, q)) : RunsRequest s dt o src q := by cases h

theorem runsRequest_some {s : State} {dt : Nat} {a : State → Bool} {src0 src : Src} {q0 q : Req}
    (ha : a (s.advance dt) = true) (h : (some (src0.normal, q0.normal) : Option (Src × Req)) = some (src, q)) :
    RunsRequest s dt (s.run dt a (fun t => t.dictionary src0 q0)) src q := by
  obtain ⟨rfl, rfl⟩ := Prod.mk.inj (Option.some.inj h)
  have e : (fun (t : State) => t.dictionary src0 q0) = (fun t => t.dictionary src0.normal q0.normal) :=
    funext (fun t => State.dictionary_normal t src0 q0)
  exact ⟨a, ha, by rw [e]⟩

theorem runsRequest_if {s : State} {dt : Nat} {p : Prop} [Decidable p] {src0 src : Src} {q0 q : Req}
    (h : (if p then (some (src0.normal, q0.normal) : Option (Src × Req)) else none) = some (src, q)) :
    RunsRequest s dt (s.run dt (fun _ => decide p) (fun t => t.dictionary src0 q0)) src q := by
  by_cases hp : p
  · rw [if_pos hp] at h
    exact runsRequest_some (decide_eq_true hp) h
  · rw [if_neg hp] at h
    cases h

/-- A command that is a dictionary request is executed as that request. -/
theorem exec_request (i : Instr) {src : Src} {q : Req} (s : State) (h : i.request = some (src, q)) :
    RunsRequest s i.dt (exec i s) src q :=
  match i, h with
  | .read _ _ _ _ _, h => runsRequest_some (a := State.any) rfl h
  | .write _ _ _ _ _, h => runsRequest_some (a := State.any) rfl h
  | .segRead _ _ _ _ _, h => runsRequest_some (a := State.any) rfl h
  | .segWrite _ _ _ _ _ _ _, h => runsRequest_some (a := State.any) rfl h
  | .blockStart _ _ _ _ _, h => runsRequest_some (a := State.any) rfl h
  | .blockData _ _ _ _ _ _, h => runsRequest_some (a := State.any) rfl h
  | .blockEnd _ _ _ _ _, h => runsRequest_some (a := State.any) rfl h
  | .blockRead _ _ _ _ _, h => runsRequest_some (a := State.any) rfl h
  | .sessionOpen _ _ _ _ _ _, h => runsRequest_none h
  | .sessionClose _ _, h => runsRequest_none h
  | .sessionIdle _ _, h => runsRequest_none h
  | .frameCheck _ _, h => runsRequest_none h
  | .datagramDrop _ _, h => runsRequest_none h
  | .responseRead _, h => runsRequest_none h
  | .ibiDelivery _, h => runsRequest_none h
  | .setdasa _ _, h => runsRequest_none h
  | .entdaa _ _, h => runsRequest_none h
  | .wakeTransfer _ _, h => runsRequest_none h
  | .ydpPort _ _ _, h => runsRequest_some (a := State.any) rfl h
  | .challenge _ _, h => runsRequest_some (a := State.any) rfl h
  | .response _ _ _, h => runsRequest_some (a := State.any) rfl h
  | .nonceExpiry _ _, h => runsRequest_none h
  | .lockoutEnd _, h => runsRequest_none h
  | .dropLevel _ _ _, h => runsRequest_some (a := State.any) rfl h
  | .restoreDefaults _ _ _, h => runsRequest_some (a := State.any) rfl h
  | .rcClear _ _ _ _ _, h => runsRequest_some (a := State.any) rfl h
  | .ack _ _ _ _, h => runsRequest_some (a := State.any) rfl h
  | .heartbeat _ _ _, h => runsRequest_some (a := State.any) rfl h
  | .period _ _ _, h => runsRequest_some (a := State.any) rfl h
  | .heartbeatLate _, h => runsRequest_none h
  | .hostLost _, h => runsRequest_none h
  | .openStaging _ _, h => runsRequest_some (a := State.any) rfl h
  | .releaseStaging _ _, h => runsRequest_some (a := State.any) rfl h
  | .seize _ _, h => runsRequest_some (a := State.any) rfl h
  | .stagingIdle _, h => runsRequest_none h
  | .commit _ _, h => runsRequest_some (a := State.any) rfl h
  | .checkOnly _ _, h => runsRequest_some (a := State.any) rfl h
  | .commitCheckEnd _, h => runsRequest_none h
  | .commitInstant _, h => runsRequest_none h
  | .digestStart _ _ _, h => runsRequest_some (a := State.any) rfl h
  | .digestResult _, h => runsRequest_none h
  | .mirrorWrite _, h => runsRequest_none h
  | .logWrite _, h => runsRequest_none h
  | .powerUp _ _ _ _, h => runsRequest_none h
  | .bootStart _ _, h => runsRequest_none h
  | .firmwareTimeout _, h => runsRequest_none h
  | .resetNAssert _, h => runsRequest_none h
  | .resetNRise _ _ _, h => runsRequest_none h
  | .brownOut _, h => runsRequest_none h
  | .supplyFault _, h => runsRequest_none h
  | .supplyReturn _, h => runsRequest_none h
  | .thermalTrip _ _, h => runsRequest_none h
  | .thermalRestart _, h => runsRequest_none h
  | .pllLoss _, h => runsRequest_none h
  | .housekeepingRound _ _, h => runsRequest_none h
  | .guaranteeHeld _, h => runsRequest_none h
  | .idleTimer _, h => runsRequest_none h
  | .selfRefreshEntry _ _, h => runsRequest_none h
  | .deepEntry _, h => runsRequest_none h
  | .wake _ _, h => runsRequest_none h
  | .deepExit _ _, h => runsRequest_none h
  | .standbyWake _ _, h => runsRequest_none h
  | .pipelineGate _ _, h => runsRequest_none h
  | .tileLight _ _, h => runsRequest_none h
  | .noSignal _ _, h => runsRequest_none h
  | .signalDetect _ _, h => runsRequest_none h
  | .aligned _ _, h => runsRequest_none h
  | .alignmentLoss _ _ _, h => runsRequest_none h
  | .laneExit _ _, h => runsRequest_none h
  | .eyeMeasure _ _ _ _, h => runsRequest_none h
  | .eyeFloor _ _, h => runsRequest_none h
  | .eyeScan _ _ _ _, h => runsRequest_if h
  | .eyeScanDone _ _, h => runsRequest_none h
  | .adopt _ _ _ _, h => runsRequest_if h
  | .regRead _ _ _ _, h => runsRequest_if h
  | .regWrite _ _ _ _, h => runsRequest_if h
  | .regTimeout _ _, h => runsRequest_none h
  | .regResponse _ _ _ _ _ _, h => runsRequest_none h
  | .linePacket _ _ _ _ _ _, h => runsRequest_none h
  | .cameraEvent _ _ _, h => runsRequest_none h
  | .statusPacket _ _ _ _, h => runsRequest_none h
  | .cxpImagePacket _ _ _ _ _, h => runsRequest_none h
  | .cxpControlResponse _ _ _ _, h => runsRequest_none h
  | .trigAck _ _, h => runsRequest_none h
  | .cxpHeartbeat _ _ _, h => runsRequest_none h
  | .reasmWindow _ _ _, h => runsRequest_none h
  | .trigEnd _ _, h => runsRequest_none h
  | .seam _ _ _ _ _ _ _ _, h => runsRequest_none h
  | .cometPacket _ _ _ _, h => runsRequest_none h
  | .eventPacket _ _ _ _, h => runsRequest_none h
  | .linkStatus _ _ _ _, h => runsRequest_none h
  | .linkStatusSend _, h => runsRequest_none h
  | .linkStatusTimeout _ _, h => runsRequest_none h
  | .seamLate _ _ _, h => runsRequest_none h
  | .edgeLate _ _ _, h => runsRequest_none h
  | .countEdge _ _ _ _, h => runsRequest_none h
  | .indexEdge _ _, h => runsRequest_none h
  | .speedTimeout _ _, h => runsRequest_none h
  | .syntheticCount _ _, h => runsRequest_none h
  | .positionSet _ _ _ _, h => runsRequest_if h
  | .pgoPulse _ _, h => runsRequest_none h
  | .triggerHeldIssue _ _, h => runsRequest_none h
  | .frameLines _ _ _ _, h => runsRequest_if h
  | .lineCorrection _ _, h => runsRequest_none h
  | .calCaptureDark _ _ _, h => runsRequest_if h
  | .calCaptureFlat _ _ _, h => runsRequest_if h
  | .calCaptureTimeout _ _, h => runsRequest_none h
  | .stitchLine _ _ _, h => runsRequest_none h
  | .cometRelease _ _, h => runsRequest_none h
  | .fuseHold _ _, h => runsRequest_none h
  | .histClear _ _ _ _, h => runsRequest_if h
  | .build _ _ _ _, h => runsRequest_if h
  | .buildUnit _ _ _ _, h => runsRequest_none h
  | .buildTimeout _ _, h => runsRequest_none h
  | .tableVerify _ _ _, h => runsRequest_none h
  | .dispatch _, h => runsRequest_none h
  | .cropFetch _ _ _, h => runsRequest_none h
  | .runEnd _ _ _, h => runsRequest_none h
  | .tDecExpiry _ _, h => runsRequest_none h
  | .brickUpset _ _ _, h => runsRequest_none h
  | .sramError _ _ _ _, h => runsRequest_none h
  | .tileReset _ _, h => runsRequest_none h
  | .regionReset _ _, h => runsRequest_none h
  | .modelCheck _ _, h => runsRequest_none h
  | .norStored _ _, h => runsRequest_none h
  | .clear _ _ _ _, h => runsRequest_if h
  | .tickStart _ _, h => runsRequest_none h
  | .statusFrame _ _ _, h => runsRequest_none h
  | .statusJudge _ _, h => runsRequest_none h
  | .vbPresAssert _ _, h => runsRequest_none h
  | .vbPresRelease _ _, h => runsRequest_none h
  | .busStartIdle _ _, h => runsRequest_none h
  | .testEnable _ _ _ _, h => runsRequest_if h
  | .safeNAssert _, h => runsRequest_none h
  | .safeNRelease _, h => runsRequest_none h
  | .timedEdge _ _, h => runsRequest_none h
  | .edges _ _ _ _, h => runsRequest_if h
  | .flush _ _ _ _, h => runsRequest_if h
  | .hbmRequest _ _ _ _ _ _, h => runsRequest_none h
  | .lineWriteDrop _ _, h => runsRequest_none h
  | .stackTemperature _ _ _, h => runsRequest_none h
  | .refresh _ _, h => runsRequest_none h
  | .powerDown _ _, h => runsRequest_none h
  | .patrolScrub _ _ _, h => runsRequest_none h
  | .start _ _ _ _, h => runsRequest_if h
  | .stop _ _ _ _, h => runsRequest_if h
  | .flightEntry _, h => runsRequest_none h
  | .descriptorFetch _ _, h => runsRequest_none h
  | .followReady _ _, h => runsRequest_none h
  | .descriptorDone _ _, h => runsRequest_none h
  | .busError _ _, h => runsRequest_none h
  | .codecBlock _ _, h => runsRequest_none h
  | .checkUnitGrant _ _, h => runsRequest_none h
  | .eventDelivery _, h => runsRequest_none h
  | .ethLinkUp _ _, h => runsRequest_none h
  | .ethLinkDown _ _, h => runsRequest_none h
  | .arpFrame _ _ _ _ _ _, h => runsRequest_none h
  | .icmpEcho _ _ _ _, h => runsRequest_none h
  | .arpRetry _ _ _, h => runsRequest_none h
  | .arpRefresh _ _ _, h => runsRequest_none h
  | .arpExpiry _ _ _, h => runsRequest_none h
  | .sync _ _ _ _, h => runsRequest_none h
  | .announce _ _ _ _ _, h => runsRequest_none h
  | .ptpMessage _ _ _, h => runsRequest_none h
  | .ptpSend _ _ _, h => runsRequest_none h
  | .syncTimeout _, h => runsRequest_none h
  | .announceTimeout _ _, h => runsRequest_none h
  | .step _ _ _, h => runsRequest_some (a := State.any) rfl h
  | .stepWithdraw _, h => runsRequest_none h
  | .keyPress _ _, h => runsRequest_none h
  | .keyRelease _ _, h => runsRequest_none h
  | .longPress _ _, h => runsRequest_none h
  | .touchScan _ _, h => runsRequest_none h
  | .touchStuck _ _, h => runsRequest_none h
  | .lampBlink _ _, h => runsRequest_none h
  | .campwrFlt _ _, h => runsRequest_none h
  | .pwrRetry _ _, h => runsRequest_none h
  | .pwrStagger _, h => runsRequest_none h
  | .pwrEnable _ _ _ _, h => runsRequest_if h
  | .pwrReset _ _ _ _, h => runsRequest_if h
  | .clearRetirements _ _ _, h => runsRequest_some (a := State.any) rfl h
  | .preferred _ _ _, h => runsRequest_some (a := State.any) rfl h
  | .fwProgrammed _ _, h => runsRequest_none h
  | .dieBridgeFailure _, h => runsRequest_none h
  | .watchdog _, h => runsRequest_none h
  | .dmaParityError _ _, h => runsRequest_none h
  | .eventChannelParityError _ _, h => runsRequest_none h
  | .rxDropped _ _, h => runsRequest_none h

theorem normal_none {src : Src} {q : Req} (h : (none : Option (Src × Req)) = some (src, q)) : src.normal = src ∧ q.normal = q := by
  cases h

theorem normal_some {src0 src : Src} {q0 q : Req} (h : (some (src0.normal, q0.normal) : Option (Src × Req)) = some (src, q)) :
    src.normal = src ∧ q.normal = q := by
  obtain ⟨rfl, rfl⟩ := Prod.mk.inj (Option.some.inj h)
  exact ⟨Src.normal_normal _, Req.normal_normal _⟩

theorem normal_if {p : Prop} [Decidable p] {src0 src : Src} {q0 q : Req}
    (h : (if p then (some (src0.normal, q0.normal) : Option (Src × Req)) else none) = some (src, q)) :
    src.normal = src ∧ q.normal = q := by
  by_cases hp : p
  · rw [if_pos hp] at h
    exact normal_some h
  · rw [if_neg hp] at h
    cases h

/-- The request of a command is in its normal form. -/
theorem request_normal (i : Instr) {src : Src} {q : Req} (h : i.request = some (src, q)) : src.normal = src ∧ q.normal = q :=
  match i, h with
  | .read _ _ _ _ _, h => normal_some h
  | .write _ _ _ _ _, h => normal_some h
  | .segRead _ _ _ _ _, h => normal_some h
  | .segWrite _ _ _ _ _ _ _, h => normal_some h
  | .blockStart _ _ _ _ _, h => normal_some h
  | .blockData _ _ _ _ _ _, h => normal_some h
  | .blockEnd _ _ _ _ _, h => normal_some h
  | .blockRead _ _ _ _ _, h => normal_some h
  | .sessionOpen _ _ _ _ _ _, h => normal_none h
  | .sessionClose _ _, h => normal_none h
  | .sessionIdle _ _, h => normal_none h
  | .frameCheck _ _, h => normal_none h
  | .datagramDrop _ _, h => normal_none h
  | .responseRead _, h => normal_none h
  | .ibiDelivery _, h => normal_none h
  | .setdasa _ _, h => normal_none h
  | .entdaa _ _, h => normal_none h
  | .wakeTransfer _ _, h => normal_none h
  | .ydpPort _ _ _, h => normal_some h
  | .challenge _ _, h => normal_some h
  | .response _ _ _, h => normal_some h
  | .nonceExpiry _ _, h => normal_none h
  | .lockoutEnd _, h => normal_none h
  | .dropLevel _ _ _, h => normal_some h
  | .restoreDefaults _ _ _, h => normal_some h
  | .rcClear _ _ _ _ _, h => normal_some h
  | .ack _ _ _ _, h => normal_some h
  | .heartbeat _ _ _, h => normal_some h
  | .period _ _ _, h => normal_some h
  | .heartbeatLate _, h => normal_none h
  | .hostLost _, h => normal_none h
  | .openStaging _ _, h => normal_some h
  | .releaseStaging _ _, h => normal_some h
  | .seize _ _, h => normal_some h
  | .stagingIdle _, h => normal_none h
  | .commit _ _, h => normal_some h
  | .checkOnly _ _, h => normal_some h
  | .commitCheckEnd _, h => normal_none h
  | .commitInstant _, h => normal_none h
  | .digestStart _ _ _, h => normal_some h
  | .digestResult _, h => normal_none h
  | .mirrorWrite _, h => normal_none h
  | .logWrite _, h => normal_none h
  | .powerUp _ _ _ _, h => normal_none h
  | .bootStart _ _, h => normal_none h
  | .firmwareTimeout _, h => normal_none h
  | .resetNAssert _, h => normal_none h
  | .resetNRise _ _ _, h => normal_none h
  | .brownOut _, h => normal_none h
  | .supplyFault _, h => normal_none h
  | .supplyReturn _, h => normal_none h
  | .thermalTrip _ _, h => normal_none h
  | .thermalRestart _, h => normal_none h
  | .pllLoss _, h => normal_none h
  | .housekeepingRound _ _, h => normal_none h
  | .guaranteeHeld _, h => normal_none h
  | .idleTimer _, h => normal_none h
  | .selfRefreshEntry _ _, h => normal_none h
  | .deepEntry _, h => normal_none h
  | .wake _ _, h => normal_none h
  | .deepExit _ _, h => normal_none h
  | .standbyWake _ _, h => normal_none h
  | .pipelineGate _ _, h => normal_none h
  | .tileLight _ _, h => normal_none h
  | .noSignal _ _, h => normal_none h
  | .signalDetect _ _, h => normal_none h
  | .aligned _ _, h => normal_none h
  | .alignmentLoss _ _ _, h => normal_none h
  | .laneExit _ _, h => normal_none h
  | .eyeMeasure _ _ _ _, h => normal_none h
  | .eyeFloor _ _, h => normal_none h
  | .eyeScan _ _ _ _, h => normal_if h
  | .eyeScanDone _ _, h => normal_none h
  | .adopt _ _ _ _, h => normal_if h
  | .regRead _ _ _ _, h => normal_if h
  | .regWrite _ _ _ _, h => normal_if h
  | .regTimeout _ _, h => normal_none h
  | .regResponse _ _ _ _ _ _, h => normal_none h
  | .linePacket _ _ _ _ _ _, h => normal_none h
  | .cameraEvent _ _ _, h => normal_none h
  | .statusPacket _ _ _ _, h => normal_none h
  | .cxpImagePacket _ _ _ _ _, h => normal_none h
  | .cxpControlResponse _ _ _ _, h => normal_none h
  | .trigAck _ _, h => normal_none h
  | .cxpHeartbeat _ _ _, h => normal_none h
  | .reasmWindow _ _ _, h => normal_none h
  | .trigEnd _ _, h => normal_none h
  | .seam _ _ _ _ _ _ _ _, h => normal_none h
  | .cometPacket _ _ _ _, h => normal_none h
  | .eventPacket _ _ _ _, h => normal_none h
  | .linkStatus _ _ _ _, h => normal_none h
  | .linkStatusSend _, h => normal_none h
  | .linkStatusTimeout _ _, h => normal_none h
  | .seamLate _ _ _, h => normal_none h
  | .edgeLate _ _ _, h => normal_none h
  | .countEdge _ _ _ _, h => normal_none h
  | .indexEdge _ _, h => normal_none h
  | .speedTimeout _ _, h => normal_none h
  | .syntheticCount _ _, h => normal_none h
  | .positionSet _ _ _ _, h => normal_if h
  | .pgoPulse _ _, h => normal_none h
  | .triggerHeldIssue _ _, h => normal_none h
  | .frameLines _ _ _ _, h => normal_if h
  | .lineCorrection _ _, h => normal_none h
  | .calCaptureDark _ _ _, h => normal_if h
  | .calCaptureFlat _ _ _, h => normal_if h
  | .calCaptureTimeout _ _, h => normal_none h
  | .stitchLine _ _ _, h => normal_none h
  | .cometRelease _ _, h => normal_none h
  | .fuseHold _ _, h => normal_none h
  | .histClear _ _ _ _, h => normal_if h
  | .build _ _ _ _, h => normal_if h
  | .buildUnit _ _ _ _, h => normal_none h
  | .buildTimeout _ _, h => normal_none h
  | .tableVerify _ _ _, h => normal_none h
  | .dispatch _, h => normal_none h
  | .cropFetch _ _ _, h => normal_none h
  | .runEnd _ _ _, h => normal_none h
  | .tDecExpiry _ _, h => normal_none h
  | .brickUpset _ _ _, h => normal_none h
  | .sramError _ _ _ _, h => normal_none h
  | .tileReset _ _, h => normal_none h
  | .regionReset _ _, h => normal_none h
  | .modelCheck _ _, h => normal_none h
  | .norStored _ _, h => normal_none h
  | .clear _ _ _ _, h => normal_if h
  | .tickStart _ _, h => normal_none h
  | .statusFrame _ _ _, h => normal_none h
  | .statusJudge _ _, h => normal_none h
  | .vbPresAssert _ _, h => normal_none h
  | .vbPresRelease _ _, h => normal_none h
  | .busStartIdle _ _, h => normal_none h
  | .testEnable _ _ _ _, h => normal_if h
  | .safeNAssert _, h => normal_none h
  | .safeNRelease _, h => normal_none h
  | .timedEdge _ _, h => normal_none h
  | .edges _ _ _ _, h => normal_if h
  | .flush _ _ _ _, h => normal_if h
  | .hbmRequest _ _ _ _ _ _, h => normal_none h
  | .lineWriteDrop _ _, h => normal_none h
  | .stackTemperature _ _ _, h => normal_none h
  | .refresh _ _, h => normal_none h
  | .powerDown _ _, h => normal_none h
  | .patrolScrub _ _ _, h => normal_none h
  | .start _ _ _ _, h => normal_if h
  | .stop _ _ _ _, h => normal_if h
  | .flightEntry _, h => normal_none h
  | .descriptorFetch _ _, h => normal_none h
  | .followReady _ _, h => normal_none h
  | .descriptorDone _ _, h => normal_none h
  | .busError _ _, h => normal_none h
  | .codecBlock _ _, h => normal_none h
  | .checkUnitGrant _ _, h => normal_none h
  | .eventDelivery _, h => normal_none h
  | .ethLinkUp _ _, h => normal_none h
  | .ethLinkDown _ _, h => normal_none h
  | .arpFrame _ _ _ _ _ _, h => normal_none h
  | .icmpEcho _ _ _ _, h => normal_none h
  | .arpRetry _ _ _, h => normal_none h
  | .arpRefresh _ _ _, h => normal_none h
  | .arpExpiry _ _ _, h => normal_none h
  | .sync _ _ _ _, h => normal_none h
  | .announce _ _ _ _ _, h => normal_none h
  | .ptpMessage _ _ _, h => normal_none h
  | .ptpSend _ _ _, h => normal_none h
  | .syncTimeout _, h => normal_none h
  | .announceTimeout _ _, h => normal_none h
  | .step _ _ _, h => normal_some h
  | .stepWithdraw _, h => normal_none h
  | .keyPress _ _, h => normal_none h
  | .keyRelease _ _, h => normal_none h
  | .longPress _ _, h => normal_none h
  | .touchScan _ _, h => normal_none h
  | .touchStuck _ _, h => normal_none h
  | .lampBlink _ _, h => normal_none h
  | .campwrFlt _ _, h => normal_none h
  | .pwrRetry _ _, h => normal_none h
  | .pwrStagger _, h => normal_none h
  | .pwrEnable _ _ _ _, h => normal_if h
  | .pwrReset _ _ _ _, h => normal_if h
  | .clearRetirements _ _ _, h => normal_some h
  | .preferred _ _ _, h => normal_some h
  | .fwProgrammed _ _, h => normal_none h
  | .dieBridgeFailure _, h => normal_none h
  | .watchdog _, h => normal_none h
  | .dmaParityError _ _, h => normal_none h
  | .eventChannelParityError _ _, h => normal_none h
  | .rxDropped _ _, h => normal_none h

theorem opcode_none {src : Src} {q : Req} (h : (none : Option (Src × Req)) = some (src, q)) :
    q.opcode ≠ Op.sessionOpen ∧ q.opcode ≠ Op.sessionClose := by
  cases h

theorem opcode_some {src0 src : Src} {q0 q : Req} (h0 : Nat.beq q0.opcode 16 = false) (h1 : Nat.beq q0.opcode 17 = false)
    (h : (some (src0.normal, q0.normal) : Option (Src × Req)) = some (src, q)) :
    q.opcode ≠ Op.sessionOpen ∧ q.opcode ≠ Op.sessionClose := by
  obtain ⟨rfl, rfl⟩ := Prod.mk.inj (Option.some.inj h)
  exact ⟨Nat.ne_of_beq_eq_false h0, Nat.ne_of_beq_eq_false h1⟩

theorem opcode_if {p : Prop} [Decidable p] {src0 src : Src} {q0 q : Req} (h0 : Nat.beq q0.opcode 16 = false)
    (h1 : Nat.beq q0.opcode 17 = false)
    (h : (if p then (some (src0.normal, q0.normal) : Option (Src × Req)) else none) = some (src, q)) :
    q.opcode ≠ Op.sessionOpen ∧ q.opcode ≠ Op.sessionClose := by
  by_cases hp : p
  · rw [if_pos hp] at h
    exact opcode_some h0 h1 h
  · rw [if_neg hp] at h
    cases h

/-- The request of a command opens and closes no session. -/
theorem request_opcode (i : Instr) {src : Src} {q : Req} (h : i.request = some (src, q)) :
    q.opcode ≠ Op.sessionOpen ∧ q.opcode ≠ Op.sessionClose :=
  match i, h with
  | .read _ _ _ _ _, h => opcode_some rfl rfl h
  | .write _ _ _ _ _, h => opcode_some rfl rfl h
  | .segRead _ _ _ _ _, h => opcode_some rfl rfl h
  | .segWrite _ _ _ _ _ _ _, h => opcode_some rfl rfl h
  | .blockStart _ _ _ _ _, h => opcode_some rfl rfl h
  | .blockData _ _ _ _ _ _, h => opcode_some rfl rfl h
  | .blockEnd _ _ _ _ _, h => opcode_some rfl rfl h
  | .blockRead _ _ _ _ _, h => opcode_some rfl rfl h
  | .sessionOpen _ _ _ _ _ _, h => opcode_none h
  | .sessionClose _ _, h => opcode_none h
  | .sessionIdle _ _, h => opcode_none h
  | .frameCheck _ _, h => opcode_none h
  | .datagramDrop _ _, h => opcode_none h
  | .responseRead _, h => opcode_none h
  | .ibiDelivery _, h => opcode_none h
  | .setdasa _ _, h => opcode_none h
  | .entdaa _ _, h => opcode_none h
  | .wakeTransfer _ _, h => opcode_none h
  | .ydpPort _ _ _, h => opcode_some rfl rfl h
  | .challenge _ _, h => opcode_some rfl rfl h
  | .response _ _ _, h => opcode_some rfl rfl h
  | .nonceExpiry _ _, h => opcode_none h
  | .lockoutEnd _, h => opcode_none h
  | .dropLevel _ _ _, h => opcode_some rfl rfl h
  | .restoreDefaults _ _ _, h => opcode_some rfl rfl h
  | .rcClear _ _ _ _ _, h => opcode_some rfl rfl h
  | .ack _ _ _ _, h => opcode_some rfl rfl h
  | .heartbeat _ _ _, h => opcode_some rfl rfl h
  | .period _ _ _, h => opcode_some rfl rfl h
  | .heartbeatLate _, h => opcode_none h
  | .hostLost _, h => opcode_none h
  | .openStaging _ _, h => opcode_some rfl rfl h
  | .releaseStaging _ _, h => opcode_some rfl rfl h
  | .seize _ _, h => opcode_some rfl rfl h
  | .stagingIdle _, h => opcode_none h
  | .commit _ _, h => opcode_some rfl rfl h
  | .checkOnly _ _, h => opcode_some rfl rfl h
  | .commitCheckEnd _, h => opcode_none h
  | .commitInstant _, h => opcode_none h
  | .digestStart _ _ _, h => opcode_some rfl rfl h
  | .digestResult _, h => opcode_none h
  | .mirrorWrite _, h => opcode_none h
  | .logWrite _, h => opcode_none h
  | .powerUp _ _ _ _, h => opcode_none h
  | .bootStart _ _, h => opcode_none h
  | .firmwareTimeout _, h => opcode_none h
  | .resetNAssert _, h => opcode_none h
  | .resetNRise _ _ _, h => opcode_none h
  | .brownOut _, h => opcode_none h
  | .supplyFault _, h => opcode_none h
  | .supplyReturn _, h => opcode_none h
  | .thermalTrip _ _, h => opcode_none h
  | .thermalRestart _, h => opcode_none h
  | .pllLoss _, h => opcode_none h
  | .housekeepingRound _ _, h => opcode_none h
  | .guaranteeHeld _, h => opcode_none h
  | .idleTimer _, h => opcode_none h
  | .selfRefreshEntry _ _, h => opcode_none h
  | .deepEntry _, h => opcode_none h
  | .wake _ _, h => opcode_none h
  | .deepExit _ _, h => opcode_none h
  | .standbyWake _ _, h => opcode_none h
  | .pipelineGate _ _, h => opcode_none h
  | .tileLight _ _, h => opcode_none h
  | .noSignal _ _, h => opcode_none h
  | .signalDetect _ _, h => opcode_none h
  | .aligned _ _, h => opcode_none h
  | .alignmentLoss _ _ _, h => opcode_none h
  | .laneExit _ _, h => opcode_none h
  | .eyeMeasure _ _ _ _, h => opcode_none h
  | .eyeFloor _ _, h => opcode_none h
  | .eyeScan _ _ _ _, h => opcode_if rfl rfl h
  | .eyeScanDone _ _, h => opcode_none h
  | .adopt _ _ _ _, h => opcode_if rfl rfl h
  | .regRead _ _ _ _, h => opcode_if rfl rfl h
  | .regWrite _ _ _ _, h => opcode_if rfl rfl h
  | .regTimeout _ _, h => opcode_none h
  | .regResponse _ _ _ _ _ _, h => opcode_none h
  | .linePacket _ _ _ _ _ _, h => opcode_none h
  | .cameraEvent _ _ _, h => opcode_none h
  | .statusPacket _ _ _ _, h => opcode_none h
  | .cxpImagePacket _ _ _ _ _, h => opcode_none h
  | .cxpControlResponse _ _ _ _, h => opcode_none h
  | .trigAck _ _, h => opcode_none h
  | .cxpHeartbeat _ _ _, h => opcode_none h
  | .reasmWindow _ _ _, h => opcode_none h
  | .trigEnd _ _, h => opcode_none h
  | .seam _ _ _ _ _ _ _ _, h => opcode_none h
  | .cometPacket _ _ _ _, h => opcode_none h
  | .eventPacket _ _ _ _, h => opcode_none h
  | .linkStatus _ _ _ _, h => opcode_none h
  | .linkStatusSend _, h => opcode_none h
  | .linkStatusTimeout _ _, h => opcode_none h
  | .seamLate _ _ _, h => opcode_none h
  | .edgeLate _ _ _, h => opcode_none h
  | .countEdge _ _ _ _, h => opcode_none h
  | .indexEdge _ _, h => opcode_none h
  | .speedTimeout _ _, h => opcode_none h
  | .syntheticCount _ _, h => opcode_none h
  | .positionSet _ _ _ _, h => opcode_if rfl rfl h
  | .pgoPulse _ _, h => opcode_none h
  | .triggerHeldIssue _ _, h => opcode_none h
  | .frameLines _ _ _ _, h => opcode_if rfl rfl h
  | .lineCorrection _ _, h => opcode_none h
  | .calCaptureDark _ _ _, h => opcode_if rfl rfl h
  | .calCaptureFlat _ _ _, h => opcode_if rfl rfl h
  | .calCaptureTimeout _ _, h => opcode_none h
  | .stitchLine _ _ _, h => opcode_none h
  | .cometRelease _ _, h => opcode_none h
  | .fuseHold _ _, h => opcode_none h
  | .histClear _ _ _ _, h => opcode_if rfl rfl h
  | .build _ _ _ _, h => opcode_if rfl rfl h
  | .buildUnit _ _ _ _, h => opcode_none h
  | .buildTimeout _ _, h => opcode_none h
  | .tableVerify _ _ _, h => opcode_none h
  | .dispatch _, h => opcode_none h
  | .cropFetch _ _ _, h => opcode_none h
  | .runEnd _ _ _, h => opcode_none h
  | .tDecExpiry _ _, h => opcode_none h
  | .brickUpset _ _ _, h => opcode_none h
  | .sramError _ _ _ _, h => opcode_none h
  | .tileReset _ _, h => opcode_none h
  | .regionReset _ _, h => opcode_none h
  | .modelCheck _ _, h => opcode_none h
  | .norStored _ _, h => opcode_none h
  | .clear _ _ _ _, h => opcode_if rfl rfl h
  | .tickStart _ _, h => opcode_none h
  | .statusFrame _ _ _, h => opcode_none h
  | .statusJudge _ _, h => opcode_none h
  | .vbPresAssert _ _, h => opcode_none h
  | .vbPresRelease _ _, h => opcode_none h
  | .busStartIdle _ _, h => opcode_none h
  | .testEnable _ _ _ _, h => opcode_if rfl rfl h
  | .safeNAssert _, h => opcode_none h
  | .safeNRelease _, h => opcode_none h
  | .timedEdge _ _, h => opcode_none h
  | .edges _ _ _ _, h => opcode_if rfl rfl h
  | .flush _ _ _ _, h => opcode_if rfl rfl h
  | .hbmRequest _ _ _ _ _ _, h => opcode_none h
  | .lineWriteDrop _ _, h => opcode_none h
  | .stackTemperature _ _ _, h => opcode_none h
  | .refresh _ _, h => opcode_none h
  | .powerDown _ _, h => opcode_none h
  | .patrolScrub _ _ _, h => opcode_none h
  | .start _ _ _ _, h => opcode_if rfl rfl h
  | .stop _ _ _ _, h => opcode_if rfl rfl h
  | .flightEntry _, h => opcode_none h
  | .descriptorFetch _ _, h => opcode_none h
  | .followReady _ _, h => opcode_none h
  | .descriptorDone _ _, h => opcode_none h
  | .busError _ _, h => opcode_none h
  | .codecBlock _ _, h => opcode_none h
  | .checkUnitGrant _ _, h => opcode_none h
  | .eventDelivery _, h => opcode_none h
  | .ethLinkUp _ _, h => opcode_none h
  | .ethLinkDown _ _, h => opcode_none h
  | .arpFrame _ _ _ _ _ _, h => opcode_none h
  | .icmpEcho _ _ _ _, h => opcode_none h
  | .arpRetry _ _ _, h => opcode_none h
  | .arpRefresh _ _ _, h => opcode_none h
  | .arpExpiry _ _ _, h => opcode_none h
  | .sync _ _ _ _, h => opcode_none h
  | .announce _ _ _ _ _, h => opcode_none h
  | .ptpMessage _ _ _, h => opcode_none h
  | .ptpSend _ _ _, h => opcode_none h
  | .syncTimeout _, h => opcode_none h
  | .announceTimeout _ _, h => opcode_none h
  | .step _ _ _, h => opcode_some rfl rfl h
  | .stepWithdraw _, h => opcode_none h
  | .keyPress _ _, h => opcode_none h
  | .keyRelease _ _, h => opcode_none h
  | .longPress _ _, h => opcode_none h
  | .touchScan _ _, h => opcode_none h
  | .touchStuck _ _, h => opcode_none h
  | .lampBlink _ _, h => opcode_none h
  | .campwrFlt _ _, h => opcode_none h
  | .pwrRetry _ _, h => opcode_none h
  | .pwrStagger _, h => opcode_none h
  | .pwrEnable _ _ _ _, h => opcode_if rfl rfl h
  | .pwrReset _ _ _ _, h => opcode_if rfl rfl h
  | .clearRetirements _ _ _, h => opcode_some rfl rfl h
  | .preferred _ _ _, h => opcode_some rfl rfl h
  | .fwProgrammed _ _, h => opcode_none h
  | .dieBridgeFailure _, h => opcode_none h
  | .watchdog _, h => opcode_none h
  | .dmaParityError _ _, h => opcode_none h
  | .eventChannelParityError _ _, h => opcode_none h
  | .rxDropped _ _, h => opcode_none h

/-- A command that is a request completes in what executing the request gives, answered. -/
theorem request_served {i : Instr} {src : Src} {q : Req} {s w a : State} {x : Session} {ans : Answer}
    (h : i.request = some (src, q)) (hs : (s.advance i.dt).serves src q w x) (hm : movesPort q ans = false)
    (he : w.execute src x q = (a, ans)) : Completes i s (fun t => Answered a t src q ans) := by
  obtain ⟨ho, hc⟩ := request_opcode i h
  obtain ⟨ad, ha, e⟩ := exec_request i s h
  obtain ⟨n1, n2⟩ := request_normal i h
  refine State.run_completes e ha (fun t ht _ _ => ?_)
  have k := State.dictionary_served hs n1 n2 ho hc (by rw [he]; exact hm)
  rw [he] at k
  exact k.settled ht

/-- A request that the module hears is served (R56, R57, R65 to R67). -/
theorem State.hears_serves {u : State} {src : Src} {q : Req} (h : u.hears src q) : u.serves src q (u.heard src) (u.speaker src) := by
  obtain ⟨_, h⟩ := h
  cases src with
  | i3c tag => exact ⟨h.1, h.2, rfl, rfl⟩
  | ydp e ip port sess seq =>
    obtain ⟨h1, h2, h3, h4, h5, h6⟩ := h
    refine ⟨h1, h2, ?_, h4, h5, h6, rfl⟩
    cases hx : u.session? (.ydp sess) with
    | none => rw [hx] at h3; cases h3
    | some x => show some x = some ((u.session? (.ydp sess)).getD Session.i3c); rw [hx]; rfl

theorem State.hears_normal {u : State} {src : Src} {q : Req} (h : u.hears src q) : src.normal = src := h.1

/-- Checks 1 to 3 pass on an object that the part has. -/
theorem State.names.place {w : State} {q : Req} {r : ObjRow} (h : w.names q r) : w.place q.index q.at_ = .ok r := by
  obtain ⟨h1, h2, h3, h4⟩ := h
  unfold State.place
  rw [if_neg (Nat.not_le.mpr h3), h2, h1]
  simp only [Bool.not_true, Bool.false_eq_true, if_false, h4]

theorem levelOk_of {l : Level} {r : ObjRow} {b : Bool} (h : l ≠ .operator ∨ (r.level = .operator ∧ b = false)) :
    levelOk l r b = true := by
  unfold levelOk
  rcases h with h | ⟨h1, h2⟩
  · simp only [h, ne_eq, not_false_eq_true, decide_true, Bool.true_or]
  · simp only [h1, h2, decide_true, Bool.not_false, Bool.and_self, Bool.or_true]

/-- A read whose conditions hold passes checks 1 to 6. -/
theorem State.acceptsRead.admits {w : State} {x : Session} {q : Req} {r : ObjRow} (h : w.acceptsRead x q r) :
    w.admitRead x q.index q.at_ = .ok r := by
  obtain ⟨hn, hl, ha, hm⟩ := h
  unfold State.admitRead
  rw [hn.place]
  dsimp only
  rw [levelOk_of (hl.imp id (fun k => ⟨k, rfl⟩))]
  simp only [Bool.not_true, Bool.false_eq_true, if_false, ha]
  rw [if_pos]
  rcases hm with h | h <;> simp only [h, Bool.true_or, Bool.or_true]

/-- A WRITE whose conditions hold passes checks 1 to 7. -/
theorem State.acceptsWrite.admits {w : State} {src : Src} {x : Session} {q : Req} {r : ObjRow} (h : w.acceptsWrite src x q r) :
    w.admitWrite x q.index q.at_ .whole q.data = .ok r := by
  obtain ⟨_, hn, hl, ha, hm, ht, hi, hf, hs, _, _, _⟩ := h
  have hl' : levelOk x.level r (decide (objKey q.index q.at_ = Obj.stgStaging) && decide (leNat q.data = 3)) = true :=
    levelOk_of (hl.imp id (fun k => ⟨k.1, by
      have := k.2
      unfold Req.key at this
      by_cases h1 : objKey q.index q.at_ = Obj.stgStaging
      · by_cases h2 : leNat q.data = 3
        · exact absurd ⟨h1, h2⟩ this
        · simp only [h2, decide_false, Bool.and_false]
      · simp only [h1, decide_false, Bool.false_and]⟩))
  have h6 : w.check6Code x.id r (objKey q.index q.at_) .whole q.data = none := by
    unfold Req.key at hm ht hi hf
    unfold State.check6Code
    rw [hm, ht, hf, if_neg (by decide), if_neg]
    rintro (h | ⟨h1, h2⟩ | h)
    · cases h
    · exact hi h1 h2
    · cases h
  unfold State.admitWrite
  rw [hn.place]
  dsimp only
  rw [hl', ha, h6]
  unfold Req.key at hs
  dsimp only
  rw [hs]
  rfl

/-- Its value has a length that check 8 passes. -/
theorem State.acceptsWrite.writeLength {w : State} {src : Src} {x : Session} {q : Req} {r : ObjRow} (h : w.acceptsWrite src x q r) :
    writeLength src r q.data.length = none := by
  have hl := h.length
  unfold Machine.writeLength ObjRow.lengthCode
  rw [if_neg h.type]
  by_cases hz : r.ty.size = 0
  · rw [if_pos hz] at hl
    rw [if_neg (by intro k; omega), if_pos hz, if_neg]
    rintro ⟨k1, k2⟩
    rcases hl.2 with k | k
    · omega
    · rw [k] at k2; cases k2
  · rw [if_neg hz] at hl
    rw [if_neg (fun k => hz k.1), if_neg hz, if_pos hl]

/-- Checks 1 to 3 pass only on an object that the part has. -/
theorem State.names_of_place {w : State} {q : Req} {r : ObjRow} (h : w.place q.index q.at_ = .ok r) : w.names q r := by
  unfold State.place at h
  split at h
  · cases h
  · rename_i h3
    split at h
    · cases h
    · rename_i h2
      cases ho : objectRow q.index q.at_ with
      | none => rw [ho] at h; cases h
      | some x =>
        rw [ho] at h
        dsimp only at h
        split at h
        · cases h
        · rename_i h4
          cases h
          refine ⟨ho, ?_, Nat.not_le.mp h3, ?_⟩
          · simpa only [Bool.not_eq_true', Bool.not_eq_false] using h2
          · simpa only [Bool.not_eq_true] using h4

theorem of_levelOk {l : Level} {r : ObjRow} {b : Bool} (h : levelOk l r b = true) : l ≠ .operator ∨ (r.level = .operator ∧ b = false) := by
  unfold levelOk at h
  simpa only [Bool.or_eq_true, Bool.and_eq_true, decide_eq_true_eq, Bool.not_eq_true'] using h

/-- The conditions of a read are those of checks 1 to 6. -/
theorem State.acceptsRead_of {w : State} {x : Session} {q : Req} {r : ObjRow} (h : w.admitRead x q.index q.at_ = .ok r) :
    w.acceptsRead x q r := by
  unfold State.admitRead at h
  cases hp : w.place q.index q.at_ with
  | error c => rw [hp] at h; cases h
  | ok y =>
    rw [hp] at h
    dsimp only at h
    split at h
    · cases h
    · rename_i h1
      split at h
      · cases h
      · rename_i h2
        split at h
        · rename_i h3
          cases h
          simp only [Bool.not_eq_true', Bool.not_eq_false] at h1
          exact ⟨State.names_of_place hp, (of_levelOk h1).imp id (fun k => k.1), h2, Bool.or_eq_true_iff.mp h3⟩
        · cases h

/-- The conditions of a WRITE are those of checks 1 to 9. -/
theorem State.acceptsWrite_of {w : State} {src : Src} {x : Session} {q : Req} {r : ObjRow} (ho : q.opcode = Op.write)
    (h : w.admitWrite x q.index q.at_ .whole q.data = .ok r) (hl : Machine.writeLength src r q.data.length = none)
    (h9 : w.check9Ok r q.key q.data = true) : w.acceptsWrite src x q r := by
  unfold State.admitWrite at h
  cases hp : w.place q.index q.at_ with
  | error c => rw [hp] at h; cases h
  | ok y =>
    rw [hp] at h
    dsimp only at h
    split at h
    · cases h
    · rename_i h1
      split at h
      · cases h
      · rename_i h2
        cases h6 : w.check6Code x.id y (objKey q.index q.at_) .whole q.data with
        | some c => rw [h6] at h; cases h
        | none =>
          rw [h6] at h
          dsimp only at h
          cases h7 : w.check7Code x.id y (objKey q.index q.at_) q.data with
          | some c => rw [h7] at h; cases h
          | none =>
            rw [h7] at h
            cases h
            simp only [Bool.not_eq_true', Bool.not_eq_false] at h1
            unfold State.check6Code at h6
            split at h6
            · cases h6
            · rename_i h6a
              split at h6
              · cases h6
              · rename_i h6b
                simp only [not_or, Bool.not_eq_true, not_and] at h6b
                obtain ⟨g1, g2, g3⟩ := h6b
                unfold Machine.writeLength at hl
                split at hl
                · cases hl
                · rename_i hb
                  split at hl
                  · cases hl
                  · rename_i hz
                    refine ⟨ho, State.names_of_place hp, (of_levelOk h1).imp id (fun k => ⟨k.1, fun e => ?_⟩), by simpa using h2,
                      by unfold Req.key; simpa using h6a, g1, g2, g3, h7, hb, ?_, h9⟩
                    · have e1 : objKey q.index q.at_ = Obj.stgStaging := e.1
                      have := k.2
                      simp [e1, e.2] at this
                    · unfold ObjRow.lengthCode at hl
                      split
                      · rename_i k
                        rw [if_pos k] at hl
                        split at hl
                        · cases hl
                        · rename_i m
                          simp only [Bool.not_eq_true', not_and, Bool.not_eq_false] at m
                          refine ⟨Nat.not_lt.mp (fun n => hz ⟨k, n⟩), ?_⟩
                          by_cases n : r.maxLen < q.data.length
                          · exact .inr (m n)
                          · exact .inl (Nat.not_lt.mp n)
                      · rename_i k
                        rw [if_neg k] at hl
                        split at hl
                        · assumption
                        · cases hl

/-- A WRITE that passes its checks is applied. -/
theorem execute_write {w : State} {src : Src} {x : Session} {q : Req} {r : ObjRow} (h : w.acceptsWrite src x q r) :
    w.execute src x q = ((w.requestSeen.applyWrite src r q.key q.data).1, Answer.of (w.requestSeen.applyWrite src r q.key q.data).2) := by
  have h1 := h.opcode
  have h2 : w.admitWrite x q.index (Catalog.subOf q.index q.sub) .whole q.data = .ok r := h.admits
  have h3 := h.writeLength
  have h4 := h.value
  unfold Req.key Req.at_ at *
  unfold State.execute State.executeAt
  rw [if_neg (by rw [h1]; decide), if_pos h1]
  unfold State.doWrite
  simp only [h2, h3, h4, if_true]

/-- What an accepted request moves besides its effect (R481, R482): power, lanes, HBM, DMA channels and LAST_WAKE. -/
structure Woken (a b : State) : Prop where
  same : ({ b with power := a.power, lanes := a.lanes, hbm := a.hbm, dma := a.dma, dict := a.dict } : State) = a
  dict : ({ b.dict with inForce := a.dict.inForce } : Dict) = a.dict
  get : ∀ key, key ≠ Obj.pwLastWake → Kv.get? b.dict.inForce key = Kv.get? a.dict.inForce key

namespace Woken

theorem refl (a : State) : Woken a a := ⟨rfl, rfl, fun _ _ => rfl⟩

theorem trans {a b c : State} (h : Woken a b) (k : Woken b c) : Woken a c := by
  refine ⟨?_, ?_, fun key e => (k.get key e).trans (h.get key e)⟩
  · have e := congrArg (fun (s : State) =>
      ({ s with power := a.power, lanes := a.lanes, hbm := a.hbm, dma := a.dma, dict := a.dict } : State)) k.same
    exact e.trans h.same
  · have e := congrArg (fun (d : Dict) => ({ d with inForce := a.dict.inForce } : Dict)) k.dict
    exact e.trans h.dict

theorem fold {α : Type} {f : State → α → State} (h : ∀ s x, Woken s (f s x)) (l : List α) (s : State) : Woken s (l.foldl f s) := by
  induction l generalizing s with
  | nil => exact refl s
  | cons x r ih => exact (h s x).trans (ih (f s x))

theorem modPower (s : State) (f : PowerSys → PowerSys) : Woken s (s.modPower f) := ⟨rfl, rfl, fun _ _ => rfl⟩
theorem modHbm (s : State) (f : Hbm → Hbm) : Woken s (s.modHbm f) := ⟨rfl, rfl, fun _ _ => rfl⟩
theorem modEngine (s : State) (f : DmaEngine → DmaEngine) : Woken s (s.modEngine f) := ⟨rfl, rfl, fun _ _ => rfl⟩
theorem powerLanes (s : State) : Woken s s.powerLanes := fold (f := State.powerLane) (fun _ _ => ⟨rfl, rfl, fun _ _ => rfl⟩) _ s
theorem lastWake (s : State) (n : Nat) : Woken s (s.putNum Obj.pwLastWake n) :=
  ⟨rfl, rfl, fun _ h => Kv.get?_put_other _ _ h⟩

theorem leaveDoze (s : State) (c : WakeCause) : Woken s (s.leaveDoze c) := by
  unfold State.leaveDoze
  split
  · have h := (modPower s (fun p => { p with
      state := if p.state = .doze then .active else p.state, target := none, entering := false })).trans
        (lastWake _ (wakeCode c))
    refine trans ?_ (modEngine _ _)
    split
    · exact (h.trans (modHbm _ _)).trans (powerLanes _)
    · exact h
  · exact refl s

theorem requestSeen (s : State) : Woken s s.requestSeen := (leaveDoze s .dictionary).trans (modPower _ _)

theorem ctl {a b : State} (h : Woken a b) : b.ctl = a.ctl := by
  have e := congrArg State.ctl h.same
  exact e
theorem clk {a b : State} (h : Woken a b) : b.clk = a.clk := by
  have e := congrArg State.clk h.same
  exact e
theorem free {a b : State} (h : Woken a b) : b.free = a.free := by
  have e := congrArg State.free h.same
  exact e
theorem pins {a b : State} (h : Woken a b) : b.pins = a.pins := by
  have e := congrArg State.pins h.same
  exact e
theorem num {a b : State} (h : Woken a b) {key : Nat} (hk : key ≠ Obj.pwLastWake) : b.num key = a.num key := by
  unfold State.num State.val State.valIn State.dfltOf
  rw [h.get key hk, h.ctl, h.pins]

end Woken

/-- The row of an object that a request has found. -/
theorem place_row {w : State} {index sub : Nat} {r : ObjRow} (h : w.place index sub = .ok r) : objectRow index sub = some r := by
  unfold State.place at h
  split at h
  · cases h
  · split at h
    · cases h
    · cases ho : objectRow index sub with
      | none => rw [ho] at h; cases h
      | some r0 =>
        rw [ho] at h
        dsimp only at h
        split at h
        · cases h
        · cases h; rfl

theorem admitRead_row {w : State} {x : Session} {index sub : Nat} {r : ObjRow} (h : w.admitRead x index sub = .ok r) :
    objectRow index sub = some r := by
  unfold State.admitRead at h
  cases hp : w.place index sub with
  | error c => rw [hp] at h; cases h
  | ok r0 =>
    rw [hp] at h
    dsimp only at h
    repeat (split at h; · cases h)
    split at h
    · cases h; exact place_row hp
    · cases h

theorem admitWrite_row {w : State} {x : Session} {index sub : Nat} {ph : Phase} {data : Bytes} {r : ObjRow}
    (h : w.admitWrite x index sub ph data = .ok r) : objectRow index sub = some r := by
  unfold State.admitWrite at h
  cases hp : w.place index sub with
  | error c => rw [hp] at h; cases h
  | ok r0 =>
    rw [hp] at h
    dsimp only at h
    split at h
    · cases h
    · split at h
      · cases h
      · split at h
        · cases h
        · split at h
          · cases h
          · cases h; exact place_row hp

end Sys2Proof.Machine
end

