-- ==== Sys2Proof/Laws/State.lean ====
section
/-! SUPPORT. One lemma per field and update of the state, true by its definition, so that no proof unfolds a record. -/

namespace Sys2Proof.Machine

variable (s : State)

/-! ### State.elapse -/

@[simp] theorem State.elapse_clk (dt : Nat) : (s.elapse dt).clk = s.clk + dt := rfl
@[simp] theorem State.elapse_timeOffset (dt : Nat) : (s.elapse dt).timeOffset = s.timeOffset := rfl
@[simp] theorem State.elapse_free (dt : Nat) : (s.elapse dt).free = s.free := rfl
@[simp] theorem State.elapse_out (dt : Nat) : (s.elapse dt).out = [] := rfl
@[simp] theorem State.elapse_pending (dt : Nat) : (s.elapse dt).pending = s.pending := rfl
@[simp] theorem State.elapse_ctl (dt : Nat) : (s.elapse dt).ctl = s.ctl := rfl
@[simp] theorem State.elapse_dict (dt : Nat) : (s.elapse dt).dict = s.dict := rfl
@[simp] theorem State.elapse_lanes (dt : Nat) : (s.elapse dt).lanes = s.lanes := rfl
@[simp] theorem State.elapse_ports (dt : Nat) : (s.elapse dt).ports = s.ports := rfl
@[simp] theorem State.elapse_regions (dt : Nat) : (s.elapse dt).regions = s.regions := rfl
@[simp] theorem State.elapse_triggers (dt : Nat) : (s.elapse dt).triggers = s.triggers := rfl
@[simp] theorem State.elapse_encoders (dt : Nat) : (s.elapse dt).encoders = s.encoders := rfl
@[simp] theorem State.elapse_pgos (dt : Nat) : (s.elapse dt).pgos = s.pgos := rfl
@[simp] theorem State.elapse_views (dt : Nat) : (s.elapse dt).views = s.views := rfl
@[simp] theorem State.elapse_cics (dt : Nat) : (s.elapse dt).cics = s.cics := rfl
@[simp] theorem State.elapse_slots (dt : Nat) : (s.elapse dt).slots = s.slots := rfl
@[simp] theorem State.elapse_tiles (dt : Nat) : (s.elapse dt).tiles = s.tiles := rfl
@[simp] theorem State.elapse_dispatchQueue (dt : Nat) : (s.elapse dt).dispatchQueue = s.dispatchQueue := rfl
@[simp] theorem State.elapse_entries (dt : Nat) : (s.elapse dt).entries = s.entries := rfl
@[simp] theorem State.elapse_candidates (dt : Nat) : (s.elapse dt).candidates = s.candidates := rfl
@[simp] theorem State.elapse_buses (dt : Nat) : (s.elapse dt).buses = s.buses := rfl
@[simp] theorem State.elapse_touts (dt : Nat) : (s.elapse dt).touts = s.touts := rfl
@[simp] theorem State.elapse_hbm (dt : Nat) : (s.elapse dt).hbm = s.hbm := rfl
@[simp] theorem State.elapse_dma (dt : Nat) : (s.elapse dt).dma = s.dma := rfl
@[simp] theorem State.elapse_fabric (dt : Nat) : (s.elapse dt).fabric = s.fabric := rfl
@[simp] theorem State.elapse_eths (dt : Nat) : (s.elapse dt).eths = s.eths := rfl
@[simp] theorem State.elapse_servo (dt : Nat) : (s.elapse dt).servo = s.servo := rfl
@[simp] theorem State.elapse_power (dt : Nat) : (s.elapse dt).power = s.power := rfl
@[simp] theorem State.elapse_pins (dt : Nat) : (s.elapse dt).pins = s.pins := rfl
@[simp] theorem State.elapse_bridge (dt : Nat) : (s.elapse dt).bridge = s.bridge := rfl

/-! ### State.emit -/

@[simp] theorem State.emit_clk (e : Emission) : (s.emit e).clk = s.clk := rfl
@[simp] theorem State.emit_timeOffset (e : Emission) : (s.emit e).timeOffset = s.timeOffset := rfl
@[simp] theorem State.emit_free (e : Emission) : (s.emit e).free = s.free := rfl
@[simp] theorem State.emit_out (e : Emission) : (s.emit e).out = s.out ++ [e] := rfl
@[simp] theorem State.emit_pending (e : Emission) : (s.emit e).pending = s.pending := rfl
@[simp] theorem State.emit_ctl (e : Emission) : (s.emit e).ctl = s.ctl := rfl
@[simp] theorem State.emit_dict (e : Emission) : (s.emit e).dict = s.dict := rfl
@[simp] theorem State.emit_lanes (e : Emission) : (s.emit e).lanes = s.lanes := rfl
@[simp] theorem State.emit_ports (e : Emission) : (s.emit e).ports = s.ports := rfl
@[simp] theorem State.emit_regions (e : Emission) : (s.emit e).regions = s.regions := rfl
@[simp] theorem State.emit_triggers (e : Emission) : (s.emit e).triggers = s.triggers := rfl
@[simp] theorem State.emit_encoders (e : Emission) : (s.emit e).encoders = s.encoders := rfl
@[simp] theorem State.emit_pgos (e : Emission) : (s.emit e).pgos = s.pgos := rfl
@[simp] theorem State.emit_views (e : Emission) : (s.emit e).views = s.views := rfl
@[simp] theorem State.emit_cics (e : Emission) : (s.emit e).cics = s.cics := rfl
@[simp] theorem State.emit_slots (e : Emission) : (s.emit e).slots = s.slots := rfl
@[simp] theorem State.emit_tiles (e : Emission) : (s.emit e).tiles = s.tiles := rfl
@[simp] theorem State.emit_dispatchQueue (e : Emission) : (s.emit e).dispatchQueue = s.dispatchQueue := rfl
@[simp] theorem State.emit_entries (e : Emission) : (s.emit e).entries = s.entries := rfl
@[simp] theorem State.emit_candidates (e : Emission) : (s.emit e).candidates = s.candidates := rfl
@[simp] theorem State.emit_buses (e : Emission) : (s.emit e).buses = s.buses := rfl
@[simp] theorem State.emit_touts (e : Emission) : (s.emit e).touts = s.touts := rfl
@[simp] theorem State.emit_hbm (e : Emission) : (s.emit e).hbm = s.hbm := rfl
@[simp] theorem State.emit_dma (e : Emission) : (s.emit e).dma = s.dma := rfl
@[simp] theorem State.emit_fabric (e : Emission) : (s.emit e).fabric = s.fabric := rfl
@[simp] theorem State.emit_eths (e : Emission) : (s.emit e).eths = s.eths := rfl
@[simp] theorem State.emit_servo (e : Emission) : (s.emit e).servo = s.servo := rfl
@[simp] theorem State.emit_power (e : Emission) : (s.emit e).power = s.power := rfl
@[simp] theorem State.emit_pins (e : Emission) : (s.emit e).pins = s.pins := rfl
@[simp] theorem State.emit_bridge (e : Emission) : (s.emit e).bridge = s.bridge := rfl

/-! ### State.drawn -/

@[simp] theorem State.drawn_clk : (s.drawn).clk = s.clk := rfl
@[simp] theorem State.drawn_timeOffset : (s.drawn).timeOffset = s.timeOffset := rfl
@[simp] theorem State.drawn_free : (s.drawn).free = s.free + 1 := rfl
@[simp] theorem State.drawn_out : (s.drawn).out = s.out := rfl
@[simp] theorem State.drawn_pending : (s.drawn).pending = s.pending := rfl
@[simp] theorem State.drawn_ctl : (s.drawn).ctl = s.ctl := rfl
@[simp] theorem State.drawn_dict : (s.drawn).dict = s.dict := rfl
@[simp] theorem State.drawn_lanes : (s.drawn).lanes = s.lanes := rfl
@[simp] theorem State.drawn_ports : (s.drawn).ports = s.ports := rfl
@[simp] theorem State.drawn_regions : (s.drawn).regions = s.regions := rfl
@[simp] theorem State.drawn_triggers : (s.drawn).triggers = s.triggers := rfl
@[simp] theorem State.drawn_encoders : (s.drawn).encoders = s.encoders := rfl
@[simp] theorem State.drawn_pgos : (s.drawn).pgos = s.pgos := rfl
@[simp] theorem State.drawn_views : (s.drawn).views = s.views := rfl
@[simp] theorem State.drawn_cics : (s.drawn).cics = s.cics := rfl
@[simp] theorem State.drawn_slots : (s.drawn).slots = s.slots := rfl
@[simp] theorem State.drawn_tiles : (s.drawn).tiles = s.tiles := rfl
@[simp] theorem State.drawn_dispatchQueue : (s.drawn).dispatchQueue = s.dispatchQueue := rfl
@[simp] theorem State.drawn_entries : (s.drawn).entries = s.entries := rfl
@[simp] theorem State.drawn_candidates : (s.drawn).candidates = s.candidates := rfl
@[simp] theorem State.drawn_buses : (s.drawn).buses = s.buses := rfl
@[simp] theorem State.drawn_touts : (s.drawn).touts = s.touts := rfl
@[simp] theorem State.drawn_hbm : (s.drawn).hbm = s.hbm := rfl
@[simp] theorem State.drawn_dma : (s.drawn).dma = s.dma := rfl
@[simp] theorem State.drawn_fabric : (s.drawn).fabric = s.fabric := rfl
@[simp] theorem State.drawn_eths : (s.drawn).eths = s.eths := rfl
@[simp] theorem State.drawn_servo : (s.drawn).servo = s.servo := rfl
@[simp] theorem State.drawn_power : (s.drawn).power = s.power := rfl
@[simp] theorem State.drawn_pins : (s.drawn).pins = s.pins := rfl
@[simp] theorem State.drawn_bridge : (s.drawn).bridge = s.bridge := rfl

/-! ### State.putVal -/

@[simp] theorem State.putVal_clk (key : Nat) (v : Val) : (s.putVal key v).clk = s.clk := rfl
@[simp] theorem State.putVal_timeOffset (key : Nat) (v : Val) : (s.putVal key v).timeOffset = s.timeOffset := rfl
@[simp] theorem State.putVal_free (key : Nat) (v : Val) : (s.putVal key v).free = s.free := rfl
@[simp] theorem State.putVal_out (key : Nat) (v : Val) : (s.putVal key v).out = s.out := rfl
@[simp] theorem State.putVal_pending (key : Nat) (v : Val) : (s.putVal key v).pending = s.pending := rfl
@[simp] theorem State.putVal_ctl (key : Nat) (v : Val) : (s.putVal key v).ctl = s.ctl := rfl
@[simp] theorem State.putVal_dict (key : Nat) (v : Val) : (s.putVal key v).dict = { s.dict with inForce := Kv.put s.dict.inForce key v } := rfl
@[simp] theorem State.putVal_lanes (key : Nat) (v : Val) : (s.putVal key v).lanes = s.lanes := rfl
@[simp] theorem State.putVal_ports (key : Nat) (v : Val) : (s.putVal key v).ports = s.ports := rfl
@[simp] theorem State.putVal_regions (key : Nat) (v : Val) : (s.putVal key v).regions = s.regions := rfl
@[simp] theorem State.putVal_triggers (key : Nat) (v : Val) : (s.putVal key v).triggers = s.triggers := rfl
@[simp] theorem State.putVal_encoders (key : Nat) (v : Val) : (s.putVal key v).encoders = s.encoders := rfl
@[simp] theorem State.putVal_pgos (key : Nat) (v : Val) : (s.putVal key v).pgos = s.pgos := rfl
@[simp] theorem State.putVal_views (key : Nat) (v : Val) : (s.putVal key v).views = s.views := rfl
@[simp] theorem State.putVal_cics (key : Nat) (v : Val) : (s.putVal key v).cics = s.cics := rfl
@[simp] theorem State.putVal_slots (key : Nat) (v : Val) : (s.putVal key v).slots = s.slots := rfl
@[simp] theorem State.putVal_tiles (key : Nat) (v : Val) : (s.putVal key v).tiles = s.tiles := rfl
@[simp] theorem State.putVal_dispatchQueue (key : Nat) (v : Val) : (s.putVal key v).dispatchQueue = s.dispatchQueue := rfl
@[simp] theorem State.putVal_entries (key : Nat) (v : Val) : (s.putVal key v).entries = s.entries := rfl
@[simp] theorem State.putVal_candidates (key : Nat) (v : Val) : (s.putVal key v).candidates = s.candidates := rfl
@[simp] theorem State.putVal_buses (key : Nat) (v : Val) : (s.putVal key v).buses = s.buses := rfl
@[simp] theorem State.putVal_touts (key : Nat) (v : Val) : (s.putVal key v).touts = s.touts := rfl
@[simp] theorem State.putVal_hbm (key : Nat) (v : Val) : (s.putVal key v).hbm = s.hbm := rfl
@[simp] theorem State.putVal_dma (key : Nat) (v : Val) : (s.putVal key v).dma = s.dma := rfl
@[simp] theorem State.putVal_fabric (key : Nat) (v : Val) : (s.putVal key v).fabric = s.fabric := rfl
@[simp] theorem State.putVal_eths (key : Nat) (v : Val) : (s.putVal key v).eths = s.eths := rfl
@[simp] theorem State.putVal_servo (key : Nat) (v : Val) : (s.putVal key v).servo = s.servo := rfl
@[simp] theorem State.putVal_power (key : Nat) (v : Val) : (s.putVal key v).power = s.power := rfl
@[simp] theorem State.putVal_pins (key : Nat) (v : Val) : (s.putVal key v).pins = s.pins := rfl
@[simp] theorem State.putVal_bridge (key : Nat) (v : Val) : (s.putVal key v).bridge = s.bridge := rfl

/-! ### State.putNum -/

@[simp] theorem State.putNum_clk (key n : Nat) : (s.putNum key n).clk = s.clk := rfl
@[simp] theorem State.putNum_timeOffset (key n : Nat) : (s.putNum key n).timeOffset = s.timeOffset := rfl
@[simp] theorem State.putNum_free (key n : Nat) : (s.putNum key n).free = s.free := rfl
@[simp] theorem State.putNum_out (key n : Nat) : (s.putNum key n).out = s.out := rfl
@[simp] theorem State.putNum_pending (key n : Nat) : (s.putNum key n).pending = s.pending := rfl
@[simp] theorem State.putNum_ctl (key n : Nat) : (s.putNum key n).ctl = s.ctl := rfl
@[simp] theorem State.putNum_dict (key n : Nat) : (s.putNum key n).dict = { s.dict with inForce := Kv.put s.dict.inForce key (.num n) } := rfl
@[simp] theorem State.putNum_lanes (key n : Nat) : (s.putNum key n).lanes = s.lanes := rfl
@[simp] theorem State.putNum_ports (key n : Nat) : (s.putNum key n).ports = s.ports := rfl
@[simp] theorem State.putNum_regions (key n : Nat) : (s.putNum key n).regions = s.regions := rfl
@[simp] theorem State.putNum_triggers (key n : Nat) : (s.putNum key n).triggers = s.triggers := rfl
@[simp] theorem State.putNum_encoders (key n : Nat) : (s.putNum key n).encoders = s.encoders := rfl
@[simp] theorem State.putNum_pgos (key n : Nat) : (s.putNum key n).pgos = s.pgos := rfl
@[simp] theorem State.putNum_views (key n : Nat) : (s.putNum key n).views = s.views := rfl
@[simp] theorem State.putNum_cics (key n : Nat) : (s.putNum key n).cics = s.cics := rfl
@[simp] theorem State.putNum_slots (key n : Nat) : (s.putNum key n).slots = s.slots := rfl
@[simp] theorem State.putNum_tiles (key n : Nat) : (s.putNum key n).tiles = s.tiles := rfl
@[simp] theorem State.putNum_dispatchQueue (key n : Nat) : (s.putNum key n).dispatchQueue = s.dispatchQueue := rfl
@[simp] theorem State.putNum_entries (key n : Nat) : (s.putNum key n).entries = s.entries := rfl
@[simp] theorem State.putNum_candidates (key n : Nat) : (s.putNum key n).candidates = s.candidates := rfl
@[simp] theorem State.putNum_buses (key n : Nat) : (s.putNum key n).buses = s.buses := rfl
@[simp] theorem State.putNum_touts (key n : Nat) : (s.putNum key n).touts = s.touts := rfl
@[simp] theorem State.putNum_hbm (key n : Nat) : (s.putNum key n).hbm = s.hbm := rfl
@[simp] theorem State.putNum_dma (key n : Nat) : (s.putNum key n).dma = s.dma := rfl
@[simp] theorem State.putNum_fabric (key n : Nat) : (s.putNum key n).fabric = s.fabric := rfl
@[simp] theorem State.putNum_eths (key n : Nat) : (s.putNum key n).eths = s.eths := rfl
@[simp] theorem State.putNum_servo (key n : Nat) : (s.putNum key n).servo = s.servo := rfl
@[simp] theorem State.putNum_power (key n : Nat) : (s.putNum key n).power = s.power := rfl
@[simp] theorem State.putNum_pins (key n : Nat) : (s.putNum key n).pins = s.pins := rfl
@[simp] theorem State.putNum_bridge (key n : Nat) : (s.putNum key n).bridge = s.bridge := rfl

/-! ### State.putKept -/

@[simp] theorem State.putKept_clk (key : Nat) (v : Val) : (s.putKept key v).clk = s.clk := rfl
@[simp] theorem State.putKept_timeOffset (key : Nat) (v : Val) : (s.putKept key v).timeOffset = s.timeOffset := rfl
@[simp] theorem State.putKept_free (key : Nat) (v : Val) : (s.putKept key v).free = s.free := rfl
@[simp] theorem State.putKept_out (key : Nat) (v : Val) : (s.putKept key v).out = s.out := rfl
@[simp] theorem State.putKept_pending (key : Nat) (v : Val) : (s.putKept key v).pending = s.pending := rfl
@[simp] theorem State.putKept_ctl (key : Nat) (v : Val) : (s.putKept key v).ctl = s.ctl := rfl
@[simp] theorem State.putKept_dict (key : Nat) (v : Val) : (s.putKept key v).dict = { s.dict.slotted key with inForce := Kv.put s.dict.inForce key v, mram := Kv.put s.dict.mram key v } := rfl
@[simp] theorem State.putKept_lanes (key : Nat) (v : Val) : (s.putKept key v).lanes = s.lanes := rfl
@[simp] theorem State.putKept_ports (key : Nat) (v : Val) : (s.putKept key v).ports = s.ports := rfl
@[simp] theorem State.putKept_regions (key : Nat) (v : Val) : (s.putKept key v).regions = s.regions := rfl
@[simp] theorem State.putKept_triggers (key : Nat) (v : Val) : (s.putKept key v).triggers = s.triggers := rfl
@[simp] theorem State.putKept_encoders (key : Nat) (v : Val) : (s.putKept key v).encoders = s.encoders := rfl
@[simp] theorem State.putKept_pgos (key : Nat) (v : Val) : (s.putKept key v).pgos = s.pgos := rfl
@[simp] theorem State.putKept_views (key : Nat) (v : Val) : (s.putKept key v).views = s.views := rfl
@[simp] theorem State.putKept_cics (key : Nat) (v : Val) : (s.putKept key v).cics = s.cics := rfl
@[simp] theorem State.putKept_slots (key : Nat) (v : Val) : (s.putKept key v).slots = s.slots := rfl
@[simp] theorem State.putKept_tiles (key : Nat) (v : Val) : (s.putKept key v).tiles = s.tiles := rfl
@[simp] theorem State.putKept_dispatchQueue (key : Nat) (v : Val) : (s.putKept key v).dispatchQueue = s.dispatchQueue := rfl
@[simp] theorem State.putKept_entries (key : Nat) (v : Val) : (s.putKept key v).entries = s.entries := rfl
@[simp] theorem State.putKept_candidates (key : Nat) (v : Val) : (s.putKept key v).candidates = s.candidates := rfl
@[simp] theorem State.putKept_buses (key : Nat) (v : Val) : (s.putKept key v).buses = s.buses := rfl
@[simp] theorem State.putKept_touts (key : Nat) (v : Val) : (s.putKept key v).touts = s.touts := rfl
@[simp] theorem State.putKept_hbm (key : Nat) (v : Val) : (s.putKept key v).hbm = s.hbm := rfl
@[simp] theorem State.putKept_dma (key : Nat) (v : Val) : (s.putKept key v).dma = s.dma := rfl
@[simp] theorem State.putKept_fabric (key : Nat) (v : Val) : (s.putKept key v).fabric = s.fabric := rfl
@[simp] theorem State.putKept_eths (key : Nat) (v : Val) : (s.putKept key v).eths = s.eths := rfl
@[simp] theorem State.putKept_servo (key : Nat) (v : Val) : (s.putKept key v).servo = s.servo := rfl
@[simp] theorem State.putKept_power (key : Nat) (v : Val) : (s.putKept key v).power = s.power := rfl
@[simp] theorem State.putKept_pins (key : Nat) (v : Val) : (s.putKept key v).pins = s.pins := rfl
@[simp] theorem State.putKept_bridge (key : Nat) (v : Val) : (s.putKept key v).bridge = s.bridge := rfl

/-! ### State.modLane -/

@[simp] theorem State.modLane_clk (n : Nat) (f : Lane → Lane) : (s.modLane n f).clk = s.clk := rfl
@[simp] theorem State.modLane_timeOffset (n : Nat) (f : Lane → Lane) : (s.modLane n f).timeOffset = s.timeOffset := rfl
@[simp] theorem State.modLane_free (n : Nat) (f : Lane → Lane) : (s.modLane n f).free = s.free := rfl
@[simp] theorem State.modLane_out (n : Nat) (f : Lane → Lane) : (s.modLane n f).out = s.out := rfl
@[simp] theorem State.modLane_pending (n : Nat) (f : Lane → Lane) : (s.modLane n f).pending = s.pending := rfl
@[simp] theorem State.modLane_ctl (n : Nat) (f : Lane → Lane) : (s.modLane n f).ctl = s.ctl := rfl
@[simp] theorem State.modLane_dict (n : Nat) (f : Lane → Lane) : (s.modLane n f).dict = s.dict := rfl
@[simp] theorem State.modLane_lanes (n : Nat) (f : Lane → Lane) : (s.modLane n f).lanes = s.lanes.modify n f := rfl
@[simp] theorem State.modLane_ports (n : Nat) (f : Lane → Lane) : (s.modLane n f).ports = s.ports := rfl
@[simp] theorem State.modLane_regions (n : Nat) (f : Lane → Lane) : (s.modLane n f).regions = s.regions := rfl
@[simp] theorem State.modLane_triggers (n : Nat) (f : Lane → Lane) : (s.modLane n f).triggers = s.triggers := rfl
@[simp] theorem State.modLane_encoders (n : Nat) (f : Lane → Lane) : (s.modLane n f).encoders = s.encoders := rfl
@[simp] theorem State.modLane_pgos (n : Nat) (f : Lane → Lane) : (s.modLane n f).pgos = s.pgos := rfl
@[simp] theorem State.modLane_views (n : Nat) (f : Lane → Lane) : (s.modLane n f).views = s.views := rfl
@[simp] theorem State.modLane_cics (n : Nat) (f : Lane → Lane) : (s.modLane n f).cics = s.cics := rfl
@[simp] theorem State.modLane_slots (n : Nat) (f : Lane → Lane) : (s.modLane n f).slots = s.slots := rfl
@[simp] theorem State.modLane_tiles (n : Nat) (f : Lane → Lane) : (s.modLane n f).tiles = s.tiles := rfl
@[simp] theorem State.modLane_dispatchQueue (n : Nat) (f : Lane → Lane) : (s.modLane n f).dispatchQueue = s.dispatchQueue := rfl
@[simp] theorem State.modLane_entries (n : Nat) (f : Lane → Lane) : (s.modLane n f).entries = s.entries := rfl
@[simp] theorem State.modLane_candidates (n : Nat) (f : Lane → Lane) : (s.modLane n f).candidates = s.candidates := rfl
@[simp] theorem State.modLane_buses (n : Nat) (f : Lane → Lane) : (s.modLane n f).buses = s.buses := rfl
@[simp] theorem State.modLane_touts (n : Nat) (f : Lane → Lane) : (s.modLane n f).touts = s.touts := rfl
@[simp] theorem State.modLane_hbm (n : Nat) (f : Lane → Lane) : (s.modLane n f).hbm = s.hbm := rfl
@[simp] theorem State.modLane_dma (n : Nat) (f : Lane → Lane) : (s.modLane n f).dma = s.dma := rfl
@[simp] theorem State.modLane_fabric (n : Nat) (f : Lane → Lane) : (s.modLane n f).fabric = s.fabric := rfl
@[simp] theorem State.modLane_eths (n : Nat) (f : Lane → Lane) : (s.modLane n f).eths = s.eths := rfl
@[simp] theorem State.modLane_servo (n : Nat) (f : Lane → Lane) : (s.modLane n f).servo = s.servo := rfl
@[simp] theorem State.modLane_power (n : Nat) (f : Lane → Lane) : (s.modLane n f).power = s.power := rfl
@[simp] theorem State.modLane_pins (n : Nat) (f : Lane → Lane) : (s.modLane n f).pins = s.pins := rfl
@[simp] theorem State.modLane_bridge (n : Nat) (f : Lane → Lane) : (s.modLane n f).bridge = s.bridge := rfl

/-! ### State.modPort -/

@[simp] theorem State.modPort_clk (n : Nat) (f : Port → Port) : (s.modPort n f).clk = s.clk := rfl
@[simp] theorem State.modPort_timeOffset (n : Nat) (f : Port → Port) : (s.modPort n f).timeOffset = s.timeOffset := rfl
@[simp] theorem State.modPort_free (n : Nat) (f : Port → Port) : (s.modPort n f).free = s.free := rfl
@[simp] theorem State.modPort_out (n : Nat) (f : Port → Port) : (s.modPort n f).out = s.out := rfl
@[simp] theorem State.modPort_pending (n : Nat) (f : Port → Port) : (s.modPort n f).pending = s.pending := rfl
@[simp] theorem State.modPort_ctl (n : Nat) (f : Port → Port) : (s.modPort n f).ctl = s.ctl := rfl
@[simp] theorem State.modPort_dict (n : Nat) (f : Port → Port) : (s.modPort n f).dict = s.dict := rfl
@[simp] theorem State.modPort_lanes (n : Nat) (f : Port → Port) : (s.modPort n f).lanes = s.lanes := rfl
@[simp] theorem State.modPort_ports (n : Nat) (f : Port → Port) : (s.modPort n f).ports = s.ports.modify n f := rfl
@[simp] theorem State.modPort_regions (n : Nat) (f : Port → Port) : (s.modPort n f).regions = s.regions := rfl
@[simp] theorem State.modPort_triggers (n : Nat) (f : Port → Port) : (s.modPort n f).triggers = s.triggers := rfl
@[simp] theorem State.modPort_encoders (n : Nat) (f : Port → Port) : (s.modPort n f).encoders = s.encoders := rfl
@[simp] theorem State.modPort_pgos (n : Nat) (f : Port → Port) : (s.modPort n f).pgos = s.pgos := rfl
@[simp] theorem State.modPort_views (n : Nat) (f : Port → Port) : (s.modPort n f).views = s.views := rfl
@[simp] theorem State.modPort_cics (n : Nat) (f : Port → Port) : (s.modPort n f).cics = s.cics := rfl
@[simp] theorem State.modPort_slots (n : Nat) (f : Port → Port) : (s.modPort n f).slots = s.slots := rfl
@[simp] theorem State.modPort_tiles (n : Nat) (f : Port → Port) : (s.modPort n f).tiles = s.tiles := rfl
@[simp] theorem State.modPort_dispatchQueue (n : Nat) (f : Port → Port) : (s.modPort n f).dispatchQueue = s.dispatchQueue := rfl
@[simp] theorem State.modPort_entries (n : Nat) (f : Port → Port) : (s.modPort n f).entries = s.entries := rfl
@[simp] theorem State.modPort_candidates (n : Nat) (f : Port → Port) : (s.modPort n f).candidates = s.candidates := rfl
@[simp] theorem State.modPort_buses (n : Nat) (f : Port → Port) : (s.modPort n f).buses = s.buses := rfl
@[simp] theorem State.modPort_touts (n : Nat) (f : Port → Port) : (s.modPort n f).touts = s.touts := rfl
@[simp] theorem State.modPort_hbm (n : Nat) (f : Port → Port) : (s.modPort n f).hbm = s.hbm := rfl
@[simp] theorem State.modPort_dma (n : Nat) (f : Port → Port) : (s.modPort n f).dma = s.dma := rfl
@[simp] theorem State.modPort_fabric (n : Nat) (f : Port → Port) : (s.modPort n f).fabric = s.fabric := rfl
@[simp] theorem State.modPort_eths (n : Nat) (f : Port → Port) : (s.modPort n f).eths = s.eths := rfl
@[simp] theorem State.modPort_servo (n : Nat) (f : Port → Port) : (s.modPort n f).servo = s.servo := rfl
@[simp] theorem State.modPort_power (n : Nat) (f : Port → Port) : (s.modPort n f).power = s.power := rfl
@[simp] theorem State.modPort_pins (n : Nat) (f : Port → Port) : (s.modPort n f).pins = s.pins := rfl
@[simp] theorem State.modPort_bridge (n : Nat) (f : Port → Port) : (s.modPort n f).bridge = s.bridge := rfl

/-! ### State.modRegion -/

@[simp] theorem State.modRegion_clk (n : Nat) (f : Region → Region) : (s.modRegion n f).clk = s.clk := rfl
@[simp] theorem State.modRegion_timeOffset (n : Nat) (f : Region → Region) : (s.modRegion n f).timeOffset = s.timeOffset := rfl
@[simp] theorem State.modRegion_free (n : Nat) (f : Region → Region) : (s.modRegion n f).free = s.free := rfl
@[simp] theorem State.modRegion_out (n : Nat) (f : Region → Region) : (s.modRegion n f).out = s.out := rfl
@[simp] theorem State.modRegion_pending (n : Nat) (f : Region → Region) : (s.modRegion n f).pending = s.pending := rfl
@[simp] theorem State.modRegion_ctl (n : Nat) (f : Region → Region) : (s.modRegion n f).ctl = s.ctl := rfl
@[simp] theorem State.modRegion_dict (n : Nat) (f : Region → Region) : (s.modRegion n f).dict = s.dict := rfl
@[simp] theorem State.modRegion_lanes (n : Nat) (f : Region → Region) : (s.modRegion n f).lanes = s.lanes := rfl
@[simp] theorem State.modRegion_ports (n : Nat) (f : Region → Region) : (s.modRegion n f).ports = s.ports := rfl
@[simp] theorem State.modRegion_regions (n : Nat) (f : Region → Region) : (s.modRegion n f).regions = s.regions.modify n f := rfl
@[simp] theorem State.modRegion_triggers (n : Nat) (f : Region → Region) : (s.modRegion n f).triggers = s.triggers := rfl
@[simp] theorem State.modRegion_encoders (n : Nat) (f : Region → Region) : (s.modRegion n f).encoders = s.encoders := rfl
@[simp] theorem State.modRegion_pgos (n : Nat) (f : Region → Region) : (s.modRegion n f).pgos = s.pgos := rfl
@[simp] theorem State.modRegion_views (n : Nat) (f : Region → Region) : (s.modRegion n f).views = s.views := rfl
@[simp] theorem State.modRegion_cics (n : Nat) (f : Region → Region) : (s.modRegion n f).cics = s.cics := rfl
@[simp] theorem State.modRegion_slots (n : Nat) (f : Region → Region) : (s.modRegion n f).slots = s.slots := rfl
@[simp] theorem State.modRegion_tiles (n : Nat) (f : Region → Region) : (s.modRegion n f).tiles = s.tiles := rfl
@[simp] theorem State.modRegion_dispatchQueue (n : Nat) (f : Region → Region) : (s.modRegion n f).dispatchQueue = s.dispatchQueue := rfl
@[simp] theorem State.modRegion_entries (n : Nat) (f : Region → Region) : (s.modRegion n f).entries = s.entries := rfl
@[simp] theorem State.modRegion_candidates (n : Nat) (f : Region → Region) : (s.modRegion n f).candidates = s.candidates := rfl
@[simp] theorem State.modRegion_buses (n : Nat) (f : Region → Region) : (s.modRegion n f).buses = s.buses := rfl
@[simp] theorem State.modRegion_touts (n : Nat) (f : Region → Region) : (s.modRegion n f).touts = s.touts := rfl
@[simp] theorem State.modRegion_hbm (n : Nat) (f : Region → Region) : (s.modRegion n f).hbm = s.hbm := rfl
@[simp] theorem State.modRegion_dma (n : Nat) (f : Region → Region) : (s.modRegion n f).dma = s.dma := rfl
@[simp] theorem State.modRegion_fabric (n : Nat) (f : Region → Region) : (s.modRegion n f).fabric = s.fabric := rfl
@[simp] theorem State.modRegion_eths (n : Nat) (f : Region → Region) : (s.modRegion n f).eths = s.eths := rfl
@[simp] theorem State.modRegion_servo (n : Nat) (f : Region → Region) : (s.modRegion n f).servo = s.servo := rfl
@[simp] theorem State.modRegion_power (n : Nat) (f : Region → Region) : (s.modRegion n f).power = s.power := rfl
@[simp] theorem State.modRegion_pins (n : Nat) (f : Region → Region) : (s.modRegion n f).pins = s.pins := rfl
@[simp] theorem State.modRegion_bridge (n : Nat) (f : Region → Region) : (s.modRegion n f).bridge = s.bridge := rfl

/-! ### State.modTrigger -/

@[simp] theorem State.modTrigger_clk (n : Nat) (f : Trigger → Trigger) : (s.modTrigger n f).clk = s.clk := rfl
@[simp] theorem State.modTrigger_timeOffset (n : Nat) (f : Trigger → Trigger) : (s.modTrigger n f).timeOffset = s.timeOffset := rfl
@[simp] theorem State.modTrigger_free (n : Nat) (f : Trigger → Trigger) : (s.modTrigger n f).free = s.free := rfl
@[simp] theorem State.modTrigger_out (n : Nat) (f : Trigger → Trigger) : (s.modTrigger n f).out = s.out := rfl
@[simp] theorem State.modTrigger_pending (n : Nat) (f : Trigger → Trigger) : (s.modTrigger n f).pending = s.pending := rfl
@[simp] theorem State.modTrigger_ctl (n : Nat) (f : Trigger → Trigger) : (s.modTrigger n f).ctl = s.ctl := rfl
@[simp] theorem State.modTrigger_dict (n : Nat) (f : Trigger → Trigger) : (s.modTrigger n f).dict = s.dict := rfl
@[simp] theorem State.modTrigger_lanes (n : Nat) (f : Trigger → Trigger) : (s.modTrigger n f).lanes = s.lanes := rfl
@[simp] theorem State.modTrigger_ports (n : Nat) (f : Trigger → Trigger) : (s.modTrigger n f).ports = s.ports := rfl
@[simp] theorem State.modTrigger_regions (n : Nat) (f : Trigger → Trigger) : (s.modTrigger n f).regions = s.regions := rfl
@[simp] theorem State.modTrigger_triggers (n : Nat) (f : Trigger → Trigger) : (s.modTrigger n f).triggers = s.triggers.modify n f := rfl
@[simp] theorem State.modTrigger_encoders (n : Nat) (f : Trigger → Trigger) : (s.modTrigger n f).encoders = s.encoders := rfl
@[simp] theorem State.modTrigger_pgos (n : Nat) (f : Trigger → Trigger) : (s.modTrigger n f).pgos = s.pgos := rfl
@[simp] theorem State.modTrigger_views (n : Nat) (f : Trigger → Trigger) : (s.modTrigger n f).views = s.views := rfl
@[simp] theorem State.modTrigger_cics (n : Nat) (f : Trigger → Trigger) : (s.modTrigger n f).cics = s.cics := rfl
@[simp] theorem State.modTrigger_slots (n : Nat) (f : Trigger → Trigger) : (s.modTrigger n f).slots = s.slots := rfl
@[simp] theorem State.modTrigger_tiles (n : Nat) (f : Trigger → Trigger) : (s.modTrigger n f).tiles = s.tiles := rfl
@[simp] theorem State.modTrigger_dispatchQueue (n : Nat) (f : Trigger → Trigger) : (s.modTrigger n f).dispatchQueue = s.dispatchQueue := rfl
@[simp] theorem State.modTrigger_entries (n : Nat) (f : Trigger → Trigger) : (s.modTrigger n f).entries = s.entries := rfl
@[simp] theorem State.modTrigger_candidates (n : Nat) (f : Trigger → Trigger) : (s.modTrigger n f).candidates = s.candidates := rfl
@[simp] theorem State.modTrigger_buses (n : Nat) (f : Trigger → Trigger) : (s.modTrigger n f).buses = s.buses := rfl
@[simp] theorem State.modTrigger_touts (n : Nat) (f : Trigger → Trigger) : (s.modTrigger n f).touts = s.touts := rfl
@[simp] theorem State.modTrigger_hbm (n : Nat) (f : Trigger → Trigger) : (s.modTrigger n f).hbm = s.hbm := rfl
@[simp] theorem State.modTrigger_dma (n : Nat) (f : Trigger → Trigger) : (s.modTrigger n f).dma = s.dma := rfl
@[simp] theorem State.modTrigger_fabric (n : Nat) (f : Trigger → Trigger) : (s.modTrigger n f).fabric = s.fabric := rfl
@[simp] theorem State.modTrigger_eths (n : Nat) (f : Trigger → Trigger) : (s.modTrigger n f).eths = s.eths := rfl
@[simp] theorem State.modTrigger_servo (n : Nat) (f : Trigger → Trigger) : (s.modTrigger n f).servo = s.servo := rfl
@[simp] theorem State.modTrigger_power (n : Nat) (f : Trigger → Trigger) : (s.modTrigger n f).power = s.power := rfl
@[simp] theorem State.modTrigger_pins (n : Nat) (f : Trigger → Trigger) : (s.modTrigger n f).pins = s.pins := rfl
@[simp] theorem State.modTrigger_bridge (n : Nat) (f : Trigger → Trigger) : (s.modTrigger n f).bridge = s.bridge := rfl

/-! ### State.modEncoder -/

@[simp] theorem State.modEncoder_clk (n : Nat) (f : Encoder → Encoder) : (s.modEncoder n f).clk = s.clk := rfl
@[simp] theorem State.modEncoder_timeOffset (n : Nat) (f : Encoder → Encoder) : (s.modEncoder n f).timeOffset = s.timeOffset := rfl
@[simp] theorem State.modEncoder_free (n : Nat) (f : Encoder → Encoder) : (s.modEncoder n f).free = s.free := rfl
@[simp] theorem State.modEncoder_out (n : Nat) (f : Encoder → Encoder) : (s.modEncoder n f).out = s.out := rfl
@[simp] theorem State.modEncoder_pending (n : Nat) (f : Encoder → Encoder) : (s.modEncoder n f).pending = s.pending := rfl
@[simp] theorem State.modEncoder_ctl (n : Nat) (f : Encoder → Encoder) : (s.modEncoder n f).ctl = s.ctl := rfl
@[simp] theorem State.modEncoder_dict (n : Nat) (f : Encoder → Encoder) : (s.modEncoder n f).dict = s.dict := rfl
@[simp] theorem State.modEncoder_lanes (n : Nat) (f : Encoder → Encoder) : (s.modEncoder n f).lanes = s.lanes := rfl
@[simp] theorem State.modEncoder_ports (n : Nat) (f : Encoder → Encoder) : (s.modEncoder n f).ports = s.ports := rfl
@[simp] theorem State.modEncoder_regions (n : Nat) (f : Encoder → Encoder) : (s.modEncoder n f).regions = s.regions := rfl
@[simp] theorem State.modEncoder_triggers (n : Nat) (f : Encoder → Encoder) : (s.modEncoder n f).triggers = s.triggers := rfl
@[simp] theorem State.modEncoder_encoders (n : Nat) (f : Encoder → Encoder) : (s.modEncoder n f).encoders = s.encoders.modify n f := rfl
@[simp] theorem State.modEncoder_pgos (n : Nat) (f : Encoder → Encoder) : (s.modEncoder n f).pgos = s.pgos := rfl
@[simp] theorem State.modEncoder_views (n : Nat) (f : Encoder → Encoder) : (s.modEncoder n f).views = s.views := rfl
@[simp] theorem State.modEncoder_cics (n : Nat) (f : Encoder → Encoder) : (s.modEncoder n f).cics = s.cics := rfl
@[simp] theorem State.modEncoder_slots (n : Nat) (f : Encoder → Encoder) : (s.modEncoder n f).slots = s.slots := rfl
@[simp] theorem State.modEncoder_tiles (n : Nat) (f : Encoder → Encoder) : (s.modEncoder n f).tiles = s.tiles := rfl
@[simp] theorem State.modEncoder_dispatchQueue (n : Nat) (f : Encoder → Encoder) : (s.modEncoder n f).dispatchQueue = s.dispatchQueue := rfl
@[simp] theorem State.modEncoder_entries (n : Nat) (f : Encoder → Encoder) : (s.modEncoder n f).entries = s.entries := rfl
@[simp] theorem State.modEncoder_candidates (n : Nat) (f : Encoder → Encoder) : (s.modEncoder n f).candidates = s.candidates := rfl
@[simp] theorem State.modEncoder_buses (n : Nat) (f : Encoder → Encoder) : (s.modEncoder n f).buses = s.buses := rfl
@[simp] theorem State.modEncoder_touts (n : Nat) (f : Encoder → Encoder) : (s.modEncoder n f).touts = s.touts := rfl
@[simp] theorem State.modEncoder_hbm (n : Nat) (f : Encoder → Encoder) : (s.modEncoder n f).hbm = s.hbm := rfl
@[simp] theorem State.modEncoder_dma (n : Nat) (f : Encoder → Encoder) : (s.modEncoder n f).dma = s.dma := rfl
@[simp] theorem State.modEncoder_fabric (n : Nat) (f : Encoder → Encoder) : (s.modEncoder n f).fabric = s.fabric := rfl
@[simp] theorem State.modEncoder_eths (n : Nat) (f : Encoder → Encoder) : (s.modEncoder n f).eths = s.eths := rfl
@[simp] theorem State.modEncoder_servo (n : Nat) (f : Encoder → Encoder) : (s.modEncoder n f).servo = s.servo := rfl
@[simp] theorem State.modEncoder_power (n : Nat) (f : Encoder → Encoder) : (s.modEncoder n f).power = s.power := rfl
@[simp] theorem State.modEncoder_pins (n : Nat) (f : Encoder → Encoder) : (s.modEncoder n f).pins = s.pins := rfl
@[simp] theorem State.modEncoder_bridge (n : Nat) (f : Encoder → Encoder) : (s.modEncoder n f).bridge = s.bridge := rfl

/-! ### State.modPgo -/

@[simp] theorem State.modPgo_clk (n : Nat) (f : Pgo → Pgo) : (s.modPgo n f).clk = s.clk := rfl
@[simp] theorem State.modPgo_timeOffset (n : Nat) (f : Pgo → Pgo) : (s.modPgo n f).timeOffset = s.timeOffset := rfl
@[simp] theorem State.modPgo_free (n : Nat) (f : Pgo → Pgo) : (s.modPgo n f).free = s.free := rfl
@[simp] theorem State.modPgo_out (n : Nat) (f : Pgo → Pgo) : (s.modPgo n f).out = s.out := rfl
@[simp] theorem State.modPgo_pending (n : Nat) (f : Pgo → Pgo) : (s.modPgo n f).pending = s.pending := rfl
@[simp] theorem State.modPgo_ctl (n : Nat) (f : Pgo → Pgo) : (s.modPgo n f).ctl = s.ctl := rfl
@[simp] theorem State.modPgo_dict (n : Nat) (f : Pgo → Pgo) : (s.modPgo n f).dict = s.dict := rfl
@[simp] theorem State.modPgo_lanes (n : Nat) (f : Pgo → Pgo) : (s.modPgo n f).lanes = s.lanes := rfl
@[simp] theorem State.modPgo_ports (n : Nat) (f : Pgo → Pgo) : (s.modPgo n f).ports = s.ports := rfl
@[simp] theorem State.modPgo_regions (n : Nat) (f : Pgo → Pgo) : (s.modPgo n f).regions = s.regions := rfl
@[simp] theorem State.modPgo_triggers (n : Nat) (f : Pgo → Pgo) : (s.modPgo n f).triggers = s.triggers := rfl
@[simp] theorem State.modPgo_encoders (n : Nat) (f : Pgo → Pgo) : (s.modPgo n f).encoders = s.encoders := rfl
@[simp] theorem State.modPgo_pgos (n : Nat) (f : Pgo → Pgo) : (s.modPgo n f).pgos = s.pgos.modify n f := rfl
@[simp] theorem State.modPgo_views (n : Nat) (f : Pgo → Pgo) : (s.modPgo n f).views = s.views := rfl
@[simp] theorem State.modPgo_cics (n : Nat) (f : Pgo → Pgo) : (s.modPgo n f).cics = s.cics := rfl
@[simp] theorem State.modPgo_slots (n : Nat) (f : Pgo → Pgo) : (s.modPgo n f).slots = s.slots := rfl
@[simp] theorem State.modPgo_tiles (n : Nat) (f : Pgo → Pgo) : (s.modPgo n f).tiles = s.tiles := rfl
@[simp] theorem State.modPgo_dispatchQueue (n : Nat) (f : Pgo → Pgo) : (s.modPgo n f).dispatchQueue = s.dispatchQueue := rfl
@[simp] theorem State.modPgo_entries (n : Nat) (f : Pgo → Pgo) : (s.modPgo n f).entries = s.entries := rfl
@[simp] theorem State.modPgo_candidates (n : Nat) (f : Pgo → Pgo) : (s.modPgo n f).candidates = s.candidates := rfl
@[simp] theorem State.modPgo_buses (n : Nat) (f : Pgo → Pgo) : (s.modPgo n f).buses = s.buses := rfl
@[simp] theorem State.modPgo_touts (n : Nat) (f : Pgo → Pgo) : (s.modPgo n f).touts = s.touts := rfl
@[simp] theorem State.modPgo_hbm (n : Nat) (f : Pgo → Pgo) : (s.modPgo n f).hbm = s.hbm := rfl
@[simp] theorem State.modPgo_dma (n : Nat) (f : Pgo → Pgo) : (s.modPgo n f).dma = s.dma := rfl
@[simp] theorem State.modPgo_fabric (n : Nat) (f : Pgo → Pgo) : (s.modPgo n f).fabric = s.fabric := rfl
@[simp] theorem State.modPgo_eths (n : Nat) (f : Pgo → Pgo) : (s.modPgo n f).eths = s.eths := rfl
@[simp] theorem State.modPgo_servo (n : Nat) (f : Pgo → Pgo) : (s.modPgo n f).servo = s.servo := rfl
@[simp] theorem State.modPgo_power (n : Nat) (f : Pgo → Pgo) : (s.modPgo n f).power = s.power := rfl
@[simp] theorem State.modPgo_pins (n : Nat) (f : Pgo → Pgo) : (s.modPgo n f).pins = s.pins := rfl
@[simp] theorem State.modPgo_bridge (n : Nat) (f : Pgo → Pgo) : (s.modPgo n f).bridge = s.bridge := rfl

/-! ### State.modView -/

@[simp] theorem State.modView_clk (n : Nat) (f : View → View) : (s.modView n f).clk = s.clk := rfl
@[simp] theorem State.modView_timeOffset (n : Nat) (f : View → View) : (s.modView n f).timeOffset = s.timeOffset := rfl
@[simp] theorem State.modView_free (n : Nat) (f : View → View) : (s.modView n f).free = s.free := rfl
@[simp] theorem State.modView_out (n : Nat) (f : View → View) : (s.modView n f).out = s.out := rfl
@[simp] theorem State.modView_pending (n : Nat) (f : View → View) : (s.modView n f).pending = s.pending := rfl
@[simp] theorem State.modView_ctl (n : Nat) (f : View → View) : (s.modView n f).ctl = s.ctl := rfl
@[simp] theorem State.modView_dict (n : Nat) (f : View → View) : (s.modView n f).dict = s.dict := rfl
@[simp] theorem State.modView_lanes (n : Nat) (f : View → View) : (s.modView n f).lanes = s.lanes := rfl
@[simp] theorem State.modView_ports (n : Nat) (f : View → View) : (s.modView n f).ports = s.ports := rfl
@[simp] theorem State.modView_regions (n : Nat) (f : View → View) : (s.modView n f).regions = s.regions := rfl
@[simp] theorem State.modView_triggers (n : Nat) (f : View → View) : (s.modView n f).triggers = s.triggers := rfl
@[simp] theorem State.modView_encoders (n : Nat) (f : View → View) : (s.modView n f).encoders = s.encoders := rfl
@[simp] theorem State.modView_pgos (n : Nat) (f : View → View) : (s.modView n f).pgos = s.pgos := rfl
@[simp] theorem State.modView_views (n : Nat) (f : View → View) : (s.modView n f).views = s.views.modify n f := rfl
@[simp] theorem State.modView_cics (n : Nat) (f : View → View) : (s.modView n f).cics = s.cics := rfl
@[simp] theorem State.modView_slots (n : Nat) (f : View → View) : (s.modView n f).slots = s.slots := rfl
@[simp] theorem State.modView_tiles (n : Nat) (f : View → View) : (s.modView n f).tiles = s.tiles := rfl
@[simp] theorem State.modView_dispatchQueue (n : Nat) (f : View → View) : (s.modView n f).dispatchQueue = s.dispatchQueue := rfl
@[simp] theorem State.modView_entries (n : Nat) (f : View → View) : (s.modView n f).entries = s.entries := rfl
@[simp] theorem State.modView_candidates (n : Nat) (f : View → View) : (s.modView n f).candidates = s.candidates := rfl
@[simp] theorem State.modView_buses (n : Nat) (f : View → View) : (s.modView n f).buses = s.buses := rfl
@[simp] theorem State.modView_touts (n : Nat) (f : View → View) : (s.modView n f).touts = s.touts := rfl
@[simp] theorem State.modView_hbm (n : Nat) (f : View → View) : (s.modView n f).hbm = s.hbm := rfl
@[simp] theorem State.modView_dma (n : Nat) (f : View → View) : (s.modView n f).dma = s.dma := rfl
@[simp] theorem State.modView_fabric (n : Nat) (f : View → View) : (s.modView n f).fabric = s.fabric := rfl
@[simp] theorem State.modView_eths (n : Nat) (f : View → View) : (s.modView n f).eths = s.eths := rfl
@[simp] theorem State.modView_servo (n : Nat) (f : View → View) : (s.modView n f).servo = s.servo := rfl
@[simp] theorem State.modView_power (n : Nat) (f : View → View) : (s.modView n f).power = s.power := rfl
@[simp] theorem State.modView_pins (n : Nat) (f : View → View) : (s.modView n f).pins = s.pins := rfl
@[simp] theorem State.modView_bridge (n : Nat) (f : View → View) : (s.modView n f).bridge = s.bridge := rfl

/-! ### State.modEth -/

@[simp] theorem State.modEth_clk (n : Nat) (f : Eth → Eth) : (s.modEth n f).clk = s.clk := rfl
@[simp] theorem State.modEth_timeOffset (n : Nat) (f : Eth → Eth) : (s.modEth n f).timeOffset = s.timeOffset := rfl
@[simp] theorem State.modEth_free (n : Nat) (f : Eth → Eth) : (s.modEth n f).free = s.free := rfl
@[simp] theorem State.modEth_out (n : Nat) (f : Eth → Eth) : (s.modEth n f).out = s.out := rfl
@[simp] theorem State.modEth_pending (n : Nat) (f : Eth → Eth) : (s.modEth n f).pending = s.pending := rfl
@[simp] theorem State.modEth_ctl (n : Nat) (f : Eth → Eth) : (s.modEth n f).ctl = s.ctl := rfl
@[simp] theorem State.modEth_dict (n : Nat) (f : Eth → Eth) : (s.modEth n f).dict = s.dict := rfl
@[simp] theorem State.modEth_lanes (n : Nat) (f : Eth → Eth) : (s.modEth n f).lanes = s.lanes := rfl
@[simp] theorem State.modEth_ports (n : Nat) (f : Eth → Eth) : (s.modEth n f).ports = s.ports := rfl
@[simp] theorem State.modEth_regions (n : Nat) (f : Eth → Eth) : (s.modEth n f).regions = s.regions := rfl
@[simp] theorem State.modEth_triggers (n : Nat) (f : Eth → Eth) : (s.modEth n f).triggers = s.triggers := rfl
@[simp] theorem State.modEth_encoders (n : Nat) (f : Eth → Eth) : (s.modEth n f).encoders = s.encoders := rfl
@[simp] theorem State.modEth_pgos (n : Nat) (f : Eth → Eth) : (s.modEth n f).pgos = s.pgos := rfl
@[simp] theorem State.modEth_views (n : Nat) (f : Eth → Eth) : (s.modEth n f).views = s.views := rfl
@[simp] theorem State.modEth_cics (n : Nat) (f : Eth → Eth) : (s.modEth n f).cics = s.cics := rfl
@[simp] theorem State.modEth_slots (n : Nat) (f : Eth → Eth) : (s.modEth n f).slots = s.slots := rfl
@[simp] theorem State.modEth_tiles (n : Nat) (f : Eth → Eth) : (s.modEth n f).tiles = s.tiles := rfl
@[simp] theorem State.modEth_dispatchQueue (n : Nat) (f : Eth → Eth) : (s.modEth n f).dispatchQueue = s.dispatchQueue := rfl
@[simp] theorem State.modEth_entries (n : Nat) (f : Eth → Eth) : (s.modEth n f).entries = s.entries := rfl
@[simp] theorem State.modEth_candidates (n : Nat) (f : Eth → Eth) : (s.modEth n f).candidates = s.candidates := rfl
@[simp] theorem State.modEth_buses (n : Nat) (f : Eth → Eth) : (s.modEth n f).buses = s.buses := rfl
@[simp] theorem State.modEth_touts (n : Nat) (f : Eth → Eth) : (s.modEth n f).touts = s.touts := rfl
@[simp] theorem State.modEth_hbm (n : Nat) (f : Eth → Eth) : (s.modEth n f).hbm = s.hbm := rfl
@[simp] theorem State.modEth_dma (n : Nat) (f : Eth → Eth) : (s.modEth n f).dma = s.dma := rfl
@[simp] theorem State.modEth_fabric (n : Nat) (f : Eth → Eth) : (s.modEth n f).fabric = s.fabric := rfl
@[simp] theorem State.modEth_eths (n : Nat) (f : Eth → Eth) : (s.modEth n f).eths = s.eths.modify n f := rfl
@[simp] theorem State.modEth_servo (n : Nat) (f : Eth → Eth) : (s.modEth n f).servo = s.servo := rfl
@[simp] theorem State.modEth_power (n : Nat) (f : Eth → Eth) : (s.modEth n f).power = s.power := rfl
@[simp] theorem State.modEth_pins (n : Nat) (f : Eth → Eth) : (s.modEth n f).pins = s.pins := rfl
@[simp] theorem State.modEth_bridge (n : Nat) (f : Eth → Eth) : (s.modEth n f).bridge = s.bridge := rfl

/-! ### State.modTile -/

@[simp] theorem State.modTile_clk (n : Nat) (f : Tile → Tile) : (s.modTile n f).clk = s.clk := rfl
@[simp] theorem State.modTile_timeOffset (n : Nat) (f : Tile → Tile) : (s.modTile n f).timeOffset = s.timeOffset := rfl
@[simp] theorem State.modTile_free (n : Nat) (f : Tile → Tile) : (s.modTile n f).free = s.free := rfl
@[simp] theorem State.modTile_out (n : Nat) (f : Tile → Tile) : (s.modTile n f).out = s.out := rfl
@[simp] theorem State.modTile_pending (n : Nat) (f : Tile → Tile) : (s.modTile n f).pending = s.pending := rfl
@[simp] theorem State.modTile_ctl (n : Nat) (f : Tile → Tile) : (s.modTile n f).ctl = s.ctl := rfl
@[simp] theorem State.modTile_dict (n : Nat) (f : Tile → Tile) : (s.modTile n f).dict = s.dict := rfl
@[simp] theorem State.modTile_lanes (n : Nat) (f : Tile → Tile) : (s.modTile n f).lanes = s.lanes := rfl
@[simp] theorem State.modTile_ports (n : Nat) (f : Tile → Tile) : (s.modTile n f).ports = s.ports := rfl
@[simp] theorem State.modTile_regions (n : Nat) (f : Tile → Tile) : (s.modTile n f).regions = s.regions := rfl
@[simp] theorem State.modTile_triggers (n : Nat) (f : Tile → Tile) : (s.modTile n f).triggers = s.triggers := rfl
@[simp] theorem State.modTile_encoders (n : Nat) (f : Tile → Tile) : (s.modTile n f).encoders = s.encoders := rfl
@[simp] theorem State.modTile_pgos (n : Nat) (f : Tile → Tile) : (s.modTile n f).pgos = s.pgos := rfl
@[simp] theorem State.modTile_views (n : Nat) (f : Tile → Tile) : (s.modTile n f).views = s.views := rfl
@[simp] theorem State.modTile_cics (n : Nat) (f : Tile → Tile) : (s.modTile n f).cics = s.cics := rfl
@[simp] theorem State.modTile_slots (n : Nat) (f : Tile → Tile) : (s.modTile n f).slots = s.slots := rfl
@[simp] theorem State.modTile_tiles (n : Nat) (f : Tile → Tile) : (s.modTile n f).tiles = s.tiles.modify n f := rfl
@[simp] theorem State.modTile_dispatchQueue (n : Nat) (f : Tile → Tile) : (s.modTile n f).dispatchQueue = s.dispatchQueue := rfl
@[simp] theorem State.modTile_entries (n : Nat) (f : Tile → Tile) : (s.modTile n f).entries = s.entries := rfl
@[simp] theorem State.modTile_candidates (n : Nat) (f : Tile → Tile) : (s.modTile n f).candidates = s.candidates := rfl
@[simp] theorem State.modTile_buses (n : Nat) (f : Tile → Tile) : (s.modTile n f).buses = s.buses := rfl
@[simp] theorem State.modTile_touts (n : Nat) (f : Tile → Tile) : (s.modTile n f).touts = s.touts := rfl
@[simp] theorem State.modTile_hbm (n : Nat) (f : Tile → Tile) : (s.modTile n f).hbm = s.hbm := rfl
@[simp] theorem State.modTile_dma (n : Nat) (f : Tile → Tile) : (s.modTile n f).dma = s.dma := rfl
@[simp] theorem State.modTile_fabric (n : Nat) (f : Tile → Tile) : (s.modTile n f).fabric = s.fabric := rfl
@[simp] theorem State.modTile_eths (n : Nat) (f : Tile → Tile) : (s.modTile n f).eths = s.eths := rfl
@[simp] theorem State.modTile_servo (n : Nat) (f : Tile → Tile) : (s.modTile n f).servo = s.servo := rfl
@[simp] theorem State.modTile_power (n : Nat) (f : Tile → Tile) : (s.modTile n f).power = s.power := rfl
@[simp] theorem State.modTile_pins (n : Nat) (f : Tile → Tile) : (s.modTile n f).pins = s.pins := rfl
@[simp] theorem State.modTile_bridge (n : Nat) (f : Tile → Tile) : (s.modTile n f).bridge = s.bridge := rfl

/-! ### State.modSlot -/

@[simp] theorem State.modSlot_clk (n : Nat) (f : Slot → Slot) : (s.modSlot n f).clk = s.clk := rfl
@[simp] theorem State.modSlot_timeOffset (n : Nat) (f : Slot → Slot) : (s.modSlot n f).timeOffset = s.timeOffset := rfl
@[simp] theorem State.modSlot_free (n : Nat) (f : Slot → Slot) : (s.modSlot n f).free = s.free := rfl
@[simp] theorem State.modSlot_out (n : Nat) (f : Slot → Slot) : (s.modSlot n f).out = s.out := rfl
@[simp] theorem State.modSlot_pending (n : Nat) (f : Slot → Slot) : (s.modSlot n f).pending = s.pending := rfl
@[simp] theorem State.modSlot_ctl (n : Nat) (f : Slot → Slot) : (s.modSlot n f).ctl = s.ctl := rfl
@[simp] theorem State.modSlot_dict (n : Nat) (f : Slot → Slot) : (s.modSlot n f).dict = s.dict := rfl
@[simp] theorem State.modSlot_lanes (n : Nat) (f : Slot → Slot) : (s.modSlot n f).lanes = s.lanes := rfl
@[simp] theorem State.modSlot_ports (n : Nat) (f : Slot → Slot) : (s.modSlot n f).ports = s.ports := rfl
@[simp] theorem State.modSlot_regions (n : Nat) (f : Slot → Slot) : (s.modSlot n f).regions = s.regions := rfl
@[simp] theorem State.modSlot_triggers (n : Nat) (f : Slot → Slot) : (s.modSlot n f).triggers = s.triggers := rfl
@[simp] theorem State.modSlot_encoders (n : Nat) (f : Slot → Slot) : (s.modSlot n f).encoders = s.encoders := rfl
@[simp] theorem State.modSlot_pgos (n : Nat) (f : Slot → Slot) : (s.modSlot n f).pgos = s.pgos := rfl
@[simp] theorem State.modSlot_views (n : Nat) (f : Slot → Slot) : (s.modSlot n f).views = s.views := rfl
@[simp] theorem State.modSlot_cics (n : Nat) (f : Slot → Slot) : (s.modSlot n f).cics = s.cics := rfl
@[simp] theorem State.modSlot_slots (n : Nat) (f : Slot → Slot) : (s.modSlot n f).slots = s.slots.modify n f := rfl
@[simp] theorem State.modSlot_tiles (n : Nat) (f : Slot → Slot) : (s.modSlot n f).tiles = s.tiles := rfl
@[simp] theorem State.modSlot_dispatchQueue (n : Nat) (f : Slot → Slot) : (s.modSlot n f).dispatchQueue = s.dispatchQueue := rfl
@[simp] theorem State.modSlot_entries (n : Nat) (f : Slot → Slot) : (s.modSlot n f).entries = s.entries := rfl
@[simp] theorem State.modSlot_candidates (n : Nat) (f : Slot → Slot) : (s.modSlot n f).candidates = s.candidates := rfl
@[simp] theorem State.modSlot_buses (n : Nat) (f : Slot → Slot) : (s.modSlot n f).buses = s.buses := rfl
@[simp] theorem State.modSlot_touts (n : Nat) (f : Slot → Slot) : (s.modSlot n f).touts = s.touts := rfl
@[simp] theorem State.modSlot_hbm (n : Nat) (f : Slot → Slot) : (s.modSlot n f).hbm = s.hbm := rfl
@[simp] theorem State.modSlot_dma (n : Nat) (f : Slot → Slot) : (s.modSlot n f).dma = s.dma := rfl
@[simp] theorem State.modSlot_fabric (n : Nat) (f : Slot → Slot) : (s.modSlot n f).fabric = s.fabric := rfl
@[simp] theorem State.modSlot_eths (n : Nat) (f : Slot → Slot) : (s.modSlot n f).eths = s.eths := rfl
@[simp] theorem State.modSlot_servo (n : Nat) (f : Slot → Slot) : (s.modSlot n f).servo = s.servo := rfl
@[simp] theorem State.modSlot_power (n : Nat) (f : Slot → Slot) : (s.modSlot n f).power = s.power := rfl
@[simp] theorem State.modSlot_pins (n : Nat) (f : Slot → Slot) : (s.modSlot n f).pins = s.pins := rfl
@[simp] theorem State.modSlot_bridge (n : Nat) (f : Slot → Slot) : (s.modSlot n f).bridge = s.bridge := rfl

/-! ### State.modBus -/

@[simp] theorem State.modBus_clk (n : Nat) (f : Bus → Bus) : (s.modBus n f).clk = s.clk := rfl
@[simp] theorem State.modBus_timeOffset (n : Nat) (f : Bus → Bus) : (s.modBus n f).timeOffset = s.timeOffset := rfl
@[simp] theorem State.modBus_free (n : Nat) (f : Bus → Bus) : (s.modBus n f).free = s.free := rfl
@[simp] theorem State.modBus_out (n : Nat) (f : Bus → Bus) : (s.modBus n f).out = s.out := rfl
@[simp] theorem State.modBus_pending (n : Nat) (f : Bus → Bus) : (s.modBus n f).pending = s.pending := rfl
@[simp] theorem State.modBus_ctl (n : Nat) (f : Bus → Bus) : (s.modBus n f).ctl = s.ctl := rfl
@[simp] theorem State.modBus_dict (n : Nat) (f : Bus → Bus) : (s.modBus n f).dict = s.dict := rfl
@[simp] theorem State.modBus_lanes (n : Nat) (f : Bus → Bus) : (s.modBus n f).lanes = s.lanes := rfl
@[simp] theorem State.modBus_ports (n : Nat) (f : Bus → Bus) : (s.modBus n f).ports = s.ports := rfl
@[simp] theorem State.modBus_regions (n : Nat) (f : Bus → Bus) : (s.modBus n f).regions = s.regions := rfl
@[simp] theorem State.modBus_triggers (n : Nat) (f : Bus → Bus) : (s.modBus n f).triggers = s.triggers := rfl
@[simp] theorem State.modBus_encoders (n : Nat) (f : Bus → Bus) : (s.modBus n f).encoders = s.encoders := rfl
@[simp] theorem State.modBus_pgos (n : Nat) (f : Bus → Bus) : (s.modBus n f).pgos = s.pgos := rfl
@[simp] theorem State.modBus_views (n : Nat) (f : Bus → Bus) : (s.modBus n f).views = s.views := rfl
@[simp] theorem State.modBus_cics (n : Nat) (f : Bus → Bus) : (s.modBus n f).cics = s.cics := rfl
@[simp] theorem State.modBus_slots (n : Nat) (f : Bus → Bus) : (s.modBus n f).slots = s.slots := rfl
@[simp] theorem State.modBus_tiles (n : Nat) (f : Bus → Bus) : (s.modBus n f).tiles = s.tiles := rfl
@[simp] theorem State.modBus_dispatchQueue (n : Nat) (f : Bus → Bus) : (s.modBus n f).dispatchQueue = s.dispatchQueue := rfl
@[simp] theorem State.modBus_entries (n : Nat) (f : Bus → Bus) : (s.modBus n f).entries = s.entries := rfl
@[simp] theorem State.modBus_candidates (n : Nat) (f : Bus → Bus) : (s.modBus n f).candidates = s.candidates := rfl
@[simp] theorem State.modBus_buses (n : Nat) (f : Bus → Bus) : (s.modBus n f).buses = s.buses.modify n f := rfl
@[simp] theorem State.modBus_touts (n : Nat) (f : Bus → Bus) : (s.modBus n f).touts = s.touts := rfl
@[simp] theorem State.modBus_hbm (n : Nat) (f : Bus → Bus) : (s.modBus n f).hbm = s.hbm := rfl
@[simp] theorem State.modBus_dma (n : Nat) (f : Bus → Bus) : (s.modBus n f).dma = s.dma := rfl
@[simp] theorem State.modBus_fabric (n : Nat) (f : Bus → Bus) : (s.modBus n f).fabric = s.fabric := rfl
@[simp] theorem State.modBus_eths (n : Nat) (f : Bus → Bus) : (s.modBus n f).eths = s.eths := rfl
@[simp] theorem State.modBus_servo (n : Nat) (f : Bus → Bus) : (s.modBus n f).servo = s.servo := rfl
@[simp] theorem State.modBus_power (n : Nat) (f : Bus → Bus) : (s.modBus n f).power = s.power := rfl
@[simp] theorem State.modBus_pins (n : Nat) (f : Bus → Bus) : (s.modBus n f).pins = s.pins := rfl
@[simp] theorem State.modBus_bridge (n : Nat) (f : Bus → Bus) : (s.modBus n f).bridge = s.bridge := rfl

/-! ### State.modTout -/

@[simp] theorem State.modTout_clk (n : Nat) (f : Tout → Tout) : (s.modTout n f).clk = s.clk := rfl
@[simp] theorem State.modTout_timeOffset (n : Nat) (f : Tout → Tout) : (s.modTout n f).timeOffset = s.timeOffset := rfl
@[simp] theorem State.modTout_free (n : Nat) (f : Tout → Tout) : (s.modTout n f).free = s.free := rfl
@[simp] theorem State.modTout_out (n : Nat) (f : Tout → Tout) : (s.modTout n f).out = s.out := rfl
@[simp] theorem State.modTout_pending (n : Nat) (f : Tout → Tout) : (s.modTout n f).pending = s.pending := rfl
@[simp] theorem State.modTout_ctl (n : Nat) (f : Tout → Tout) : (s.modTout n f).ctl = s.ctl := rfl
@[simp] theorem State.modTout_dict (n : Nat) (f : Tout → Tout) : (s.modTout n f).dict = s.dict := rfl
@[simp] theorem State.modTout_lanes (n : Nat) (f : Tout → Tout) : (s.modTout n f).lanes = s.lanes := rfl
@[simp] theorem State.modTout_ports (n : Nat) (f : Tout → Tout) : (s.modTout n f).ports = s.ports := rfl
@[simp] theorem State.modTout_regions (n : Nat) (f : Tout → Tout) : (s.modTout n f).regions = s.regions := rfl
@[simp] theorem State.modTout_triggers (n : Nat) (f : Tout → Tout) : (s.modTout n f).triggers = s.triggers := rfl
@[simp] theorem State.modTout_encoders (n : Nat) (f : Tout → Tout) : (s.modTout n f).encoders = s.encoders := rfl
@[simp] theorem State.modTout_pgos (n : Nat) (f : Tout → Tout) : (s.modTout n f).pgos = s.pgos := rfl
@[simp] theorem State.modTout_views (n : Nat) (f : Tout → Tout) : (s.modTout n f).views = s.views := rfl
@[simp] theorem State.modTout_cics (n : Nat) (f : Tout → Tout) : (s.modTout n f).cics = s.cics := rfl
@[simp] theorem State.modTout_slots (n : Nat) (f : Tout → Tout) : (s.modTout n f).slots = s.slots := rfl
@[simp] theorem State.modTout_tiles (n : Nat) (f : Tout → Tout) : (s.modTout n f).tiles = s.tiles := rfl
@[simp] theorem State.modTout_dispatchQueue (n : Nat) (f : Tout → Tout) : (s.modTout n f).dispatchQueue = s.dispatchQueue := rfl
@[simp] theorem State.modTout_entries (n : Nat) (f : Tout → Tout) : (s.modTout n f).entries = s.entries := rfl
@[simp] theorem State.modTout_candidates (n : Nat) (f : Tout → Tout) : (s.modTout n f).candidates = s.candidates := rfl
@[simp] theorem State.modTout_buses (n : Nat) (f : Tout → Tout) : (s.modTout n f).buses = s.buses := rfl
@[simp] theorem State.modTout_touts (n : Nat) (f : Tout → Tout) : (s.modTout n f).touts = s.touts.modify n f := rfl
@[simp] theorem State.modTout_hbm (n : Nat) (f : Tout → Tout) : (s.modTout n f).hbm = s.hbm := rfl
@[simp] theorem State.modTout_dma (n : Nat) (f : Tout → Tout) : (s.modTout n f).dma = s.dma := rfl
@[simp] theorem State.modTout_fabric (n : Nat) (f : Tout → Tout) : (s.modTout n f).fabric = s.fabric := rfl
@[simp] theorem State.modTout_eths (n : Nat) (f : Tout → Tout) : (s.modTout n f).eths = s.eths := rfl
@[simp] theorem State.modTout_servo (n : Nat) (f : Tout → Tout) : (s.modTout n f).servo = s.servo := rfl
@[simp] theorem State.modTout_power (n : Nat) (f : Tout → Tout) : (s.modTout n f).power = s.power := rfl
@[simp] theorem State.modTout_pins (n : Nat) (f : Tout → Tout) : (s.modTout n f).pins = s.pins := rfl
@[simp] theorem State.modTout_bridge (n : Nat) (f : Tout → Tout) : (s.modTout n f).bridge = s.bridge := rfl

/-! ### State.modHbm -/

@[simp] theorem State.modHbm_clk (f : Hbm → Hbm) : (s.modHbm f).clk = s.clk := rfl
@[simp] theorem State.modHbm_timeOffset (f : Hbm → Hbm) : (s.modHbm f).timeOffset = s.timeOffset := rfl
@[simp] theorem State.modHbm_free (f : Hbm → Hbm) : (s.modHbm f).free = s.free := rfl
@[simp] theorem State.modHbm_out (f : Hbm → Hbm) : (s.modHbm f).out = s.out := rfl
@[simp] theorem State.modHbm_pending (f : Hbm → Hbm) : (s.modHbm f).pending = s.pending := rfl
@[simp] theorem State.modHbm_ctl (f : Hbm → Hbm) : (s.modHbm f).ctl = s.ctl := rfl
@[simp] theorem State.modHbm_dict (f : Hbm → Hbm) : (s.modHbm f).dict = s.dict := rfl
@[simp] theorem State.modHbm_lanes (f : Hbm → Hbm) : (s.modHbm f).lanes = s.lanes := rfl
@[simp] theorem State.modHbm_ports (f : Hbm → Hbm) : (s.modHbm f).ports = s.ports := rfl
@[simp] theorem State.modHbm_regions (f : Hbm → Hbm) : (s.modHbm f).regions = s.regions := rfl
@[simp] theorem State.modHbm_triggers (f : Hbm → Hbm) : (s.modHbm f).triggers = s.triggers := rfl
@[simp] theorem State.modHbm_encoders (f : Hbm → Hbm) : (s.modHbm f).encoders = s.encoders := rfl
@[simp] theorem State.modHbm_pgos (f : Hbm → Hbm) : (s.modHbm f).pgos = s.pgos := rfl
@[simp] theorem State.modHbm_views (f : Hbm → Hbm) : (s.modHbm f).views = s.views := rfl
@[simp] theorem State.modHbm_cics (f : Hbm → Hbm) : (s.modHbm f).cics = s.cics := rfl
@[simp] theorem State.modHbm_slots (f : Hbm → Hbm) : (s.modHbm f).slots = s.slots := rfl
@[simp] theorem State.modHbm_tiles (f : Hbm → Hbm) : (s.modHbm f).tiles = s.tiles := rfl
@[simp] theorem State.modHbm_dispatchQueue (f : Hbm → Hbm) : (s.modHbm f).dispatchQueue = s.dispatchQueue := rfl
@[simp] theorem State.modHbm_entries (f : Hbm → Hbm) : (s.modHbm f).entries = s.entries := rfl
@[simp] theorem State.modHbm_candidates (f : Hbm → Hbm) : (s.modHbm f).candidates = s.candidates := rfl
@[simp] theorem State.modHbm_buses (f : Hbm → Hbm) : (s.modHbm f).buses = s.buses := rfl
@[simp] theorem State.modHbm_touts (f : Hbm → Hbm) : (s.modHbm f).touts = s.touts := rfl
@[simp] theorem State.modHbm_hbm (f : Hbm → Hbm) : (s.modHbm f).hbm = f s.hbm := rfl
@[simp] theorem State.modHbm_dma (f : Hbm → Hbm) : (s.modHbm f).dma = s.dma := rfl
@[simp] theorem State.modHbm_fabric (f : Hbm → Hbm) : (s.modHbm f).fabric = s.fabric := rfl
@[simp] theorem State.modHbm_eths (f : Hbm → Hbm) : (s.modHbm f).eths = s.eths := rfl
@[simp] theorem State.modHbm_servo (f : Hbm → Hbm) : (s.modHbm f).servo = s.servo := rfl
@[simp] theorem State.modHbm_power (f : Hbm → Hbm) : (s.modHbm f).power = s.power := rfl
@[simp] theorem State.modHbm_pins (f : Hbm → Hbm) : (s.modHbm f).pins = s.pins := rfl
@[simp] theorem State.modHbm_bridge (f : Hbm → Hbm) : (s.modHbm f).bridge = s.bridge := rfl

/-! ### State.modServo -/

@[simp] theorem State.modServo_clk (f : Servo → Servo) : (s.modServo f).clk = s.clk := rfl
@[simp] theorem State.modServo_timeOffset (f : Servo → Servo) : (s.modServo f).timeOffset = s.timeOffset := rfl
@[simp] theorem State.modServo_free (f : Servo → Servo) : (s.modServo f).free = s.free := rfl
@[simp] theorem State.modServo_out (f : Servo → Servo) : (s.modServo f).out = s.out := rfl
@[simp] theorem State.modServo_pending (f : Servo → Servo) : (s.modServo f).pending = s.pending := rfl
@[simp] theorem State.modServo_ctl (f : Servo → Servo) : (s.modServo f).ctl = s.ctl := rfl
@[simp] theorem State.modServo_dict (f : Servo → Servo) : (s.modServo f).dict = s.dict := rfl
@[simp] theorem State.modServo_lanes (f : Servo → Servo) : (s.modServo f).lanes = s.lanes := rfl
@[simp] theorem State.modServo_ports (f : Servo → Servo) : (s.modServo f).ports = s.ports := rfl
@[simp] theorem State.modServo_regions (f : Servo → Servo) : (s.modServo f).regions = s.regions := rfl
@[simp] theorem State.modServo_triggers (f : Servo → Servo) : (s.modServo f).triggers = s.triggers := rfl
@[simp] theorem State.modServo_encoders (f : Servo → Servo) : (s.modServo f).encoders = s.encoders := rfl
@[simp] theorem State.modServo_pgos (f : Servo → Servo) : (s.modServo f).pgos = s.pgos := rfl
@[simp] theorem State.modServo_views (f : Servo → Servo) : (s.modServo f).views = s.views := rfl
@[simp] theorem State.modServo_cics (f : Servo → Servo) : (s.modServo f).cics = s.cics := rfl
@[simp] theorem State.modServo_slots (f : Servo → Servo) : (s.modServo f).slots = s.slots := rfl
@[simp] theorem State.modServo_tiles (f : Servo → Servo) : (s.modServo f).tiles = s.tiles := rfl
@[simp] theorem State.modServo_dispatchQueue (f : Servo → Servo) : (s.modServo f).dispatchQueue = s.dispatchQueue := rfl
@[simp] theorem State.modServo_entries (f : Servo → Servo) : (s.modServo f).entries = s.entries := rfl
@[simp] theorem State.modServo_candidates (f : Servo → Servo) : (s.modServo f).candidates = s.candidates := rfl
@[simp] theorem State.modServo_buses (f : Servo → Servo) : (s.modServo f).buses = s.buses := rfl
@[simp] theorem State.modServo_touts (f : Servo → Servo) : (s.modServo f).touts = s.touts := rfl
@[simp] theorem State.modServo_hbm (f : Servo → Servo) : (s.modServo f).hbm = s.hbm := rfl
@[simp] theorem State.modServo_dma (f : Servo → Servo) : (s.modServo f).dma = s.dma := rfl
@[simp] theorem State.modServo_fabric (f : Servo → Servo) : (s.modServo f).fabric = s.fabric := rfl
@[simp] theorem State.modServo_eths (f : Servo → Servo) : (s.modServo f).eths = s.eths := rfl
@[simp] theorem State.modServo_servo (f : Servo → Servo) : (s.modServo f).servo = f s.servo := rfl
@[simp] theorem State.modServo_power (f : Servo → Servo) : (s.modServo f).power = s.power := rfl
@[simp] theorem State.modServo_pins (f : Servo → Servo) : (s.modServo f).pins = s.pins := rfl
@[simp] theorem State.modServo_bridge (f : Servo → Servo) : (s.modServo f).bridge = s.bridge := rfl

/-! ### State.modEngine -/

@[simp] theorem State.modEngine_clk (f : DmaEngine → DmaEngine) : (s.modEngine f).clk = s.clk := rfl
@[simp] theorem State.modEngine_timeOffset (f : DmaEngine → DmaEngine) : (s.modEngine f).timeOffset = s.timeOffset := rfl
@[simp] theorem State.modEngine_free (f : DmaEngine → DmaEngine) : (s.modEngine f).free = s.free := rfl
@[simp] theorem State.modEngine_out (f : DmaEngine → DmaEngine) : (s.modEngine f).out = s.out := rfl
@[simp] theorem State.modEngine_pending (f : DmaEngine → DmaEngine) : (s.modEngine f).pending = s.pending := rfl
@[simp] theorem State.modEngine_ctl (f : DmaEngine → DmaEngine) : (s.modEngine f).ctl = s.ctl := rfl
@[simp] theorem State.modEngine_dict (f : DmaEngine → DmaEngine) : (s.modEngine f).dict = s.dict := rfl
@[simp] theorem State.modEngine_lanes (f : DmaEngine → DmaEngine) : (s.modEngine f).lanes = s.lanes := rfl
@[simp] theorem State.modEngine_ports (f : DmaEngine → DmaEngine) : (s.modEngine f).ports = s.ports := rfl
@[simp] theorem State.modEngine_regions (f : DmaEngine → DmaEngine) : (s.modEngine f).regions = s.regions := rfl
@[simp] theorem State.modEngine_triggers (f : DmaEngine → DmaEngine) : (s.modEngine f).triggers = s.triggers := rfl
@[simp] theorem State.modEngine_encoders (f : DmaEngine → DmaEngine) : (s.modEngine f).encoders = s.encoders := rfl
@[simp] theorem State.modEngine_pgos (f : DmaEngine → DmaEngine) : (s.modEngine f).pgos = s.pgos := rfl
@[simp] theorem State.modEngine_views (f : DmaEngine → DmaEngine) : (s.modEngine f).views = s.views := rfl
@[simp] theorem State.modEngine_cics (f : DmaEngine → DmaEngine) : (s.modEngine f).cics = s.cics := rfl
@[simp] theorem State.modEngine_slots (f : DmaEngine → DmaEngine) : (s.modEngine f).slots = s.slots := rfl
@[simp] theorem State.modEngine_tiles (f : DmaEngine → DmaEngine) : (s.modEngine f).tiles = s.tiles := rfl
@[simp] theorem State.modEngine_dispatchQueue (f : DmaEngine → DmaEngine) : (s.modEngine f).dispatchQueue = s.dispatchQueue := rfl
@[simp] theorem State.modEngine_entries (f : DmaEngine → DmaEngine) : (s.modEngine f).entries = s.entries := rfl
@[simp] theorem State.modEngine_candidates (f : DmaEngine → DmaEngine) : (s.modEngine f).candidates = s.candidates := rfl
@[simp] theorem State.modEngine_buses (f : DmaEngine → DmaEngine) : (s.modEngine f).buses = s.buses := rfl
@[simp] theorem State.modEngine_touts (f : DmaEngine → DmaEngine) : (s.modEngine f).touts = s.touts := rfl
@[simp] theorem State.modEngine_hbm (f : DmaEngine → DmaEngine) : (s.modEngine f).hbm = s.hbm := rfl
@[simp] theorem State.modEngine_dma (f : DmaEngine → DmaEngine) : (s.modEngine f).dma = f s.dma := rfl
@[simp] theorem State.modEngine_fabric (f : DmaEngine → DmaEngine) : (s.modEngine f).fabric = s.fabric := rfl
@[simp] theorem State.modEngine_eths (f : DmaEngine → DmaEngine) : (s.modEngine f).eths = s.eths := rfl
@[simp] theorem State.modEngine_servo (f : DmaEngine → DmaEngine) : (s.modEngine f).servo = s.servo := rfl
@[simp] theorem State.modEngine_power (f : DmaEngine → DmaEngine) : (s.modEngine f).power = s.power := rfl
@[simp] theorem State.modEngine_pins (f : DmaEngine → DmaEngine) : (s.modEngine f).pins = s.pins := rfl
@[simp] theorem State.modEngine_bridge (f : DmaEngine → DmaEngine) : (s.modEngine f).bridge = s.bridge := rfl

/-! ### State.modPower -/

@[simp] theorem State.modPower_clk (f : PowerSys → PowerSys) : (s.modPower f).clk = s.clk := rfl
@[simp] theorem State.modPower_timeOffset (f : PowerSys → PowerSys) : (s.modPower f).timeOffset = s.timeOffset := rfl
@[simp] theorem State.modPower_free (f : PowerSys → PowerSys) : (s.modPower f).free = s.free := rfl
@[simp] theorem State.modPower_out (f : PowerSys → PowerSys) : (s.modPower f).out = s.out := rfl
@[simp] theorem State.modPower_pending (f : PowerSys → PowerSys) : (s.modPower f).pending = s.pending := rfl
@[simp] theorem State.modPower_ctl (f : PowerSys → PowerSys) : (s.modPower f).ctl = s.ctl := rfl
@[simp] theorem State.modPower_dict (f : PowerSys → PowerSys) : (s.modPower f).dict = s.dict := rfl
@[simp] theorem State.modPower_lanes (f : PowerSys → PowerSys) : (s.modPower f).lanes = s.lanes := rfl
@[simp] theorem State.modPower_ports (f : PowerSys → PowerSys) : (s.modPower f).ports = s.ports := rfl
@[simp] theorem State.modPower_regions (f : PowerSys → PowerSys) : (s.modPower f).regions = s.regions := rfl
@[simp] theorem State.modPower_triggers (f : PowerSys → PowerSys) : (s.modPower f).triggers = s.triggers := rfl
@[simp] theorem State.modPower_encoders (f : PowerSys → PowerSys) : (s.modPower f).encoders = s.encoders := rfl
@[simp] theorem State.modPower_pgos (f : PowerSys → PowerSys) : (s.modPower f).pgos = s.pgos := rfl
@[simp] theorem State.modPower_views (f : PowerSys → PowerSys) : (s.modPower f).views = s.views := rfl
@[simp] theorem State.modPower_cics (f : PowerSys → PowerSys) : (s.modPower f).cics = s.cics := rfl
@[simp] theorem State.modPower_slots (f : PowerSys → PowerSys) : (s.modPower f).slots = s.slots := rfl
@[simp] theorem State.modPower_tiles (f : PowerSys → PowerSys) : (s.modPower f).tiles = s.tiles := rfl
@[simp] theorem State.modPower_dispatchQueue (f : PowerSys → PowerSys) : (s.modPower f).dispatchQueue = s.dispatchQueue := rfl
@[simp] theorem State.modPower_entries (f : PowerSys → PowerSys) : (s.modPower f).entries = s.entries := rfl
@[simp] theorem State.modPower_candidates (f : PowerSys → PowerSys) : (s.modPower f).candidates = s.candidates := rfl
@[simp] theorem State.modPower_buses (f : PowerSys → PowerSys) : (s.modPower f).buses = s.buses := rfl
@[simp] theorem State.modPower_touts (f : PowerSys → PowerSys) : (s.modPower f).touts = s.touts := rfl
@[simp] theorem State.modPower_hbm (f : PowerSys → PowerSys) : (s.modPower f).hbm = s.hbm := rfl
@[simp] theorem State.modPower_dma (f : PowerSys → PowerSys) : (s.modPower f).dma = s.dma := rfl
@[simp] theorem State.modPower_fabric (f : PowerSys → PowerSys) : (s.modPower f).fabric = s.fabric := rfl
@[simp] theorem State.modPower_eths (f : PowerSys → PowerSys) : (s.modPower f).eths = s.eths := rfl
@[simp] theorem State.modPower_servo (f : PowerSys → PowerSys) : (s.modPower f).servo = s.servo := rfl
@[simp] theorem State.modPower_power (f : PowerSys → PowerSys) : (s.modPower f).power = f s.power := rfl
@[simp] theorem State.modPower_pins (f : PowerSys → PowerSys) : (s.modPower f).pins = s.pins := rfl
@[simp] theorem State.modPower_bridge (f : PowerSys → PowerSys) : (s.modPower f).bridge = s.bridge := rfl

/-! ### State.modFabric -/

@[simp] theorem State.modFabric_clk (f : Fabric → Fabric) : (s.modFabric f).clk = s.clk := rfl
@[simp] theorem State.modFabric_timeOffset (f : Fabric → Fabric) : (s.modFabric f).timeOffset = s.timeOffset := rfl
@[simp] theorem State.modFabric_free (f : Fabric → Fabric) : (s.modFabric f).free = s.free := rfl
@[simp] theorem State.modFabric_out (f : Fabric → Fabric) : (s.modFabric f).out = s.out := rfl
@[simp] theorem State.modFabric_pending (f : Fabric → Fabric) : (s.modFabric f).pending = s.pending := rfl
@[simp] theorem State.modFabric_ctl (f : Fabric → Fabric) : (s.modFabric f).ctl = s.ctl := rfl
@[simp] theorem State.modFabric_dict (f : Fabric → Fabric) : (s.modFabric f).dict = s.dict := rfl
@[simp] theorem State.modFabric_lanes (f : Fabric → Fabric) : (s.modFabric f).lanes = s.lanes := rfl
@[simp] theorem State.modFabric_ports (f : Fabric → Fabric) : (s.modFabric f).ports = s.ports := rfl
@[simp] theorem State.modFabric_regions (f : Fabric → Fabric) : (s.modFabric f).regions = s.regions := rfl
@[simp] theorem State.modFabric_triggers (f : Fabric → Fabric) : (s.modFabric f).triggers = s.triggers := rfl
@[simp] theorem State.modFabric_encoders (f : Fabric → Fabric) : (s.modFabric f).encoders = s.encoders := rfl
@[simp] theorem State.modFabric_pgos (f : Fabric → Fabric) : (s.modFabric f).pgos = s.pgos := rfl
@[simp] theorem State.modFabric_views (f : Fabric → Fabric) : (s.modFabric f).views = s.views := rfl
@[simp] theorem State.modFabric_cics (f : Fabric → Fabric) : (s.modFabric f).cics = s.cics := rfl
@[simp] theorem State.modFabric_slots (f : Fabric → Fabric) : (s.modFabric f).slots = s.slots := rfl
@[simp] theorem State.modFabric_tiles (f : Fabric → Fabric) : (s.modFabric f).tiles = s.tiles := rfl
@[simp] theorem State.modFabric_dispatchQueue (f : Fabric → Fabric) : (s.modFabric f).dispatchQueue = s.dispatchQueue := rfl
@[simp] theorem State.modFabric_entries (f : Fabric → Fabric) : (s.modFabric f).entries = s.entries := rfl
@[simp] theorem State.modFabric_candidates (f : Fabric → Fabric) : (s.modFabric f).candidates = s.candidates := rfl
@[simp] theorem State.modFabric_buses (f : Fabric → Fabric) : (s.modFabric f).buses = s.buses := rfl
@[simp] theorem State.modFabric_touts (f : Fabric → Fabric) : (s.modFabric f).touts = s.touts := rfl
@[simp] theorem State.modFabric_hbm (f : Fabric → Fabric) : (s.modFabric f).hbm = s.hbm := rfl
@[simp] theorem State.modFabric_dma (f : Fabric → Fabric) : (s.modFabric f).dma = s.dma := rfl
@[simp] theorem State.modFabric_fabric (f : Fabric → Fabric) : (s.modFabric f).fabric = f s.fabric := rfl
@[simp] theorem State.modFabric_eths (f : Fabric → Fabric) : (s.modFabric f).eths = s.eths := rfl
@[simp] theorem State.modFabric_servo (f : Fabric → Fabric) : (s.modFabric f).servo = s.servo := rfl
@[simp] theorem State.modFabric_power (f : Fabric → Fabric) : (s.modFabric f).power = s.power := rfl
@[simp] theorem State.modFabric_pins (f : Fabric → Fabric) : (s.modFabric f).pins = s.pins := rfl
@[simp] theorem State.modFabric_bridge (f : Fabric → Fabric) : (s.modFabric f).bridge = s.bridge := rfl

/-! ### State.modPins -/

@[simp] theorem State.modPins_clk (f : Pins → Pins) : (s.modPins f).clk = s.clk := rfl
@[simp] theorem State.modPins_timeOffset (f : Pins → Pins) : (s.modPins f).timeOffset = s.timeOffset := rfl
@[simp] theorem State.modPins_free (f : Pins → Pins) : (s.modPins f).free = s.free := rfl
@[simp] theorem State.modPins_out (f : Pins → Pins) : (s.modPins f).out = s.out := rfl
@[simp] theorem State.modPins_pending (f : Pins → Pins) : (s.modPins f).pending = s.pending := rfl
@[simp] theorem State.modPins_ctl (f : Pins → Pins) : (s.modPins f).ctl = s.ctl := rfl
@[simp] theorem State.modPins_dict (f : Pins → Pins) : (s.modPins f).dict = s.dict := rfl
@[simp] theorem State.modPins_lanes (f : Pins → Pins) : (s.modPins f).lanes = s.lanes := rfl
@[simp] theorem State.modPins_ports (f : Pins → Pins) : (s.modPins f).ports = s.ports := rfl
@[simp] theorem State.modPins_regions (f : Pins → Pins) : (s.modPins f).regions = s.regions := rfl
@[simp] theorem State.modPins_triggers (f : Pins → Pins) : (s.modPins f).triggers = s.triggers := rfl
@[simp] theorem State.modPins_encoders (f : Pins → Pins) : (s.modPins f).encoders = s.encoders := rfl
@[simp] theorem State.modPins_pgos (f : Pins → Pins) : (s.modPins f).pgos = s.pgos := rfl
@[simp] theorem State.modPins_views (f : Pins → Pins) : (s.modPins f).views = s.views := rfl
@[simp] theorem State.modPins_cics (f : Pins → Pins) : (s.modPins f).cics = s.cics := rfl
@[simp] theorem State.modPins_slots (f : Pins → Pins) : (s.modPins f).slots = s.slots := rfl
@[simp] theorem State.modPins_tiles (f : Pins → Pins) : (s.modPins f).tiles = s.tiles := rfl
@[simp] theorem State.modPins_dispatchQueue (f : Pins → Pins) : (s.modPins f).dispatchQueue = s.dispatchQueue := rfl
@[simp] theorem State.modPins_entries (f : Pins → Pins) : (s.modPins f).entries = s.entries := rfl
@[simp] theorem State.modPins_candidates (f : Pins → Pins) : (s.modPins f).candidates = s.candidates := rfl
@[simp] theorem State.modPins_buses (f : Pins → Pins) : (s.modPins f).buses = s.buses := rfl
@[simp] theorem State.modPins_touts (f : Pins → Pins) : (s.modPins f).touts = s.touts := rfl
@[simp] theorem State.modPins_hbm (f : Pins → Pins) : (s.modPins f).hbm = s.hbm := rfl
@[simp] theorem State.modPins_dma (f : Pins → Pins) : (s.modPins f).dma = s.dma := rfl
@[simp] theorem State.modPins_fabric (f : Pins → Pins) : (s.modPins f).fabric = s.fabric := rfl
@[simp] theorem State.modPins_eths (f : Pins → Pins) : (s.modPins f).eths = s.eths := rfl
@[simp] theorem State.modPins_servo (f : Pins → Pins) : (s.modPins f).servo = s.servo := rfl
@[simp] theorem State.modPins_power (f : Pins → Pins) : (s.modPins f).power = s.power := rfl
@[simp] theorem State.modPins_pins (f : Pins → Pins) : (s.modPins f).pins = f s.pins := rfl
@[simp] theorem State.modPins_bridge (f : Pins → Pins) : (s.modPins f).bridge = s.bridge := rfl

/-! ### State.modPch -/

@[simp] theorem State.modPch_clk (n : Nat) (f : Pch → Pch) : (s.modPch n f).clk = s.clk := rfl
@[simp] theorem State.modPch_timeOffset (n : Nat) (f : Pch → Pch) : (s.modPch n f).timeOffset = s.timeOffset := rfl
@[simp] theorem State.modPch_free (n : Nat) (f : Pch → Pch) : (s.modPch n f).free = s.free := rfl
@[simp] theorem State.modPch_out (n : Nat) (f : Pch → Pch) : (s.modPch n f).out = s.out := rfl
@[simp] theorem State.modPch_pending (n : Nat) (f : Pch → Pch) : (s.modPch n f).pending = s.pending := rfl
@[simp] theorem State.modPch_ctl (n : Nat) (f : Pch → Pch) : (s.modPch n f).ctl = s.ctl := rfl
@[simp] theorem State.modPch_dict (n : Nat) (f : Pch → Pch) : (s.modPch n f).dict = s.dict := rfl
@[simp] theorem State.modPch_lanes (n : Nat) (f : Pch → Pch) : (s.modPch n f).lanes = s.lanes := rfl
@[simp] theorem State.modPch_ports (n : Nat) (f : Pch → Pch) : (s.modPch n f).ports = s.ports := rfl
@[simp] theorem State.modPch_regions (n : Nat) (f : Pch → Pch) : (s.modPch n f).regions = s.regions := rfl
@[simp] theorem State.modPch_triggers (n : Nat) (f : Pch → Pch) : (s.modPch n f).triggers = s.triggers := rfl
@[simp] theorem State.modPch_encoders (n : Nat) (f : Pch → Pch) : (s.modPch n f).encoders = s.encoders := rfl
@[simp] theorem State.modPch_pgos (n : Nat) (f : Pch → Pch) : (s.modPch n f).pgos = s.pgos := rfl
@[simp] theorem State.modPch_views (n : Nat) (f : Pch → Pch) : (s.modPch n f).views = s.views := rfl
@[simp] theorem State.modPch_cics (n : Nat) (f : Pch → Pch) : (s.modPch n f).cics = s.cics := rfl
@[simp] theorem State.modPch_slots (n : Nat) (f : Pch → Pch) : (s.modPch n f).slots = s.slots := rfl
@[simp] theorem State.modPch_tiles (n : Nat) (f : Pch → Pch) : (s.modPch n f).tiles = s.tiles := rfl
@[simp] theorem State.modPch_dispatchQueue (n : Nat) (f : Pch → Pch) : (s.modPch n f).dispatchQueue = s.dispatchQueue := rfl
@[simp] theorem State.modPch_entries (n : Nat) (f : Pch → Pch) : (s.modPch n f).entries = s.entries := rfl
@[simp] theorem State.modPch_candidates (n : Nat) (f : Pch → Pch) : (s.modPch n f).candidates = s.candidates := rfl
@[simp] theorem State.modPch_buses (n : Nat) (f : Pch → Pch) : (s.modPch n f).buses = s.buses := rfl
@[simp] theorem State.modPch_touts (n : Nat) (f : Pch → Pch) : (s.modPch n f).touts = s.touts := rfl
@[simp] theorem State.modPch_hbm (n : Nat) (f : Pch → Pch) : (s.modPch n f).hbm = { s.hbm with pchs := s.hbm.pchs.modify n f } := rfl
@[simp] theorem State.modPch_dma (n : Nat) (f : Pch → Pch) : (s.modPch n f).dma = s.dma := rfl
@[simp] theorem State.modPch_fabric (n : Nat) (f : Pch → Pch) : (s.modPch n f).fabric = s.fabric := rfl
@[simp] theorem State.modPch_eths (n : Nat) (f : Pch → Pch) : (s.modPch n f).eths = s.eths := rfl
@[simp] theorem State.modPch_servo (n : Nat) (f : Pch → Pch) : (s.modPch n f).servo = s.servo := rfl
@[simp] theorem State.modPch_power (n : Nat) (f : Pch → Pch) : (s.modPch n f).power = s.power := rfl
@[simp] theorem State.modPch_pins (n : Nat) (f : Pch → Pch) : (s.modPch n f).pins = s.pins := rfl
@[simp] theorem State.modPch_bridge (n : Nat) (f : Pch → Pch) : (s.modPch n f).bridge = s.bridge := rfl

/-! ### State.modStack -/

@[simp] theorem State.modStack_clk (n : Nat) (f : Stack → Stack) : (s.modStack n f).clk = s.clk := rfl
@[simp] theorem State.modStack_timeOffset (n : Nat) (f : Stack → Stack) : (s.modStack n f).timeOffset = s.timeOffset := rfl
@[simp] theorem State.modStack_free (n : Nat) (f : Stack → Stack) : (s.modStack n f).free = s.free := rfl
@[simp] theorem State.modStack_out (n : Nat) (f : Stack → Stack) : (s.modStack n f).out = s.out := rfl
@[simp] theorem State.modStack_pending (n : Nat) (f : Stack → Stack) : (s.modStack n f).pending = s.pending := rfl
@[simp] theorem State.modStack_ctl (n : Nat) (f : Stack → Stack) : (s.modStack n f).ctl = s.ctl := rfl
@[simp] theorem State.modStack_dict (n : Nat) (f : Stack → Stack) : (s.modStack n f).dict = s.dict := rfl
@[simp] theorem State.modStack_lanes (n : Nat) (f : Stack → Stack) : (s.modStack n f).lanes = s.lanes := rfl
@[simp] theorem State.modStack_ports (n : Nat) (f : Stack → Stack) : (s.modStack n f).ports = s.ports := rfl
@[simp] theorem State.modStack_regions (n : Nat) (f : Stack → Stack) : (s.modStack n f).regions = s.regions := rfl
@[simp] theorem State.modStack_triggers (n : Nat) (f : Stack → Stack) : (s.modStack n f).triggers = s.triggers := rfl
@[simp] theorem State.modStack_encoders (n : Nat) (f : Stack → Stack) : (s.modStack n f).encoders = s.encoders := rfl
@[simp] theorem State.modStack_pgos (n : Nat) (f : Stack → Stack) : (s.modStack n f).pgos = s.pgos := rfl
@[simp] theorem State.modStack_views (n : Nat) (f : Stack → Stack) : (s.modStack n f).views = s.views := rfl
@[simp] theorem State.modStack_cics (n : Nat) (f : Stack → Stack) : (s.modStack n f).cics = s.cics := rfl
@[simp] theorem State.modStack_slots (n : Nat) (f : Stack → Stack) : (s.modStack n f).slots = s.slots := rfl
@[simp] theorem State.modStack_tiles (n : Nat) (f : Stack → Stack) : (s.modStack n f).tiles = s.tiles := rfl
@[simp] theorem State.modStack_dispatchQueue (n : Nat) (f : Stack → Stack) : (s.modStack n f).dispatchQueue = s.dispatchQueue := rfl
@[simp] theorem State.modStack_entries (n : Nat) (f : Stack → Stack) : (s.modStack n f).entries = s.entries := rfl
@[simp] theorem State.modStack_candidates (n : Nat) (f : Stack → Stack) : (s.modStack n f).candidates = s.candidates := rfl
@[simp] theorem State.modStack_buses (n : Nat) (f : Stack → Stack) : (s.modStack n f).buses = s.buses := rfl
@[simp] theorem State.modStack_touts (n : Nat) (f : Stack → Stack) : (s.modStack n f).touts = s.touts := rfl
@[simp] theorem State.modStack_hbm (n : Nat) (f : Stack → Stack) : (s.modStack n f).hbm = { s.hbm with dieStacks := s.hbm.dieStacks.modify n f } := rfl
@[simp] theorem State.modStack_dma (n : Nat) (f : Stack → Stack) : (s.modStack n f).dma = s.dma := rfl
@[simp] theorem State.modStack_fabric (n : Nat) (f : Stack → Stack) : (s.modStack n f).fabric = s.fabric := rfl
@[simp] theorem State.modStack_eths (n : Nat) (f : Stack → Stack) : (s.modStack n f).eths = s.eths := rfl
@[simp] theorem State.modStack_servo (n : Nat) (f : Stack → Stack) : (s.modStack n f).servo = s.servo := rfl
@[simp] theorem State.modStack_power (n : Nat) (f : Stack → Stack) : (s.modStack n f).power = s.power := rfl
@[simp] theorem State.modStack_pins (n : Nat) (f : Stack → Stack) : (s.modStack n f).pins = s.pins := rfl
@[simp] theorem State.modStack_bridge (n : Nat) (f : Stack → Stack) : (s.modStack n f).bridge = s.bridge := rfl

/-! ### State.modRing -/

@[simp] theorem State.modRing_clk (n : Nat) (f : Ring → Ring) : (s.modRing n f).clk = s.clk := rfl
@[simp] theorem State.modRing_timeOffset (n : Nat) (f : Ring → Ring) : (s.modRing n f).timeOffset = s.timeOffset := rfl
@[simp] theorem State.modRing_free (n : Nat) (f : Ring → Ring) : (s.modRing n f).free = s.free := rfl
@[simp] theorem State.modRing_out (n : Nat) (f : Ring → Ring) : (s.modRing n f).out = s.out := rfl
@[simp] theorem State.modRing_pending (n : Nat) (f : Ring → Ring) : (s.modRing n f).pending = s.pending := rfl
@[simp] theorem State.modRing_ctl (n : Nat) (f : Ring → Ring) : (s.modRing n f).ctl = s.ctl := rfl
@[simp] theorem State.modRing_dict (n : Nat) (f : Ring → Ring) : (s.modRing n f).dict = s.dict := rfl
@[simp] theorem State.modRing_lanes (n : Nat) (f : Ring → Ring) : (s.modRing n f).lanes = s.lanes := rfl
@[simp] theorem State.modRing_ports (n : Nat) (f : Ring → Ring) : (s.modRing n f).ports = s.ports := rfl
@[simp] theorem State.modRing_regions (n : Nat) (f : Ring → Ring) : (s.modRing n f).regions = s.regions := rfl
@[simp] theorem State.modRing_triggers (n : Nat) (f : Ring → Ring) : (s.modRing n f).triggers = s.triggers := rfl
@[simp] theorem State.modRing_encoders (n : Nat) (f : Ring → Ring) : (s.modRing n f).encoders = s.encoders := rfl
@[simp] theorem State.modRing_pgos (n : Nat) (f : Ring → Ring) : (s.modRing n f).pgos = s.pgos := rfl
@[simp] theorem State.modRing_views (n : Nat) (f : Ring → Ring) : (s.modRing n f).views = s.views := rfl
@[simp] theorem State.modRing_cics (n : Nat) (f : Ring → Ring) : (s.modRing n f).cics = s.cics := rfl
@[simp] theorem State.modRing_slots (n : Nat) (f : Ring → Ring) : (s.modRing n f).slots = s.slots := rfl
@[simp] theorem State.modRing_tiles (n : Nat) (f : Ring → Ring) : (s.modRing n f).tiles = s.tiles := rfl
@[simp] theorem State.modRing_dispatchQueue (n : Nat) (f : Ring → Ring) : (s.modRing n f).dispatchQueue = s.dispatchQueue := rfl
@[simp] theorem State.modRing_entries (n : Nat) (f : Ring → Ring) : (s.modRing n f).entries = s.entries := rfl
@[simp] theorem State.modRing_candidates (n : Nat) (f : Ring → Ring) : (s.modRing n f).candidates = s.candidates := rfl
@[simp] theorem State.modRing_buses (n : Nat) (f : Ring → Ring) : (s.modRing n f).buses = s.buses := rfl
@[simp] theorem State.modRing_touts (n : Nat) (f : Ring → Ring) : (s.modRing n f).touts = s.touts := rfl
@[simp] theorem State.modRing_hbm (n : Nat) (f : Ring → Ring) : (s.modRing n f).hbm = { s.hbm with rings := s.hbm.rings.modify n f } := rfl
@[simp] theorem State.modRing_dma (n : Nat) (f : Ring → Ring) : (s.modRing n f).dma = s.dma := rfl
@[simp] theorem State.modRing_fabric (n : Nat) (f : Ring → Ring) : (s.modRing n f).fabric = s.fabric := rfl
@[simp] theorem State.modRing_eths (n : Nat) (f : Ring → Ring) : (s.modRing n f).eths = s.eths := rfl
@[simp] theorem State.modRing_servo (n : Nat) (f : Ring → Ring) : (s.modRing n f).servo = s.servo := rfl
@[simp] theorem State.modRing_power (n : Nat) (f : Ring → Ring) : (s.modRing n f).power = s.power := rfl
@[simp] theorem State.modRing_pins (n : Nat) (f : Ring → Ring) : (s.modRing n f).pins = s.pins := rfl
@[simp] theorem State.modRing_bridge (n : Nat) (f : Ring → Ring) : (s.modRing n f).bridge = s.bridge := rfl

/-! ### State.modDch -/

@[simp] theorem State.modDch_clk (n : Nat) (f : Dma → Dma) : (s.modDch n f).clk = s.clk := rfl
@[simp] theorem State.modDch_timeOffset (n : Nat) (f : Dma → Dma) : (s.modDch n f).timeOffset = s.timeOffset := rfl
@[simp] theorem State.modDch_free (n : Nat) (f : Dma → Dma) : (s.modDch n f).free = s.free := rfl
@[simp] theorem State.modDch_out (n : Nat) (f : Dma → Dma) : (s.modDch n f).out = s.out := rfl
@[simp] theorem State.modDch_pending (n : Nat) (f : Dma → Dma) : (s.modDch n f).pending = s.pending := rfl
@[simp] theorem State.modDch_ctl (n : Nat) (f : Dma → Dma) : (s.modDch n f).ctl = s.ctl := rfl
@[simp] theorem State.modDch_dict (n : Nat) (f : Dma → Dma) : (s.modDch n f).dict = s.dict := rfl
@[simp] theorem State.modDch_lanes (n : Nat) (f : Dma → Dma) : (s.modDch n f).lanes = s.lanes := rfl
@[simp] theorem State.modDch_ports (n : Nat) (f : Dma → Dma) : (s.modDch n f).ports = s.ports := rfl
@[simp] theorem State.modDch_regions (n : Nat) (f : Dma → Dma) : (s.modDch n f).regions = s.regions := rfl
@[simp] theorem State.modDch_triggers (n : Nat) (f : Dma → Dma) : (s.modDch n f).triggers = s.triggers := rfl
@[simp] theorem State.modDch_encoders (n : Nat) (f : Dma → Dma) : (s.modDch n f).encoders = s.encoders := rfl
@[simp] theorem State.modDch_pgos (n : Nat) (f : Dma → Dma) : (s.modDch n f).pgos = s.pgos := rfl
@[simp] theorem State.modDch_views (n : Nat) (f : Dma → Dma) : (s.modDch n f).views = s.views := rfl
@[simp] theorem State.modDch_cics (n : Nat) (f : Dma → Dma) : (s.modDch n f).cics = s.cics := rfl
@[simp] theorem State.modDch_slots (n : Nat) (f : Dma → Dma) : (s.modDch n f).slots = s.slots := rfl
@[simp] theorem State.modDch_tiles (n : Nat) (f : Dma → Dma) : (s.modDch n f).tiles = s.tiles := rfl
@[simp] theorem State.modDch_dispatchQueue (n : Nat) (f : Dma → Dma) : (s.modDch n f).dispatchQueue = s.dispatchQueue := rfl
@[simp] theorem State.modDch_entries (n : Nat) (f : Dma → Dma) : (s.modDch n f).entries = s.entries := rfl
@[simp] theorem State.modDch_candidates (n : Nat) (f : Dma → Dma) : (s.modDch n f).candidates = s.candidates := rfl
@[simp] theorem State.modDch_buses (n : Nat) (f : Dma → Dma) : (s.modDch n f).buses = s.buses := rfl
@[simp] theorem State.modDch_touts (n : Nat) (f : Dma → Dma) : (s.modDch n f).touts = s.touts := rfl
@[simp] theorem State.modDch_hbm (n : Nat) (f : Dma → Dma) : (s.modDch n f).hbm = s.hbm := rfl
@[simp] theorem State.modDch_dma (n : Nat) (f : Dma → Dma) : (s.modDch n f).dma = { s.dma with channels := s.dma.channels.modify n f } := rfl
@[simp] theorem State.modDch_fabric (n : Nat) (f : Dma → Dma) : (s.modDch n f).fabric = s.fabric := rfl
@[simp] theorem State.modDch_eths (n : Nat) (f : Dma → Dma) : (s.modDch n f).eths = s.eths := rfl
@[simp] theorem State.modDch_servo (n : Nat) (f : Dma → Dma) : (s.modDch n f).servo = s.servo := rfl
@[simp] theorem State.modDch_power (n : Nat) (f : Dma → Dma) : (s.modDch n f).power = s.power := rfl
@[simp] theorem State.modDch_pins (n : Nat) (f : Dma → Dma) : (s.modDch n f).pins = s.pins := rfl
@[simp] theorem State.modDch_bridge (n : Nat) (f : Dma → Dma) : (s.modDch n f).bridge = s.bridge := rfl

/-! ### State.modEctr -/

@[simp] theorem State.modEctr_clk (n : Nat) (f : Counter → Counter) : (s.modEctr n f).clk = s.clk := rfl
@[simp] theorem State.modEctr_timeOffset (n : Nat) (f : Counter → Counter) : (s.modEctr n f).timeOffset = s.timeOffset := rfl
@[simp] theorem State.modEctr_free (n : Nat) (f : Counter → Counter) : (s.modEctr n f).free = s.free := rfl
@[simp] theorem State.modEctr_out (n : Nat) (f : Counter → Counter) : (s.modEctr n f).out = s.out := rfl
@[simp] theorem State.modEctr_pending (n : Nat) (f : Counter → Counter) : (s.modEctr n f).pending = s.pending := rfl
@[simp] theorem State.modEctr_ctl (n : Nat) (f : Counter → Counter) : (s.modEctr n f).ctl = s.ctl := rfl
@[simp] theorem State.modEctr_dict (n : Nat) (f : Counter → Counter) : (s.modEctr n f).dict = s.dict := rfl
@[simp] theorem State.modEctr_lanes (n : Nat) (f : Counter → Counter) : (s.modEctr n f).lanes = s.lanes := rfl
@[simp] theorem State.modEctr_ports (n : Nat) (f : Counter → Counter) : (s.modEctr n f).ports = s.ports := rfl
@[simp] theorem State.modEctr_regions (n : Nat) (f : Counter → Counter) : (s.modEctr n f).regions = s.regions := rfl
@[simp] theorem State.modEctr_triggers (n : Nat) (f : Counter → Counter) : (s.modEctr n f).triggers = s.triggers := rfl
@[simp] theorem State.modEctr_encoders (n : Nat) (f : Counter → Counter) : (s.modEctr n f).encoders = s.encoders := rfl
@[simp] theorem State.modEctr_pgos (n : Nat) (f : Counter → Counter) : (s.modEctr n f).pgos = s.pgos := rfl
@[simp] theorem State.modEctr_views (n : Nat) (f : Counter → Counter) : (s.modEctr n f).views = s.views := rfl
@[simp] theorem State.modEctr_cics (n : Nat) (f : Counter → Counter) : (s.modEctr n f).cics = s.cics := rfl
@[simp] theorem State.modEctr_slots (n : Nat) (f : Counter → Counter) : (s.modEctr n f).slots = s.slots := rfl
@[simp] theorem State.modEctr_tiles (n : Nat) (f : Counter → Counter) : (s.modEctr n f).tiles = s.tiles := rfl
@[simp] theorem State.modEctr_dispatchQueue (n : Nat) (f : Counter → Counter) : (s.modEctr n f).dispatchQueue = s.dispatchQueue := rfl
@[simp] theorem State.modEctr_entries (n : Nat) (f : Counter → Counter) : (s.modEctr n f).entries = s.entries := rfl
@[simp] theorem State.modEctr_candidates (n : Nat) (f : Counter → Counter) : (s.modEctr n f).candidates = s.candidates := rfl
@[simp] theorem State.modEctr_buses (n : Nat) (f : Counter → Counter) : (s.modEctr n f).buses = s.buses := rfl
@[simp] theorem State.modEctr_touts (n : Nat) (f : Counter → Counter) : (s.modEctr n f).touts = s.touts := rfl
@[simp] theorem State.modEctr_hbm (n : Nat) (f : Counter → Counter) : (s.modEctr n f).hbm = s.hbm := rfl
@[simp] theorem State.modEctr_dma (n : Nat) (f : Counter → Counter) : (s.modEctr n f).dma = s.dma := rfl
@[simp] theorem State.modEctr_fabric (n : Nat) (f : Counter → Counter) : (s.modEctr n f).fabric = { s.fabric with counters := s.fabric.counters.modify n f } := rfl
@[simp] theorem State.modEctr_eths (n : Nat) (f : Counter → Counter) : (s.modEctr n f).eths = s.eths := rfl
@[simp] theorem State.modEctr_servo (n : Nat) (f : Counter → Counter) : (s.modEctr n f).servo = s.servo := rfl
@[simp] theorem State.modEctr_power (n : Nat) (f : Counter → Counter) : (s.modEctr n f).power = s.power := rfl
@[simp] theorem State.modEctr_pins (n : Nat) (f : Counter → Counter) : (s.modEctr n f).pins = s.pins := rfl
@[simp] theorem State.modEctr_bridge (n : Nat) (f : Counter → Counter) : (s.modEctr n f).bridge = s.bridge := rfl

/-! ### State.modCam -/

@[simp] theorem State.modCam_clk (n : Nat) (f : CamPower → CamPower) : (s.modCam n f).clk = s.clk := rfl
@[simp] theorem State.modCam_timeOffset (n : Nat) (f : CamPower → CamPower) : (s.modCam n f).timeOffset = s.timeOffset := rfl
@[simp] theorem State.modCam_free (n : Nat) (f : CamPower → CamPower) : (s.modCam n f).free = s.free := rfl
@[simp] theorem State.modCam_out (n : Nat) (f : CamPower → CamPower) : (s.modCam n f).out = s.out := rfl
@[simp] theorem State.modCam_pending (n : Nat) (f : CamPower → CamPower) : (s.modCam n f).pending = s.pending := rfl
@[simp] theorem State.modCam_ctl (n : Nat) (f : CamPower → CamPower) : (s.modCam n f).ctl = s.ctl := rfl
@[simp] theorem State.modCam_dict (n : Nat) (f : CamPower → CamPower) : (s.modCam n f).dict = s.dict := rfl
@[simp] theorem State.modCam_lanes (n : Nat) (f : CamPower → CamPower) : (s.modCam n f).lanes = s.lanes := rfl
@[simp] theorem State.modCam_ports (n : Nat) (f : CamPower → CamPower) : (s.modCam n f).ports = s.ports := rfl
@[simp] theorem State.modCam_regions (n : Nat) (f : CamPower → CamPower) : (s.modCam n f).regions = s.regions := rfl
@[simp] theorem State.modCam_triggers (n : Nat) (f : CamPower → CamPower) : (s.modCam n f).triggers = s.triggers := rfl
@[simp] theorem State.modCam_encoders (n : Nat) (f : CamPower → CamPower) : (s.modCam n f).encoders = s.encoders := rfl
@[simp] theorem State.modCam_pgos (n : Nat) (f : CamPower → CamPower) : (s.modCam n f).pgos = s.pgos := rfl
@[simp] theorem State.modCam_views (n : Nat) (f : CamPower → CamPower) : (s.modCam n f).views = s.views := rfl
@[simp] theorem State.modCam_cics (n : Nat) (f : CamPower → CamPower) : (s.modCam n f).cics = s.cics := rfl
@[simp] theorem State.modCam_slots (n : Nat) (f : CamPower → CamPower) : (s.modCam n f).slots = s.slots := rfl
@[simp] theorem State.modCam_tiles (n : Nat) (f : CamPower → CamPower) : (s.modCam n f).tiles = s.tiles := rfl
@[simp] theorem State.modCam_dispatchQueue (n : Nat) (f : CamPower → CamPower) : (s.modCam n f).dispatchQueue = s.dispatchQueue := rfl
@[simp] theorem State.modCam_entries (n : Nat) (f : CamPower → CamPower) : (s.modCam n f).entries = s.entries := rfl
@[simp] theorem State.modCam_candidates (n : Nat) (f : CamPower → CamPower) : (s.modCam n f).candidates = s.candidates := rfl
@[simp] theorem State.modCam_buses (n : Nat) (f : CamPower → CamPower) : (s.modCam n f).buses = s.buses := rfl
@[simp] theorem State.modCam_touts (n : Nat) (f : CamPower → CamPower) : (s.modCam n f).touts = s.touts := rfl
@[simp] theorem State.modCam_hbm (n : Nat) (f : CamPower → CamPower) : (s.modCam n f).hbm = s.hbm := rfl
@[simp] theorem State.modCam_dma (n : Nat) (f : CamPower → CamPower) : (s.modCam n f).dma = s.dma := rfl
@[simp] theorem State.modCam_fabric (n : Nat) (f : CamPower → CamPower) : (s.modCam n f).fabric = s.fabric := rfl
@[simp] theorem State.modCam_eths (n : Nat) (f : CamPower → CamPower) : (s.modCam n f).eths = s.eths := rfl
@[simp] theorem State.modCam_servo (n : Nat) (f : CamPower → CamPower) : (s.modCam n f).servo = s.servo := rfl
@[simp] theorem State.modCam_power (n : Nat) (f : CamPower → CamPower) : (s.modCam n f).power = s.power := rfl
@[simp] theorem State.modCam_pins (n : Nat) (f : CamPower → CamPower) : (s.modCam n f).pins = { s.pins with camera := s.pins.camera.modify n f } := rfl
@[simp] theorem State.modCam_bridge (n : Nat) (f : CamPower → CamPower) : (s.modCam n f).bridge = s.bridge := rfl

/-! ### State.modStaging -/

@[simp] theorem State.modStaging_clk (f : Staging → Staging) : (s.modStaging f).clk = s.clk := rfl
@[simp] theorem State.modStaging_timeOffset (f : Staging → Staging) : (s.modStaging f).timeOffset = s.timeOffset := rfl
@[simp] theorem State.modStaging_free (f : Staging → Staging) : (s.modStaging f).free = s.free := rfl
@[simp] theorem State.modStaging_out (f : Staging → Staging) : (s.modStaging f).out = s.out := rfl
@[simp] theorem State.modStaging_pending (f : Staging → Staging) : (s.modStaging f).pending = s.pending := rfl
@[simp] theorem State.modStaging_part (f : Staging → Staging) : (s.modStaging f).ctl.part = s.ctl.part := rfl
@[simp] theorem State.modStaging_mode (f : Staging → Staging) : (s.modStaging f).ctl.mode = s.ctl.mode := rfl
@[simp] theorem State.modStaging_previousMode (f : Staging → Staging) : (s.modStaging f).ctl.previousMode = s.ctl.previousMode := rfl
@[simp] theorem State.modStaging_lastCause (f : Staging → Staging) : (s.modStaging f).ctl.lastCause = s.ctl.lastCause := rfl
@[simp] theorem State.modStaging_modeTime (f : Staging → Staging) : (s.modStaging f).ctl.modeTime = s.ctl.modeTime := rfl
@[simp] theorem State.modStaging_sortingSince (f : Staging → Staging) : (s.modStaging f).ctl.sortingSince = s.ctl.sortingSince := rfl
@[simp] theorem State.modStaging_bootStatus (f : Staging → Staging) : (s.modStaging f).ctl.bootStatus = s.ctl.bootStatus := rfl
@[simp] theorem State.modStaging_sessions (f : Staging → Staging) : (s.modStaging f).ctl.sessions = s.ctl.sessions := rfl
@[simp] theorem State.modStaging_i3c (f : Staging → Staging) : (s.modStaging f).ctl.i3c = s.ctl.i3c := rfl
@[simp] theorem State.modStaging_lastSession (f : Staging → Staging) : (s.modStaging f).ctl.lastSession = s.ctl.lastSession := rfl
@[simp] theorem State.modStaging_challengeRun (f : Staging → Staging) : (s.modStaging f).ctl.challengeRun = s.ctl.challengeRun := rfl
@[simp] theorem State.modStaging_lockoutUntil (f : Staging → Staging) : (s.modStaging f).ctl.lockoutUntil = s.ctl.lockoutUntil := rfl
@[simp] theorem State.modStaging_transfer (f : Staging → Staging) : (s.modStaging f).ctl.transfer = s.ctl.transfer := rfl
@[simp] theorem State.modStaging_blobVersions (f : Staging → Staging) : (s.modStaging f).ctl.blobVersions = s.ctl.blobVersions := rfl
@[simp] theorem State.modStaging_staging (f : Staging → Staging) : (s.modStaging f).ctl.staging = f s.ctl.staging := rfl
@[simp] theorem State.modStaging_results (f : Staging → Staging) : (s.modStaging f).ctl.results = s.ctl.results := rfl
@[simp] theorem State.modStaging_journal (f : Staging → Staging) : (s.modStaging f).ctl.journal = s.ctl.journal := rfl
@[simp] theorem State.modStaging_errlog (f : Staging → Staging) : (s.modStaging f).ctl.errlog = s.ctl.errlog := rfl
@[simp] theorem State.modStaging_faults (f : Staging → Staging) : (s.modStaging f).ctl.faults = s.ctl.faults := rfl
@[simp] theorem State.modStaging_heartbeat (f : Staging → Staging) : (s.modStaging f).ctl.heartbeat = s.ctl.heartbeat := rfl
@[simp] theorem State.modStaging_scan (f : Staging → Staging) : (s.modStaging f).ctl.scan = s.ctl.scan := rfl
@[simp] theorem State.modStaging_images (f : Staging → Staging) : (s.modStaging f).ctl.images = s.ctl.images := rfl
@[simp] theorem State.modStaging_boot (f : Staging → Staging) : (s.modStaging f).ctl.boot = s.ctl.boot := rfl
@[simp] theorem State.modStaging_dict (f : Staging → Staging) : (s.modStaging f).dict = s.dict := rfl
@[simp] theorem State.modStaging_lanes (f : Staging → Staging) : (s.modStaging f).lanes = s.lanes := rfl
@[simp] theorem State.modStaging_ports (f : Staging → Staging) : (s.modStaging f).ports = s.ports := rfl
@[simp] theorem State.modStaging_regions (f : Staging → Staging) : (s.modStaging f).regions = s.regions := rfl
@[simp] theorem State.modStaging_triggers (f : Staging → Staging) : (s.modStaging f).triggers = s.triggers := rfl
@[simp] theorem State.modStaging_encoders (f : Staging → Staging) : (s.modStaging f).encoders = s.encoders := rfl
@[simp] theorem State.modStaging_pgos (f : Staging → Staging) : (s.modStaging f).pgos = s.pgos := rfl
@[simp] theorem State.modStaging_views (f : Staging → Staging) : (s.modStaging f).views = s.views := rfl
@[simp] theorem State.modStaging_cics (f : Staging → Staging) : (s.modStaging f).cics = s.cics := rfl
@[simp] theorem State.modStaging_slots (f : Staging → Staging) : (s.modStaging f).slots = s.slots := rfl
@[simp] theorem State.modStaging_tiles (f : Staging → Staging) : (s.modStaging f).tiles = s.tiles := rfl
@[simp] theorem State.modStaging_dispatchQueue (f : Staging → Staging) : (s.modStaging f).dispatchQueue = s.dispatchQueue := rfl
@[simp] theorem State.modStaging_entries (f : Staging → Staging) : (s.modStaging f).entries = s.entries := rfl
@[simp] theorem State.modStaging_candidates (f : Staging → Staging) : (s.modStaging f).candidates = s.candidates := rfl
@[simp] theorem State.modStaging_buses (f : Staging → Staging) : (s.modStaging f).buses = s.buses := rfl
@[simp] theorem State.modStaging_touts (f : Staging → Staging) : (s.modStaging f).touts = s.touts := rfl
@[simp] theorem State.modStaging_hbm (f : Staging → Staging) : (s.modStaging f).hbm = s.hbm := rfl
@[simp] theorem State.modStaging_dma (f : Staging → Staging) : (s.modStaging f).dma = s.dma := rfl
@[simp] theorem State.modStaging_fabric (f : Staging → Staging) : (s.modStaging f).fabric = s.fabric := rfl
@[simp] theorem State.modStaging_eths (f : Staging → Staging) : (s.modStaging f).eths = s.eths := rfl
@[simp] theorem State.modStaging_servo (f : Staging → Staging) : (s.modStaging f).servo = s.servo := rfl
@[simp] theorem State.modStaging_power (f : Staging → Staging) : (s.modStaging f).power = s.power := rfl
@[simp] theorem State.modStaging_pins (f : Staging → Staging) : (s.modStaging f).pins = s.pins := rfl
@[simp] theorem State.modStaging_bridge (f : Staging → Staging) : (s.modStaging f).bridge = s.bridge := rfl

/-! ### State.modBoot -/

@[simp] theorem State.modBoot_clk (f : Boot → Boot) : (s.modBoot f).clk = s.clk := rfl
@[simp] theorem State.modBoot_timeOffset (f : Boot → Boot) : (s.modBoot f).timeOffset = s.timeOffset := rfl
@[simp] theorem State.modBoot_free (f : Boot → Boot) : (s.modBoot f).free = s.free := rfl
@[simp] theorem State.modBoot_out (f : Boot → Boot) : (s.modBoot f).out = s.out := rfl
@[simp] theorem State.modBoot_pending (f : Boot → Boot) : (s.modBoot f).pending = s.pending := rfl
@[simp] theorem State.modBoot_part (f : Boot → Boot) : (s.modBoot f).ctl.part = s.ctl.part := rfl
@[simp] theorem State.modBoot_mode (f : Boot → Boot) : (s.modBoot f).ctl.mode = s.ctl.mode := rfl
@[simp] theorem State.modBoot_previousMode (f : Boot → Boot) : (s.modBoot f).ctl.previousMode = s.ctl.previousMode := rfl
@[simp] theorem State.modBoot_lastCause (f : Boot → Boot) : (s.modBoot f).ctl.lastCause = s.ctl.lastCause := rfl
@[simp] theorem State.modBoot_modeTime (f : Boot → Boot) : (s.modBoot f).ctl.modeTime = s.ctl.modeTime := rfl
@[simp] theorem State.modBoot_sortingSince (f : Boot → Boot) : (s.modBoot f).ctl.sortingSince = s.ctl.sortingSince := rfl
@[simp] theorem State.modBoot_bootStatus (f : Boot → Boot) : (s.modBoot f).ctl.bootStatus = s.ctl.bootStatus := rfl
@[simp] theorem State.modBoot_sessions (f : Boot → Boot) : (s.modBoot f).ctl.sessions = s.ctl.sessions := rfl
@[simp] theorem State.modBoot_i3c (f : Boot → Boot) : (s.modBoot f).ctl.i3c = s.ctl.i3c := rfl
@[simp] theorem State.modBoot_lastSession (f : Boot → Boot) : (s.modBoot f).ctl.lastSession = s.ctl.lastSession := rfl
@[simp] theorem State.modBoot_challengeRun (f : Boot → Boot) : (s.modBoot f).ctl.challengeRun = s.ctl.challengeRun := rfl
@[simp] theorem State.modBoot_lockoutUntil (f : Boot → Boot) : (s.modBoot f).ctl.lockoutUntil = s.ctl.lockoutUntil := rfl
@[simp] theorem State.modBoot_transfer (f : Boot → Boot) : (s.modBoot f).ctl.transfer = s.ctl.transfer := rfl
@[simp] theorem State.modBoot_blobVersions (f : Boot → Boot) : (s.modBoot f).ctl.blobVersions = s.ctl.blobVersions := rfl
@[simp] theorem State.modBoot_staging (f : Boot → Boot) : (s.modBoot f).ctl.staging = s.ctl.staging := rfl
@[simp] theorem State.modBoot_results (f : Boot → Boot) : (s.modBoot f).ctl.results = s.ctl.results := rfl
@[simp] theorem State.modBoot_journal (f : Boot → Boot) : (s.modBoot f).ctl.journal = s.ctl.journal := rfl
@[simp] theorem State.modBoot_errlog (f : Boot → Boot) : (s.modBoot f).ctl.errlog = s.ctl.errlog := rfl
@[simp] theorem State.modBoot_faults (f : Boot → Boot) : (s.modBoot f).ctl.faults = s.ctl.faults := rfl
@[simp] theorem State.modBoot_heartbeat (f : Boot → Boot) : (s.modBoot f).ctl.heartbeat = s.ctl.heartbeat := rfl
@[simp] theorem State.modBoot_scan (f : Boot → Boot) : (s.modBoot f).ctl.scan = s.ctl.scan := rfl
@[simp] theorem State.modBoot_images (f : Boot → Boot) : (s.modBoot f).ctl.images = s.ctl.images := rfl
@[simp] theorem State.modBoot_boot (f : Boot → Boot) : (s.modBoot f).ctl.boot = f s.ctl.boot := rfl
@[simp] theorem State.modBoot_dict (f : Boot → Boot) : (s.modBoot f).dict = s.dict := rfl
@[simp] theorem State.modBoot_lanes (f : Boot → Boot) : (s.modBoot f).lanes = s.lanes := rfl
@[simp] theorem State.modBoot_ports (f : Boot → Boot) : (s.modBoot f).ports = s.ports := rfl
@[simp] theorem State.modBoot_regions (f : Boot → Boot) : (s.modBoot f).regions = s.regions := rfl
@[simp] theorem State.modBoot_triggers (f : Boot → Boot) : (s.modBoot f).triggers = s.triggers := rfl
@[simp] theorem State.modBoot_encoders (f : Boot → Boot) : (s.modBoot f).encoders = s.encoders := rfl
@[simp] theorem State.modBoot_pgos (f : Boot → Boot) : (s.modBoot f).pgos = s.pgos := rfl
@[simp] theorem State.modBoot_views (f : Boot → Boot) : (s.modBoot f).views = s.views := rfl
@[simp] theorem State.modBoot_cics (f : Boot → Boot) : (s.modBoot f).cics = s.cics := rfl
@[simp] theorem State.modBoot_slots (f : Boot → Boot) : (s.modBoot f).slots = s.slots := rfl
@[simp] theorem State.modBoot_tiles (f : Boot → Boot) : (s.modBoot f).tiles = s.tiles := rfl
@[simp] theorem State.modBoot_dispatchQueue (f : Boot → Boot) : (s.modBoot f).dispatchQueue = s.dispatchQueue := rfl
@[simp] theorem State.modBoot_entries (f : Boot → Boot) : (s.modBoot f).entries = s.entries := rfl
@[simp] theorem State.modBoot_candidates (f : Boot → Boot) : (s.modBoot f).candidates = s.candidates := rfl
@[simp] theorem State.modBoot_buses (f : Boot → Boot) : (s.modBoot f).buses = s.buses := rfl
@[simp] theorem State.modBoot_touts (f : Boot → Boot) : (s.modBoot f).touts = s.touts := rfl
@[simp] theorem State.modBoot_hbm (f : Boot → Boot) : (s.modBoot f).hbm = s.hbm := rfl
@[simp] theorem State.modBoot_dma (f : Boot → Boot) : (s.modBoot f).dma = s.dma := rfl
@[simp] theorem State.modBoot_fabric (f : Boot → Boot) : (s.modBoot f).fabric = s.fabric := rfl
@[simp] theorem State.modBoot_eths (f : Boot → Boot) : (s.modBoot f).eths = s.eths := rfl
@[simp] theorem State.modBoot_servo (f : Boot → Boot) : (s.modBoot f).servo = s.servo := rfl
@[simp] theorem State.modBoot_power (f : Boot → Boot) : (s.modBoot f).power = s.power := rfl
@[simp] theorem State.modBoot_pins (f : Boot → Boot) : (s.modBoot f).pins = s.pins := rfl
@[simp] theorem State.modBoot_bridge (f : Boot → Boot) : (s.modBoot f).bridge = s.bridge := rfl

/-! ### State.modJournal -/

@[simp] theorem State.modJournal_clk (f : Journal → Journal) : (s.modJournal f).clk = s.clk := rfl
@[simp] theorem State.modJournal_timeOffset (f : Journal → Journal) : (s.modJournal f).timeOffset = s.timeOffset := rfl
@[simp] theorem State.modJournal_free (f : Journal → Journal) : (s.modJournal f).free = s.free := rfl
@[simp] theorem State.modJournal_out (f : Journal → Journal) : (s.modJournal f).out = s.out := rfl
@[simp] theorem State.modJournal_pending (f : Journal → Journal) : (s.modJournal f).pending = s.pending := rfl
@[simp] theorem State.modJournal_part (f : Journal → Journal) : (s.modJournal f).ctl.part = s.ctl.part := rfl
@[simp] theorem State.modJournal_mode (f : Journal → Journal) : (s.modJournal f).ctl.mode = s.ctl.mode := rfl
@[simp] theorem State.modJournal_previousMode (f : Journal → Journal) : (s.modJournal f).ctl.previousMode = s.ctl.previousMode := rfl
@[simp] theorem State.modJournal_lastCause (f : Journal → Journal) : (s.modJournal f).ctl.lastCause = s.ctl.lastCause := rfl
@[simp] theorem State.modJournal_modeTime (f : Journal → Journal) : (s.modJournal f).ctl.modeTime = s.ctl.modeTime := rfl
@[simp] theorem State.modJournal_sortingSince (f : Journal → Journal) : (s.modJournal f).ctl.sortingSince = s.ctl.sortingSince := rfl
@[simp] theorem State.modJournal_bootStatus (f : Journal → Journal) : (s.modJournal f).ctl.bootStatus = s.ctl.bootStatus := rfl
@[simp] theorem State.modJournal_sessions (f : Journal → Journal) : (s.modJournal f).ctl.sessions = s.ctl.sessions := rfl
@[simp] theorem State.modJournal_i3c (f : Journal → Journal) : (s.modJournal f).ctl.i3c = s.ctl.i3c := rfl
@[simp] theorem State.modJournal_lastSession (f : Journal → Journal) : (s.modJournal f).ctl.lastSession = s.ctl.lastSession := rfl
@[simp] theorem State.modJournal_challengeRun (f : Journal → Journal) : (s.modJournal f).ctl.challengeRun = s.ctl.challengeRun := rfl
@[simp] theorem State.modJournal_lockoutUntil (f : Journal → Journal) : (s.modJournal f).ctl.lockoutUntil = s.ctl.lockoutUntil := rfl
@[simp] theorem State.modJournal_transfer (f : Journal → Journal) : (s.modJournal f).ctl.transfer = s.ctl.transfer := rfl
@[simp] theorem State.modJournal_blobVersions (f : Journal → Journal) : (s.modJournal f).ctl.blobVersions = s.ctl.blobVersions := rfl
@[simp] theorem State.modJournal_staging (f : Journal → Journal) : (s.modJournal f).ctl.staging = s.ctl.staging := rfl
@[simp] theorem State.modJournal_results (f : Journal → Journal) : (s.modJournal f).ctl.results = s.ctl.results := rfl
@[simp] theorem State.modJournal_journal (f : Journal → Journal) : (s.modJournal f).ctl.journal = f s.ctl.journal := rfl
@[simp] theorem State.modJournal_errlog (f : Journal → Journal) : (s.modJournal f).ctl.errlog = s.ctl.errlog := rfl
@[simp] theorem State.modJournal_faults (f : Journal → Journal) : (s.modJournal f).ctl.faults = s.ctl.faults := rfl
@[simp] theorem State.modJournal_heartbeat (f : Journal → Journal) : (s.modJournal f).ctl.heartbeat = s.ctl.heartbeat := rfl
@[simp] theorem State.modJournal_scan (f : Journal → Journal) : (s.modJournal f).ctl.scan = s.ctl.scan := rfl
@[simp] theorem State.modJournal_images (f : Journal → Journal) : (s.modJournal f).ctl.images = s.ctl.images := rfl
@[simp] theorem State.modJournal_boot (f : Journal → Journal) : (s.modJournal f).ctl.boot = s.ctl.boot := rfl
@[simp] theorem State.modJournal_dict (f : Journal → Journal) : (s.modJournal f).dict = s.dict := rfl
@[simp] theorem State.modJournal_lanes (f : Journal → Journal) : (s.modJournal f).lanes = s.lanes := rfl
@[simp] theorem State.modJournal_ports (f : Journal → Journal) : (s.modJournal f).ports = s.ports := rfl
@[simp] theorem State.modJournal_regions (f : Journal → Journal) : (s.modJournal f).regions = s.regions := rfl
@[simp] theorem State.modJournal_triggers (f : Journal → Journal) : (s.modJournal f).triggers = s.triggers := rfl
@[simp] theorem State.modJournal_encoders (f : Journal → Journal) : (s.modJournal f).encoders = s.encoders := rfl
@[simp] theorem State.modJournal_pgos (f : Journal → Journal) : (s.modJournal f).pgos = s.pgos := rfl
@[simp] theorem State.modJournal_views (f : Journal → Journal) : (s.modJournal f).views = s.views := rfl
@[simp] theorem State.modJournal_cics (f : Journal → Journal) : (s.modJournal f).cics = s.cics := rfl
@[simp] theorem State.modJournal_slots (f : Journal → Journal) : (s.modJournal f).slots = s.slots := rfl
@[simp] theorem State.modJournal_tiles (f : Journal → Journal) : (s.modJournal f).tiles = s.tiles := rfl
@[simp] theorem State.modJournal_dispatchQueue (f : Journal → Journal) : (s.modJournal f).dispatchQueue = s.dispatchQueue := rfl
@[simp] theorem State.modJournal_entries (f : Journal → Journal) : (s.modJournal f).entries = s.entries := rfl
@[simp] theorem State.modJournal_candidates (f : Journal → Journal) : (s.modJournal f).candidates = s.candidates := rfl
@[simp] theorem State.modJournal_buses (f : Journal → Journal) : (s.modJournal f).buses = s.buses := rfl
@[simp] theorem State.modJournal_touts (f : Journal → Journal) : (s.modJournal f).touts = s.touts := rfl
@[simp] theorem State.modJournal_hbm (f : Journal → Journal) : (s.modJournal f).hbm = s.hbm := rfl
@[simp] theorem State.modJournal_dma (f : Journal → Journal) : (s.modJournal f).dma = s.dma := rfl
@[simp] theorem State.modJournal_fabric (f : Journal → Journal) : (s.modJournal f).fabric = s.fabric := rfl
@[simp] theorem State.modJournal_eths (f : Journal → Journal) : (s.modJournal f).eths = s.eths := rfl
@[simp] theorem State.modJournal_servo (f : Journal → Journal) : (s.modJournal f).servo = s.servo := rfl
@[simp] theorem State.modJournal_power (f : Journal → Journal) : (s.modJournal f).power = s.power := rfl
@[simp] theorem State.modJournal_pins (f : Journal → Journal) : (s.modJournal f).pins = s.pins := rfl
@[simp] theorem State.modJournal_bridge (f : Journal → Journal) : (s.modJournal f).bridge = s.bridge := rfl

/-! ### State.modErrLog -/

@[simp] theorem State.modErrLog_clk (f : ErrLog → ErrLog) : (s.modErrLog f).clk = s.clk := rfl
@[simp] theorem State.modErrLog_timeOffset (f : ErrLog → ErrLog) : (s.modErrLog f).timeOffset = s.timeOffset := rfl
@[simp] theorem State.modErrLog_free (f : ErrLog → ErrLog) : (s.modErrLog f).free = s.free := rfl
@[simp] theorem State.modErrLog_out (f : ErrLog → ErrLog) : (s.modErrLog f).out = s.out := rfl
@[simp] theorem State.modErrLog_pending (f : ErrLog → ErrLog) : (s.modErrLog f).pending = s.pending := rfl
@[simp] theorem State.modErrLog_part (f : ErrLog → ErrLog) : (s.modErrLog f).ctl.part = s.ctl.part := rfl
@[simp] theorem State.modErrLog_mode (f : ErrLog → ErrLog) : (s.modErrLog f).ctl.mode = s.ctl.mode := rfl
@[simp] theorem State.modErrLog_previousMode (f : ErrLog → ErrLog) : (s.modErrLog f).ctl.previousMode = s.ctl.previousMode := rfl
@[simp] theorem State.modErrLog_lastCause (f : ErrLog → ErrLog) : (s.modErrLog f).ctl.lastCause = s.ctl.lastCause := rfl
@[simp] theorem State.modErrLog_modeTime (f : ErrLog → ErrLog) : (s.modErrLog f).ctl.modeTime = s.ctl.modeTime := rfl
@[simp] theorem State.modErrLog_sortingSince (f : ErrLog → ErrLog) : (s.modErrLog f).ctl.sortingSince = s.ctl.sortingSince := rfl
@[simp] theorem State.modErrLog_bootStatus (f : ErrLog → ErrLog) : (s.modErrLog f).ctl.bootStatus = s.ctl.bootStatus := rfl
@[simp] theorem State.modErrLog_sessions (f : ErrLog → ErrLog) : (s.modErrLog f).ctl.sessions = s.ctl.sessions := rfl
@[simp] theorem State.modErrLog_i3c (f : ErrLog → ErrLog) : (s.modErrLog f).ctl.i3c = s.ctl.i3c := rfl
@[simp] theorem State.modErrLog_lastSession (f : ErrLog → ErrLog) : (s.modErrLog f).ctl.lastSession = s.ctl.lastSession := rfl
@[simp] theorem State.modErrLog_challengeRun (f : ErrLog → ErrLog) : (s.modErrLog f).ctl.challengeRun = s.ctl.challengeRun := rfl
@[simp] theorem State.modErrLog_lockoutUntil (f : ErrLog → ErrLog) : (s.modErrLog f).ctl.lockoutUntil = s.ctl.lockoutUntil := rfl
@[simp] theorem State.modErrLog_transfer (f : ErrLog → ErrLog) : (s.modErrLog f).ctl.transfer = s.ctl.transfer := rfl
@[simp] theorem State.modErrLog_blobVersions (f : ErrLog → ErrLog) : (s.modErrLog f).ctl.blobVersions = s.ctl.blobVersions := rfl
@[simp] theorem State.modErrLog_staging (f : ErrLog → ErrLog) : (s.modErrLog f).ctl.staging = s.ctl.staging := rfl
@[simp] theorem State.modErrLog_results (f : ErrLog → ErrLog) : (s.modErrLog f).ctl.results = s.ctl.results := rfl
@[simp] theorem State.modErrLog_journal (f : ErrLog → ErrLog) : (s.modErrLog f).ctl.journal = s.ctl.journal := rfl
@[simp] theorem State.modErrLog_errlog (f : ErrLog → ErrLog) : (s.modErrLog f).ctl.errlog = f s.ctl.errlog := rfl
@[simp] theorem State.modErrLog_faults (f : ErrLog → ErrLog) : (s.modErrLog f).ctl.faults = s.ctl.faults := rfl
@[simp] theorem State.modErrLog_heartbeat (f : ErrLog → ErrLog) : (s.modErrLog f).ctl.heartbeat = s.ctl.heartbeat := rfl
@[simp] theorem State.modErrLog_scan (f : ErrLog → ErrLog) : (s.modErrLog f).ctl.scan = s.ctl.scan := rfl
@[simp] theorem State.modErrLog_images (f : ErrLog → ErrLog) : (s.modErrLog f).ctl.images = s.ctl.images := rfl
@[simp] theorem State.modErrLog_boot (f : ErrLog → ErrLog) : (s.modErrLog f).ctl.boot = s.ctl.boot := rfl
@[simp] theorem State.modErrLog_dict (f : ErrLog → ErrLog) : (s.modErrLog f).dict = s.dict := rfl
@[simp] theorem State.modErrLog_lanes (f : ErrLog → ErrLog) : (s.modErrLog f).lanes = s.lanes := rfl
@[simp] theorem State.modErrLog_ports (f : ErrLog → ErrLog) : (s.modErrLog f).ports = s.ports := rfl
@[simp] theorem State.modErrLog_regions (f : ErrLog → ErrLog) : (s.modErrLog f).regions = s.regions := rfl
@[simp] theorem State.modErrLog_triggers (f : ErrLog → ErrLog) : (s.modErrLog f).triggers = s.triggers := rfl
@[simp] theorem State.modErrLog_encoders (f : ErrLog → ErrLog) : (s.modErrLog f).encoders = s.encoders := rfl
@[simp] theorem State.modErrLog_pgos (f : ErrLog → ErrLog) : (s.modErrLog f).pgos = s.pgos := rfl
@[simp] theorem State.modErrLog_views (f : ErrLog → ErrLog) : (s.modErrLog f).views = s.views := rfl
@[simp] theorem State.modErrLog_cics (f : ErrLog → ErrLog) : (s.modErrLog f).cics = s.cics := rfl
@[simp] theorem State.modErrLog_slots (f : ErrLog → ErrLog) : (s.modErrLog f).slots = s.slots := rfl
@[simp] theorem State.modErrLog_tiles (f : ErrLog → ErrLog) : (s.modErrLog f).tiles = s.tiles := rfl
@[simp] theorem State.modErrLog_dispatchQueue (f : ErrLog → ErrLog) : (s.modErrLog f).dispatchQueue = s.dispatchQueue := rfl
@[simp] theorem State.modErrLog_entries (f : ErrLog → ErrLog) : (s.modErrLog f).entries = s.entries := rfl
@[simp] theorem State.modErrLog_candidates (f : ErrLog → ErrLog) : (s.modErrLog f).candidates = s.candidates := rfl
@[simp] theorem State.modErrLog_buses (f : ErrLog → ErrLog) : (s.modErrLog f).buses = s.buses := rfl
@[simp] theorem State.modErrLog_touts (f : ErrLog → ErrLog) : (s.modErrLog f).touts = s.touts := rfl
@[simp] theorem State.modErrLog_hbm (f : ErrLog → ErrLog) : (s.modErrLog f).hbm = s.hbm := rfl
@[simp] theorem State.modErrLog_dma (f : ErrLog → ErrLog) : (s.modErrLog f).dma = s.dma := rfl
@[simp] theorem State.modErrLog_fabric (f : ErrLog → ErrLog) : (s.modErrLog f).fabric = s.fabric := rfl
@[simp] theorem State.modErrLog_eths (f : ErrLog → ErrLog) : (s.modErrLog f).eths = s.eths := rfl
@[simp] theorem State.modErrLog_servo (f : ErrLog → ErrLog) : (s.modErrLog f).servo = s.servo := rfl
@[simp] theorem State.modErrLog_power (f : ErrLog → ErrLog) : (s.modErrLog f).power = s.power := rfl
@[simp] theorem State.modErrLog_pins (f : ErrLog → ErrLog) : (s.modErrLog f).pins = s.pins := rfl
@[simp] theorem State.modErrLog_bridge (f : ErrLog → ErrLog) : (s.modErrLog f).bridge = s.bridge := rfl

/-! ### State.modSession -/

@[simp] theorem State.modSession_clk (id : SessId) (f : Session → Session) : (s.modSession id f).clk = s.clk := rfl
@[simp] theorem State.modSession_timeOffset (id : SessId) (f : Session → Session) : (s.modSession id f).timeOffset = s.timeOffset := rfl
@[simp] theorem State.modSession_free (id : SessId) (f : Session → Session) : (s.modSession id f).free = s.free := rfl
@[simp] theorem State.modSession_out (id : SessId) (f : Session → Session) : (s.modSession id f).out = s.out := rfl
@[simp] theorem State.modSession_pending (id : SessId) (f : Session → Session) : (s.modSession id f).pending = s.pending := rfl
@[simp] theorem State.modSession_part (id : SessId) (f : Session → Session) : (s.modSession id f).ctl.part = s.ctl.part := rfl
@[simp] theorem State.modSession_mode (id : SessId) (f : Session → Session) : (s.modSession id f).ctl.mode = s.ctl.mode := rfl
@[simp] theorem State.modSession_previousMode (id : SessId) (f : Session → Session) : (s.modSession id f).ctl.previousMode = s.ctl.previousMode := rfl
@[simp] theorem State.modSession_lastCause (id : SessId) (f : Session → Session) : (s.modSession id f).ctl.lastCause = s.ctl.lastCause := rfl
@[simp] theorem State.modSession_modeTime (id : SessId) (f : Session → Session) : (s.modSession id f).ctl.modeTime = s.ctl.modeTime := rfl
@[simp] theorem State.modSession_sortingSince (id : SessId) (f : Session → Session) : (s.modSession id f).ctl.sortingSince = s.ctl.sortingSince := rfl
@[simp] theorem State.modSession_bootStatus (id : SessId) (f : Session → Session) : (s.modSession id f).ctl.bootStatus = s.ctl.bootStatus := rfl
@[simp] theorem State.modSession_sessions (id : SessId) (f : Session → Session) : (s.modSession id f).ctl.sessions = s.ctl.sessions.map (fun x => if x.id = id then f x else x) := rfl
@[simp] theorem State.modSession_i3c (id : SessId) (f : Session → Session) : (s.modSession id f).ctl.i3c = s.ctl.i3c := rfl
@[simp] theorem State.modSession_lastSession (id : SessId) (f : Session → Session) : (s.modSession id f).ctl.lastSession = s.ctl.lastSession := rfl
@[simp] theorem State.modSession_challengeRun (id : SessId) (f : Session → Session) : (s.modSession id f).ctl.challengeRun = s.ctl.challengeRun := rfl
@[simp] theorem State.modSession_lockoutUntil (id : SessId) (f : Session → Session) : (s.modSession id f).ctl.lockoutUntil = s.ctl.lockoutUntil := rfl
@[simp] theorem State.modSession_transfer (id : SessId) (f : Session → Session) : (s.modSession id f).ctl.transfer = s.ctl.transfer := rfl
@[simp] theorem State.modSession_blobVersions (id : SessId) (f : Session → Session) : (s.modSession id f).ctl.blobVersions = s.ctl.blobVersions := rfl
@[simp] theorem State.modSession_staging (id : SessId) (f : Session → Session) : (s.modSession id f).ctl.staging = s.ctl.staging := rfl
@[simp] theorem State.modSession_results (id : SessId) (f : Session → Session) : (s.modSession id f).ctl.results = s.ctl.results := rfl
@[simp] theorem State.modSession_journal (id : SessId) (f : Session → Session) : (s.modSession id f).ctl.journal = s.ctl.journal := rfl
@[simp] theorem State.modSession_errlog (id : SessId) (f : Session → Session) : (s.modSession id f).ctl.errlog = s.ctl.errlog := rfl
@[simp] theorem State.modSession_faults (id : SessId) (f : Session → Session) : (s.modSession id f).ctl.faults = s.ctl.faults := rfl
@[simp] theorem State.modSession_heartbeat (id : SessId) (f : Session → Session) : (s.modSession id f).ctl.heartbeat = s.ctl.heartbeat := rfl
@[simp] theorem State.modSession_scan (id : SessId) (f : Session → Session) : (s.modSession id f).ctl.scan = s.ctl.scan := rfl
@[simp] theorem State.modSession_images (id : SessId) (f : Session → Session) : (s.modSession id f).ctl.images = s.ctl.images := rfl
@[simp] theorem State.modSession_boot (id : SessId) (f : Session → Session) : (s.modSession id f).ctl.boot = s.ctl.boot := rfl
@[simp] theorem State.modSession_dict (id : SessId) (f : Session → Session) : (s.modSession id f).dict = s.dict := rfl
@[simp] theorem State.modSession_lanes (id : SessId) (f : Session → Session) : (s.modSession id f).lanes = s.lanes := rfl
@[simp] theorem State.modSession_ports (id : SessId) (f : Session → Session) : (s.modSession id f).ports = s.ports := rfl
@[simp] theorem State.modSession_regions (id : SessId) (f : Session → Session) : (s.modSession id f).regions = s.regions := rfl
@[simp] theorem State.modSession_triggers (id : SessId) (f : Session → Session) : (s.modSession id f).triggers = s.triggers := rfl
@[simp] theorem State.modSession_encoders (id : SessId) (f : Session → Session) : (s.modSession id f).encoders = s.encoders := rfl
@[simp] theorem State.modSession_pgos (id : SessId) (f : Session → Session) : (s.modSession id f).pgos = s.pgos := rfl
@[simp] theorem State.modSession_views (id : SessId) (f : Session → Session) : (s.modSession id f).views = s.views := rfl
@[simp] theorem State.modSession_cics (id : SessId) (f : Session → Session) : (s.modSession id f).cics = s.cics := rfl
@[simp] theorem State.modSession_slots (id : SessId) (f : Session → Session) : (s.modSession id f).slots = s.slots := rfl
@[simp] theorem State.modSession_tiles (id : SessId) (f : Session → Session) : (s.modSession id f).tiles = s.tiles := rfl
@[simp] theorem State.modSession_dispatchQueue (id : SessId) (f : Session → Session) : (s.modSession id f).dispatchQueue = s.dispatchQueue := rfl
@[simp] theorem State.modSession_entries (id : SessId) (f : Session → Session) : (s.modSession id f).entries = s.entries := rfl
@[simp] theorem State.modSession_candidates (id : SessId) (f : Session → Session) : (s.modSession id f).candidates = s.candidates := rfl
@[simp] theorem State.modSession_buses (id : SessId) (f : Session → Session) : (s.modSession id f).buses = s.buses := rfl
@[simp] theorem State.modSession_touts (id : SessId) (f : Session → Session) : (s.modSession id f).touts = s.touts := rfl
@[simp] theorem State.modSession_hbm (id : SessId) (f : Session → Session) : (s.modSession id f).hbm = s.hbm := rfl
@[simp] theorem State.modSession_dma (id : SessId) (f : Session → Session) : (s.modSession id f).dma = s.dma := rfl
@[simp] theorem State.modSession_fabric (id : SessId) (f : Session → Session) : (s.modSession id f).fabric = s.fabric := rfl
@[simp] theorem State.modSession_eths (id : SessId) (f : Session → Session) : (s.modSession id f).eths = s.eths := rfl
@[simp] theorem State.modSession_servo (id : SessId) (f : Session → Session) : (s.modSession id f).servo = s.servo := rfl
@[simp] theorem State.modSession_power (id : SessId) (f : Session → Session) : (s.modSession id f).power = s.power := rfl
@[simp] theorem State.modSession_pins (id : SessId) (f : Session → Session) : (s.modSession id f).pins = s.pins := rfl
@[simp] theorem State.modSession_bridge (id : SessId) (f : Session → Session) : (s.modSession id f).bridge = s.bridge := rfl

/-! ### State.putResult -/

@[simp] theorem State.putResult_clk (r : ResultObj) : (s.putResult r).clk = s.clk := rfl
@[simp] theorem State.putResult_timeOffset (r : ResultObj) : (s.putResult r).timeOffset = s.timeOffset := rfl
@[simp] theorem State.putResult_free (r : ResultObj) : (s.putResult r).free = s.free := rfl
@[simp] theorem State.putResult_out (r : ResultObj) : (s.putResult r).out = s.out := rfl
@[simp] theorem State.putResult_pending (r : ResultObj) : (s.putResult r).pending = s.pending := rfl
@[simp] theorem State.putResult_part (r : ResultObj) : (s.putResult r).ctl.part = s.ctl.part := rfl
@[simp] theorem State.putResult_mode (r : ResultObj) : (s.putResult r).ctl.mode = s.ctl.mode := rfl
@[simp] theorem State.putResult_previousMode (r : ResultObj) : (s.putResult r).ctl.previousMode = s.ctl.previousMode := rfl
@[simp] theorem State.putResult_lastCause (r : ResultObj) : (s.putResult r).ctl.lastCause = s.ctl.lastCause := rfl
@[simp] theorem State.putResult_modeTime (r : ResultObj) : (s.putResult r).ctl.modeTime = s.ctl.modeTime := rfl
@[simp] theorem State.putResult_sortingSince (r : ResultObj) : (s.putResult r).ctl.sortingSince = s.ctl.sortingSince := rfl
@[simp] theorem State.putResult_bootStatus (r : ResultObj) : (s.putResult r).ctl.bootStatus = s.ctl.bootStatus := rfl
@[simp] theorem State.putResult_sessions (r : ResultObj) : (s.putResult r).ctl.sessions = s.ctl.sessions := rfl
@[simp] theorem State.putResult_i3c (r : ResultObj) : (s.putResult r).ctl.i3c = s.ctl.i3c := rfl
@[simp] theorem State.putResult_lastSession (r : ResultObj) : (s.putResult r).ctl.lastSession = s.ctl.lastSession := rfl
@[simp] theorem State.putResult_challengeRun (r : ResultObj) : (s.putResult r).ctl.challengeRun = s.ctl.challengeRun := rfl
@[simp] theorem State.putResult_lockoutUntil (r : ResultObj) : (s.putResult r).ctl.lockoutUntil = s.ctl.lockoutUntil := rfl
@[simp] theorem State.putResult_transfer (r : ResultObj) : (s.putResult r).ctl.transfer = s.ctl.transfer := rfl
@[simp] theorem State.putResult_blobVersions (r : ResultObj) : (s.putResult r).ctl.blobVersions = s.ctl.blobVersions := rfl
@[simp] theorem State.putResult_staging (r : ResultObj) : (s.putResult r).ctl.staging = s.ctl.staging := rfl
@[simp] theorem State.putResult_results (r : ResultObj) : (s.putResult r).ctl.results = r :: s.ctl.results.filter (fun x => x.key ≠ r.key) := rfl
@[simp] theorem State.putResult_journal (r : ResultObj) : (s.putResult r).ctl.journal = s.ctl.journal := rfl
@[simp] theorem State.putResult_errlog (r : ResultObj) : (s.putResult r).ctl.errlog = s.ctl.errlog := rfl
@[simp] theorem State.putResult_faults (r : ResultObj) : (s.putResult r).ctl.faults = s.ctl.faults := rfl
@[simp] theorem State.putResult_heartbeat (r : ResultObj) : (s.putResult r).ctl.heartbeat = s.ctl.heartbeat := rfl
@[simp] theorem State.putResult_scan (r : ResultObj) : (s.putResult r).ctl.scan = s.ctl.scan := rfl
@[simp] theorem State.putResult_images (r : ResultObj) : (s.putResult r).ctl.images = s.ctl.images := rfl
@[simp] theorem State.putResult_boot (r : ResultObj) : (s.putResult r).ctl.boot = s.ctl.boot := rfl
@[simp] theorem State.putResult_dict (r : ResultObj) : (s.putResult r).dict = s.dict := rfl
@[simp] theorem State.putResult_lanes (r : ResultObj) : (s.putResult r).lanes = s.lanes := rfl
@[simp] theorem State.putResult_ports (r : ResultObj) : (s.putResult r).ports = s.ports := rfl
@[simp] theorem State.putResult_regions (r : ResultObj) : (s.putResult r).regions = s.regions := rfl
@[simp] theorem State.putResult_triggers (r : ResultObj) : (s.putResult r).triggers = s.triggers := rfl
@[simp] theorem State.putResult_encoders (r : ResultObj) : (s.putResult r).encoders = s.encoders := rfl
@[simp] theorem State.putResult_pgos (r : ResultObj) : (s.putResult r).pgos = s.pgos := rfl
@[simp] theorem State.putResult_views (r : ResultObj) : (s.putResult r).views = s.views := rfl
@[simp] theorem State.putResult_cics (r : ResultObj) : (s.putResult r).cics = s.cics := rfl
@[simp] theorem State.putResult_slots (r : ResultObj) : (s.putResult r).slots = s.slots := rfl
@[simp] theorem State.putResult_tiles (r : ResultObj) : (s.putResult r).tiles = s.tiles := rfl
@[simp] theorem State.putResult_dispatchQueue (r : ResultObj) : (s.putResult r).dispatchQueue = s.dispatchQueue := rfl
@[simp] theorem State.putResult_entries (r : ResultObj) : (s.putResult r).entries = s.entries := rfl
@[simp] theorem State.putResult_candidates (r : ResultObj) : (s.putResult r).candidates = s.candidates := rfl
@[simp] theorem State.putResult_buses (r : ResultObj) : (s.putResult r).buses = s.buses := rfl
@[simp] theorem State.putResult_touts (r : ResultObj) : (s.putResult r).touts = s.touts := rfl
@[simp] theorem State.putResult_hbm (r : ResultObj) : (s.putResult r).hbm = s.hbm := rfl
@[simp] theorem State.putResult_dma (r : ResultObj) : (s.putResult r).dma = s.dma := rfl
@[simp] theorem State.putResult_fabric (r : ResultObj) : (s.putResult r).fabric = s.fabric := rfl
@[simp] theorem State.putResult_eths (r : ResultObj) : (s.putResult r).eths = s.eths := rfl
@[simp] theorem State.putResult_servo (r : ResultObj) : (s.putResult r).servo = s.servo := rfl
@[simp] theorem State.putResult_power (r : ResultObj) : (s.putResult r).power = s.power := rfl
@[simp] theorem State.putResult_pins (r : ResultObj) : (s.putResult r).pins = s.pins := rfl
@[simp] theorem State.putResult_bridge (r : ResultObj) : (s.putResult r).bridge = s.bridge := rfl

end Sys2Proof.Machine
end

