-- ==== Sys2Proof/Tests/Slice0.lean ====
section
/-! SUPPORT. The model's own tests: ill-formed operands are refused, small steps do what the manual says, and for every
statement with hypotheses a state and operands that meet them together. -/

namespace Sys2Proof.Tests

set_option Elab.async false

open Sys2Proof Sys2Proof.Machine

/-! ## Small states -/

/-- The module of a fitted part in CONFIG, its I3C session of INTEGRATOR. -/
def config : State :=
  { State.reset with clk := 10 ^ 15, ctl := { State.reset.ctl with
      mode := .config, sessions := [{ Session.i3c with level := .integrator }] } }

/-- View 3 with port 11, in force in epoch 0. -/
def viewed : State :=
  let kv : Kv := [(Obj.portWidth 11, .num 64), (Obj.portOutWidth 11, .num 64), (Obj.viewFirstPort 3, .num 11), (Obj.viewPorts 3, .num 1)]
  { config with dict := { config.dict with
      inForce := kv, committed := kv, sets := [{ epoch := 0, params := kv, views := [3], switched := [], landed := false }] } }

/-- The same module in another mode. -/
def inMode (m : Mode) : State := { config with ctl := { config.ctl with mode := m } }

/-- The request of a command on I3C is executed, a WRITE, and passes every check for a row with `P`. -/
def writeOk (s : State) (i : Instr) (P : ObjRow → Req → Bool) : Bool :=
  match i.request with
  | some (.i3c tag, q) =>
    decide (tag % 256 = tag) && s.i3cUp && s.ctl.i3c.answer.isNone && decide (q.opcode = Op.write) &&
    match (s.heard (.i3c tag)).admitWrite (s.speaker (.i3c tag)) q.index q.at_ .whole q.data with
    | .ok r => (writeLength (.i3c tag) r q.data.length).isNone && (s.heard (.i3c tag)).check9Ok r q.key q.data && P r q
    | .error _ => false
  | _ => false

theorem writeOk_takes {s : State} {i : Instr} {P : ObjRow → Req → Bool} (h : writeOk s i P = true) :
    ∃ src q r, i.request = some (src, q) ∧ s.takes src q ∧ (s.heard src).acceptsWrite src (s.speaker src) q r ∧ P r q = true := by
  unfold writeOk at h
  split at h
  · next tag q hq =>
    split at h
    · next r hr =>
      simp only [Bool.and_eq_true, decide_eq_true_eq, Option.isNone_iff_eq_none] at h
      obtain ⟨⟨⟨⟨h1, h2⟩, h3⟩, h4⟩, ⟨h5, h6⟩, h7⟩ := h
      have a := State.acceptsWrite_of h4 hr h5 h6
      exact ⟨_, q, r, hq, ⟨⟨by simp only [Src.normal, h1], h2, .inl h3⟩, r, a⟩, a, h7⟩
    · simp at h
  · exact absurd h (by decide)

/-- The request of a command on I3C is executed, and `P` holds of it and of its session. -/
def served (s : State) (i : Instr) (P : State → Session → Req → Bool) : Bool :=
  match i.request with
  | some (.i3c tag, q) =>
    decide (tag % 256 = tag) && s.i3cUp && s.ctl.i3c.answer.isNone && P (s.heard (.i3c tag)) (s.speaker (.i3c tag)) q
  | _ => false

theorem served_hears {s : State} {i : Instr} {P : State → Session → Req → Bool} (h : served s i P = true) :
    ∃ src q, i.request = some (src, q) ∧ s.hears src q ∧ s.serves src q (s.heard src) (s.speaker src) ∧
      P (s.heard src) (s.speaker src) q = true := by
  unfold served at h
  split at h
  · next tag q hq =>
    simp only [Bool.and_eq_true, Option.isNone_iff_eq_none, decide_eq_true_eq] at h
    obtain ⟨⟨⟨h1, h2⟩, h3⟩, h4⟩ := h
    have k : s.hears (.i3c tag) q := ⟨by simp only [Src.normal, h1], h2, .inl h3⟩
    exact ⟨_, q, hq, k, State.hears_serves k, h4⟩
  · exact absurd h (by decide)

/-- What a request's checks answer. -/
def Admits (a : Except Nat ObjRow) (P : ObjRow → Bool) : Bool :=
  match a with
  | .ok r => P r
  | .error _ => false

/-- Without elapsed time, a frame that leaves or a waiting HBM request, the state that a command finds is its own. -/
theorem advance_quiet (s : State) (h : s.out = []) (hd : s.drained = s) (hq : s.hbm.queue = []) : s.advance 0 = s := by
  have e : s.elapse 0 = s := by
    show ({ s with clk := s.clk, out := [] } : State) = s
    rw [← h]
  unfold State.advance
  simp only [e, hd, hq, if_true]

theorem config_quiet : config.drained = config := by decide +kernel

def host : Src := .i3c 0

/-! ## Well-formedness: a term for each check, which it refuses -/

theorem test_ill_formed_1 : ([
      .read 0 (.i3c 256) 0 0 false, .read 0 (.i3c 0) 65536 0 false, .read 0 (.i3c 0) 0 256 false, .write 0 (.i3c 256) 0 0
      [], .write 0 (.i3c 0) 65536 0 [], .write 0 (.i3c 0) 0 256 [], .segRead 0 (.i3c 256) 0 0 0, .segRead 0 (.i3c 0) 65536
      0 0, .segRead 0 (.i3c 0) 0 256 0, .segRead 0 (.i3c 0) 0 0 (2 ^ 32), .segWrite 0 (.i3c 256) 0 0 0 false [], .segWrite
      0 (.i3c 0) 65536 0 0 false [], .segWrite 0 (.i3c 0) 0 256 0 false [], .segWrite 0 (.i3c 0) 0 0 (2 ^ 32) false [],
      .blockStart 0 (.i3c 256) 0 0 [], .blockStart 0 (.i3c 0) 65536 0 [], .blockStart 0 (.i3c 0) 0 256 [], .blockData 0
      (.i3c 256) 0 0 0 [], .blockData 0 (.i3c 0) 65536 0 0 [], .blockData 0 (.i3c 0) 0 256 0 [], .blockData 0 (.i3c 0) 0 0
      (2 ^ 32) [], .blockEnd 0 (.i3c 256) 0 0 [], .blockEnd 0 (.i3c 0) 65536 0 [], .blockEnd 0 (.i3c 0) 0 256 [],
      .blockRead 0 (.i3c 256) 0 0 0, .blockRead 0 (.i3c 0) 65536 0 0, .blockRead 0 (.i3c 0) 0 256 0, .blockRead 0 (.i3c 0)
      0 0 (2 ^ 32), .sessionOpen 0 2 0 0 0 [], .sessionOpen 0 0 (2 ^ 32) 0 0 [], .sessionOpen 0 0 0 65536 0 [],
      .sessionOpen 0 0 0 0 (2 ^ 32) [], .sessionClose 0 (.i3c 256), .sessionIdle 0 65536, .datagramDrop 0 ⟨2, 0, 0, [], false⟩,
      .datagramDrop 0 ⟨0, (2 ^ 32), 0, [], false⟩, .datagramDrop 0 ⟨0, 0, 65536, [], false⟩, .setdasa 0 128, .entdaa 0 128, .ydpPort 0
      (.i3c 256) 0] : List Instr).all (fun i => !i.wellFormed) = true := by
  decide +kernel

theorem test_ill_formed_2 : ([
      .ydpPort 0 (.i3c 0) 65536, .challenge 0 (.i3c 256), .response 0 (.i3c 256) 0, .response 0 (.i3c 0) (2 ^ 32),
      .nonceExpiry 0 (.ydp 65536), .dropLevel 0 (.i3c 256) 0, .dropLevel 0 (.i3c 0) 256, .restoreDefaults 0 (.i3c 256) 0,
      .restoreDefaults 0 (.i3c 0) (2 ^ 32), .rcClear 0 (.i3c 256) 0 0 [], .rcClear 0 (.i3c 0) 65536 0 [], .rcClear 0 (.i3c
      0) 0 256 [], .ack 0 (.i3c 256) 0 0, .ack 0 (.i3c 0) 65536 0, .ack 0 (.i3c 0) 0 (2 ^ 32), .heartbeat 0 (.i3c 256) 0,
      .heartbeat 0 (.i3c 0) 256, .period 0 (.i3c 256) 0, .period 0 (.i3c 0) (2 ^ 32), .openStaging 0 (.i3c 256),
      .releaseStaging 0 (.i3c 256), .seize 0 (.i3c 256), .commit 0 (.i3c 256), .checkOnly 0 (.i3c 256), .digestStart 0
      (.i3c 256) 0, .digestStart 0 (.i3c 0) 256, .powerUp 0 0 4 0, .powerUp 0 0 0 2, .resetNRise 0 4 0, .resetNRise 0 0 2,
      .thermalTrip 0 16, .housekeepingRound 0 [], .selfRefreshEntry 0 64, .pipelineGate 0 12, .tileLight 0 48, .noSignal 0
      52, .signalDetect 0 52, .aligned 0 52, .alignmentLoss 0 52 false, .laneExit 0 52] : List Instr).all (fun i => !i.wellFormed) = true := by
  decide +kernel

theorem test_ill_formed_3 : ([
      .eyeMeasure 0 52 0 0, .eyeFloor 0 52, .eyeScan 0 (.i3c 256) 0 0, .eyeScan 0 (.i3c 0) 52 0, .eyeScan 0 (.i3c 0) 0
      65536, .eyeScanDone 0 [], .adopt 0 (.i3c 256) 0 0, .adopt 0 (.i3c 0) 12 0, .adopt 0 (.i3c 0) 0 256, .regRead 0 (.i3c
      256) 0 0, .regRead 0 (.i3c 0) 12 0, .regRead 0 (.i3c 0) 0 128, .regWrite 0 (.i3c 256) 0 0, .regWrite 0 (.i3c 0) 12
      0, .regWrite 0 (.i3c 0) 0 128, .regTimeout 0 12, .regResponse 0 ⟨12, 0, ⟨0, 0⟩⟩ 0 0 0 [], .regResponse 0 ⟨0, 52, ⟨0, 0⟩⟩ 0 0 0 [],
      .regResponse 0 ⟨0, 0, ⟨0, 0⟩⟩ 256 0 0 [], .regResponse 0 ⟨0, 0, ⟨0, 0⟩⟩ 0 (2 ^ 32) 0 [], .regResponse 0 ⟨0, 0, ⟨0, 0⟩⟩ 0 0 256 [],
      .regResponse 0 ⟨0, 0, ⟨256, 0⟩⟩ 0 0 0 [], .regResponse 0 ⟨0, 0, ⟨0, 256⟩⟩ 0 0 0 [], .linePacket 0 12 0 ⟨false, false, false, 0, 0,
      0, 0, 0, 0⟩ [] false, .linePacket 0 0 52 ⟨false, false, false, 0, 0, 0, 0, 0, 0⟩ [] false, .cameraEvent 0 ⟨12, 0, ⟨0, 0⟩⟩ [], .cameraEvent 0 ⟨0, 52, ⟨0, 0⟩⟩ [], .cameraEvent 0 ⟨0, 0, ⟨256, 0⟩⟩ [], .cameraEvent 0 ⟨0, 0, ⟨0, 256⟩⟩ [], .statusPacket 0 12 0 ⟨0, 0⟩,
      .statusPacket 0 0 52 ⟨0, 0⟩, .statusPacket 0 0 0 ⟨256, 0⟩, .statusPacket 0 0 0 ⟨0, 256⟩, .cxpImagePacket 0 12 .lineSlice ⟨0, 0, 0, ⟨false, false, false, 0, 0, 0, 0, 0, 0⟩⟩ [], .cxpControlResponse 0 12 0 [], .cxpControlResponse 0 0 256 [],
      .trigAck 0 12, .cxpHeartbeat 0 12 0, .cxpHeartbeat 0 0 (2 ^ 64), .reasmWindow 0 12 0] : List Instr).all (fun i => !i.wellFormed) = true := by
  decide +kernel

theorem test_ill_formed_4 : ([
      .reasmWindow 0 0 (2 ^ 32), .trigEnd 0 4, .seam 0 52 0 0 0 0 false [], .seam 0 0 4 0 0 0 false [], .seam 0 0 0 (2 ^
      32) 0 0 false [], .seam 0 0 0 0 (2 ^ 32) 0 false [], .seam 0 0 0 0 0 256 false [], .cometPacket 0 52 0 [.record (zeros 128)],
      .cometPacket 0 0 256 [.record (zeros 128)], .cometPacket 0 0 0 [], .cometPacket 0 0 0 (List.replicate 25 (.record (zeros 128))),
      .cometPacket 0 0 0 [.record (zeros 127)], .cometPacket 0 0 0 [.opened (2 ^ 32) 0], .cometPacket 0 0 0 [.opened 0 (2 ^ 32)], .eventPacket 0 52 0 [(0, 0, 0)], .eventPacket 0 0 256 [(0, 0, 0)], .eventPacket 0 0
      0 [], .eventPacket 0 0 0 (List.replicate 65 (0, 0, 0)), .eventPacket 0 0 0 [(8, 0, 0)], .linkStatus 0 ⟨52, 0⟩ 0 0,
      .linkStatus 0 ⟨0, 256⟩ 0 0, .linkStatus 0 ⟨0, 0⟩ 4 0, .linkStatus 0 ⟨0, 0⟩ 0 65536, .linkStatusTimeout 0 52, .seamLate 0 4 0,
      .seamLate 0 0 (2 ^ 32), .edgeLate 0 4 0, .edgeLate 0 0 (2 ^ 32), .countEdge 0 4 0 ⟨false, false⟩, .indexEdge 0 ⟨4, 0⟩,
      .speedTimeout 0 4, .syntheticCount 0 4, .positionSet 0 (.i3c 256) 0 0, .positionSet 0 (.i3c 0) 4 0, .positionSet 0
      (.i3c 0) 0 (2 ^ 32), .pgoPulse 0 4, .triggerHeldIssue 0 4, .frameLines 0 (.i3c 256) 0 0, .frameLines 0 (.i3c 0) 4 0,
      .frameLines 0 (.i3c 0) 0 (2 ^ 32), .lineCorrection 0 12, .calCaptureDark 0 (.i3c 256) 0] : List Instr).all (fun i => !i.wellFormed) = true := by
  decide +kernel

theorem test_ill_formed_5 : ([
      .calCaptureDark 0 (.i3c 0) 12, .calCaptureFlat 0 (.i3c 256) 0, .calCaptureFlat 0 (.i3c 0) 12, .calCaptureTimeout 0
      12, .stitchLine 0 4 [], .cometRelease 0 4, .fuseHold 0 (2 ^ 32), .histClear 0 (.i3c 256) 0 0, .histClear 0 (.i3c 0)
      4 0, .histClear 0 (.i3c 0) 0 256, .build 0 (.i3c 256) 0 0, .build 0 (.i3c 0) 4 0, .build 0 (.i3c 0) 0 256,
      .buildUnit 0 4 0 0, .buildUnit 0 0 48 0, .buildUnit 0 0 0 8, .buildTimeout 0 4, .tableVerify 0 ⟨4, 0⟩ [], .tableVerify 0 ⟨0, 2⟩ [], .cropFetch 0 48 0, .cropFetch 0 0 8, .runEnd 0 48 0, .runEnd 0 0 8, .tDecExpiry 0 (2 ^ 32), .brickUpset 0
      48 0, .brickUpset 0 0 8, .sramError 0 48 false 0, .sramError 0 0 false 8, .tileReset 0 48, .regionReset 0 12,
      .modelCheck 0 8, .norStored 0 8, .clear 0 (.i3c 256) 0 0, .clear 0 (.i3c 0) 8 0, .clear 0 (.i3c 0) 0 256, .tickStart
      0 4, .statusFrame 0 4 [], .statusJudge 0 4, .vbPresAssert 0 4, .vbPresRelease 0 4] : List Instr).all (fun i => !i.wellFormed) = true := by
  decide +kernel

theorem test_ill_formed_6 : ([
      .busStartIdle 0 4, .testEnable 0 (.i3c 256) 0 0, .testEnable 0 (.i3c 0) 4 0, .testEnable 0 (.i3c 0) 0 256,
      .timedEdge 0 16, .edges 0 (.i3c 256) 0 [], .edges 0 (.i3c 0) 16 [], .flush 0 (.i3c 256) 0 0, .flush 0 (.i3c 0) 16 0,
      .flush 0 (.i3c 0) 0 256, .hbmRequest 0 7 0 0 none .clean, .hbmRequest 0 0 64 0 none .clean, .hbmRequest 0 0 0 (2 ^
      29) none .clean, .hbmRequest 0 0 0 0 (some []) .clean, .hbmRequest 0 0 0 0 (some (zeros 31)) .clean, .hbmRequest 0 0 0 (2 ^ 29 - 32) (some (zeros 64)) .clean, .lineWriteDrop 0 12, .stackTemperature 0 2 0, .refresh 0 64,
      .powerDown 0 64, .patrolScrub 0 64 .clean, .start 0 (.i3c 256) 0 0, .start 0 (.i3c 0) 32 0, .start 0 (.i3c 0) 0
      65536, .stop 0 (.i3c 256) 0 0, .stop 0 (.i3c 0) 32 0, .stop 0 (.i3c 0) 0 256, .descriptorFetch 0 32, .followReady 0
      32, .descriptorDone 0 32, .busError 0 32, .checkUnitGrant 0 4, .ethLinkUp 0 2, .ethLinkDown 0 2, .arpFrame 0 2
      .request 0 0 0, .arpFrame 0 0 .request (2 ^ 32) 0 0, .arpFrame 0 0 .request 0 (2 ^ 48) 0, .arpFrame 0 0 .request 0 0
      (2 ^ 32), .icmpEcho 0 2 0 [], .icmpEcho 0 0 (2 ^ 32) [], .arpRetry 0 2 0, .arpRetry 0 0 (2 ^ 32)] : List Instr).all (fun i => !i.wellFormed) = true := by
  decide +kernel

theorem test_ill_formed_7 : ([
      .arpRefresh 0 2 0, .arpRefresh 0 0 (2 ^ 32), .arpExpiry 0 2 0, .arpExpiry 0 0 (2 ^ 32), .sync 0 2 0 ⟨0, false, 0, 0, 0⟩, .sync 0 0 0 ⟨0, false, 2, 0, 0⟩, .sync 0 0 0 ⟨0, false, 0, 256, 0⟩, .sync 0 0 0 ⟨0, false, 0, 0, 65536⟩,
      .announce 0 2 ⟨0, 0, 0⟩ 0 0, .announce 0 0 ⟨2 ^ 64, 0, 0⟩ 0 0, .announce 0 0 ⟨0, 2, 0⟩ 0 0, .announce 0 0 ⟨0, 0, 256⟩ 0 0, .ptpMessage 0 2 ⟨.other, 0, ⟨0, false, 0, 0, 0⟩⟩, .ptpMessage 0 0 ⟨.other, 0, ⟨0, false, 2, 0, 0⟩⟩, .ptpSend 0 2 .sync, .announceTimeout 0 2, .step 0 (.i3c 256)
      0, .step 0 (.i3c 0) 256, .keyPress 0 8, .keyRelease 0 8, .longPress 0 8, .touchScan 0 [], .touchStuck 0 4,
      .lampBlink 0 4, .campwrFlt 0 12, .pwrRetry 0 12, .pwrEnable 0 (.i3c 256) 0 0, .pwrEnable 0 (.i3c 0) 12 0, .pwrEnable
      0 (.i3c 0) 0 256, .pwrReset 0 (.i3c 256) 0 0, .pwrReset 0 (.i3c 0) 12 0, .pwrReset 0 (.i3c 0) 0 256,
      .clearRetirements 0 (.i3c 256) 0, .clearRetirements 0 (.i3c 0) 256, .preferred 0 (.i3c 256) 0, .preferred 0 (.i3c 0)
      256, .fwProgrammed 0 2, .dmaParityError 0 32, .eventChannelParityError 0 296, .rxDropped 0 ⟨2, .other⟩, .rxDropped 0 ⟨0, .arp .request (2 ^ 32) 0⟩, .rxDropped 0 ⟨0, .ipv4 (2 ^ 32) 20 true false .other⟩, .rxDropped 0 ⟨0, .ipv4 0 61 true false .other⟩, .rxDropped 0 ⟨0, .ipv4 0 20 true false (.udp 65536)⟩, .rxDropped 0 ⟨0, .ptp (2 ^ 48)⟩, .sessionClose 0 (.ydp
      2 0 0 0 0), .sessionClose 0 (.ydp 0 (2 ^ 32) 0 0 0), .sessionClose 0 (.ydp 0 0 65536 0 0), .sessionClose 0 (.ydp 0 0
      0 65536 0), .sessionClose 0 (.ydp 0 0 0 0 (2 ^ 32))] : List Instr).all (fun i => !i.wellFormed) = true := by
  decide +kernel

theorem test_well_formed_1 : ([
      .read 0 (.i3c 0) 0 0 false, .write 0 (.i3c 0) 0 0 [], .segRead 0 (.i3c 0) 0 0 0, .segWrite 0 (.i3c 0) 0 0 0 false
      [], .blockStart 0 (.i3c 0) 0 0 [], .blockData 0 (.i3c 0) 0 0 0 [], .blockEnd 0 (.i3c 0) 0 0 [], .blockRead 0 (.i3c
      0) 0 0 0, .sessionOpen 0 0 0 0 0 [], .sessionClose 0 (.i3c 0), .sessionIdle 0 0, .frameCheck 0 [], .datagramDrop 0 ⟨0, 0, 0, [], false⟩, .responseRead 0, .ibiDelivery 0, .setdasa 0 0, .entdaa 0 0, .wakeTransfer 0 0, .ydpPort 0 (.i3c 0) 0,
      .challenge 0 (.i3c 0), .response 0 (.i3c 0) 0, .nonceExpiry 0 .i3c, .lockoutEnd 0, .dropLevel 0 (.i3c 0) 0,
      .restoreDefaults 0 (.i3c 0) 0, .rcClear 0 (.i3c 0) 0 0 [], .ack 0 (.i3c 0) 0 0, .heartbeat 0 (.i3c 0) 0, .period 0
      (.i3c 0) 0, .heartbeatLate 0, .hostLost 0, .openStaging 0 (.i3c 0), .releaseStaging 0 (.i3c 0), .seize 0 (.i3c 0),
      .stagingIdle 0, .commit 0 (.i3c 0), .checkOnly 0 (.i3c 0), .commitCheckEnd 0, .commitInstant 0, .digestStart 0 (.i3c
      0) 0, .digestResult 0, .mirrorWrite 0, .logWrite 0, .powerUp 0 0 0 0, .bootStart 0 ⟨0, false, false, 0, [], 0⟩,
      .firmwareTimeout 0, .resetNAssert 0, .resetNRise 0 0 0, .brownOut 0, .supplyFault 0, .supplyReturn 0, .thermalTrip 0
      0, .thermalRestart 0, .pllLoss 0, .housekeepingRound 0 (List.replicate 24 0), .guaranteeHeld 0, .idleTimer 0,
      .selfRefreshEntry 0 0, .deepEntry 0, .wake 0 .key, .deepExit 0 0, .standbyWake 0 .key, .pipelineGate 0 0, .tileLight
      0 0] : List Instr).all Instr.wellFormed = true := by
  decide +kernel

theorem test_well_formed_2 : ([
      .noSignal 0 0, .signalDetect 0 0, .aligned 0 0, .alignmentLoss 0 0 false, .laneExit 0 0, .eyeMeasure 0 0 0 0,
      .eyeFloor 0 0, .eyeScan 0 (.i3c 0) 0 0, .eyeScanDone 0 (List.replicate 4096 0), .adopt 0 (.i3c 0) 0 0, .regRead 0
      (.i3c 0) 0 0, .regWrite 0 (.i3c 0) 0 0, .regTimeout 0 0, .regResponse 0 ⟨0, 0, ⟨0, 0⟩⟩ 0 0 0 [], .linePacket 0 0 0 ⟨false,
      false, false, 0, 0, 0, 0, 0, 0⟩ [] false, .cameraEvent 0 ⟨0, 0, ⟨0, 0⟩⟩ [], .statusPacket 0 0 0 ⟨0, 0⟩, .cxpImagePacket 0 0 .lineSlice ⟨0, 0, 0, ⟨false, false, false, 0, 0, 0, 0, 0, 0⟩⟩ [], .cxpControlResponse 0 0 0 [], .trigAck 0 0,
      .cxpHeartbeat 0 0 0, .reasmWindow 0 0 0, .trigEnd 0 0, .seam 0 0 0 0 0 0 false [], .cometPacket 0 0 0 [.record (zeros 128)],
      .eventPacket 0 0 0 [(0, 0, 0)], .linkStatus 0 ⟨0, 0⟩ 0 0, .linkStatusSend 0, .linkStatusTimeout 0 0, .seamLate 0 0 0,
      .edgeLate 0 0 0, .countEdge 0 0 0 ⟨false, false⟩, .indexEdge 0 ⟨0, 0⟩, .speedTimeout 0 0, .syntheticCount 0 0,
      .positionSet 0 (.i3c 0) 0 0, .pgoPulse 0 0, .triggerHeldIssue 0 0, .frameLines 0 (.i3c 0) 0 0, .lineCorrection 0 0,
      .calCaptureDark 0 (.i3c 0) 0, .calCaptureFlat 0 (.i3c 0) 0, .calCaptureTimeout 0 0, .stitchLine 0 0 [],
      .cometRelease 0 0, .fuseHold 0 0, .histClear 0 (.i3c 0) 0 0, .build 0 (.i3c 0) 0 0, .buildUnit 0 0 0 0,
      .buildTimeout 0 0, .tableVerify 0 ⟨0, 0⟩ [], .dispatch 0, .cropFetch 0 0 0, .runEnd 0 0 0, .tDecExpiry 0 0, .brickUpset
      0 0 0, .sramError 0 0 false 0, .tileReset 0 0, .regionReset 0 0, .modelCheck 0 0, .norStored 0 0, .clear 0 (.i3c 0)
      0 0, .tickStart 0 0, .statusFrame 0 0 []] : List Instr).all Instr.wellFormed = true := by
  decide +kernel

theorem test_well_formed_3 : ([
      .statusJudge 0 0, .vbPresAssert 0 0, .vbPresRelease 0 0, .busStartIdle 0 0, .testEnable 0 (.i3c 0) 0 0, .safeNAssert
      0, .safeNRelease 0, .timedEdge 0 0, .edges 0 (.i3c 0) 0 [], .flush 0 (.i3c 0) 0 0, .hbmRequest 0 0 0 0 none .clean,
      .lineWriteDrop 0 0, .stackTemperature 0 0 0, .refresh 0 0, .powerDown 0 0, .patrolScrub 0 0 .clean, .start 0 (.i3c
      0) 0 0, .stop 0 (.i3c 0) 0 0, .flightEntry 0, .descriptorFetch 0 0, .followReady 0 0, .descriptorDone 0 0, .busError
      0 0, .codecBlock 0 false, .checkUnitGrant 0 0, .eventDelivery 0, .ethLinkUp 0 0, .ethLinkDown 0 0, .arpFrame 0 0
      .request 0 0 0, .icmpEcho 0 0 0 [], .arpRetry 0 0 0, .arpRefresh 0 0 0, .arpExpiry 0 0 0, .sync 0 0 0 ⟨0, false, 0, 0, 0⟩,
      .announce 0 0 ⟨0, 0, 0⟩ 0 0, .ptpMessage 0 0 ⟨.other, 0, ⟨0, false, 0, 0, 0⟩⟩, .ptpSend 0 0 .sync, .syncTimeout 0, .announceTimeout 0 0,
      .step 0 (.i3c 0) 0, .stepWithdraw 0, .keyPress 0 0, .keyRelease 0 0, .longPress 0 0, .touchScan 0 (List.replicate 4
      0), .touchStuck 0 0, .lampBlink 0 0, .campwrFlt 0 0, .pwrRetry 0 0, .pwrStagger 0, .pwrEnable 0 (.i3c 0) 0 0,
      .pwrReset 0 (.i3c 0) 0 0, .clearRetirements 0 (.i3c 0) 0, .preferred 0 (.i3c 0) 0, .fwProgrammed 0 0,
      .dieBridgeFailure 0, .watchdog 0, .dmaParityError 0 0, .eventChannelParityError 0 0, .rxDropped 0 ⟨0, .other⟩] : List Instr).all Instr.wellFormed = true := by
  decide +kernel

theorem witness_StepRunsTheFront : ∃ s : State, s.pending = [.ibiDelivery 0, .linkStatusSend 0] :=
  ⟨{ config with pending := [.ibiDelivery 0, .linkStatusSend 0] }, rfl⟩

theorem witness_QueueAndTime : State.reset.pending = [] := rfl

theorem witness_RequestsAreExecutedAndAnswered :
    served config (.read 0 host 0x1100 1 false) (fun w x q => !movesPort q (w.execute host x q).2) = true := by
  decide +kernel

/-- A write of the period that passes, and one of a read-only object that does not. -/
theorem witness_WritesApplyOrOnlyCount :
    writeOk config (.write 0 host 0x1150 1 [100, 0, 0, 0]) (fun _ _ => true) = true ∧
    served config (.write 0 host 0x1100 1 [1]) (fun w x q => q.opcode = Op.write &&
      match w.admitWrite x q.index q.at_ .whole q.data with
      | .ok _ => false
      | .error c => decide (c ≠ Code.ok)) = true := by
  decide +kernel

/-- A read in force, one of a staged value, and reads of a result that is presented and of one that is not. -/
theorem witness_ReadReturnsTheValue :
    served config (.read 0 host 0x1100 1 false) (fun w x q => Admits (w.admitRead x q.index q.at_) (fun r =>
      decide (r.ty ≠ .blob ∧ q.key ≠ Obj.accChallenge ∧ isResult q.key = false ∧
        (w.readBytes x r q.index q.at_).length ≤ frameMax host))) = true ∧
    (let key := Obj.viewFirstPort 3
     let s := { config with dict := { config.dict with staged := [(key, .num 11)] } }
     served s (.read 0 host (key / 256) (key % 256) true) (fun w x q => Admits (w.admitRead x q.index q.at_) (fun r =>
      decide (r.ty ≠ .blob ∧ r.acc = .rs ∧ Kv.get? w.dict.staged q.key = some (.num 11) ∧
        ((Val.num 11).encode r.ty).length ≤ frameMax host)))) = true ∧
    (let reads := fun (P : State → Nat → Bool) (w : State) (x : Session) (q : Req) => Admits (w.admitRead x q.index q.at_) (fun r =>
      decide (r.ty ≠ .blob ∧ q.key ≠ Obj.accChallenge ∧ isResult q.key = true) && P w q.key)
     let i := Instr.read 0 host (Obj.digResult / 256) (Obj.digResult % 256) false
     served (config.completeResult Obj.digResult none [1]) i (reads (fun w key => match (w.result key).value with
       | some b => decide (b.length ≤ frameMax host)
       | none => false)) = true ∧
     served config i (reads (fun w key => (w.result key).value.isNone)) = true) := by
  decide +kernel

def asked (nonce : Nat) : State :=
  { config with ctl := { config.ctl with sessions := config.ctl.sessions.map (fun x =>
      { x with level := .operator, challenge := some (nonce, config.clk + 1) }) } }

/-- A challenge; the response that it expects; and a response without a challenge. -/
theorem witness_ChallengesAndResponses :
    served config (.challenge 0 host) (fun w x q => Admits (w.admitRead x q.index q.at_) (fun _ => true)) = true ∧
    (let s := asked 5
     let value := s.expected 5
     writeOk s (.response 0 host value) (fun _ _ => true) = true ∧ s.lockedOut = false ∧ value % wrap32 = s.expected 5 ∧
      (s.session? (srcId host)).bind (fun y => y.challenge) = some (5, config.clk + 1) ∧ s.clk < config.clk + 1) ∧
    (writeOk config (.response 0 host 0) (fun _ _ => true) = true ∧ config.lockedOut = false ∧
      (config.session? (srcId host)).bind (fun y => y.challenge) = none) := by
  decide +kernel

theorem witness_LevelDefaultsAndPort :
    writeOk config (.dropLevel 0 host 1) (fun _ _ => true) = true ∧
    writeOk config (.restoreDefaults 0 host 1) (fun _ _ => true) = true ∧
    writeOk config (.ydpPort 0 host 65535) (fun _ q => decide (q = Req.ofNumber Obj.ydpYdpPort 2 65535)) = true := by
  decide +kernel

theorem witness_RcWriteClears :
    writeOk config (.rcClear 0 host (Obj.portFlags 11 / 256) (Obj.portFlags 11 % 256) [0xFF]) (fun r q =>
      decide (r.acc = .rc ∧ journalled q.key = true ∧ isAck q.key = false ∧ q.key ≠ Obj.accResponse ∧
        objKey q.index q.sub ≠ Obj.ydpYdpPort)) = true := by
  decide +kernel

/-- A state with a presented and a pending result. -/
def acked : State := ((config.completeResult Obj.digResult none [1]).completeResult Obj.digResult none [2])

/-- The presented result's SEQ, and any other. -/
theorem witness_AckReleasesTheResult :
    writeOk acked (.ack 0 host (Obj.digResult / 256) 1) (fun r q => decide (isAck q.key = true ∧ r.ty = .u32 ∧
      q.key - 1 = Obj.digResult)) = true ∧
    (acked.result Obj.digResult).presented.map (fun p => p.seq) = some 1 ∧ (acked.result Obj.digResult).pending.isSome = true := by
  decide +kernel

/-- A text read from its start; from its snapshot; and without one. -/
theorem witness_SegReadsServeASnapshot :
    served config (.segRead 0 host 0x1000 1 0) (fun w x q => Admits (w.admitRead x q.index q.at_) (fun r =>
      decide ((r.ty = .text ∨ r.ty = .octets) ∧ isResult q.key = false ∧ q.offset = 0 ∧
        q.offset ≤ (w.readBytes x r q.index q.at_).length))) = true ∧
    (let s := { config with ctl := { config.ctl with sessions := config.ctl.sessions.map (fun x =>
        { x with snapshots := [(0x100001, [1, 2])] }) } }
     served s (.segRead 0 host 0x1000 1 2) (fun w x q => Admits (w.admitRead x q.index q.at_) (fun r =>
      decide ((r.ty = .text ∨ r.ty = .octets) ∧ isResult q.key = false ∧ q.offset = 2 ∧
        assoc x.snapshots q.key = some [1, 2])))) = true ∧
    served config (.segRead 0 host 0x1000 1 2) (fun w x q => Admits (w.admitRead x q.index q.at_) (fun r =>
      decide ((r.ty = .text ∨ r.ty = .octets) ∧ q.offset ≠ 0 ∧ assoc x.snapshots q.key = none))) = true := by
  decide +kernel

/-! ## A commit with nothing staged passes every check -/

def checking (command : Nat) (staged : Kv) : Check :=
  { command := command, kind := 0, mask := 0, triggers := [0, 0, 0, 0], atTime := 0, staged := staged, acceptedAt := 0,
    holderClosed := false }

/-- The module while it checks. -/
def checkedBy (s : State) (c : Option Check) : State := s.modStaging (fun g => { g with check := c })

/-- The routing and the ports of the module's DMA streams, written out. -/
def routed : Kv :=
  (List.range 296).flatMap (fun n => [(Obj.echSource n, .num 0), (Obj.echTasks n, .bytes [])]) ++
  (List.range 32).map (fun k => (Obj.hspDDestPort k, .num 41500))

def plain : State := { config with dict := { config.dict with committed := routed } }
def nothing : Proposal := plain.proposal (checking 1 [])

theorem Kv.get?_of_only {kv : Kv} {key : Nat} {v : Val} (h1 : ∃ q ∈ kv, q.1 = key) (h2 : ∀ q ∈ kv, q.1 = key → q.2 = v) :
    Kv.get? kv key = some v := by
  induction kv with
  | nil => exact absurd h1 (by simp)
  | cons a r ih =>
    unfold Kv.get?
    split
    · next e => rw [← h2 a (by simp) e]
    · next e =>
      refine ih ?_ (fun q hq => h2 q (List.mem_cons_of_mem _ hq))
      obtain ⟨q, hq, hk⟩ := h1
      rcases List.mem_cons.mp hq with rfl | hq
      · exact absurd hk e
      · exact ⟨q, hq, hk⟩

theorem mem_routed (q : Nat × Val) : q ∈ routed ↔
    (∃ n, n < 296 ∧ (q = (Obj.echSource n, .num 0) ∨ q = (Obj.echTasks n, .bytes []))) ∨
    ∃ k, k < 32 ∧ q = (Obj.hspDDestPort k, .num 41500) := by
  unfold routed
  simp [List.mem_flatMap, eq_comm]

theorem routed_source (n : Nat) (h : n < 296) : Kv.get? routed (Obj.echSource n) = some (.num 0) := by
  refine Kv.get?_of_only ⟨_, (mem_routed _).mpr (.inl ⟨n, h, .inl rfl⟩), rfl⟩ (fun q hq hk => ?_)
  rcases (mem_routed q).mp hq with ⟨m, hm, rfl | rfl⟩ | ⟨k, hk', rfl⟩
  · rfl
  · simp only [Obj.echSource, Obj.echTasks, objKey] at hk; omega
  · simp only [Obj.echSource, Obj.hspDDestPort, objKey] at hk; omega

theorem routed_tasks (n : Nat) (h : n < 296) : Kv.get? routed (Obj.echTasks n) = some (.bytes []) := by
  refine Kv.get?_of_only ⟨_, (mem_routed _).mpr (.inl ⟨n, h, .inr rfl⟩), rfl⟩ (fun q hq hk => ?_)
  rcases (mem_routed q).mp hq with ⟨m, hm, rfl | rfl⟩ | ⟨k, hk', rfl⟩
  · simp only [Obj.echSource, Obj.echTasks, objKey] at hk; omega
  · rfl
  · simp only [Obj.echTasks, Obj.hspDDestPort, objKey] at hk; omega

theorem nothing_vals (key : Nat) : Kv.get? nothing.vals key = Kv.get? routed key := rfl

theorem nothing_source (n : Nat) (h : n < 296) : plain.pnum nothing (Obj.echSource n) = 0 := by
  unfold State.pnum State.valIn
  rw [nothing_vals, routed_source n h]
  rfl

theorem nothing_tasks (n : Nat) (h : n < 296) : plain.ptasks nothing n = [] := by
  unfold State.ptasks State.pbytes State.valIn
  rw [nothing_vals, routed_tasks n h]
  simp [Val.toBytes, taskList]

theorem localChannel_lt (east : Bool) (n : Nat) (h : n < 128) : localChannel east n < 296 := by
  unfold localChannel
  split <;> omega

theorem nothing_chainers (east : Bool) (source : Nat) (h : source ≠ 0) : plain.chainers nothing east source = [] := by
  unfold State.chainers
  rw [List.filter_eq_nil_iff]
  intro n hn
  rw [nothing_source _ (localChannel_lt east n (List.mem_range.mp hn))]
  simpa using fun e => h e.symm

theorem nothing_cycle (east : Bool) (n : Nat) (h : n < 128) : plain.cycleOf nothing east n = [] := by
  unfold State.cycleOf State.cycleOf.walk
  simp [nothing_source _ (localChannel_lt east n h)]

theorem nothing_check26 : plain.check26 nothing = none := by
  unfold State.check26
  dsimp only
  rw [if_pos]
  rw [List.flatMap_eq_nil_iff]
  intro n hn
  have hb := List.mem_range.mp (List.mem_filter.mp hn).1
  have e1 := nothing_chainers (channelEast n) (0x100 + n % 128) (by omega)
  have e2 := nothing_chainers (!channelEast n) (0x180 + n % 16) (by omega)
  have e3 := nothing_chainers false (0x190 + (n - 288)) (by omega)
  have e4 := nothing_cycle (channelEast n) (n % 128) (Nat.mod_lt _ (by omega))
  unfold State.routingFault State.chainersOf
  simp [nothing_tasks n hb, e1, e2, e3, e4]

theorem nothing_check25 : plain.check25 nothing false = none := by
  have : ringsChanged (fun k => (plain.valIn plain.dict.committed k).toNat) (plain.pnum nothing) = false := by
    unfold ringsChanged
    rw [List.any_eq_false]
    intro r _
    have : (fun k => (plain.valIn plain.dict.committed k).toNat) = plain.pnum nothing := rfl
    rw [this]
    simp
  unfold State.check25
  rw [this]
  rfl

theorem nothing_checks1 : ∀ n, n < 12 → plain.checkNo nothing false n = none := by decide +kernel
theorem nothing_checks2 : ∀ n, n < 13 → plain.checkNo nothing false (12 + n) = none := by decide +kernel
theorem nothing_checks3 : ∀ n, n < 3 → plain.checkNo nothing false (27 + n) = none := by decide +kernel

theorem checkNo_25 (s : State) (c : Proposal) (b : Bool) : s.checkNo c b 25 = s.check25 c b := rfl
theorem checkNo_26 (s : State) (c : Proposal) (b : Bool) : s.checkNo c b 26 = s.check26 c := rfl

theorem nothing_passes : plain.runChecks nothing false = none := by
  unfold State.runChecks
  rw [List.findSome?_eq_none_iff]
  intro n hn
  have hr : 1 ≤ n ∧ n < 30 := by
    simp [rangeFrom] at hn
    omega
  rw [Option.map_eq_none_iff]
  by_cases h1 : n < 12
  · exact nothing_checks1 n h1
  by_cases h2 : n < 25
  · have := nothing_checks2 (n - 12) (by omega)
    rwa [show 12 + (n - 12) = n by omega] at this
  by_cases h5 : n = 25
  · rw [h5, checkNo_25]; exact nothing_check25
  by_cases h6 : n = 26
  · rw [h6, checkNo_26]; exact nothing_check26
  have := nothing_checks3 (n - 27) (by omega)
  rwa [show 27 + (n - 27) = n by omega] at this

theorem nothing_rest : plain.swapFails nothing = none ∧ plain.inFlightCount < 4 ∧
    plain.instantPassed nothing [0, 0, 0, 0] = none := by decide +kernel

theorem checkFailure_none {s : State} {c : Check} {p : Proposal} (hp : s.proposal c = p) (h1 : s.runChecks p false = none)
    (h2 : s.swapFails p = none) (h3 : s.inFlightCount < 4) (h4 : s.instantPassed p c.triggers = none) :
    s.checkFailure c = none := by
  unfold State.checkFailure
  simp only [hp, h1, h2, h4, if_neg (Nat.not_le.mpr h3), Option.map_none]

theorem nothing_fails_not (command : Nat) : plain.checkFailure (checking command []) = none :=
  checkFailure_none (p := nothing) rfl nothing_passes nothing_rest.1 nothing_rest.2.1 nothing_rest.2.2

theorem checkFailure_checkedBy (s : State) (x : Option Check) (c : Check) :
    (checkedBy s x).checkFailure c = s.checkFailure c := by
  have h1 : (checkedBy s x).proposal c = s.proposal c := rfl
  have h2 : ∀ p b, (checkedBy s x).runChecks p b = s.runChecks p b := fun _ _ => rfl
  have h3 : ∀ p, (checkedBy s x).swapFails p = s.swapFails p := fun _ => rfl
  have h4 : (checkedBy s x).inFlightCount = s.inFlightCount := rfl
  have h5 : ∀ p q, (checkedBy s x).instantPassed p q = s.instantPassed p q := fun _ _ => rfl
  unfold State.checkFailure
  simp only [h1, h2, h3, h4, h5]

/-! ## Segments, blocks, sessions -/

/-- A first segment; a final one after it; and one out of order. -/
theorem witness_SegWriteGathersAValue :
    (let ok := fun (ph : Phase) (joined : Option Bytes) (w : State) (x : Session) (q : Req) => Admits
        (w.admitWrite x q.index q.at_ ph (joined.getD [])) (fun r =>
        decide (r.ty = .text ∧ q.data.length ≤ frameMax host ∧ x.joined q.key q.offset q.data = joined ∧
          (joined.isSome = true → r.lengthCode (joined.getD []).length = none ∧
            (w.requestSeen.touch_ r).valueOk r q.key (r.ty.decode (joined.getD [])) = true)) &&
        decide (q.key ≠ Obj.accResponse ∧ isAck q.key = false))
     let begun := { config with ctl := { config.ctl with sessions := config.ctl.sessions.map (fun x =>
        { x with segWrite := some (objKey 0x32C3 1, [65]) }) } }
     served config (.segWrite 0 host 0x32C3 1 0 false [65]) (ok .part (some [65])) = true ∧
     served begun (.segWrite 0 host 0x32C3 1 1 true [66]) (ok .whole (some [65, 66])) = true ∧
     served begun (.segWrite 0 host 0x32C3 1 2 true [66]) (ok .part none) = true) := by
  decide +kernel

/-- A transfer into the exchange buffer, of 130 bytes. -/
def opened : Transfer := { session := .i3c, key := objKey 0x7120 1, length := 130, buffer := [], received := [] }
def filled : Transfer := { opened with length := 2 }.enter 0 [65, 66]
def moving (tr : Transfer) : State := { config with ctl := { config.ctl with transfer := some tr } }

/-- An open, one while another session's transfer is open, and a last block into an open transfer. -/
theorem witness_BlocksEnterATransfer :
    (let start := fun (w : State) (x : Session) (q : Req) => Admits (w.admitWrite x q.index q.at_ .start q.data) (fun r =>
        decide (r.ty = .blob ∧ q.data.length = 4 ∧ w.blobLength r q.key (leNat q.data) = none))
     let part := fun (w : State) (x : Session) (q : Req) => Admits (w.admitWrite x q.index q.at_ .part q.data) (fun r =>
        decide (r.ty = .blob ∧ q.data.length ≤ frameMax host ∧ w.ctl.transfer = some opened ∧ opened.session = x.id ∧
          opened.key = q.key ∧ opened.fits q.offset q.data.length = true))
     served config (.blockStart 0 host 0x7120 1 [130, 0, 0, 0]) start = true ∧ config.ctl.transfer = none ∧
     served (moving { opened with session := .ydp 1 }) (.blockStart 0 host 0x7120 1 [130, 0, 0, 0]) start = true ∧
     ({ opened with session := .ydp 1 } : Transfer).session ≠ config.i3cSession.id ∧
     served (moving opened) (.blockData 0 host 0x7120 1 128 [65, 66]) part = true) ∧
    (128 % 128 = 0 ∧ opened.buffer.wf = true ∧ opened.received.contains ((128 + 1) / 128) = false) := by
  decide +kernel

/-- A block missing, a wrong CRC and a right one. -/
theorem witness_BlockEndWritesTheValue :
    (let ends := fun (tr : Transfer) (w : State) (x : Session) (q : Req) => Admits (w.admitWrite x q.index q.at_ .finish q.data)
        (fun r => decide (r.ty = .blob ∧ q.data.length = 4 ∧ w.ctl.transfer = some tr ∧ tr.session = x.id ∧
          tr.key = q.key ∧ (w.requestSeen.touch_ r).blobCode r q.key tr.value = none ∧
          q.key ≠ Obj.accResponse ∧ isAck q.key = false))
     served (moving opened) (.blockEnd 0 host 0x7120 1 [0, 0, 0, 0]) (ends opened) = true ∧ opened.missing = some 0 ∧
     served (moving filled) (.blockEnd 0 host 0x7120 1 [0, 0, 0, 0]) (ends filled) = true ∧ filled.missing = none ∧
     crc32c filled.value ≠ leNat [0, 0, 0, 0] ∧
     served (moving filled) (.blockEnd 0 host 0x7120 1 (leBytes 4 (crc32c filled.value))) (ends filled) = true ∧
     crc32c filled.value = leNat (leBytes 4 (crc32c filled.value))) := by
  decide +kernel

/-- From the start, from a further OFFSET, and of a value replaced since. -/
theorem witness_BlockReadReturnsAFrame :
    (let reads := fun (seen : Bool) (w : State) (x : Session) (q : Req) => Admits (w.admitRead x q.index q.at_) (fun r =>
        decide (r.ty = .blob ∧
          ((assoc x.blobSeen q.key).getD (w.blobVersion q.key) =
            w.blobVersion q.key) = seen) &&
        match w.content x r q.index q.at_ with
        | .ok b => decide (q.offset ≤ b.length)
        | .error _ => false)
     let stored := config.putVal (objKey 0x32C7 1) (.bytes [1, 2])
     let old := { config with ctl := { config.ctl with sessions := config.ctl.sessions.map (fun x =>
        { x with blobSeen := [(objKey 0x32C7 1, 7)] }) } }
     served config (.blockRead 0 host 0x32C7 1 0) (reads true) = true ∧
     served stored (.blockRead 0 host 0x32C7 1 2) (reads true) = true ∧
     served old (.blockRead 0 host 0x32C7 1 2) (fun w x q => Admits (w.admitRead x q.index q.at_) (fun r =>
        decide (r.ty = .blob ∧ q.offset ≠ 0 ∧ (assoc x.blobSeen q.key).getD
          (w.blobVersion q.key) ≠ w.blobVersion q.key))) = true) := by
  decide +kernel

/-- The active table of view 3, with the burst it begins with gone. -/
def lostTable : State :=
  let at_ := viewed.staticAt 0 (6 * 2 ^ 19)
  (viewed.modBank 3 0 (fun b => { b with state := BankState.active })).modHbm (fun h => { h with
    failed := [(6, hbmAddr at_.1 at_.2)] })

theorem witness_BlockReadReturnsAFrame_lost :
    served lostTable (.blockRead 0 host 0x4311 2 0) (fun w x q => Admits (w.admitRead x q.index q.at_) (fun r =>
      decide (r.ty = .blob ∧ q.offset = 0))) = true ∧
    (lostTable.requestSeen.blobRead (Obj.viewTableRead 3) 0 (frameMax host)).2 = false := by
  decide +kernel

/-- The module with its second Ethernet link up and one YDP session. -/
def linked : State :=
  let x : Session := { Session.i3c with id := .ydp 65535, eth := 1, ip := 7, port := 9, clientNonce := 4, idleTime := 10 }
  { config with
    eths := config.eths.map (fun y => { y with up := true })
    ctl := { config.ctl with sessions := config.ctl.sessions ++ [x] } }

theorem witness_SessionOpenGivesAFreshNumber :
    linked.ydpUp 1 = true ∧ linked.ctl.mode ≠ .boot ∧ linked.ydpSessions.length < 8 ∧
    linked.ydpSessions.find? (fun x => x.ip = 7 && x.port = 9 && x.clientNonce = u32At [1, 0, 0, 0, 0, 0, 0, 0] 0) = none := by
  decide +kernel

theorem witness_SessionsNoncesAndLockoutsEnd :
    (let q : Req := { opcode := Op.sessionClose, flags := 0, index := 0, sub := 0, offset := 0, data := [] }
     ∃ w x, linked.serves (.ydp 1 7 9 65535 (5 % wrap32)) q w x) ∧
    (linked.unitsRun = true ∧ (linked.session? (.ydp 65535)).map (fun x => x.lastRequest + x.idleTime * 1000000000) =
      some 10000000000) ∧
    (config.unitsRun = true) ∧
    (let s := { config with ctl := { config.ctl with lockoutUntil := some config.clk } }
     s.unitsRun = true ∧ s.ctl.lockoutUntil = some s.clk ∧ s.clk ≤ s.clk) := by
  refine ⟨⟨_, _, by decide +kernel, by decide +kernel, rfl, by decide +kernel, by decide +kernel, .inr ⟨by decide +kernel,
    by decide +kernel⟩, rfl⟩, by decide +kernel, by decide +kernel, by decide +kernel⟩

/-- Frames and datagrams with and without a fault; a response ready, one that covers a result, and none; a link, collected IBI
bits, and the wake transfer in an operating mode. -/
theorem witness_PathsAnswerAndDeliver :
    (let s := { config with ctl := { config.ctl with i3c := { config.ctl.i3c with
        response := some (255, ⟨1, 0, 0, 0, 0, 0, []⟩), ibi := 1 } } }
     s.i3cUp = true ∧ s.ctl.i3c.response = some (255, ⟨1, 0, 0, 0, 0, 0, []⟩) ∧ s.ctl.i3c.ibi ≠ 0) ∧
    (let q := Req.ofRead 0x1010 1 false
     parseFrame [255, 0] = none ∧ 2 ≤ (i3cFrame 5 q.bytes).length ∧ parseFrame (i3cFrame 5 q.bytes) = some (5, q) ∧
     parseDatagram (ydpDatagram Ydp.request 7 9 q.bytes) = some (7, 9, q) ∧ parseDatagram [] = none) ∧
    (let s := { acked with ctl := { acked.ctl with i3c := { acked.ctl.i3c with
        response := some (255, ⟨1, 0, 0, 0, 0, 0, []⟩), covers := some (Obj.digResult, 1) } } }
     s.i3cUp = true ∧ s.ctl.i3c.covers = some (Obj.digResult, 1) ∧ 0 ≠ Code.frameCheck ∧
     (s.result Obj.digResult).presented.map (fun x => x.seq) = some 1) ∧
    (config.i3cUp = true ∧ config.ctl.i3c.response = none ∧ config.ctl.i3c.covers = none) ∧ linked.ydpUp 1 = true ∧
    (config.pins.resetN = true ∧ config.power.powered = true ∧ config.ctl.mode.operating = true ∧
      config.power.state ≠ .deep) := by
  decide +kernel

/-! ## Heartbeat, staging, commits, journal -/

theorem witness_HeartbeatAndHostLoss :
    writeOk config (.heartbeat 0 host 0) (fun _ _ => true) = true ∧ writeOk config (.period 0 host 60000) (fun _ _ => true) = true ∧
    (let late := { config with ctl := { config.ctl with heartbeat := { config.ctl.heartbeat with late := false, lost := false } } }
     let h := late.ctl.heartbeat
     late.unitsRun = true ∧ late.heartbeatPeriod ≠ 0 ∧ h.late = false ∧ h.restart + late.heartbeatPeriod / 2 ≤ late.clk ∧
     h.lost = false ∧ h.restart + late.heartbeatPeriod ≤ late.clk ∧ late.num Obj.hbAction ≠ 1 ∧
     (late.putNum Obj.hbAction 1).num Obj.hbAction = 1 ∧ (late.putNum Obj.hbAction 1).ctl.mode ≠ .recovery) := by
  decide +kernel

def staging (h : Option SessId) : State :=
  { config with ctl := { config.ctl with staging := { config.ctl.staging with holder := h, lastWrite := 0 } } }

theorem witness_StagingIsHeldAndReleased :
    writeOk config (.openStaging 0 host) (fun _ _ => true) = true ∧ config.ctl.staging.holder = none ∧
    writeOk (staging (some .i3c)) (.releaseStaging 0 host) (fun _ _ => true) = true ∧
    (staging (some .i3c)).ctl.staging.holder = some (srcId host) ∧
    writeOk (staging (some (.ydp 3))) (.seize 0 host) (fun _ _ => true) = true ∧
    (let s := staging (some .i3c)
     s.unitsRun = true ∧ s.ctl.staging.holder.isSome = true ∧ s.ctl.staging.check = none ∧
     s.ctl.staging.lastWrite + s.num Obj.stgStagingIdle * 1000000000 ≤ s.clk) := by
  decide +kernel

theorem witness_CommitRequestFreezesTheArea :
    writeOk (staging (some .i3c)) (.commit 0 host) (fun _ _ => true) = true ∧
    writeOk (staging (some .i3c)) (.checkOnly 0 host) (fun _ _ => true) = true := by
  decide +kernel

def armedAt (n : Nat) : Armed :=
  { epoch := 1, kind := 3, instant := n, changes := [], bindings := [], instantDone := false, modeLost := false, exposures := [] }

/-- A check that fails, those of CHECK_ONLY and COMMIT that pass; an instant that has come and one that has not. -/
theorem witness_CommitChecksAndInstantsEnd :
    (let c := { checking 1 [] with kind := 1 }
     let s := checkedBy config (some c)
     s.unitsRun = true ∧ s.ctl.staging.check = some c ∧ (s.checkFailure c).isSome = true) ∧
    (∀ command, let c := checking command []
     let s := checkedBy plain (some c)
     s.unitsRun = true ∧ s.ctl.staging.check = some c ∧ c.holderClosed = false ∧ s.checkFailure c = none ∧
       c.command = command) ∧
    (let s := fun n => { config with ctl := { config.ctl with staging := { config.ctl.staging with armed := [armedAt n] } } }
     (s (config.fullNow)).ctl.staging.armed = [armedAt config.fullNow] ∧ (armedAt config.fullNow).instant ≤ (s config.fullNow).fullNow ∧
     (s (config.fullNow + 1)).fullNow < (armedAt (config.fullNow + 1)).instant) := by
  refine ⟨by decide +kernel, fun command => ⟨show plain.unitsRun = true by decide +kernel, rfl, rfl, ?_, rfl⟩, by decide +kernel⟩
  exact (checkFailure_checkedBy plain _ _).trans (nothing_fails_not command)

theorem witness_PassedCommitTakesTheNextEpoch :
    ∀ x ∈ config.dict.sets, x.epoch ≠ (if config.ctl.staging.lastEpoch = 0xFFFF then 1 else config.ctl.staging.lastEpoch + 1) := by
  decide +kernel

theorem witness_DigestMirrorAndLog :
    writeOk config (.digestStart 0 host 1) (fun _ _ => true) = true ∧
    (let s := config.modJournal (fun j => { j with digest := some ([], 0, 0) })
     s.unitsRun = true ∧ s.ctl.journal.digest = some ([], 0, 0)) ∧
    (let s := config.modJournal (fun j => { j with ring := [(1, zeros 32)], head := 1 })
     s.ctlWrites = true ∧ s.ctl.journal.lastMirror + 3999750 ≤ s.clk ∧ s.ctl.journal.unmirrored = [(1, zeros 32)] ∧
     (s.modJournal (fun j => { j with lastMirror := config.clk })).clk <
       (s.modJournal (fun j => { j with lastMirror := config.clk })).ctl.journal.lastMirror + 3999750) ∧
    (let s := fun n => { config with ctl := { config.ctl with errlog := { config.ctl.errlog with
        queue := [zeros 32], tokens := n, tokenClock := config.clk } } }
     (s 10000000).ctlWrites = true ∧ (s 10000000).ctl.errlog.queue = [zeros 32] ∧ 10000000 ≤ (s 10000000).logTokens ∧
     (s 9999999).logTokens < 10000000) := by
  decide +kernel

theorem witness_JournalKeepsTheNewest : config.ctl.journal.ring.length ≤ 8192 ∧ 8190 + 1 < 8192 := by decide +kernel

/-! ## Power, boot, HALT -/

theorem witness_PowerUpAndStandbyBoot :
    ((inMode .halt).ctl.mode = .halt) ∧ (State.reset.ctl.mode = .boot ∧ State.reset.ctl.boot.started = false) ∧
    (let s := { inMode .standby with dict := { config.dict with mram := [(Obj.pwStandbyWake, .num 2)] } }
     s.ctl.mode = .standby ∧ s.pins.resetN = true ∧ s.power.powered = true ∧
     bitOf (s.valIn s.dict.mram Obj.pwStandbyWake).toNat 1 = true) ∧
    (let s := { inMode .standby with
      dict := { config.dict with mram := [(Obj.pwStandbyWake, .num 4)] }, power := { config.power with encodersAtStandby := 8 } }
     bitOf (s.valIn s.dict.mram Obj.pwStandbyWake).toNat 2 = true ∧ bitOf s.power.encodersAtStandby 3 = true ∧
     (s.encoder 3).a ≠ true ∧ s.pins.resetN = true ∧ s.power.powered = true) := by
  decide +kernel

/-- A boot that waits, and one after its step `n`. -/
def bootAt (started : Bool) (n : Nat) (fallback : Bool) : State :=
  { inMode .boot with
    power := { config.power with qualifiedAt := some 0 }
    ctl := { (inMode .boot).ctl with
      boot := { config.ctl.boot with started := started, step := n, fallback := fallback }
      images := [⟨true, 1, false⟩, ⟨true, 1, false⟩] } }

def inputs (last : Nat) (valid : Bool) : BootInputs :=
  { last := last, imageAValid := valid, imageBValid := false, lossStep := 0, selfTestFailed := [], keysHeld := 0 }

/-- The start; an image that passes and none; the last check; and the firmware timeout. -/
theorem witness_BootRunsItsSteps :
    (let ok := fun (s : State) => decide (s.ctl.mode = .boot) && s.power.powered && s.pins.resetN && !s.ctl.boot.failed &&
        decide (s.power.qualifiedAt = some 0 ∧ 0 ≤ s.clk)
     ok (bootAt false 0 false) = true ∧ (inputs 1 true).last = 1 ∧
     ok (bootAt true 2 false) = true ∧ (bootAt true 2 false).ctl.boot.step = 2 ∧
     ((bootAt true 2 false).valIn (bootAt true 2 false).dict.mram Obj.fwPreferred).toNat % 2 = 0 ∧
     (bootAt true 2 false).imagePasses (inputs 3 true) 0 = true ∧ (bootAt true 2 false).imagePasses (inputs 3 false) 0 = false ∧
     (bootAt true 2 false).imagePasses (inputs 3 false) 1 = false ∧
     ok (bootAt true 9 false) = true ∧
     (let s := { bootAt true 5 false with dict := { config.dict with mramTorn := some Obj.fltRetirements } }
      ok s = true ∧ s.ctl.boot.step = 5 ∧ s.dict.mramTorn = some Obj.fltRetirements) ∧ ok (bootAt true 3 false) = true ∧ (bootAt true 3 false).ctl.boot.fallback = false) := by
  decide +kernel

theorem witness_ResetReadiesABoot :
    config.power.powered = true ∧ config.pins.resetN = true ∧ config.ctl.mode ≠ .halt ∧
    (inMode .halt).pins.resetN = true ∧ (inMode .halt).power.powered = true ∧
    (let s := { config with pins := { config.pins with resetN := false } }
     s.pins.resetN = false ∧ s.power.powered = true ∧ s.ctl.mode ≠ .halt) ∧
    (let s := config.modBus 3 (fun b => { b with state := 3 })
     (s.bus 3).state = 3) := by
  decide +kernel

theorem witness_FaultsHaltAndHaltEnds :
    config.power.powered = true ∧ config.ctl.mode ≠ .halt ∧ config.ctl.mode ≠ .standby ∧ config.power.state ≠ .deep ∧
    (let s := fun (trip : Bool) (cause : Nat) => { inMode .halt with
        power := { config.power with tripHold := trip, coolRounds := 10 }
        dict := { config.dict with mram := [(Obj.modeHaltCause, .num cause)] } }
     (s false 5).ctl.mode = .halt ∧ (s false 5).pins.resetN = true ∧ (s false 5).power.tripHold = false ∧
     ((s false 5).valIn (s false 5).dict.mram Obj.modeHaltCause).toNat ≠ 6 ∧ (s true 4).power.tripHold = true ∧
     10 ≤ (s true 4).power.coolRounds ∧ ((s true 4).valIn (s true 4).dict.mram Obj.modeHaltCause).toNat = 4) := by
  decide +kernel

theorem witness_RoundsBandsAndTheGuarantee :
    config.power.powered = true ∧
    (let s := { (inMode .run).putNum Obj.gtrGuarantee 1 with power := { config.power with allHeldSince := some (config.clk - 10000000) } }
     s.unitsRun = true ∧ s.lapsedNow = 0 ∧ s.power.allHeldSince = some (config.clk - 10000000) ∧
     config.clk - 10000000 + 10000000 ≤ s.clk ∧ s.num Obj.gtrGuarantee = 1) := by
  decide +kernel

/-- The module with a latency tolerance that DOZE may use. -/
def tolerant : State := config.putNum Obj.pwLatencyTolerance 30

theorem witness_PowerStatesChange :
    (tolerant.unitsRun = true ∧ tolerant.dozeOk = true ∧ tolerant.deepOk = false ∧ tolerant.power.state = .active ∧
      tolerant.power.target = none ∧ tolerant.power.entering = false ∧ ∀ x ∈ tolerant.dma.channels, dmaHolds x .doze = false) ∧
    (let s := { config with power := { config.power with entering := true, target := some .deep } }
     s.unitsRun = true ∧ s.power.entering = true ∧ s.power.target = some .deep ∧ s.dmaQuiet = true) ∧
    (let s := fun (p : Power) (e : Option Nat) => { config.putNum Obj.pwDeepWake 2 with
        power := { config.power with state := p, exitAt := e } }
     (s .doze none).ctl.mode.operating = true ∧ (s .doze none).power.state = .doze ∧ (s .deep none).power.state = .deep ∧
     (s .deep none).power.exitAt = none ∧ bitOf ((s .deep none).num Obj.pwDeepWake) 1 = true ∧
     (s .deep (some 0)).power.exitAt.isSome = true ∧ (s .deep (some 0)).power.target = none) := by
  decide +kernel

theorem witness_IdleUnitsAreGated :
    (config.unitsRun = true ∧ 11 < config.ctl.part.regions ∧ (viewed.viewOfPort 11).isSome = true ∧ viewed.unitsRun = true ∧
      (viewed.region 11).lastLine + 200 ≤ viewed.clk) ∧
    (let s := viewed.modTile 47 (fun t => { t with on := true })
     s.unitsRun = true ∧ 47 < s.ctl.part.tiles ∧ s.tilePowered 47 = true ∧ (s.tile 47).idle = true ∧
     (s.tile 47).idleSince + 200 ≤ s.clk ∧ s.retired Unit.tile 47 = false) ∧
    (let s := { config with power := { config.power with state := .doze } }
     s.ctl.mode.operating = true ∧ 63 < s.ctl.part.pchs ∧ s.hbm.queue = [] ∧ s.power.state = .doze ∧ (s.pch 63).state ≤ 1 ∧
     (s.pch 63).busyUntil ≤ s.clk ∧ (s.pch 63).srRetry ≤ s.clk) := by
  decide +kernel

/-! ## Lanes, links, packets -/

def lane (n state : Nat) (f : Lane → Lane) : State := config.modLane n (fun x => f { x with state := state })

theorem witness_LanesSignalAndEyes :
    (let ok := fun (s : State) (n : Nat) => s.unitsRun && s.laneFitted n && decide (s.power.target = none)
     ok (lane 51 4 id) 51 = true ∧ ((lane 51 4 id).lane 51).state = 4 ∧
     ok (lane 47 4 id) 47 = true ∧ ((lane 47 4 id).lane 47).state = 4 ∧
     ok (lane 51 2 id) 51 = true ∧ ((lane 51 2 id).lane 51).state = 2 ∧
     (let s := (lane 47 2 id).putNum (Obj.portLinkMode 11) 2
      ok s 47 = true ∧ (s.lane 47).state = 2 ∧ s.num (Obj.portLinkMode (47 / 4)) ≠ 0 ∧ 47 / 4 < s.ports.length ∧
        (s.port (47 / 4)).state = 0 ∧ s.lostAlone 47 = false) ∧
     (let s := lane 51 3 (fun x => { x with signal := true })
      ok s 51 = true ∧ (s.lane 51).state = 3 ∧ (s.lane 51).signal = true) ∧
     (let s := lane 0 1 (fun x => { x with exiting := true, signal := false })
      ok s 0 = true ∧ (s.lane 0).exiting = true ∧ (s.lane 0).state ≤ 1 ∧ (s.lane 0).signal = false) ∧
     (let s := lane 47 4 (fun x => { x with lowEyeSince := some (config.clk - 1000000000) })
      ok s 47 = true ∧ (s.lane 47).lowEyeSince = some (config.clk - 1000000000) ∧
        config.clk - 1000000000 + 1000000000 ≤ s.clk ∧ (s.lane 47).state = 4) ∧
     (let s := fun (l : State) => { l with ctl := { l.ctl with scan := some ⟨47, 1⟩ } }
      (s (lane 47 4 id)).ctl.scan = some ⟨47, 1⟩ ∧ ((s (lane 47 4 id)).lane 47).state = 4 ∧ ((s config).lane 47).state ≠ 4)) := by
  decide +kernel

def access (retried : Bool) : RegAccess :=
  { standard := 0, isWrite := false, address := 0, words := 1, data := [], tag := 3, retried := retried, own := false, frame := none,
    sentAt := some (config.clk - 100000) }

/-- Port `p` with link mode `m` and its first lane aligned. -/
def link (p m : Nat) (f : Port → Port) : State := ((lane (4 * p) 4 id).putNum (Obj.portLinkMode p) m).modPort p f

theorem witness_RegisterMessagesEnd :
    (let s := fun (m : Nat) (r : Bool) => link 11 m (fun x => { x with queue := [access r] })
     (s 2 false).unitsRun = true ∧ ((s 2 false).port 11).queue = [access false] ∧
     (access false).sentAt = some (config.clk - 100000) ∧ (s 2 false).portFitted 11 = true ∧
     config.clk - 100000 + 100000 ≤ (s 2 false).clk ∧ (access false).retried = false ∧ ((s 2 true).port 11).queue = [access true] ∧
     (access true).retried = true ∧ (access true).own = false ∧ (access true).frame = none ∧
     (access false).standard = 0 ∧ (s 2 false).hlpReceives 11 44 = true ∧ 4 ≠ (access false).tag ∧
     (s 1 false).cxpReceives 11 = true) := by
  decide +kernel

def issue (index : Nat) : Issue :=
  { index := index, clk := 0, time := 0, epoch := 0, frameEpoch := 0, phase := 0, frameStart := 0, frameNo := 0, frameTime := 0,
    afterCut := false, frameEnd := false, cut := false }

/-- A port whose view 3 has issued trigger 5; it forwards `next` next. -/
def feeding (m next : Nat) (lines : List LineBuf) : State :=
  (link 11 m (fun x => { x with view := some 3, rejoin := some 0, nextForward := next, lines := lines })).modTrigger 3
    (fun t => { t with issues := [issue 5] })

theorem witness_CameraPacketsBecomeLines :
    (feeding 2 6 []).unitsRun = true ∧ (feeding 2 6 []).hlpReceives 11 44 = true ∧
    (feeding 2 6 []).ctl.staging.pipelinesStopped = false ∧ (feeding 2 6 []).lineCase 11 5 = .late ∧
    (feeding 2 6 []).lineCase 11 6 = .stray ∧ (feeding 2 5 []).lineCase 11 5 = .taken (issue 5) ∧
    (let l : LineBuf := { index := 5, got := [], slices := [] }
     let s := feeding 2 5 [l]
     (s.port 11).nextForward = 5 ∧ (s.port 11).lines.find? (fun m => m.index = 5) = some l ∧
     (l.add (s.portLineBytes 11 0) 0 [1]).full (s.portLineBytes 11 0) = false) ∧
    (feeding 2 5 []).num (Obj.portLinkMode 11) = 2 ∧ (feeding 1 6 []).num (Obj.portWidth 11) ≠ 1 ∧
    (feeding 1 6 []).cxpReceives 11 = true ∧ (feeding 1 6 []).lineCase 11 5 = .late ∧
    (let s := feeding 2 5 []
     s.portFitted 11 = true ∧ (s.port 11).view = some 3 ∧ (s.port 11).lines = [] ∧ (s.port 11).nextForward < wrap32 ∧
     s.issueOf 3 5 = some (issue 5) ∧ (issue 5).epoch = 0 ∧
     (issue 5).clk + s.param 0 (Obj.portReasmWindow 11) * 1000 ≤ s.clk ∧ s.ctl.staging.pipelinesStopped = false ∧
     0 < s.param 0 (Obj.portWidth 11)) := by
  decide +kernel

theorem witness_SystemLinkPackets :
    (let s := lane 51 4 (fun x => { x with pseq := some 254 })
     s.unitsRun = true ∧ s.linkTakes 51 = true ∧ (s.lane 51).pseq = some ((255 + 255) % 256) ∧ s.linkUsed 51 = true ∧
     3 < s.ctl.part.syslinks ∧ s.power.target = none ∧
     (s.lane 51).waiting = [] ∧ (s.lane 51).linkFree ≤ 17 * s.clk ∧
     s.laneReceives 51 = true ∧ (s.lane 51).lastStatus + 100000 ≤ s.clk) ∧
    (let kv : Kv := [(Obj.viewFirstPort 3, .num 11), (Obj.viewPorts 3, .num 1), (Obj.viewContinuesTo 3, .num 2)]
     let d : Dict := { config.dict with
       inForce := kv, committed := kv, sets := [{ epoch := 0, params := kv, views := [3], switched := [], landed := false }] }
     let s := (({ config with dict := d } : State).modTrigger 3 (fun t => { t with issues := [issue 5] })).modView 3 (fun x =>
       { x with nextStitch := some 4 })
     let g := s.geometry 0 3
     (s.view 3).nextStitch = some 4 ∧ s.issueOf 3 5 = some (issue 5) ∧ g.remote = true ∧ ahead32 4 5 < half32 ∧
     (s.view 3).slices.find? (fun q => q.index = 5) = none ∧
     (issue 5).clk + ((g.ports.map (fun p => s.param 0 (Obj.portReasmWindow p))).foldl Nat.max 0) * 1000 + 10000 ≤ s.clk ∧
     s.param 0 (Obj.viewContinuesTo 3) ≠ 0xFF ∧ (∀ e ∈ (s.view 3).edges, e.1 ≠ 5) ∧ s.edgeDeadline 3 (issue 5) ≤ s.clk) := by
  decide +kernel

/-! ## Actions and writes of the units -/

theorem witness_ActionsOfTheUnits1 :
    writeOk config (.eyeScan 0 host 47 1) (fun _ _ => true) = true ∧ writeOk config (.adopt 0 host 11 1) (fun _ _ => true) = true ∧
    writeOk config (.regWrite 0 host 11 1) (fun _ _ => true) = true ∧ writeOk config (.regRead 0 host 11 1) (fun _ _ => true) = true ∧
    writeOk config (.positionSet 0 host 3 5) (fun _ _ => true) = true ∧
    writeOk config (.calCaptureFlat 0 host 11) (fun _ _ => true) = true ∧
    writeOk config (.calCaptureDark 0 host 11) (fun _ _ => true) = true := by
  decide +kernel

theorem witness_ActionsOfTheUnits2 :
    (let s := config.putNum (Obj.viewHistLabel 3 0) 1
     writeOk s (.build 0 host 3 1) (fun _ _ => true) = true ∧ (s.view 3).target = some 0) ∧
    writeOk config (.histClear 0 host 3 1) (fun _ _ => true) = true ∧
    writeOk config (.clear 0 host 7 1) (fun _ _ => true) = true ∧ writeOk config (.flush 0 host 15 1) (fun _ _ => true) = true ∧
    writeOk config (.start 0 host 31 2047) (fun _ _ => true) = true ∧ writeOk config (.stop 0 host 31 1) (fun _ _ => true) = true ∧
    writeOk config (.step 0 host 1) (fun _ _ => true) = true ∧ writeOk config (.clearRetirements 0 host 1) (fun _ _ => true) = true ∧
    writeOk config (.pwrReset 0 host 11 1) (fun _ _ => true) = true := by
  decide +kernel

theorem witness_UnitWritesTakeEffect :
    writeOk config (.frameLines 0 host 3 65536) (fun _ _ => true) = true ∧ writeOk config (.pwrEnable 0 host 11 1) (fun _ _ => true) = true ∧
    writeOk (inMode .test) (.testEnable 0 host 3 1) (fun _ _ => true) = true ∧ writeOk config (.preferred 0 host 1) (fun _ _ => true) = true ∧
    writeOk config (.edges 0 host 15 [0, 0, 0, 0, 1, 0, 0, 0]) (fun _ _ => true) = true := by
  decide +kernel

/-! ## Encoders, triggers, the image path -/

def encoder (c : Nat) (kv : List (Nat × Nat)) (f : Encoder → Encoder) : State :=
  kv.foldl (fun s q => s.putNum q.1 q.2) ((config.putNum (Obj.encEnable c) 1).modEncoder c f)

def retired (kind inst : Nat) (s : State) : State :=
  { s with ctl := { s.ctl with faults := { s.ctl.faults with retired := [(kind, inst)] } } }

theorem witness_EncodersCount :
    (let s := encoder 3 [] (fun x => { x with state := 2, lastEdge := 0 })
     let x := s.encoder 3
     s.unitsRun = true ∧ 3 < s.encoders.length ∧ s.encRuns 3 = true ∧ s.num (Obj.encFilter 3) ≤ 255 ∧ 0 < s.num (Obj.encFilter 3) ∧
     edgeKind x.a x.b true false (s.num (Obj.encPolarity 3)) = .count true ∧
     edgeKind x.a x.b true true (s.num (Obj.encPolarity 3)) = .illegal ∧ x.illegal.length < 8 ∧ s.ctl.staging.armed = [] ∧
     (∀ v, v < 4 → s.num (Obj.trgSource v) ≠ 3 + 1) ∧ (∀ k, k < 4 → s.num (Obj.pgoInput k) ≠ 3 + 1) ∧ x.rezero = false ∧
     x.state = 2 ∧ x.lastEdge + s.num (Obj.encSpeedTimeout 3) * 1000000 ≤ s.clk) ∧
    (let s := retired Unit.encoder 3 (encoder 3 [(Obj.encNominalRate 3, 1000)] id)
     let x := s.encoder 3
     s.encSynthetic 3 = true ∧ s.ctl.staging.armed = [] ∧
     x.synBase + (x.synCount + 1) * 1000000000 / s.num (Obj.encNominalRate 3) ≤ s.clk) := by
  decide +kernel

theorem witness_QuadratureAbsorbsAReversal :
    (let x := { Encoder.reset with lastEdge := 1 }
     (x.run ≠ 0 ∨ x.lastEdge ≠ 0) ∧ x.absorbed = false) := by
  decide

theorem witness_TriggersAreIssued :
    (let s := (config.putNum (Obj.trgSource 3) 4).modTrigger 3 (fun x => { x with held := some 4, endDue := some (config.clk, 7) })
     s.unitsRun = true ∧ s.ctl.staging.armed = [] ∧ (s.trigger 3).held = some 4 ∧ s.triggerFree 3 ≤ s.clk ∧
     4 = s.num (Obj.trgSource 3) ∧ (s.trigger 3).endDue = some (config.clk, 7) ∧ config.clk ≤ s.clk ∧
     (s.putNum (Obj.trgSource 3) 1).num (Obj.trgSource 3) ≠ 4) ∧
    (let s := ((config.putNum (Obj.pgoInput 3) 5).putNum (Obj.pgoN 3) 1).putNum (Obj.pgoM 3) 1
     3 < s.pgos.length ∧ s.num (Obj.pgoInput 3) = 5 ∧ (s.num (Obj.pgoM 3) : Int) ≤ s.pgoAcc 3 ∧
     ∀ w, w < 4 → s.num (Obj.trgSource w) ≠ 5 + 3) := by
  decide +kernel

def line (index : Nat) : PixLine :=
  { view := 3, index := index, time := 0, epoch := 0, frameEpoch := 0, phase := 0, frameStart := 0, frameNo := 0,
    frameTime := 0, afterCut := false, frameEnd := false, ages := [], samples := [], holes := [] }

def comet : Comet :=
  { id := 9, epoch := 0, version := 0, origin := 3, disposition := 0, flags := 0, first := 5, last := 5, firstTime := 0,
    lastTime := 0, closeTime := 0, xMin := 0, xMax := 0, area := 1, sumX := 0, sumY := 0, sumXX := 0, sumYY := 0, sumXY := 0,
    counts := [], means := [], crop := 0, shift := 0, modelOut := 0, slices := 0 }

theorem witness_LinesAndCometsMoveOn :
    (let s := retired Unit.region 11 (config.modPort 11 (fun x => { x with forwarded := [line 5] }))
     s.unitsRun = true ∧ s.portFitted 11 = true ∧ (s.port 11).forwarded = [line 5]) ∧
    (let c : Capture := { kind := 1, writtenAt := 0, frame := none, frameNo := 0, epoch := 0, sums := [], lines := 0, live := [] }
     let s := config.modRegion 11 (fun g => { g with capture := some c, state := 2 })
     (s.region 11).capture = some c ∧ c.frame = none ∧ c.writtenAt + 10000000000 ≤ s.clk ∧ s.regionIdle 11 5 = true) ∧
    (let s := ((viewed.modTrigger 3 (fun t => { t with issues := [issue 5] })).modView 3 (fun w => { w with
        nextStitch := some 5 })).modRegion 11 (fun g => { g with coloured := [line 5] })
     (s.view 3).nextStitch = some 5 ∧ s.issueOf 3 5 = some (issue 5) ∧ s.stitchReady 3 (issue 5) = true) ∧
    (let s := config.modView 3 (fun w => { w with closeQueue := [(comet, false)] })
     (s.view 3).closeQueue = [(comet, false)] ∧ 1000000000 ≤ s.viewTokens 3 ∧ 1000000000 ≤ s.moduleTokens) := by
  decide +kernel

/-! ## Classifier, bricks, models -/

def building (v k : Nat) (b : Bank) : State :=
  (config.modView v (fun w => { w with
    build := some { mask := 1, labels := [], radius := 0, minCount := 1, fill := 0, bank := k, startedAt := 0, unitsDone := 0,
                    todo := [] } })).modBank v k (fun _ => b)

theorem witness_TablesAreBuiltAndKept :
    (let s := (building 3 1 { Bank.reset with state := BankState.loading }).modTile 47 (fun t => { t with
        jobs := (List.replicate 8 BrickJob.idle).set 7 (.unit 3 127) })
     s.unitsRun = true ∧ (s.tile 47).job 7 = .unit 3 127 ∧
     ((s.view 3).build.map (fun b => (b.bank, b.startedAt))) = some (1, 0) ∧
     ((s.view 3).bank 1).state = BankState.loading ∧ 0 + 10000000000 ≤ s.clk) ∧
    (let s := config.modBank 3 1 (fun b => { b with state := BankState.verifying })
     s.unitsRun = true ∧ ((s.view 3).bank 1).verified = false ∧ ((s.view 3).bank 1).state = BankState.verifying ∧ s.copyWaits 3 = false ∧ (s.view 3).build = none ∧
     (s.copyHolders 3).filter (fun r => !s.retired Unit.region r && decide (2 ≤ (assoc [] r).getD 0)) = []) ∧
    (let s := viewed.modBank 3 0 (fun b => { b with state := BankState.verifying })
     ((s.view 3).bank 0).state = BankState.verifying ∧ ((s.view 3).bank 0).verified = false ∧ s.copyWaits 3 = false ∧ (s.view 3).build = none ∧
     (s.copyHolders 3).filter (fun r => !s.retired Unit.region r && decide (2 ≤ (assoc [(11, 2)] r).getD 0)) ≠ []) ∧
    (let s := viewed.modBank 3 0 (fun b => { b with state := BankState.active, lacks := [11] })
     ((s.view 3).bank 0).state = BankState.active ∧ s.copyWaits 3 = false ∧
     ((s.view 3).bank 0).lacks.filter (fun r => decide (2 ≤ (assoc [(11, 1)] r).getD 0)) = [] ∧
     s.portsOfView 3 = [11] ∧ (s.region 11).awaiting = false) ∧
    (15 < 16 ∧ Mem.wf ([] : Mem) = true) := by
  decide +kernel

/-- A run without a cycle, that began now. -/
def started : Run := { input := [], tenths := 0, since := config.clk }

def matched : Matched := { comet := 9, view := 3, slot := 7, tDec := 2 ^ 30, retried := false }

def track : Track :=
  { comet := comet, view := 3, a := 0, b := 0, tFront := 0, tBack := 0, action := 1, openings := [], belt := none,
    stalled := false, awaiting := true, tDec := 0, opened := false, written := false }

/-- A module whose schedule holds the comet, at short time 0. -/
def scheduled (f : State → State) : State :=
  f { viewed with
    timeOffset := -(10 ^ 15 : Nat)
    entries := [{ tracks := [track], entered := true, epoch := 0, armed := true, held := false, tflags := 0, revisions := 0,
                  entryTime := 0, tFront := 0, flight := 0, speed := 0, firstPlanned := none, lastPlanned := none, recorded := false,
                  shared := false }] }

def own : State → State := fun s => { s with pins := { s.pins with id := comet.origin / 64 } }

theorem witness_CometsAreDispatched :
    (let s := scheduled (fun s => own (({ s with dispatchQueue := [matched] }.modSlot 7 (fun x => { x with state := 3, cost := 1 })).modTile 44
        (fun t => { t with on := true, map := 0xFF, jobs := List.replicate 8 .idle, weights := [(7, [])] })))
     s.unitsRun = true ∧ s.dispatchQueue = [matched] ∧ s.cometOf 9 = some track ∧
     s.placeFor matched (s.cometRegion 3 comet) = some (44, 0) ∧
     s.inTime matched (decide (6 ≤ 44 / 4)) = true ∧ 44 < s.tiles.length ∧ 0 < 8 ∧ (s.tile 44).jobs.length = 8) ∧
    (let m := { matched with tDec := 0 }
     let s := scheduled (fun s => own { s with dispatchQueue := [m] })
     s.dispatchQueue = [m] ∧ s.cometOf 9 = some track ∧ s.placeFor m (s.cometRegion 3 comet) = none ∧
     s.inTime m (decide (6 ≤ s.cometRegion 3 comet)) = false) ∧
    (let s := scheduled (fun s => own ((s.modTile 47 (fun t => { t with
        jobs := (List.replicate 8 BrickJob.idle).set 7 (.crop matched none) })).modRing 3 (fun y => { y with
          slots := (List.range 6).map (fun n => (n, n + 1, 2)) })))
     let w := cropWindow comet (s.param 0 (Obj.viewCropMargin 3)) (s.geometry 0 3).width
     (s.tile 47).job 7 = .crop matched none ∧ s.cometOf 9 = some track ∧ w = (0, 5, 1, 6) ∧
     ∀ n, n < w.2.2.2 → 2 ≤ s.lineSlot 3 ((w.2.2.1 + n) % wrap32)) ∧
    (let s := scheduled (fun s => own (s.modTile 47 (fun t => { t with
        jobs := (List.replicate 8 BrickJob.idle).set 7 (.crop matched (some started)) })))
     (s.tile 47).job 7 = .crop matched (some started) ∧ 10 * (s.slot 7).cycles ≤ s.runTenths 47 started ∧
     (s.modSlot 7 (fun x => { x with cycles := 1 })).runTenths 47 started <
       10 * ((s.modSlot 7 (fun x => { x with cycles := 1 })).slot 7).cycles ∧ diff32 s.shortNow matched.tDec < 0 ∧ track.awaiting = true ∧
     0 ≤ diff32 s.shortNow track.tDec) := by
  decide +kernel

theorem witness_UpsetsAndResets :
    (let s := viewed.modTile 47 (fun t => { t with
        on := true, map := 0xFF, jobs := (List.replicate 8 BrickJob.idle).set 7 (.crop matched none) })
     s.unitsRun = true ∧ s.tileLive 47 = true ∧ (s.tile 47).resetUntil ≤ s.clk ∧ s.inReset 11 = false ∧ (s.tile 47).job 7 = .crop matched none ∧ bitOf (s.tile 47).map 7 = true ∧
     s.ctl.faults.times Unit.brick (8 * 47 + 7) = []) ∧
    (viewed.regionLive 11 = true ∧ 11 < viewed.regions.length) := by
  decide +kernel

theorem witness_ModelsAreCheckedAndStored :
    (let s := config.modSlot 7 (fun x => { x with state := 2 })
     s.unitsRun = true ∧ (s.slot 7).state = 2) ∧
    (let s := config.modSlot 7 (fun x => { x with state := 3, norState := 1 })
     (s.slot 7).state = 3 ∧ (s.slot 7).norState = 1) := by
  decide +kernel

/-! ## Valve buses and timed outputs -/

/-- SAFE_N released. -/
def open_ : State := { config with pins := { config.pins with safeN := true } }

theorem witness_ValveTicksAndStatus :
    (let s := open_.modBus 3 (fun x => { x with state := 3, ticking := true, tickClk := 0, period := 10000 })
     s.unitsRun = true ∧ (s.bus 3).state = 3 ∧ (s.bus 3).ticking = true ∧ (s.bus 3).period ≠ 0 ∧
     (s.bus 3).tickClk + (s.bus 3).period ≤ s.clk ∧ s.safe = false) ∧
    (let f : Bytes := 2 :: zeros 13 ++ leBytes 2 (crc16 (2 :: zeros 13))
     let s := fun (x : Option Bytes) => open_.modBus 3 (fun y => { y with state := 3, present := true, judge := true, status := x, tickClk := 0 })
     ((s none).bus 3).judge = true ∧ ((s none).bus 3).sends = true ∧ ((s none).bus 3).tickClk + 4500 ≤ (s none).clk ∧
     ((s none).bus 3).status = none ∧ ((s (some f)).bus 3).status = some f ∧ f.length = 16 ∧
     u16At f 14 = crc16 (f.take 14) ∧ u8At f 0 = 2) := by
  decide +kernel

theorem witness_BusesAndOutputsFollowTheirPins :
    (let s := open_.modBus 3 (fun x => { x with present := false, state := 1 })
     s.unitsRun = true ∧ (s.bus 3).present = false ∧ (s.bus 3).state = 1) ∧
    (let s := open_.modBus 3 (fun x => { x with present := true, state := 3 })
     (s.bus 3).present = true ∧ (s.bus 3).state = 3) ∧
    (let s := open_.modBus 3 (fun x => { x with state := 2, startAt := some 0 })
     (s.bus 3).state = 2 ∧ (s.bus 3).startAt = some 0 ∧ 0 + 100000 ≤ s.clk) ∧
    (open_.safe = false ∧ open_.touts.length = 16) ∧
    (let s := open_.modTout 15 (fun x => { x with queue := [(config.shortNow, true)] })
     (s.tout 15).queue = [(config.shortNow, true)] ∧ (s.tout 15).lamp = [] ∧ diff32 config.shortNow s.shortNow ≤ 0 ∧
     s.edgesDiscarded = false ∧ (s.tout 15).tooSoon s.clk = false) := by
  decide +kernel

/-! ## Memory, DMA, events -/

theorem config_stacks (k : Nat) : config.stackLost k = false := by
  by_cases h : k < 2
  · exact (by decide +kernel : ∀ k, k < 2 → config.stackLost k = false) k h
  · unfold State.stackLost
    rw [show config.ctl.part.stacks = 2 from rfl]
    simp [h]

theorem witness_BurstsStoreTheirBytes :
    (∀ k, config.stackLost k = false) ∧
    config.unitsRun = true ∧ 63 < config.ctl.part.pchs ∧ config.hbm.queue = [] ∧ config.retired Unit.pch 63 = false ∧
    (config.pch 63).state = 0 ∧ (config.pch 63).busyUntil ≤ config.clk ∧ config.hbm.mem.wf = true :=
  ⟨config_stacks, by decide +kernel⟩

theorem witness_StacksAreKept :
    (let s := config.modPch 63 (fun y => { y with debt := 31201, debtClk := config.clk })
     s.unitsRun = true ∧ 63 < s.ctl.part.pchs ∧ s.hbm.queue = [] ∧ (s.pch 63).state ≤ 1 ∧ (s.pch 63).busyUntil ≤ s.clk ∧
     (s.refreshL 63 : Int) < s.debt 63) ∧
    (let s := config.modPch 63 (fun y => { y with debt := 0, debtClk := config.clk })
     (s.pch 63).state = 0 ∧ s.num Obj.hbmPdTimer ≠ 0 ∧ (s.pch 63).lastUse + s.num Obj.hbmPdTimer ≤ s.clk ∧
     s.debt 63 < s.refreshT 63 ∧ 63 < s.hbm.pchs.length ∧ s.num Obj.hbmScrubPeriod ≠ 0 ∧ s.scrubDue 63 ≤ s.clk ∧ s.retired Unit.pch 63 = false ∧
     1 < s.ctl.part.stacks) ∧
    (let s := (viewed.modView 3 (fun w => { w with nextStitch := some 5 })).modRing 3 (fun y => { y with slots := [(0, 1, 1)] })
     s.viewOfPort 11 = some 3 ∧ (s.view 3).nextStitch = some 5 ∧ s.oldestWaiting 3 11 5 = 1 ∧ s.lineSlot 3 1 ≠ 0) ∧
    (let s := (viewed.modView 3 (fun w => { w with nextStitch := some 5 })).modRing 3 (fun y => { y with
        slots := [(0, 3, 2)], writing := [(3, 11, viewed.clk + 1)] })
     s.oldestWaiting 3 11 5 = 3 ∧ s.lineSlot 3 3 = 1) := by
  decide +kernel

/-- A descriptor: source, destination, NEXT and flags; four bytes, moved as it is. -/
def desc (src dst next flags : Nat) : Bytes :=
  leBytes 8 src ++ leBytes 8 dst ++ leBytes 4 4 ++ leBytes 2 next ++ leBytes 1 flags ++ zeros 9

def xbufAt : Nat := 3 * 2 ^ 60
def copies : Bytes := desc xbufAt xbufAt 0xFFFF 0
def follows : Bytes := desc (2 ^ 60) xbufAt 0xFFFF 16
def sends : Bytes := desc xbufAt (4 * 2 ^ 60) 0xFFFF 0

/-- Channel 31 at descriptor 2047, which is `d`. -/
def channel (d : Bytes) (f : Dma → Dma) : State :=
  ((config.modEngine (fun e => { e with table := Mem.writeBytes e.table (32 * 2047) d })).modRing 0 (fun y =>
    { y with plan := { y.plan with enabled := true } })).modDch 31 (fun x =>
    f { x with state := 1, desc := 2047, current := none })

theorem witness_DescriptorsRun :
    (let ok := fun (s : State) => s.unitsRun && decide (s.power.target = none ∧ s.power.state ≠ .doze ∧ s.power.band ≠ 4 ∧ (s.dch 31).state = 1 ∧
        (s.dch 31).current = none ∧ 31 < s.dma.channels.length)
     let get := fun (s : State) => s.descriptor (s.dch 31).desc
     ok (channel (desc xbufAt xbufAt 2047 0) id) = true ∧
     (channel (desc xbufAt xbufAt 2047 0) id).fetchCheck 31 2047 (get (channel (desc xbufAt xbufAt 2047 0) id)) = some Code.loop ∧
     ok (channel copies id) = true ∧ get (channel copies id) = copies ∧ (channel copies id).fetchCheck 31 2047 copies = none ∧
     descFollow copies = false ∧ descAction copies = 0 ∧
     get (channel follows id) = follows ∧ (channel follows id).fetchCheck 31 2047 follows = none ∧ descFollow follows = true ∧
     (channel follows id).followReached follows = false) ∧
    (let s := (channel follows (fun x => { x with current := some follows, following := true })).modRing 0 (fun y => { y with writePtr := 4 })
     (s.dch 31).current = some follows ∧ (s.dch 31).following = true ∧ s.followReached follows = true ∧ descAction follows = 0) ∧
    (let s := channel copies (fun x => { x with current := some copies })
     s.inFlight < 16 ∧ s.dmaNext = some 31) ∧
    (let s := channel copies (fun x => { x with current := some copies, state := 3, inFlight := true })
     (s.dch 31).current = some copies ∧ (s.dch 31).state = 3 ∧ (s.dch 31).inFlight = true ∧ s.dmaServes 31 = true ∧
     s.dmaWritable 4 (descDst copies) (descCount copies) = descCount copies ∧ descNext copies = 0xFFFF ∧ addrSpace (descDst copies) ≠ 4 ∧
     s.dmaRead (descSrc copies) (descCount copies) = some [0, 0, 0, 0]) ∧
    (let s := channel follows (fun x => { x with current := some follows, state := 3, inFlight := true })
     (s.dch 31).state = 3 ∧ (s.dch 31).inFlight = true ∧ s.dmaServes 31 = true ∧ s.dmaRead (descSrc follows) (descCount follows) = none) ∧
    (let s := channel sends (fun x => { x with current := some sends, state := 3, inFlight := true })
     (s.dch 31).state = 3 ∧ addrSpace (descDst sends) = 4 ∧ (s.dch 31).issuedAt + 10000 ≤ s.clk ∧
     (s.eth (addrEth (descDst sends))).up = false) := by
  decide +kernel

/-- The routing with channel 119 of source 0x80. -/
def wired : Kv := (Obj.echSource 119, .num 0x80) :: routed.filter (fun q => q.1 ≠ Obj.echSource 119)

/-- An event of source `n` raised in a past cycle. -/
def raised (n : Nat) : State :=
  { config with
    fabric := { config.fabric with raised := [⟨0, false, n, 0, 0, 0⟩] }
    dict := { config.dict with inForce := wired } }

theorem witness_UnitsAndEventsAreShared :
    (let s := config.modEngine (fun e => { e with holders := [0, 0, 0, 0xFF], waiters := [[], [], [], [0x40]] })
     s.unitsRun = true ∧ s.power.target = none ∧ s.power.state ≠ .doze ∧ s.dma.holders.getD 3 0xFF = 0xFF ∧ s.dma.waiters.getD 3 [] = [0x40]) ∧
    (let s := config.modEngine (fun e => { e with streamQueue := [.stream 7 0 1 [] 8 1 0 0] })
     s.codecHeld = false ∧ s.dma.streamQueue = [.stream 7 0 1 [] 8 1 0 0]) ∧
    (config.retired Unit.dma 31 = false ∧ config.ctl.faults.times Unit.dma 31 = []) ∧
    (let s := { config with ctl := { config.ctl with faults := { config.ctl.faults with retired := [(Unit.dma, 31)] } } }
     s.unitsRun = true ∧ s.retired Unit.dma 31 = true) ∧
    (config.ctl.part.channelFitted 255 = true ∧ channelSecure 255 = false ∧ config.retired Unit.channel 255 = false ∧
      (config.upset Unit.channel 255 10000000000 []).overThreshold Unit.channel 255 3 = false) ∧
    (let s := { config with ctl := { config.ctl with faults := { config.ctl.faults with
        windows := [((Unit.channel, 255), [config.clk, config.clk])] } } }
     (s.upset Unit.channel 255 10000000000 []).overThreshold Unit.channel 255 3 = true) := by
  decide +kernel

theorem mem_wired {q : Nat × Val} (h : q ∈ wired) : q = (Obj.echSource 119, .num 0x80) ∨ (q ∈ routed ∧ q.1 ≠ Obj.echSource 119) := by
  rcases List.mem_cons.mp h with h | h
  · exact .inl h
  · have := List.mem_filter.mp h
    exact .inr ⟨this.1, by simpa using this.2⟩

theorem wired_source (n : Nat) (h : n < 296) (hn : n ≠ 119) (m : Nat) : (raised m).num (Obj.echSource n) = 0 := by
  have hk : Obj.echSource n ≠ Obj.echSource 119 := by simp only [Obj.echSource, objKey]; omega
  have : Kv.get? wired (Obj.echSource n) = some (.num 0) := by
    refine Kv.get?_of_only ⟨(Obj.echSource n, .num 0), ?_, rfl⟩ (fun q hq e => ?_)
    · exact List.mem_cons_of_mem _ (List.mem_filter.mpr ⟨(mem_routed _).mpr (.inl ⟨n, h, .inl rfl⟩), by simpa using hk⟩)
    · rcases mem_wired hq with rfl | ⟨hr, -⟩
      · exact absurd e.symm hk
      · rcases (mem_routed q).mp hr with ⟨a, ha, rfl | rfl⟩ | ⟨k, hk', rfl⟩
        · rfl
        · simp only [Obj.echSource, Obj.echTasks, objKey] at e; omega
        · simp only [Obj.echSource, Obj.hspDDestPort, objKey] at e; omega
  show (((Kv.get? wired (Obj.echSource n)).getD _) : Val).toNat = 0
  rw [this]
  rfl

theorem wired_source_119 (m : Nat) : (raised m).num (Obj.echSource 119) = 0x80 := rfl

theorem raised_channels (m source : Nat) (east : Bool) (h : source ≠ 0) :
    (raised m).channelsOf east source = if source = 0x80 ∧ east = false then [119] else [] := by
  have : ∀ n, n < 296 → (((channelEast n = east || decide (288 ≤ n)) && decide (source ≠ 0) && decide ((raised m).num (Obj.echSource n) = source)) =
      decide (n = 119 ∧ source = 0x80 ∧ east = false)) := by
    intro n hn
    by_cases e : n = 119
    · subst e
      rw [wired_source_119]
      have : channelEast 119 = false := by decide
      rw [this]
      cases east <;> simp [h, eq_comm]
    · rw [wired_source n hn e]
      simp [h.symm, e]
  unfold State.channelsOf
  rw [List.filter_congr (fun n hn => this n (List.mem_range.mp hn))]
  by_cases hs : source = 0x80 ∧ east = false
  · simp only [hs, and_self, and_true, if_true]
    decide +kernel
  · simp [hs]

/-- An event that no channel takes, and one that channel 119 takes, with its gate open. -/
theorem witness_UnitsAndEventsAreShared_events :
    ((raised 1).unitsRun = true ∧ (raised 1).fabric.raised = [⟨0, false, 1, 0, 0, 0⟩] ∧ 0 < (raised 1).clk ∧
      (raised 1).channelsOf false 1 = []) ∧
    ((raised 0x80).fabric.raised = [⟨0, false, 0x80, 0, 0, 0⟩] ∧ (raised 0x80).channelsOf false 0x80 = [119] ∧
      (raised 0x80).retired Unit.channel 119 = false ∧ channelOwned 119 = false ∧
      (raised 0x80).channelsOf false (0x100 + 119) = [] ∧ (raised 0x80).octets (Obj.echTasks 119) = [] ∧
      (raised 0x80).gateOpen 119 = true ∧ ((raised 0x80).stormGuard 119).2 = true) ∧
    ((raised 0x80).putNum (Obj.echGate 119) 0x8000).gateOpen 119 = false := by
  refine ⟨⟨by decide +kernel, rfl, by decide, ?_⟩, ⟨rfl, ?_, by decide +kernel, by decide, ?_, by decide +kernel,
    by decide +kernel, by decide +kernel⟩, by decide +kernel⟩ <;> rw [raised_channels _ _ _ (by decide)] <;> decide

/-! ## Network, time, panel -/

def eth (f : Eth → Eth) : State := config.modEth 1 (fun y => f { y with up := true })
def arp (mac : Option Nat) (at_ asked : Nat) : State := eth (fun y => { y with arp := [⟨7, mac, at_, asked⟩] })

theorem witness_PortsKeepTheirAddresses :
    (let s := config.putNum (Obj.ethEnable 1) 1
     s.netRuns = true ∧ 1 < s.eths.length ∧ s.flag (Obj.ethEnable 1) = true ∧ (s.eth 1).up = false) ∧
    (((eth id).eth 1).up = true ∧ (eth id).netRuns = true ∧ 8 ≠ (eth id).num (Obj.ethIpv4Addr 1) ∧ ((eth id).eth 1).entry 7 = none ∧
      (eth id).rxAccepts 1 .other = false ∧ ((eth id).eth 1).echoes = [] ∧ 1472 < (zeros 1473).length ∧ (zeros 1472).length ≤ 1472) ∧
    (let s := arp none 0 0
     (s.eth 1).entry 7 = some ⟨7, none, 0, 0⟩ ∧ 0 + 1000000000 ≤ s.clk) ∧
    (let s := arp (some 5) (config.clk - 300000000000) 0
     (s.eth 1).entry 7 = some ⟨7, some 5, config.clk - 300000000000, 0⟩ ∧ 0 ≤ config.clk - 300000000000 ∧
     config.clk - 300000000000 + 290000000000 ≤ s.clk ∧ config.clk - 300000000000 + 300000000000 ≤ s.clk) := by
  decide +kernel

/-- Port 0 as SLAVE, the servo in state `n`. -/
def slave (mode : Mode) (n ptp : Nat) (f : Servo → Servo) : State :=
  ((inMode mode).modEth 0 (fun y => { y with up := true, ptpState := ptp })).modServo (fun v => f { v with state := n })

theorem witness_TimeIsSteered :
    (let ok := fun (s : State) => s.netRuns && (s.eth 0).up && s.ptpOn 0
     ok (slave .config 2 9 id) = true ∧ ((slave .config 2 9 id).eth 0).ptpState = 9 ∧ (slave .config 2 9 id).servo.state ≠ 1 ∧
     (let offset := fun (s : State) (origin : Int) => (s.clk : Int) + s.timeOffset - (s.num (Obj.ethPhyDelayRx 0) : Nat) - origin - 0 -
        (s.eth 0).pathDelay
      (offset (slave .config 2 9 id) (config.clk + config.timeOffset)).natAbs ≤ (slave .config 2 9 id).num Obj.timeJumpThreshold ∧
      (slave .config 2 9 id).num Obj.timeJumpThreshold < (offset (slave .config 2 9 id) (2 ^ 60)).natAbs ∧
      (slave .run 2 9 id).num Obj.timeJumpThreshold < (offset (slave .run 2 9 id) (2 ^ 60)).natAbs) ∧
     (slave .config 2 9 (fun v => { v with stepArmed := some config.clk })).mayStep = true ∧ (slave .run 2 9 id).mayStep = false ∧
     ok (slave .run 2 9 id) = true ∧ (slave .config 1 9 (fun v => { v with qualifying := config.clk })).servo.state = 1 ∧
     (let s := slave .config 1 9 (fun v => { v with qualifying := config.clk })
      s.clk < s.servo.qualifying + 8 * logSeconds (s.int 16 Obj.ptpLogSync)) ∧
     (slave .config 3 9 id).servo.lastSync + 4 * logSeconds ((slave .config 3 9 id).int 16 Obj.ptpLogSync) ≤
       (slave .config 3 9 id).clk ∧
     ok (slave .config 0 6 id) = true ∧ ((slave .config 0 6 id).eth 0).ptpState = 6 ∧ (slave .config 0 6 id).num Obj.ptpProfile = 0 ∧
     natAt ((slave .config 0 6 id).eth 0).sent 0 + logSeconds ((slave .config 0 6 id).int 16 Obj.ptpLogAnnounce) ≤
       (slave .config 0 6 id).clk) ∧
    (let s := config.modServo (fun v => { v with stepArmed := some (config.clk - 60000000000) })
     s.unitsRun = true ∧ s.servo.stepArmed = some (config.clk - 60000000000) ∧ config.clk - 60000000000 + 60000000000 ≤ s.clk) ∧
    (let s := eth (fun y => { y with masters := [⟨1, 2, 0, 37⟩] })
     (s.eth 1).masters ≠ [] ∧
     ∀ m ∈ (s.eth 1).masters, m.at_ + s.num Obj.ptpAnnounceTimeout * logSeconds (s.int 16 Obj.ptpLogAnnounce) ≤ s.clk) := by
  decide +kernel

def pressed (long : Nat) : State :=
  { config with pins := { config.pins with keys := 128, silentKeys := 0, longDone := long, pressedAt := List.replicate 8 0 } }

def camera (k : Nat) (f : CamPower → CamPower) : State :=
  { config with pins := { config.pins with camera := config.pins.camera.modify k f } }

theorem witness_KeysLampsAndCameraPower :
    (let s := config.putNum Obj.keyKeyEnable 255
     s.ctl.mode.operating = true ∧ bitOf (s.num Obj.keyKeyEnable) 7 = true ∧ bitOf s.pins.keys 7 = false) ∧
    (bitOf (pressed 0).pins.keys 7 = true ∧ bitOf (pressed 0).pins.silentKeys 7 = false ∧ bitOf (pressed 0).pins.longDone 7 = false ∧
      natAt (pressed 0).pins.pressedAt 7 + (pressed 0).num Obj.keyLongPress * 1000000 ≤ (pressed 0).clk ∧
      bitOf (pressed 128).pins.longDone 7 = true) ∧
    (let s := config.putNum (Obj.lampMode 3) 2
     3 < s.pins.lampOn.length ∧ s.num (Obj.lampMode 3) = 2 ∧ natAt s.pins.lampClk 3 + s.lampHalf 3 ≤ s.clk) ∧
    ((camera 11 (fun x => { x with enable := true })).camPower 11).enable = true ∧
    0 < (camera 11 id).num Obj.cpwPwrRetries ∧ ((camera 11 id).putNum Obj.cpwPwrRetries 0).num Obj.cpwPwrRetries ≤ 0 ∧
    (let s := camera 11 (fun x => { x with state := 2, retryAt := some config.clk })
     (s.camPower 11).retryAt = some config.clk ∧ config.clk ≤ s.clk ∧ (s.camPower 11).state = 2) ∧
    (let s := { (config.putNum (Obj.camPwrEnable 11) 1) with pins := { config.pins with staggerNext := some (11, 0) } }
     s.pins.staggerNext = some (11, 0) ∧ s.nextPowered 11 = some 11 ∧ (s.camPower 11).state = 0 ∧ 11 < s.pins.camera.length) ∧
    (let s := { config with ctl := { config.ctl with images := [⟨true, 1, false⟩, ⟨false, 2, true⟩] } }
     s.ctl.images[1]? = some ⟨false, 2, true⟩) := by
  decide +kernel

theorem witness_TouchChannelsTakeThreeScans :
    (let x : Touch := { Touch.reset with seeded := true, base := 256 }
     x.seeded = true ∧ 0 < 1 ∧ x.on = false ∧ ((1 : Nat) : Int) ≤ x.delta 2 ∧ x.above < 2 ∧ x.delta 1 < 1 ∧
     { x with on := true }.on = true ∧ 2 * { x with on := true }.delta 1 < 1) ∧
    (let s := ((config.putNum Obj.tchTouchEnable 8).putNum Obj.tchWaterChannels 4).modPins (fun p => { p with
        touch := p.touch.modify 3 (fun x => { x with on := true, onSince := 0 }) })
     s.ctl.mode.operating = true ∧ 3 < s.pins.touch.length ∧ s.touchEnabled = [3] ∧ 1 < s.num Obj.tchWaterChannels ∧
     (s.touch 3).on = true ∧ (s.touch 3).onSince + s.num Obj.tchTouchMax * 1000000000 ≤ s.clk) := by
  decide +kernel

/-! ## Invariants: reset meets each of them and steps from there -/

theorem witness_LampsShowInEveryStep : State.reset.lampsShow ∧ ∃ t, step State.reset = .next t := by
  refine ⟨?_, _, rfl⟩
  unfold State.lampsShow
  decide +kernel

/-- CONFIG with condition 0 of the guarantee lapsed, and a step from it. -/
theorem witness_ViewsAndLapsesInEveryStep :
    (let s := { config with power := { config.power with lapsed := 1 } }
     s.ctl.mode.operating = true ∧ s.viewsReported ∧ s.lapsesWatched) ∧ ∃ t, step config = .next t := by
  refine ⟨⟨by decide, fun _ => ?_, fun _ => by decide +kernel⟩, _, rfl⟩
  decide +kernel

theorem witness_StoresStayCanonical : State.reset.storesCanonical ∧ ∃ t, step State.reset = .next t :=
  ⟨⟨by decide +kernel, by decide +kernel, by decide +kernel, fun _ h => (nomatch h), by decide +kernel⟩, _, rfl⟩

/-! ## The manual's own values -/

def nineDigits : Bytes := [49, 50, 51, 52, 53, 54, 55, 56, 57]

/-- The check values of R433. -/
theorem test_crcs :
    crc32c nineDigits = 0xE3069283 ∧ crc32 nineDigits = 0xCBF43926 ∧ crc16 nineDigits = 0x29B1 ∧ crc8 nineDigits = 0xF4 := by
  decide +kernel

/-- What a step answers, as a state. -/
def after (o : Host.Outcome State Fault Refusal) : Option State :=
  match o with
  | .next t => some t
  | _ => none

def controller : Src := .ydp 1 7 9 65535 18

/-- The example of file 02: the presence map of an HB-480-F reads 0x0000_0007 with FINAL; the repeat comes back CACHED. -/
theorem test_presence_by_ydp :
    (let t := after (exec (.read 0 controller 0x1010 1 false) linked)
     (t.bind (fun s => after (exec (.read 1000 controller 0x1010 1 false) s))).map (fun s => s.out) =
       some [.ydpResponse 1 7 9 65535 18 ⟨0x81, 1, 0x1010, 1, 0, 0, [7, 0, 0, 0]⟩,
         .ydpResponse 1 7 9 65535 18 ⟨0x81, 3, 0x1010, 1, 0, 0, [7, 0, 0, 0]⟩]) := by
  decide +kernel

/-- The example of file 05: after a halt the first reverse edge is absorbed, the second counts −1 and starts REVERSING; 17 back
takes the accumulator of PGO0 from 3 to −14. -/
theorem test_belt_backs_up :
    (let x := { Encoder.reset with position := 100, state := 1, forward := true, run := 0, lastEdge := 5 }
     let one := x.edge false 6
     let two := one.1.edge false 7
     (one.1.position, one.2, one.1.state) = (100, 0, 1) ∧ (two.1.position, two.2, two.1.state) = (99, -1, 4)) ∧
    pgoStep 3 (-1) 17 20 = (-14, false) := by
  decide

/-- The example of file 06: 612 of 10 bits, dark 3,200, gain 0x483D, is 40,598. -/
theorem test_corrected_sample : correctSample 10 true true 3200 0x483D 612 = 40598 := by decide

/-- The example of file 07: phase 1 of the linear coefficients between 40,702 and 40,830 is 40,704. -/
theorem test_resampled_sample :
    resamplePixel (config.octets (Obj.portXtCoeffs 3)) 8 3 (2 * 65536 + 1309) [0, 0, 40702, 40830] [false, false, false, false]
      4 = (40704, false) := by
  decide +kernel

/-- The example of file 09: the pixel (40,000, 38,000, 30,000, 45,000) is in cell 610,795. -/
theorem test_cell :
    (let m : Bytes := [0, 4, 0, 4, 0, 4, 0, 4, 0, 0x20, 0, 0xE0, 0, 0, 0, 0, 0, 0, 0, 0, 0, 0, 0, 0x10] ++
        leBytes 4 0 ++ leBytes 4 32768 ++ leBytes 4 0
     coordMatrixOk m = true ∧ cellOf m [40000, 38000, 30000, 45000] = 610795) := by
  decide +kernel

/-- The example of file 13: valves 509 and 510 are bits 5 and 6 of byte 71. -/
theorem test_valve_byte : (valveFrame 0 0 10 (2 ^ 509 + 2 ^ 510)).getD 71 0 = 0x60 := by decide +kernel

/-- The example of file 20: a wet scan turns nothing on and holds the baseline; the third scan with d of 900 turns TOUCH1 on. -/
theorem test_touch :
    (let x : Touch := { Touch.reset with seeded := true, base := 12000 * 256 }
     (x.scan 0 12300 200 6 true).1.on = false ∧ (x.scan 0 12300 200 6 true).1.base = x.base ∧
     ((((x.scan 0 12900 200 6 false).1.scan 0 12900 200 6 false).1.scan 0 12900 200 6 false).1.on = true)) := by
  decide +kernel

/-- R42: an object that is not there, a read-only object, a value out of range. -/
theorem test_refusals :
    (let code := fun (i : Instr) => ((after (exec i config)).bind (fun s => s.ctl.i3c.response)).map (fun p => p.2.code)
     code (.read 0 host 0x0FFF 1 false) = some Code.noObject ∧ code (.write 0 host 0x1100 1 [1]) = some Code.readOnly ∧
     code (.write 0 host 0x1150 1 [99, 0, 0, 0]) = some Code.outOfRange ∧
     code (.write 0 host 0x1150 1 [100, 0, 0, 0]) = some Code.ok) := by
  decide +kernel

/-- R364, R524: SAFE_N counts, and R526: a long press counts once. -/
theorem test_pins :
    (after (exec (.safeNAssert 0) open_)).map (fun s => (s.pins.safeN, s.num Obj.pinSafeCount)) = some (false, 1) ∧
    ((after (exec (.longPress 0 7) (pressed 0))).bind (fun s => after (exec (.longPress 0 7) s))).map (fun s =>
      s.num (Obj.keyLongCount 7)) = some 1 := by
  decide +kernel

theorem test_reset_mode : State.reset.ctl.mode = .boot := by decide

theorem test_reset_idles : ∃ t, step State.reset = .next t ∧ t.pending = [] := ⟨_, rfl, rfl⟩

/-- The example of file 02: a read of the presence map by YDP, its datagram and that of its response. -/
theorem test_ydp_example :
    parseDatagram [0x59, 0x44, 1, 1, 3, 0, 0, 0, 0x12, 0, 0, 0, 0x0C, 0, 0, 0, 1, 0, 0x10, 0x10, 1, 0, 0, 0, 0, 0, 0, 0] =
      some (3, 18, { opcode := 1, flags := 0, index := 0x1010, sub := 1, offset := 0, data := [] }) ∧
    ydpDatagram Ydp.response 3 18
        (Resp.bytes { opcode := 0x81, flags := 1, index := 0x1010, sub := 1, code := 0, offset := 0, data := [7, 0, 0, 0] }) =
      [0x59, 0x44, 1, 2, 3, 0, 0, 0, 0x12, 0, 0, 0, 0x14, 0, 0, 0,
       0x81, 1, 0x10, 0x10, 1, 0, 4, 0, 0, 0, 0, 0, 0, 0, 0, 0, 7, 0, 0, 0] := by
  decide +kernel

end Sys2Proof.Tests
end

section
/-! PROOFS. Requests that write a number, ACK among them, and result objects: what a write of ACK decodes to, what
acknowledging a result does, and the command ACK (O10, R79). -/

namespace Sys2Proof.Machine

/-! ## Writes of a number -/

/-- The bytes of a number spell it, in their width (R6). -/
@[simp] theorem leNat_leBytes (n v : Nat) : leNat (leBytes n v) = v % 256 ^ n := by
  induction n generalizing v with
  | zero => simp [leBytes, leNat, Nat.mod_one]
  | succ n ih => simp [leBytes, leNat, ih, Nat.pow_succ', Nat.mod_mul]

/-- In a type of fixed size the bytes of a number decode to it. -/
theorem Ty.decode_leBytes {ty : Ty} (h : ty.size ≠ 0) (n v : Nat) : ty.decode (leBytes n v) = .num (v % 256 ^ n) := by
  rw [Ty.decode, if_neg h, leNat_leBytes]

@[simp] theorem Req.ofNumber_opcode (key size value : Nat) : (Req.ofNumber key size value).opcode = Op.write := rfl
@[simp] theorem Req.ofNumber_index (key size value : Nat) : (Req.ofNumber key size value).index = key / 256 := rfl
@[simp] theorem Req.ofNumber_sub (key size value : Nat) : (Req.ofNumber key size value).sub = key % 256 := rfl
@[simp] theorem Req.ofNumber_data (key size value : Nat) : (Req.ofNumber key size value).data = leBytes size value := rfl

theorem Req.ofNumber_normal {key : Nat} (h : key < 65536 * 256) (size value : Nat) :
    (Req.ofNumber key size value).normal = Req.ofNumber key size value := by
  have hi : key / 256 % 65536 = key / 256 := Nat.mod_eq_of_lt (by omega)
  simp [Req.normal, Req.ofNumber, Req.ofWrite, hi]

/-- A subindex other than 0 names its own object (R38). -/
theorem Req.at_of_sub_ne_zero {q : Req} (h : q.sub ≠ 0) : q.at_ = q.sub := if_neg h

/-- A WRITE that the module takes, and that does not move the YDP port, is applied and answered. -/
theorem State.takes.completes {i : Instr} {s : State} {src : Src} {q : Req} {P : State → Prop}
    (h : (s.advance i.dt).takes src q) (hi : i.request = some (src.normal, q))
    (hp : objKey q.index q.sub ≠ Obj.ydpYdpPort)
    (k : ∀ r, ((s.advance i.dt).heard src).acceptsWrite src ((s.advance i.dt).speaker src) q r →
      let a := ((s.advance i.dt).heard src).requestSeen.applyWrite src r q.key q.data
      ∀ t, Answered a.1 t src q (Answer.of a.2) → P t) : Completes i s P := by
  obtain ⟨hh, r, hr⟩ := h
  rw [State.hears_normal hh] at hi
  exact (request_served hi (State.hears_serves hh) (by simp [movesPort, hp]) (execute_write hr)).imp (k r hr)

/-! ## The objects that ACK names -/

/-- An index that a row holds is its base and a multiple of its stride. -/
theorem ObjRow.exists_of_hasIndex {r : ObjRow} {index : Nat} (h : r.hasIndex index = true) :
    ∃ k ∈ List.range r.count, index = r.base + r.stride * k := by
  simp only [ObjRow.hasIndex, Bool.and_eq_true, decide_eq_true_eq] at h
  obtain ⟨⟨hb, hm⟩, hc⟩ := h
  refine ⟨(index - r.base) / r.stride, List.mem_range.mpr hc, ?_⟩
  rw [Nat.mul_div_cancel' (Nat.dvd_of_mod_eq_zero hm)]
  omega

/-- Whether a row holds byte strings at the ACK of some result object. -/
def ObjRow.bytesAtAck (r : ObjRow) : Bool :=
  decide (r.ty.size = 0) && decide (r.lo ≤ 2) && decide (2 ≤ r.hi) &&
  (List.range r.count).any (fun k => isAck (objKey (r.base + r.stride * k) 2))

/-- No row of the object tables does: ACK is of a fixed size everywhere (R79). -/
theorem Catalog.rows_no_bytesAtAck : Catalog.rows.all (fun r => !r.bytesAtAck) = true := by decide +kernel

/-- The object that ACK names has a type of fixed size (R79). -/
theorem size_of_isAck {index : Nat} {r : ObjRow} (ha : isAck (objKey index 2) = true) (hr : objectRow index 2 = some r) :
    r.ty.size ≠ 0 := by
  intro hz
  have hf : Catalog.find index 2 = some r := hr
  have hcov := List.find?_some hf
  simp only [ObjRow.covers, Bool.and_eq_true] at hcov
  obtain ⟨⟨hidx, hlo⟩, hhi⟩ := hcov
  obtain ⟨k, hk, rfl⟩ := ObjRow.exists_of_hasIndex hidx
  have hno := List.all_eq_true.mp Catalog.rows_no_bytesAtAck r (List.mem_of_find?_eq_some hf)
  have hyes : r.bytesAtAck = true := by
    simp only [ObjRow.bytesAtAck, hz, hlo, hhi, decide_true, Bool.true_and]
    exact List.any_eq_true.mpr ⟨k, hk, ha⟩
  simp [hyes] at hno

theorem ne_response_of_isAck {key : Nat} (h : isAck key = true) : key ≠ Obj.accResponse := by
  rintro rfl
  exact absurd h (by decide)

/-! ## Result objects -/

/-- The result object found under a key is that key's. -/
@[simp] theorem State.result_key (s : State) (key : Nat) : (s.result key).key = key := by
  unfold State.result
  cases h : s.ctl.results.find? (fun r => r.key = key) with
  | none => rfl
  | some r => simpa using List.find?_some h

@[simp] theorem ResultObj.release_key (r : ResultObj) : r.release.key = r.key := by
  unfold ResultObj.release
  split <;> rfl

/-- After a release nothing is pending (R79). -/
theorem ResultObj.release_pending (r : ResultObj) : r.release.pending = none := by
  unfold ResultObj.release
  split
  · rfl
  · assumption

/-- A release presents the result that was pending, if any (R79). -/
theorem ResultObj.release_presented_seq (r : ResultObj) :
    r.release.presented.map (fun z => z.seq) = r.pending.map (fun z => z.seq) := by
  unfold ResultObj.release
  split
  · next h => rw [h]; rfl
  · next h => rw [h]

theorem State.result_congr {a b : State} (h : b.ctl.results = a.ctl.results) (key : Nat) : b.result key = a.result key := by
  rw [State.result, h, State.result]

@[simp] theorem State.result_putResult (s : State) (r : ResultObj) : (s.putResult r).result r.key = r := by
  simp [State.result]

/-- What an answer moves leaves the result objects alone. -/
theorem Answered.result {a t : State} {src : Src} {q : Req} {ans : Answer} (h : Answered a t src q ans) (key : Nat) :
    t.result key = a.result key :=
  State.result_congr (congrArg (fun s : State => s.ctl.results) h.same) key

/-- An interrupt to the host leaves the result objects alone. -/
@[simp] theorem State.result_event (s : State) (bit key : Nat) : (s.event bit).result key = s.result key :=
  State.result_congr (congrArg (fun s : State => s.ctl.results) (Settled.event s bit).same) key

/-- What an accepted request wakes leaves the result objects alone. -/
@[simp] theorem State.result_requestSeen (s : State) (key : Nat) : s.requestSeen.result key = s.result key :=
  State.result_congr (by rw [(Woken.requestSeen s).ctl]) key

/-! ## Acknowledging -/

/-- The presented result's SEQ releases it (R79). -/
theorem State.acknowledge_presented {s : State} {key n : Nat} {p : Result} (hp : (s.result (key - 1)).presented = some p)
    (hn : n = p.seq) : (s.acknowledge key n).2 = true ∧
      (s.acknowledge key n).1.result (key - 1) = (s.result (key - 1)).release := by
  have hput : (s.putResult (s.result (key - 1)).release).result (key - 1) = (s.result (key - 1)).release := by
    simpa using s.result_putResult (s.result (key - 1)).release
  simp only [State.acknowledge, hp, hn, if_true, true_and]
  split
  · rw [State.result_event, hput]
  · exact hput

/-- Any other SEQ changes nothing (R79). -/
theorem State.acknowledge_other {s : State} {key n : Nat} (h : ∀ p, (s.result (key - 1)).presented = some p → n ≠ p.seq) :
    s.acknowledge key n = (s, false) := by
  cases hp : (s.result (key - 1)).presented with
  | none => simp only [State.acknowledge, hp]
  | some p => simp only [State.acknowledge, hp, if_neg (Ne.symm (h p hp))]

/-- A write of ACK acknowledges its number, and answers whether it named the presented result (R79). -/
theorem State.applyWrite_ack {s : State} {src : Src} {r : ObjRow} {key n : Nat} {raw : Bytes} (h : isAck key = true)
    (hv : r.ty.decode raw = .num n) : s.applyWrite src r key raw =
      ((s.acknowledge key n).1, if (s.acknowledge key n).2 then Code.ok else Code.seqMismatch) := by
  simp only [State.applyWrite, if_neg (ne_response_of_isAck h), if_pos h, hv, Val.toNat]

/-! ## The command ACK -/

/-- The command ACK is its request, which is in its normal form. -/
theorem ack_request (dt : Nat) (src : Src) (index seq : Nat) :
    (Instr.ack dt src index seq).request = some (src.normal, Req.ofNumber (objKey (index % 65536) 2) 4 seq) := by
  rw [← Req.ofNumber_normal (key := objKey (index % 65536) 2) (by simp only [objKey]; omega)]
  rfl

/-- The command ACK names subindex 2 of its index (R79). -/
theorem ack_object (index seq : Nat) :
    (Req.ofNumber (objKey (index % 65536) 2) 4 seq).index = index % 65536 ∧
    (Req.ofNumber (objKey (index % 65536) 2) 4 seq).sub = 2 ∧ (Req.ofNumber (objKey (index % 65536) 2) 4 seq).at_ = 2 := by
  have hi : (Req.ofNumber (objKey (index % 65536) 2) 4 seq).index = index % 65536 := by
    simp only [Req.ofNumber_index, objKey]
    omega
  have hs : (Req.ofNumber (objKey (index % 65536) 2) 4 seq).sub = 2 := by simp [objKey]
  exact ⟨hi, hs, (Req.at_of_sub_ne_zero (by rw [hs]; decide)).trans hs⟩

/-- The command ACK, taken, completes in the acknowledgement of its SEQ, answered (R79). -/
theorem ack_completes {dt : Nat} {src : Src} {index seq : Nat} {s : State} {q : Req}
    (hq : q = Req.ofNumber (objKey (index % 65536) 2) 4 seq) (h : (s.advance dt).takes src q) (ha : isAck q.key = true) :
    let a := ((s.advance dt).heard src).requestSeen.acknowledge q.key (seq % wrap32)
    Completes (.ack dt src index seq) s (fun t => Answered a.1 t src q
      (Answer.of (if a.2 then Code.ok else Code.seqMismatch))) := by
  obtain ⟨-, hs, hat⟩ := hq ▸ ack_object index seq
  have hkey : q.key = objKey q.index 2 := by rw [Req.key, hat]
  have hport : objKey q.index q.sub ≠ Obj.ydpYdpPort := by
    rw [hs]
    simp only [objKey, Obj.ydpYdpPort]
    omega
  refine State.takes.completes (i := .ack dt src index seq) h (hq ▸ ack_request dt src index seq) hport (fun r hr t ht => ?_)
  have hsize : r.ty.size ≠ 0 := size_of_isAck (hkey ▸ ha) (hat ▸ hr.names.row)
  have hnum : r.ty.decode q.data = .num (seq % wrap32) := by
    rw [hq]
    exact Ty.decode_leBytes hsize 4 seq
  rwa [State.applyWrite_ack ha hnum] at ht

/-- Settles O10: the write acknowledges its SEQ once the request has been seen, and neither that nor what answers and
settles touches a result object. -/
theorem ackReleasesTheResult : Obligations.AckReleasesTheResult := by
  intro dt src index seq s u q w slot htakes hack
  have hdone := ack_completes (q := q) rfl htakes hack
  have hslot : w.requestSeen.result (q.key - 1) = slot := State.result_requestSeen w _
  refine ⟨fun p hp hn => hdone.imp (fun t ht => ?_), fun hother => hdone.imp (fun t ht => ?_)⟩
  · obtain ⟨hok, hreleased⟩ := State.acknowledge_presented (hslot ▸ hp) hn
    rw [hok] at ht
    exact ⟨(ht.result _).trans (hreleased.trans (congrArg _ hslot)), slot.release_pending, slot.release_presented_seq,
      ht.answer⟩
  · rwa [State.acknowledge_other (hslot ▸ hother)] at ht

end Sys2Proof.Machine
end

section
/-! PROOFS. Encoder channels: which accepted samples count, and in which direction (R163, R164); what a count edge does
to its channel, absorbed or counted (R163, R165). -/

namespace Sys2Proof.Machine

/-! ## The quadrature step -/

section Quadrature

variable {a b a' b' : Bool} {p : Nat} {f : Bool}

/-- What a sample is, over all pairs of levels (R163, R164). It counts where exactly one level changes, and forward where
the new A differs from the old B: this is "A leads" for a change of either level. POLARITY other than 0 turns it round. -/
theorem edgeKind_table (a b a' b' : Bool) (p : Nat) :
    (edgeKind a b a' b' p = .noChange ↔ a' = a ∧ b' = b) ∧ (edgeKind a b a' b' p = .illegal ↔ a' ≠ a ∧ b' ≠ b) ∧
    ∀ f, edgeKind a b a' b' p = .count f ↔ (a' = a ↔ b' ≠ b) ∧ f = (a' ^^ b ^^ decide (p ≠ 0)) := by
  simp only [edgeKind, ne_eq, decide_not]
  generalize decide (p = 0) = straight
  revert a b a' b' straight
  decide

theorem edgeKind_noChange_iff : edgeKind a b a' b' p = .noChange ↔ a' = a ∧ b' = b :=
  (edgeKind_table a b a' b' p).1

theorem edgeKind_illegal_iff : edgeKind a b a' b' p = .illegal ↔ a' ≠ a ∧ b' ≠ b :=
  (edgeKind_table a b a' b' p).2.1

theorem edgeKind_count_iff : edgeKind a b a' b' p = .count f ↔
    (a' = a ↔ b' ≠ b) ∧ f = (a' ^^ b ^^ decide (p ≠ 0)) :=
  (edgeKind_table a b a' b' p).2.2 f

/-- The way back counts in the other direction (R163). -/
theorem edgeKind_count_reverse (h : edgeKind a b a' b' p = .count f) : edgeKind a' b' a b p = .count (!f) := by
  obtain ⟨hone, rfl⟩ := edgeKind_count_iff.mp h
  have hleads : (a ^^ b') = !(a' ^^ b) := by
    clear h
    decide +revert
  refine edgeKind_count_iff.mpr ⟨by rw [eq_comm, ne_comm, hone], ?_⟩
  rw [hleads, Bool.not_xor]

/-- The other POLARITY counts in the other direction (R163). -/
theorem edgeKind_count_polarity (hp : p < 2) (h : edgeKind a b a' b' p = .count f) :
    edgeKind a b a' b' (1 - p) = .count (!f) := by
  obtain ⟨hone, rfl⟩ := edgeKind_count_iff.mp h
  have hturned : decide (1 - p ≠ 0) = !decide (p ≠ 0) := by
    rw [← decide_not]
    exact decide_eq_decide.mpr (by omega)
  refine edgeKind_count_iff.mpr ⟨hone, ?_⟩
  rw [hturned, Bool.xor_not]

end Quadrature

/-! ## Count edges -/

namespace Encoder

variable {x : Encoder} {forward : Bool} {now : Nat}

/-- The first edge against the direction is absorbed: nothing of the channel changes but that (R165). -/
theorem edge_absorbs (hdir : forward ≠ x.forward) (hfirst : x.absorbed = false) (hcounted : x.run ≠ 0 ∨ x.lastEdge ≠ 0) :
    x.edge forward now = ({ x with absorbed := true }, 0) :=
  if_pos ⟨hdir, by rw [hfirst]; rfl, hcounted⟩

/-- An edge in the direction, or after an absorbed one, is not absorbed. -/
theorem not_absorbs (h : forward = x.forward ∨ x.absorbed = true) :
    ¬ (forward ≠ x.forward ∧ !x.absorbed ∧ (x.run ≠ 0 ∨ x.lastEdge ≠ 0)) := by
  rintro ⟨hdir, hfirst, -⟩
  rcases h with hsame | hsecond
  · exact hdir hsame
  · rw [hsecond] at hfirst
    exact absurd hfirst (by decide)

/-- An edge that is not absorbed sets the direction and moves POSITION by one modulo 2^32 (R163, R165). -/
theorem edge_counts (h : forward = x.forward ∨ x.absorbed = true) :
    (x.edge forward now).1.forward = forward ∧
    (x.edge forward now).1.position = (x.position + (if forward then 1 else wrap32 - 1)) % wrap32 := by
  rw [edge, if_neg (not_absorbs h)]
  exact ⟨rfl, Nat.mod_mod _ _⟩

/-- The second edge against the direction starts REVERSING, STATE 4, on a channel that has counted (R165, R166). -/
theorem edge_reversing (hdir : forward ≠ x.forward) (hsecond : x.absorbed = true) (hcounted : x.run ≠ 0 ∨ x.lastEdge ≠ 0) :
    (x.edge forward now).1.state = 4 := by
  have hrun : ¬ (x.state = 1 ∧ x.run = 0 ∧ x.lastEdge = 0) := by omega
  have hturned : decide (forward ≠ x.forward) = true := decide_eq_true hdir
  rw [edge, if_neg (not_absorbs (.inr hsecond))]
  simp only [hturned, if_true]
  exact if_neg hrun

end Encoder

/-- Settles O40: the quadrature table from its count condition, the reversal from an absorbed edge and the counting one
after it. -/
theorem quadratureAbsorbsAReversal : Obligations.QuadratureAbsorbsAReversal := by
  refine ⟨fun a b a' b' p hp => ⟨edgeKind_noChange_iff, edgeKind_illegal_iff, fun f h =>
    ⟨edgeKind_count_reverse h, edgeKind_count_polarity hp h⟩⟩, by decide, fun x now hcounted => ?_⟩
  refine ⟨(Encoder.edge_counts (.inl rfl)).2, fun hfirst => ?_⟩
  have hdir : (!x.forward) ≠ x.forward := Bool.not_not_eq.mpr rfl
  rw [Encoder.edge_absorbs hdir hfirst hcounted]
  obtain ⟨hforward, hposition⟩ := Encoder.edge_counts (x := { x with absorbed := true }) (now := now)
    (forward := !x.forward) (.inr rfl)
  refine ⟨rfl, rfl, rfl, rfl, hforward, Encoder.edge_reversing hdir rfl hcounted, ?_⟩
  rw [hposition]
  cases x.forward <;> rfl

end Sys2Proof.Machine
end

section
/-! PROOFS. Touch channels: the runs toward on and off and the baseline of a scan without a water film (R528, R529), the scan
of a single enabled channel (R530), a channel that is stuck (R531). -/

namespace Sys2Proof.Machine

/-! ## A scan of a channel -/

namespace Touch

section Dry

variable {x : Touch} {now raw thr sh : Nat} (hx : x.seeded = true)
include hx

/-- A channel that is off turns on with the third scan in a row at THRESHOLD or more (R529). -/
theorem scan_on_of_off (hoff : x.on = false) :
    (x.scan now raw thr sh false).1.on = decide ((thr : Int) ≤ x.delta raw ∧ 2 ≤ x.above) := by
  simp only [scan, hx, hoff, Bool.not_true, Bool.false_eq_true, if_false, Bool.not_false, Bool.false_or, Bool.true_and,
    Bool.false_and, Bool.and_true]
  rw [decide_eq_decide]
  split <;> omega

/-- A channel that is on stays on until the third scan in a row below half of THRESHOLD (R529). -/
theorem scan_on_of_on (hon : x.on = true) :
    (x.scan now raw thr sh false).1.on = decide (2 * x.delta raw < thr → x.below < 2) := by
  simp only [scan, hx, hon, Bool.not_true, Bool.false_eq_true, if_false, Bool.not_false, Bool.true_or, Bool.true_and,
    Bool.and_true]
  rw [← decide_not, decide_eq_decide]
  split <;> omega

/-- A scan below THRESHOLD starts the run toward on anew (R529). -/
theorem scan_above_of_lt (hd : x.delta raw < thr) : (x.scan now raw thr sh false).1.above = 0 := by
  simp only [scan, hx, Bool.not_true, Bool.false_eq_true, if_false, if_neg (Int.not_le.mpr hd)]
  exact ite_self 0

/-- The baseline follows RAW as R528 has it, held while the channel is on. -/
theorem scan_base : (x.scan now raw thr sh false).1.base = x.follow raw thr sh (x.scan now raw thr sh false).1.on := by
  simp only [scan, hx, Bool.not_true, Bool.false_eq_true, if_false, Bool.or_false]

end Dry

/-- The baseline of a channel that is not on moves toward RAW where the electrode reads above it (R528). -/
theorem follow_of_reached {x : Touch} {raw thr : Nat} (sh : Nat) (hpos : 0 < thr) (hd : (thr : Int) ≤ x.delta raw) :
    x.follow raw thr sh false = ((x.base : Int) + asr ((raw * 256 : Nat) - (x.base : Int)) sh).toNat := by
  have habove : ¬ x.delta raw ≤ -(thr : Int) := by omega
  rw [follow, if_neg habove]
  exact if_neg Bool.false_ne_true

end Touch

/-! ## The channels of a state -/

namespace State

/-- A channel that is set holds what it is set to. -/
theorem touch_of_setAt_same {a b : State} {c : Nat} {x : Touch} (h : b.pins.touch = setAt a.pins.touch c x)
    (hc : c < a.pins.touch.length) : b.touch c = x := by
  rw [touch, h, setAt, List.getD_eq_getElem?_getD, List.getElem?_set_self hc, Option.getD_some]

/-- The other channels stay. -/
theorem touch_of_setAt_other {a b : State} {c d : Nat} {x : Touch} (h : b.pins.touch = setAt a.pins.touch c x)
    (hd : d ≠ c) : b.touch d = a.touch d := by
  rw [touch, h, setAt, List.getD_eq_getElem?_getD, List.getElem?_set_ne hd.symm, ← List.getD_eq_getElem?_getD, touch]

@[simp] theorem pins_raise (s : State) (east : Bool) (source data : Nat) : (s.raise east source data).pins = s.pins := by
  unfold raise raiseAt
  split <;> rfl

end State

theorem Woken.ite {p : Prop} [Decidable p] {s a b : State} (ha : Woken s a) (hb : Woken s b) :
    Woken s (if p then a else b) := by
  split <;> assumption

/-- A wake source that is taken moves what an accepted request moves, whatever the power state (R482, R527). -/
theorem Woken.wake (s : State) (cause : WakeCause) : Woken s (s.wake cause) := by
  unfold State.wake
  refine ite (ite (refl s) ?_) (ite (refl s) (leaveDoze s cause))
  split
  · exact (modPower s _).trans (lastWake _ _)
  · exact ite (lastWake s _) (refl s)

theorem Woken.panelWake (s : State) (cause : WakeCause) : Woken s (s.panelWake cause) :=
  ite (wake s cause) (refl s)

/-! ## What the settling leaves of them -/

theorem Settled.pins_touch {a t : State} (h : Settled a t) : t.pins.touch = a.pins.touch := by
  have e := congrArg (fun s : State => s.pins.touch) h.same
  exact e

theorem Settled.dfltOf {a t : State} (h : Settled a t) (key : Nat) : t.dfltOf key = a.dfltOf key := by
  have e := congrArg (fun s : State => s.dfltOf key) h.same
  exact e

/-- An object that is not the settling's own keeps its number. -/
theorem Settled.num {a t : State} (h : Settled a t) {key : Nat} (hk : ownStatus key = false) : t.num key = a.num key := by
  simp only [State.num, State.val, State.valIn, h.get key hk, h.dfltOf key]

/-! ## TOUCH_SCAN of a single enabled channel -/

/-- One channel alone is no water film where WATER_CHANNELS asks for more; its scan moves it alone (R528, R530). -/
theorem State.touchScan_single {s : State} {c : Nat} (raw : List Nat) (hop : s.ctl.mode.operating = true)
    (hlive : s.touchEnabled = [c]) (hwater : 1 < s.num Obj.tchWaterChannels) :
    (s.touchScan raw).pins.touch = setAt s.pins.touch c
      ((s.touch c).scan s.clk (natAt raw c) (s.num (Obj.tchcThreshold c)) (s.num Obj.tchBaseShift) false).1 := by
  have hdry : ∀ p : Nat → Bool, ¬ s.num Obj.tchWaterChannels ≤ ([c].filter p).length := fun p =>
    Nat.not_le.mpr (Nat.lt_of_le_of_lt (List.length_filter_le p [c]) hwater)
  simp only [touchScan, hop, hlive, decide_eq_false (hdry _), Bool.not_true, Bool.false_eq_true, false_and, if_false,
    List.foldl_cons, List.foldl_nil]
  split
  · rw [(Woken.panelWake _ _).pins, pins_raise]
    rfl
  · rfl

/-! ## A channel that is stuck -/

/-- STUCK_COUNT is none of the settling's own objects (R539). -/
theorem ownStatus_tchcStuckCount {c : Nat} (hc : c < 4) : ownStatus (Obj.tchcStuckCount c) = false := by
  decide +revert

theorem tchFlags_ne_tchcStuckCount (c : Nat) : Obj.tchFlags ≠ Obj.tchcStuckCount c := by
  unfold Obj.tchFlags Obj.tchcStuckCount objKey
  omega

/-- Flags that are set read as set. -/
theorem State.bitOf_orFlags {s : State} {key bits k : Nat} (h : bitOf bits k = true) :
    bitOf ((s.orFlags key bits).num key) k = true := by
  rw [orFlags, num_putNum_same, bitOf, Nat.testBit_or, show bits.testBit k = true from h, Bool.or_true]

/-- What is stuck for TOUCH_MAX is turned off, reseeded from RAW and counted (R531). -/
theorem State.touchStuck_of_due {s : State} {c : Nat} (hop : s.ctl.mode.operating = true) (hon : (s.touch c).on = true)
    (hdue : (s.touch c).onSince + s.num Obj.tchTouchMax * 1000000000 ≤ s.clk) :
    s.touchStuck c = ((s.modPins (fun p => { p with
      touch := setAt p.touch c { s.touch c with on := false, base := (s.touch c).raw * 256, above := 0, below := 0 } })).orFlags
        Obj.tchFlags 2).bump (Obj.tchcStuckCount c) :=
  if_pos ⟨hop, hon, hdue⟩

/-! ## The commands -/

section Commands

variable {dt c : Nat} {s u : State} (hu : s.advance dt = u) (hop : u.ctl.mode.operating = true) (hc : c < 4)
  (hin : c < u.pins.touch.length)
include hu hop hc hin

/-- TOUCH_SCAN completes in the scan of the one channel that is enabled. -/
theorem touchScan_completes (raw : Nat) (hlive : u.touchEnabled = [c]) (hwater : 1 < u.num Obj.tchWaterChannels) :
    Completes (.touchScan dt (List.replicate 4 raw)) s (fun t =>
      t.touch c = ((u.touch c).scan u.clk raw (u.num (Obj.tchcThreshold c)) (u.num Obj.tchBaseShift) false).1 ∧
      ∀ d, d ≠ c → t.touch d = u.touch d) := by
  subst hu
  have hraw : natAt (List.replicate 4 raw) c = raw := by
    rw [natAt, List.getD_eq_getElem?_getD, List.getElem?_replicate, if_pos hc, Option.getD_some]
  refine State.run_completes (exec_touchScan s dt _) rfl (fun t ht _ _ => ?_)
  have hput := ht.pins_touch.trans (State.touchScan_single _ hop hlive hwater)
  rw [hraw] at hput
  exact ⟨State.touch_of_setAt_same hput hin, fun d hd => State.touch_of_setAt_other hput hd⟩

/-- TOUCH_STUCK completes in its effect, settled; the objects and the channel read as R531 has them. -/
theorem touchStuck_completes (hon : (u.touch c).on = true)
    (hdue : (u.touch c).onSince + u.num Obj.tchTouchMax * 1000000000 ≤ u.clk) :
    Completes (.touchStuck dt c) s (fun t =>
      Settled (u.touchStuck c) t ∧ (t.touch c).on = false ∧ (t.touch c).base = (u.touch c).raw * 256 ∧
      bitOf (t.num Obj.tchFlags) 1 = true ∧
      t.num (Obj.tchcStuckCount c) = satAdd 32 (u.num (Obj.tchcStuckCount c)) 1) := by
  refine State.run_completes (exec_touchStuck s dt c) (decide_eq_true hc) (fun t ht _ _ => ?_)
  rw [hu] at ht
  refine ⟨ht, ?_⟩
  rw [State.touchStuck_of_due hop hon hdue] at ht
  have hput := State.touch_of_setAt_same (a := u) ht.pins_touch hin
  refine ⟨by rw [hput], by rw [hput], ?_, ?_⟩
  · rw [ht.num (by decide), State.num_bump_other _ (tchFlags_ne_tchcStuckCount c)]
    exact State.bitOf_orFlags (by decide)
  · rw [ht.num (ownStatus_tchcStuckCount hc), State.num_bump_same, State.orFlags,
      State.num_putNum_other _ _ (tchFlags_ne_tchcStuckCount c).symm]
    rfl

end Commands

/-- Settles O56: the scan's run toward on or off and its baseline, then the two commands in their effects, settled. -/
theorem touchChannelsTakeThreeScans : Obligations.TouchChannelsTakeThreeScans := by
  refine ⟨fun x now raw thr sh hx hpos => ⟨fun hoff hd => ?_, fun hoff hd => ?_, fun hon hd => ?_⟩, ?_⟩
  · have hturns : (x.scan now raw thr sh false).1.on = decide (2 ≤ x.above) :=
      (Touch.scan_on_of_off hx hoff).trans (decide_eq_decide.mpr (and_iff_right hd))
    refine ⟨hturns, fun hfew => ?_⟩
    rw [Touch.scan_base hx, hturns, decide_eq_false (Nat.not_le.mpr hfew)]
    exact Touch.follow_of_reached sh hpos hd
  · have hshort : ¬ ((thr : Int) ≤ x.delta raw ∧ 2 ≤ x.above) := fun h => Int.not_le.mpr hd h.1
    exact ⟨Touch.scan_above_of_lt hx hd, (Touch.scan_on_of_off hx hoff).trans (decide_eq_false hshort)⟩
  · exact (Touch.scan_on_of_on hx hon).trans (decide_eq_decide.mpr (forall_prop_of_true hd))
  · intro dt c raw s u hop hc hin
    have hu : s.advance dt = u := rfl
    clear_value u
    refine ⟨touchScan_completes hu hop hc hin raw, fun hon hdue => ?_⟩
    have hstuck := touchStuck_completes hu hop hc hin hon hdue
    rwa [State.touchStuck_of_due hop hon hdue] at hstuck

end Sys2Proof.Machine
end

section
/-! PROOFS. What every step leaves: its command's effect, settled; and what the frames and packets that leave at its end
leave alone. With them the queue, the clock and the reset state (O1, O2, O3). -/

namespace Sys2Proof.Machine

/-! ## Lists: what the core library does not state -/

theorem getD_of_lt {α : Type} (l : List α) (d : α) {n : Nat} (h : n < l.length) : l.getD n d = l[n] := by
  rw [List.getD_eq_getElem?_getD, List.getElem?_eq_getElem h, Option.getD_some]

theorem getD_of_length_le {α : Type} (l : List α) (d : α) {n : Nat} (h : l.length ≤ n) : l.getD n d = d := by
  rw [List.getD_eq_getElem?_getD, List.getElem?_eq_none h, Option.getD_none]

theorem set_eq_modify {α : Type} (l : List α) (n : Nat) (a : α) : l.set n a = l.modify n (fun _ => a) := by
  refine List.ext_getElem (by rw [List.length_set, List.length_modify]) (fun i _ _ => ?_)
  rw [List.getElem_set, List.getElem_modify]

/-- A search that tests the same on every member finds the same. -/
theorem find?_of_same {α : Type} {p q : α → Bool} {l : List α} (h : ∀ x ∈ l, p x = q x) : l.find? p = l.find? q := by
  induction l with
  | nil => rfl
  | cons x xs ih =>
    rw [List.find?_cons, List.find?_cons, h x List.mem_cons_self, ih (fun y hy => h y (List.mem_cons_of_mem x hy))]

/-- A fold whose every step does nothing does nothing. -/
theorem foldl_of_still {α β : Type} {f : β → α → β} {b : β} (h : ∀ x, f b x = b) (l : List α) : l.foldl f b = b := by
  induction l with
  | nil => rfl
  | cons x xs ih => rw [List.foldl_cons, h x, ih]

/-! ## A step -/

/-- Settles O1. -/
theorem stepRunsTheFront : Obligations.StepRunsTheFront := by
  intro c rest s h
  rw [step, h]

/-- On an empty queue a step idles. -/
theorem step_idle {s : State} (h : s.pending = []) : step s = .next s := by
  rw [step, h]

/-- Settles O2: every command runs by `State.run`, which restores the queue and lets the command's own time pass. -/
theorem queueAndTime : Obligations.QueueAndTime := by
  refine ⟨fun s h => step_idle h, fun c rest s t h ht => ?_⟩
  rw [stepRunsTheFront c rest s h] at ht
  obtain ⟨admits, effect, hrun⟩ := exec_run { s with pending := rest } c
  exact State.run_timed (hrun ▸ ht)

/-- What a command leaves is settled. -/
theorem State.run_settles {s t : State} {dt : Nat} {admits : State → Bool} {effect : State → State}
    (h : s.run dt admits effect = .next t) : ∃ a, t = State.settle a (s.advance dt) := by
  rw [State.run_next] at h
  generalize hz : ({ (if admits (s.advance dt) = true then effect (s.advance dt) else s.advance dt) with
    clk := s.clk + dt, pending := s.pending } : State) = z at h
  exact ⟨z, (next_inj h).symm⟩

/-- A step idles, or leaves some state settled. -/
theorem step_settles {s t : State} (h : step s = .next t) : t = s ∨ ∃ a before : State, t = a.settle before := by
  cases hp : s.pending with
  | nil => exact .inl (next_inj (h.symm.trans (step_idle hp)))
  | cons c rest =>
    rw [stepRunsTheFront c rest s hp] at h
    obtain ⟨admits, effect, hrun⟩ := exec_run { s with pending := rest } c
    obtain ⟨a, ha⟩ := State.run_settles (hrun ▸ h)
    exact .inr ⟨a, _, ha⟩

/-- What holds of every settled state every step keeps. -/
theorem step_keeps {P : State → Prop} (settled : ∀ a before : State, P (a.settle before)) {s t : State} (hs : P s)
    (h : step s = .next t) : P t := by
  rcases step_settles h with ht | ⟨a, before, ht⟩
  · exact ht ▸ hs
  · exact ht ▸ settled a before

/-- At reset no value is listed, so every object reads its default (R47). -/
theorem State.val_reset (key : Nat) : State.reset.val key = State.reset.dfltOf key := by
  rw [State.val, State.valIn, show Kv.get? State.reset.dict.inForce key = none from rfl, Option.getD_none]

/-- At reset every store is empty. -/
theorem State.storesCanonical_reset : State.reset.storesCanonical := by
  have hbanks : View.reset.banks.all (fun b => b.table.wf) = true := rfl
  refine ⟨rfl, rfl, rfl, fun t ht => ?_, fun w hw b hb => ?_⟩
  · cases ht
  · rw [show w = View.reset from List.eq_of_mem_replicate (n := 4) hw] at hb
    exact List.all_eq_true.mp hbanks b hb

/-- Settles O3. -/
theorem resetLeavesDefaults : Obligations.ResetLeavesDefaults :=
  ⟨rfl, rfl, rfl, State.val_reset, rfl, rfl, State.storesCanonical_reset⟩

/-- BOOT is no operating mode (R81). -/
theorem State.not_operating_reset : State.reset.ctl.mode.operating ≠ true := by decide

/-- Settles O60: in BOOT every lamp is off, and neither views nor the guarantee are reviewed. -/
theorem invariantsHoldAtReset : Obligations.InvariantsHoldAtReset := by
  refine ⟨fun _ n hn => ?_, fun h => absurd h State.not_operating_reset, fun h => absurd h State.not_operating_reset⟩
  have hwants : State.reset.lampWants n = false := by
    unfold State.lampWants
    exact if_pos (.inl rfl)
  have hlamps : State.reset.pins.lampOn = List.replicate 4 false := rfl
  rw [hwants, hlamps, List.getD_eq_getElem?_getD, List.getElem?_replicate, if_pos hn, Option.getD_some]

end Sys2Proof.Machine
end

section
/-! PROOFS. What alerts move and what leaves at the end of a command leave alone, and with them the invariants of the panel
lamps, of the views' DEGRADED and of the guarantee's conditions (O57, O58). -/

namespace Sys2Proof.Machine

/-! ## What an alert moves -/

/-- All that an interrupt, a notification, a counter or an alert moves: the dictionary, the sessions, what waits on Ethernet,
what leaves, and the fabric's events (R59, R68, R507). -/
structure Noted (a b : State) : Prop where
  rest : ({ b with out := a.out, ctl := a.ctl, dict := a.dict, eths := a.eths, fabric := a.fabric } : State) = a

namespace Noted

theorem refl (a : State) : Noted a a := ⟨rfl⟩

theorem trans {a b c : State} (h : Noted a b) (k : Noted b c) : Noted a c := by
  refine ⟨?_⟩
  have e := congrArg (fun s : State =>
    ({ s with out := a.out, ctl := a.ctl, dict := a.dict, eths := a.eths, fabric := a.fabric } : State)) k.rest
  exact e.trans h.rest

theorem ite {p : Prop} [Decidable p] {s a b : State} (ha : Noted s a) (hb : Noted s b) : Noted s (if p then a else b) := by
  split <;> assumption

theorem fold {α : Type} {f : State → α → State} (h : ∀ s x, Noted s (f s x)) (l : List α) (s : State) :
    Noted s (l.foldl f s) := by
  induction l generalizing s with
  | nil => exact refl s
  | cons x r ih => exact (h s x).trans (ih (f s x))

theorem putVal (s : State) (key : Nat) (v : Val) : Noted s (s.putVal key v) := ⟨rfl⟩
theorem putNum (s : State) (key n : Nat) : Noted s (s.putNum key n) := ⟨rfl⟩
theorem bump (s : State) (key : Nat) : Noted s (s.bump key) := ⟨rfl⟩
theorem orFlags (s : State) (key bits : Nat) : Noted s (s.orFlags key bits) := ⟨rfl⟩
theorem emit (s : State) (e : Emission) : Noted s (s.emit e) := ⟨rfl⟩
theorem modEth (s : State) (p : Nat) (f : Eth → Eth) : Noted s (s.modEth p f) := ⟨rfl⟩
theorem bumpIf (s : State) (c : Bool) (key : Nat) : Noted s (s.bumpIf c key) := ite (bump s key) (refl s)
theorem send (s : State) (p a b c : Nat) (m : Emission) : Noted s (s.send p a b c m) := ite (modEth s p _) (refl s)
theorem tx (s : State) (p : Nat) (m : Emission) : Noted s (s.tx p m) := send s _ _ _ _ _
theorem raise (s : State) (east : Bool) (source data : Nat) : Noted s (s.raise east source data) := ite ⟨rfl⟩ (refl s)

theorem event (s : State) (bit : Nat) : Noted s (s.event bit) := by
  unfold State.event State.notify
  have hibi : Noted s (s.ibi bit) := ite ⟨rfl⟩ (refl s)
  refine hibi.trans (trans (b := { s.ibi bit with
    ctl := { (s.ibi bit).ctl with sessions := (s.ibi bit).ctl.sessions.map (Session.notified_ bit) } }) ⟨rfl⟩ ?_)
  exact fold (fun a x => fold (fun c _ => send c _ _ _ _ _) _ a) _ _

theorem alertPinFrom (s : State) (b : Bool) : Noted s (s.alertPinFrom b) := ite (refl s) (emit s _)

theorem alert (s : State) (bit : Nat) : Noted s (s.alert bit) :=
  ite (refl s) (((((orFlags s _ _).trans (bump _ _)).trans (event _ _)).trans (alertPinFrom _ _)).trans (raise _ _ _ _))

theorem lapse (s : State) (bit : Nat) : Noted s (s.lapse bit) :=
  (((putNum s _ _).trans (orFlags _ _ _)).trans (bump _ _)).trans (alert _ _)

theorem reviewCapacity (s before : State) : Noted s (s.reviewCapacity before) :=
  ite ((orFlags s _ _).trans (alert _ _)) (refl s)

variable {a b : State} (h : Noted a b)
include h

theorem clk : b.clk = a.clk := (congrArg State.clk h.rest :)
theorem views : b.views = a.views := (congrArg State.views h.rest :)
theorem lanes : b.lanes = a.lanes := (congrArg State.lanes h.rest :)
theorem power : b.power = a.power := (congrArg State.power h.rest :)
theorem pins : b.pins = a.pins := (congrArg State.pins h.rest :)

end Noted

theorem objKey_sub (index sub : Nat) : objKey index sub % 256 = sub % 256 := Nat.mul_add_mod_self_right index 256 sub

/-! ## What leaves -/

/-- All that packets and frames that leave move: what leaves, the counts of the lanes and ports they leave on, and
FRAMES_TX (R146, R460). -/
structure Sent (a b : State) : Prop where
  rest : ({ b with out := a.out, lanes := a.lanes, eths := a.eths, dict := a.dict } : State) = a
  dict : ({ b.dict with inForce := a.dict.inForce } : Dict) = a.dict
  get : ∀ key, key ≠ Obj.ethFramesTx 0 → key ≠ Obj.ethFramesTx 1 → Kv.get? b.dict.inForce key = Kv.get? a.dict.inForce key
  lanes : b.lanes.map Lane.unsettled = a.lanes.map Lane.unsettled

namespace Sent

theorem refl (a : State) : Sent a a := ⟨rfl, rfl, fun _ _ _ => rfl, rfl⟩

theorem trans {a b c : State} (h : Sent a b) (k : Sent b c) : Sent a c := by
  refine ⟨?_, ?_, fun key h0 h1 => (k.get key h0 h1).trans (h.get key h0 h1), k.lanes.trans h.lanes⟩
  · have e := congrArg (fun s : State =>
      ({ s with out := a.out, lanes := a.lanes, eths := a.eths, dict := a.dict } : State)) k.rest
    exact e.trans h.rest
  · have e := congrArg (fun d : Dict => ({ d with inForce := a.dict.inForce } : Dict)) k.dict
    exact e.trans h.dict

theorem ite {p : Prop} [Decidable p] {s a b : State} (ha : Sent s a) (hb : Sent s b) : Sent s (if p then a else b) := by
  split <;> assumption

theorem fold {α : Type} {f : State → α → State} (h : ∀ s x, Sent s (f s x)) (l : List α) (s : State) :
    Sent s (l.foldl f s) := by
  induction l generalizing s with
  | nil => exact refl s
  | cons x r ih => exact (h s x).trans (ih (f s x))

theorem emit (s : State) (e : Emission) : Sent s (s.emit e) := ⟨rfl, rfl, fun _ _ _ => rfl, rfl⟩
theorem modEth (s : State) (p : Nat) (f : Eth → Eth) : Sent s (s.modEth p f) := ⟨rfl, rfl, fun _ _ _ => rfl, rfl⟩
theorem tx (s : State) (p : Nat) (m : Emission) : Sent s (s.tx p m) := ite (modEth s _ _) (refl s)

theorem modLane (s : State) (n : Nat) (f : Lane → Lane) (h : ∀ x, (f x).unsettled = x.unsettled) : Sent s (s.modLane n f) :=
  ⟨rfl, rfl, fun _ _ _ => rfl, map_modify Lane.unsettled h _ _⟩

theorem bumpFrames (s : State) {p : Nat} (hp : p < 2) : Sent s (s.bump (Obj.ethFramesTx p)) := by
  refine ⟨rfl, rfl, fun key h0 h1 => Kv.get?_put_other _ _ ?_, rfl⟩
  rcases (by omega : p = 0 ∨ p = 1) with rfl | rfl
  · exact h0
  · exact h1

theorem linkDrainN (s : State) (n k : Nat) : Sent s (s.linkDrainN n k) := by
  induction k generalizing s with
  | zero => exact refl s
  | succ k ih =>
    unfold State.linkDrainN
    refine ite (refl s) ?_
    split
    · exact refl s
    · exact Sent.trans ((modLane s n _ (by intro _; rfl)).trans (emit _ _)) (ih _)

theorem linkDrain (s : State) (n : Nat) : Sent s (s.linkDrain n) :=
  ite (linkDrainN s n _) (ite (refl s) (modLane s _ _ (fun _ => rfl)))

theorem ptpLeaves (s : State) (p kind : Nat) (time : Option Int) (c stamp : Int) (head : PtpHead) :
    Sent s (s.ptpLeaves p kind time c stamp head) := by
  unfold State.ptpLeaves
  refine ite (ite ((emit s _).trans (tx _ _ _)) (emit s _)) (ite (ite ((emit s _).trans (tx _ _ _)) (emit s _)) ?_)
  exact ite ((emit s _).trans (modEth _ _ _)) ((emit s _).trans (modEth _ _ _))

theorem ethDrainN (s : State) {p : Nat} (hp : p < 2) (n : Nat) : Sent s (s.ethDrainN p n) := by
  induction n generalizing s with
  | zero => exact refl s
  | succ n ih =>
    unfold State.ethDrainN
    split
    · exact refl s
    · refine Sent.trans ?_ (ih _)
      split
      · exact ((modEth s p _).trans (bumpFrames _ hp)).trans (ite (ptpLeaves _ _ _ _ _ _ _) (emit _ _))
      · exact ((modEth s p _).trans (bumpFrames _ hp)).trans (emit _ _)

theorem ethDrain (s : State) {p : Nat} (hp : p < 2) : Sent s (s.ethDrain p) :=
  ite (ethDrainN s hp _) (ite (refl s) (modEth s p _))

theorem drained (s : State) : Sent s s.drained :=
  ((fold linkDrain _ s).trans (ethDrain _ (by decide))).trans (ethDrain _ (by decide))

section

variable {a b : State} (h : Sent a b)
include h

theorem ctl : b.ctl = a.ctl := (congrArg State.ctl h.rest :)
theorem clk : b.clk = a.clk := (congrArg State.clk h.rest :)
theorem pins : b.pins = a.pins := (congrArg State.pins h.rest :)
theorem power : b.power = a.power := (congrArg State.power h.rest :)
theorem views : b.views = a.views := (congrArg State.views h.rest :)
theorem tiles : b.tiles = a.tiles := (congrArg State.tiles h.rest :)
theorem ports : b.ports = a.ports := (congrArg State.ports h.rest :)
theorem regions : b.regions = a.regions := (congrArg State.regions h.rest :)

theorem num {key : Nat} (h0 : key ≠ Obj.ethFramesTx 0) (h1 : key ≠ Obj.ethFramesTx 1) : b.num key = a.num key := by
  simp only [State.num, State.val, State.valIn, State.dfltOf, h.get key h0 h1, h.ctl, h.pins]

/-- FRAMES_TX has subindex 3. -/
theorem num_of_sub {key sub : Nat} (hkey : key % 256 = sub % 256) (hsub : sub % 256 ≠ 3) : b.num key = a.num key :=
  h.num (by rintro rfl; exact hsub (hkey.symm.trans (by decide))) (by rintro rfl; exact hsub (hkey.symm.trans (by decide)))

theorem lane_state (n : Nat) : (b.lane n).state = (a.lane n).state := by
  have e := congrArg (fun l : List Lane => (l[n]?.map Lane.state)) h.lanes
  simp only [List.getElem?_map, Option.map_map] at e
  have hs : Lane.state ∘ Lane.unsettled = Lane.state := rfl
  rw [hs] at e
  simp only [State.lane, List.getD_eq_getElem?_getD]
  cases hb : b.lanes[n]? <;> cases ha : a.lanes[n]? <;> simp_all

theorem partnerLost (k : Nat) : b.partnerLost k = a.partnerLost k := by
  rw [State.partnerLost, State.partnerLost, h.lane_state]

end

end Sent

/-! ## DEGRADED -/

/-- What makes a port's span a hole is its state, its region's, and LINK_MODE (R240). -/
theorem State.portHole_congr {a b : State} {p : Nat} (hports : b.ports = a.ports) (hregions : b.regions = a.regions)
    (hclk : b.clk = a.clk) (hmode : b.num (Obj.portLinkMode p) = a.num (Obj.portLinkMode p)) :
    b.portHole p = a.portHole p := by
  unfold State.portHole State.port State.inReset State.region
  rw [hports, hregions, hclk, hmode]

/-- Whether a view is DEGRADED rests on its ports' holes and its partners (R240). -/
theorem State.degraded_congr {a b : State} {v : Nat} (hports : b.portsOfView v = a.portsOfView v)
    (hholes : ∀ p ∈ a.portsOfView v, b.portHole p = a.portHole p)
    (hto : b.num (Obj.viewContinuesTo v) = a.num (Obj.viewContinuesTo v))
    (hfrom : b.num (Obj.viewContinuesFrom v) = a.num (Obj.viewContinuesFrom v))
    (hlost : ∀ k, b.partnerLost k = a.partnerLost k) : (b.viewState v = 3) = (a.viewState v = 3) := by
  have hany : (b.portsOfView v).any (fun p => b.portHole p) = (a.portsOfView v).any (fun p => a.portHole p) := by
    rw [hports, Bool.eq_iff_iff, List.any_eq_true, List.any_eq_true]
    exact exists_congr (fun p => and_congr_right (fun hp => by rw [hholes p hp]))
  have hstate : ∀ s : State, (s.viewState v = 3) = (s.portsOfView v ≠ [] ∧
      ((s.portsOfView v).any (fun p => s.portHole p) = true ∨
        (s.num (Obj.viewContinuesTo v) ≠ 0xFF ∧ s.partnerLost (s.num (Obj.viewContinuesTo v)) = true) ∨
        (s.num (Obj.viewContinuesFrom v) ≠ 0xFF ∧ s.partnerLost (s.num (Obj.viewContinuesFrom v)) = true))) := by
    intro s
    unfold State.viewState
    dsimp only
    split
    · simp_all
    · split
      · simp_all
      · split <;> simp_all
  rw [hstate, hstate, hany, hports, hto, hfrom, hlost, hlost]

/-! ## The panel lamps -/

namespace Sent

variable {a b : State} (h : Sent a b)
include h

theorem portsOfView (v : Nat) : b.portsOfView v = a.portsOfView v := by
  have hfirst : b.num (Obj.viewFirstPort v) = a.num (Obj.viewFirstPort v) := h.num_of_sub (objKey_sub _ _) (by decide)
  have hcount : b.num (Obj.viewPorts v) = a.num (Obj.viewPorts v) := h.num_of_sub (objKey_sub _ _) (by decide)
  unfold State.portsOfView portsOfViewBy viewConfiguredBy
  rw [hfirst, hcount]

theorem portHole (p : Nat) : b.portHole p = a.portHole p :=
  State.portHole_congr h.ports h.regions h.clk (h.num_of_sub (objKey_sub _ _) (by decide))

theorem degraded {v : Nat} (hv : v < 4) : (b.viewState v = 3) = (a.viewState v = 3) := by
  refine State.degraded_congr (h.portsOfView v) (fun p _ => h.portHole p) (h.num_of_sub (objKey_sub _ _) (by decide)) (h.num ?_ ?_) h.partnerLost
  all_goals
    unfold Obj.viewContinuesFrom Obj.ethFramesTx objKey
    omega

/-- HEALTH rests on retired units, spare bricks and DEGRADED views (R506). -/
theorem health : b.health = a.health := by
  have hviews : (List.range 4).any (fun v => decide (b.viewState v = 3)) = (List.range 4).any (fun v => decide (a.viewState v = 3)) := by
    rw [Bool.eq_iff_iff, List.any_eq_true, List.any_eq_true]
    exact exists_congr (fun v => and_congr_right (fun hv => by
      rw [decide_eq_true_iff, decide_eq_true_iff, h.degraded (List.mem_range.mp hv)]))
  unfold State.health
  rw [hviews, h.ctl, h.tiles]

theorem alertPin : b.alertPin = a.alertPin := by
  rw [State.alertPin, State.alertPin, h.num_of_sub (objKey_sub _ _) (by decide), h.num_of_sub (objKey_sub _ _) (by decide)]

theorem lampCondition (source : Nat) : b.lampCondition source = a.lampCondition source := by
  unfold State.lampCondition
  rw [h.ctl, h.alertPin, h.health, h.num_of_sub (objKey_sub _ _) (by decide)]

theorem lampWants (n : Nat) : b.lampWants n = a.lampWants n := by
  have hmode : b.num (Obj.lampMode n) = a.num (Obj.lampMode n) := h.num_of_sub (objKey_sub _ _) (by decide)
  have hsource : b.num (Obj.lampSource n) = a.num (Obj.lampSource n) := h.num_of_sub (objKey_sub _ _) (by decide)
  unfold State.lampWants
  rw [h.ctl, h.pins, hmode, hsource, h.lampCondition]

theorem lampsShow (hshow : a.lampsShow) : b.lampsShow := by
  intro hpowered n hn
  rw [h.pins, h.lampWants]
  exact hshow (h.power ▸ hpowered) n hn

end Sent

/-- A review leaves lamp `n` at the level it wants. -/
theorem State.lampOn_lampReview (s : State) {n : Nat} (hn : n < 4) : s.lampReview.pins.lampOn.getD n false = s.lampWants n := by
  have hset : s.lampReview.pins.lampOn = (List.range 4).map s.lampWants := rfl
  rw [hset, List.getD_eq_getElem?_getD, List.getElem?_map, List.getElem?_range hn, Option.map_some, Option.getD_some]

/-- Of the lamps' levels only a blinking lamp's own counts in what it wants, and that it keeps (R532). -/
theorem State.lampWants_lampReview (s : State) {n : Nat} (hn : n < 4) : s.lampReview.lampWants n = s.lampWants n := by
  have hcondition : ∀ source, s.lampReview.lampCondition source = s.lampCondition source := fun _ => rfl
  have hon := s.lampOn_lampReview hn
  have hmode : s.lampReview.ctl.mode = s.ctl.mode := rfl
  have hnum : ∀ key, s.lampReview.num key = s.num key := fun _ => rfl
  conv => lhs; unfold State.lampWants
  rw [hon, hmode, hnum, hnum, hcondition]
  unfold State.lampWants
  dsimp only
  repeat' split
  all_goals rfl

theorem State.lampsShow_lampReview (s : State) : s.lampReview.lampsShow := fun _ _ hn =>
  (s.lampOn_lampReview hn).trans (s.lampWants_lampReview hn).symm

/-- A module without power shows no lamp; one with power has its lamps reviewed. -/
theorem State.lampsShow_reviewed (s : State) : (if s.power.powered then s.lampReview else s).lampsShow := by
  split
  · exact s.lampsShow_lampReview
  · next hdark => exact fun hpowered => absurd hpowered hdark

/-- The settling ends with the review of the lamps, and what leaves after that does not touch them. -/
theorem State.lampsShow_settle (a before : State) : (a.settle before).lampsShow :=
  (Sent.drained _).lampsShow (State.lampsShow_reviewed _)

/-- Settles O57: whatever a command leaves, its settling reviews the lamps. -/
theorem lampsShowInEveryStep : Obligations.LampsShowInEveryStep := fun _ _ hs h => step_keeps State.lampsShow_settle hs h

/-! ## The views' DEGRADED and the conditions of the guarantee -/

/-- The lanes that are retired stay so, and no other is. -/
def sameRetired (a b : State) : Prop := ∀ n, (b.lane n).state = 5 ↔ (a.lane n).state = 5

theorem sameRetired_modLane (s : State) (n : Nat) {f : Lane → Lane} (h : ∀ x, (f x).state = 5 ↔ x.state = 5) :
    sameRetired s (s.modLane n f) := by
  intro k
  simp only [State.lane, State.modLane, List.getD_eq_getElem?_getD, List.getElem?_modify]
  cases s.lanes[k]? with
  | none => rfl
  | some x =>
    by_cases hk : n = k
    · simpa [hk] using h x
    · simp [hk]

/-- A lane that is put into a power is retired afterwards where it was before (R114). -/
theorem Lane.toPower_retired {target : Nat} (h : target ≤ 2) (x : Lane) : (x.toPower target).state = 5 ↔ x.state = 5 := by
  unfold Lane.toPower
  split
  · rfl
  · split
    · split <;> rfl
    · next hne _ => exact iff_of_false (show target ≠ 5 by omega) hne

theorem lanePower_le (hold : Nat) (p : Power) : lanePower hold p ≤ 2 := by
  have hbase : ∀ base : Nat, base ≤ 2 → (if hold = 2 then 0 else if hold = 1 then min 1 base else base) ≤ 2 := by
    intro base h
    split
    · omega
    · split <;> omega
  unfold lanePower
  cases p <;> exact hbase _ (by decide)

/-- What the settling does after the review of the views keeps of it: the views, and what DEGRADED rests on. -/
structure Steady (a b : State) : Prop extends Settled a b where
  views : b.views = a.views
  clk : b.clk = a.clk
  retired : sameRetired a b

namespace Steady

theorem refl (a : State) : Steady a a := ⟨Settled.refl a, rfl, rfl, fun _ => Iff.rfl⟩

theorem trans {a b c : State} (h : Steady a b) (k : Steady b c) : Steady a c :=
  ⟨h.toSettled.trans k.toSettled, k.views.trans h.views, k.clk.trans h.clk, fun n => (k.retired n).trans (h.retired n)⟩

theorem ite {p : Prop} [Decidable p] {s a b : State} (ha : Steady s a) (hb : Steady s b) :
    Steady s (if p then a else b) := by
  split <;> assumption

theorem fold {α : Type} {f : State → α → State} (h : ∀ s x, Steady s (f s x)) (l : List α) (s : State) :
    Steady s (l.foldl f s) := by
  induction l generalizing s with
  | nil => exact refl s
  | cons x r ih => exact (h s x).trans (ih (f s x))

theorem of_noted {a b : State} (h : Settled a b) (k : Noted a b) : Steady a b :=
  ⟨h, k.views, k.clk, fun n => by rw [State.lane, State.lane, k.lanes]⟩

theorem of_sent {a b : State} (h : Settled a b) (k : Sent a b) : Steady a b :=
  ⟨h, k.views, k.clk, fun n => by rw [k.lane_state]⟩

theorem alert (s : State) {bit : Nat} (h : bit < 255) : Steady s (s.alert bit) :=
  of_noted (Settled.alert s bit h) (Noted.alert s bit)

theorem bump (s : State) {key : Nat} (h : ownStatus key = true ∧ key ≠ Obj.alAlerts) : Steady s (s.bump key) :=
  of_noted (Settled.bump s h) (Noted.bump s key)

theorem modPower (s : State) (f : PowerSys → PowerSys) (h : ∀ p, (f p).unsettled = p.unsettled) : Steady s (s.modPower f) :=
  ⟨Settled.modPower s f h, rfl, rfl, fun _ => Iff.rfl⟩

theorem channels (s : State) (f : List Dma → List Dma) :
    Steady s (s.modEngine (fun e => { e with channels := f e.channels })) :=
  ⟨Settled.channels s f, rfl, rfl, fun _ => Iff.rfl⟩

theorem reviewCapacity (s before : State) : Steady s (s.reviewCapacity before) :=
  of_noted (Settled.reviewCapacity s before) (Noted.reviewCapacity s before)

theorem reviewGuarantee (s : State) : Steady s s.reviewGuarantee := by
  unfold State.reviewGuarantee
  refine (of_noted ?_ ?_).trans (modPower _ _ (by intro _; rfl))
  · exact Settled.fold (fun a b => Settled.ite (Settled.lapse a b) (Settled.refl a)) _ s
  · exact Noted.fold (fun a b => Noted.ite (Noted.lapse a b) (Noted.refl a)) _ s

theorem powerLanes (s : State) : Steady s s.powerLanes :=
  fold (fun a n => ⟨Settled.powerLane a n, rfl, rfl, sameRetired_modLane a n (Lane.toPower_retired (lanePower_le _ _))⟩) _ s

theorem parkFor (s : State) (t : Power) : Steady s (s.parkFor t) := by
  unfold State.parkFor
  split
  · exact channels s _
  · exact refl s

theorem enterPower (s : State) (t : Power) : Steady s (s.enterPower t) := by
  unfold State.enterPower
  split
  · exact ((modPower s _ (by intro _; rfl)).trans (bump _ ⟨rfl, by decide⟩)).trans (powerLanes _)
  · exact modPower s _ (by intro _; rfl)
  · exact refl s

theorem dmaDefer (s : State) : Steady s s.dmaDefer := ite (bump s ⟨rfl, by decide⟩) (refl s)

theorem stepDown (s : State) : Steady s s.stepDown := by
  unfold State.stepDown
  split
  · exact modPower s _ (fun p => by split <;> rfl)
  · refine ite (refl s) (ite (ite (parkFor s _) ?_) ((parkFor s _).trans (enterPower _ _)))
    exact (((bump s ⟨rfl, by decide⟩).trans (dmaDefer _)).trans (parkFor _ _)).trans (modPower _ _ (by intro _; rfl))

theorem retestStep (s : State) : Steady s s.retestStep := ite (stepDown s) (refl s)

theorem pruneSets (s : State) : Steady s s.pruneSets := ⟨Settled.pruneSets s, rfl, rfl, fun _ => Iff.rfl⟩
theorem lampReview (s : State) : Steady s s.lampReview := ⟨Settled.lampReview s, rfl, rfl, fun _ => Iff.rfl⟩
theorem drained (s : State) : Steady s s.drained := of_sent (Settled.drained s) (Sent.drained s)

end Steady

section

variable {v : Nat} (hv : v < 4)
include hv

theorem ownStatus_viewFirstPort : ownStatus (Obj.viewFirstPort v) = false := by decide +revert
theorem ownStatus_viewPorts : ownStatus (Obj.viewPorts v) = false := by decide +revert
theorem ownStatus_viewContinuesTo : ownStatus (Obj.viewContinuesTo v) = false := by decide +revert
theorem ownStatus_viewContinuesFrom : ownStatus (Obj.viewContinuesFrom v) = false := by decide +revert

end

theorem ownStatus_portLinkMode {p : Nat} (hp : p < 12) : ownStatus (Obj.portLinkMode p) = false := by decide +revert

namespace Settled

variable {a b : State} (h : Settled a b)
include h

theorem ctl_mode : b.ctl.mode = a.ctl.mode := (congrArg (fun s : State => s.ctl.mode) h.same :)
theorem ctl_part : b.ctl.part = a.ctl.part := (congrArg (fun s : State => s.ctl.part) h.same :)
theorem ctl_faults : b.ctl.faults = a.ctl.faults := (congrArg (fun s : State => s.ctl.faults) h.same :)
theorem ports : b.ports = a.ports := (congrArg State.ports h.same :)
theorem regions : b.regions = a.regions := (congrArg State.regions h.same :)
theorem power_band : b.power.band = a.power.band := (congrArg (fun s : State => s.power.band) h.same :)

/-- The conditions of the guarantee that are states are none of the settling's (R349). -/
theorem lapsedNow : b.lapsedNow = a.lapsedNow := by
  unfold State.lapsedNow State.retiredRegions State.retired
  rw [h.ctl_mode, h.ctl_part, h.ctl_faults, h.power_band, h.num (by decide)]

theorem portsOfView {v : Nat} (hv : v < 4) : b.portsOfView v = a.portsOfView v := by
  have hfirst : b.num (Obj.viewFirstPort v) = a.num (Obj.viewFirstPort v) := h.num (ownStatus_viewFirstPort hv)
  have hcount : b.num (Obj.viewPorts v) = a.num (Obj.viewPorts v) := h.num (ownStatus_viewPorts hv)
  unfold State.portsOfView portsOfViewBy viewConfiguredBy
  rw [hfirst, hcount]

/-- Whether a view of the module's ports is DEGRADED, where no lane is retired and no time passes (R240). -/
theorem degraded {v : Nat} (hv : v < 4) (hclk : b.clk = a.clk) (hlanes : sameRetired a b)
    (hp : ∀ p ∈ a.portsOfView v, p < 12) : (b.viewState v = 3) = (a.viewState v = 3) := by
  have hmode : ∀ p, p < 12 → b.num (Obj.portLinkMode p) = a.num (Obj.portLinkMode p) := fun p hlt =>
    h.num (ownStatus_portLinkMode hlt)
  refine State.degraded_congr (h.portsOfView hv)
    (fun p hmem => State.portHole_congr h.ports h.regions hclk (hmode p (hp p hmem))) 
    (h.num (ownStatus_viewContinuesTo hv)) (h.num (ownStatus_viewContinuesFrom hv)) (fun k => ?_)
  rw [State.partnerLost, State.partnerLost, decide_eq_decide]
  exact hlanes (48 + k)

end Settled

theorem Steady.viewsReported {a b : State} (h : Steady a b) (ha : a.viewsReported) : b.viewsReported := by
  intro hmode v hv hlen hports
  rw [h.portsOfView hv] at hports
  simp only [h.degraded hv h.clk h.retired hports, State.view, h.views]
  exact ha (h.ctl_mode ▸ hmode) v hv (h.views ▸ hlen) hports

/-! ### The review of the views -/

/-- The review of one view (R507). -/
def State.reviewView (s : State) (v : Nat) : State :=
  let now := decide (s.viewState v = 3)
  let s1 := s.modView v (fun w => { w with degraded := now })
  if now ∧ !(s.view v).degraded then s1.alert Alert.degraded else s1

theorem State.reviewViews_eq (s : State) : s.reviewViews = (List.range 4).foldl State.reviewView s := rfl

/-- What the review of view `v` leaves: `v` with its DEGRADED noted, and what an alert moves. -/
theorem State.reviewView_steady (s : State) (v : Nat) :
    Steady (s.modView v (fun w => { w with degraded := decide (s.viewState v = 3) })) (s.reviewView v) :=
  Steady.ite (Steady.alert _ (by decide)) (Steady.refl _)

theorem State.modView_degraded (s : State) (v : Nat) (d : Bool) :
    Settled s (s.modView v (fun w => { w with degraded := d })) := Settled.modView s v _ (fun _ => rfl)

theorem State.reviewView_settled (s : State) (v : Nat) : Settled s (s.reviewView v) :=
  (s.modView_degraded v _).trans (s.reviewView_steady v).toSettled

theorem State.reviewView_degraded (s : State) (v : Nat) {k : Nat} (hk : k < 4) (hp : ∀ p ∈ s.portsOfView k, p < 12) :
    ((s.reviewView v).viewState k = 3) = (s.viewState k = 3) :=
  (s.reviewView_settled v).degraded hk (s.reviewView_steady v).clk
    (fun n => ((s.reviewView_steady v).retired n).trans Iff.rfl) hp

theorem State.view_reviewView (s : State) (v k : Nat) (hk : k < s.views.length) :
    ((s.reviewView v).view k).degraded = if v = k then decide (s.viewState k = 3) else (s.view k).degraded := by
  have hviews := (s.reviewView_steady v).views
  simp only [State.view, hviews, State.modView, List.getD_eq_getElem?_getD, List.getElem?_modify,
    List.getElem?_eq_getElem hk]
  by_cases h : v = k <;> simp [h]

theorem State.length_views_reviewView (s : State) (v : Nat) : (s.reviewView v).views.length = s.views.length := by
  rw [(s.reviewView_steady v).views, State.modView, List.length_modify]

/-- Reviewed or right before, a view's record of DEGRADED stands as VIEW_STATE reads. -/
theorem State.reviewed_fold (l : List Nat) (s : State) {k : Nat} (hk : k < 4) (hlen : k < s.views.length)
    (hp : ∀ p ∈ s.portsOfView k, p < 12) (h : k ∈ l ∨ (s.view k).degraded = decide (s.viewState k = 3)) :
    ((l.foldl State.reviewView s).view k).degraded = decide ((l.foldl State.reviewView s).viewState k = 3) := by
  induction l generalizing s with
  | nil => exact h.resolve_left (List.not_mem_nil)
  | cons v r ih =>
    refine ih (s.reviewView v) (by rwa [s.length_views_reviewView]) ?_ ?_
    · rwa [(s.reviewView_settled v).portsOfView hk]
    · simp only [s.view_reviewView v k hlen, s.reviewView_degraded v hk hp]
      by_cases hv : v = k
      · exact .inr (if_pos hv)
      · rw [if_neg hv]
        exact h.imp_left (fun hmem => (List.mem_cons.mp hmem).resolve_left (Ne.symm hv))

theorem State.reviewViews_settled (s : State) : Settled s s.reviewViews := Settled.reviewViews s

theorem State.length_views_reviewViews (s : State) : s.reviewViews.views.length = s.views.length := by
  rw [s.reviewViews_eq]
  generalize List.range 4 = l
  induction l generalizing s with
  | nil => rfl
  | cons v r ih => exact (ih (s.reviewView v)).trans (s.length_views_reviewView v)

theorem State.viewsReported_reviewViews (s : State) : s.reviewViews.viewsReported := by
  intro _ v hv hlen hports
  rw [s.length_views_reviewViews] at hlen
  rw [(Settled.reviewViews s).portsOfView hv] at hports
  exact State.reviewed_fold (List.range 4) s hv hlen hports (.inl (List.mem_range.mpr hv))

/-! ### The settling -/

/-- What settles in an operating mode once the views are reviewed (R321, R351, R481, R27). -/
theorem Steady.operating (s before : State) :
    Steady s.reviewViews ((((s.reviewViews.reviewCapacity before).reviewGuarantee).retestStep).pruneSets) :=
  (((Steady.reviewCapacity _ _).trans (Steady.reviewGuarantee _)).trans (Steady.retestStep _)).trans (Steady.pruneSets _)

/-- What ends the settling. -/
theorem Steady.ended (s : State) : Steady s (if s.power.powered then s.lampReview else s).drained :=
  (Steady.ite (Steady.lampReview s) (Steady.refl s)).trans (Steady.drained _)

/-- Outside the operating modes the settling reviews nothing. -/
theorem State.viewsReported_reviewed (s before : State) : (if s.ctl.mode.operating then
    ((((s.reviewViews).reviewCapacity before).reviewGuarantee).retestStep).pruneSets else s).viewsReported := by
  split
  · exact (Steady.operating s before).viewsReported s.viewsReported_reviewViews
  · next hidle => exact fun hmode => absurd hmode hidle

theorem State.viewsReported_settle (a before : State) : (a.settle before).viewsReported :=
  (Steady.ended _).viewsReported (State.viewsReported_reviewed _ before)

/-! ### The guarantee -/

/-- The review of the guarantee records the conditions as they stand (R349, R351). -/
theorem State.lapsed_reviewGuarantee (s : State) : s.reviewGuarantee.power.lapsed &&& 19 = s.reviewGuarantee.lapsedNow := by
  have hset : s.reviewGuarantee.power.lapsed = s.lapsedNow ||| (s.power.lapsed &&& 12) := rfl
  have hnow : s.lapsedNow &&& 19 = s.lapsedNow := by
    unfold State.lapsedNow
    repeat' split
    all_goals rfl
  rw [hset, (Settled.reviewGuarantee s).lapsedNow, Nat.and_or_distrib_right, hnow, Nat.and_assoc]
  exact (congrArg _ (Nat.and_zero _)).trans (Nat.or_zero _)

/-- Where nothing but the power state and the deferred step moves, the conditions stay as they are recorded. -/
theorem Settled.lapsesWatched {a b : State} (h : Settled a b) (k : b.power.lapsed = a.power.lapsed) (ha : a.lapsesWatched) :
    b.lapsesWatched := by
  intro hmode
  rw [k, h.lapsedNow]
  exact ha (h.ctl_mode ▸ hmode)

theorem State.lapsed_powerLanes (s : State) : s.powerLanes.power.lapsed = s.power.lapsed := by
  unfold State.powerLanes
  exact Quiet.fold (g := fun s : State => s.power.lapsed) (f := State.powerLane) (fun _ _ => rfl) _ s

theorem State.lapsed_parkFor (s : State) (t : Power) : (s.parkFor t).power.lapsed = s.power.lapsed := by
  cases t <;> rfl

theorem State.lapsed_enterPower (s : State) (t : Power) : (s.enterPower t).power.lapsed = s.power.lapsed := by
  cases t
  case doze => exact State.lapsed_powerLanes _
  all_goals rfl

theorem State.lapsed_stepDown (s : State) : s.stepDown.power.lapsed = s.power.lapsed := by
  have hdefer : ∀ a : State, a.dmaDefer.power.lapsed = a.power.lapsed := fun a => by
    rw [(show Noted a a.dmaDefer from Noted.bumpIf a _ _).power]
  unfold State.stepDown
  split
  · show (if s.power.target = some .deep then _ else s.power : PowerSys).lapsed = _
    split <;> rfl
  · split
    · rfl
    · split
      · split
        · exact State.lapsed_parkFor s _
        · exact (State.lapsed_parkFor _ _).trans (hdefer _)
      · exact (State.lapsed_enterPower _ _).trans (State.lapsed_parkFor s _)

theorem State.lapsed_retestStep (s : State) : s.retestStep.power.lapsed = s.power.lapsed := by
  unfold State.retestStep
  split
  · exact s.lapsed_stepDown
  · rfl

theorem State.lapsed_ended (s : State) : (if s.power.powered then s.lampReview else s).drained.power.lapsed = s.power.lapsed := by
  rw [(Sent.drained _).power]
  split <;> rfl

theorem State.lapsesWatched_reviewed (s before : State) : (if s.ctl.mode.operating then
    ((((s.reviewViews).reviewCapacity before).reviewGuarantee).retestStep).pruneSets else s).lapsesWatched := by
  split
  · have hkept := State.lapsed_retestStep ((s.reviewViews.reviewCapacity before).reviewGuarantee)
    exact ((Settled.retestStep _).trans (Settled.pruneSets _)).lapsesWatched hkept
      (fun _ => State.lapsed_reviewGuarantee _)
  · next hidle => exact fun hmode => absurd hmode hidle

theorem State.lapsesWatched_settle (a before : State) : (a.settle before).lapsesWatched :=
  (Steady.ended _).toSettled.lapsesWatched (State.lapsed_ended _) (State.lapsesWatched_reviewed _ before)

/-- Settles O58: the settling of every command reviews the views and the guarantee, and nothing after the reviews moves what
they rest on. -/
theorem viewsAndLapsesInEveryStep : Obligations.ViewsAndLapsesInEveryStep :=
  ⟨fun _ _ hs h => step_keeps State.viewsReported_settle hs h, fun _ _ hs h => step_keeps State.lapsesWatched_settle hs h⟩

end Sys2Proof.Machine
end

section
/-! PROOFS. Dictionary requests: what a request of each opcode executes, reads and writes that pass their checks, and writes
of a number to an object of a given row (O4, O5, O6, O7). -/

namespace Sys2Proof.Machine

/-! ## The opcodes -/

section Opcodes

variable {w : State} {src : Src} {x : Session} {q : Req}

theorem execute_read (h : q.opcode = Op.read) : w.execute src x q = w.doRead src x { q with sub := q.at_ } := by
  unfold State.execute State.executeAt
  rw [if_pos h]
  rfl

theorem execute_doWrite (h : q.opcode = Op.write) : w.execute src x q = w.doWrite src x { q with sub := q.at_ } := by
  unfold State.execute State.executeAt
  rw [if_neg (by rw [h]; decide), if_pos h]
  rfl

theorem execute_segRead (h : q.opcode = Op.segRead) : w.execute src x q = w.doSegRead src x { q with sub := q.at_ } := by
  unfold State.execute State.executeAt
  rw [if_neg (by rw [h]; decide), if_neg (by rw [h]; decide), if_pos h]
  rfl

theorem execute_segWrite (h : q.opcode = Op.segWrite) : w.execute src x q = w.doSegWrite src x { q with sub := q.at_ } := by
  unfold State.execute State.executeAt
  rw [if_neg (by rw [h]; decide), if_neg (by rw [h]; decide), if_neg (by rw [h]; decide), if_pos h]
  rfl

theorem execute_blockStart (h : q.opcode = Op.blockStart) : w.execute src x q = w.doBlockStart src x { q with sub := q.at_ } := by
  unfold State.execute State.executeAt
  rw [if_neg (by rw [h]; decide), if_neg (by rw [h]; decide), if_neg (by rw [h]; decide), if_neg (by rw [h]; decide), if_pos h]
  rfl

theorem execute_blockData (h : q.opcode = Op.blockData) : w.execute src x q = w.doBlockData src x { q with sub := q.at_ } := by
  unfold State.execute State.executeAt
  rw [if_neg (by rw [h]; decide), if_neg (by rw [h]; decide), if_neg (by rw [h]; decide), if_neg (by rw [h]; decide),
    if_neg (by rw [h]; decide), if_pos h]
  rfl

theorem execute_blockEnd (h : q.opcode = Op.blockEnd) : w.execute src x q = w.doBlockEnd src x { q with sub := q.at_ } := by
  unfold State.execute State.executeAt
  rw [if_neg (by rw [h]; decide), if_neg (by rw [h]; decide), if_neg (by rw [h]; decide), if_neg (by rw [h]; decide),
    if_neg (by rw [h]; decide), if_neg (by rw [h]; decide), if_pos h]
  rfl

theorem execute_blockRead (h : q.opcode = Op.blockRead) : w.execute src x q = w.doBlockRead src x { q with sub := q.at_ } := by
  unfold State.execute State.executeAt
  rw [if_neg (by rw [h]; decide), if_neg (by rw [h]; decide), if_neg (by rw [h]; decide), if_neg (by rw [h]; decide),
    if_neg (by rw [h]; decide), if_neg (by rw [h]; decide), if_neg (by rw [h]; decide), if_pos h]
  rfl

end Opcodes

/-- Only a WRITE moves the YDP port (R551). -/
theorem movesPort_of_opcode {q : Req} (h : q.opcode ≠ Op.write) (ans : Answer) : movesPort q ans = false := by
  simp only [movesPort, decide_eq_false h, Bool.false_and]

/-- A request that failed moves nothing (R551). -/
theorem movesPort_of_code (q : Req) {ans : Answer} (h : ans.code ≠ Code.ok) : movesPort q ans = false := by
  simp only [movesPort, decide_eq_false h, Bool.and_false]

theorem movesPort_of_object {q : Req} (h : objKey q.index q.sub ≠ Obj.ydpYdpPort) (ans : Answer) : movesPort q ans = false := by
  simp only [movesPort, decide_eq_false h, Bool.and_false, Bool.false_and]

/-- Settles O4. -/
theorem requestsAreExecutedAndAnswered : Obligations.RequestsAreExecutedAndAnswered := fun _ _ _ _ _ _ hi hs hm =>
  request_served hi hs hm rfl

/-- A command that spells a request which the module hears completes in what executing the request gives, answered. -/
theorem heard_completes {i : Instr} {src : Src} {q : Req} {s a : State} {ans : Answer} (hi : i.request = some (src.normal, q))
    (hh : (s.advance i.dt).hears src q) (hm : movesPort q ans = false)
    (he : ((s.advance i.dt).heard src).execute src ((s.advance i.dt).speaker src) q = (a, ans)) :
    Completes i s (fun t => Answered a t src q ans) :=
  request_served ((State.hears_normal hh) ▸ hi) (State.hears_serves hh) hm he

/-! ## Writes -/

/-- A WRITE that fails a check of 1 to 7 is rejected (R42). -/
theorem execute_write_rejected {w : State} {src : Src} {x : Session} {q : Req} {code : Nat} (h : q.opcode = Op.write)
    (ha : w.admitWrite x q.index q.at_ .whole q.data = .error code) :
    w.execute src x q = (w.bump (rejectedKey src), Answer.rejected code) := by
  rw [execute_doWrite h]
  unfold State.doWrite
  simp only [ha, State.reject]

/-- Settles O5: a WRITE is applied where its conditions hold, and rejected at the first check that fails. -/
theorem writesApplyOrOnlyCount : Obligations.WritesApplyOrOnlyCount := by
  refine ⟨?_, fun i src q s w x hi hop hs => ⟨fun r hr hm => ?_, fun code hcode hne => ?_⟩⟩
  · intro dt src index sub data s r u q w a hh hr hport
    exact heard_completes (i := .write dt src index sub data) rfl hh (movesPort_of_object hport _) (execute_write hr)
  · exact request_served hi hs hm (execute_write hr)
  · exact (request_served hi hs (movesPort_of_code q hne) (execute_write_rejected hop hcode)).imp
      (fun t ht => ht.of_rejected)

/-! ## Reads -/

section Reads

variable {w : State} {src : Src} {x : Session} {q : Req} {r : ObjRow} (hop : q.opcode = Op.read) (hr : w.acceptsRead x q r)
  (hblob : r.ty ≠ .blob) (hkey : q.key ≠ Obj.accChallenge)
include hop hr hblob hkey

/-- A READ of an object that may be read, past its checks (R52). -/
theorem execute_read_accepted : w.execute src x q =
    match (if bitOf q.flags 1 ∧ r.acc = .rs then Kv.get? w.dict.staged q.key else none) with
    | some v =>
      if frameMax src < (v.encode r.ty).length then w.reject src Code.tooLong
      else (w.requestSeen, { flags := 5, code := Code.ok, data := v.encode r.ty })
    | none =>
      match w.content x r q.index q.at_ with
      | .error h => (w.requestSeen, { flags := 1, code := Code.notReady, data := h })
      | .ok b => if frameMax src < b.length then w.reject src Code.tooLong else (w.requestSeen.covered src q.key, Answer.data_ b) := by
  rw [execute_read hop]
  unfold State.doRead
  unfold Req.key at hkey
  simp only [hr.admits, hblob, hkey, if_false, Req.key] <;> rfl

/-- Asked for the staged value, a staged one is returned, flagged (R52). -/
theorem execute_read_staged {v : Val} (hflag : bitOf q.flags 1 = true) (hrs : r.acc = .rs)
    (hv : Kv.get? w.dict.staged q.key = some v) (hlen : (v.encode r.ty).length ≤ frameMax src) :
    w.execute src x q = (w.requestSeen, { flags := 5, code := Code.ok, data := v.encode r.ty }) := by
  rw [execute_read_accepted hop hr hblob hkey, if_pos ⟨hflag, hrs⟩, hv]
  exact if_neg (Nat.not_lt.mpr hlen)

/-- Otherwise the object's content is returned, or the header of the last result (R52, R78). -/
theorem execute_read_content (hn : bitOf q.flags 1 = false ∨ r.acc ≠ .rs ∨ Kv.get? w.dict.staged q.key = none) :
    (∀ b, w.content x r q.index q.at_ = .ok b → b.length ≤ frameMax src →
      w.execute src x q = (w.requestSeen.covered src q.key, Answer.data_ b)) ∧
    (∀ h, w.content x r q.index q.at_ = .error h →
      w.execute src x q = (w.requestSeen, { flags := 1, code := Code.notReady, data := h })) := by
  have hnone : (if bitOf q.flags 1 = true ∧ r.acc = .rs then Kv.get? w.dict.staged q.key else none) = none := by
    split
    · next hboth => exact (hn.resolve_left (by rw [hboth.1]; decide)).resolve_left (not_not_intro hboth.2)
    · rfl
  rw [execute_read_accepted hop hr hblob hkey, hnone]
  refine ⟨fun b hb hlen => ?_, fun h hh => ?_⟩
  · simp only [hb]
    exact if_neg (Nat.not_lt.mpr hlen)
  · simp only [hh]

end Reads

/-- A response that covers no result moves nothing (R77). -/
theorem State.covered_of_not_result {s : State} {key : Nat} (h : isResult key = false) (src : Src) : s.covered src key = s := by
  cases src with
  | i3c tag => simp only [State.covered, h, Bool.false_eq_true, if_false]
  | ydp e ip port sess seq =>
    simp only [State.covered, State.markRead, h, Bool.false_eq_true, if_false, ite_self]

theorem State.content_of_not_result {s : State} {x : Session} {r : ObjRow} {index sub : Nat}
    (h : isResult (objKey index sub) = false) : s.content x r index sub = .ok (s.readBytes x r index sub) := by
  simp only [State.content, h, Bool.false_eq_true, if_false]

theorem State.content_of_presented {s : State} {x : Session} {r : ObjRow} {index sub : Nat} {b : Bytes}
    (h : isResult (objKey index sub) = true) (hb : (s.result (objKey index sub)).value = some b) :
    s.content x r index sub = .ok b := by
  simp only [State.content, h, if_true, hb]

theorem State.content_of_released {s : State} {x : Session} {r : ObjRow} {index sub : Nat}
    (h : isResult (objKey index sub) = true) (hb : (s.result (objKey index sub)).value = none) :
    s.content x r index sub = .error (s.result (objKey index sub)).lastHeader := by
  simp only [State.content, h, if_true, hb]

/-- Flag bit 1 of a READ asks for the staged value (R52). -/
theorem Req.ofRead_staged (index sub : Nat) (staged : Bool) : bitOf (Req.ofRead index sub staged).normal.flags 1 = staged := by
  cases staged
  · show bitOf 0 1 = false
    decide
  · show bitOf 2 1 = true
    decide

/-- Settles O6. -/
theorem readReturnsTheValue : Obligations.ReadReturnsTheValue := by
  intro dt src index sub staged s r u q w x answers hh hr hblob hkey
  have hanswers : ∀ {a ans}, w.execute src x q = (a, ans) → answers a ans := fun he =>
    heard_completes (i := .read dt src index sub staged) rfl hh (movesPort_of_opcode (by show Op.read ≠ Op.write; decide) _) he
  have hflag : bitOf q.flags 1 = staged := Req.ofRead_staged index sub staged
  refine ⟨fun v hs hrs hv hlen => ?_, fun hn => ?_⟩
  · exact hanswers (execute_read_staged rfl hr hblob hkey (hflag.trans hs) hrs hv hlen)
  · obtain ⟨hok, herror⟩ := execute_read_content (src := src) rfl hr hblob hkey (hflag ▸ hn)
    refine ⟨fun hres hlen => ?_, fun b hres hb hlen => ?_, fun hres hb => ?_⟩
    · have h := hok _ (State.content_of_not_result hres) hlen
      rw [State.covered_of_not_result hres] at h
      exact hanswers h
    · exact hanswers (hok _ (State.content_of_presented hres hb) hlen)
    · exact hanswers (herror _ (State.content_of_released hres hb))

end Sys2Proof.Machine
end

section
/-! PROOFS. The commands that write a number to an object: what an accepted write does by the access code of its object's row;
challenges and responses, and the actions of access levels, defaults, digest and commit (O7, O20, O21, parts of O8, O24). -/

namespace Sys2Proof.Machine

/-! ## A write of a number to a known object -/

/-- The row of an object, where it has one, holds numbers of an access code. -/
abbrev NumberRow (key : Nat) (acc : Acc) : Prop :=
  ∀ r, objectRow (key / 256) (key % 256) = some r → r.acc = acc ∧ r.ty.size ≠ 0

/-- A request for an object at a subindex other than 0 is for that object (R38). -/
theorem Req.ofNumber_key {key : Nat} (h : key % 256 ≠ 0) (size value : Nat) : (Req.ofNumber key size value).key = key := by
  rw [Req.key, Req.at_of_sub_ne_zero (q := Req.ofNumber key size value) h]
  exact Nat.div_add_mod' key 256

theorem Req.ofNumber_object (key size value : Nat) :
    objKey (Req.ofNumber key size value).index (Req.ofNumber key size value).sub = key := Nat.div_add_mod' key 256

/-- The ordinary write: neither RESPONSE nor ACK, which have outcomes of their own (R550). -/
theorem State.applyWrite_ordinary {s : State} {src : Src} {r : ObjRow} {key : Nat} {raw : Bytes} (hresponse : key ≠ Obj.accResponse)
    (hack : isAck key = false) :
    s.applyWrite src r key raw = ((s.journalWrite src r key raw).writeEffect src r key (r.ty.decode raw), Code.ok) := by
  simp only [State.applyWrite, if_neg hresponse, hack, Bool.false_eq_true, if_false]

/-- An accepted write of a number is journalled under its kind, where its object's writes are (R102). -/
theorem State.journalWrite_number {s : State} {src : Src} {r : ObjRow} {key : Nat} {raw : Bytes} (hsize : r.ty.size ≠ 0) :
    s.journalWrite src r key raw = if journalled key then s.journalReq src (writeKind r) key raw else s := by
  have hblob : r.ty ≠ .blob := fun h => hsize (by rw [h]; rfl)
  simp only [State.journalWrite, if_neg hblob]

theorem writeKind_ex {r : ObjRow} (h : r.acc = .ex) : writeKind r = 4 := by rw [writeKind, h]
theorem writeKind_rw {r : ObjRow} (h : r.acc = .rw) : writeKind r = 1 := by rw [writeKind, h]
theorem writeKind_wo {r : ObjRow} (h : r.acc = .wo) : writeKind r = 1 := by rw [writeKind, h]

section Takes

variable {i : Instr} {s : State} {src : Src} {key size value : Nat} {acc : Acc}

/-- A command that writes a number to a known object completes in what applying the write gives. -/
theorem takes_applies (ht : (s.advance i.dt).takes src (Req.ofNumber key size value))
    (hi : i.request = some (src.normal, (Req.ofNumber key size value).normal)) (hkey : key < 65536 * 256)
    (hsub : key % 256 ≠ 0) (hport : key ≠ Obj.ydpYdpPort) (hrow : NumberRow key acc) :
    ∃ r, r.acc = acc ∧ r.ty.size ≠ 0 ∧ objectRow (key / 256) (key % 256) = some r ∧ (let a := ((s.advance i.dt).heard src).requestSeen.applyWrite src r key (leBytes size value)
      Completes i s (fun t => Answered a.1 t src (Req.ofNumber key size value) (Answer.of a.2))) := by
  rw [Req.ofNumber_normal hkey] at hi
  obtain ⟨hh, r, hr⟩ := id ht
  have hat : (Req.ofNumber key size value).at_ = key % 256 := Req.at_of_sub_ne_zero (q := Req.ofNumber key size value) hsub
  have hfound : objectRow (key / 256) (key % 256) = some r := hat ▸ hr.names.row
  obtain ⟨hacc, hsize⟩ := hrow r hfound
  refine ⟨r, hacc, hsize, hfound, ?_⟩
  have he := execute_write hr
  rw [Req.ofNumber_key hsub] at he
  exact heard_completes hi hh (movesPort_of_object (by rwa [Req.ofNumber_object]) _) he

/-- An ordinary one completes in its effect, journalled. -/
theorem takes_effect (ht : (s.advance i.dt).takes src (Req.ofNumber key size value))
    (hi : i.request = some (src.normal, (Req.ofNumber key size value).normal)) (hkey : key < 65536 * 256)
    (hsub : key % 256 ≠ 0) (hport : key ≠ Obj.ydpYdpPort) (hrow : NumberRow key acc) (hresponse : key ≠ Obj.accResponse)
    (hack : isAck key = false) : ∃ r, r.acc = acc ∧ r.ty.size ≠ 0 ∧ objectRow (key / 256) (key % 256) = some r ∧
      (let w := ((s.advance i.dt).heard src).requestSeen
       Completes i s (fun t => Answered ((if journalled key then w.journalReq src (writeKind r) key (leBytes size value) else w).writeEffect
        src r key (.num (value % 256 ^ size))) t src (Req.ofNumber key size value) (Answer.of Code.ok))) := by
  obtain ⟨r, hacc, hsize, hfound, h⟩ := takes_applies ht hi hkey hsub hport hrow
  refine ⟨r, hacc, hsize, hfound, ?_⟩
  simpa only [State.applyWrite_ordinary hresponse hack, State.journalWrite_number hsize, Ty.decode_leBytes hsize] using h

/-- An action completes in its effect, journalled with KIND 4 where its writes are (R40, R103). -/
theorem takes_action (ht : (s.advance i.dt).takes src (Req.ofNumber key size value))
    (hi : i.request = some (src.normal, (Req.ofNumber key size value).normal)) (hkey : key < 65536 * 256)
    (hsub : key % 256 ≠ 0) (hport : key ≠ Obj.ydpYdpPort) (hrow : NumberRow key .ex) (hresponse : key ≠ Obj.accResponse)
    (hack : isAck key = false) :
    let w := ((s.advance i.dt).heard src).requestSeen
    Completes i s (fun t => Answered ((if journalled key then w.journalReq src 4 key (leBytes size value) else w).exWrite
      src key (value % 256 ^ size)) t src (Req.ofNumber key size value) (Answer.of Code.ok)) := by
  obtain ⟨r, hacc, -, -, h⟩ := takes_effect ht hi hkey hsub hport hrow hresponse hack
  rw [writeKind_ex hacc] at h
  simpa only [State.writeEffect, hacc, Val.toNat] using h

end Takes

/-! ## Sessions after an answer -/

/-- A session with all blanked that an answer or the settling moves. -/
theorem Answered.sessions {a t : State} {src : Src} {q : Req} {ans : Answer} (h : Answered a t src q ans) :
    t.ctl.sessions.map Session.unreplied = a.ctl.sessions.map Session.unreplied := by
  have e := congrArg (fun s : State => s.ctl.sessions) h.same
  simp only [State.unreplied, State.unsettled, List.map_map] at e
  exact e

/-- Every session after an answer is one before it, but for what answers move. -/
theorem Answered.of_mem {a t : State} {src : Src} {q : Req} {ans : Answer} (h : Answered a t src q ans) {y : Session}
    (hy : y ∈ t.ctl.sessions) : ∃ x ∈ a.ctl.sessions, x.unreplied = y.unreplied := by
  have hmem : y.unreplied ∈ t.ctl.sessions.map Session.unreplied := List.mem_map_of_mem hy
  rw [h.sessions] at hmem
  exact List.mem_map.mp hmem

theorem Answered.mem_of {a t : State} {src : Src} {q : Req} {ans : Answer} (h : Answered a t src q ans) {x : Session}
    (hx : x ∈ a.ctl.sessions) : ∃ y ∈ t.ctl.sessions, y.unreplied = x.unreplied := by
  have hmem : x.unreplied ∈ a.ctl.sessions.map Session.unreplied := List.mem_map_of_mem hx
  rw [← h.sessions] at hmem
  exact List.mem_map.mp hmem

theorem Answered.ctl_challengeRun {a t : State} {src : Src} {q : Req} {ans : Answer} (h : Answered a t src q ans) :
    t.ctl.challengeRun = a.ctl.challengeRun := (congrArg (fun s : State => s.ctl.challengeRun) h.same :)

theorem Answered.ctl_lockoutUntil {a t : State} {src : Src} {q : Req} {ans : Answer} (h : Answered a t src q ans) :
    t.ctl.lockoutUntil = a.ctl.lockoutUntil := (congrArg (fun s : State => s.ctl.lockoutUntil) h.same :)

/-! ## Challenges and responses -/

theorem challengeRow_not_blob : ∀ r, objectRow (Obj.accChallenge / 256) (Obj.accChallenge % 256) = some r → r.ty ≠ .blob := by
  decide +kernel

/-- A READ of CHALLENGE that passes its checks draws a nonce for its session (R44). -/
theorem execute_challenge {w : State} {src : Src} {x : Session} {r : ObjRow}
    (hr : w.acceptsRead x (Req.ofRead (Obj.accChallenge / 256) (Obj.accChallenge % 256) false) r) :
    w.execute src x (Req.ofRead (Obj.accChallenge / 256) (Obj.accChallenge % 256) false) =
      ((w.requestSeen.freshNonce x.id).1, Answer.data_ (leBytes 4 (w.requestSeen.freshNonce x.id).2)) := by
  have hblob : r.ty ≠ .blob := challengeRow_not_blob r hr.names.row
  have hadmits := hr.admits
  rw [execute_read rfl]
  unfold State.doRead
  simp only [hadmits, hblob, if_false]
  exact if_pos rfl

/-- The nonce is the next free value, and lives for 10 s from now (R44). -/
theorem State.freshNonce_requestSeen (w : State) (id : SessId) :
    w.requestSeen.freshNonce id = (({ w.requestSeen with free := w.free + 1 } : State).modSession id (fun y => { y with
      challenge := some ((Config.nonce w.free).toNat, w.clk + 10000000000) }), (Config.nonce w.free).toNat) := by
  have h := Woken.requestSeen w
  have hf := h.free
  have hc := h.clk
  rw [← hf, ← hc]
  rfl

theorem responseRow : NumberRow Obj.accResponse .wo := by decide +kernel

/-- Outside a lockout a response uses the nonce up; whether it is the expected one, in time, is what it comes to (R44). -/
theorem State.answerChallenge_good {s : State} {id : SessId} {n nonce until_ : Nat} (hfree : s.lockedOut = false)
    (hasked : (s.session? id).bind (fun y => y.challenge) = some (nonce, until_)) (htime : s.clk < until_)
    (hn : n = s.expected nonce) :
    s.answerChallenge id n = (let s1 := s.modSession id (fun x => { x with challenge := none, level := .integrator })
      ({ s1 with ctl := { s1.ctl with challengeRun := 0, lockoutUntil := none } }, true)) := by
  simp only [State.answerChallenge, hfree, hasked, htime, hn, decide_true, Bool.and_self, Bool.false_eq_true, if_false, if_true]

theorem State.answerChallenge_bad {s : State} {id : SessId} {n : Nat} (hfree : s.lockedOut = false)
    (hbad : ∀ nonce until_, (s.session? id).bind (fun y => y.challenge) = some (nonce, until_) → s.clk < until_ →
      n ≠ s.expected nonce) :
    s.answerChallenge id n = (let s1 := s.modSession id (fun x => { x with challenge := none })
      if 3 ≤ s.ctl.challengeRun + 1 then
        ({ s1 with ctl := { s1.ctl with challengeRun := 0, lockoutUntil := some (s.clk + 60000000000) } }, false)
      else ({ s1 with ctl := { s1.ctl with challengeRun := s.ctl.challengeRun + 1 } }, false)) := by
  cases hasked : (s.session? id).bind (fun y => y.challenge) with
  | none => simp only [State.answerChallenge, hfree, hasked, Bool.false_eq_true, if_false]
  | some p =>
    have hgood : (decide (s.clk < p.2) && decide (n = s.expected p.1)) = false := by
      by_cases htime : s.clk < p.2
      · rw [decide_eq_false (hbad p.1 p.2 hasked htime), Bool.and_false]
      · rw [decide_eq_false htime, Bool.false_and]
    simp only [State.answerChallenge, hfree, hasked, hgood, Bool.false_eq_true, if_false]

/-- A journal entry moves no session, no challenge and no lockout. -/
theorem State.session?_congr {a b : State} (h : b.ctl.sessions = a.ctl.sessions) (id : SessId) : b.session? id = a.session? id := by
  rw [State.session?, h, State.session?]

theorem State.mem_modSession {s : State} {id : SessId} {f : Session → Session} {y : Session} (h : y ∈ (s.modSession id f).ctl.sessions) :
    ∃ x ∈ s.ctl.sessions, y = if x.id = id then f x else x := by
  obtain ⟨x, hx, hy⟩ := List.mem_map.mp h
  exact ⟨x, hx, hy.symm⟩

/-- The session found under a name is one of the module's, of that name. -/
theorem State.session?_some {s : State} {id : SessId} {x : Session} (h : s.session? id = some x) : x ∈ s.ctl.sessions ∧ x.id = id :=
  ⟨List.mem_of_find?_eq_some h, by simpa using List.find?_some h⟩

/-- What a write of RESPONSE comes to, and which of the two entries it leaves in the journal (R44, R102, R550). -/
theorem State.applyWrite_response {s : State} {src : Src} {r : ObjRow} {value : Nat} (hsize : r.ty.size ≠ 0) {good : Bool}
    (hgood : (s.answerChallenge (srcId src) (value % wrap32)).2 = good) :
    s.applyWrite src r Obj.accResponse (leBytes 4 value) =
      (((if good then s.journalReq src 1 Obj.accResponse (leBytes 4 value)
          else s.journalFailed src 1 Obj.accResponse Code.challengeFailed).answerChallenge (srcId src) (value % wrap32)).1,
        if good then Code.ok else Code.challengeFailed) := by
  have hdecode : (r.ty.decode (leBytes 4 value)).toNat = value % wrap32 :=
    congrArg Val.toNat (Ty.decode_leBytes hsize 4 value)
  simp only [State.applyWrite, if_pos, hdecode, hgood]

/-- The evaluation of a response reads its session's challenge, the lockout, the run of failures and the key. -/
structure Challenged (w s : State) : Prop where
  sessions : s.ctl.sessions = w.ctl.sessions
  lockout : s.ctl.lockoutUntil = w.ctl.lockoutUntil
  run : s.ctl.challengeRun = w.ctl.challengeRun
  clk : s.clk = w.clk
  key : s.num Obj.accIntegratorCode = w.num Obj.accIntegratorCode

theorem Challenged.lockedOut {w s : State} (h : Challenged w s) : s.lockedOut = w.lockedOut := by
  rw [State.lockedOut, State.lockedOut, h.lockout, h.clk]

theorem Challenged.expected {w s : State} (h : Challenged w s) (nonce : Nat) : s.expected nonce = w.expected nonce := by
  rw [State.expected, State.expected, h.key]

theorem Challenged.requestSeen (w : State) : Challenged w w.requestSeen :=
  have h := Woken.requestSeen w
  ⟨congrArg Control.sessions h.ctl, congrArg Control.lockoutUntil h.ctl, congrArg Control.challengeRun h.ctl, h.clk, h.num (by decide)⟩

/-- A journal entry moves none of what a response is evaluated against. -/
theorem Challenged.journalReq {w s : State} (h : Challenged w s) (src : Src) (kind key : Nat) (raw : Bytes) :
    Challenged w (s.journalReq src kind key raw) := ⟨h.sessions, h.lockout, h.run, h.clk, h.key⟩

theorem Challenged.journalFailed {w s : State} (h : Challenged w s) (src : Src) (kind key code : Nat) :
    Challenged w (s.journalFailed src kind key code) := ⟨h.sessions, h.lockout, h.run, h.clk, h.key⟩

/-- The session of a good response holds level INTEGRATOR and no nonce (R44). -/
theorem State.answerChallenge_raises {s : State} {id : SessId} {n nonce until_ : Nat} (hfree : s.lockedOut = false)
    (hasked : (s.session? id).bind (fun y => y.challenge) = some (nonce, until_)) (htime : s.clk < until_)
    (hn : n = s.expected nonce) :
    let a := (s.answerChallenge id n).1
    (∃ y ∈ a.ctl.sessions, y.id = id ∧ y.level = .integrator ∧ y.challenge = none) ∧
    a.ctl.challengeRun = 0 ∧ a.ctl.lockoutUntil = none := by
  rw [State.answerChallenge_good hfree hasked htime hn]
  refine ⟨?_, rfl, rfl⟩
  obtain ⟨x, hx, -⟩ := Option.bind_eq_some_iff.mp hasked
  obtain ⟨hmem, hid⟩ := State.session?_some hx
  refine ⟨{ x with challenge := none, level := .integrator }, List.mem_map.mpr ⟨x, hmem, if_pos hid⟩, hid, rfl, rfl⟩

/-- A bad one counts, and the third in a row begins a lockout of 60 s; no session of the name holds a nonce (R44, R45). -/
theorem State.answerChallenge_counts {s : State} {id : SessId} {n : Nat} (hfree : s.lockedOut = false)
    (hbad : ∀ nonce until_, (s.session? id).bind (fun y => y.challenge) = some (nonce, until_) → s.clk < until_ →
      n ≠ s.expected nonce) :
    let a := (s.answerChallenge id n).1
    (∀ y ∈ a.ctl.sessions, y.id = id → y.challenge = none) ∧
    a.ctl.challengeRun = (if 3 ≤ s.ctl.challengeRun + 1 then 0 else s.ctl.challengeRun + 1) ∧
    a.ctl.lockoutUntil = (if 3 ≤ s.ctl.challengeRun + 1 then some (s.clk + 60000000000) else s.ctl.lockoutUntil) := by
  have hsessions : ∀ y ∈ (s.modSession id (fun x => { x with challenge := none })).ctl.sessions, y.id = id → y.challenge = none := by
    intro y hy hid
    obtain ⟨x, -, rfl⟩ := State.mem_modSession hy
    by_cases hx : x.id = id
    · rw [if_pos hx]
    · rw [if_neg hx] at hid
      exact absurd hid hx
  rw [State.answerChallenge_bad hfree hbad]
  by_cases h3 : 3 ≤ s.ctl.challengeRun + 1
  · simp only [if_pos h3]
    exact ⟨hsessions, trivial, trivial⟩
  · simp only [if_neg h3]
    exact ⟨hsessions, trivial, rfl⟩

/-- The second component of the evaluation says whether the response was good. -/
theorem State.answerChallenge_verdict_bad {s : State} {id : SessId} {n : Nat} (hfree : s.lockedOut = false)
    (hbad : ∀ nonce until_, (s.session? id).bind (fun y => y.challenge) = some (nonce, until_) → s.clk < until_ →
      n ≠ s.expected nonce) : (s.answerChallenge id n).2 = false := by
  rw [State.answerChallenge_bad hfree hbad]
  by_cases h3 : 3 ≤ s.ctl.challengeRun + 1
  · simp only [if_pos h3]
  · simp only [if_neg h3]

theorem Session.unreplied_fields {x y : Session} (h : y.unreplied = x.unreplied) :
    y.id = x.id ∧ y.level = x.level ∧ y.challenge = x.challenge :=
  ⟨(congrArg Session.id h :), (congrArg Session.level h :), (congrArg Session.challenge h :)⟩

/-- Settles O7: a read of CHALLENGE draws a nonce; a write of RESPONSE is evaluated against it. -/
theorem challengesAndResponses : Obligations.ChallengesAndResponses := by
  refine ⟨?_, ?_⟩
  · intro dt src s r u q w x hh hr
    have he := execute_challenge (src := src) hr
    rw [State.freshNonce_requestSeen] at he
    exact heard_completes (i := .challenge dt src) rfl hh (movesPort_of_opcode (by show Op.read ≠ Op.write; decide) _) he
  · intro dt src value s u q w asked ht hfree
    obtain ⟨r, -, hsize, -, happlied⟩ := takes_applies (i := .response dt src value) ht rfl (by decide) (by decide) (by decide) responseRow
    have hdone : Completes (.response dt src value) s (fun t => Answered
        (w.requestSeen.applyWrite src r Obj.accResponse (leBytes 4 value)).1 t src q
        (Answer.of (w.requestSeen.applyWrite src r Obj.accResponse (leBytes 4 value)).2)) := happlied
    -- what the evaluation reads is none of what an accepted request or its journal entry moves
    have hseen := Challenged.requestSeen w
    have hgoodEntry := hseen.journalReq src 1 Obj.accResponse (leBytes 4 value)
    have hbadEntry := hseen.journalFailed src 1 Obj.accResponse Code.challengeFailed
    have hasked : ∀ {z}, Challenged w z → (z.session? (srcId src)).bind (fun y => y.challenge) = asked := fun h => by
      rw [State.session?_congr h.sessions]
    refine ⟨fun nonce until_ hn htime hvalue => ?_, fun hbad => ?_⟩
    · have hgood : (w.requestSeen.answerChallenge (srcId src) (value % wrap32)).2 = true := by
        rw [State.answerChallenge_good (hseen.lockedOut.trans hfree) ((hasked hseen).trans hn) (hseen.clk ▸ htime)
          (hvalue.trans (hseen.expected nonce).symm)]
      rw [State.applyWrite_response hsize hgood] at hdone
      obtain ⟨⟨x, hx, hid, hlevel, hnone⟩, hrun, hlockout⟩ := State.answerChallenge_raises (hgoodEntry.lockedOut.trans hfree)
        ((hasked hgoodEntry).trans hn) (hgoodEntry.clk ▸ htime) (hvalue.trans (hgoodEntry.expected nonce).symm)
      refine hdone.imp (fun t h => ?_)
      obtain ⟨y, hy, hsame⟩ := h.mem_of hx
      obtain ⟨hid', hlevel', hchallenge'⟩ := Session.unreplied_fields hsame
      exact ⟨⟨y, hy, hid'.trans hid, hlevel'.trans hlevel, hchallenge'.trans hnone⟩, h.ctl_challengeRun.trans hrun,
        h.ctl_lockoutUntil.trans hlockout, h.answer⟩
    · have hwrong : ∀ {z}, Challenged w z → ∀ nonce until_, (z.session? (srcId src)).bind (fun y => y.challenge) =
          some (nonce, until_) → z.clk < until_ → value % wrap32 ≠ z.expected nonce := fun h nonce until_ hn htime =>
        (h.expected nonce).symm ▸ hbad nonce until_ ((hasked h).symm.trans hn) (h.clk ▸ htime)
      have hgood := State.answerChallenge_verdict_bad (hseen.lockedOut.trans hfree) (hwrong hseen)
      rw [State.applyWrite_response hsize hgood] at hdone
      obtain ⟨hsessions, hrun, hlockout⟩ := State.answerChallenge_counts (hbadEntry.lockedOut.trans hfree) (hwrong hbadEntry)
      rw [hbadEntry.run] at hrun hlockout
      rw [hbadEntry.clk, hbadEntry.lockout] at hlockout
      refine hdone.imp (fun t h => ⟨fun y hy hid => ?_, h.ctl_challengeRun.trans hrun, h.ctl_lockoutUntil.trans hlockout, h.answer⟩)
      obtain ⟨x, hx, hsame⟩ := h.of_mem hy
      obtain ⟨hid', -, hchallenge'⟩ := Session.unreplied_fields hsame
      exact hchallenge'.symm.trans (hsessions x hx (hid'.trans hid))

end Sys2Proof.Machine
end

section
/-! PROOFS. The actions of the control cluster: the staging area, the commit request, access levels and the digest (O20, O21, parts
of O8, O24). -/

namespace Sys2Proof.Machine

/-! ## Keys of actions -/

/-- The key of an action that a command writes as a number: its row, and that it is none of the objects with outcomes of their own. -/
abbrev ActionKey (key : Nat) : Prop :=
  NumberRow key .ex ∧ key < 65536 * 256 ∧ key % 256 ≠ 0 ∧ key ≠ Obj.ydpYdpPort ∧ key ≠ Obj.accResponse ∧ isAck key = false

/-- An action whose writes are journalled: it completes in its effect after the entry. -/
theorem takes_journalled {i : Instr} {s : State} {src : Src} {key size value : Nat}
    (ht : (s.advance i.dt).takes src (Req.ofNumber key size value))
    (hi : i.request = some (src.normal, (Req.ofNumber key size value).normal)) (hkey : ActionKey key) (hj : journalled key = true) :
    Completes i s (fun t => Answered
      ((((s.advance i.dt).heard src).requestSeen.journalReq src 4 key (leBytes size value)).exWrite src key (value % 256 ^ size))
      t src (Req.ofNumber key size value) (Answer.of Code.ok)) := by
  obtain ⟨hrow, hfits, hsub, hport, hresponse, hack⟩ := hkey
  have h := takes_action ht hi hfits hsub hport hrow hresponse hack
  simpa only [hj, if_true] using h

/-- One that makes its own entry. -/
theorem takes_unjournalled {i : Instr} {s : State} {src : Src} {key size value : Nat}
    (ht : (s.advance i.dt).takes src (Req.ofNumber key size value))
    (hi : i.request = some (src.normal, (Req.ofNumber key size value).normal)) (hkey : ActionKey key) (hj : journalled key = false) :
    Completes i s (fun t => Answered (((s.advance i.dt).heard src).requestSeen.exWrite src key (value % 256 ^ size))
      t src (Req.ofNumber key size value) (Answer.of Code.ok)) := by
  obtain ⟨hrow, hfits, hsub, hport, hresponse, hack⟩ := hkey
  have h := takes_action ht hi hfits hsub hport hrow hresponse hack
  simpa only [hj, Bool.false_eq_true, if_false] using h

theorem stagingAction : ActionKey Obj.stgStaging := by decide +kernel
theorem commitAction : ActionKey Obj.cmCommit := by decide +kernel
theorem digestAction : ActionKey Obj.jrDigestStart := by decide +kernel

/-! ## The staging area -/

theorem State.exWrite_staging (s : State) (src : Src) (n : Nat) : s.exWrite src Obj.stgStaging n = s.stagingCommand src n := rfl

theorem Answered.ctl_staging {a t : State} {src : Src} {q : Req} {ans : Answer} (h : Answered a t src q ans) :
    t.ctl.staging = a.ctl.staging := (congrArg (fun s : State => s.ctl.staging) h.same :)

theorem Answered.staged {a t : State} {src : Src} {q : Req} {ans : Answer} (h : Answered a t src q ans) :
    t.dict.staged = a.dict.staged := (congrArg (fun s : State => s.dict.staged) h.same :)

/-- OPEN of a free area gives it to the session (R91). -/
theorem State.stagingCommand_open {s : State} {src : Src} (h : s.ctl.staging.holder = none) :
    s.stagingCommand src 1 = (((s.journalReq src 5 Obj.stgStaging [1, 0]).modStaging (fun g => { g with
      holder := some (srcId src) })).stagingWrite).putNum Obj.stgStaging 2 := by
  unfold State.stagingCommand
  simp only [h, reduceCtorEq, and_false, if_false, show ¬ (1 = 2) from by decide]
  rfl

/-- RELEASE frees it (R91, R92). -/
theorem State.stagingCommand_release {s : State} {src : Src} {h : SessId} (hh : s.ctl.staging.holder = some h) :
    s.stagingCommand src 2 = (s.journalReq src 5 Obj.stgStaging [2, 0]).releaseStaging.putNum Obj.stgStaging 2 := by
  unfold State.stagingCommand
  simp only [hh, if_pos]
  rfl

/-- SEIZE frees it and takes it (R91). -/
theorem State.stagingCommand_seize {s : State} {src : Src} {h : SessId} (hh : s.ctl.staging.holder = some h) :
    s.stagingCommand src 3 = (((s.journalReq src 5 Obj.stgStaging [3, 0]).releaseStaging.modStaging (fun g => { g with
      holder := some (srcId src) })).stagingWrite).putNum Obj.stgStaging 2 := by
  unfold State.stagingCommand
  simp only [hh, show ¬ (3 = 2) from by decide, show ¬ (3 = 1) from by decide, if_false, false_and]
  rfl

/-- A released area has no holder and no staged value (R92). -/
theorem State.releaseStaging_free (s : State) : s.releaseStaging.ctl.staging.holder = none ∧ s.releaseStaging.dict.staged = [] := ⟨rfl, rfl⟩

theorem Settled.ctl_staging {a t : State} (h : Settled a t) : t.ctl.staging = a.ctl.staging :=
  (congrArg (fun s : State => s.ctl.staging) h.same :)

theorem Settled.staged {a t : State} (h : Settled a t) : t.dict.staged = a.dict.staged :=
  (congrArg (fun s : State => s.dict.staged) h.same :)

/-- Settles O20. -/
theorem stagingIsHeldAndReleased : Obligations.StagingIsHeldAndReleased := by
  refine ⟨?_, ?_⟩
  · intro dt src s u w q a take
    have hseen := Woken.requestSeen w
    have hholder : w.requestSeen.ctl.staging.holder = w.ctl.staging.holder := congrArg (fun c => c.staging.holder) hseen.ctl
    refine ⟨fun ht hfree => ?_, fun ht hh => ?_, fun h ht hh => ?_⟩
    · have h := takes_unjournalled (i := .openStaging dt src) ht rfl stagingAction rfl
      rw [State.exWrite_staging] at h
      refine (State.stagingCommand_open (hholder.trans hfree) ▸ h).imp (fun t h => ⟨h, ?_, ?_⟩)
      · rw [h.ctl_staging]
        rfl
      · rw [h.ctl_staging]
        exact hseen.clk
    · have h := takes_unjournalled (i := .releaseStaging dt src) ht rfl stagingAction rfl
      rw [State.exWrite_staging] at h
      refine (State.stagingCommand_release (hholder.trans hh) ▸ h).imp (fun t h => ⟨h, ?_, ?_⟩)
      · rw [h.ctl_staging]
        rfl
      · rw [h.staged]
        rfl
    · have h := takes_unjournalled (i := .seize dt src) ht rfl stagingAction rfl
      rw [State.exWrite_staging] at h
      refine (State.stagingCommand_seize (hholder.trans hh) ▸ h).imp (fun t h => ⟨h, ?_, ?_⟩)
      · rw [h.ctl_staging]
        rfl
      · rw [h.staged]
        rfl
  · intro dt s u hruns hholder hcheck hidle
    refine State.run_completes (exec_stagingIdle s dt) hruns (fun t h _ _ => ?_)
    have hmode : u.ctl.mode.operating = true ∧ u.power.state ≠ .deep := by simpa [State.unitsRun] using hruns
    have heffect : u.stagingIdle = u.moduleRelease 2 := by
      unfold State.stagingIdle
      exact if_pos ⟨hholder, by rw [hcheck]; rfl, hidle, hmode.1, hmode.2⟩
    have h' : Settled u.stagingIdle t := h
    rw [heffect] at h'
    exact ⟨h', congrArg Staging.holder h'.ctl_staging, h'.staged⟩

/-! ## The commit request -/

theorem State.exWrite_commit (s : State) (src : Src) (n : Nat) : s.exWrite src Obj.cmCommit n = s.commitRequest src n := rfl

/-- Settles O21. -/
theorem commitRequestFreezesTheArea : Obligations.CommitRequestFreezesTheArea := by
  intro dt src s u w v c frozen q
  have hseen := Woken.requestSeen w
  have hstaged : w.dict.staged = v.dict.staged := (congrArg Dict.staged hseen.dict :).symm
  have hclk : w.clk = v.clk := hseen.clk.symm
  have hfrozen : ∀ command, v.commitRequest src command = frozen command := fun command => by
    simp only [frozen, c, hstaged, hclk]
    rfl
  refine ⟨fun ht => ?_, fun ht => ?_⟩
  · have h := takes_unjournalled (i := .commit dt src) ht rfl commitAction rfl
    exact hfrozen 1 ▸ h
  · have h := takes_unjournalled (i := .checkOnly dt src) ht rfl commitAction rfl
    exact hfrozen 2 ▸ h

/-! ## The digest -/

theorem State.exWrite_digest (s : State) (src : Src) (n : Nat) : s.exWrite src Obj.jrDigestStart n = s.digestStart := rfl

theorem State.digestResult_some {u : State} {kv : Kv} {head at_ : Nat} (h : u.ctl.journal.digest = some (kv, head, at_)) :
    u.digestResult = ((u.modJournal (fun j => { j with digest := none })).putNum Obj.jrDigestStart 2).completeResult Obj.digResult
      (some u.ctl.staging.lastEpoch) (u.digestData kv head) := by
  unfold State.digestResult
  simp only [h]

/-! ## The mirror and the log -/

theorem Settled.ctl_journal {a t : State} (h : Settled a t) : t.ctl.journal = a.ctl.journal :=
  (congrArg (fun s : State => s.ctl.journal) h.same :)

theorem Settled.ctl_errlog {a t : State} (h : Settled a t) : t.ctl.errlog = a.ctl.errlog :=
  (congrArg (fun s : State => s.ctl.errlog) h.same :)

/-- One entry mirrored: its slot, its commit word, and the next time one may be (R105, R106). -/
theorem State.mirrorPut_journal (s : State) (seq : Nat) (e : Bytes) :
    (s.mirrorPut seq e).ctl.journal = { s.ctl.journal with
      mirrored := seq, lastMirror := s.clk + 250, replaced := s.ctl.journal.mirror.find? (fun q => q.slot = seq % 2048),
      mirror := { slot := seq % 2048, data := e, commit := seq * 2 ^ 32 + crc32c e } ::
        s.ctl.journal.mirror.filter (fun q => q.slot ≠ seq % 2048) } := by
  unfold State.mirrorPut
  split
  · rfl
  · rfl

theorem State.mirrorWrite_due {s : State} {seq : Nat} {e : Bytes} {rest : List (Nat × Bytes)} (hw : s.ctlWrites = true)
    (hdue : s.ctl.journal.lastMirror + 3999750 ≤ s.clk) (hnext : s.ctl.journal.unmirrored = (seq, e) :: rest) :
    s.mirrorWrite = s.mirrorPut seq e := by
  unfold State.mirrorWrite
  simp only [hw, hdue, hnext, and_self, if_true]

theorem State.mirrorWrite_early {s : State} (hearly : s.clk < s.ctl.journal.lastMirror + 3999750) : s.mirrorWrite = s := by
  unfold State.mirrorWrite
  exact if_neg (fun h => absurd h.2 (Nat.not_le.mpr hearly))

/-- The record at the head of the queue goes to its slot under the next SEQ (R508, R510). -/
theorem State.logPutNext_cons {s : State} {r : Bytes} {rest : List Bytes} (h : s.ctl.errlog.queue = r :: rest) :
    let seq := (s.num Obj.logLogHead + 1) % wrap32
    let l := s.ctl.errlog
    s.logPutNext = (s.modErrLog (fun _ => { l with
      queue := rest ++ l.reserve.take (64 - rest.length), reserve := l.reserve.drop (64 - rest.length),
      lastWrite := s.clk + 250, replaced := l.slots.find? (fun q => q.slot = seq % 2048),
      slots := MramRecord.of seq (leBytes 4 seq ++ r.drop 4) :: l.slots.filter (fun q => q.slot ≠ seq % 2048) })).putKept
        Obj.logLogHead (.num seq) := by
  unfold State.logPutNext
  simp only [h]
  rfl

/-- The next record put with the tokens that are left. -/
theorem State.logPutNext_taken {s : State} {tokens clk : Nat} {r : Bytes} {rest : List Bytes} (h : s.ctl.errlog.queue = r :: rest) :
    let seq := (s.num Obj.logLogHead + 1) % wrap32
    let l := s.ctl.errlog
    let a := (s.modErrLog (fun l => { l with tokens := tokens, tokenClock := clk })).logPutNext
    a.num Obj.logLogHead = seq ∧ a.ctl.errlog = { l with
      tokens := tokens, tokenClock := clk, queue := rest ++ l.reserve.take (64 - rest.length),
      reserve := l.reserve.drop (64 - rest.length), lastWrite := s.clk + 250,
      replaced := l.slots.find? (fun q => q.slot = seq % 2048),
      slots := MramRecord.of seq (leBytes 4 seq ++ r.drop 4) :: l.slots.filter (fun q => q.slot ≠ seq % 2048) } := by
  have hput := State.logPutNext_cons (s := s.modErrLog (fun l => { l with tokens := tokens, tokenClock := clk }))
    (r := r) (rest := rest) h
  rw [hput]
  refine ⟨?_, rfl⟩
  simp only [State.num, State.val_putKept_same, Val.toNat]
  rfl

/-- A record written when a token is at hand (R508, R510). -/
theorem State.logWrite_due {s : State} {r : Bytes} {rest : List Bytes} (hw : s.ctlWrites = true)
    (hq : s.ctl.errlog.queue = r :: rest) (ht : 10000000 ≤ s.logTokens) :
    let seq := (s.num Obj.logLogHead + 1) % wrap32
    let l := s.ctl.errlog
    s.logWrite.num Obj.logLogHead = seq ∧ s.logWrite.ctl.errlog = { l with
      tokens := s.logTokens - 10000000, tokenClock := s.clk, queue := rest ++ l.reserve.take (64 - rest.length),
      reserve := l.reserve.drop (64 - rest.length), lastWrite := s.clk + 250,
      replaced := l.slots.find? (fun q => q.slot = seq % 2048),
      slots := MramRecord.of seq (leBytes 4 seq ++ r.drop 4) :: l.slots.filter (fun q => q.slot ≠ seq % 2048) } := by
  have hne : s.ctl.errlog.queue ≠ [] := hq ▸ List.cons_ne_nil _ _
  have hwrite : s.logWrite = (s.modErrLog (fun l => { l with tokens := s.logTokens - 10000000, tokenClock := s.clk })).logPutNext := by
    simp only [State.logWrite, State.logTake, hw, if_true, hne, ht, ne_eq, not_false_eq_true, and_self]
  rw [hwrite]
  exact State.logPutNext_taken hq

theorem State.logWrite_early {s : State} (ht : s.logTokens < 10000000) : s.logWrite = s := by
  have hnot : ¬ (10000000 ≤ s.logTokens) := Nat.not_le.mpr ht
  simp only [State.logWrite, State.logTake, hnot, and_false, if_false, ite_self]

/-- Settles O24. -/
theorem digestMirrorAndLog : Obligations.DigestMirrorAndLog := by
  refine ⟨⟨?_, ?_⟩, ?_, ?_⟩
  · intro dt src value s u q w ht a
    have h := takes_journalled (i := .digestStart dt src value) ht rfl digestAction rfl
    have hclk : a.clk = w.clk := (Woken.requestSeen w).clk
    rw [State.exWrite_digest] at h
    rw [← hclk]
    exact h
  · intro dt s kv head at_ u hruns hdigest
    refine State.run_completes (exec_digestResult s dt) hruns (fun t h _ _ => ?_)
    rw [State.digestResult_some hdigest] at h
    exact h
  · intro dt seq e rest s u j hw
    refine ⟨fun hdue hnext => ?_, fun hearly => ?_⟩
    · refine State.run_completes (exec_mirrorWrite s dt) rfl (fun t h _ _ => ?_)
      rw [State.mirrorWrite_due hw hdue hnext] at h
      exact h.ctl_journal.trans (State.mirrorPut_journal u seq e)
    · refine State.run_completes (exec_mirrorWrite s dt) rfl (fun t h _ _ => ?_)
      rw [State.mirrorWrite_early hearly] at h
      exact h
  · intro dt r rest s u l seq hw hq
    refine ⟨fun ht => ?_, fun ht => ?_⟩
    · obtain ⟨hhead, hlog⟩ := State.logWrite_due hw hq ht
      refine State.run_completes (exec_logWrite s dt) rfl (fun t h _ _ => ?_)
      have h' : Settled u.logWrite t := h
      exact ⟨(h'.num (by decide)).trans hhead, h'.ctl_errlog.trans hlog⟩
    · refine State.run_completes (exec_logWrite s dt) rfl (fun t h _ _ => ?_)
      rw [State.logWrite_early ht] at h
      exact h

end Sys2Proof.Machine
end

section
/-! PROOFS. Sessions that close, writes of RW numbers, access levels, defaults and the YDP port (O8, O17). -/

namespace Sys2Proof.Machine

/-! ## A session closes -/

/-- What a session's end moves in the dictionary: the commit parameters, and the staged values (R92). -/
structure Closed (a b : State) : Prop where
  part : b.ctl.part = a.ctl.part
  id : b.pins.id = a.pins.id
  moves : b.ctl.i3c = a.ctl.i3c
  get : ∀ key, key / 256 ≠ 0x1120 → Kv.get? b.dict.inForce key = Kv.get? a.dict.inForce key
  out : b.out = a.out
  eths : b.eths = a.eths
  raised : b.fabric.raised = a.fabric.raised

namespace Closed

theorem refl (a : State) : Closed a a := ⟨rfl, rfl, rfl, fun _ _ => rfl, rfl, rfl, rfl⟩

theorem trans {a b c : State} (h : Closed a b) (k : Closed b c) : Closed a c :=
  ⟨k.part.trans h.part, k.id.trans h.id, k.moves.trans h.moves, fun key hk => (k.get key hk).trans (h.get key hk),
    k.out.trans h.out, k.eths.trans h.eths, k.raised.trans h.raised⟩

theorem num {a b : State} (h : Closed a b) {key : Nat} (hk : key / 256 ≠ 0x1120) : b.num key = a.num key := by
  unfold State.num State.val State.valIn State.dfltOf
  rw [h.get key hk, h.part, h.id]

theorem spread (s : State) {key : Nat} (v : Val) (hk : key / 256 = 0x1120) : Closed s (s.spread key v) :=
  ⟨rfl, rfl, rfl, fun other ho => Kv.get?_put_other _ _ (by rintro rfl; exact ho hk), rfl, rfl, rfl⟩

theorem foldMem {α : Type} {f : State → α → State} (l : List α) (h : ∀ s x, x ∈ l → Closed s (f s x)) (s : State) :
    Closed s (l.foldl f s) := by
  induction l generalizing s with
  | nil => exact refl s
  | cons x r ih => exact (h s x (List.mem_cons_self)).trans (ih (fun s y hy => h s y (List.mem_cons_of_mem _ hy)) _)

theorem releaseStaging (s : State) : Closed s s.releaseStaging := by
  have hparams : Closed s ((rangeFrom 2 7).foldl (fun acc sub => acc.spread (objKey 0x1120 sub) (acc.dfltOf (objKey 0x1120 sub))) s) := by
    refine foldMem _ (fun z sub hsub => spread z _ ?_) s
    have hlt : sub < 256 := by
      simp only [rangeFrom, List.mem_map, List.mem_range] at hsub
      omega
    unfold objKey
    omega
  exact hparams.trans ⟨rfl, rfl, rfl, fun _ _ => rfl, rfl, rfl, rfl⟩

theorem moduleRelease (s : State) (cause : Nat) : Closed s (s.moduleRelease cause) :=
  (Closed.trans (b := s.journalOwn 5 [2, BitVec.ofNat 8 cause]) ⟨rfl, rfl, rfl, fun _ _ => rfl, rfl, rfl, rfl⟩ (releaseStaging _))

/-- A BLOB transfer given up moves no session, no value and no path (R71). -/
theorem dropTransfer (s : State) : Closed s s.dropTransfer ∧ s.dropTransfer.ctl.sessions = s.ctl.sessions := by
  unfold State.dropTransfer
  cases s.ctl.transfer with
  | none => exact ⟨refl s, rfl⟩
  | some t =>
    dsimp only
    cases tableOf t.key with
    | some v =>
      simp only [State.loadDropped]
      split
      · exact ⟨⟨rfl, rfl, rfl, fun _ _ => rfl, rfl, rfl, rfl⟩, rfl⟩
      · exact ⟨⟨rfl, rfl, rfl, fun _ _ => rfl, rfl, rfl, rfl⟩, rfl⟩
    | none =>
      dsimp only
      cases modelOf t.key with
      | some n => exact ⟨⟨rfl, rfl, rfl, fun _ _ => rfl, rfl, rfl, rfl⟩, rfl⟩
      | none => exact ⟨⟨rfl, rfl, rfl, fun _ _ => rfl, rfl, rfl, rfl⟩, rfl⟩

end Closed

/-- A session's BLOB transfer given up as it closes (R71). -/
def State.transferLeft (s : State) (id : SessId) : State :=
  match s.ctl.transfer with | some t => if t.session = id then s.dropTransfer else s | none => s

/-- The staging area that a closing session holds, released at once or when its commit's result is presented (R92). -/
def State.areaLeft (s : State) (id : SessId) : State :=
  if s.ctl.staging.holder = some id then
    match s.ctl.staging.check with
    | some c => s.modStaging (fun g => { g with check := some { c with holderClosed := true } })
    | none => s.moduleRelease 1
  else s

theorem State.closeSession_eq (s : State) (id : SessId) : s.closeSession id =
    (let z := (s.transferLeft id).areaLeft id
     { z with ctl := { z.ctl with sessions := z.ctl.sessions.filter (fun x => x.id ≠ id) } }) := rfl

theorem State.transferLeft_closed (s : State) (id : SessId) :
    Closed s (s.transferLeft id) ∧ (s.transferLeft id).ctl.sessions = s.ctl.sessions := by
  unfold State.transferLeft
  split
  · split
    · exact Closed.dropTransfer s
    · exact ⟨Closed.refl s, rfl⟩
  · exact ⟨Closed.refl s, rfl⟩

theorem State.areaLeft_closed (s : State) (id : SessId) :
    Closed s (s.areaLeft id) ∧ (s.areaLeft id).ctl.sessions = s.ctl.sessions := by
  unfold State.areaLeft
  split
  · split
    · exact ⟨⟨rfl, rfl, rfl, fun _ _ => rfl, rfl, rfl, rfl⟩, rfl⟩
    · exact ⟨Closed.moduleRelease s 1, rfl⟩
  · exact ⟨Closed.refl s, rfl⟩

/-- The releases and the transfer apart, closing a session takes those of its name out of the list (R65). -/
theorem State.closeSession_closed (s : State) (id : SessId) :
    Closed s (s.closeSession id) ∧ (s.closeSession id).ctl.sessions = s.ctl.sessions.filter (fun x => x.id ≠ id) := by
  obtain ⟨h1, hs1⟩ := s.transferLeft_closed id
  obtain ⟨h2, hs2⟩ := (s.transferLeft id).areaLeft_closed id
  rw [State.closeSession_eq, ← hs1, ← hs2]
  exact ⟨(h1.trans h2).trans ⟨rfl, rfl, rfl, fun _ _ => rfl, rfl, rfl, rfl⟩, rfl⟩

theorem State.closeSession_sessions (s : State) (id : SessId) :
    (s.closeSession id).ctl.sessions = s.ctl.sessions.filter (fun x => x.id ≠ id) := (s.closeSession_closed id).2

/-- Every YDP session closed, none but the I3C session is left (R551). -/
theorem State.closeAll_closed (s : State) : Closed s s.closeAll ∧ ∀ y ∈ s.closeAll.ctl.sessions, y.id = .i3c := by
  have hfold : ∀ (l : List Session) (z : State), ∀ y ∈ (l.foldl (fun acc x => acc.closeSession x.id) z).ctl.sessions,
      y ∈ z.ctl.sessions ∧ ∀ x ∈ l, y.id ≠ x.id := by
    intro l
    induction l with
    | nil => exact fun z y hy => ⟨hy, fun _ hx => absurd hx List.not_mem_nil⟩
    | cons x r ih =>
      intro z y hy
      obtain ⟨hmem, hrest⟩ := ih _ y hy
      rw [State.closeSession_sessions, List.mem_filter] at hmem
      refine ⟨hmem.1, fun w hw => ?_⟩
      rcases List.mem_cons.mp hw with rfl | hw
      · exact of_decide_eq_true hmem.2
      · exact hrest w hw
  refine ⟨Closed.foldMem _ (fun z x _ => (z.closeSession_closed x.id).1) s, fun y hy => ?_⟩
  obtain ⟨hmem, hnone⟩ := hfold _ _ y hy
  refine Classical.byContradiction fun hne => ?_
  exact hnone y (List.mem_filter.mpr ⟨hmem, decide_eq_true hne⟩) rfl

/-! ## A moved YDP port -/

/-- A request on I3C that moves the port leaves the move for the response's reading (R551). -/
theorem State.dictionary_moves_i3c {u : State} {tag : Nat} {q : Req} (h : u.hears (.i3c tag) q) (hq : q.normal = q)
    (hm : movesPort q (u.i3cFresh.execute (.i3c tag) u.i3cSession q).2 = true) :
    let a := (u.i3cFresh.execute (.i3c tag) u.i3cSession q).1
    (u.dictionary (.i3c tag) q).ctl.i3c.moves = true ∧
    ∀ key, ownStatus key = false → (u.dictionary (.i3c tag) q).num key = a.num key := by
  obtain ⟨hn, hup, hfresh⟩ := h
  have htag : tag % 256 = tag := by simpa [Src.normal] using hn
  have hrequest : u.dictionary (.i3c tag) q = u.i3cExecute tag q := by
    have hd : u.dictionary (.i3c tag) q = u.i3cRequest (tag % 256) q.normal := rfl
    rw [hd, htag, hq]
    unfold State.i3cRequest
    simp only [hup, Bool.not_true, Bool.false_eq_true, if_false]
    cases ha : u.ctl.i3c.answer with
    | none => rfl
    | some y =>
      have hnew : u.ctl.i3c.previous ≠ some (tag, q) := hfresh.resolve_left (by rw [ha]; exact Option.some_ne_none y)
      simp only [hnew, if_false]
  have hsession : u.i3cFresh.i3cSession = u.i3cSession := rfl
  rw [hrequest]
  unfold State.i3cExecute
  dsimp only
  rw [hsession, if_pos hm]
  refine ⟨rfl, fun key hkey => ?_⟩
  unfold State.i3cReady
  exact (Settled.event _ _).num hkey

/-- An answer sent on YDP moves no value but those of the settling. -/
theorem State.ydpAnswer_num (s : State) (e ip port sess seq : Nat) (r : Resp) {key : Nat} (hkey : ownStatus key = false) :
    (s.ydpAnswer e ip port sess seq r).num key = s.num key :=
  ((Settled.tx _ _ _).num hkey).trans ((Asked.resolve s e ip).num key)

/-- A request of an open YDP session from its address (R65). -/
theorem State.dictionary_ydp {u w : State} {e ip port sess seq : Nat} {q : Req} {x : Session}
    (h : u.serves (.ydp e ip port sess seq) q w x) (hn : seq % wrap32 = seq) (hq : q.normal = q) (hopen : q.opcode ≠ Op.sessionOpen) :
    u.dictionary (.ydp e ip port sess seq) q = w.ydpOrdered e ip port sess seq x q := by
  obtain ⟨hup, hmode, hsession, hip, hport, -, hw⟩ := h
  have hd : u.dictionary (.ydp e ip port sess seq) q = u.ydpRequest e ip port sess (seq % wrap32) q.normal := rfl
  have hmode' : (u.rx e).ctl.mode ≠ .boot := hmode
  have hsession' : (u.rx e).session? (.ydp sess) = some x := hsession
  have hplace : ¬ (x.ip ≠ ip ∨ x.port ≠ port) := by simp [hip, hport]
  rw [hd, hn, hq]
  unfold State.ydpRequest
  simp only [hup, Bool.not_true, Bool.false_eq_true, if_false, hmode', hopen, hsession', hplace, hw]
  rfl

/-- A request in order on YDP that is none of those with an order of their own: executed, kept, answered, and with a moved port the
sessions closed (R65, R66, R551). -/
theorem State.dictionary_ordered {u w : State} {e ip port sess seq : Nat} {q : Req} {x : Session}
    (h : u.serves (.ydp e ip port sess seq) q w x) (hn : seq % wrap32 = seq) (hq : q.normal = q)
    (hopen : q.opcode ≠ Op.sessionOpen) (hclose : q.opcode ≠ Op.sessionClose) (hblock : q.opcode ≠ Op.blockData) :
    let a := w.execute (.ydp e ip port sess seq) x q
    let r := q.respond a.2
    u.dictionary (.ydp e ip port sess seq) q =
      (let z := (if a.2.executed then a.1.modSession x.id (fun y => { y.keep seq r with highSeq := seq }) else a.1).ydpAnswer
        e ip port sess seq r
       if movesPort q a.2 then z.closeAll else z) := by
  obtain ⟨-, -, -, -, -, horder, -⟩ := id h
  obtain ⟨hkept, hlater⟩ := horder.resolve_left hblock
  rw [State.dictionary_ydp h hn hq hopen]
  unfold State.ydpOrdered
  simp only [hblock, if_false, hkept, hlater, Bool.not_true, Bool.false_eq_true, hclose]

/-- One on YDP closes every YDP session with the write (R551). -/
theorem State.dictionary_moves_ydp {u w : State} {e ip port sess seq : Nat} {q : Req} {x : Session}
    (h : u.serves (.ydp e ip port sess seq) q w x) (hn : seq % wrap32 = seq) (hq : q.normal = q) (hop : q.opcode = Op.write)
    (hm : movesPort q (w.execute (.ydp e ip port sess seq) x q).2 = true) :
    (∀ y ∈ (u.dictionary (.ydp e ip port sess seq) q).ctl.sessions, y.id = .i3c) ∧
    ∀ key, ownStatus key = false → key / 256 ≠ 0x1120 →
      (u.dictionary (.ydp e ip port sess seq) q).num key = (w.execute (.ydp e ip port sess seq) x q).1.num key := by
  have hd := State.dictionary_ordered h hn hq (hop ▸ by decide) (hop ▸ by decide) (hop ▸ by decide)
  dsimp only at hd
  rw [if_pos hm] at hd
  rw [hd]
  obtain ⟨hclosed, hnone⟩ := State.closeAll_closed ((if (w.execute (.ydp e ip port sess seq) x q).2.executed then
    (w.execute (.ydp e ip port sess seq) x q).1.modSession x.id (fun y =>
      { y.keep seq (q.respond (w.execute (.ydp e ip port sess seq) x q).2) with highSeq := seq })
    else (w.execute (.ydp e ip port sess seq) x q).1).ydpAnswer e ip port sess seq
      (q.respond (w.execute (.ydp e ip port sess seq) x q).2))
  refine ⟨hnone, fun key hkey hparam => ?_⟩
  rw [hclosed.num hparam, State.ydpAnswer_num _ _ _ _ _ _ _ hkey]
  split <;> rfl

/-! ## Writes of RW numbers -/

theorem ydpPortRow : NumberRow Obj.ydpYdpPort .rw := by decide +kernel

/-- A value put in force reads as it was put (R40). -/
theorem State.num_rwPut_same (s : State) (r : ObjRow) (key n : Nat) : (s.rwPut r key (.num n)).num key = n := by
  have hspread : ∀ z : State, (z.spread key (.num n)).num key = n := fun z => by
    simp only [State.num, State.val, State.valIn, State.spread, Kv.get?_put_same]
    rfl
  unfold State.rwPut
  dsimp only
  split
  · exact hspread _
  · exact hspread _

/-- A write of an RW number completes in the value put and what the new value does. -/
theorem State.applyWrite_rw {w : State} {src : Src} {r : ObjRow} {key size value : Nat} (hacc : r.acc = .rw)
    (hsize : r.ty.size ≠ 0) (hresponse : key ≠ Obj.accResponse) (hack : isAck key = false) (hheld : heldByUnit key = false)
    (hj : journalled key = true) :
    let j := w.journalReq src 1 key (leBytes size value)
    w.applyWrite src r key (leBytes size value) = ((j.rwPut r key (.num (value % 256 ^ size))).rwHook j key, Code.ok) := by
  rw [State.applyWrite_ordinary hresponse hack, State.journalWrite_number hsize, Ty.decode_leBytes hsize, if_pos hj,
    writeKind_rw hacc]
  simp only [State.writeEffect, hacc, State.rwWrite, hheld, Bool.false_eq_true, if_false]

/-- YDP_PORT's new value does nothing beyond being in force (R551). -/
theorem State.rwHook_ydpPort (s old : State) : s.rwHook old Obj.ydpYdpPort = s := rfl

theorem Settled.ctl_moves {a t : State} (h : Settled a t) : t.ctl.i3c.moves = a.ctl.i3c.moves :=
  (congrArg (fun s : State => s.ctl.i3c.moves) h.same :)

/-- Every session after the settling is one before it, but for its notifications. -/
theorem Settled.of_mem {a t : State} (h : Settled a t) {y : Session} (hy : y ∈ t.ctl.sessions) :
    ∃ x ∈ a.ctl.sessions, ({ x with notified := 0 } : Session) = { y with notified := 0 } := by
  have e : t.ctl.sessions.map (fun (x : Session) => { x with notified := 0 }) =
      a.ctl.sessions.map (fun (x : Session) => { x with notified := 0 }) := (congrArg (fun s : State => s.ctl.sessions) h.same :)
  have hmem : ({ y with notified := 0 } : Session) ∈ t.ctl.sessions.map (fun (x : Session) => { x with notified := 0 }) :=
    List.mem_map_of_mem (f := fun (x : Session) => ({ x with notified := 0 } : Session)) hy
  rw [e] at hmem
  exact List.mem_map.mp hmem

theorem Settled.only_i3c {a t : State} (h : Settled a t) (ha : ∀ y ∈ a.ctl.sessions, y.id = .i3c) : ∀ y ∈ t.ctl.sessions, y.id = .i3c := by
  intro y hy
  obtain ⟨x, hx, e⟩ := h.of_mem hy
  exact (congrArg Session.id e).symm.trans (ha x hx)

theorem dropLevelAction : ActionKey Obj.accDropLevel := by decide +kernel
theorem restoreDefaultsAction : ActionKey Obj.accRestoreDefaults := by decide +kernel

/-- What an accepted write of YDP_PORT executes: the value is in force, and the port has moved (R551). -/
theorem execute_ydpPort {w : State} {src : Src} {x : Session} {r : ObjRow} {value : Nat}
    (hr : w.acceptsWrite src x (Req.ofNumber Obj.ydpYdpPort 2 value) r) :
    let a := w.execute src x (Req.ofNumber Obj.ydpYdpPort 2 value)
    a.1.num Obj.ydpYdpPort = value % 65536 ∧ movesPort (Req.ofNumber Obj.ydpYdpPort 2 value) a.2 = true := by
  have hat : (Req.ofNumber Obj.ydpYdpPort 2 value).at_ = Obj.ydpYdpPort % 256 := Req.at_of_sub_ne_zero (show Obj.ydpYdpPort % 256 ≠ 0 by decide)
  obtain ⟨hacc, hsize⟩ := ydpPortRow r (hat ▸ hr.names.row)
  have he := execute_write hr
  rw [Req.ofNumber_key (by decide)] at he
  have happly := State.applyWrite_rw (w := w.requestSeen) (src := src) (value := value) (size := 2) hacc hsize
    (key := Obj.ydpYdpPort) (by decide) (by decide) (by decide +kernel) (by decide)
  dsimp only at happly
  rw [State.rwHook_ydpPort] at happly
  rw [he]
  change (w.requestSeen.applyWrite src r Obj.ydpYdpPort (leBytes 2 value)).1.num Obj.ydpYdpPort = _ ∧
    movesPort _ (Answer.of (w.requestSeen.applyWrite src r Obj.ydpYdpPort (leBytes 2 value)).2) = true
  rw [happly]
  refine ⟨State.num_rwPut_same _ _ _ _, ?_⟩
  simp only [movesPort, Answer.of, Req.ofNumber_opcode, Req.ofNumber_object, decide_true, Bool.and_self]

/-- What a sent response covers and ends moves nothing of the path itself (R70, R77). -/
theorem State.markRead_i3c (s : State) (key : Nat) : (s.markRead key).ctl.i3c = s.ctl.i3c := by
  unfold State.markRead
  split <;> rfl

theorem State.resultSent_i3c (s : State) : s.resultSent.ctl.i3c = s.ctl.i3c := by
  unfold State.resultSent
  split
  · split
    · exact s.markRead_i3c _
    · rfl
  · rfl

theorem State.snapshotSent_i3c (s : State) : s.snapshotSent.ctl.i3c = s.ctl.i3c := by
  unfold State.snapshotSent
  split <;> rfl

/-- The response after a moved port closes the YDP sessions, once (R551). -/
theorem State.responseSent_moved {s : State} {x : Resp} (hcode : x.code ≠ Code.frameCheck) (hmoves : s.ctl.i3c.moves = true) :
    (s.responseSent x).ctl.i3c.moves = false ∧ ∀ y ∈ (s.responseSent x).ctl.sessions, y.id = .i3c := by
  have hm : s.resultSent.snapshotSent.ctl.i3c.moves = true := by rw [State.snapshotSent_i3c, State.resultSent_i3c, hmoves]
  have hsent : s.responseSent x = { s.resultSent.snapshotSent.closeAll with ctl := { s.resultSent.snapshotSent.closeAll.ctl with
      i3c := { s.resultSent.snapshotSent.closeAll.ctl.i3c with moves := false } } } := by
    unfold State.responseSent
    rw [if_neg hcode]
    exact if_pos hm
  rw [hsent]
  exact ⟨rfl, (State.closeAll_closed _).2⟩

theorem State.responseRead_some {s : State} {tag : Nat} {r : Resp} (hup : s.i3cUp = true) (hr : s.ctl.i3c.response = some (tag, r)) :
    s.responseRead = (s.responseSent r).emit (.i3cResponse tag r) := by
  unfold State.responseRead
  simp only [hup, hr, Bool.not_true, Bool.false_eq_true, if_false]

theorem Settled.mem_out {a t : State} (h : Settled a t) {e : Emission} (he : e ∈ a.out) : e ∈ t.out := by
  obtain ⟨l, hl⟩ := h.out
  rw [hl]
  exact List.mem_append_left l he

theorem State.mem_emit (s : State) (e : Emission) : e ∈ (s.emit e).out := List.mem_append_right _ (List.mem_singleton_self e)

/-- Settles O8. -/
theorem levelDefaultsAndPort : Obligations.LevelDefaultsAndPort := by
  refine ⟨?_, ?_⟩
  · intro dt src value s u w
    exact ⟨fun ht => takes_journalled (i := .dropLevel dt src value) ht rfl dropLevelAction rfl,
      fun ht => takes_journalled (i := .restoreDefaults dt src value) ht rfl restoreDefaultsAction rfl⟩
  · intro dt s u
    refine ⟨fun src value ht => ?_, fun tag r hup hresponse hmoves hcode => ?_⟩
    · obtain ⟨hh, r, hr⟩ := ht
      obtain ⟨hnum, hm⟩ := execute_ydpPort hr
      have hnormal : (Req.ofNumber Obj.ydpYdpPort 2 value).normal = Req.ofNumber Obj.ydpYdpPort 2 value := Req.ofNumber_normal (by decide) 2 value
      refine State.run_completes (exec_ydpPort s dt src value) rfl (fun t h _ _ => ?_)
      cases src with
      | i3c tag =>
        obtain ⟨hmoves, hsame⟩ := State.dictionary_moves_i3c hh hnormal hm
        have h' : Settled (u.dictionary (.i3c tag) (Req.ofNumber Obj.ydpYdpPort 2 value)) t := h
        exact ⟨(h'.num (by decide)).trans ((hsame _ (by decide)).trans hnum), h'.ctl_moves.trans hmoves⟩
      | ydp e ip port sess seq =>
        have hseq : seq % wrap32 = seq := by simpa [Src.normal] using hh.1
        obtain ⟨hsessions, hsame⟩ := State.dictionary_moves_ydp (State.hears_serves hh) hseq hnormal rfl hm
        have h' : Settled (u.dictionary (.ydp e ip port sess seq) (Req.ofNumber Obj.ydpYdpPort 2 value)) t := h
        exact ⟨(h'.num (by decide)).trans ((hsame _ (by decide) (by decide)).trans hnum), h'.only_i3c hsessions⟩
    · refine State.run_completes (exec_responseRead s dt) rfl (fun t h _ _ => ?_)
      have h' : Settled u.responseRead t := h
      rw [State.responseRead_some hup hresponse] at h'
      obtain ⟨hdone, hsessions⟩ := State.responseSent_moved hcode hmoves
      exact ⟨h'.mem_out (State.mem_emit _ _), h'.ctl_moves.trans hdone, h'.only_i3c hsessions⟩

end Sys2Proof.Machine
end

section
/-! PROOFS. The loss of power: what the way into a mode and the loss of power leave of the module (R81, R87), for the statements
about HALT, RESET_N, power-up and STANDBY. -/

namespace Sys2Proof.Machine

/-! ## What the end of a mode leaves -/

/-- What neither the end of a mode nor an alert moves, and what the loss of power leaves. -/
structure Core where
  clk : Nat
  mode : Mode
  previousMode : Mode
  lastCause : Nat
  part : Part
  boot : Boot
  owner : Option SessId
  haltCause : Option Val
  power : PowerSys
  resetN : Bool
  id : Nat
  bootsel : Bool
  busStates : List Nat
  heartbeat : Heartbeat
  bootStatus : Nat

def State.core (s : State) : Core :=
  { clk := s.clk, mode := s.ctl.mode, previousMode := s.ctl.previousMode, lastCause := s.ctl.lastCause, part := s.ctl.part,
    boot := s.ctl.boot, owner := s.ctl.staging.holder, haltCause := Kv.get? s.dict.mram Obj.modeHaltCause, power := s.power.unsettled,
    resetN := s.pins.resetN, id := s.pins.id, bootsel := s.pins.bootsel,
    busStates := s.buses.map Bus.state, heartbeat := s.ctl.heartbeat,
    bootStatus := s.ctl.bootStatus }

/-- `b` has the core of `a`, and what `a` had sent. -/
structure Kept (a b : State) : Prop where
  core : b.core = a.core
  out : ∃ l, b.out = a.out ++ l

namespace Kept

theorem refl (a : State) : Kept a a := ⟨rfl, [], (List.append_nil _).symm⟩

theorem trans {a b c : State} (h : Kept a b) (k : Kept b c) : Kept a c := by
  obtain ⟨l, hl⟩ := h.out
  obtain ⟨m, hm⟩ := k.out
  exact ⟨k.core.trans h.core, l ++ m, by rw [hm, hl, List.append_assoc]⟩

/-- An operation that sends nothing and leaves the core. -/
theorem of_core {a b : State} (h : b.core = a.core) (o : b.out = a.out) : Kept a b := ⟨h, [], by rw [o, List.append_nil]⟩

theorem ite {p : Prop} [Decidable p] {s a b : State} (ha : Kept s a) (hb : Kept s b) : Kept s (if p then a else b) := by
  split <;> assumption

theorem fold {α : Type} {f : State → α → State} (h : ∀ s x, Kept s (f s x)) (l : List α) (s : State) : Kept s (l.foldl f s) := by
  induction l generalizing s with
  | nil => exact refl s
  | cons x r ih => exact (h s x).trans (ih _)

theorem of_settled {a b : State} (h : Settled a b) (hclk : b.clk = a.clk) : Kept a b := by
  refine ⟨?_, h.out⟩
  have e : ({ b with clk := 0 } : State).core = ({ a with clk := 0 } : State).core :=
    (congrArg (fun s : State => ({ s with power := s.power } : State).core) h.same :)
  have hcore : ∀ z : State, z.core = { ({ z with clk := 0 } : State).core with clk := z.clk } := fun _ => rfl
  rw [hcore b, hcore a, e, hclk]

theorem emit (s : State) (e : Emission) : Kept s (s.emit e) := ⟨rfl, [e], rfl⟩
theorem putNum (s : State) (key n : Nat) : Kept s (s.putNum key n) := of_core rfl rfl
theorem bumpBy (s : State) (key n : Nat) : Kept s (s.bumpBy key n) := of_core rfl rfl
theorem bump (s : State) (key : Nat) : Kept s (s.bump key) := of_core rfl rfl
theorem bumpIf (s : State) (c : Bool) (key : Nat) : Kept s (s.bumpIf c key) := ite (bump s key) (refl s)
theorem peak (s : State) (key v : Nat) : Kept s (s.peak key v) := ite (putNum s key v) (refl s)
theorem alert (s : State) {bit : Nat} (h : bit < 255) : Kept s (s.alert bit) := of_settled (Settled.alert s bit h) (Noted.alert s bit).clk
theorem event (s : State) (bit : Nat) : Kept s (s.event bit) := of_settled (Settled.event s bit) (Noted.event s bit).clk
theorem modHbm (s : State) (f : Hbm → Hbm) : Kept s (s.modHbm f) := of_core rfl rfl
theorem modRing (s : State) (r : Nat) (f : Ring → Ring) : Kept s (s.modRing r f) := of_core rfl rfl
theorem modTout (s : State) (k : Nat) (f : Tout → Tout) : Kept s (s.modTout k f) := of_core rfl rfl

theorem raiseAt (s : State) (delay : Nat) (east : Bool) (source carried data : Nat) :
    Kept s (s.raiseAt delay east source carried data) := ite (of_core rfl rfl) (refl s)

theorem lapseEvent (s : State) (bit : Nat) : Kept s (s.lapseEvent bit) := by
  have hlapse : Kept s (s.lapse bit) := by
    refine trans ?_ (alert _ (by decide))
    exact of_core rfl rfl
  unfold State.lapseEvent
  exact (ite (refl s) hlapse).trans (of_core rfl rfl)

/-! ### Entries of the tracker -/

theorem request (s : State) (n : Nat) : Kept s (s.request n) := by
  have hbuses : Kept s ({ s with buses := s.buses.map (fun x => { x with requests := x.requests + n }) } : State) := by
    refine of_core ?_ rfl
    show ({ s.core with busStates := (s.buses.map (fun (x : Bus) => { x with requests := x.requests + n })).map Bus.state } : Core) = s.core
    rw [List.map_map]
    rfl
  unfold State.request
  dsimp only
  split
  · exact ite ((hbuses.trans (peak _ _ _)).trans (lapseEvent _ _)) (hbuses.trans (peak _ _ _))
  · exact hbuses

theorem countCleared (s : State) (x : Entry) : Kept s (s.countCleared x) :=
  ite (fold (fun z _ => bumpBy z _ _) _ s) (refl s)

theorem hbmTouch (s : State) (port : Nat) (channels : List Nat) : Kept s (s.hbmTouch port channels) := by
  have h := Touched.hbmTouch s port channels
  have hrest := congrArg (fun z : State => ({ z with dict := { z.dict with inForce := [] } } : State).core) h.rest
  exact of_core (hrest :) (congrArg State.out h.rest :)

theorem ringRecord (s : State) (r : Nat) (b : Bytes) : Kept s (s.ringRecord r b).1 := by
  unfold State.ringRecord
  dsimp only
  split
  · exact refl s
  · split
    · exact bump s _
    · exact ((hbmTouch s _ _).trans (modHbm _ _)).trans (modRing _ _ _)

theorem trackerRecord (s : State) (ring : Nat) (b : Bytes) : Kept s (s.trackerRecord ring b) :=
  ite ((ringRecord s ring b).trans (bumpIf _ _ _)) (refl s)

theorem leaveEntry (s : State) (x : Entry) : Kept s (s.leaveEntry x) := by
  have hrecords : Kept s (x.tracks.foldl (fun acc t => if t.written then acc else acc.trackerRecord (12 + t.view) t.comet.record) s) :=
    fold (fun z t => ite (refl z) (trackerRecord z _ _)) _ s
  unfold State.leaveEntry
  dsimp only
  split
  · split
    · exact ite (hrecords.trans (trackerRecord _ _ _)) ((hrecords.trans (trackerRecord _ _ _)).trans (of_core rfl rfl))
    · exact hrecords
  · exact hrecords

/-- The openings of the entries counted as cleared, and their requests (R84). -/
theorem cleared (s : State) (n : Nat) : Kept s ((s.entries.foldl State.countCleared s).request n) :=
  (fold (fun z x => countCleared z x) s.entries s).trans (request _ _)

theorem holdAll (s : State) : Kept s s.holdAll := by
  refine trans (cleared s ((s.entries.filter (fun x => x.entered && x.armed)).flatMap Entry.valves).length) ?_
  exact of_core rfl rfl

theorem armAll (s : State) : Kept s s.armAll := by
  refine trans ?_ (request _ _)
  exact of_core rfl rfl

theorem clearAll (s : State) : Kept s s.clearAll := by
  refine trans (cleared s ((s.entries.filter (·.entered)).flatMap Entry.valves).length) ?_
  refine trans ?_ (fold (fun z x => leaveEntry z x) _ _)
  exact of_core rfl rfl

theorem testOff (s : State) : Kept s s.testOff := fold (fun z _ => putNum z _ _) _ s

/-! ### Pins -/

theorem toutDriveAt (s : State) (delay k : Nat) : Kept s (s.toutDriveAt delay k) := by
  refine ite (refl s) ?_
  exact ((modTout s _ _).trans (emit _ _)).trans (raiseAt _ _ _ _ _ _)

theorem toutReview (s : State) : Kept s s.toutReview := fold (fun z k => toutDriveAt z 0 k) _ s

theorem camLower (s : State) (k state : Nat) : Kept s (s.camLower k state) := by
  have hmod : Kept s (s.modCam k (fun x => { x with enable := false, state := state })) := of_core rfl rfl
  exact ite (hmod.trans (emit _ _)) hmod

theorem lampReview (s : State) : Kept s s.lampReview := ⟨rfl, _, rfl⟩

end Kept

namespace Kept

/-! ### The journal and the log -/

theorem logPut (s : State) (kind unit inst cause count : Nat) (detail : Bytes) : Kept s (s.logPut kind unit inst cause count detail) := by
  unfold State.logPut
  dsimp only
  split
  · exact of_core rfl rfl
  · split
    · exact (bump s _).trans (alert _ (by decide))
    · split <;> exact of_core rfl rfl

theorem modErrLog (s : State) (f : ErrLog → ErrLog) : Kept s (s.modErrLog f) := of_core rfl rfl
theorem modJournal (s : State) (f : Journal → Journal) : Kept s (s.modJournal f) := of_core rfl rfl
theorem journalOwn (s : State) (kind : Nat) (value : Bytes) : Kept s (s.journalOwn kind value) := of_core rfl rfl

/-- A value kept in MRAM that is not the cause of a HALT (R87). -/
theorem putKept (s : State) {key : Nat} (v : Val) (h : key ≠ Obj.modeHaltCause) : Kept s (s.putKept key v) := by
  refine of_core ?_ rfl
  have hcause : Kv.get? (Kv.put s.dict.mram key v) Obj.modeHaltCause = Kv.get? s.dict.mram Obj.modeHaltCause :=
    Kv.get?_put_other _ _ h.symm
  show ({ s.core with haltCause := Kv.get? (Kv.put s.dict.mram key v) Obj.modeHaltCause } : Core) = s.core
  rw [hcause]
  rfl

theorem bumpStored (s : State) {key : Nat} (h : key ≠ Obj.modeHaltCause) : Kept s (s.bumpStored key) := putKept s _ h

theorem bumpKept (s : State) {key : Nat} (n : Nat) (h : key ≠ Obj.modeHaltCause) : Kept s (s.bumpKept key n) :=
  (putKept s _ h).trans (of_core rfl rfl)

theorem logPutNext (s : State) : Kept s s.logPutNext := by
  unfold State.logPutNext
  split
  · exact refl s
  · exact (modErrLog s _).trans (putKept _ _ (by decide))

theorem logTake (s : State) : Kept s s.logTake := ite ((modErrLog s _).trans (logPutNext _)) (refl s)

theorem logDrain (s : State) (n : Nat) : Kept s (s.logDrain n) := by
  induction n generalizing s with
  | zero => exact refl s
  | succ n ih => exact (logTake s).trans (ih _)

theorem logPutMany (s : State) (n : Nat) : Kept s (s.logPutMany n) := by
  induction n generalizing s with
  | zero => exact refl s
  | succ n ih => exact (logPutNext s).trans (ih _)

theorem mirrorPut (s : State) (seq : Nat) (e : Bytes) : Kept s (s.mirrorPut seq e) :=
  ite ((modJournal s _).trans (bumpKept _ _ (by decide))) (modJournal s _)

theorem mirrorAll (s : State) : Kept s s.mirrorAll := fold (fun z _ => mirrorPut z _ _) _ s

theorem sendSafe (s : State) : Kept s s.sendSafe := fold (fun z _ => emit z _) _ s

/-- SAFE_LEVEL for the time of a brown-out: the pin itself is not moved (R374, R475). -/
theorem toutsSafe (s : State) : Kept s s.toutsSafe := by
  have h : Kept { s with pins := { s.pins with safeN := false } } ({ s with pins := { s.pins with safeN := false } } : State).toutReview :=
    toutReview _
  have hrelease : ∀ z : State, Kept z { z with pins := { z.pins with safeN := s.pins.safeN } } := fun z => of_core rfl rfl
  exact ⟨(hrelease _).core.trans (h.core.trans rfl), h.out⟩

theorem noteHalt (s : State) (cause : Nat) : Kept s (s.noteHalt cause) := by
  have hentry : Kept s ((s.journalMode .halt cause).logPut 4 Unit.package 0 cause 0 []) := (journalOwn s _ _).trans (logPut _ _ _ _ _ _ _)
  exact ite (ite ((hentry.trans (logDrain _ _)).trans (modErrLog _ _)) hentry) (refl s)

end Kept

/-! ## A mode entered -/

/-- A mode entered: the mode, the one before and the cause; nothing else of the core (R83). -/
theorem State.enterMode_core (s : State) (m : Mode) (cause : Nat) :
    (s.enterMode m cause).core = { s.core with mode := m, previousMode := s.ctl.mode, lastCause := cause } ∧
    ∃ l, (s.enterMode m cause).out = s.out ++ l := by
  let s1 : State := { s with ctl := { s.ctl with
    mode := m, previousMode := s.ctl.mode, lastCause := cause, modeTime := s.shortNow,
    sortingSince := if m.sorts && !s.ctl.mode.sorts then s.clk else s.ctl.sortingSince } }
  have hschedule : Kept s1 (if s.ctl.mode = .run ∧ m = .teach then s1.holdAll else if s.ctl.mode = .teach ∧ m = .run then s1.armAll
      else if s.ctl.mode.sorts && !m.sorts then s1.clearAll else s1) :=
    .ite (.holdAll _) (.ite (.armAll _) (.ite (.clearAll _) (.refl _)))
  have hservo : ∀ z : State, Kept z (if m.sorts then z.modServo (fun x => { x with stepArmed := none }) else z) :=
    fun z => .ite (.of_core rfl rfl) (.refl z)
  have htest : ∀ z : State, Kept z (if s.ctl.mode = .test then z.testOff else z) := fun z => .ite (.testOff z) (.refl z)
  have h : Kept s1 (s.enterMode m cause) := (hschedule.trans (hservo _)).trans (htest _)
  exact ⟨h.core.trans rfl, h.out⟩

/-! ## Power lost -/

/-- The core after the loss of power (R81, R478). -/
def Core.lost (c : Core) : Core :=
  { c with
    owner := none, heartbeat := Heartbeat.reset, busStates := c.busStates.map (fun _ => Bus.reset.state), power := { c.power with
      exitAt := none, lastTrigger := c.clk, lastRequest := c.clk, moduleTokens := c.part.cometDepth * 1000000000,
      moduleTokenClk := c.clk, powerRuns := 0 } }

/-- What the loss of power leaves: the core, nothing in force or staged, no session but the I3C one, and what had been sent, with
the silence of every bus that was started. -/
structure Lost (a b : State) : Prop where
  core : b.core = a.core.lost
  inForce : b.dict.inForce = []
  staged : b.dict.staged = []
  sessions : b.ctl.sessions = [Session.i3c]
  out : ∃ l, b.out = a.out ++ l
  silent : ∀ k, k < 4 → (a.bus k).state = 2 ∨ (a.bus k).state = 3 → Emission.busSilent k ∈ b.out

theorem State.powerLost_core (s : State) : s.powerLost.core = s.core.lost := by
  simp only [State.core, State.powerLost, Core.lost, PowerSys.unsettled, List.map_map]
  rfl

theorem State.busesOff_core (s : State) :
    s.busesOff.core = { s.core with busStates := s.core.busStates.map (fun _ => Bus.reset.state) } := by
  simp only [State.core, State.busesOff, List.map_map]
  rfl

theorem State.mem_emitAll {α : Type} (f : α → Emission) {l : List α} {x : α} (hx : x ∈ l) (s : State) :
    f x ∈ (l.foldl (fun acc y => acc.emit (f y)) s).out := by
  have hout : ∀ (l : List α) (z : State), (l.foldl (fun acc y => acc.emit (f y)) z).out = z.out ++ l.map f := by
    intro l
    induction l with
    | nil => exact fun z => (List.append_nil _).symm
    | cons y r ih =>
      intro z
      rw [List.foldl_cons, ih, List.map_cons]
      exact List.append_assoc z.out [f y] (r.map f)
  rw [hout]
  exact List.mem_append_right _ (List.mem_map_of_mem hx)

/-- The domains' outputs after the buses went. -/
theorem State.outputsOff_kept (z : State) : Kept z ((z.toutsOff).camsOff).lampReview := by
  have htouts : Kept z z.toutsOff := by
    refine .trans ?_ (.toutReview _)
    exact .of_core rfl rfl
  have hcams : ∀ y : State, Kept y y.camsOff := by
    intro y
    have hnone : ∀ x : State, Kept x (x.modPins (fun p => { p with
        camera := List.replicate 12 CamPower.reset, staggerNext := none })) := fun x => .of_core rfl rfl
    exact .trans (.fold (fun x k => .camLower x k 0) (List.range 12) y) (hnone _)
  exact (htouts.trans (hcams _)).trans (.lampReview _)

theorem State.unpower_lost (s : State) : Lost s s.unpower := by
  let loud := (List.range 4).filter (fun b => (s.bus b).sends || (s.bus b).state = 2)
  let s1 := loud.foldl (fun acc b => acc.emit (.busSilent b)) s
  have h1 : Kept s s1 := .fold (fun z _ => .emit z _) loud s
  have h2 : Kept s1.busesOff (if s.alertPin then (((s1.busesOff).toutsOff).camsOff).lampReview.emit (.alertN false)
      else (((s1.busesOff).toutsOff).camsOff).lampReview) :=
    .ite ((State.outputsOff_kept _).trans (.emit _ _)) (State.outputsOff_kept _)
  have hlost : ∀ z : State, Kept s1.busesOff z → Lost s z.powerLost := by
    intro z h
    obtain ⟨l, hl⟩ := h.out
    obtain ⟨m, hm⟩ := h1.out
    have hout : z.powerLost.out = s1.out ++ l := hl
    refine ⟨?_, rfl, rfl, rfl, ⟨m ++ l, ?_⟩, fun k hk hs => ?_⟩
    · rw [State.powerLost_core, h.core, State.busesOff_core, h1.core]
      simp only [Core.lost, List.map_map]
      rfl
    · rw [hout, hm, List.append_assoc]
    · have hloud : k ∈ loud := by
        refine List.mem_filter.mpr ⟨List.mem_range.mpr hk, ?_⟩
        rcases hs with hs | hs <;> simp [Bus.sends, hs]
      rw [hout]
      exact List.mem_append_left _ (State.mem_emitAll Emission.busSilent hloud s)
  exact hlost _ h2

/-! ## Sessions by name -/

/-- The same sessions are open, by their names. -/
structure SameSessions (a b : State) : Prop where
  ids : b.ctl.sessions.map Session.id = a.ctl.sessions.map Session.id

namespace SameSessions

theorem refl (a : State) : SameSessions a a := ⟨rfl⟩

theorem trans {a b c : State} (h : SameSessions a b) (k : SameSessions b c) : SameSessions a c := ⟨k.ids.trans h.ids⟩

theorem of_eq {a b : State} (h : b.ctl.sessions = a.ctl.sessions) : SameSessions a b := ⟨congrArg _ h⟩

theorem ite {p : Prop} [Decidable p] {s a b : State} (ha : SameSessions s a) (hb : SameSessions s b) :
    SameSessions s (if p then a else b) := by split <;> assumption

theorem fold {α : Type} {f : State → α → State} (h : ∀ s x, SameSessions s (f s x)) (l : List α) (s : State) :
    SameSessions s (l.foldl f s) := by
  induction l generalizing s with
  | nil => exact refl s
  | cons x r ih => exact (h s x).trans (ih _)

theorem of_settled {a b : State} (h : Settled a b) : SameSessions a b := by
  have e : b.ctl.sessions.map (fun (x : Session) => { x with notified := 0 }) =
      a.ctl.sessions.map (fun (x : Session) => { x with notified := 0 }) := (congrArg (fun s : State => s.ctl.sessions) h.same :)
  have hids := congrArg (List.map Session.id) e
  rw [List.map_map, List.map_map] at hids
  exact ⟨hids⟩

end SameSessions

/-! ## HALT -/

/-- HALT has been entered from `u` with a cause (R87). -/
structure Halted (u : State) (cause : Nat) (t : State) : Prop where
  mode : t.ctl.mode = .halt
  previousMode : t.ctl.previousMode = u.ctl.mode
  lastCause : t.ctl.lastCause = cause
  haltCause : Kv.get? t.dict.mram Obj.modeHaltCause = some (.num cause)
  haltN : Emission.haltN false ∈ t.out
  staged : t.dict.staged = []
  haltClk : t.power.haltClk = u.clk
  tripHold : t.power.tripHold = decide (cause = 4)
  bootStatus : t.ctl.bootStatus = u.ctl.bootStatus
  sessions : t.ctl.sessions.map (fun x => x.id) = [SessId.i3c]

theorem Halted.settled {u a t : State} {cause : Nat} (h : Halted u cause a) (k : Settled a t) : Halted u cause t where
  mode := k.ctl_mode.trans h.mode
  previousMode := (congrArg (fun s : State => s.ctl.previousMode) k.same :).trans h.previousMode
  lastCause := (congrArg (fun s : State => s.ctl.lastCause) k.same :).trans h.lastCause
  haltCause := (congrArg (fun s : State => Kv.get? s.dict.mram Obj.modeHaltCause) k.same :).trans h.haltCause
  haltN := k.mem_out h.haltN
  staged := k.staged.trans h.staged
  haltClk := (congrArg (fun s : State => s.power.haltClk) k.same :).trans h.haltClk
  tripHold := (congrArg (fun s : State => s.power.tripHold) k.same :).trans h.tripHold
  bootStatus := (congrArg (fun s : State => s.ctl.bootStatus) k.same :).trans h.bootStatus
  sessions := (SameSessions.of_settled k).ids.trans h.sessions

/-- HALT entered in hardware, from a state whose core is `u`'s (R87, R475). -/
theorem State.fallToHalt_halted {u s : State} (h : Kept u s) (cause : Nat) : Halted u cause (s.fallToHalt cause) := by
  let s1 := s.putKept Obj.modeHaltCause (.num cause)
  obtain ⟨hmode, -⟩ := s1.enterMode_core .halt cause
  have hlost := (s1.enterMode .halt cause).unpower_lost
  have hcore : (s1.enterMode .halt cause).unpower.core =
      ({ u.core with mode := .halt, previousMode := u.ctl.mode, lastCause := cause, haltCause := some (.num cause) } : Core).lost := by
    have h1 : s1.core = { u.core with haltCause := some (.num cause) } := by
      rw [← h.core]
      show ({ s.core with haltCause := Kv.get? (Kv.put s.dict.mram Obj.modeHaltCause (.num cause)) Obj.modeHaltCause } : Core) = _
      rw [Kv.get?_put_same]
    have hprev : s1.ctl.mode = u.ctl.mode := congrArg Core.mode h1
    rw [hlost.core, hmode, h1, hprev]
  refine ⟨congrArg Core.mode hcore, congrArg Core.previousMode hcore, congrArg Core.lastCause hcore, congrArg Core.haltCause hcore,
    List.mem_append_right _ (List.mem_singleton_self _), hlost.staged, ?_, rfl, congrArg Core.bootStatus hcore,
    congrArg (List.map Session.id) hlost.sessions⟩
  exact congrArg Core.clk h.core

theorem State.fallToHalt_mode (s : State) (cause : Nat) : (s.fallToHalt cause).ctl.mode = .halt :=
  (State.fallToHalt_halted (Kept.refl s) cause).mode

/-- HALT entered at once, from a state whose core is `u`'s (R476, R488, R496). -/
theorem State.halt_halted {u s : State} (h : Kept u s) (cause : Nat) (hp : u.power.powered = true) (hm : u.ctl.mode ≠ .halt) :
    Halted u cause (s.halt cause) := by
  have hpowered : s.power.powered = true := (congrArg (fun c : Core => c.power.powered) h.core).trans hp
  have hmode : s.ctl.mode ≠ .halt := fun e => hm ((congrArg Core.mode h.core).symm.trans e)
  have hhalt : s.halt cause = (s.noteHalt cause).fallToHalt cause := by
    simp only [State.halt, hpowered, hmode, Bool.not_true, Bool.false_eq_true, or_self, if_false]
  rw [hhalt]
  exact State.fallToHalt_halted (h.trans (Kept.noteHalt _ _)) cause

/-! ## A boot made ready -/

/-- A boot has been made ready from `u` (R81, R521, R541). -/
structure Readied (u : State) (cause : Nat) (wake : Bool) (t : State) : Prop where
  mode : t.ctl.mode = .boot
  lastCause : t.ctl.lastCause = cause
  started : t.ctl.boot.started = false
  step : t.ctl.boot.step = 0
  wake : t.ctl.boot.wake = wake
  afterHalt : u.ctl.mode = .halt → t.ctl.boot.afterHalt = true
  haltN : u.ctl.mode = .halt → Emission.haltN true ∈ t.out
  sessions : t.ctl.sessions.map (fun x => x.id) = [SessId.i3c]
  staged : t.dict.staged = []
  inForce : t.dict.inForce = []
  powered : t.power.powered = u.power.powered
  standbyCause : t.power.standbyCause = u.power.standbyCause
  out : ∃ l, t.out = u.out ++ l
  silent : ∀ k, k < 4 → (u.bus k).state = 2 ∨ (u.bus k).state = 3 → Emission.busSilent k ∈ t.out

theorem Core.bus_state {a b : State} (h : b.core.busStates = a.core.busStates) (k : Nat) : (b.bus k).state = (a.bus k).state := by
  have hstate : ∀ z : State, (z.bus k).state = z.core.busStates.getD k Bus.reset.state := by
    intro z
    show (z.buses.getD k Bus.reset).state = (z.buses.map Bus.state).getD k Bus.reset.state
    simp only [List.getD_eq_getElem?_getD, List.getElem?_map]
    cases z.buses[k]? <;> rfl
  rw [hstate, hstate, h]

/-- The state a boot made ready leaves, HALT_N apart. -/
def State.bootReadied (s : State) (cause : Nat) (wake : Bool) : State :=
  let s1 := ((s.enterMode .boot cause).unpower).modPower (fun p => { p with
    qualifiedAt := some (match p.qualifiedAt with | some t => t | none => s.clk), tripHold := false, coolRounds := 0,
    resetDuringHalt := false })
  { s1 with ctl := { s1.ctl with boot := { Boot.reset with
    afterHalt := decide (s.ctl.mode = .halt) || s.ctl.boot.afterHalt && decide (s.ctl.mode = .boot) && !s.ctl.boot.started,
    wake := wake, owed := s.bootOwes cause } } }

theorem State.readyBoot_eq (s : State) (cause : Nat) (wake : Bool) :
    ∃ n, s.readyBoot cause wake = { s.bootReadied cause wake with out := (s.bootReadied cause wake).out ++ n } ∧
      (s.ctl.mode = .halt → n = [Emission.haltN true]) := by
  have h : s.readyBoot cause wake = if decide (s.ctl.mode = .halt) then (s.bootReadied cause wake).emit (.haltN true)
      else s.bootReadied cause wake := rfl
  rw [h]
  by_cases e : s.ctl.mode = .halt
  · rw [if_pos (decide_eq_true e)]
    exact ⟨[Emission.haltN true], rfl, fun _ => rfl⟩
  · rw [if_neg (by simpa using e)]
    refine ⟨[], ?_, fun k => absurd k e⟩
    rw [List.append_nil]

theorem State.readyBoot_readied (s : State) (cause : Nat) (wake : Bool) : Readied s cause wake (s.readyBoot cause wake) := by
  obtain ⟨hmode, l, hl⟩ := s.enterMode_core .boot cause
  have hlost := (s.enterMode .boot cause).unpower_lost
  obtain ⟨m, hm⟩ := hlost.out
  have hcore := hlost.core.trans (congrArg Core.lost hmode)
  have hbus : ∀ k, ((s.enterMode .boot cause).bus k).state = (s.bus k).state := Core.bus_state (congrArg Core.busStates hmode :)
  obtain ⟨n, hn, hhalt⟩ := s.readyBoot_eq cause wake
  have hout : (s.bootReadied cause wake).out = (s.enterMode .boot cause).unpower.out := rfl
  rw [hn]
  refine ⟨(congrArg Core.mode hcore :), (congrArg Core.lastCause hcore :), rfl, rfl, rfl, fun e => ?_, fun e => ?_,
    congrArg (List.map Session.id) hlost.sessions, hlost.staged, hlost.inForce, (congrArg (fun c : Core => c.power.powered) hcore :),
    (congrArg (fun c : Core => c.power.standbyCause) hcore :), ⟨l ++ m ++ n, ?_⟩, fun k hk hs => ?_⟩
  · show (decide (s.ctl.mode = .halt) || s.ctl.boot.afterHalt && decide (s.ctl.mode = .boot) && !s.ctl.boot.started) = true
    rw [decide_eq_true e, Bool.true_or]
  · rw [hhalt e]
    exact List.mem_append_right _ (List.mem_singleton_self _)
  · show (s.bootReadied cause wake).out ++ n = _
    rw [hout, hm, hl]
    simp only [List.append_assoc]
  · exact List.mem_append_left _ (hout ▸ hlost.silent k hk (by rw [hbus]; exact hs))

theorem Readied.settled {u a t : State} {cause : Nat} {wake : Bool} (h : Readied u cause wake a) (k : Settled a t) :
    t.ctl.mode = .boot ∧ t.ctl.lastCause = cause ∧ t.ctl.boot = a.ctl.boot ∧ t.dict.staged = [] ∧
    t.ctl.sessions.map (fun x => x.id) = [SessId.i3c] ∧ t.power.standbyCause = a.power.standbyCause ∧
    (∀ e ∈ a.out, e ∈ t.out) :=
  ⟨k.ctl_mode.trans h.mode, (congrArg (fun s : State => s.ctl.lastCause) k.same :).trans h.lastCause,
    (congrArg (fun s : State => s.ctl.boot) k.same :), k.staged.trans h.staged, (SameSessions.of_settled k).ids.trans h.sessions,
    (congrArg (fun s : State => s.power.standbyCause) k.same :), fun _ he => k.mem_out he⟩

end Sys2Proof.Machine
end

section
/-! PROOFS. Sessions, nonces and lockouts end (O17): which sessions there are is moved by none of what the HBM requests of the time
before a command do. -/

namespace Sys2Proof.Machine

namespace SameSessions

theorem event (s : State) (bit : Nat) : SameSessions s (s.event bit) := of_settled (Settled.event s bit)

theorem alert (s : State) {bit : Nat} (h : bit < 255) : SameSessions s (s.alert bit) := of_settled (Settled.alert s bit h)

theorem bump (s : State) (key : Nat) : SameSessions s (s.bump key) := ⟨rfl⟩

theorem bumpIf (s : State) (c : Bool) (key : Nat) : SameSessions s (s.bumpIf c key) := ite (bump s key) (refl s)

/-! ### Upsets and retirements -/

theorem logPut (s : State) (kind unit inst cause count : Nat) (detail : Bytes) :
    SameSessions s (s.logPut kind unit inst cause count detail) := by
  unfold State.logPut
  dsimp only
  split
  · exact of_eq rfl
  · split
    · exact (bump s _).trans (alert _ (by decide))
    · split <;> exact of_eq rfl

theorem retire (s : State) (unit inst cause : Nat) (detail : Bytes) : SameSessions s (s.retire unit inst cause detail) := by
  refine ite (refl s) ?_
  refine trans ?_ (alert _ (by decide))
  refine trans ?_ (logPut _ _ _ _ _ _ _)
  exact of_eq rfl

theorem upset (s : State) (unit inst window : Nat) (detail : Bytes) : SameSessions s (s.upset unit inst window detail) := by
  refine trans ?_ (logPut _ _ _ _ _ _ _)
  exact of_eq rfl

/-! ### HBM -/

theorem modHbm (s : State) (f : Hbm → Hbm) : SameSessions s (s.modHbm f) := of_eq rfl

theorem relayStatic (s : State) (k position n : Nat) : SameSessions s (s.relayStatic k position n) := by
  have hcleared : ∀ l : List (Nat × Nat), SameSessions s (l.foldl (fun acc q =>
      (acc.modView q.1 (fun w => { w with hist := w.hist.set q.2 [] })).bump Obj.hbmHistLost) s) := by
    intro l
    refine fold ?_ l s
    exact fun _ _ => of_eq rfl
  unfold State.relayStatic
  exact ite ((hcleared _).trans (of_eq rfl)) (hcleared _)

theorem dropRecord (s : State) (pch pa : Nat) : SameSessions s (s.dropRecord pch pa) := by
  refine fold (fun z p => ?_) _ s
  dsimp only
  split
  · split
    · split
      · refine trans ?_ (bumpIf _ _ _)
        exact of_eq rfl
      · exact of_eq rfl
    · exact refl z
  · exact refl z

theorem hbmRewrite (s : State) (n pa t : Nat) : SameSessions s (s.hbmRewrite n pa t) := ite (refl s) (of_eq rfl)

theorem dataError (s : State) (port pch pa : Nat) : SameSessions s (s.dataError port pch pa) := by
  unfold State.dataError
  refine ite (ite (dropRecord s pch pa) (ite (of_eq rfl) (hbmRewrite s _ _ _))) ?_
  split
  · exact ite (of_eq rfl) (refl s)
  · exact ite (ite (of_eq rfl) (bump s _)) (ite (bump s _) (ite (of_eq rfl) (refl s)))

theorem deadAccess (s : State) (port pch pa : Nat) (write : Bool) : SameSessions s (s.deadAccess port pch pa write) := by
  unfold State.deadAccess
  split
  · exact (dataError s port pch pa).trans (bumpIf _ _ _)
  · exact ite (refl s) (dataError s port pch pa)

theorem endRequests (s : State) (n : Nat) : SameSessions s (s.endRequests n) := by
  refine trans ?_ (fold (fun z _ => deadAccess z _ _ _ _) _ _)
  exact of_eq rfl

theorem retirePch (s : State) (n cause : Nat) (detail : Bytes) : SameSessions s (s.retirePch n cause detail) := by
  refine ite (refl s) ?_
  refine trans ?_ (endRequests _ _)
  refine trans ((retire s Unit.pch n cause detail).trans ?_) (modHbm _ _)
  refine trans ?_ (relayStatic _ _ _ _)
  exact of_eq rfl

theorem hbmCorrected (s : State) (n port pa syndrome : Nat) : SameSessions s (s.hbmCorrected n port pa syndrome) := by
  refine ite ?_ (of_eq rfl)
  refine trans ?_ (retirePch _ _ _ _)
  exact of_eq rfl

theorem hbmUpset (s : State) (n kind port pa syndrome word : Nat) : SameSessions s (s.hbmUpset n kind port pa syndrome word) := by
  have hnoted : ∀ d window, SameSessions s
      (((if kind = 1 then s.bump (Obj.pchUncorrectable n) else s).putVal Obj.hbmLastError (.bytes d)).upset Unit.pch n window d) := by
    intro d window
    refine trans ?_ (upset _ _ _ _ _)
    exact (ite (bump s _) (refl s)).trans (of_eq rfl)
  unfold State.hbmUpset
  exact ite ((hnoted _ _).trans (retirePch _ _ _ _)) (hnoted _ _)

theorem hbmServed (s : State) (port n age t : Nat) (w : Bool) : SameSessions s (s.hbmServed port n age t w) :=
  of_eq (congrArg (fun s : State => s.ctl.sessions) (Touched.hbmServed s port n age t w).rest :)

theorem hbmComplete (s : State) (r : HbmReq) (t : Nat) : SameSessions s (s.hbmComplete r t) := by
  have hserved := hbmServed s r.port r.pch (t - r.arrived) t r.waitedSr
  unfold State.hbmComplete
  dsimp only
  split
  · exact hserved.trans (modHbm _ _)
  · exact ite (hserved.trans (modHbm _ _)) (((hserved.trans (modHbm _ _)).trans (hbmCorrected _ _ _ _ _)).trans (hbmRewrite _ _ _ _))
  · exact (hserved.trans (modHbm _ _)).trans (bump _ _)
  · exact ite (hserved.trans (modHbm _ _)) ((hserved.trans (hbmUpset _ _ _ _ _ _ _)).trans (dataError _ _ _ _))
  · exact ((hserved.trans (bump _ _)).trans (hbmUpset _ _ _ _ _ _ _)).trans (dataError _ _ _ _)

theorem hbmServe (n limit k : Nat) (s : State) : SameSessions s (State.hbmServe n limit k s) := by
  induction k generalizing s with
  | zero => exact refl s
  | succ k ih =>
    unfold State.hbmServe
    split
    · exact refl s
    · refine ite (refl s) (trans ?_ (ih _))
      refine trans ?_ (hbmComplete _ _ _)
      exact of_eq rfl

theorem hbmSettle (s : State) : SameSessions s s.hbmSettle := ite (refl s) (fold (fun z _ => hbmServe _ _ _ z) _ s)

end SameSessions

/-! ## The time before a command -/

/-- The time before a command closes no session, unless a stack is lost and the module enters HALT (R65, R397). -/
theorem State.advance_sessions (s : State) (dt : Nat) (h : (s.advance dt).ctl.mode ≠ .halt) : SameSessions s (s.advance dt) := by
  have hdrained : SameSessions s (s.elapse dt).drained := SameSessions.of_eq (congrArg Control.sessions (Sent.drained (s.elapse dt)).ctl)
  have hadvance : s.advance dt = if (s.elapse dt).drained.hbm.queue = [] then (s.elapse dt).drained else
      (s.elapse dt).drained.hbmSettle.stacksReviewed := rfl
  have hdie : ∀ z : State, z.dieLoss.ctl.mode ≠ .halt → z.dieLoss = z := by
    intro z hz
    unfold State.dieLoss at hz ⊢
    split
    · rfl
    · rename_i hno
      rw [if_neg hno] at hz
      unfold State.halt at hz ⊢
      split
      · rfl
      · rename_i hon
        rw [if_neg hon] at hz
        exact absurd (State.fallToHalt_mode _ _) hz
  rw [hadvance] at h ⊢
  split
  · exact hdrained
  · rename_i hq
    rw [if_neg hq] at h
    refine (hdrained.trans (SameSessions.hbmSettle _)).trans ?_
    unfold State.stacksReviewed at h ⊢
    split
    · rename_i hlost
      rw [if_pos hlost] at h
      rw [hdie _ h]
      exact SameSessions.modHbm _ _
    · exact SameSessions.refl _

/-! ## Answers on YDP -/

theorem Settled.sends {a t : State} (h : Settled a t) {e : Nat} {m : Emission} (hm : m.isEvent = false) (hs : a.sends e m) :
    t.sends e m := by
  rcases hs with hs | ⟨f, hf, rfl⟩
  · exact .inl (h.mem_out hs)
  · rcases h.frames e f hf hm with hk | hk
    · exact .inr ⟨f, hk, rfl⟩
    · exact .inl hk

/-- An answer and the settling take no link down. -/
theorem Answered.eth_up {a t : State} {src : Src} {q : Req} {ans : Answer} (h : Answered a t src q ans) (e : Nat) :
    (t.eth e).up = (a.eth e).up := by
  have hups : t.eths.map Eth.up = a.eths.map Eth.up := by
    have k := congrArg (List.map Eth.up) (congrArg (fun s : State => s.eths) h.same :)
    simp only [State.unreplied, State.unsettled, List.map_map] at k
    exact k
  have hup : ∀ s : State, (s.eth e).up = (s.eths.map Eth.up).getD e Eth.reset.up := by
    intro s
    show (s.eths.getD e Eth.reset).up = _
    simp only [List.getD_eq_getElem?_getD, List.getElem?_map]
    cases s.eths[e]? <;> rfl
  rw [hup, hup, hups]

/-- An answer on a port with a link is sent there. -/
theorem Answered.sends {a t : State} {e ip port sess seq : Nat} {q : Req} {ans : Answer}
    (h : Answered a t (.ydp e ip port sess seq) q ans) (hup : (a.eth e).up = true) :
    t.sends e (.ydpResponse e ip port sess seq (q.respond ans)) := h.answer ((h.eth_up e).trans hup)

theorem Answered.ids {a t : State} {src : Src} {q : Req} {ans : Answer} (h : Answered a t src q ans) : SameSessions a t := by
  have hids := congrArg (List.map Session.id) h.sessions
  rw [List.map_map, List.map_map] at hids
  exact ⟨hids⟩

theorem State.ydpUp_eth {u : State} {e : Nat} (h : u.ydpUp e = true) : (u.eth e).up = true := by
  unfold State.ydpUp at h
  simp only [Bool.and_eq_true] at h
  exact h.1.1.2

theorem State.ydpUp_mode {u : State} {e : Nat} (h : u.ydpUp e = true) : u.ctl.mode ≠ .halt := by
  intro hm
  have hno : decide (Mode.halt = Mode.boot) = false := rfl
  simp only [State.ydpUp, hm, Mode.operating, hno, Bool.false_and, Bool.or_self, Bool.and_false, Bool.false_eq_true] at h

theorem State.unitsRun_mode {u : State} (h : u.unitsRun = true) : u.ctl.mode ≠ .halt := by
  intro hm
  simp only [State.unitsRun, hm, Mode.operating, Bool.false_and, Bool.false_eq_true] at h

/-! ## Sessions close -/

/-- The session `id` is closed in `t`, and no other of `s` is. -/
def ClosedAlone (s t : State) (id : SessId) : Prop :=
  (∀ y ∈ t.ctl.sessions, y.id ≠ id) ∧ ∀ z ∈ s.ctl.sessions, z.id ≠ id → ∃ y ∈ t.ctl.sessions, y.id = z.id

theorem closedAlone_of {s v t : State} {id : SessId} (hs : SameSessions s v)
    (ht : t.ctl.sessions.map Session.id = (v.ctl.sessions.filter (fun x => x.id ≠ id)).map Session.id) : ClosedAlone s t id := by
  refine ⟨fun y hy hid => ?_, fun z hz hid => ?_⟩
  · have hmem : y.id ∈ t.ctl.sessions.map Session.id := List.mem_map_of_mem hy
    rw [ht, hid] at hmem
    obtain ⟨x, hx, hxid⟩ := List.mem_map.mp hmem
    exact of_decide_eq_true (List.mem_filter.mp hx).2 hxid
  · have hmem : z.id ∈ s.ctl.sessions.map Session.id := List.mem_map_of_mem hz
    rw [← hs.ids] at hmem
    obtain ⟨x, hx, hxid⟩ := List.mem_map.mp hmem
    have hkept : z.id ∈ t.ctl.sessions.map Session.id := by
      rw [ht, ← hxid]
      exact List.mem_map_of_mem (List.mem_filter.mpr ⟨hx, decide_eq_true (hxid ▸ hid)⟩)
    exact List.mem_map.mp hkept

/-- SESSION_CLOSE on YDP, in order (R65). -/
theorem State.dictionary_sessionClose {u w : State} {e ip port sess seq : Nat} {q : Req} {x : Session}
    (h : u.serves (.ydp e ip port sess seq) q w x) (hn : seq % wrap32 = seq) (hq : q.normal = q) (hclose : q.opcode = Op.sessionClose) :
    u.dictionary (.ydp e ip port sess seq) q = (w.closeSession x.id).ydpAnswer e ip port sess seq (q.respond (Answer.of Code.ok)) := by
  have hblock : q.opcode ≠ Op.blockData := hclose ▸ by decide
  obtain ⟨-, -, -, -, -, horder, -⟩ := id h
  obtain ⟨hkept, hlater⟩ := horder.resolve_left hblock
  rw [State.dictionary_ydp h hn hq (hclose ▸ by decide)]
  unfold State.ydpOrdered
  rw [if_neg hblock]
  simp only [hkept, hlater, Bool.not_true, Bool.false_eq_true, if_false, hclose, if_true]

/-- SESSION_IDLE after the session's IDLE_TIME (R65). -/
theorem State.sessionIdle_due {u : State} {n : Nat} {x : Session} (hx : u.session? (.ydp n) = some x)
    (hdue : x.lastRequest + x.idleTime * 1000000000 ≤ u.clk) : u.sessionIdle n = u.closeSession x.id := by
  unfold State.sessionIdle
  simp only [hx]
  exact if_pos hdue

theorem State.serves_ydpUp {u w : State} {e ip port sess seq : Nat} {q : Req} {x : Session}
    (h : u.serves (.ydp e ip port sess seq) q w x) : u.ydpUp e = true ∧ SameSessions u w ∧ w.eths = u.eths := by
  obtain ⟨hup, -, -, -, -, -, hw⟩ := h
  refine ⟨hup, ?_, by rw [hw]; rfl⟩
  rw [hw]
  refine ⟨?_⟩
  show ((u.ctl.sessions.map _).map Session.id) = _
  rw [List.map_map]
  refine List.map_congr_left (fun y _ => ?_)
  show (if y.id = x.id then _ else y).id = y.id
  split <;> rfl

/-! ## Nonces and lockouts -/

/-- The nonce of session `id` that has run out is gone; the sessions stay (R44). -/
theorem State.nonceExpiry_sessions (u : State) (id : SessId) :
    (u.nonceExpiry id).ctl.sessions.length = u.ctl.sessions.length ∧
    ∀ y ∈ (u.nonceExpiry id).ctl.sessions, y.id = id → ∀ n until_, y.challenge = some (n, until_) → u.clk < until_ := by
  refine ⟨List.length_map _, fun y hy hid n until_ hc => ?_⟩
  obtain ⟨x, -, rfl⟩ := List.mem_map.mp hy
  dsimp only at hid hc
  split at hc
  · split at hc
    · rename_i t ht
      split at hc
      · cases hc
      · rename_i hlate
        rw [ht] at hc
        cases hc
        exact Nat.lt_of_not_le hlate
    · rename_i hnone
      rw [hnone] at hc
      cases hc
  · rename_i hother
    rw [if_neg hother] at hid
    exact absurd hid hother

/-- LOCKOUT_END when its time has come (R45). -/
theorem State.lockoutEnd_due {u : State} {until_ : Nat} (h : u.ctl.lockoutUntil = some until_) (hdue : until_ ≤ u.clk) :
    u.lockoutEnd = { u with ctl := { u.ctl with lockoutUntil := none, challengeRun := 0 } } := by
  unfold State.lockoutEnd
  simp only [h]
  exact if_pos hdue

/-- Settles O17. -/
theorem sessionsNoncesAndLockoutsEnd : Obligations.SessionsNoncesAndLockoutsEnd := by
  refine ⟨⟨?_, ?_⟩, ?_⟩
  · intro dt e ip port sess seq s w x q hserves
    have hseq : seq % wrap32 % wrap32 = seq % wrap32 := Nat.mod_mod _ _
    obtain ⟨hup, hw, heths⟩ := State.serves_ydpUp hserves
    refine State.run_completes (exec_sessionClose s dt (.ydp e ip port sess seq)) rfl (fun t h _ _ => ?_)
    have hd : (s.advance dt).dictionary (.ydp e ip port sess seq) (Req.ofSegment Op.sessionClose 0 0 0 false []) =
        (s.advance dt).dictionary (.ydp e ip port sess (seq % wrap32)) q := State.dictionary_normal _ _ _
    rw [hd, State.dictionary_sessionClose hserves hseq rfl rfl] at h
    have hanswer := (Answered.ydpAnswer (w.closeSession x.id) e ip port sess (seq % wrap32) (q := q) (ans := Answer.of Code.ok)).settled h
    have halone : ClosedAlone s t x.id := closedAlone_of ((State.advance_sessions s dt (State.ydpUp_mode hup)).trans hw) (by
      rw [hanswer.ids.ids, State.closeSession_sessions])
    refine ⟨halone.1, halone.2, _, hanswer.sends ?_, rfl⟩
    show ((w.closeSession x.id).eths.getD e Eth.reset).up = true
    rw [(w.closeSession_closed x.id).1.eths, heths]
    exact State.ydpUp_eth hup
  · intro dt n s x u hruns hx hdue
    refine State.run_completes (exec_sessionIdle s dt n) hruns (fun t h _ _ => ?_)
    rw [State.sessionIdle_due hx hdue] at h
    exact closedAlone_of (State.advance_sessions s dt (State.unitsRun_mode hruns)) (by
      rw [(SameSessions.of_settled h).ids, State.closeSession_sessions])
  · intro dt s u hruns
    refine ⟨fun id => ?_, fun until_ hlock hdue => ?_⟩
    · refine State.run_completes (exec_nonceExpiry s dt id) hruns (fun t h _ _ => ?_)
      have h' : Settled (u.nonceExpiry id) t := h
      obtain ⟨hlength, hnone⟩ := u.nonceExpiry_sessions id
      refine ⟨?_, fun y hy hid n until_ hc => ?_⟩
      · have hids := congrArg List.length (SameSessions.of_settled h').ids
        rw [List.length_map, List.length_map] at hids
        exact hids.trans hlength
      · obtain ⟨z, hz, hzy⟩ := h'.of_mem hy
        exact hnone z hz ((congrArg Session.id hzy).trans hid) n until_ ((congrArg Session.challenge hzy).trans hc)
    · refine State.run_completes (exec_lockoutEnd s dt) hruns (fun t h _ _ => ?_)
      rw [State.lockoutEnd_due hlock hdue] at h
      exact h

/-! ## A session opens -/

/-- The numbers that a new session may take, in order (R65). -/
def sessionNumbers (last : Nat) : List Nat := (List.range 9).map (fun k => (last + k) % 65535 + 1)

theorem sessionNumbers_nodup (last : Nat) : (sessionNumbers last).Nodup := by
  refine List.pairwise_map.mpr (List.Pairwise.imp_of_mem (fun {j k} hj hk hne h => ?_) List.nodup_range)
  rw [List.mem_range] at hj hk
  exact hne (by omega)

theorem sessionNumbers_range {last n : Nat} (h : n ∈ sessionNumbers last) : 1 ≤ n ∧ n ≤ 65535 := by
  obtain ⟨k, -, rfl⟩ := List.mem_map.mp h
  omega

/-- With fewer sessions than numbers, one of the numbers is free. -/
theorem sessionNumbers_free {u : State} (h : u.ydpSessions.length < 8) :
    ∃ n ∈ sessionNumbers u.ctl.lastSession, u.session? (.ydp n) = none := by
  refine Classical.byContradiction fun hno => ?_
  have hused : ∀ n ∈ sessionNumbers u.ctl.lastSession, SessId.ydp n ∈ u.ydpSessions.map Session.id := by
    intro n hn
    cases hs : u.session? (.ydp n) with
    | none => exact absurd ⟨n, hn, hs⟩ hno
    | some x =>
      have hid : x.id = .ydp n := of_decide_eq_true (List.find?_some (p := fun (x : Session) => decide (x.id = .ydp n)) hs)
      have hmem := List.mem_of_find?_eq_some hs
      rw [← hid]
      exact List.mem_map_of_mem (List.mem_filter.mpr ⟨hmem, decide_eq_true (by rw [hid]; exact SessId.noConfusion)⟩)
  have hsub : (sessionNumbers u.ctl.lastSession).map SessId.ydp ⊆ u.ydpSessions.map Session.id := by
    intro id hid
    obtain ⟨n, hn, rfl⟩ := List.mem_map.mp hid
    exact hused n hn
  have hnodup : ((sessionNumbers u.ctl.lastSession).map SessId.ydp).Nodup :=
    List.Pairwise.map SessId.ydp (fun _ _ hne e => hne (SessId.ydp.inj e)) (sessionNumbers_nodup u.ctl.lastSession)
  have hlength := hnodup.length_le_of_subset hsub
  simp only [sessionNumbers, List.length_map, List.length_range] at hlength
  omega

/-- The number that a new session takes: free, and from 1 to 0xFFFF (R65). -/
theorem State.freeNumber_free {u : State} (h : u.ydpSessions.length < 8) :
    u.session? (.ydp u.freeNumber) = none ∧ 1 ≤ u.freeNumber ∧ u.freeNumber ≤ 65535 := by
  have hdef : u.freeNumber = ((sessionNumbers u.ctl.lastSession).find? (fun n => !(u.session? (.ydp n)).isSome)).getD 1 := rfl
  rw [hdef]
  cases hf : (sessionNumbers u.ctl.lastSession).find? (fun n => !(u.session? (.ydp n)).isSome) with
  | none =>
    obtain ⟨n, hn, hfree⟩ := sessionNumbers_free h
    have hused := List.find?_eq_none.mp hf n hn
    rw [hfree] at hused
    exact absurd rfl hused
  | some n =>
    have hfree := List.find?_some hf
    refine ⟨?_, sessionNumbers_range (List.mem_of_find?_eq_some hf)⟩
    simpa using hfree

/-- SESSION_OPEN where one more session may be (R64, R65). -/
theorem State.openSession_new {u : State} {e ip port : Nat} {data : Bytes} (hdata : data.length = 8) (hroom : u.ydpSessions.length < 8)
    (hnew : u.ydpSessions.find? (fun x => x.ip = ip && x.port = port && x.clientNonce = u32At data 0) = none) :
    u.openSession e ip port data =
      ({ u with ctl := { u.ctl with
        sessions := u.ctl.sessions ++ [{ Session.i3c with
          id := .ydp u.freeNumber, eth := e, ip := ip, port := port, clientNonce := u32At data 0, mask := u8At data 4,
          idleTime := u.num Obj.ydpIdleTime, lastRequest := u.clk }],
        lastSession := u.freeNumber } }, u.freeNumber, Answer.data_ (leBytes 2 u.freeNumber)) := by
  have hroom' : ¬ 8 ≤ u.ydpSessions.length := Nat.not_le.mpr hroom
  simp only [State.openSession, hdata, ne_eq, not_true_eq_false, if_false, hnew, hroom']

theorem ethFramesRx_ne_idleTime (e : Nat) : Obj.ydpIdleTime ≠ Obj.ethFramesRx e := by
  unfold Obj.ydpIdleTime Obj.ethFramesRx objKey
  omega

/-- SESSION_OPEN on a port with a link, outside BOOT (R61, R64). -/
theorem State.dictionary_sessionOpen {u : State} {e ip port seq : Nat} {data : Bytes} (hup : u.ydpUp e = true) (hmode : u.ctl.mode ≠ .boot) :
    let q := Req.ofSegment Op.sessionOpen 0 0 0 false data
    let a := (u.rx e).openSession e ip port data
    u.dictionary (.ydp e ip port 0 seq) q = a.1.ydpAnswer e ip port a.2.1 (seq % wrap32) (q.respond a.2.2) := by
  intro q a
  have hmode' : (u.rx e).ctl.mode ≠ .boot := hmode
  have hd : u.dictionary (.ydp e ip port 0 seq) q = u.ydpRequest e ip port 0 (seq % wrap32) q := rfl
  rw [hd]
  unfold State.ydpRequest
  simp only [hup, Bool.not_true, Bool.false_eq_true, if_false, hmode']
  exact if_pos rfl

/-- What SESSION_OPEN leaves, settled. -/
theorem State.openSession_settled {u t : State} {e ip port seq : Nat} {data : Bytes} {q : Req} (hup : (u.eth e).up = true)
    (hdata : data.length = 8) (hroom : u.ydpSessions.length < 8)
    (hnew : u.ydpSessions.find? (fun x => x.ip = ip && x.port = port && x.clientNonce = u32At data 0) = none)
    (h : Settled ((u.openSession e ip port data).1.ydpAnswer e ip port (u.openSession e ip port data).2.1 seq
      (q.respond (u.openSession e ip port data).2.2)) t) :
    t.ctl.lastSession = u.freeNumber ∧
    (∃ y ∈ t.ctl.sessions, y.id = .ydp u.freeNumber ∧ y.ip = ip ∧ y.port = port ∧ y.level = .operator ∧
      y.clientNonce = u32At data 0 ∧ y.mask = u8At data 4 ∧ y.idleTime = u.num Obj.ydpIdleTime) ∧
    t.sends e (.ydpResponse e ip port u.freeNumber seq (q.respond (Answer.data_ (leBytes 2 u.freeNumber)))) := by
  rw [State.openSession_new hdata hroom hnew] at h
  have hanswer := (Answered.ydpAnswer _ e ip port _ seq).settled h
  obtain ⟨y, hy, heq⟩ := hanswer.mem_of (List.mem_append_right _ (List.mem_singleton_self _))
  exact ⟨(congrArg (fun s : State => s.ctl.lastSession) hanswer.same :), ⟨y, hy, congrArg Session.id heq, congrArg Session.ip heq,
    congrArg Session.port heq, congrArg Session.level heq, congrArg Session.clientNonce heq, congrArg Session.mask heq,
    congrArg Session.idleTime heq⟩, hanswer.sends hup⟩

/-- The request as it comes, settled. -/
theorem State.sessionOpen_settled {u t : State} {e ip port seq : Nat} {data : Bytes} (hup : u.ydpUp e = true) (hmode : u.ctl.mode ≠ .boot)
    (hdata : data.length = 8) (hroom : u.ydpSessions.length < 8)
    (hnew : u.ydpSessions.find? (fun x => x.ip = ip && x.port = port && x.clientNonce = u32At data 0) = none)
    (h : Settled (u.dictionary (.ydp e ip port 0 seq) (Req.ofSegment Op.sessionOpen 0 0 0 false data)) t) :
    t.ctl.lastSession = u.freeNumber ∧
    (∃ y ∈ t.ctl.sessions, y.id = .ydp u.freeNumber ∧ y.ip = ip ∧ y.port = port ∧ y.level = .operator ∧
      y.clientNonce = u32At data 0 ∧ y.mask = u8At data 4 ∧ y.idleTime = u.num Obj.ydpIdleTime) ∧
    ∃ r, t.sends e (.ydpResponse e ip port u.freeNumber (seq % wrap32) r) ∧ r.code = Code.ok ∧ r.data = leBytes 2 u.freeNumber := by
  have hidle : (u.rx e).num Obj.ydpIdleTime = u.num Obj.ydpIdleTime := State.num_bump_other u (ethFramesRx_ne_idleTime e)
  rw [State.dictionary_sessionOpen hup hmode] at h
  obtain ⟨hlast, hsession, hsends⟩ := State.openSession_settled (u := u.rx e) (State.ydpUp_eth hup) hdata hroom hnew h
  rw [hidle] at hsession
  exact ⟨hlast, hsession, _, hsends, rfl, rfl⟩

/-- Settles O16. -/
theorem sessionOpenGivesAFreshNumber : Obligations.SessionOpenGivesAFreshNumber := by
  intro dt e ip port seq data s u hup hmode hdata hroom hnew
  obtain ⟨hfree, hlow, hhigh⟩ := State.freeNumber_free hroom
  refine State.run_completes (exec_sessionOpen s dt e ip port seq data) rfl (fun t h _ _ => ?_)
  obtain ⟨hlast, hsession, hsends⟩ := State.sessionOpen_settled hup hmode hdata hroom hnew h
  exact ⟨hfree, hlow, hhigh, hlast, hsession, hsends⟩

end Sys2Proof.Machine
end

section
/-! PROOFS. RESET_N, HALT and its end, power-up and STANDBY (O26, O28, O29). -/

namespace Sys2Proof.Machine

/-! ## HALT -/

theorem State.brownOut_halted {u : State} (hp : u.power.powered = true) (hm : u.ctl.mode ≠ .halt) : Halted u 5 u.brownOut := by
  have hbefore : Kept u (((u.bumpStored Obj.supBrownouts).sendSafe).toutsSafe) :=
    ((Kept.bumpStored u (by decide)).trans (.sendSafe _)).trans (.toutsSafe _)
  have hnoted := hbefore.trans (Kept.noteHalt _ 5)
  have hqueues : ∀ z : State, Kept z ((((z.logAll).mirrorAll).modErrLog (fun l => { l with lastWrite := u.clk })).modJournal
      (fun j => { j with lastMirror := u.clk })) :=
    fun z => (((Kept.logPutMany z _).trans (.mirrorAll _)).trans (.modErrLog _ _)).trans (.modJournal _ _)
  unfold State.brownOut
  rw [if_neg (by simp only [hp, hm, Bool.not_true, Bool.false_eq_true, or_self, not_false_eq_true])]
  refine State.fallToHalt_halted ?_ 5
  refine .ite (hnoted.trans (.trans ?_ (hqueues _))) (hnoted.trans ?_)
  · exact .of_core rfl rfl
  · exact .of_core rfl rfl

theorem State.supplyFault_halted {u : State} (hp : u.power.powered = true) (hm : u.ctl.mode ≠ .halt) : Halted u 5 u.supplyFault := by
  unfold State.supplyFault
  rw [if_pos ⟨hp, .inl hm⟩]
  exact State.halt_halted (Kept.bumpStored u (by decide)) 5 hp hm

theorem State.thermalTrip_halted {u : State} (hp : u.power.powered = true) (hm : u.ctl.mode ≠ .halt) : Halted u 4 u.thermalTrip := by
  have hmode : (u.bumpStored Obj.thTrips).ctl.mode ≠ .halt := hm
  simp only [State.thermalTrip, hp, Bool.not_true, Bool.false_eq_true, if_false, hmode]
  exact State.halt_halted (Kept.bumpStored u (by decide)) 4 hp hm

theorem State.dieLoss_halted {u : State} (hp : u.power.powered = true) (hm : u.ctl.mode ≠ .halt) (hs : u.ctl.mode ≠ .standby)
    (hd : u.power.state ≠ .deep) : Halted u 6 u.dieLoss := by
  unfold State.dieLoss
  rw [if_neg (by simp only [hs, hd, or_self, not_false_eq_true])]
  exact State.halt_halted (Kept.refl u) 6 hp hm

/-- HALT and its cause, settled. -/
theorem Halted.all {u a t : State} {cause : Nat} (h : Halted u cause a) (k : Settled a t) :
    t.ctl.mode = .halt ∧ t.ctl.previousMode = u.ctl.mode ∧ t.ctl.lastCause = cause ∧
    Kv.get? t.dict.mram Obj.modeHaltCause = some (.num cause) ∧ Emission.haltN false ∈ t.out ∧ t.dict.staged = [] ∧
    t.power.haltClk = u.clk ∧ t.power.tripHold = decide (cause = 4) ∧ t.ctl.sessions.map (fun x => x.id) = [SessId.i3c] :=
  have r := h.settled k
  ⟨r.mode, r.previousMode, r.lastCause, r.haltCause, r.haltN, r.staged, r.haltClk, r.tripHold, r.sessions⟩

/-! ## HALT ends -/

/-- What a boot that follows HALT shows, settled (R87, R477). -/
theorem Readied.afterHalt_settled {u a t : State} {cause : Nat} {wake : Bool} (h : Readied u cause wake a) (hm : u.ctl.mode = .halt)
    (k : Settled a t) :
    t.ctl.mode = .boot ∧ t.ctl.boot.started = false ∧ t.ctl.boot.afterHalt = true ∧ Emission.haltN true ∈ t.out := by
  obtain ⟨hmode, -, hboot, -, -, -, hout⟩ := h.settled k
  rw [hboot]
  exact ⟨hmode, h.started, h.afterHalt hm, hout _ (h.haltN hm)⟩

theorem State.leaveHalt_over {s : State} (hm : s.ctl.mode = .halt) (h : s.haltOver = true) :
    ∃ cause, s.leaveHalt = s.readyBoot cause false := ⟨_, if_pos ⟨hm, h⟩⟩

theorem State.supplyReturn_boots {u : State} (hm : u.ctl.mode = .halt) (hr : u.pins.resetN = true) (ht : u.power.tripHold = false)
    (hc : (u.valIn u.dict.mram Obj.modeHaltCause).toNat ≠ 6 ∨ u.power.resetDuringHalt = true) :
    ∃ v cause, v.ctl.mode = .halt ∧ Readied v cause false u.supplyReturn := by
  have hover : (u.modPower (fun p => { p with qualifiedAt := some u.clk })).haltOver = true := by
    show (u.pins.resetN && !u.power.tripHold && (if (u.valIn u.dict.mram Obj.modeHaltCause).toNat = 5 then true else
      if (u.valIn u.dict.mram Obj.modeHaltCause).toNat = 6 then u.power.resetDuringHalt else true)) = true
    rw [hr, ht]
    rcases hc with hc | hc
    · simp only [hc, if_false, ite_self, Bool.not_false, Bool.and_self]
    · simp only [hc, ite_self, Bool.not_false, Bool.and_self]
  obtain ⟨cause, hleave⟩ := State.leaveHalt_over (s := u.modPower (fun p => { p with qualifiedAt := some u.clk })) hm hover
  refine ⟨u.modPower (fun p => { p with qualifiedAt := some u.clk }), cause, hm, ?_⟩
  unfold State.supplyReturn
  rw [if_pos hm, hleave]
  exact State.readyBoot_readied _ _ _

theorem State.thermalRestart_boots {u : State} (hm : u.ctl.mode = .halt) (hr : u.pins.resetN = true) (ht : u.power.tripHold = true)
    (h10 : 10 ≤ u.power.coolRounds) (hc : (u.valIn u.dict.mram Obj.modeHaltCause).toNat = 4) :
    ∃ v cause, v.ctl.mode = .halt ∧ Readied v cause false u.thermalRestart := by
  have hover : (u.modPower (fun p => { p with tripHold := false })).haltOver = true := by
    show (u.pins.resetN && !false && (if (u.valIn u.dict.mram Obj.modeHaltCause).toNat = 5 then u.power.qualifiedAt.isSome else
      if (u.valIn u.dict.mram Obj.modeHaltCause).toNat = 6 then u.power.resetDuringHalt else true)) = true
    rw [hr, hc]
    rfl
  obtain ⟨cause, hleave⟩ := State.leaveHalt_over (s := u.modPower (fun p => { p with tripHold := false })) hm hover
  refine ⟨u.modPower (fun p => { p with tripHold := false }), cause, hm, ?_⟩
  unfold State.thermalRestart
  rw [if_pos ⟨hm, ht, h10⟩, hleave]
  exact State.readyBoot_readied _ _ _

/-- Settles O29. -/
theorem faultsHaltAndHaltEnds : Obligations.FaultsHaltAndHaltEnds := by
  refine ⟨?_, ?_⟩
  · intro dt n s u halts hp hm
    refine ⟨?_, ?_, fun hn => ?_, fun hs hd => ⟨?_, ?_⟩⟩
    · exact State.run_completes (exec_brownOut s dt) rfl (fun t h _ _ => (State.brownOut_halted hp hm).all h)
    · exact State.run_completes (exec_supplyFault s dt) rfl (fun t h _ _ => (State.supplyFault_halted hp hm).all h)
    · refine State.run_completes (exec_thermalTrip s dt n) ?_ (fun t h _ _ => (State.thermalTrip_halted hp hm).all h)
      rw [decide_eq_true hn, Bool.true_or]
    · exact State.run_completes (exec_pllLoss s dt) rfl (fun t h _ _ => (State.dieLoss_halted hp hm hs hd).all h)
    · exact State.run_completes (exec_dieBridgeFailure s dt) rfl (fun t h _ _ => (State.dieLoss_halted hp hm hs hd).all h)
  · intro dt s u cause boots hm hr
    refine ⟨fun ht hc => ?_, fun ht h10 hc => ?_⟩
    · obtain ⟨v, c, hv, hboots⟩ := State.supplyReturn_boots hm hr ht hc
      exact State.run_completes (exec_supplyReturn s dt) rfl (fun t h _ _ => hboots.afterHalt_settled hv h)
    · obtain ⟨v, c, hv, hboots⟩ := State.thermalRestart_boots hm hr ht h10 hc
      exact State.run_completes (exec_thermalRestart s dt) rfl (fun t h _ _ => hboots.afterHalt_settled hv h)

/-! ## RESET_N and the watchdog -/

theorem State.sendSafe_mem {s : State} {b : Nat} (hb : b < 4) (hs : (s.bus b).state = 2 ∨ (s.bus b).state = 3) :
    Emission.safe b ∈ s.sendSafe.out :=
  State.mem_emitAll Emission.safe (List.mem_filter.mpr ⟨List.mem_range.mpr hb, decide_eq_true hs⟩) s

/-- RESET_N asserted while the module runs (R518). -/
theorem State.resetAssert_readied {u : State} (hp : u.power.powered = true) (hr : u.pins.resetN = true) (hm : u.ctl.mode ≠ .halt) :
    ∃ a, Readied u.sendSafe 7 false a ∧
      u.resetAssert = { a with pins := { a.pins with resetN := false }, power := { a.power with standbyCause := 0 } } := by
  refine ⟨u.sendSafe.readyBoot 7 false, State.readyBoot_readied _ _ _, ?_⟩
  simp only [State.resetAssert, hr, hp, hm, Bool.not_true, Bool.false_eq_true, or_self, if_false]

theorem State.resetAssert_halt {u : State} (hp : u.power.powered = true) (hr : u.pins.resetN = true) (hm : u.ctl.mode = .halt) :
    u.resetAssert = { u with pins := { u.pins with resetN := false }, power := { u.power with resetDuringHalt := true } } := by
  unfold State.resetAssert
  rw [if_neg (by simp only [hr, hp, Bool.not_true, Bool.false_eq_true, or_self, not_false_eq_true]), if_pos hm]
  rfl

theorem State.resetRise_on {u : State} {id : Nat} {bootsel : Bool} (hp : u.power.powered = true) (hr : u.pins.resetN = false)
    (hm : u.ctl.mode ≠ .halt) :
    u.resetRise id bootsel = { u with pins := { u.pins with resetN := true, id := id % 4, bootsel := bootsel } } := by
  unfold State.resetRise State.leaveHalt
  rw [if_neg (by simp only [hr, hp, Bool.not_true, Bool.false_eq_true, or_self, not_false_eq_true]), if_neg (fun e => hm e.1)]

theorem State.watchdog_on {u : State} (hp : u.power.powered = true) (hm : u.ctl.mode ≠ .halt) : u.watchdog = u.readyBoot 7 false := by
  simp only [State.watchdog, hm, hp, Bool.not_true, Bool.false_eq_true, or_self, if_false]

theorem Kept.bus_state {a b : State} (h : Kept a b) (k : Nat) : (b.bus k).state = (a.bus k).state :=
  Core.bus_state (congrArg Core.busStates h.core) k

/-- Settles O28. -/
theorem resetReadiesABoot : Obligations.ResetReadiesABoot := by
  intro dt s u hp
  refine ⟨fun hr hm => ?_, fun hr hm => ?_, fun id bootsel hr hm => ?_, fun hm => ?_⟩
  · obtain ⟨a, hready, ha⟩ := State.resetAssert_readied hp hr hm
    refine State.run_completes (exec_resetNAssert s dt) rfl (fun t h _ _ => ?_)
    rw [ha] at h
    refine ⟨h.ctl_mode.trans hready.mode, (congrArg (fun s : State => s.ctl.boot.started) h.same :).trans hready.started,
      (congrArg (fun s : State => s.pins.resetN) h.same :), (congrArg (fun s : State => s.ctl.lastCause) h.same :).trans hready.lastCause,
      h.staged.trans hready.staged, fun b hb hs => ⟨h.mem_out ?_, h.mem_out ?_⟩⟩
    · obtain ⟨l, hl⟩ := hready.out
      show _ ∈ a.out
      rw [hl]
      exact List.mem_append_left _ (State.sendSafe_mem hb hs)
    · refine hready.silent b hb ?_
      rw [(Kept.sendSafe _).bus_state]
      exact hs
  · refine State.run_completes (exec_resetNAssert s dt) rfl (fun t h _ _ => ?_)
    rw [State.resetAssert_halt hp hr hm] at h
    exact h
  · refine State.run_completes (exec_resetNRise s dt id bootsel) rfl (fun t h _ _ => ?_)
    rw [State.resetRise_on hp hr hm] at h
    exact h
  · refine State.run_completes (exec_watchdog s dt) rfl (fun t h _ _ => ?_)
    rw [State.watchdog_on hp hm] at h
    have hready := State.readyBoot_readied (s.advance dt) 7 false
    obtain ⟨hmode, hcause, hboot, hstaged, -⟩ := hready.settled h
    rw [hboot]
    exact ⟨hmode, hready.started, hcause, hstaged⟩

/-! ## Power-up -/

/-- The state that input power leaves (R474, R519). -/
def State.poweredUp (s : State) (vinMv id : Nat) (bootsel : Bool) : State :=
  let s0 := s.readyBoot 2 false
  let s1 := if s.power.powered ∨ s.ctl.mode = .halt then s0 else s0.emit (.haltN true)
  { s1 with
    pins := { s1.pins with id := id % 4, bootsel := bootsel },
    power := { s1.power with
      powered := true, standbyCause := 0, round := 0, readings := PowerSys.reset.readings,
      invalidRuns := PowerSys.reset.invalidRuns, bandW := 1, bandE := 1, bandBoard := 1, band := 1, dies := PowerSys.reset.dies,
      qualifiedAt := if 35000 ≤ vinMv then some (s.clk + 100000000) else none } }

theorem State.powerUp_ready {u : State} (vinMv id : Nat) (bootsel : Bool)
    (h : u.ctl.mode = .halt ∨ (u.ctl.mode = .boot ∧ u.ctl.boot.started = false) ∨ u.power.powered = false) :
    u.powerUp vinMv id bootsel = u.poweredUp vinMv id bootsel := by
  have hcond : u.ctl.mode = .halt ∨ (u.ctl.mode = .boot ∧ (!u.ctl.boot.started) = true) ∨ (!u.power.powered) = true := by
    simpa only [Bool.not_eq_true'] using h
  exact if_pos hcond

/-- The boot that input power readies, with the straps and the time from which the input has qualified (R474, R519, R540). -/
theorem State.poweredUp_readied (u : State) (vinMv id : Nat) (bootsel : Bool) :
    let a := u.poweredUp vinMv id bootsel
    a.ctl = (u.readyBoot 2 false).ctl ∧ a.dict = (u.readyBoot 2 false).dict ∧ a.power.powered = true ∧ a.pins.id = id % 4 ∧
    a.pins.bootsel = bootsel ∧ a.power.qualifiedAt = if 35000 ≤ vinMv then some (u.clk + 100000000) else none := by
  intro a
  have hctl : ∀ p : Prop, ∀ _ : Decidable p, ∀ z : State, (if p then z else z.emit (.haltN true)).ctl = z.ctl ∧
      (if p then z else z.emit (.haltN true)).dict = z.dict := by
    intro p _ z
    split <;> exact ⟨rfl, rfl⟩
  exact ⟨(hctl _ _ _).1, (hctl _ _ _).2, rfl, rfl, rfl, rfl⟩

theorem Settled.ctl_boot {a t : State} (h : Settled a t) : t.ctl.boot = a.ctl.boot := (congrArg (fun s : State => s.ctl.boot) h.same :)

/-- What input power leaves, settled (R474, R519, R540). -/
theorem State.poweredUp_settled {u t : State} {vinMv id : Nat} {bootsel : Bool} (h : Settled (u.poweredUp vinMv id bootsel) t) :
    t.ctl.mode = .boot ∧ t.ctl.boot.started = false ∧ t.ctl.boot.step = 0 ∧ t.power.powered = true ∧
    t.pins.id = id % 4 ∧ t.pins.bootsel = bootsel ∧ t.ctl.sessions.map (fun x => x.id) = [SessId.i3c] ∧
    t.dict.staged = [] ∧ t.power.qualifiedAt = if 35000 ≤ vinMv then some (u.clk + 100000000) else none := by
  obtain ⟨hctl, hdict, hpow, hid, hsel, hqual⟩ := u.poweredUp_readied vinMv id bootsel
  generalize u.poweredUp vinMv id bootsel = a at h hctl hdict hpow hid hsel hqual
  have hready := u.readyBoot_readied 2 false
  have hboot : t.ctl.boot = (u.readyBoot 2 false).ctl.boot :=
    h.ctl_boot.trans (congrArg Control.boot hctl)
  rw [hboot]
  exact ⟨h.ctl_mode.trans ((congrArg Control.mode hctl).trans hready.mode), hready.started, hready.step,
    (congrArg (fun s : State => s.power.powered) h.same :).trans hpow, (congrArg (fun s : State => s.pins.id) h.same :).trans hid,
    (congrArg (fun s : State => s.pins.bootsel) h.same :).trans hsel,
    (SameSessions.of_settled h).ids.trans ((congrArg (fun c : Control => c.sessions.map Session.id) hctl :).trans hready.sessions),
    h.staged.trans ((congrArg Dict.staged hdict).trans hready.staged),
    (congrArg (fun s : State => s.power.qualifiedAt) h.same :).trans hqual⟩

/-! ## Wakes from STANDBY -/

theorem State.wakeStandby_readied (s : State) (cause : WakeCause) (wake : Bool) :
    ∃ v a, Readied v 8 wake a ∧ v.power.standbyCause = wakeCode cause ∧
      s.wakeStandby cause wake = a.modPower (fun p => { p with wokeAt := some s.clk }) :=
  ⟨_, _, State.readyBoot_readied _ _ _, rfl, rfl⟩

/-- KEY_PRESSES of a key is a number whose default is 0. -/
def zeroDefault (key : Nat) : Bool :=
  match Catalog.row key with
  | some r => match r.dflt with | .num n => n == 0 | _ => false
  | none => false

theorem defaultVal_of_zeroDefault {part : Part} {id key : Nat} (h : zeroDefault key = true) : (defaultVal part id key).toNat = 0 := by
  unfold zeroDefault at h
  unfold defaultVal
  split at h
  · split at h
    · simp_all [Val.toNat]
    · cases h
  · cases h

theorem zeroDefault_keyPresses : ∀ k < 8, zeroDefault (Obj.keyPresses k) = true := by decide +kernel

theorem ownStatus_keyPresses : ∀ k < 8, ownStatus (Obj.keyPresses k) = false := by decide +kernel

/-- What a wake from STANDBY leaves, settled (R487). -/
theorem State.wakeStandby_settled {s t : State} {cause : WakeCause} {wake : Bool} (h : Settled (s.wakeStandby cause wake) t) :
    t.ctl.mode = .boot ∧ t.ctl.boot.wake = wake ∧ t.power.standbyCause = wakeCode cause ∧
    ∀ key, ownStatus key = false → zeroDefault key = true → t.num key = 0 := by
  obtain ⟨v, a, hready, hv, ha⟩ := s.wakeStandby_readied cause wake
  rw [ha] at h
  refine ⟨h.ctl_mode.trans hready.mode, (congrArg (fun s : State => s.ctl.boot.wake) h.same :).trans hready.wake,
    (congrArg (fun s : State => s.power.standbyCause) h.same :).trans (hready.standbyCause.trans hv), fun key hown hzero => ?_⟩
  rw [h.num hown]
  show ((Kv.get? a.dict.inForce key).getD (a.dfltOf key)).toNat = 0
  rw [hready.inForce]
  exact defaultVal_of_zeroDefault hzero

theorem State.standbyWake_key {u : State} (hm : u.ctl.mode = .standby) (hr : u.pins.resetN = true)
    (hon : bitOf (u.valIn u.dict.mram Obj.pwStandbyWake).toNat 1 = true) : u.standbyWake .key = u.wakeStandby .key false := by
  simp only [State.standbyWake, hr, hon, hm, Bool.not_true, Bool.false_eq_true, or_self, if_false, if_true]

theorem State.standbyWake_encoder {u : State} (hm : u.ctl.mode = .standby) (hr : u.pins.resetN = true)
    (hon : bitOf (u.valIn u.dict.mram Obj.pwStandbyWake).toNat 2 = true) (henc : u.power.encodersAtStandby ≠ 0) :
    u.standbyWake .encoder = u.wakeStandby .encoder false := by
  simp only [State.standbyWake, hr, hon, hm, henc, decide_true, ne_eq, not_false_eq_true, Bool.and_self, Bool.not_true, Bool.false_eq_true,
    or_self, if_false, if_true]

/-- A change of A or B of a channel that was enabled at the entry (R487). -/
theorem State.edgeSeen_standby {u : State} {c n : Nat} {levels : EdgeLevels} (hm : u.ctl.mode = .standby) (hr : u.pins.resetN = true)
    (hon : bitOf (u.valIn u.dict.mram Obj.pwStandbyWake).toNat 2 = true) (henc : bitOf u.power.encodersAtStandby c = true)
    (hedge : (u.encoder c).a ≠ levels.a ∨ (u.encoder c).b ≠ levels.b) :
    u.edgeSeen c n levels.a levels.b =
      (u.modEncoder c (fun y => { y with a := levels.a, b := levels.b })).wakeStandby .encoder false := by
  have hne : u.power.encodersAtStandby ≠ 0 := by
    intro e
    rw [e] at henc
    simp [bitOf] at henc
  unfold State.edgeSeen
  rw [if_pos hm]
  dsimp only
  rw [if_pos ⟨hedge, henc⟩]
  exact State.standbyWake_encoder hm hr hon hne

theorem State.wakeTransfer_standby {u : State} (hm : u.ctl.mode = .standby) (hr : u.pins.resetN = true) (hp : u.power.powered = true) :
    u.wakeTransfer 0x57 = u.wakeStandby .i3c true := by
  unfold State.wakeTransfer
  rw [if_neg (by simp only [hr, hp, Bool.not_true, Bool.false_eq_true, or_self, not_false_eq_true])]
  simp only [hm, if_true]

/-- Settles O26. -/
theorem powerUpAndStandbyBoot : Obligations.PowerUpAndStandbyBoot := by
  refine ⟨?_, ?_⟩
  · intro dt vinMv id bootsel s u hfrom
    refine State.run_completes (exec_powerUp s dt vinMv id bootsel) rfl (fun t h _ _ => ?_)
    rw [State.powerUp_ready vinMv id _ hfrom] at h
    exact State.poweredUp_settled h
  · intro dt s u m hm hr hp
    refine ⟨fun hon => ?_, fun k hk hon => ?_, fun c n levels hc hon henc hedge => ?_, ?_⟩
    · refine State.run_completes (exec_standbyWake s dt .key) rfl (fun t h _ _ => ?_)
      have h' : Settled (u.standbyWake .key) t := h
      rw [State.standbyWake_key hm hr hon] at h'
      obtain ⟨hmode, hwake, hcause, -⟩ := State.wakeStandby_settled h'
      exact ⟨hmode, hwake, hcause⟩
    · refine State.run_completes (exec_keyPress s dt k) (decide_eq_true hk) (fun t h _ _ => ?_)
      have h' : Settled (u.keySeen k) t := h
      have hseen : u.keySeen k = u.standbyWake .key := if_pos hm
      rw [hseen, State.standbyWake_key hm hr hon] at h'
      obtain ⟨hmode, -, hcause, hnum⟩ := State.wakeStandby_settled h'
      exact ⟨hmode, hcause, hnum _ (ownStatus_keyPresses k hk) (zeroDefault_keyPresses k hk)⟩
    · refine State.run_completes (exec_countEdge s dt c n levels) (decide_eq_true hc) (fun t h _ _ => ?_)
      have h' : Settled (u.edgeSeen c n levels.a levels.b) t := h
      rw [State.edgeSeen_standby hm hr hon henc hedge] at h'
      obtain ⟨hmode, -, hcause, -⟩ := State.wakeStandby_settled h'
      exact ⟨hmode, hcause⟩
    · refine State.run_completes (exec_wakeTransfer s dt 0x57) rfl (fun t h _ _ => ?_)
      have h' : Settled (u.wakeTransfer 0x57) t := h
      rw [State.wakeTransfer_standby hm hr hp] at h'
      obtain ⟨hmode, hwake, hcause, -⟩ := State.wakeStandby_settled h'
      exact ⟨hmode, hwake, hcause⟩

end Sys2Proof.Machine
end

section
/-! PROOFS. RC writes, segmented and block reads and writes (O9, O11 to O15). -/

namespace Sys2Proof.Machine

/-! ## RC writes -/

theorem writeKind_rc {r : ObjRow} (h : r.acc = .rc) : writeKind r = 1 := by rw [writeKind, h]

/-- An RC write that is journalled clears what its value names (R102, R511, R512). -/
theorem State.applyWrite_rc {s : State} {src : Src} {r : ObjRow} {key : Nat} {raw : Bytes} (hacc : r.acc = .rc) (hty : r.ty ≠ .blob)
    (hj : journalled key = true) (hresponse : key ≠ Obj.accResponse) (hack : isAck key = false) :
    s.applyWrite src r key raw = ((s.journalReq src 1 key raw).rcWrite r key (r.ty.decode raw).toNat, Code.ok) := by
  rw [State.applyWrite_ordinary hresponse hack]
  simp only [State.journalWrite, if_neg hty, if_pos hj, writeKind_rc hacc, State.writeEffect, hacc]

/-- Settles O9. -/
theorem rcWriteClears : Obligations.RcWriteClears := by
  intro dt src index sub data s r u q w hh hr hacc hj hack hresponse hport key j v a
  have he := execute_write hr
  rw [State.applyWrite_rc hacc hr.type hj hresponse hack] at he
  exact heard_completes (i := .rcClear dt src index sub data) rfl hh (movesPort_of_object hport _) he

/-! ## Segmented reads -/

section SegRead

variable {w : State} {src : Src} {x : Session} {q : Req} {r : ObjRow} (hop : q.opcode = Op.segRead) (hr : w.acceptsRead x q r)
  (hty : r.ty = .text ∨ r.ty = .octets)
include hop hr hty

/-- A SEG_READ past its checks (R70). -/
theorem execute_segRead_accepted : w.execute src x q =
    if q.offset = 0 then
      match w.content x r q.index q.at_ with
      | .error h => (w.requestSeen, { flags := 1, code := Code.notReady, data := h })
      | .ok b => (w.covered src q.key).segment src x.id q.key 0 b
    else
      match assoc x.snapshots q.key with
      | none => (w.requestSeen, Answer.of Code.segmentOrder)
      | some b => w.segment src x.id q.key q.offset b := by
  have hsegment : ¬ (r.ty ≠ .text ∧ r.ty ≠ .octets) := fun h => hty.elim h.1 h.2
  rw [execute_segRead hop]
  unfold State.doSegRead
  simp only [hr.admits, hsegment, if_false, Req.key] <;> rfl

/-- At OFFSET 0 of an object that is no result, and at a further OFFSET of a snapshot (R70). -/
theorem execute_segRead_segment {b : Bytes} (hres : isResult q.key = false)
    (hb : (q.offset = 0 ∧ b = w.readBytes x r q.index q.at_) ∨ (q.offset ≠ 0 ∧ assoc x.snapshots q.key = some b)) :
    w.execute src x q = w.segment src x.id q.key q.offset b := by
  rw [execute_segRead_accepted hop hr hty]
  rcases hb with ⟨h0, rfl⟩ | ⟨hne, hsnap⟩
  · rw [if_pos h0, State.content_of_not_result hres, h0]
    dsimp only
    rw [State.covered_of_not_result hres]
  · rw [if_neg hne, hsnap]

theorem execute_segRead_order (hne : q.offset ≠ 0) (hsnap : assoc x.snapshots q.key = none) :
    w.execute src x q = (w.requestSeen, Answer.of Code.segmentOrder) := by
  rw [execute_segRead_accepted hop hr hty, if_neg hne, hsnap]

end SegRead

/-- Within the snapshot, its bytes from OFFSET on (R70). -/
theorem State.segment_within {s : State} {src : Src} {id : SessId} {key offset : Nat} {b : Bytes} (h : offset ≤ b.length) :
    s.segment src id key offset b =
      (let part := slice b offset (frameMax src)
       let last := decide (b.length ≤ offset + part.length)
       let a := s.requestSeen.modSession id (fun x => { x with snapshots := assocPut x.snapshots key b })
       (if last then a.endsSnapshot src id key else a, { flags := if last then 1 else 0, code := Code.ok, data := part })) :=
  if_neg (Nat.not_lt.mpr h)

/-- On I3C the end of a snapshot waits for the response to be read, which is no more than an answer moves (R70). -/
theorem Answered.of_endsSnapshot {s t : State} {tag : Nat} {id : SessId} {key : Nat} {last : Bool} {q : Req} {ans : Answer}
    (h : Answered (if last then s.endsSnapshot (.i3c tag) id key else s) t (.i3c tag) q ans) : Answered s t (.i3c tag) q ans := by
  cases last with
  | false => exact h
  | true => exact ⟨h.same, h.out, h.raised, h.get, h.alerts, h.answer⟩

/-- Settles O11. -/
theorem segReadsServeASnapshot : Obligations.SegReadsServeASnapshot := by
  refine ⟨?_, ?_⟩
  · intro dt src index sub offset s r b u q w x hh hr hty hres key part last hb hlen a ended
    have he := execute_segRead_segment (src := src) rfl hr hty hres hb
    rw [State.segment_within hlen] at he
    have h := heard_completes (i := .segRead dt src index sub offset) rfl hh
      (movesPort_of_opcode (by show Op.segRead ≠ Op.write; decide) _) he
    cases src with
    | ydp e ip port sess seq => exact h
    | i3c tag =>
      refine h.imp (fun t ht => ?_)
      have hsame : (if last = true then ended else a) = a := ite_self _
      rw [hsame]
      exact ht.of_endsSnapshot
  · intro dt src index sub offset s r u q w x hh hr hty hne hsnap
    exact heard_completes (i := .segRead dt src index sub offset) rfl hh
      (movesPort_of_opcode (by show Op.segRead ≠ Op.write; decide) _) (execute_segRead_order rfl hr hty hne hsnap)

/-! ## Segmented writes -/

section SegWrite

variable {w : State} {src : Src} {x : Session} {q : Req} {r : ObjRow} (hop : q.opcode = Op.segWrite)
  (hty : r.ty = .text ∨ r.ty = .octets) (hlen : q.data.length ≤ frameMax src)
include hop hty hlen

/-- A SEG_WRITE past its checks (R69). -/
theorem execute_segWrite_admitted
    (hadmit : w.admitWrite x q.index q.at_ (if bitOf q.flags 0 && (x.joined q.key q.offset q.data).isSome then .whole else .part)
      ((x.joined q.key q.offset q.data).getD []) = .ok r) :
    w.execute src x q =
      match x.joined q.key q.offset q.data with
      | none => (((w.requestSeen.touch_ r).modSession x.id (fun y => { y with segWrite := none })).journalFailed src (writeKind r) q.key
          Code.segmentOrder, Answer.of Code.segmentOrder)
      | some b =>
        if bitOf q.flags 0 && (x.joined q.key q.offset q.data).isSome then (w.requestSeen.touch_ r).segFinish src r q.key b
        else ((w.requestSeen.touch_ r).modSession x.id (fun y => { y with segWrite := some (q.key, b) }), Answer.of Code.ok) := by
  have hsegment : ¬ (r.ty ≠ .text ∧ r.ty ≠ .octets) := fun h => hty.elim h.1 h.2
  unfold Req.key at *
  rw [execute_segWrite hop]
  unfold State.doSegWrite
  simp only [hadmit, hsegment, if_false, Nat.not_lt.mpr hlen] <;> rfl

end SegWrite

theorem Ty.not_blob {ty : Ty} (h : ty = .text ∨ ty = .octets) : ty ≠ .blob := by rcases h with rfl | rfl <;> decide

/-- A whole value that passes its checks is written as a WRITE would (R69). -/
theorem State.segFinish_good {s : State} {src : Src} {r : ObjRow} {key : Nat} {b : Bytes} (hlen : r.lengthCode b.length = none)
    (hvalue : s.valueOk r key (r.ty.decode b) = true) (hresponse : key ≠ Obj.accResponse) (hack : isAck key = false) :
    s.segFinish src r key b = (((s.modSession (srcId src) (fun y => { y with segWrite := none })).journalWrite src r key b).writeEffect
      src r key (r.ty.decode b), Answer.of Code.ok) := by
  simp only [State.segFinish, hlen, hvalue, if_true, State.applyWrite_ordinary hresponse hack]

/-- The flag FINAL of a segment (R69). -/
theorem Req.ofSegment_final (opcode index sub offset : Nat) (final : Bool) (data : Bytes) :
    bitOf (Req.ofSegment opcode index sub offset final data).normal.flags 0 = final := by
  cases final
  · show bitOf 0 0 = false
    decide
  · show bitOf 1 0 = true
    decide

/-- Settles O12. -/
theorem segWriteGathersAValue : Obligations.SegWriteGathersAValue := by
  intro dt src q index sub offset final data s w x r hi hs hty hlen key
  obtain ⟨hsrc, hq⟩ := Prod.mk.inj (Option.some.inj hi)
  have hop : q.opcode = Op.segWrite := by rw [← hq]; rfl
  have hfinal : bitOf q.flags 0 = final := by
    rw [← hq]
    exact Req.ofSegment_final Op.segWrite index sub offset final data
  have hport : ∀ ans, movesPort q ans = false := movesPort_of_opcode (by rw [hop]; decide)
  have hdone : ∀ {a ans}, w.execute src x q = (a, ans) →
      Completes (.segWrite dt src index sub offset final data) s (fun t => Answered a t src q ans) :=
    fun he => request_served hi hs (hport _) he
  refine ⟨fun b hb hadmit => ⟨fun hf => ?_, fun hf hcode hvalue hresponse hack => ?_⟩, fun hnone hadmit => ?_⟩
  · refine hdone ?_
    have hb' : x.joined q.key q.offset q.data = some b := hb
    rw [execute_segWrite_admitted hop hty hlen (by simpa only [hb', hfinal, hf, Option.isSome_some, Bool.false_and, Bool.false_eq_true,
      if_false, Option.getD_some] using hadmit)]
    simp only [hb', hfinal, hf, Bool.false_and, Bool.false_eq_true, if_false]
    rfl
  · refine hdone ?_
    have hb' : x.joined q.key q.offset q.data = some b := hb
    rw [execute_segWrite_admitted hop hty hlen (by simpa only [hb', hfinal, hf, Option.isSome_some, Bool.true_and, if_true,
      Option.getD_some] using hadmit)]
    simp only [hb', hfinal, hf, Option.isSome_some, Bool.true_and, if_true]
    exact State.segFinish_good hcode hvalue hresponse hack
  · refine hdone ?_
    have hnone' : x.joined q.key q.offset q.data = none := hnone
    rw [execute_segWrite_admitted hop hty hlen (by simpa only [hnone', Option.isSome_none, Bool.and_false, Bool.false_eq_true, if_false,
      Option.getD_none] using hadmit)]
    simp only [hnone']
    rfl

end Sys2Proof.Machine
end

section
/-! PROOFS. Block transfers and block reads (O13 to O15). -/

namespace Sys2Proof.Machine

/-! ## The transfer buffer -/

/-- The bytes of a string read as they were written. -/
theorem Mem.read_writeBytes_same {m : Mem} {a k : Nat} {b : Bytes} (w : m.wf = true) (h : k < b.length) :
    Mem.read (Mem.writeBytes m a b) (a + k) = b.getD k 0 := by
  induction b generalizing m a k with
  | nil => exact absurd h (Nat.not_lt_zero k)
  | cons x r ih =>
    cases k with
    | zero =>
      show Mem.read (Mem.writeBytes (Mem.write m a x) (a + 1) r) a = x
      rw [Mem.read_writeBytes_other r (.inl (Nat.lt_succ_self a))]
      exact Mem.read_write_same x w
    | succ k =>
      have hk : k < r.length := Nat.lt_of_succ_lt_succ h
      have hrest := ih (a := a + 1) (Mem.write_wf a x w) hk
      rw [show a + 1 + k = a + (k + 1) by omega] at hrest
      exact hrest

/-- Blocks of a segment put into the buffer (R72). -/
def enterBlocks (offset : Nat) (data : Bytes) (blocks : List Nat) (m : Mem) : Mem :=
  blocks.foldl (fun m b => Mem.writeBytes m (128 * b) (slice data (128 * b - offset) 128)) m

section Blocks

variable {offset : Nat} {data : Bytes}

theorem enterBlocks_wf (blocks : List Nat) {m : Mem} (h : m.wf = true) : (enterBlocks offset data blocks m).wf = true := by
  induction blocks generalizing m with
  | nil => exact h
  | cons b r ih => exact ih (Mem.writeBytes_wf _ _ h)

theorem slice_length (data : Bytes) (o n : Nat) : (slice data o n).length = min n (data.length - o) := by
  simp only [slice, List.length_take, List.length_drop]

/-- A byte outside the segment, or in none of the blocks, stays (R72). -/
theorem enterBlocks_other {blocks : List Nat} {a : Nat} (hblocks : ∀ b ∈ blocks, offset ≤ 128 * b)
    (h : a < offset ∨ offset + data.length ≤ a ∨ a / 128 ∉ blocks) (m : Mem) :
    Mem.read (enterBlocks offset data blocks m) a = Mem.read m a := by
  induction blocks generalizing m with
  | nil => rfl
  | cons b r ih =>
    have hb := hblocks b List.mem_cons_self
    have hlen := slice_length data (128 * b - offset) 128
    have hout : a < 128 * b ∨ 128 * b + (slice data (128 * b - offset) 128).length ≤ a := by
      rw [hlen]
      rcases h with h | h | h
      · omega
      · omega
      · have hne : a / 128 ≠ b := fun e => h (e ▸ List.mem_cons_self)
        omega
    have hrest : a < offset ∨ offset + data.length ≤ a ∨ a / 128 ∉ r :=
      h.imp_right (Or.imp_right (fun hn hm => hn (List.mem_cons_of_mem _ hm)))
    exact (ih (fun c hc => hblocks c (List.mem_cons_of_mem _ hc)) hrest _).trans (Mem.read_writeBytes_other _ hout)

/-- A byte of the segment in one of the blocks is the segment's (R72). -/
theorem enterBlocks_same {blocks : List Nat} {k : Nat} (hblocks : ∀ b ∈ blocks, offset ≤ 128 * b) (hk : k < data.length)
    (hmem : (offset + k) / 128 ∈ blocks) {m : Mem} (hm : m.wf = true) :
    Mem.read (enterBlocks offset data blocks m) (offset + k) = data.getD k 0 := by
  induction blocks generalizing m with
  | nil => exact absurd hmem List.not_mem_nil
  | cons b r ih =>
    have hb := hblocks b List.mem_cons_self
    have hr := fun c hc => hblocks c (List.mem_cons_of_mem b hc)
    by_cases hlater : (offset + k) / 128 ∈ r
    · exact ih hr hlater (Mem.writeBytes_wf _ _ hm)
    · have hhere : (offset + k) / 128 = b := (List.mem_cons.mp hmem).resolve_right hlater
      refine (enterBlocks_other hr (.inr (.inr hlater)) _).trans ?_
      have hplace : offset + k = 128 * b + (offset + k - 128 * b) := by omega
      have hlen : offset + k - 128 * b < (slice data (128 * b - offset) 128).length := by
        rw [slice_length]
        omega
      rw [hplace, Mem.read_writeBytes_same hm hlen]
      simp only [slice, List.getD_eq_getElem?_getD]
      rw [List.getElem?_take_of_lt (by omega), List.getElem?_drop]
      congr 2
      omega

end Blocks

/-- A segment entered puts the blocks that were not there into the buffer (R67, R72). -/
theorem Transfer.enter_buffer (tr : Transfer) (offset : Nat) (data : Bytes) :
    (tr.enter offset data).buffer = enterBlocks offset data ((rangeFrom (offset / 128) (ceilDiv data.length 128)).filter
      (fun b => !tr.received.contains b)) tr.buffer := rfl

/-- A segment of a transfer in the buffer (R72). -/
theorem Transfer.enter_spec (tr : Transfer) (offset : Nat) (data : Bytes) (h0 : offset % 128 = 0) (hwf : tr.buffer.wf = true) :
    (tr.enter offset data).buffer.wf = true ∧
    (∀ a, a < offset ∨ offset + data.length ≤ a → Mem.read (tr.enter offset data).buffer a = Mem.read tr.buffer a) ∧
    (∀ k, k < data.length → tr.received.contains ((offset + k) / 128) = false →
      Mem.read (tr.enter offset data).buffer (offset + k) = data.getD k 0) := by
  have hblocks : ∀ b ∈ (rangeFrom (offset / 128) (ceilDiv data.length 128)).filter (fun b => !tr.received.contains b),
      offset ≤ 128 * b := by
    intro b hb
    obtain ⟨j, -, rfl⟩ := List.mem_map.mp (List.mem_filter.mp hb).1
    omega
  rw [Transfer.enter_buffer]
  refine ⟨enterBlocks_wf _ hwf, fun a ha => enterBlocks_other hblocks (ha.imp_right .inl) _, fun k hk hnew => ?_⟩
  refine enterBlocks_same hblocks hk ?_ hwf
  refine List.mem_filter.mpr ⟨List.mem_map.mpr ⟨(offset + k) / 128 - offset / 128, List.mem_range.mpr ?_, by omega⟩, by rw [hnew]; rfl⟩
  unfold ceilDiv
  omega

/-! ## The requests of a transfer -/

/-- BLOCK_START past its checks (R71). -/
theorem execute_blockStart_admitted {w : State} {src : Src} {x : Session} {q : Req} {r : ObjRow} (hop : q.opcode = Op.blockStart)
    (hadmit : w.admitWrite x q.index q.at_ .start q.data = .ok r) (hty : r.ty = .blob) (hlen : q.data.length = 4)
    (hblob : w.blobLength r q.key (leNat q.data) = none) :
    w.execute src x q =
      let s1 := w.requestSeen.touch_ r
      match w.ctl.transfer with
      | some t =>
        if t.session ≠ x.id then (s1, Answer.of Code.transferBusy)
        else
          let s2 := s1.dropTransfer.blobOpens q.key
          ({ s2 with ctl := { s2.ctl with transfer := some { session := x.id, key := q.key, length := leNat q.data, buffer := [], received := [] } } },
            Answer.of Code.ok)
      | none =>
        let s2 := s1.blobOpens q.key
        ({ s2 with ctl := { s2.ctl with transfer := some { session := x.id, key := q.key, length := leNat q.data, buffer := [], received := [] } } },
          Answer.of Code.ok) := by
  have hchecks : ¬ (r.ty ≠ .blob ∨ q.data.length ≠ 4) := by simp only [hty, hlen, ne_eq, not_true_eq_false, or_self, not_false_eq_true]
  unfold Req.key at *
  rw [execute_blockStart hop]
  unfold State.doBlockStart
  simp only [hadmit, hchecks, if_false, hblob] <;> rfl

theorem State.openTransfer_mine {w : State} {x : Session} {key : Nat} {tr : Transfer} (htr : w.ctl.transfer = some tr)
    (hs : tr.session = x.id) (hk : tr.key = key) : w.openTransfer x.id key = .ok tr := by
  simp only [State.openTransfer, htr, hs, hk, ne_eq, not_true_eq_false, if_false, if_true]

/-- BLOCK_DATA of the open transfer, in its place (R72). -/
theorem execute_blockData_fits {w : State} {src : Src} {x : Session} {q : Req} {r : ObjRow} {tr : Transfer} (hop : q.opcode = Op.blockData)
    (hadmit : w.admitWrite x q.index q.at_ .part q.data = .ok r) (hty : r.ty = .blob) (hlen : q.data.length ≤ frameMax src)
    (htr : w.ctl.transfer = some tr) (hs : tr.session = x.id) (hk : tr.key = q.key) (hfits : tr.fits q.offset q.data.length = true) :
    w.execute src x q =
      (let a := (w.requestSeen.touch_ r).blobBuffered q.offset q.data.length
       ({ a with ctl := { a.ctl with transfer := some (tr.enter q.offset q.data) } }, Answer.of Code.ok)) := by
  have hopen := State.openTransfer_mine htr hs hk
  unfold Req.key at *
  rw [execute_blockData hop]
  unfold State.doBlockData
  simp only [hadmit, hty, ne_eq, not_true_eq_false, if_false, Nat.not_lt.mpr hlen, hopen, hfits, if_true]

/-- BLOCK_END of the open transfer (R73). -/
theorem execute_blockEnd_mine {w : State} {src : Src} {x : Session} {q : Req} {r : ObjRow} {tr : Transfer} (hop : q.opcode = Op.blockEnd)
    (hadmit : w.admitWrite x q.index q.at_ .finish q.data = .ok r) (hty : r.ty = .blob) (hlen : q.data.length = 4)
    (htr : w.ctl.transfer = some tr) (hs : tr.session = x.id) (hk : tr.key = q.key) :
    w.execute src x q =
      match tr.missing with
      | some b => (w.requestSeen.touch_ r, { flags := 1, code := Code.blockIncomplete, data := leBytes 4 (128 * b) })
      | none => (w.requestSeen.touch_ r).blobFinish src r q.key (leNat q.data) tr.value := by
  have hopen := State.openTransfer_mine htr hs hk
  have hchecks : ¬ (r.ty ≠ .blob ∨ q.data.length ≠ 4) := by simp only [hty, hlen, ne_eq, not_true_eq_false, or_self, not_false_eq_true]
  unfold Req.key at *
  rw [execute_blockEnd hop]
  unfold State.doBlockEnd
  simp only [hadmit, hchecks, if_false, hopen] <;> rfl

theorem State.blobFinish_badCheck {s : State} {src : Src} {r : ObjRow} {key crc : Nat} {b : Bytes} (h : crc32c b ≠ crc) :
    s.blobFinish src r key crc b = (s.dropTransfer.journalFailed src 3 key Code.badCheck, Answer.of Code.badCheck) := by
  simp only [State.blobFinish, if_neg h]

/-- A whole value with its CRC right is written (R73). -/
theorem State.blobFinish_good {s : State} {src : Src} {r : ObjRow} {key crc : Nat} {b : Bytes} (h : crc32c b = crc)
    (hcode : s.blobCode r key b = none) (hty : r.ty = .blob) (hresponse : key ≠ Obj.accResponse) (hack : isAck key = false) :
    s.blobFinish src r key crc b = ((({ s with ctl := { s.ctl with transfer := none } } : State).journalWrite src r key b).writeEffect src
      r key (.bytes b), Answer.of Code.ok) := by
  have hdecode : r.ty.decode b = .bytes b := by rw [hty]; rfl
  simp only [State.blobFinish, if_pos h, hcode, State.applyWrite_ordinary hresponse hack, hdecode]

/-- Settles O13. -/
theorem blocksEnterATransfer : Obligations.BlocksEnterATransfer := by
  refine ⟨?_, ?_, Transfer.enter_spec⟩
  · intro dt src q index sub data s w x r hi hs hadmit hty hlen hblob
    obtain ⟨-, hq⟩ := Prod.mk.inj (Option.some.inj hi)
    have hop : q.opcode = Op.blockStart := by rw [← hq]; rfl
    have hport : ∀ ans, movesPort q ans = false := movesPort_of_opcode (by rw [hop]; decide)
    have he := execute_blockStart_admitted (src := src) hop hadmit hty hlen hblob
    refine ⟨fun hnone => ?_, fun tr htr hbusy => ?_⟩
    · rw [hnone] at he
      exact request_served hi hs (hport _) he
    · rw [htr] at he
      dsimp only at he
      rw [if_pos hbusy] at he
      exact request_served hi hs (hport _) he
  · intro dt src q index sub offset data s w x r tr hi hs hadmit hty hlen htr hsession hkey hfits
    obtain ⟨-, hq⟩ := Prod.mk.inj (Option.some.inj hi)
    have hop : q.opcode = Op.blockData := by rw [← hq]; rfl
    exact request_served hi hs (movesPort_of_opcode (by rw [hop]; decide) _)
      (execute_blockData_fits hop hadmit hty hlen htr hsession hkey hfits)

/-- Settles O14. -/
theorem blockEndWritesTheValue : Obligations.BlockEndWritesTheValue := by
  intro dt src q index sub data s w x r tr hi hs hadmit hty hlen htr hsession hkey key a
  obtain ⟨-, hq⟩ := Prod.mk.inj (Option.some.inj hi)
  have hop : q.opcode = Op.blockEnd := by rw [← hq]; rfl
  have hport : ∀ ans, movesPort q ans = false := movesPort_of_opcode (by rw [hop]; decide)
  have he := execute_blockEnd_mine (src := src) hop hadmit hty hlen htr hsession hkey
  refine ⟨fun b hb => ?_, fun hnone hcrc => ?_, fun hnone hcrc hcode hresponse hack => ?_⟩
  · rw [hb] at he
    exact request_served hi hs (hport _) he
  · rw [hnone] at he
    exact request_served hi hs (hport _) (he.trans (State.blobFinish_badCheck hcrc))
  · rw [hnone] at he
    exact request_served hi hs (hport _) (he.trans (State.blobFinish_good hcrc hcode hty hresponse hack))

/-! ## Block reads -/

/-- BLOCK_READ of a BLOB within its value (R74). -/
theorem execute_blockRead_within {w : State} {src : Src} {x : Session} {q : Req} {r : ObjRow} {b : Bytes} (hop : q.opcode = Op.blockRead)
    (hr : w.acceptsRead x q r) (hty : r.ty = .blob) (hb : w.content x r q.index q.at_ = .ok b) (hlen : q.offset ≤ b.length) :
    w.execute src x q =
      let n := w.blobVersion q.key
      if q.offset ≠ 0 ∧ (assoc x.blobSeen q.key).getD n ≠ n then (w.requestSeen, Answer.of Code.valueChanged)
      else
        let got := w.requestSeen.blobRead q.key q.offset (Nat.min (frameMax src) (b.length - q.offset))
        if !got.2 then (got.1, Answer.of Code.dataError)
        else if q.offset = 0 then
          ((got.1.covered src q.key).modSession x.id (fun y => { y with blobSeen := assocPut y.blobSeen q.key n }),
            Answer.data_ (slice b 0 (frameMax src)))
        else (got.1, Answer.data_ (slice b q.offset (frameMax src))) := by
  have hadmits := hr.admits
  unfold Req.key at *
  rw [execute_blockRead hop]
  unfold State.doBlockRead
  simp only [hadmits, hty, ne_eq, not_true_eq_false, if_false, hb, Nat.not_lt.mpr hlen]

/-- Settles O15. -/
theorem blockReadReturnsAFrame : Obligations.BlockReadReturnsAFrame := by
  intro dt src index sub offset s r b u q w x hh hr hty hb hlen key seen part got
  have he := execute_blockRead_within (src := src) rfl hr hty hb hlen
  have hdone : ∀ {a ans}, w.execute src x q = (a, ans) → Completes (.blockRead dt src index sub offset) s (fun t => Answered a t src q ans) :=
    fun he => heard_completes (i := .blockRead dt src index sub offset) rfl hh
      (movesPort_of_opcode (by show Op.blockRead ≠ Op.write; decide) _) he
  have hread : q.offset = 0 ∨ seen = w.blobVersion key → ¬ (q.offset ≠ 0 ∧ seen ≠ w.blobVersion key) :=
    fun h hno => h.elim hno.1 hno.2
  refine ⟨fun hne hseen => ?_, fun hseen hgot => ?_, fun h0 hgot => ?_, fun hne hseen hgot => ?_⟩
  · exact hdone (he.trans (if_pos ⟨hne, hseen⟩))
  · refine hdone (he.trans ((if_neg (hread hseen)).trans (if_pos ?_)))
    rw [hgot]
    rfl
  · have hpart : part = slice b 0 (frameMax src) := by rw [← h0]
    rw [hpart]
    refine hdone (he.trans ((if_neg (hread (.inl h0))).trans ((if_neg ?_).trans (if_pos h0))))
    rw [hgot]
    decide
  · refine hdone (he.trans ((if_neg (hread (.inr hseen))).trans ((if_neg ?_).trans (if_neg hne))))
    rw [hgot]
    decide

end Sys2Proof.Machine
end

section
/-! PROOFS. Heartbeat and host loss, the ends of commit checks and instants, epochs and journal entries (O19, O22, O23, O25). -/

namespace Sys2Proof.Machine

/-! ## Journal entries -/

@[simp] theorem length_leBytes (n v : Nat) : (leBytes n v).length = n := by
  induction n generalizing v with
  | zero => rfl
  | succ n ih => rw [leBytes, List.length_cons, ih]

/-- An entry has 32 bytes (R103). -/
theorem journalEntry_length (seq time source kind session key outcome form mode epoch : Nat) (value : Bytes) :
    (journalEntry seq time source kind session key outcome form mode epoch value).length = 32 := by
  simp only [journalEntry, List.length_append, length_leBytes, List.length_take, zeros, List.length_replicate]
  omega

/-- An entry begins with its SEQ (R103). -/
theorem journalEntry_seq (seq time source kind session key outcome form mode epoch : Nat) (value : Bytes) :
    (journalEntry seq time source kind session key outcome form mode epoch value).take 4 = leBytes 4 seq := by
  simp only [journalEntry, List.append_assoc]
  exact List.take_left' (length_leBytes 4 seq)

/-- Settles O25. -/
theorem journalKeepsTheNewest : Obligations.JournalKeepsTheNewest := by
  intro s source kind session key outcome form value t
  refine ⟨rfl, fun _ => (List.length_take_le _ _), ⟨_, rfl, journalEntry_length _ _ _ _ _ _ _ _ _ _ _, ?_⟩, fun k hk => ?_⟩
  · rw [journalEntry_seq, leNat_leBytes]
    exact Nat.mod_mod _ _
  · show (List.take 8192 (_ :: s.ctl.journal.ring))[k + 1]? = _
    rw [List.getElem?_take_of_lt hk, List.getElem?_cons_succ]

/-! ## Epochs -/

/-- Settles O23. -/
theorem passedCommitTakesTheNextEpoch : Obligations.PassedCommitTakesTheNextEpoch := by
  intro u c p e
  refine ⟨rfl, rfl, rfl, ⟨_, rfl, rfl, rfl, ?_, rfl⟩, fun hfresh key => ?_⟩
  · rw [List.map_map]
    exact List.map_id' _
  · have hnone : u.dict.sets.find? (fun x => x.epoch = e) = none :=
      List.find?_eq_none.mpr (fun x hx h => hfresh x hx (of_decide_eq_true h))
    have hfind : (u.allocate c p).paramsOf e = p.vals := by
      have hsets : (u.allocate c p).dict.sets = u.dict.sets ++
          [{ epoch := e, params := p.vals, views := u.boundViews p, switched := [], landed := false }] := rfl
      unfold State.paramsOf
      rw [hsets, List.find?_append, hnone]
      simp only [Option.none_or, List.find?_cons, decide_true]
    unfold State.paramVal
    rw [hfind]
    rfl

/-! ## Commit checks and instants -/

section Commits

variable {u : State}

theorem State.commitCheckEnd_fails {c : Check} {code n key : Nat} (hc : u.ctl.staging.check = some c)
    (hf : u.checkFailure c = some (code, n, key)) :
    u.commitCheckEnd =
      (let b := ((u.modStaging (fun g => { g with check := none, lastWrite := u.clk })).commitResult code 0 c.kind 0 key c.command n
        [0, 0, 0, 0]).putNum Obj.cmCommit 3
       if c.holderClosed then b.moduleRelease 1 else b) := by
  unfold State.commitCheckEnd
  simp only [hc, hf]
  rfl

/-- A CHECK_ONLY that passes (R94, R97). -/
theorem State.commitCheckEnd_checkOnly {c : Check} (hc : u.ctl.staging.check = some c) (hf : u.checkFailure c = none)
    (hk : c.command ≠ 1) :
    u.commitCheckEnd =
      (let b := ((u.modStaging (fun g => { g with check := none, lastWrite := u.clk })).putNum Obj.cmCommit 2).commitResult Code.ok 0 c.kind
        0 0 c.command 0 [0, 0, 0, 0]
       if c.holderClosed then b.moduleRelease 1 else b) := by
  unfold State.commitCheckEnd
  simp only [hc, hf, if_neg hk]
  rfl

/-- A COMMIT that passes (R94, R96). -/
theorem State.commitCheckEnd_commit {c : Check} (hc : u.ctl.staging.check = some c) (hf : u.checkFailure c = none)
    (hk : c.command = 1) :
    u.commitCheckEnd = ((u.modStaging (fun g => { g with check := none, lastWrite := u.clk })).putNum Obj.cmCommit 2).passCommit c := by
  unfold State.commitCheckEnd
  simp only [hc, hf, if_pos hk]
  rfl

/-- Bindings that are issued are bound no more (R20). -/
theorem State.bindNow_issued (epoch : Nat) {l : List Binding} (h : ∀ b ∈ l, b.issued = true) (s : State) :
    l.foldl (fun acc b => if b.issued then acc else acc.bindNow epoch b.view) s = s := by
  induction l with
  | nil => rfl
  | cons b r ih =>
    rw [List.foldl_cons, if_pos (h b List.mem_cons_self)]
    exact ih (fun c hc => h c (List.mem_cons_of_mem _ hc))

theorem State.instantReached_due {a : Armed} (hk : a.kind = 3) (hn : a.instantDone = false) (h : a.instant ≤ u.fullNow) :
    u.instantReached a = true := by
  simp only [State.instantReached, hk, hn, decide_true, Bool.not_false, Bool.and_self, Bool.true_and, decide_eq_true_eq]
  exact h

theorem State.instantReached_early {a : Armed} (h : u.fullNow < a.instant) : u.instantReached a = false := by
  simp only [State.instantReached, decide_eq_false (Nat.not_le.mpr h), Bool.and_false]

/-- The one armed commit, its views past their indexes, at its instant (R20, R26, R95). -/
theorem State.fullTimeInstant_due {a : Armed} (hone : u.ctl.staging.armed = [a])
    (hb : ∀ b ∈ a.bindings, b.issued = true ∧ b.index ≠ none) (hdue : u.instantReached a = true) : u.fullTimeInstant = u.instantOf a := by
  have hfilter : u.ctl.staging.armed.filter u.instantReached = [a] := by rw [hone, List.filter_cons, if_pos hdue, List.filter_nil]
  have harmed : u.armedOf a.epoch = some a := by simp only [State.armedOf, hone, List.find?_cons, decide_true]
  have hcommit : u.commitInstant = u.instantOf a := by
    unfold State.commitInstant
    rw [hfilter, List.foldl_cons, List.foldl_nil, State.bindNow_issued a.epoch (fun b hm => (hb b hm).1)]
    simp only [harmed]
  have hlate : a.bindings.filter (fun b => b.index = none && !u.continues b.view) = [] := by
    refine List.filter_eq_nil_iff.mpr (fun b hm => ?_)
    simp only [decide_eq_false (hb b hm).2, Bool.false_and, Bool.false_eq_true, not_false_eq_true]
  unfold State.fullTimeInstant
  dsimp only
  rw [hfilter, List.foldl_cons, List.foldl_nil, hlate, List.foldl_nil, hcommit]

theorem State.fullTimeInstant_early {a : Armed} (hone : u.ctl.staging.armed = [a]) (hdue : u.instantReached a = false) :
    u.fullTimeInstant = u := by
  have hfilter : u.ctl.staging.armed.filter u.instantReached = [] := by
    rw [hone, List.filter_cons, if_neg (by rw [hdue]; decide), List.filter_nil]
  unfold State.fullTimeInstant State.commitInstant
  dsimp only
  rw [hfilter, List.foldl_nil, List.foldl_nil]

end Commits

/-- Settles O22. -/
theorem commitChecksAndInstantsEnd : Obligations.CommitChecksAndInstantsEnd := by
  refine ⟨?_, ?_⟩
  · intro dt s c u a freed hruns hc
    refine ⟨fun code n key hf => ?_, fun hf hk => ?_, fun hf hk => ?_⟩
    · refine State.run_completes (exec_commitCheckEnd s dt) hruns (fun t h _ _ => ?_)
      rw [State.commitCheckEnd_fails hc hf] at h
      exact h
    · refine State.run_completes (exec_commitCheckEnd s dt) hruns (fun t h _ _ => ?_)
      rw [State.commitCheckEnd_checkOnly hc hf (hk ▸ by decide)] at h
      exact h
    · refine State.run_completes (exec_commitCheckEnd s dt) hruns (fun t h _ _ => ?_)
      rw [State.commitCheckEnd_commit hc hf hk] at h
      exact h
  · intro dt s a u hruns hone hb hkind hnot
    refine ⟨fun hdue => ?_, fun hearly => ?_⟩
    · refine State.run_completes (exec_commitInstant s dt) hruns (fun t h _ _ => ?_)
      rw [State.fullTimeInstant_due hone hb (State.instantReached_due hkind hnot hdue)] at h
      exact h
    · refine State.run_completes (exec_commitInstant s dt) hruns (fun t h _ _ => ?_)
      rw [State.fullTimeInstant_early hone (State.instantReached_early hearly)] at h
      exact h

end Sys2Proof.Machine
end

section
/-! PROOFS. Heartbeat and host loss (O19); writes of RW numbers as commands. -/

namespace Sys2Proof.Machine

/-! ## Writes of RW numbers -/

/-- The key of an RW number that a command writes. -/
abbrev RwKey (key : Nat) : Prop :=
  NumberRow key .rw ∧ key < 65536 * 256 ∧ key % 256 ≠ 0 ∧ key ≠ Obj.ydpYdpPort ∧ key ≠ Obj.accResponse ∧ isAck key = false ∧
  heldByUnit key = false ∧ journalled key = true

/-- A command that writes an RW number completes in the value in force and what the new value does, journalled. -/
theorem takes_rw {i : Instr} {s : State} {src : Src} {key size value : Nat}
    (ht : (s.advance i.dt).takes src (Req.ofNumber key size value))
    (hi : i.request = some (src.normal, (Req.ofNumber key size value).normal)) (hkey : RwKey key) :
    ∃ r, r.acc = .rw ∧ objectRow (key / 256) (key % 256) = some r ∧
      (let j := ((s.advance i.dt).heard src).requestSeen.journalReq src 1 key (leBytes size value)
       Completes i s (fun t => Answered ((j.rwPut r key (.num (value % 256 ^ size))).rwHook j key) t src (Req.ofNumber key size value)
        (Answer.of Code.ok))) := by
  obtain ⟨hrow, hfits, hsub, hport, hresponse, hack, hheld, hj⟩ := hkey
  obtain ⟨r, hacc, hsize, hfound, h⟩ := takes_applies ht hi hfits hsub hport hrow
  refine ⟨r, hacc, hfound, ?_⟩
  have happly := State.applyWrite_rw (w := ((s.advance i.dt).heard src).requestSeen) (src := src) (size := size) (value := value) hacc hsize hresponse
    hack hheld hj
  dsimp only at h happly ⊢
  rwa [happly] at h

theorem Answered.num {a t : State} {src : Src} {q : Req} {ans : Answer} (h : Answered a t src q ans) {key : Nat}
    (hkey : ownStatus key = false) : t.num key = a.num key := by
  have hpart : t.ctl.part = a.ctl.part := (congrArg (fun s : State => s.ctl.part) h.same :)
  have hid : t.pins.id = a.pins.id := (congrArg (fun s : State => s.pins.id) h.same :)
  unfold State.num State.val State.valIn State.dfltOf
  rw [h.get key hkey, hpart, hid]

/-! ## Heartbeats -/

theorem heartbeatRow : NumberRow Obj.hbHeartbeat .wo := by decide +kernel
theorem periodKey : RwKey Obj.hbPeriod := by decide +kernel

theorem State.heartbeat_at {a : State} {src : Src} {clk : Nat} (h : a.clk = clk) :
    a.heartbeat src =
      (let b : State := { a with ctl := { a.ctl with heartbeat := { a.ctl.heartbeat with restart := clk, late := false, lost := false } } }
       if a.heartbeatPath src = false then a else if a.ctl.heartbeat.lost then b.journalOwn 10 [1] else b) := by
  subst h
  unfold State.heartbeat
  cases a.heartbeatPath src <;> rfl

/-- A heartbeat after its entry (R88, R90). -/
theorem State.heartbeat_journalled (w : State) (src : Src) (key : Nat) (raw : Bytes) :
    let a := w.requestSeen.journalReq src 1 key raw
    let b : State := { a with ctl := { a.ctl with heartbeat := { a.ctl.heartbeat with restart := w.clk, late := false, lost := false } } }
    a.heartbeat src = if w.heartbeatPath src = false then a else if w.ctl.heartbeat.lost then b.journalOwn 10 [1] else b := by
  have hseen := Woken.requestSeen w
  have hnum : (w.requestSeen.journalReq src 1 key raw).num Obj.hbSources = w.num Obj.hbSources := hseen.num (by decide)
  have hpath : (w.requestSeen.journalReq src 1 key raw).heartbeatPath src = w.heartbeatPath src := by
    unfold State.heartbeatPath
    rw [hnum]
  have hclk : (w.requestSeen.journalReq src 1 key raw).clk = w.clk := hseen.clk
  have hctl : w.requestSeen.ctl.heartbeat = w.ctl.heartbeat := congrArg Control.heartbeat hseen.ctl
  have hlost : (w.requestSeen.journalReq src 1 key raw).ctl.heartbeat = w.ctl.heartbeat := hctl
  dsimp only
  rw [State.heartbeat_at hclk]
  dsimp only
  rw [hpath, hlost]

theorem takes_heartbeat {dt : Nat} {src : Src} {value : Nat} {s : State}
    (ht : (s.advance dt).takes src (Req.ofNumber Obj.hbHeartbeat 1 value)) :
    Completes (.heartbeat dt src value) s (fun t => Answered
      ((((s.advance dt).heard src).requestSeen.journalReq src 1 Obj.hbHeartbeat (leBytes 1 value)).heartbeat src) t src
      (Req.ofNumber Obj.hbHeartbeat 1 value) (Answer.of Code.ok)) := by
  have hj : journalled Obj.hbHeartbeat = true := by decide +kernel
  obtain ⟨r, hacc, -, -, h⟩ := takes_effect (i := .heartbeat dt src value) ht rfl (by decide) (by decide) (by decide) heartbeatRow
    (by decide) (by decide)
  rw [writeKind_wo hacc] at h
  have hwrite : ∀ (z : State) (v : Val), z.writeEffect src r Obj.hbHeartbeat v = z.heartbeat src := by
    intro z v
    simp only [State.writeEffect, hacc]
    rfl
  dsimp only at h
  rw [hwrite, if_pos hj] at h
  exact h

theorem State.rwHook_period (s old : State) : s.rwHook old Obj.hbPeriod =
    { s with ctl := { s.ctl with heartbeat := { s.ctl.heartbeat with restart := s.clk, late := false } } } := rfl

theorem State.rwPut_heartbeat (s : State) (r : ObjRow) (key : Nat) (v : Val) :
    (s.rwPut r key v).ctl.heartbeat = s.ctl.heartbeat ∧ (s.rwPut r key v).clk = s.clk := by
  unfold State.rwPut
  cases r.persistent <;> dsimp only <;> split <;> exact ⟨rfl, rfl⟩

/-! ## Host loss -/

theorem State.heartbeatLate_due {u : State} (hp : u.heartbeatPeriod ≠ 0) (hl : u.ctl.heartbeat.late = false)
    (hdue : u.ctl.heartbeat.restart + u.heartbeatPeriod / 2 ≤ u.clk) :
    u.heartbeatLate = ({ u with ctl := { u.ctl with heartbeat := { u.ctl.heartbeat with late := true } } } : State).event
      Ibi.heartbeatLate := by
  unfold State.heartbeatLate
  exact if_pos ⟨hp, by rw [hl]; rfl, hdue⟩

/-- Host loss before its ACTION: counted, alerted, journalled, the valve test off (R89). -/
def State.hostGone (u : State) : State :=
  (((({ u with ctl := { u.ctl with heartbeat := { u.ctl.heartbeat with lost := true } } } : State).bump Obj.hbLossCount).alert
    Alert.hostLost).journalOwn 10 [0]).testOff

theorem State.hostLost_due {u : State} (hp : u.heartbeatPeriod ≠ 0) (hl : u.ctl.heartbeat.lost = false)
    (hdue : u.ctl.heartbeat.restart + u.heartbeatPeriod ≤ u.clk) :
    u.hostLost = if u.hostGone.num Obj.hbAction = 1 ∧ u.hostGone.ctl.mode ≠ .recovery then
      ((u.hostGone.moduleResult Code.ok 0 0).overtake).setMode .recovery 1 else u.hostGone := by
  unfold State.hostLost
  exact if_pos ⟨hp, by rw [hl]; rfl, hdue⟩

theorem State.hostGone_kept (u : State) :
    Kept { u with ctl := { u.ctl with heartbeat := { u.ctl.heartbeat with lost := true } } } u.hostGone :=
  (((Kept.bump _ _).trans (.alert _ (by decide))).trans (.journalOwn _ _ _)).trans (.testOff _)

theorem State.testOff_num (s : State) {key : Nat} (h : ∀ b < 4, key ≠ Obj.vbTestEnable b) : s.testOff.num key = s.num key := by
  have hfold : ∀ (l : List Nat) (z : State), (∀ b ∈ l, key ≠ Obj.vbTestEnable b) →
      (l.foldl (fun acc b => acc.putNum (Obj.vbTestEnable b) 0) z).num key = z.num key := by
    intro l
    induction l with
    | nil => exact fun _ _ => rfl
    | cons b r ih =>
      intro z hl
      exact (ih _ (fun c hc => hl c (List.mem_cons_of_mem _ hc))).trans (State.num_putNum_other z _ (hl b List.mem_cons_self))
  exact hfold _ _ (fun b hb => h b (List.mem_range.mp hb))

theorem State.hostGone_action (u : State) : u.hostGone.num Obj.hbAction = u.num Obj.hbAction := by
  unfold State.hostGone
  rw [State.testOff_num _ (by decide)]
  have hown : ∀ z : State, (z.journalOwn 10 [0]).num Obj.hbAction = z.num Obj.hbAction := fun _ => rfl
  rw [hown, (Settled.alert _ Alert.hostLost (by decide)).num (by decide), State.num_bump_other _ (by decide)]
  rfl

/-- The mode, the heartbeat and what the boot has reached are the same. -/
structure SameStanding (a b : State) : Prop where
  mode : b.ctl.mode = a.ctl.mode
  heartbeat : b.ctl.heartbeat = a.ctl.heartbeat
  boot : b.ctl.boot = a.ctl.boot
  bootStatus : b.ctl.bootStatus = a.ctl.bootStatus

namespace SameStanding

theorem trans {a b c : State} (h : SameStanding a b) (k : SameStanding b c) : SameStanding a c :=
  ⟨k.mode.trans h.mode, k.heartbeat.trans h.heartbeat, k.boot.trans h.boot, k.bootStatus.trans h.bootStatus⟩

theorem of_kept {a b : State} (h : Kept a b) : SameStanding a b := 
  ⟨congrArg Core.mode h.core, congrArg Core.heartbeat h.core, congrArg Core.boot h.core, congrArg Core.bootStatus h.core⟩

theorem of_settled {a b : State} (h : Settled a b) : SameStanding a b :=
  ⟨h.ctl_mode, (congrArg (fun s : State => s.ctl.heartbeat) h.same :), (congrArg (fun s : State => s.ctl.boot) h.same :),
    (congrArg (fun s : State => s.ctl.bootStatus) h.same :)⟩

theorem ite {p : Prop} [Decidable p] {s a b : State} (ha : SameStanding s a) (hb : SameStanding s b) : SameStanding s (if p then a else b) := by
  split <;> assumption

theorem completeResult (s : State) (key : Nat) (epoch : Option Nat) (data : Bytes) : SameStanding s (s.completeResult key epoch data) := by
  unfold State.completeResult
  dsimp only
  split
  · exact trans (b := s.putResult _) ⟨rfl, rfl, rfl, rfl⟩ (of_settled (Settled.event _ _))
  · exact ⟨rfl, rfl, rfl, rfl⟩

theorem commitResult (s : State) (code epoch kind views fail command check : Nat) (bound : List Nat) :
    SameStanding s (s.commitResult code epoch kind views fail command check bound) :=
  trans (b := s.journalOwn _ _) ⟨rfl, rfl, rfl, rfl⟩ (completeResult _ _ _ _)

theorem moduleRelease (s : State) (cause : Nat) : SameStanding s (s.moduleRelease cause) := by
  have hfold : ∀ (l : List Nat) (z : State), SameStanding z (l.foldl (fun acc sub =>
      acc.spread (objKey 0x1120 sub) (acc.dfltOf (objKey 0x1120 sub))) z) := by
    intro l
    induction l with
    | nil => exact fun z => ⟨rfl, rfl, rfl, rfl⟩
    | cons x r ih => exact fun z => trans (b := z.spread _ _) ⟨rfl, rfl, rfl, rfl⟩ (ih _)
  have hrelease : ∀ z : State, SameStanding z z.releaseStaging := fun z => (hfold (rangeFrom 2 7) z).trans ⟨rfl, rfl, rfl, rfl⟩
  exact trans (b := s.journalOwn 5 [2, BitVec.ofNat 8 cause]) ⟨rfl, rfl, rfl, rfl⟩ (hrelease _)

theorem failCheck (s : State) (c : Check) (code n key : Nat) : SameStanding s (s.failCheck c code n key) := by
  have hended : SameStanding s ((s.modStaging (fun g => { g with check := none })).stagingWrite) := ⟨rfl, rfl, rfl, rfl⟩
  have hresult := hended.trans (commitResult _ code 0 c.kind 0 key c.command n [0, 0, 0, 0])
  have hput : ∀ z : State, SameStanding z (z.putNum Obj.cmCommit 3) := fun z => ⟨rfl, rfl, rfl, rfl⟩
  unfold State.failCheck
  exact ite ((hresult.trans (hput _)).trans (moduleRelease _ _)) (hresult.trans (hput _))

theorem overtake (s : State) : SameStanding s s.overtake := by
  unfold State.overtake
  split
  · exact failCheck s _ _ _ _
  · exact ⟨rfl, rfl, rfl, rfl⟩

theorem moduleResult (s : State) (code check fail : Nat) : SameStanding s (s.moduleResult code check fail) := by
  unfold State.moduleResult
  exact trans (b := s.modStaging _) ⟨rfl, rfl, rfl, rfl⟩ (commitResult _ _ _ _ _ _ _ _ _)

end SameStanding

/-- A mode set, with what it announces: the mode, and the rest of what stands as it was (R83). -/
theorem State.setMode_standing {s : State} {m : Mode} (cause : Nat) (h : s.ctl.mode ≠ m) :
    (s.setMode m cause).ctl.mode = m ∧ (s.setMode m cause).ctl.heartbeat = s.ctl.heartbeat ∧
    (s.setMode m cause).ctl.boot = s.ctl.boot := by
  obtain ⟨hcore, -⟩ := (s.journalMode m cause).enterMode_core m cause
  have hrest : ∀ z : State, SameStanding z (((z.event Ibi.modeChanged).raise false 0x091 m.code).toutReview.reviewGuarantee) := fun z =>
    (((SameStanding.of_settled (Settled.event _ _)).trans (.of_settled (Settled.raise _ _ _ _))).trans (.of_kept (.toutReview _))).trans
      (.of_settled (Settled.reviewGuarantee _))
  unfold State.setMode
  rw [if_neg h]
  exact ⟨(hrest _).mode.trans (congrArg Core.mode hcore :), (hrest _).heartbeat.trans (congrArg Core.heartbeat hcore :),
    (hrest _).boot.trans (congrArg Core.boot hcore :)⟩

/-- With ACTION 1 host loss takes the module to RECOVERY (R89). -/
theorem State.hostLost_recovers {u : State} (hp : u.heartbeatPeriod ≠ 0) (hl : u.ctl.heartbeat.lost = false)
    (hdue : u.ctl.heartbeat.restart + u.heartbeatPeriod ≤ u.clk) (hact : u.num Obj.hbAction = 1) (hmode : u.ctl.mode ≠ .recovery) :
    u.hostLost.ctl.mode = .recovery ∧ u.hostLost.ctl.heartbeat.lost = true := by
  have hgone := SameStanding.of_kept u.hostGone_kept
  have hmode' : u.hostGone.ctl.mode ≠ .recovery := fun e => hmode (hgone.mode.symm.trans e)
  rw [State.hostLost_due hp hl hdue, if_pos ⟨u.hostGone_action.trans hact, hmode'⟩]
  have hthere : SameStanding u.hostGone ((u.hostGone.moduleResult Code.ok 0 0).overtake) :=
    (SameStanding.moduleResult _ _ _ _).trans (.overtake _)
  obtain ⟨hset, hheart, -⟩ := State.setMode_standing (s := (u.hostGone.moduleResult Code.ok 0 0).overtake) (m := .recovery) 1
    (fun e => hmode' (hthere.mode.symm.trans e))
  exact ⟨hset, by rw [hheart, hthere.heartbeat, hgone.heartbeat]⟩

theorem State.hostLost_stays {u : State} (hp : u.heartbeatPeriod ≠ 0) (hl : u.ctl.heartbeat.lost = false)
    (hdue : u.ctl.heartbeat.restart + u.heartbeatPeriod ≤ u.clk) (hstay : u.num Obj.hbAction ≠ 1 ∨ u.ctl.mode = .recovery) :
    u.hostLost = u.hostGone := by
  have hmode := (SameStanding.of_kept u.hostGone_kept).mode
  rw [State.hostLost_due hp hl hdue, if_neg]
  rintro ⟨hact, hrec⟩
  exact hstay.elim (fun h => h (u.hostGone_action.symm.trans hact)) (fun h => hrec (hmode.trans h))

/-- PERIOD's new value in force, and the heartbeat's period begun anew (R88). -/
theorem State.period_put (w : State) (src : Src) (r : ObjRow) (value : Nat) :
    let j := w.requestSeen.journalReq src 1 Obj.hbPeriod (leBytes 4 value)
    let a := (j.rwPut r Obj.hbPeriod (.num (value % 256 ^ 4))).rwHook j Obj.hbPeriod
    a.num Obj.hbPeriod = value % wrap32 ∧ a.ctl.heartbeat = { w.ctl.heartbeat with restart := w.clk, late := false } := by
  intro j a
  have hseen := Woken.requestSeen w
  obtain ⟨hctl, hclk⟩ := State.rwPut_heartbeat j r Obj.hbPeriod (.num (value % 256 ^ 4))
  have hheart : w.requestSeen.ctl.heartbeat = w.ctl.heartbeat := congrArg Control.heartbeat hseen.ctl
  have hhook : a = { j.rwPut r Obj.hbPeriod (.num (value % 256 ^ 4)) with
      ctl := { (j.rwPut r Obj.hbPeriod (.num (value % 256 ^ 4))).ctl with
        heartbeat := { (j.rwPut r Obj.hbPeriod (.num (value % 256 ^ 4))).ctl.heartbeat with
          restart := (j.rwPut r Obj.hbPeriod (.num (value % 256 ^ 4))).clk, late := false } } } := State.rwHook_period _ _
  rw [hhook]
  refine ⟨State.num_rwPut_same _ _ _ _, ?_⟩
  show ({ (j.rwPut r Obj.hbPeriod (.num (value % 256 ^ 4))).ctl.heartbeat with
    restart := (j.rwPut r Obj.hbPeriod (.num (value % 256 ^ 4))).clk, late := false } : Heartbeat) = _
  rw [hctl, hclk]
  show ({ w.requestSeen.ctl.heartbeat with restart := w.requestSeen.clk, late := false } : Heartbeat) = _
  rw [hheart, hseen.clk]

/-- Settles O19. -/
theorem heartbeatAndHostLoss : Obligations.HeartbeatAndHostLoss := by
  refine ⟨?_, ?_⟩
  · intro dt src value s u w
    refine ⟨fun ht => ?_, fun ht => ?_⟩
    · have h := takes_heartbeat ht
      rw [State.heartbeat_journalled] at h
      exact h
    · obtain ⟨r, -, -, h⟩ := takes_rw (i := .period dt src value) ht rfl periodKey
      obtain ⟨hnum, hheart⟩ := w.period_put src r value
      exact h.imp (fun t ha => ⟨(ha.num (by decide)).trans hnum, (congrArg (fun s : State => s.ctl.heartbeat) ha.same :).trans hheart, ha.answer⟩)
  · intro dt s u h hruns hp
    refine ⟨fun hl hdue => ?_, fun hl hdue => ?_⟩
    · refine State.run_completes (exec_heartbeatLate s dt) hruns (fun t h _ _ => ?_)
      rw [State.heartbeatLate_due hp hl hdue] at h
      exact h
    · refine ⟨fun hstay => ?_, fun hact hmode => ?_⟩
      · refine State.run_completes (exec_hostLost s dt) hruns (fun t h _ _ => ?_)
        rw [State.hostLost_stays hp hl hdue hstay] at h
        exact h
      · obtain ⟨hset, hlost⟩ := State.hostLost_recovers hp hl hdue hact hmode
        refine State.run_completes (exec_hostLost s dt) hruns (fun t h _ _ => ?_)
        have h' : Settled u.hostLost t := h
        exact ⟨h'.ctl_mode.trans hset, (congrArg Heartbeat.lost (SameStanding.of_settled h').heartbeat).trans hlost⟩

end Sys2Proof.Machine
end

section
/-! PROOFS. The paths outside the dictionary: frames, responses, datagrams, the IBI, addresses, the one-byte transfer (O18). -/

namespace Sys2Proof.Machine

section Paths

variable {u : State}

/-! ## Frames and datagrams -/

theorem State.frameBytes_bad {tag : Byte} {body : Bytes} (hup : u.i3cUp = true) (hbody : body ≠ []) (hparse : parseFrame (tag :: body) = none) :
    u.frameBytes (tag :: body) = u.i3cReady tag.toNat
      { opcode := 0x80, flags := 1, index := 0, sub := 0, code := Code.frameCheck, offset := 0, data := [] } := by
  cases body with
  | nil => exact absurd rfl hbody
  | cons b r =>
    simp only [State.frameBytes, hparse, State.frameCheck, hup, Bool.not_true, Bool.false_eq_true, if_false]

/-- The response made ready stands (R57). -/
theorem State.i3cReady_settled {t : State} {tag : Nat} {r : Resp} (h : Settled (u.i3cReady tag r) t) :
    t.ctl.i3c.response = some (tag, r) := by
  have hready : Settled ({ u with ctl := { u.ctl with i3c := { u.ctl.i3c with response := some (tag, r) } } } : State) t :=
    (Settled.event _ _).trans h
  exact (congrArg (fun s : State => s.ctl.i3c.response) hready.same :)

theorem State.frameBytes_request (u : State) {frame : Bytes} {tag : Nat} {q : Req} (hlen : 2 ≤ frame.length)
    (hparse : parseFrame frame = some (tag, q)) : u.frameBytes frame = u.dictionary (.i3c tag) q := by
  match frame with
  | [] => exact absurd hlen (by decide)
  | [_] => exact absurd hlen (Nat.not_le.mpr Nat.one_lt_two)
  | a :: b :: r => simp only [State.frameBytes, hparse]

theorem State.datagramBytes_drop {e ip port : Nat} {b : Bytes} {good : Bool} (hup : u.ydpUp e = true)
    (hbad : good = false ∨ parseDatagram b = none) :
    u.datagramBytes e ip port b good = (u.bump (Obj.ethFramesRx e)).bump Obj.cntDatagramsDropped := by
  have hnone : (if good then parseDatagram b else none) = none := by
    rcases hbad with h | h
    · rw [h]; rfl
    · rw [h, ite_self]
  simp only [State.datagramBytes, hnone, State.datagramDrop, hup, if_true]
  rfl

theorem State.datagramBytes_request (u : State) {e ip port sess seq : Nat} {b : Bytes} {q : Req}
    (hparse : parseDatagram b = some (sess, seq, q)) :
    u.datagramBytes e ip port b true = u.dictionary (.ydp e ip port sess seq) q := by
  simp only [State.datagramBytes, if_true, hparse]

/-! ## Responses -/

/-- A response whose port has not moved is sent with the result it covers and the snapshot it ends (R70, R77). -/
theorem State.responseSent_still {r : Resp} (hcode : r.code ≠ Code.frameCheck) (hmoves : u.ctl.i3c.moves = false) :
    u.responseSent r = u.resultSent.snapshotSent := by
  have hm : ¬ (u.resultSent.snapshotSent.ctl.i3c.moves = true) := by
    rw [State.snapshotSent_i3c, State.resultSent_i3c, hmoves]
    decide
  unfold State.responseSent
  rw [if_neg hcode]
  exact if_neg hm

theorem State.resultSent_none (h : u.ctl.i3c.covers = none) : u.resultSent = u := by
  simp only [State.resultSent, h]

theorem State.resultSent_presented {key seq : Nat} (h : u.ctl.i3c.covers = some (key, seq))
    (hp : (u.result key).presented.map (fun x => x.seq) = some seq) : u.resultSent = u.markRead key := by
  simp only [State.resultSent, h, hp, if_true]

theorem State.snapshotSent_none (h : u.ctl.i3c.ends = none) : u.snapshotSent = u := by
  simp only [State.snapshotSent, h]

theorem State.snapshotSent_some {key : Nat} (h : u.ctl.i3c.ends = some key) :
    u.snapshotSent = u.modSession .i3c (fun x => { x with snapshots := assocDrop x.snapshots key }) := by
  simp only [State.snapshotSent, h]

theorem State.responseSent_plain {r : Resp} (hmoves : u.ctl.i3c.moves = false) (hc : u.ctl.i3c.covers = none) (he : u.ctl.i3c.ends = none) :
    u.responseSent r = u := by
  by_cases hcode : r.code = Code.frameCheck
  · unfold State.responseSent
    exact if_pos hcode
  · rw [State.responseSent_still hcode hmoves, State.resultSent_none hc, State.snapshotSent_none he]

theorem State.responseSent_covers {r : Resp} {key seq : Nat} (hcode : r.code ≠ Code.frameCheck) (hmoves : u.ctl.i3c.moves = false)
    (hc : u.ctl.i3c.covers = some (key, seq)) (he : u.ctl.i3c.ends = none)
    (hp : (u.result key).presented.map (fun x => x.seq) = some seq) : u.responseSent r = u.markRead key := by
  rw [State.responseSent_still hcode hmoves, State.resultSent_presented hc hp, State.snapshotSent_none]
  rw [State.markRead_i3c, he]

theorem State.responseSent_ends {r : Resp} {key : Nat} (hcode : r.code ≠ Code.frameCheck) (hmoves : u.ctl.i3c.moves = false)
    (hc : u.ctl.i3c.covers = none) (he : u.ctl.i3c.ends = some key) :
    u.responseSent r = u.modSession .i3c (fun x => { x with snapshots := assocDrop x.snapshots key }) := by
  rw [State.responseSent_still hcode hmoves, State.resultSent_none hc, State.snapshotSent_some he]

theorem State.responseRead_none (hup : u.i3cUp = true) (hr : u.ctl.i3c.response = none) : u.responseRead = u.emit .i3cNack := by
  simp only [State.responseRead, hup, hr, Bool.not_true, Bool.false_eq_true, if_false]

/-! ## IBI, addresses and the one-byte transfer -/

/-- The IBI goes out with every collected bit; what is left of it is the settling's (R59). -/
theorem State.ibiDelivery_sent (hup : u.i3cUp = true) (hibi : u.ctl.i3c.ibi ≠ 0) {t : State} (h : Settled u.ibiDelivery t) :
    Settled (u.emit (.i3cIbi u.ctl.i3c.ibi)) t := by
  have hsent : u.ibiDelivery = ({ u with ctl := { u.ctl with i3c := { u.ctl.i3c with ibi := 0 } } } : State).emit (.i3cIbi u.ctl.i3c.ibi) :=
    if_pos ⟨hup, hibi⟩
  rw [hsent] at h
  exact ⟨h.same, h.out, h.raised, h.get, h.alerts, h.jobs, h.frames⟩

theorem State.setAddress_up (hup : u.i3cUp = true) (a : Nat) : u.setAddress a = u.putNum Obj.i3cDynamicAddr (a % 128) := if_pos hup

/-- A one-byte transfer in an operating mode outside DEEP (R61, R486). -/
theorem State.wakeTransfer_operating {b : Byte} (hr : u.pins.resetN = true) (hp : u.power.powered = true)
    (hm : u.ctl.mode.operating = true) (hs : u.power.state ≠ .deep) :
    u.wakeTransfer b = (if u.power.entering ∧ bitOf (u.num Obj.pwDeepWake) 3 = true then u.leaveDoze .i3c else u).bump Obj.cntStrayWakes := by
  have hwake : u.wake .i3c = if u.power.entering ∧ bitOf (u.num Obj.pwDeepWake) 3 = true then u.leaveDoze .i3c else u := by
    unfold State.wake
    rw [if_neg hs]
    cases he : u.power.entering <;> cases hb : bitOf (u.num Obj.pwDeepWake) 3 <;> simp
  rw [← hwake]
  unfold State.wakeTransfer
  rw [if_neg (by simp only [hr, hp, Bool.not_true, Bool.false_eq_true, or_self, not_false_eq_true])]
  cases hmode : u.ctl.mode <;> rw [hmode] at hm <;> simp only [hs, if_false] <;> exact absurd hm (by decide)

end Paths

/-- Settles O18. -/
theorem pathsAnswerAndDeliver : Obligations.PathsAnswerAndDeliver := by
  refine ⟨?_, ?_⟩
  · intro dt s u
    refine ⟨fun tag body hup hbody hparse => ?_, fun frame tag q hlen hparse => ?_, fun tag r hup hresponse hmoves => ⟨?_, ?_, ?_⟩,
      fun hup hresponse => ?_, fun e ip port b good hup hbad => ?_, fun e ip port b sess seq q hparse => ?_⟩
    · refine State.run_completes (exec_frameCheck s dt (tag :: body)) rfl (fun t h _ _ => ?_)
      rw [State.frameBytes_bad hup hbody hparse] at h
      exact ⟨_, State.i3cReady_settled h, rfl, rfl, rfl, rfl⟩
    · rw [exec_frameCheck]
      congr 1
      exact funext (fun x => State.frameBytes_request x hlen hparse)
    · intro hc he
      refine State.run_completes (exec_responseRead s dt) rfl (fun t h _ _ => ?_)
      rw [State.responseRead_some hup hresponse, State.responseSent_plain hmoves hc he] at h
      exact h
    · intro key seq hc he hcode hp
      refine State.run_completes (exec_responseRead s dt) rfl (fun t h _ _ => ?_)
      rw [State.responseRead_some hup hresponse, State.responseSent_covers hcode hmoves hc he hp] at h
      exact h
    · intro key hc he hcode
      refine State.run_completes (exec_responseRead s dt) rfl (fun t h _ _ => ?_)
      rw [State.responseRead_some hup hresponse, State.responseSent_ends hcode hmoves hc he] at h
      exact h
    · refine State.run_completes (exec_responseRead s dt) rfl (fun t h _ _ => ?_)
      rw [State.responseRead_none hup hresponse] at h
      exact h
    · refine State.run_completes (exec_datagramDrop s dt ⟨e, ip, port, b, good⟩) rfl (fun t h _ _ => ?_)
      rw [State.datagramBytes_drop hup hbad] at h
      exact h
    · rw [exec_datagramDrop]
      congr 1
      exact funext (fun x => State.datagramBytes_request x hparse)
  · intro dt s u
    refine ⟨fun hup hibi => ?_, fun a hup => ?_, fun a hup => ?_, fun b hr hp hm hs => ?_⟩
    · exact State.run_completes (exec_ibiDelivery s dt) rfl (fun t h _ _ => State.ibiDelivery_sent hup hibi h)
    · refine State.run_completes (exec_setdasa s dt a) rfl (fun t h _ _ => ?_)
      rw [State.setAddress_up hup] at h
      exact h
    · refine State.run_completes (exec_entdaa s dt a) rfl (fun t h _ _ => ?_)
      rw [State.setAddress_up hup] at h
      exact h
    · refine State.run_completes (exec_wakeTransfer s dt b) rfl (fun t h _ _ => ?_)
      rw [State.wakeTransfer_operating hr hp hm hs] at h
      exact h

end Sys2Proof.Machine
end

section
/-! PROOFS. The boot and its steps (O27). -/

namespace Sys2Proof.Machine

/-! ## What a comet's default leaves -/

namespace Kept

theorem modLane (s : State) (n : Nat) (f : Lane → Lane) : Kept s (s.modLane n f) := of_core rfl rfl
theorem modView (s : State) (v : Nat) (f : View → View) : Kept s (s.modView v f) := of_core rfl rfl

theorem sendToOwners (s : State) (v : Nat) (c : Comet) : Kept s (s.sendToOwners v c) := by
  refine fold (fun z k => ite (bump z _) ?_) _ s
  exact ite (modLane z _ _) (refl z)

theorem reviewEntries (s : State) : Kept s s.reviewEntries := by
  unfold State.reviewEntries
  refine trans ?_ (fold (fun z x => leaveEntry z x) _ _)
  exact of_core rfl rfl

theorem reviseEntry (s : State) (old x : Entry) : Kept s (s.reviseEntry old x).1 := (bumpIf s _ _).trans (request _ _)

theorem reviseComet (s : State) (p : Track → Bool) (f : Track → Track) : Kept s (s.reviseComet p f) := by
  have hset : ∀ (z : State) (l : List Entry), Kept z { z with entries := l } := fun z l => of_core rfl rfl
  unfold State.reviseComet
  split
  · exact refl s
  · dsimp only
    split
    · exact ((reviseEntry s _ _).trans (hset _ _)).trans (reviewEntries _)
    · exact (hset s _).trans (reviewEntries _)

theorem disposeComet (s : State) (v id action disposition flags : Nat) : Kept s (s.disposeComet v id action disposition flags) := by
  have hset : ∀ (z : State) (l : List Entry), Kept z { z with entries := l } := fun z l => of_core rfl rfl
  unfold State.disposeComet
  split
  · exact refl s
  · refine ite ?_ ?_
    · exact ((ite (sendToOwners s v _) (refl s)).trans (hset _ _)).trans (reviewEntries _)
    · exact (ite (sendToOwners s v _) (refl s)).trans (reviseComet _ _ _)

theorem defaultComet (s : State) (v id : Nat) : Kept s (s.defaultComet v id) := by
  have hqueue : ∀ (z : State) (l : List Matched), Kept z { z with dispatchQueue := l } := fun z l => of_core rfl rfl
  unfold State.defaultComet
  split
  · exact refl s
  · exact ite (((hqueue s _).trans (bump _ _)).trans (disposeComet _ _ _ _ _ _)) (refl s)

theorem arrive (s : State) (m : Matched) : Kept s (s.arrive m) := by
  have hflags : ∀ (z : State) (key b : Nat), Kept z (z.orFlags key b) := fun z key b => of_core rfl rfl
  exact ite (defaultComet s _ _) (ite (((bump s _).trans (hflags _ _ _)).trans (defaultComet _ _ _)) (of_core rfl rfl))

theorem setJob (s : State) (t b : Nat) (j : BrickJob) : Kept s (s.setJob t b j) := of_core rfl rfl

theorem abandon (s : State) (t b : Nat) (again : Bool) : Kept s (s.abandon t b again) := by
  unfold State.abandon
  split
  · exact refl s
  · exact (setJob s t b _).trans (modView _ _ _)
  · exact ite (((setJob s t b _).trans (bump _ _)).trans (arrive _ _)) (((setJob s t b _).trans (bump _ _)).trans (defaultComet _ _ _))

theorem tilesOff (s : State) : Kept s s.tilesOff := by
  have hall : ∀ (l : List Nat), Kept s (l.foldl (fun acc t => acc.abandonTile t false) s) := fun l =>
    fold (fun z t => fold (fun y b => abandon y t b false) (List.range 8) z) l s
  exact (hall _).trans (of_core rfl rfl)

end Kept

/-! ## What the end of BOOT starts -/

namespace SameStanding

theorem refl (s : State) : SameStanding s s := ⟨rfl, rfl, rfl, rfl⟩

theorem fold {α : Type} {f : State → α → State} (h : ∀ s x, SameStanding s (f s x)) (l : List α) (s : State) :
    SameStanding s (l.foldl f s) := by
  induction l generalizing s with
  | nil => exact refl s
  | cons x r ih => exact (h s x).trans (ih _)

theorem modBus (s : State) (b : Nat) (f : Bus → Bus) : SameStanding s (s.modBus b f) := ⟨rfl, rfl, rfl, rfl⟩
theorem modPins (s : State) (f : Pins → Pins) : SameStanding s (s.modPins f) := ⟨rfl, rfl, rfl, rfl⟩
theorem modPower (s : State) (f : PowerSys → PowerSys) : SameStanding s (s.modPower f) := ⟨rfl, rfl, rfl, rfl⟩
theorem emit (s : State) (e : Emission) : SameStanding s (s.emit e) := ⟨rfl, rfl, rfl, rfl⟩
theorem modEncoder (s : State) (c : Nat) (f : Encoder → Encoder) : SameStanding s (s.modEncoder c f) := ⟨rfl, rfl, rfl, rfl⟩

theorem encEnabled (s : State) (c : Nat) : SameStanding s (s.encEnabled c) := ite (refl s) (ite (modEncoder s c _) (modEncoder s c _))

theorem startBus (s : State) (b : Nat) : SameStanding s (s.startBus b) := ite ((modBus s b _).trans (emit _ _)) (modBus s b _)

theorem busesEnabled (s : State) : SameStanding s s.busesEnabled := by
  have hone : ∀ (z : State) (b : Nat), SameStanding z
      (if z.flag (Obj.vbEnable b) = true ∧ (z.bus b).state = 0 then
        (let s1 := z.modBus b (fun y => { Bus.reset with present := y.present })
         if z.retired Unit.bus b then s1.modBus b (fun y => { y with state := 6, released := !y.present })
         else if (z.bus b).present then s1.startBus b else s1.modBus b (fun y => { y with state := 1 }))
      else if (!z.flag (Obj.vbEnable b)) = true ∧ (z.bus b).state ≠ 0 then
        (let s1 := z.modBus b (fun y => { Bus.reset with present := y.present })
         if (z.bus b).sends = true ∨ (z.bus b).state = 2 then s1.emit (.busSilent b) else s1)
      else z) := by
    intro z b
    refine ite ?_ (ite ?_ (refl z))
    · exact ite ((modBus z b _).trans (modBus _ b _)) (ite ((modBus z b _).trans (startBus _ _)) ((modBus z b _).trans (modBus _ b _)))
    · exact ite ((modBus z b _).trans (emit _ _)) (modBus z b _)
  have hunit : ∀ (z : State) (c : Bool), SameStanding z (z.valveUnit c) := fun z c => ⟨rfl, rfl, rfl, rfl⟩
  exact (fold hone (List.range 4) s).trans (hunit _ _)

theorem camStagger (s : State) (k due : Nat) : SameStanding s (s.camStagger k due) := by
  unfold State.camStagger
  split
  · exact modPins s _
  · refine trans ?_ (modPins _ _)
    exact ite ⟨rfl, rfl, rfl, rfl⟩ (refl s)

end SameStanding

/-- The state of the units as BOOT ends, ahead of the mode (R542). -/
def State.bootUnits (s : State) (i : BootInputs) : State :=
  { s with
    views := s.views.map (fun _ => { View.reset with banks := bootBanks, tokenClk := s.clk }),
    regions := s.regions.map (fun (g : Region) => { g with lastLine := s.clk }),
    pgos := s.pgos.map (fun _ => { Pgo.reset with lastClk := s.clk }),
    ctl := { s.ctl with
      heartbeat := { Heartbeat.reset with restart := s.clk },
      errlog := { s.ctl.errlog with tokens := 640000000, tokenClock := s.clk } },
    pins := { s.pins with silentKeys := i.keysHeld % 256, keys := i.keysHeld % 256 } }

/-- The mode that a boot ends in (R86). -/
def State.bootMode (s : State) (check : Option (Nat × Nat)) : State :=
  match check with
  | none => s.setMode .config 2
  | some (n, fail) => (s.modStaging (fun g => { g with pipelinesStopped := true })).moduleCommit .recovery 3 (Code.checkFailed + n) n fail

/-- What starts with the end of BOOT (R542). -/
def State.bootStarts (s : State) (clk : Nat) (afterHalt : Bool) : State :=
  let s4 := (List.range 4).foldl State.encEnabled s
  let s5 := ((s4.busesEnabled).camStagger 0 clk).toutReview
  let s6 := s5.modPower (fun p => { p with lastRequest := clk, lastTrigger := clk, standbyCause := 0 })
  let s7 := if afterHalt then s6.alert Alert.halted else s6
  (if s7.power.band = 4 then s7.tilesOff else s7).reviewGuarantee.lampReview

theorem State.bootDone_eq (s : State) (i : BootInputs) :
    s.bootDone i = ((s.bootUnits i).bootRings.bootMode s.ctl.boot.check).bootStarts s.clk s.ctl.boot.afterHalt := rfl

theorem State.bootStarts_standing (s : State) (clk : Nat) (afterHalt : Bool) : SameStanding s (s.bootStarts clk afterHalt) := by
  have h5 : ∀ l : List Nat, SameStanding s ((((l.foldl State.encEnabled s).busesEnabled).camStagger 0 clk).toutReview) := fun l =>
    (((SameStanding.fold .encEnabled l s).trans (.busesEnabled _)).trans (.camStagger _ _ _)).trans (.of_kept (.toutReview _))
  have hrest : ∀ z : State, SameStanding z ((if z.power.band = 4 then z.tilesOff else z).reviewGuarantee.lampReview) := fun z =>
    ((SameStanding.ite (.of_kept (.tilesOff z)) (.refl z)).trans (.of_settled (Settled.reviewGuarantee _))).trans (.of_kept (.lampReview _))
  have halert : ∀ z : State, SameStanding z (if afterHalt then z.alert Alert.halted else z) := fun z =>
    .ite (.of_kept (.alert z (by decide))) (.refl z)
  exact (((h5 _).trans (.modPower _ _)).trans (halert _)).trans (hrest _)

/-- The mode that the boot check decides, out of BOOT (R86). -/
theorem State.bootMode_standing {s : State} (check : Option (Nat × Nat)) (h : s.ctl.mode = .boot) :
    (s.bootMode check).ctl.mode = (if check.isNone then .config else .recovery) ∧ (s.bootMode check).ctl.boot = s.ctl.boot := by
  cases check with
  | none =>
    obtain ⟨hmode, -, hboot⟩ := State.setMode_standing (s := s) (m := .config) 2 (by rw [h]; decide)
    exact ⟨hmode, hboot⟩
  | some q =>
    have hresult : SameStanding s ((s.modStaging (fun g => { g with pipelinesStopped := true })).moduleResult (Code.checkFailed + q.1) q.1 q.2) :=
      SameStanding.trans (b := s.modStaging _) ⟨rfl, rfl, rfl, rfl⟩ (.moduleResult _ _ _ _)
    obtain ⟨hmode, -, hboot⟩ := State.setMode_standing
      (s := (s.modStaging (fun g => { g with pipelinesStopped := true })).moduleResult (Code.checkFailed + q.1) q.1 q.2) (m := .recovery) 3
      (by rw [hresult.mode, h]; decide)
    exact ⟨hmode, hboot.trans hresult.boot⟩

theorem State.bootDone_standing {s : State} (i : BootInputs) (h : s.ctl.mode = .boot) :
    (s.bootDone i).ctl.mode = (if s.ctl.boot.check.isNone then .config else .recovery) ∧ (s.bootDone i).ctl.boot = s.ctl.boot := by
  have hstarts := ((s.bootUnits i).bootRings.bootMode s.ctl.boot.check).bootStarts_standing s.clk s.ctl.boot.afterHalt
  obtain ⟨hmode, hboot⟩ := State.bootMode_standing (s := (s.bootUnits i).bootRings) s.ctl.boot.check h
  rw [State.bootDone_eq]
  exact ⟨hstarts.mode.trans hmode, hstarts.boot.trans hboot⟩

/-! ## The flags of BOOT_STATUS -/

/-- Flag bit 11 of BOOT_STATUS stays as it is, or is set (R544). -/
theorem State.bootFlag_bit {s : State} (on : Bool) (bit : Nat) (h : bitOf s.ctl.bootStatus 11 = true) :
    bitOf (s.bootFlag on bit).ctl.bootStatus 11 = true := by
  unfold State.bootFlag
  split
  · show (s.ctl.bootStatus ||| 2 ^ bit).testBit 11 = true
    rw [Nat.testBit_or]
    exact Bool.or_eq_true_iff.mpr (.inl h)
  · exact h

theorem State.bootFlag_set (s : State) (bit : Nat) : bitOf (s.bootFlag true bit).ctl.bootStatus bit = true := by
  show (s.ctl.bootStatus ||| 2 ^ bit).testBit bit = true
  rw [Nat.testBit_or, Nat.testBit_two_pow_self, Bool.or_true]

theorem State.bootCode_bit (s : State) (c : Nat) : bitOf (s.bootCode c).ctl.bootStatus 11 = bitOf s.ctl.bootStatus 11 := by
  show (c * 2 ^ 24 + s.ctl.bootStatus % 2 ^ 24).testBit 11 = s.ctl.bootStatus.testBit 11
  rw [Nat.mul_comm, Nat.testBit_two_pow_mul_add _ (Nat.mod_lt _ (Nat.two_pow_pos 24)), Nat.testBit_mod_two_pow]
  simp

theorem State.dieLoss_bootStatus (s : State) : s.dieLoss.ctl.bootStatus = s.ctl.bootStatus := by
  unfold State.dieLoss State.halt
  split
  · rfl
  · split
    · rfl
    · exact (State.fallToHalt_halted (Kept.noteHalt s 6) 6).bootStatus

/-! ## The steps -/

/-- A step of a boot that stands and is not one whose clock or stacks are lost (R541). -/
theorem State.bootStep_runs {s : State} {i : BootInputs} {k : Nat} (hm : s.ctl.mode = .boot) (hf : s.ctl.boot.failed = false)
    (hk : ¬ (k = 2 ∨ k = 4 ∨ k = 5)) :
    s.bootStep i k =
      (let s1 :=
        if k = 2 then s.bootRom else if k = 3 then s.bootImage i else if k = 5 then s.bootHbm else if k = 6 then s.bootMram
        else if k = 7 then s.bootSelfTest i else if k = 8 then s.bootModels else if k = 9 then s.bootCheck
        else if k = 10 then s.bootDone i else s
       if s1.ctl.boot.failed then s1
       else
         let s2 := s1.modBoot (fun b => { b with step := k })
         let s3 := if k < 10 then s2.bootCode (k + 1) else s2
         if k = 6 ∧ s3.stackGone then s3.stacksFailed.dieLoss else s3) := by
  have hgo : ¬ (s.ctl.mode ≠ .boot ∨ s.ctl.boot.failed = true) := by simp only [hm, hf, ne_eq, not_true_eq_false, Bool.false_eq_true, or_self, not_false_eq_true]
  have hloss : ¬ (i.lossStep = k ∧ (k = 2 ∨ k = 4 ∨ k = 5)) := fun h => hk h.2
  unfold State.bootStep
  rw [if_neg hgo, if_neg hloss]

/-- BOOT_START with the steps it still has to run (R541). -/
theorem State.bootStart_ready {s : State} {i : BootInputs} {q : Nat} (hm : s.ctl.mode = .boot) (hp : s.power.powered = true)
    (hr : s.pins.resetN = true) (hf : s.ctl.boot.failed = false) (hq : s.power.qualifiedAt = some q) (hle : q ≤ s.clk) :
    s.bootStart i =
      (let s1 := if s.ctl.boot.started then s else s.bootBegin
       (rangeFrom (s1.ctl.boot.step + 1) (min 10 i.last + 1 - (s1.ctl.boot.step + 1))).foldl (fun acc k => acc.bootStep i k) s1) := by
  unfold State.bootStart
  simp only [hm, hp, hr, hf, hq, decide_eq_true hle, ne_eq, not_true_eq_false, Bool.not_true, Bool.false_eq_true, or_self, if_false]

/-- One more step. -/
theorem State.bootStart_one {s : State} {i : BootInputs} {q n : Nat} (hm : s.ctl.mode = .boot) (hp : s.power.powered = true)
    (hr : s.pins.resetN = true) (hf : s.ctl.boot.failed = false) (hq : s.power.qualifiedAt = some q) (hle : q ≤ s.clk)
    (hs : s.ctl.boot.started = true) (hn : s.ctl.boot.step = n) (hl : i.last = n + 1) (h10 : n < 10) : s.bootStart i = s.bootStep i (n + 1) := by
  rw [State.bootStart_ready hm hp hr hf hq hle]
  have hrange : rangeFrom (n + 1) (min 10 (n + 1) + 1 - (n + 1)) = [n + 1] := by
    have hone : min 10 (n + 1) + 1 - (n + 1) = 1 := by omega
    rw [hone]
    rfl
  simp only [hs, if_true, hn, hl, hrange, List.foldl_cons, List.foldl_nil]

theorem State.bootFlag_other (s : State) (c : Bool) (b : Nat) :
    (s.bootFlag c b).ctl.boot = s.ctl.boot ∧ (s.bootFlag c b).ctl.mode = s.ctl.mode ∧ (s.bootFlag c b).timeOffset = s.timeOffset := by
  unfold State.bootFlag
  split <;> exact ⟨rfl, rfl, rfl⟩

/-- A boot begun (R468, R541). -/
theorem State.bootBegin_begun (s : State) :
    s.bootBegin.ctl.mode = s.ctl.mode ∧ s.bootBegin.ctl.boot = { s.ctl.boot with started := true, startedAt := s.clk } ∧
    s.bootBegin.timeOffset = -(s.clk : Int) := by
  unfold State.bootBegin State.modBoot State.putNum State.putVal
  dsimp only
  obtain ⟨hb1, hm1, ht1⟩ := State.bootFlag_other (({ s with timeOffset := -(s.clk : Int), power := { s.power with
    evtAt := s.clk, lastRequest := s.clk, lastTrigger := s.clk }, ctl := { s.ctl with bootStatus := 2 ^ 24 } } : State)) s.ctl.boot.afterHalt 10
  obtain ⟨hb2, hm2, ht2⟩ := State.bootFlag_other ((({ s with timeOffset := -(s.clk : Int), power := { s.power with
    evtAt := s.clk, lastRequest := s.clk, lastTrigger := s.clk }, ctl := { s.ctl with bootStatus := 2 ^ 24 } } : State)).bootFlag
      s.ctl.boot.afterHalt 10) s.ctl.boot.fallback 3
  refine ⟨(hm2.trans hm1 :), ?_, (ht2.trans ht1 :)⟩
  exact (congrArg (fun b : Boot => ({ b with started := true, startedAt := s.clk } : Boot)) (hb2.trans hb1) :)

/-- Step 0x01 of a boot that has not begun: module time 0, and the code of the next step (R468, R541). -/
theorem State.bootStart_first {s : State} {i : BootInputs} {q : Nat} (hm : s.ctl.mode = .boot) (hp : s.power.powered = true)
    (hr : s.pins.resetN = true) (hf : s.ctl.boot.failed = false) (hq : s.power.qualifiedAt = some q) (hle : q ≤ s.clk)
    (hs : s.ctl.boot.started = false) (hn : s.ctl.boot.step = 0) (hl : i.last = 1) :
    s.bootStart i = ((s.bootBegin.modBoot (fun b => { b with step := 1 })).bootCode 2) := by
  obtain ⟨hbm, hboot, -⟩ := s.bootBegin_begun
  rw [hm] at hbm
  have hbs : s.bootBegin.ctl.boot.step = 0 := by rw [hboot]; exact hn
  have hbf : s.bootBegin.ctl.boot.failed = false := by rw [hboot]; exact hf
  rw [State.bootStart_ready hm hp hr hf hq hle]
  have hrange : rangeFrom (0 + 1) (min 10 1 + 1 - (0 + 1)) = [1] := rfl
  simp only [hs, Bool.false_eq_true, if_false, hbs, hl, hrange, List.foldl_cons, List.foldl_nil]
  rw [State.bootStep_runs hbm hbf (by decide)]
  generalize s.bootBegin = z at hbf ⊢
  have hbf' : ¬ (z.ctl.boot.failed = true) := by rw [hbf]; decide
  exact if_neg hbf'

/-- The slot that a boot tries first (R519, R546). -/
def State.firstImage (s : State) : Nat :=
  let named := (s.valIn s.dict.mram Obj.fwPreferred).toNat % 2
  if s.ctl.boot.fallback then 1 - s.ctl.boot.slot else if s.pins.bootsel then 1 - named else named

/-- A state with the image of a slot running (R546). -/
def State.imageRuns (s : State) (k : Nat) (images : List Image) : State :=
  ((s.modBoot (fun b => { b with slot := k })).putNum Obj.idFwVersion (images.getD k Image.reset).version).putNum Obj.idFwSlot k

theorem State.bootImage_first {s : State} {i : BootInputs} (h : s.imagePasses i s.firstImage = true) :
    s.bootImage i = (s.bootFlag s.pins.bootsel 2).imageRuns s.firstImage (s.bootFlag s.pins.bootsel 2).ctl.images := by
  unfold State.bootImage
  exact if_pos h

/-- With neither image valid the boot stays with code 0xF1 (R546). -/
theorem State.bootImage_neither {s : State} {i : BootInputs} (h : s.imagePasses i s.firstImage = false)
    (h2 : s.imagePasses i (1 - s.firstImage) = false) :
    s.bootImage i = (((((s.bootFlag s.pins.bootsel 2).bootFlag true s.firstImage).bootFlag true 3).bootFlag true
      (1 - s.firstImage)).bootCode 0xF1).modBoot (fun b => { b with failed := true }) := by
  have h' : ¬ (s.imagePasses i s.firstImage = true) := by rw [h]; decide
  have h2' : ¬ (s.imagePasses i (1 - s.firstImage) = true) := by rw [h2]; decide
  unfold State.bootImage
  exact (if_neg h').trans (if_neg h2')

theorem bootCode_stands (c x : Nat) : (c * 2 ^ 24 + x % 2 ^ 24) / 2 ^ 24 = c := by
  omega

/-- Step 0x03 with the first image valid (R519, R546). -/
theorem State.bootStep_image {s : State} {i : BootInputs} (hm : s.ctl.mode = .boot) (hf : s.ctl.boot.failed = false)
    (h : s.imagePasses i s.firstImage = true) :
    (s.bootStep i 3).ctl.boot.slot = s.firstImage ∧ (s.bootStep i 3).ctl.boot.step = 3 ∧
    (s.bootStep i 3).num Obj.idFwSlot = s.firstImage := by
  have hruns := State.bootStep_runs (i := i) hm hf (k := 3) (by decide)
  have himage := State.bootImage_first h
  obtain ⟨hboot, -, -⟩ := s.bootFlag_other s.pins.bootsel 2
  have hslot : (s.bootImage i).ctl.boot = { s.ctl.boot with slot := s.firstImage } := by
    rw [himage, ← hboot]
    rfl
  have hnum : (s.bootImage i).num Obj.idFwSlot = s.firstImage := by
    rw [himage]
    exact State.num_putNum_same _ _ _
  generalize s.bootImage i = z at hruns hslot hnum
  have hf' : ¬ (z.ctl.boot.failed = true) := by rw [hslot, hf]; decide
  have hstep : s.bootStep i 3 = (z.modBoot (fun b => { b with step := 3 })).bootCode (3 + 1) := by
    rw [hruns]
    exact if_neg hf'
  rw [hstep]
  exact ⟨(congrArg Boot.slot hslot :), rfl, hnum⟩

/-- Step 0x03 with neither image valid (R546). -/
theorem State.bootStep_noImage {s : State} {i : BootInputs} (hm : s.ctl.mode = .boot) (hf : s.ctl.boot.failed = false)
    (h : s.imagePasses i s.firstImage = false) (h2 : s.imagePasses i (1 - s.firstImage) = false) :
    (s.bootStep i 3).ctl.mode = .boot ∧ (s.bootStep i 3).ctl.boot.failed = true ∧ (s.bootStep i 3).ctl.bootStatus / 2 ^ 24 = 0xF1 := by
  have hruns := State.bootStep_runs (i := i) hm hf (k := 3) (by decide)
  have himage := State.bootImage_neither h h2
  have hmode : ((((s.bootFlag s.pins.bootsel 2).bootFlag true s.firstImage).bootFlag true 3).bootFlag true (1 - s.firstImage)).ctl.mode = .boot := by
    rw [(State.bootFlag_other _ _ _).2.1, (State.bootFlag_other _ _ _).2.1, (State.bootFlag_other _ _ _).2.1, (State.bootFlag_other _ _ _).2.1, hm]
  generalize (((s.bootFlag s.pins.bootsel 2).bootFlag true s.firstImage).bootFlag true 3).bootFlag true (1 - s.firstImage) = y at himage hmode
  have hstep : s.bootStep i 3 = (y.bootCode 0xF1).modBoot (fun b => { b with failed := true }) := by
    rw [hruns, himage]
    exact if_pos rfl
  rw [hstep]
  exact ⟨hmode, rfl, bootCode_stands _ _⟩

theorem State.firstImage_fresh {u : State} (h : u.ctl.boot.fallback = false) :
    u.firstImage = if u.pins.bootsel then 1 - (u.valIn u.dict.mram Obj.fwPreferred).toNat % 2 else
      (u.valIn u.dict.mram Obj.fwPreferred).toNat % 2 := by
  unfold State.firstImage
  dsimp only
  rw [if_neg (by rw [h]; decide)]

theorem State.bootStep_image_settled {u t : State} {i : BootInputs} (hm : u.ctl.mode = .boot) (hf : u.ctl.boot.failed = false)
    (h : u.imagePasses i u.firstImage = true) (hs : Settled (u.bootStep i 3) t) :
    t.ctl.boot.slot = u.firstImage ∧ t.ctl.boot.step = 3 ∧ t.num Obj.idFwSlot = u.firstImage := by
  obtain ⟨hslot, hstep, hnum⟩ := State.bootStep_image hm hf h
  exact ⟨(congrArg Boot.slot hs.ctl_boot).trans hslot, (congrArg Boot.step hs.ctl_boot).trans hstep, (hs.num (by decide)).trans hnum⟩

theorem State.bootStep_noImage_settled {u t : State} {i : BootInputs} (hm : u.ctl.mode = .boot) (hf : u.ctl.boot.failed = false)
    (h : u.imagePasses i u.firstImage = false) (h2 : u.imagePasses i (1 - u.firstImage) = false) (hs : Settled (u.bootStep i 3) t) :
    t.ctl.mode = .boot ∧ t.ctl.boot.failed = true ∧ t.ctl.bootStatus / 2 ^ 24 = 0xF1 := by
  obtain ⟨hmode, hfailed, hcode⟩ := State.bootStep_noImage hm hf h h2
  exact ⟨hs.ctl_mode.trans hmode, (congrArg Boot.failed hs.ctl_boot).trans hfailed,
    (congrArg (fun n => n / 2 ^ 24) (SameStanding.of_settled hs).bootStatus).trans hcode⟩

/-- The last step (R86). -/
theorem State.bootStep_last {s : State} {i : BootInputs} (hm : s.ctl.mode = .boot) (hf : s.ctl.boot.failed = false) :
    (s.bootStep i 10).ctl.mode = (if s.ctl.boot.check.isNone then .config else .recovery) ∧ (s.bootStep i 10).ctl.boot.step = 10 := by
  have hruns := State.bootStep_runs (i := i) hm hf (k := 10) (by decide)
  obtain ⟨hmode, hboot⟩ := State.bootDone_standing i hm
  generalize s.bootDone i = z at hruns hmode hboot
  have hf' : ¬ (z.ctl.boot.failed = true) := by rw [hboot, hf]; decide
  have hstep : s.bootStep i 10 = z.modBoot (fun b => { b with step := 10 }) := by
    rw [hruns]
    exact if_neg hf'
  rw [hstep]
  exact ⟨hmode, rfl⟩

/-- The retirement map's application moves no object (R504). -/
theorem State.bootMap_dict (s : State) : s.bootMap.dict = s.dict := by
  have hfold : ∀ (l : List (Nat × Nat)) (z : State), (l.foldl (fun acc p =>
      if p.1 = Unit.brick then
        acc.modTile (p.2 / 8) (fun x =>
          if x.spareUsed then { x with map := clearBit x.map (p.2 % 8) } else { x with spareUsed := true })
      else acc) z).dict = z.dict := by
    intro l
    induction l with
    | nil => exact fun _ => rfl
    | cons p r ih =>
      intro z
      refine (ih _).trans ?_
      dsimp only
      split <;> rfl
  have htiles : ∀ z : State, z.bootTiles.dict = z.dict := fun z => (hfold _ _).trans rfl
  have hflag : ∀ (z : State) (c : Bool) (b : Nat), (z.bootFlag c b).dict = z.dict := by
    intro z c b
    unfold State.bootFlag
    split <;> rfl
  unfold State.bootMap
  exact (hflag _ _ _).trans (htiles _)

theorem State.scanJournal_bootStatus (s : State) : s.scanJournal.1.ctl.bootStatus = s.ctl.bootStatus := by
  have h : ∀ (p : Prop) [Decidable p] (z : State), (if p then z else z.bumpKept Obj.jrTornDiscarded (s.ctl.journal.mirror.length -
      (complete s.ctl.journal.mirror).length)).ctl.bootStatus = z.ctl.bootStatus := by
    intro p _ z
    split <;> rfl
  exact h _ _

theorem State.scanLog_bootStatus (s : State) : s.scanLog.1.ctl.bootStatus = s.ctl.bootStatus := by
  unfold State.scanLog
  dsimp only
  cases complete s.ctl.errlog.slots <;> dsimp only <;> split <;> rfl

theorem State.payOwed_bootStatus (s : State) : s.payOwed.ctl.bootStatus = s.ctl.bootStatus := by
  have hfold : ∀ (l : List (Nat × Bytes)) (z : State), (l.foldl (fun acc e => acc.journalOwn e.1 e.2) z).ctl.bootStatus = z.ctl.bootStatus := by
    intro l
    induction l with
    | nil => exact fun _ => rfl
    | cons p r ih => exact fun z => ih _
  exact hfold _ _

/-- Step 0x06 with a torn slot of MRAM (R478, R544). -/
theorem State.bootMram_torn {s : State} {key : Nat} (h : s.dict.mramTorn = some key) : bitOf s.bootMram.ctl.bootStatus 11 = true := by
  have hobjects : bitOf s.bootMap.bootObjects.ctl.bootStatus 11 = true := by
    have hsome : s.bootMap.dict.mramTorn.isSome = true := by rw [State.bootMap_dict, h]; rfl
    unfold State.bootObjects
    rw [hsome]
    exact State.bootFlag_set _ 11
  have hscans : bitOf s.bootMap.bootObjects.scanJournal.1.scanLog.1.ctl.bootStatus 11 = true := by
    rw [State.scanLog_bootStatus, State.scanJournal_bootStatus]
    exact hobjects
  have hentry : ∀ (z : State) (n : Nat), (z.bootEntry n).ctl.bootStatus = z.ctl.bootStatus := fun _ _ => rfl
  unfold State.bootMram
  dsimp only
  rw [State.payOwed_bootStatus, hentry]
  exact State.bootFlag_bit _ _ (State.bootFlag_bit _ _ hscans)

/-- Step 0x06 as a whole: the flag stays, also when the stacks are lost (R397, R544). -/
theorem State.bootStep_torn {s : State} {i : BootInputs} {key : Nat} (hm : s.ctl.mode = .boot) (hf : s.ctl.boot.failed = false)
    (h : s.dict.mramTorn = some key) : bitOf (s.bootStep i 6).ctl.bootStatus 11 = true := by
  have hbit := State.bootMram_torn h
  rw [State.bootStep_runs (i := i) hm hf (k := 6) (by decide)]
  have hloss : ∀ z : State, bitOf z.ctl.bootStatus 11 = true →
      bitOf (if 6 = 6 ∧ z.stackGone then z.stacksFailed.dieLoss else z).ctl.bootStatus 11 = true := by
    intro z hz
    split
    · rw [State.dieLoss_bootStatus]
      exact hz
    · exact hz
  have hmram : (if (6 : Nat) = 2 then s.bootRom else if (6 : Nat) = 3 then s.bootImage i else if (6 : Nat) = 5 then s.bootHbm else
      if (6 : Nat) = 6 then s.bootMram else if (6 : Nat) = 7 then s.bootSelfTest i else if (6 : Nat) = 8 then s.bootModels else
      if (6 : Nat) = 9 then s.bootCheck else if (6 : Nat) = 10 then s.bootDone i else s) = s.bootMram := rfl
  dsimp only
  rw [hmram]
  generalize s.bootMram = z at hbit
  split
  · exact hbit
  · refine hloss _ ?_
    show bitOf ((z.modBoot (fun b => { b with step := 6 })).bootCode (6 + 1)).ctl.bootStatus 11 = true
    rw [State.bootCode_bit]
    exact hbit

theorem State.firmwareTimeout_once {s : State} (hm : s.ctl.mode = .boot) (hs : s.ctl.boot.started = true) (hn : s.ctl.boot.step = 3)
    (hf : s.ctl.boot.fallback = false) :
    s.firmwareTimeout = s.modBoot (fun x => { x with started := false, step := 0, fallback := true }) :=
  if_pos ⟨hm, hs, hn, by rw [hf]; rfl⟩

/-- What the first step leaves, settled (R468, R541). -/
theorem State.bootBegun_settled {u t : State} (hm : u.ctl.mode = .boot)
    (h : Settled ((u.bootBegin.modBoot (fun b => { b with step := 1 })).bootCode 2) t) :
    t.ctl.mode = .boot ∧ t.ctl.boot.started = true ∧ t.ctl.boot.step = 1 ∧ t.timeOffset = -(u.clk : Int) ∧ t.ctl.bootStatus / 2 ^ 24 = 2 := by
  obtain ⟨hmode, hboot, hoffset⟩ := u.bootBegin_begun
  rw [hm] at hmode
  have hstarted : u.bootBegin.ctl.boot.started = true := by rw [hboot]
  generalize u.bootBegin = z at h hmode hstarted hoffset
  refine ⟨h.ctl_mode.trans hmode, (congrArg Boot.started h.ctl_boot).trans hstarted, congrArg Boot.step h.ctl_boot,
    (congrArg (fun s : State => s.timeOffset) h.same :).trans hoffset, ?_⟩
  rw [(SameStanding.of_settled h).bootStatus]
  exact bootCode_stands _ _

theorem State.bootStep_last_settled {u t : State} {i : BootInputs} (hm : u.ctl.mode = .boot) (hf : u.ctl.boot.failed = false)
    (hs : Settled (u.bootStep i 10) t) :
    t.ctl.mode = (if u.ctl.boot.check.isNone then .config else .recovery) ∧ t.ctl.boot.step = 10 := by
  obtain ⟨hmode, hstep⟩ := State.bootStep_last (i := i) hm hf
  exact ⟨hs.ctl_mode.trans hmode, (congrArg Boot.step hs.ctl_boot).trans hstep⟩

theorem State.bootStep_torn_settled {u t : State} {i : BootInputs} {key : Nat} (hm : u.ctl.mode = .boot) (hf : u.ctl.boot.failed = false)
    (h : u.dict.mramTorn = some key) (hs : Settled (u.bootStep i 6) t) : bitOf t.ctl.bootStatus 11 = true := by
  rw [(SameStanding.of_settled hs).bootStatus]
  exact State.bootStep_torn hm hf h

/-- Settles O27. -/
theorem bootRunsItsSteps : Obligations.BootRunsItsSteps := by
  intro dt i s u b hm hp hr hf ⟨q, hq, hle⟩
  have hone := fun {n : Nat} => State.bootStart_one (s := u) (i := i) (n := n) hm hp hr hf hq hle
  have hdone : ∀ P : State → Prop, (∀ t, Settled (u.bootStart i) t → P t) → Completes (.bootStart dt i) s P :=
    fun P k => State.run_completes (exec_bootStart s dt i) rfl (fun t h _ _ => k t h)
  refine ⟨fun hs hn hl => hdone _ (fun t h => ?_), fun named hs hn hl hfall hnamed => ?_, fun hs hn hl => hdone _ (fun t h => ?_),
    fun key hs hn hl htorn => hdone _ (fun t h => ?_), fun hs hn hfall => ?_⟩
  · rw [State.bootStart_first hm hp hr hf hq hle hs hn hl] at h
    exact State.bootBegun_settled hm h
  · have hfirst : u.firstImage = if u.pins.bootsel then 1 - named else named := hnamed ▸ State.firstImage_fresh hfall
    dsimp only
    rw [← hfirst]
    have hstep : u.bootStart i = u.bootStep i 3 := hone hs hn hl (by decide)
    refine ⟨fun hpass => hdone _ (fun t h => ?_), fun hno hno2 => hdone _ (fun t h => ?_)⟩
    · rw [hstep] at h
      exact State.bootStep_image_settled hm hf hpass h
    · rw [hstep] at h
      exact State.bootStep_noImage_settled hm hf hno hno2 h
  · have hstep : u.bootStart i = u.bootStep i 10 := hone hs hn hl (by decide)
    rw [hstep] at h
    exact State.bootStep_last_settled hm hf h
  · have hstep : u.bootStart i = u.bootStep i 6 := hone hs hn hl (by decide)
    rw [hstep] at h
    exact State.bootStep_torn_settled hm hf htorn h
  · refine State.run_completes (exec_firmwareTimeout s dt) rfl (fun t h _ _ => ?_)
    rw [State.firmwareTimeout_once hm hs hn hfall] at h
    exact h

end Sys2Proof.Machine
end

section
/-! PROOFS. Units gated when idle (O32), register messages (O34). -/

namespace Sys2Proof.Machine

/-- A command whose effect is known ends in what settles from it. -/
theorem State.run_settled {i : Instr} {s : State} {dt : Nat} {admits : State → Bool} {effect : State → State} {a : State}
    (hi : exec i s = s.run dt admits effect) (ha : admits (s.advance dt) = true) (he : effect (s.advance dt) = a) :
    Completes i s (Settled a) :=
  State.run_completes hi ha (fun _ h _ _ => he ▸ h)

theorem operating_of_unitsRun {u : State} (h : u.unitsRun = true) : u.ctl.mode.operating = true ∧ u.power.state ≠ .deep := by
  simpa [State.unitsRun] using h

/-! ## Gating -/

theorem State.pipelineGate_idle {u : State} {n : Nat} (hruns : u.unitsRun = true) (hn : n < u.ctl.part.regions)
    (hview : (u.viewOfPort n).isSome = true) (hidle : (u.region n).lastLine + 200 ≤ u.clk) :
    u.pipelineGate n = u.modRegion n (fun g => { g with gated := true }) :=
  if_pos ⟨hn, hview, hidle, (operating_of_unitsRun hruns).1⟩

theorem State.tileLight_idle {u : State} {n : Nat} (hruns : u.unitsRun = true) (hpower : u.tilePowered n = true)
    (hidle : (u.tile n).idle = true) (hsince : (u.tile n).idleSince + 200 ≤ u.clk) (hlive : u.retired Unit.tile n = false) :
    u.tileLight n = u.modTile n (fun y => { y with light := true }) :=
  if_pos ⟨hpower, hidle, hsince, by rw [hlive]; rfl, (operating_of_unitsRun hruns).2⟩

theorem State.enterSelfRefresh_channels {u : State} {n : Nat} (h : (u.pch n).state ≤ 1) :
    (u.enterSelfRefresh n).hbm.mem = u.hbm.mem ∧ (u.enterSelfRefresh n).hbm.pchs = u.hbm.pchs.modify n (fun y => { y with
      state := 2, debt := 0, debtClk := u.clk, srEntered := u.clk }) := by
  unfold State.enterSelfRefresh
  rw [if_neg (by omega)]
  dsimp only
  split <;> exact ⟨rfl, rfl⟩

theorem State.selfRefresh_drained {u : State} {n : Nat} (hq : u.hbm.queue = []) (hdoze : u.power.state = .doze)
    (hstate : (u.pch n).state ≤ 1) (hbusy : (u.pch n).busyUntil ≤ u.clk) (hretry : (u.pch n).srRetry ≤ u.clk) :
    u.selfRefresh n = u.enterSelfRefresh n :=
  if_pos ⟨.inl hdoze, hstate, hbusy, hretry, by rw [hq]; rfl⟩

theorem State.selfRefresh_settled {u t : State} {n : Nat} (h : Settled (u.selfRefresh n) t) (hq : u.hbm.queue = [])
    (hdoze : u.power.state = .doze) (hstate : (u.pch n).state ≤ 1) (hbusy : (u.pch n).busyUntil ≤ u.clk)
    (hretry : (u.pch n).srRetry ≤ u.clk) :
    t.hbm.mem = u.hbm.mem ∧ t.hbm.pchs = u.hbm.pchs.modify n (fun y => { y with
      state := 2, debt := 0, debtClk := u.clk, srEntered := u.clk }) := by
  rw [State.selfRefresh_drained hq hdoze hstate hbusy hretry] at h
  have hhbm : t.hbm = (u.enterSelfRefresh n).hbm := (congrArg (fun s : State => s.hbm) h.same :)
  rw [hhbm]
  exact State.enterSelfRefresh_channels hstate

/-- Settles O32. -/
theorem idleUnitsAreGated : Obligations.IdleUnitsAreGated := by
  intro dt n s
  refine ⟨fun hruns hn hview hidle => ?_, fun hruns hn hpower hidle hsince hlive => ?_, fun hop hn hq hdoze hstate hbusy hretry => ?_⟩
  · exact State.run_settled (exec_pipelineGate s dt n) hruns (State.pipelineGate_idle hruns hn hview hidle)
  · exact State.run_settled (exec_tileLight s dt n) (by rw [hruns, decide_eq_true hn]; rfl)
      (State.tileLight_idle hruns hpower hidle hsince hlive)
  · exact State.run_completes (exec_selfRefreshEntry s dt n) (by rw [hop, decide_eq_true hn]; rfl)
      (fun t h _ _ => State.selfRefresh_settled h hq hdoze hstate hbusy hretry)

/-! ## Register messages -/

theorem State.port_modPort_same {s : State} {p : Nat} (hp : p < s.ports.length) (f : Port → Port) : (s.modPort p f).port p = f (s.port p) := by
  unfold State.port
  rw [State.modPort_ports, getD_of_lt _ _ (by simpa using hp), getD_of_lt _ _ hp]
  simp

/-- A port with a register message in its queue is one of the module's. -/
theorem State.port_lt_of_queue {u : State} {p : Nat} {a : RegAccess} {rest : List RegAccess} (h : (u.port p).queue = a :: rest) :
    p < u.ports.length := by
  refine Classical.byContradiction fun hlt => ?_
  have hreset : u.port p = Port.reset := getD_of_length_le _ _ (Nat.not_lt.mp hlt)
  rw [hreset] at h
  exact absurd h (by simp [Port.reset])

theorem State.sendReg_empty {u : State} {p : Nat} (h : (u.port p).queue = []) : u.sendReg p = u := by
  unfold State.sendReg
  rw [h]

theorem State.regTimeout_first {u : State} {p at_ : Nat} {a : RegAccess} {rest : List RegAccess} (hq : (u.port p).queue = a :: rest)
    (hsent : a.sentAt = some at_) (hs : a.standard = 0) (hdue : at_ + 100000 ≤ u.clk) (hr : a.retried = false) :
    u.regTimeout p = (u.modPort p (fun x => { x with queue := { a with retried := true, sentAt := some u.clk } :: rest })).emit
      (.regMessage p a.tag a.isWrite a.address a.words a.data) := by
  unfold State.regTimeout
  rw [hq]
  dsimp only
  rw [hsent]
  dsimp only
  rw [if_neg (by omega), if_pos (by rw [hr]; rfl)]

theorem State.regTimeout_second {u : State} {p at_ : Nat} {a : RegAccess} (hq : (u.port p).queue = [a])
    (hsent : a.sentAt = some at_) (hs : a.standard = 0) (hdue : at_ + 100000 ≤ u.clk) (hr : a.retried = true) (ho : a.own = false)
    (hf : a.frame = none) :
    u.regTimeout p = ((u.modPort p (fun x => { x with queue := [] })).orFlags (Obj.portFlags p) 4).putNum (Obj.portRegAccess p) 3 := by
  unfold State.regTimeout
  rw [hq]
  dsimp only
  rw [hsent]
  dsimp only
  rw [if_neg (by omega), hr, ho, hf]
  exact State.sendReg_empty (congrArg Port.queue (State.port_modPort_same (State.port_lt_of_queue hq) _))

theorem State.regAnswer_tag {u : State} {p : Nat} {a : RegAccess} {tag : Option Nat} {data : Bytes} (hq : (u.port p).queue = [a])
    (hsent : a.sentAt.isSome = true) (htag : tag = none ∨ tag = some a.tag) (ho : a.own = false) :
    u.regAnswer p tag 0 data =
      (let y := u.modPort p (fun x => { x with queue := [] })
       (if a.isWrite then y else y.putVal (Obj.portRegData p) (.bytes (data.take (4 * a.words)))).putNum (Obj.portRegAccess p) 2) := by
  unfold State.regAnswer
  rw [hq]
  dsimp only
  rw [if_pos ⟨hsent, htag⟩, ho]
  have hdone : ∀ y : State, y.regDone p a 0 data =
      (if a.isWrite then y else y.putVal (Obj.portRegData p) (.bytes (data.take (4 * a.words)))).putNum (Obj.portRegAccess p) 2 := by
    intro y
    unfold State.regDone
    cases a.isWrite <;> rfl
  have hport : ∀ y : State, (y.regDone p a 0 data).port p = y.port p := by
    intro y
    rw [hdone]
    cases a.isWrite <;> rfl
  refine (State.sendReg_empty ?_).trans (hdone _)
  exact congrArg Port.queue ((hport _).trans (State.port_modPort_same (State.port_lt_of_queue hq) _))

theorem State.regAnswer_other {u : State} {p tag status : Nat} {a : RegAccess} {rest : List RegAccess} {data : Bytes}
    (hq : (u.port p).queue = a :: rest) (htag : tag ≠ a.tag) : u.regAnswer p (some tag) status data = u := by
  unfold State.regAnswer
  rw [hq]
  dsimp only
  refine if_neg ?_
  rintro ⟨-, h | h⟩
  · exact Option.some_ne_none _ h
  · exact htag (Option.some.inj h)

theorem State.packetHeader_ports (u : State) (p lane pseq camStatus : Nat) : (u.packetHeader p lane pseq camStatus).ports = u.ports := by
  have hcam : ∀ z : State, (z.camStatus p camStatus).ports = z.ports := by
    intro z
    unfold State.camStatus
    dsimp only
    generalize (if bitOf camStatus 1 then 0x20 else 0) + (if bitOf camStatus 0 then 0x10 else 0) = bits
    split <;> rfl
  have hbump : ∀ (z : State) (key n : Nat), (z.bumpBy key n).ports = z.ports := fun _ _ _ => rfl
  unfold State.packetHeader State.hlpHeader State.trackPseq
  split
  · rw [hcam]
    exact hbump _ _ _
  · rfl

theorem State.packetHeader_eq (u : State) (p n pseq status : Nat) : u.packetHeader p n pseq status =
    if u.num (Obj.portLinkMode p) = 2 then (u.trackPseq n pseq (Obj.portPacketsLost p)).1.camStatus p status else u := rfl

theorem State.packetHeader_port (u : State) (p lane pseq camStatus : Nat) : (u.packetHeader p lane pseq camStatus).port p = u.port p := by
  unfold State.port
  rw [State.packetHeader_ports]

theorem comes_of_receives {u : State} {p n : Nat} (hruns : u.unitsRun = true)
    (h : u.hlpReceives p n = true ∨ u.cxpReceives p = true) : (u.unitsRun && u.packetComes p n) = true := by
  rw [hruns, Bool.true_and]
  exact Bool.or_eq_true_iff.mpr h

/-- Settles O34. -/
theorem registerMessagesEnd : Obligations.RegisterMessagesEnd := by
  intro dt p at_ s a rest u drop done header hruns hq hsent
  have hsome : a.sentAt.isSome = true := by rw [hsent]; rfl
  refine ⟨fun hfit hs hdue hr => ?_, fun hfit hs hdue hr ho hf hrest => ?_, fun n address pseq status data hcomes ho hrest => ?_,
    fun n tag address code pseq status data hcomes htag => ?_, fun data hcxp ho hrest => ?_⟩
  · exact State.run_settled (exec_regTimeout s dt p) (by rw [Bool.and_eq_true]; exact ⟨hruns, hfit⟩)
      (State.regTimeout_first hq hsent hs hdue hr)
  · rw [hrest] at hq
    exact State.run_settled (exec_regTimeout s dt p) (by rw [Bool.and_eq_true]; exact ⟨hruns, hfit⟩)
      (State.regTimeout_second hq hsent hs hdue hr ho hf)
  · rw [hrest] at hq
    refine State.run_settled (exec_regResponse s dt ⟨p, n, ⟨pseq, status⟩⟩ a.tag address 0 data) (comes_of_receives hruns hcomes) ?_
    exact State.regAnswer_tag ((congrArg Port.queue (State.packetHeader_port u p n pseq status)).trans hq) hsome (.inr rfl) ho
  · refine State.run_settled (exec_regResponse s dt ⟨p, n, ⟨pseq, status⟩⟩ tag address code data) (comes_of_receives hruns hcomes) ?_
    exact State.regAnswer_other ((congrArg Port.queue (State.packetHeader_port u p n pseq status)).trans hq) htag
  · rw [hrest] at hq
    exact State.run_settled (exec_cxpControlResponse s dt p 0 data) (by rw [Bool.and_eq_true]; exact ⟨hruns, hcxp⟩)
      (State.regAnswer_tag hq hsome (.inl rfl) ho)

end Sys2Proof.Machine
end

section
/-! PROOFS. Models checked and stored (O46), bursts (O49), the upkeep of the stacks (O50). -/

namespace Sys2Proof.Machine

/-! ## Models -/

theorem State.modelCheck_passed {u : State} {n : Nat} (h : (u.slot n).state = 2) (hf : u.slotFault n = none) :
    u.modelCheck n = (((u.modSlot n (fun y => { y with
        state := 3, cycles := mdlCm y.model, cost := mdlCost y.model, norState := 1, nor := none,
        replicas := u.replicaStacks })).giveWeights.completeResult (Obj.slotLoadResult n) (some u.ctl.staging.lastEpoch)
      (loadData (u.slot n).model none ((u.clk - (u.slot n).endedAt) / 1000))).modelCopies n) := by
  unfold State.modelCheck
  dsimp only
  rw [if_neg (not_not_intro h), hf]

theorem State.modelCheck_failed {u : State} {n : Nat} {fault : Nat × Nat} (h : (u.slot n).state = 2) (hf : u.slotFault n = some fault) :
    u.modelCheck n = (((u.modSlot n (fun y => { y with state := 4 })).giveWeights.completeResult (Obj.slotLoadResult n)
        (some u.ctl.staging.lastEpoch) (loadData (u.slot n).model (some fault) ((u.clk - (u.slot n).endedAt) / 1000))).modelCopies n) := by
  unfold State.modelCheck
  dsimp only
  rw [if_neg (not_not_intro h), hf]

theorem State.norStored_due {u : State} {n : Nat} (h : (u.slot n).state = 3) (hn : (u.slot n).norState = 1) :
    u.norStored n = u.modSlot n (fun y => { y with norState := 2, nor := some y.model }) := if_pos ⟨hn, h⟩

/-- Settles O46. -/
theorem modelsAreCheckedAndStored : Obligations.ModelsAreCheckedAndStored := by
  intro dt n s
  refine fun hruns hn => ⟨fun h => ?_, fun h hnor => ?_⟩
  · refine State.run_settled (exec_modelCheck s dt n) (by rw [hruns, decide_eq_true hn]; rfl) ?_
    cases hf : (s.advance dt).slotFault n with
    | none => exact State.modelCheck_passed h hf
    | some fault => exact State.modelCheck_failed h hf
  · exact State.run_settled (exec_norStored s dt n) (by rw [hruns, decide_eq_true hn]; rfl) (State.norStored_due h hnor)

/-! ## A request to a pseudo-channel that takes commands -/

theorem Pch.woken_active {x : Pch} {clk : Nat} (hs : x.state = 0) (hb : x.busyUntil ≤ clk) : x.woken clk = (x, false) := by
  unfold Pch.woken
  rw [hs, decide_eq_false (Nat.not_lt.mpr hb)]
  rfl

theorem State.pch_modPch (s : State) (n m : Nat) (f : Pch → Pch) :
    (s.modPch n f).pch m = if n = m ∧ m < s.hbm.pchs.length then f (s.pch m) else s.pch m := by
  unfold State.pch State.modPch State.modHbm
  dsimp only
  by_cases hm : m < s.hbm.pchs.length
  · rw [getD_of_lt _ _ (by simpa using hm), getD_of_lt _ _ hm, List.getElem_modify]
    simp only [hm, and_true]
  · rw [getD_of_length_le _ _ (by simpa using hm), getD_of_length_le _ _ (Nat.not_lt.mp hm), if_neg (fun h => hm h.2)]

theorem State.pch_modPch_self (s : State) (n : Nat) (f : Pch → Pch) (h : f (s.pch n) = s.pch n) (m : Nat) :
    (s.modPch n f).pch m = s.pch m := by
  rw [State.pch_modPch]
  split
  next hm => rw [← hm.1]; exact h
  next => rfl

/-- A field that an access leaves is the one before. -/
theorem State.modPch_keeps {α : Type} {g : Pch → α} {f : Pch → Pch} (h : ∀ x, g (f x) = g x) (s : State) (n m : Nat) :
    g ((s.modPch n f).pch m) = g (s.pch m) := by
  rw [State.pch_modPch]
  split
  · exact h _
  · rfl

/-- The one request that waits, from a moment at which its channel takes commands. -/
theorem State.hbmPick_single {z : State} {r : HbmReq} {t : Nat} (hq : z.hbm.queue = [r]) (hb : (z.pch r.pch).busyUntil ≤ t)
    (ha : r.arrived = t) : z.hbmPick r.pch = some (r, t) := by
  subst ha
  unfold State.hbmPick
  have hself : [r].filter (fun q => q.pch = r.pch) = [r] := by simp
  rw [hq, hself]
  have htime : Nat.max (z.pch r.pch).busyUntil (List.foldl (fun (m : Nat) (q : HbmReq) => Nat.min m q.arrived) r.arrived []) = r.arrived :=
    Nat.max_eq_right hb
  dsimp only
  rw [htime]
  simp

theorem State.hbmPick_empty {z : State} {n : Nat} (hq : z.hbm.queue = []) : z.hbmPick n = none := by
  unfold State.hbmPick
  rw [hq]
  rfl

theorem State.hbmServe_single {z : State} {r : HbmReq} {t k : Nat} (hq : z.hbm.queue = [r]) (hb : (z.pch r.pch).busyUntil ≤ t)
    (ha : r.arrived = t) :
    State.hbmServe r.pch (t + 1) (k + 1) z = State.hbmServe r.pch (t + 1) k
      (((z.modHbm (fun h => { h with queue := h.queue.erase r })).modPch r.pch (fun x => { x with busyUntil := t + r.time })).hbmComplete r
        (t + r.time)) := by
  rw [State.hbmServe, State.hbmPick_single hq hb ha]
  exact if_neg (by omega)

theorem State.hbmServe_empty {z : State} {n limit k : Nat} (hq : z.hbm.queue = []) : State.hbmServe n limit k z = z := by
  cases k with
  | zero => rfl
  | succ k => rw [State.hbmServe, State.hbmPick_empty hq]

/-- What a clean access leaves: all but HBM and the counters of its port; of HBM it stores its bytes. -/
structure Accessed (r : HbmReq) (a b : State) : Prop where
  ctl : b.ctl = a.ctl
  mem : b.hbm.mem = r.apply a.hbm.mem
  queue : b.hbm.queue = a.hbm.queue
  scrub : ∀ m, (b.pch m).scrubNext = (a.pch m).scrubNext

theorem State.hbmServed_scrub (s : State) (port n age t : Nat) (w : Bool) (m : Nat) :
    ((s.hbmServed port n age t w).pch m).scrubNext = (s.pch m).scrubNext := by
  unfold State.hbmServed
  dsimp only
  rw [State.modPch_keeps (g := Pch.scrubNext) (fun _ => by rfl)]
  have hpeak : ∀ (z : State) (k v : Nat), (z.peak k v).pch m = z.pch m := by
    intro z k v
    unfold State.peak
    split <;> rfl
  have hbump : ∀ (z : State) (p : Bool) (k : Nat), (z.bumpIf p k).pch m = z.pch m := by
    intro z p k
    cases p <;> rfl
  rw [hpeak, hbump, hbump]

theorem State.hbmComplete_accessed (s : State) (r : HbmReq) (t : Nat) (h : r.outcome = .clean) : Accessed r s (s.hbmComplete r t) := by
  have hs := Touched.hbmServed s r.port r.pch (t - r.arrived) t r.waitedSr
  unfold State.hbmComplete
  rw [h]
  refine ⟨(congrArg (fun s : State => s.ctl) hs.rest :), ?_, hs.queue, State.hbmServed_scrub s _ _ _ _ _⟩
  exact congrArg r.apply hs.mem

theorem Accessed.stackLost {r : HbmReq} {a b : State} (h : Accessed r a b) (k : Nat) : b.stackLost k = a.stackLost k := by
  unfold State.stackLost State.stackChannels State.channelSet State.retired
  rw [h.ctl]

theorem State.stacksReviewed_none {z : State} (h : ∀ k, z.stackLost k = false) : z.stacksReviewed = z := by
  unfold State.stacksReviewed
  refine if_neg ?_
  simp [h]

/-- A clean request to a channel that takes commands, and nothing else waiting, is served at once (R382, R384). -/
theorem State.hbmRequest_active {u : State} {port n pa : Nat} {data : Option Bytes} (hq : u.hbm.queue = [])
    (hr : u.retired Unit.pch n = false) (hs : (u.pch n).state = 0) (hb : (u.pch n).busyUntil ≤ u.clk) :
    Accessed { port := port, pch := n, pa := pa / 32 * 32, data := data, arrived := u.clk, outcome := .clean, waitedSr := false } u
      (u.hbmRequest port n pa data .clean) := by
  unfold State.hbmRequest
  rw [hr, Pch.woken_active hs hb, hq]
  generalize hreq : (HbmReq.mk port n (pa / 32 * 32) data u.clk .clean false) = r
  have hn : n = r.pch := by rw [← hreq]
  have harrived : r.arrived = u.clk := by rw [← hreq]
  have hclean : r.outcome = .clean := by rw [← hreq]
  dsimp only
  rw [if_neg Bool.false_ne_true, hreq]
  subst hn
  generalize hz : (u.modPch r.pch (fun _ => u.pch r.pch)).modHbm (fun h => { h with queue := h.queue ++ [r] }) = z
  have hzq : z.hbm.queue = [r] := by
    rw [← hz]
    exact congrArg (· ++ [r]) hq
  have hzpch : ∀ m, z.pch m = u.pch m := by
    intro m
    rw [← hz]
    exact State.pch_modPch_self u r.pch (fun _ => u.pch r.pch) rfl m
  have hzctl : z.ctl = u.ctl := by rw [← hz]; rfl
  have hzmem : z.hbm.mem = u.hbm.mem := by rw [← hz]; rfl
  refine (State.hbmServe_single (k := 1) hzq (by rw [hzpch]; exact hb) harrived).symm ▸ ?_
  generalize hy : (z.modHbm (fun h => { h with queue := h.queue.erase r })).modPch r.pch (fun x => { x with busyUntil := u.clk + r.time }) = y
  have hyq : y.hbm.queue = [] := by
    rw [← hy]
    show z.hbm.queue.erase r = []
    rw [hzq]
    simp
  have hyctl : y.ctl = z.ctl := by rw [← hy]; rfl
  have hymem : y.hbm.mem = z.hbm.mem := by rw [← hy]; rfl
  have hypch : ∀ m, (y.pch m).scrubNext = (z.pch m).scrubNext := by
    intro m
    rw [← hy, State.modPch_keeps (g := Pch.scrubNext) (fun _ => by rfl)]
    rfl
  have hdone := State.hbmComplete_accessed y r (u.clk + r.time) hclean
  rw [State.hbmServe_empty (hdone.queue.trans hyq)]
  exact ⟨hdone.ctl.trans (hyctl.trans hzctl), hdone.mem.trans (by rw [hymem, hzmem]), (hdone.queue.trans hyq).trans hq.symm,
    fun m => (hdone.scrub m).trans ((hypch m).trans (by rw [hzpch]))⟩

theorem Accessed.reviewed {r : HbmReq} {a b : State} (h : Accessed r a b) (hl : ∀ k, a.stackLost k = false) : b.stacksReviewed = b :=
  State.stacksReviewed_none (fun k => (h.stackLost k).trans (hl k))

theorem Accessed.written {r : HbmReq} {a b : State} (h : Accessed r a b) {bytes : Bytes} (hd : r.data = some bytes) :
    b.hbm.mem = Mem.writeBytes a.hbm.mem (hbmAddr r.pch r.pa) bytes := by
  rw [h.mem]
  unfold HbmReq.apply
  rw [hd]

theorem Accessed.read {r : HbmReq} {a b : State} (h : Accessed r a b) (hd : r.data = none) : b.hbm.mem = a.hbm.mem := by
  rw [h.mem]
  unfold HbmReq.apply
  rw [hd]

theorem Settled.pch {a t : State} (h : Settled a t) (n : Nat) : t.pch n = a.pch n := (congrArg (fun s : State => s.pch n) h.same :)
theorem Settled.hbm {a t : State} (h : Settled a t) : t.hbm = a.hbm := (congrArg (fun s : State => s.hbm) h.same :)

/-- A clean burst of a request leaves the store with its bytes (R377, R384). -/
theorem State.hbmRequest_settled {u t : State} {port n pa : Nat} {data : Option Bytes}
    (h : Settled (u.hbmRequest port n pa data .clean).stacksReviewed t) (hq : u.hbm.queue = [])
    (hr : u.retired Unit.pch n = false) (hs : (u.pch n).state = 0) (hb : (u.pch n).busyUntil ≤ u.clk) (hwf : u.hbm.mem.wf = true)
    (hl : ∀ k, u.stackLost k = false) :
    t.hbm.queue = [] ∧ t.hbm.mem.wf = true ∧
      (∀ b, data = some b →
        (∀ k, k < b.length → Mem.read t.hbm.mem (hbmAddr n (pa / 32 * 32) + k) = b.getD k 0) ∧
        ∀ a, a < hbmAddr n (pa / 32 * 32) ∨ hbmAddr n (pa / 32 * 32) + b.length ≤ a → Mem.read t.hbm.mem a = Mem.read u.hbm.mem a) ∧
      (data = none → ∀ a, Mem.read t.hbm.mem a = Mem.read u.hbm.mem a) := by
  have hdone := State.hbmRequest_active (port := port) (pa := pa) (data := data) hq hr hs hb
  rw [hdone.reviewed hl] at h
  rw [h.hbm]
  cases data with
  | none =>
    have hmem := hdone.read rfl
    refine ⟨hdone.queue.trans hq, by rw [hmem]; exact hwf, fun b hd => (Option.some_ne_none _ hd.symm).elim, fun _ a => by rw [hmem]⟩
  | some bytes =>
    have hmem := hdone.written rfl
    refine ⟨hdone.queue.trans hq, by rw [hmem]; exact Mem.writeBytes_wf _ _ hwf, fun b hd => ?_, fun hd => (Option.some_ne_none _ hd).elim⟩
    cases hd
    rw [hmem]
    exact ⟨fun k hk => Mem.read_writeBytes_same hwf hk, fun a ha => Mem.read_writeBytes_other _ ha⟩

/-- Settles O49. -/
theorem burstsStoreTheirBytes : Obligations.BurstsStoreTheirBytes := by
  intro dt port pch pa data s
  exact fun hruns hpch hport hq hr hs hb hwf hlost =>
    State.run_completes (exec_hbmRequest s dt port pch pa data .clean)
      (by rw [hruns, decide_eq_true hpch, decide_eq_true hport]; rfl)
      (fun t h _ _ => State.hbmRequest_settled h hq hr hs hb hwf hlost)

/-! ## The upkeep of the stacks -/

theorem State.hbmRefresh_urgent {u : State} {n : Nat} (hs : (u.pch n).state ≤ 1) (hb : (u.pch n).busyUntil ≤ u.clk)
    (hd : (u.refreshL n : Int) < u.debt n) :
    u.hbmRefresh n = (u.modPch n (fun y => { y with
        debt := u.debt n - u.refreshT n, debtClk := u.clk, busyUntil := u.clk + 350, lastUse := u.clk,
        state := if y.state = 1 then 0 else y.state })).bump (Obj.pchUrgentRefreshes n) := by
  unfold State.hbmRefresh
  dsimp only
  rw [if_neg (by omega), if_pos (.inl (decide_eq_true hd)), decide_eq_true hd]
  rfl

theorem State.hbmPowerDown_idle {u : State} {n : Nat} (hq : u.hbm.queue = []) (hs : (u.pch n).state = 0) (ht : u.num Obj.hbmPdTimer ≠ 0)
    (hu : (u.pch n).lastUse + u.num Obj.hbmPdTimer ≤ u.clk) (hb : (u.pch n).busyUntil ≤ u.clk) (hd : u.debt n < u.refreshT n) :
    u.hbmPowerDown n = u.modPch n (fun y => { y with state := 1 }) :=
  if_pos ⟨hs, ht, hu, hb, hd, by rw [hq]; rfl⟩

theorem State.stackTemperature_eq (u : State) (n : Nat) (celsius : Int) :
    u.stackTemperature n celsius =
      (u.modStack n (fun y => { y with
        celsius := celsius, doubled := if (u.stack n).doubled then decide (83 < celsius) else decide (85 < celsius) })).bumpIf
      ((if (u.stack n).doubled then decide (83 < celsius) else decide (85 < celsius)) ≠ (u.stack n).doubled) (objKey (0x7010 + n) 4) := by
  unfold State.stackTemperature
  with_reducible rfl

theorem State.lineWriteDrop_waiting {u : State} {n v j : Nat} (hv : u.viewOfPort n = some v) (hj : (u.view v).nextStitch = some j)
    (hslot : u.lineSlot v (u.oldestWaiting v n j) ≠ 0) :
    u.lineWriteDrop n = (u.modRing v (fun y => { y with
      slots := y.slots.map (fun t => if t.2.1 = u.oldestWaiting v n j then (t.1, t.2.1, 3) else t),
      writing := y.writing.filter (fun t => t.1 ≠ u.oldestWaiting v n j) })).bump (Obj.ringDropped v) := by
  unfold State.lineWriteDrop
  rw [hv, Option.bind_some, hj]
  exact if_neg hslot

/-- The patrol's read of the next burst (R396). -/
theorem State.patrolScrub_due {u : State} {n : Nat} (hn : n < u.hbm.pchs.length) (hq : u.hbm.queue = []) (hs : (u.pch n).state = 0)
    (hb : (u.pch n).busyUntil ≤ u.clk) (hp : u.num Obj.hbmScrubPeriod ≠ 0) (hd : u.scrubDue n ≤ u.clk)
    (hr : u.retired Unit.pch n = false) (hl : ∀ k, u.stackLost k = false) :
    (((u.patrolScrub n .clean).stacksReviewed).pch n).scrubNext = ((u.pch n).scrubNext + 32) % 2 ^ 29 ∧
    ((u.patrolScrub n .clean).stacksReviewed).hbm.mem = u.hbm.mem := by
  unfold State.patrolScrub
  dsimp only
  rw [if_neg (by omega)]
  generalize hz : u.modPch n (fun y => { y with
      scrubNext := (y.scrubNext + 32) % 2 ^ 29,
      scrubFrom := if y.scrubNext + 32 = 2 ^ 29 then y.scrubFrom + u.num Obj.hbmScrubPeriod * 3600000000000 else y.scrubFrom }) = z
  have hpch : z.pch n = { u.pch n with
      scrubNext := ((u.pch n).scrubNext + 32) % 2 ^ 29,
      scrubFrom := if (u.pch n).scrubNext + 32 = 2 ^ 29 then (u.pch n).scrubFrom + u.num Obj.hbmScrubPeriod * 3600000000000
        else (u.pch n).scrubFrom } := by
    rw [← hz, State.pch_modPch, if_pos ⟨rfl, hn⟩]
  have hzq : z.hbm.queue = [] := by rw [← hz]; exact hq
  have hzr : z.retired Unit.pch n = false := by rw [← hz]; exact hr
  have hzl : ∀ k, z.stackLost k = false := by rw [← hz]; exact hl
  have hzmem : z.hbm.mem = u.hbm.mem := by rw [← hz]; rfl
  have hzs : (z.pch n).state = 0 := by rw [hpch]; exact hs
  have hzb : (z.pch n).busyUntil ≤ z.clk := by
    rw [hpch, ← hz]
    exact hb
  have hdone := State.hbmRequest_active (port := 6) (pa := (u.pch n).scrubNext) (data := none) hzq hzr hzs hzb
  rw [hdone.reviewed hzl]
  exact ⟨(hdone.scrub n).trans (by rw [hpch]), (hdone.read rfl).trans hzmem⟩

/-- Settles O50. -/
theorem stacksAreKept : Obligations.StacksAreKept := by
  intro dt n s
  refine fun hruns => ⟨fun hn hq hs hb hd => ?_, fun hn hq hs ht hu hb hd => ?_, fun hn hlen hq hs hb hp hd hr hl => ?_, fun celsius hn => ?_,
    fun v j hv hj hslot => ?_⟩
  · exact State.run_settled (exec_refresh s dt n) (by rw [hruns, decide_eq_true hn]; rfl) (State.hbmRefresh_urgent hs hb hd)
  · exact State.run_settled (exec_powerDown s dt n) (by rw [hruns, decide_eq_true hn]; rfl) (State.hbmPowerDown_idle hq hs ht hu hb hd)
  · have hscrub := State.patrolScrub_due hlen hq hs hb hp hd hr hl
    exact State.run_completes (exec_patrolScrub s dt n .clean) (by rw [hruns, decide_eq_true hn]; rfl)
      (fun t h _ _ => ⟨(congrArg Pch.scrubNext (h.pch n)).trans hscrub.1, (congrArg Hbm.mem h.hbm).trans hscrub.2⟩)
  · exact State.run_settled (exec_stackTemperature s dt n celsius) (by rw [hruns, decide_eq_true hn]; rfl)
      (State.stackTemperature_eq _ n celsius)
  · exact State.run_settled (exec_lineWriteDrop s dt n) hruns (State.lineWriteDrop_waiting hv hj hslot)

end Sys2Proof.Machine
end

section
/-! PROOFS. The Ethernet ports (O53). -/

namespace Sys2Proof.Machine

/-- An alert in a mode that has alerts sets its bit (R507). -/
theorem State.alert_bit {s : State} {bit : Nat} (h : bit < 255) (hh : s.ctl.mode ≠ .halt) (hs : s.ctl.mode ≠ .standby) :
    bitOf ((s.alert bit).num Obj.alAlerts) bit = true := by
  have hset : Settled (s.orFlags Obj.alAlerts (2 ^ bit)) (s.alert bit) := by
    unfold State.alert
    rw [if_neg (not_or.mpr ⟨hh, hs⟩)]
    exact ((Settled.bump _ (Settled.ownStatus_alert bit h)).trans (Settled.event _ _)).trans
      ((Settled.alertPinFrom _ _).trans (Settled.raise _ _ _ _))
  exact hset.alerts bit (State.bitOf_orFlags (by simp [bitOf, Nat.testBit_two_pow_self]))

theorem operating_alerts {m : Mode} (h : m.operating = true) : m ≠ .halt ∧ m ≠ .standby := by
  cases m <;> simp_all [Mode.operating]

theorem State.netRuns_alerts {s : State} (h : s.netRuns = true) : s.ctl.mode ≠ .halt ∧ s.ctl.mode ≠ .standby := by
  unfold State.netRuns at h
  rw [Bool.and_eq_true, Bool.or_eq_true, Bool.and_eq_true] at h
  obtain ⟨-, hop | ⟨hboot, -⟩⟩ := h
  · exact operating_alerts hop
  · rw [of_decide_eq_true hboot]
    exact ⟨Mode.noConfusion, Mode.noConfusion⟩

/-! ## A port through the settling and the BMCA -/

theorem State.eth_modEth_same {s : State} {p : Nat} (hp : p < s.eths.length) (f : Eth → Eth) : (s.modEth p f).eth p = f (s.eth p) := by
  unfold State.modEth State.eth
  simp [List.getD_eq_getElem?_getD, hp]

theorem State.eth_lt_of_up {s : State} {p : Nat} (h : (s.eth p).up = true) : p < s.eths.length := by
  refine Classical.byContradiction fun hlt => ?_
  have hreset : s.eth p = Eth.reset := getD_of_length_le _ _ (Nat.not_lt.mp hlt)
  rw [hreset] at h
  exact Bool.false_ne_true h

theorem State.eth_map {s : State} (g : Eth → Eth) (e : Nat) : (s.eths.map g).getD e (g Eth.reset) = g (s.eth e) := by
  unfold State.eth
  simp only [List.getD_eq_getElem?_getD, List.getElem?_map]
  cases s.eths[e]? <;> rfl

theorem Settled.eth_unsettled {a t : State} (h : Settled a t) (e : Nat) : (t.eth e).unsettled = (a.eth e).unsettled := by
  have heths : t.eths.map Eth.unsettled = a.eths.map Eth.unsettled := (congrArg (fun s : State => s.eths) h.same :)
  rw [← State.eth_map Eth.unsettled, ← State.eth_map Eth.unsettled, heths]

/-- A port but for its queue and its PTP state. -/
def Eth.linked (x : Eth) : Eth := { x.unsettled with ptpState := 0 }

/-- What the settling and the BMCA leave of the ports: all but what waits there and the PTP state; what is sent stays sent. -/
structure Linked (a b : State) : Prop where
  eth : ∀ e, (b.eth e).linked = (a.eth e).linked
  sends : ∀ e m, m.isEvent = false → a.sends e m → b.sends e m

namespace Linked

theorem refl (a : State) : Linked a a := ⟨fun _ => rfl, fun _ _ _ h => h⟩
theorem trans {a b c : State} (h : Linked a b) (k : Linked b c) : Linked a c :=
  ⟨fun e => (k.eth e).trans (h.eth e), fun e m hm hs => k.sends e m hm (h.sends e m hm hs)⟩
theorem of_settled {a t : State} (h : Settled a t) : Linked a t :=
  ⟨fun e => congrArg (fun x : Eth => { x with ptpState := 0 }) (h.eth_unsettled e), fun _ _ hm hs => h.sends hm hs⟩
theorem of_same {a b : State} (h : b.eths = a.eths) (ho : b.out = a.out) : Linked a b := by
  refine ⟨fun e => by unfold State.eth; rw [h], fun e m _ hs => ?_⟩
  unfold State.sends State.eth at hs ⊢
  rwa [h, ho]
theorem ite {p : Prop} [Decidable p] {s a b : State} (ha : Linked s a) (hb : Linked s b) : Linked s (if p then a else b) := by
  split <;> assumption

theorem ptpState (s : State) (p k : Nat) : Linked s (s.modEth p (fun y => { y with ptpState := k })) := by
  refine ⟨fun e => ?_, fun e m _ hs => ?_⟩
  · rcases Settled.eth_modEth s p e (fun y => { y with ptpState := k }) with h | h <;> rw [h]
    rfl
  · rcases hs with hs | ⟨f, hf, rfl⟩
    · exact .inl hs
    · refine .inr ⟨f, ?_, rfl⟩
      rcases Settled.eth_modEth s p e (fun y => { y with ptpState := k }) with h | h <;> rw [h] <;> exact hf

theorem bmca (s : State) : Linked s s.bmca := by
  have hstates : ∀ (best : Option (Nat × Master)) (l : List Nat) (z : State),
      Linked z (l.foldl (fun acc p => acc.modEth p (fun y => { y with ptpState := s.ptpStateOf p best })) z) := by
    intro best l
    induction l with
    | nil => exact fun z => refl z
    | cons p r ih => exact fun z => (ptpState z p _).trans (ih _)
  unfold State.bmca
  dsimp only
  refine (hstates s.bestAnnounced (List.range 2) s).trans ?_
  generalize (List.range 2).foldl (fun acc p => acc.modEth p (fun y => { y with ptpState := s.ptpStateOf p s.bestAnnounced })) s = z
  split
  · exact ite (of_same rfl rfl) (ite (of_same rfl rfl) (of_same rfl rfl))
  · refine ite (ite (of_same rfl rfl) (of_same rfl rfl)) (ite (refl z) ?_)
    unfold State.holdover
    exact ite (of_same rfl rfl) (of_same rfl rfl)

/-- What of a port is not its queue or PTP state stays. -/
theorem field {a b : State} (h : Linked a b) {α : Type} {g : Eth → α} (hg : ∀ x : Eth, g x.linked = g x) (e : Nat) :
    g (b.eth e) = g (a.eth e) := by
  rw [← hg, h.eth, hg]

theorem up {a b : State} (h : Linked a b) (e : Nat) : (b.eth e).up = (a.eth e).up := h.field (g := Eth.up) (fun _ => rfl) e
theorem masters {a b : State} (h : Linked a b) (e : Nat) : (b.eth e).masters = (a.eth e).masters := h.field (g := Eth.masters) (fun _ => rfl) e
theorem arp {a b : State} (h : Linked a b) (e : Nat) : (b.eth e).arp = (a.eth e).arp := h.field (g := Eth.arp) (fun _ => rfl) e
theorem echoes {a b : State} (h : Linked a b) (e : Nat) : (b.eth e).echoes = (a.eth e).echoes := h.field (g := Eth.echoes) (fun _ => rfl) e
theorem syncRx {a b : State} (h : Linked a b) (e : Nat) : (b.eth e).syncRx = (a.eth e).syncRx := h.field (g := Eth.syncRx) (fun _ => rfl) e
theorem entry {a b : State} (h : Linked a b) (e ip : Nat) : (b.eth e).entry ip = (a.eth e).entry ip := by
  unfold Eth.entry
  rw [h.arp]

end Linked

theorem State.tx_up (s : State) (p : Nat) (m : Emission) (e : Nat) : ((s.tx p m).eth e).up = (s.eth e).up :=
  (Linked.of_settled (Settled.tx s p m)).up e

theorem State.tx_sent {s : State} {p : Nat} {m : Emission} (h : (s.eth p).up = true) : (s.tx p m).sends p m :=
  State.tx_sends s ((State.tx_up s p m p).trans h)

/-! ## The links -/

theorem State.ethUp_settled {u t : State} {p : Nat} (h : Settled (u.ethUp p) t) (hp : p < u.eths.length)
    (he : u.flag (Obj.ethEnable p) = true) (hup : (u.eth p).up = false) :
    (t.eth p).up = true ∧ t.sends p (.arp p true (u.num (Obj.ethIpv4Addr p))) := by
  unfold State.ethUp at h
  rw [if_pos ⟨he, by rw [hup]; rfl⟩] at h
  generalize hz : u.modEth p (fun y => { y with up := true, lineFree := Nat.max y.lineFree (1000 * u.clk) }) = z at h
  have hzup : (z.eth p).up = true := by
    rw [← hz, State.eth_modEth_same hp]
  have hlinked := (Linked.bmca _).trans (Linked.of_settled h)
  exact ⟨(hlinked.up p).trans ((State.tx_up _ _ _ _).trans hzup), hlinked.sends _ _ rfl (State.tx_sent hzup)⟩

theorem Eth.announced_none {x : Eth} (h : x.masters = []) : x.announced = none := by
  unfold Eth.announced
  rw [h]
  rfl

theorem State.ethDown_settled {u t : State} {p : Nat} (h : Settled (u.ethDown p) t) (hup : (u.eth p).up = true) :
    (t.eth p).up = false ∧ (t.eth p).announced = none := by
  unfold State.ethDown at h
  rw [if_pos hup] at h
  have hlinked := (Linked.bmca _).trans (Linked.of_settled h)
  have hdown : ∀ z : State, let y := z.modEth p (fun y => { y with up := false, masters := [], queue := y.queue.filter (fun f => f.prio = 3) })
      (y.eth p).up = false ∧ (y.eth p).masters = [] := by
    intro z
    dsimp only
    by_cases hp : p < z.eths.length
    · rw [State.eth_modEth_same hp]
      exact ⟨rfl, rfl⟩
    · have hreset : ∀ f, (z.modEth p f).eth p = Eth.reset :=
        fun f => getD_of_length_le _ _ (by rw [State.modEth_eths, List.length_modify]; exact Nat.not_lt.mp hp)
      rw [hreset]
      exact ⟨rfl, rfl⟩
  obtain ⟨hzup, hmasters⟩ := hdown (u.ethDrain p)
  exact ⟨(hlinked.up p).trans hzup, Eth.announced_none ((hlinked.masters p).trans hmasters)⟩

/-! ## ARP -/

theorem State.arpFrame_request {u : State} {p ip mac target : Nat} (hup : (u.eth p).up = true) :
    u.arpFrame p .request ip mac target = if target = u.num (Obj.ethIpv4Addr p) then (u.rx p).tx p (.arp p false ip)
      else u.bump (Obj.ethRxDropped p) := by
  unfold State.arpFrame
  rw [hup]
  rfl

theorem State.arpFrame_unasked {u : State} {p ip mac target : Nat} (hup : (u.eth p).up = true) (he : (u.eth p).entry ip = none) :
    u.arpFrame p .reply ip mac target = u.bump (Obj.ethRxDropped p) := by
  unfold State.arpFrame
  rw [hup]
  dsimp only
  rw [he]
  rfl

theorem Eth.entry_ip {x : Eth} {ip : Nat} {a : Arp} (h : x.entry ip = some a) : a.ip = ip :=
  of_decide_eq_true (List.find?_some (p := fun a : Arp => decide (a.ip = ip)) h)

/-- An entry of an ARP table of which the address stays. -/
theorem Eth.entry_map {x : Eth} {ip : Nat} {a : Arp} {g : Arp → Arp} (h : x.entry ip = some a) (hg : ∀ b, (g b).ip = b.ip) :
    ({ x with arp := x.arp.map (fun b => if b.ip = ip then g b else b) } : Eth).entry ip = some (g a) := by
  have hfind : ∀ l : List Arp, l.find? (fun b => b.ip = ip) = some a →
      (l.map (fun b => if b.ip = ip then g b else b)).find? (fun b => b.ip = ip) = some (g a) := by
    intro l
    induction l with
    | nil => exact fun h => absurd h (by simp)
    | cons b r ih =>
      intro h
      by_cases hb : b.ip = ip
      · rw [List.find?_cons_of_pos (by simpa using hb)] at h
        cases h
        rw [List.map_cons, if_pos hb, List.find?_cons_of_pos (by simpa using (hg _).trans hb)]
      · rw [List.find?_cons_of_neg (by simpa using hb)] at h
        rw [List.map_cons, if_neg hb, List.find?_cons_of_neg (by simpa using hb)]
        exact ih h
  exact hfind x.arp h

theorem State.arpFrame_reply {u t : State} {p ip mac target : Nat} {a : Arp} (h : Settled (u.arpFrame p .reply ip mac target) t)
    (hup : (u.eth p).up = true) (he : (u.eth p).entry ip = some a) (ha : a.mac = none) :
    (t.eth p).entry ip = some { a with mac := some mac, at_ := u.clk } := by
  have harp : u.arpFrame p .reply ip mac target = (u.rx p).modEth p (fun y => { y with arp := y.arp.map (fun b =>
      if b.ip = ip then { b with mac := some mac, at_ := u.clk } else b) }) := by
    unfold State.arpFrame
    rw [hup]
    dsimp only
    rw [he]
    exact if_pos (Or.inl (by rw [ha]; rfl))
  rw [harp] at h
  rw [(Linked.of_settled h).entry, State.eth_modEth_same (s := u.rx p) (State.eth_lt_of_up (s := u) hup)]
  exact Eth.entry_map (g := fun b => { b with mac := some mac, at_ := u.clk }) he (fun _ => rfl)

/-- A request sent again for an entry (R457). -/
theorem State.arpAgain_settled {u t : State} {p ip : Nat} {a : Arp}
    (h : Settled ((u.modEth p (fun y => { y with arp := y.arp.map (fun b => if b.ip = ip then { b with asked := u.clk } else b) })).tx p
      (.arp p true ip)) t) (hup : (u.eth p).up = true) (he : (u.eth p).entry ip = some a) :
    t.sends p (.arp p true ip) ∧ (t.eth p).entry ip = some { a with asked := u.clk } := by
  have hlen := State.eth_lt_of_up hup
  have hlinked := Linked.of_settled h
  refine ⟨hlinked.sends _ _ rfl (State.tx_sent ?_), ?_⟩
  · rw [State.eth_modEth_same hlen]
    exact hup
  · rw [hlinked.entry, (Linked.of_settled (Settled.tx _ _ _)).entry, State.eth_modEth_same hlen]
    exact Eth.entry_map (g := fun b => { b with asked := u.clk }) he (fun _ => rfl)

theorem State.arpRetry_settled {u t : State} {p ip : Nat} {a : Arp} (h : Settled (u.arpRetry p ip) t) (hup : (u.eth p).up = true)
    (he : (u.eth p).entry ip = some a) (ha : a.mac = none) (hdue : a.asked + 1000000000 ≤ u.clk) :
    t.sends p (.arp p true ip) ∧ (t.eth p).entry ip = some { a with asked := u.clk } := by
  unfold State.arpRetry at h
  rw [he] at h
  dsimp only at h
  rw [if_pos ⟨.inl (by rw [ha]; rfl), hdue, hup⟩] at h
  exact State.arpAgain_settled h hup he

theorem State.arpRefresh_settled {u t : State} {p ip : Nat} {a : Arp} (h : Settled (u.arpRefresh p ip) t) (hup : (u.eth p).up = true)
    (he : (u.eth p).entry ip = some a) (ha : a.mac.isSome = true) (hasked : a.asked ≤ a.at_) (hdue : a.at_ + 290000000000 ≤ u.clk) :
    t.sends p (.arp p true ip) ∧ (t.eth p).entry ip = some { a with asked := u.clk } := by
  unfold State.arpRefresh at h
  rw [he] at h
  dsimp only at h
  rw [if_pos ⟨ha, hasked, hdue, hup⟩] at h
  exact State.arpAgain_settled h hup he

theorem State.arpExpiry_settled {u t : State} {p ip : Nat} {a : Arp} (h : Settled (u.arpExpiry p ip) t) (hup : (u.eth p).up = true)
    (he : (u.eth p).entry ip = some a) (ha : a.mac.isSome = true) (hdue : a.at_ + 300000000000 ≤ u.clk) : (t.eth p).entry ip = none := by
  unfold State.arpExpiry at h
  rw [he] at h
  dsimp only at h
  rw [if_pos ⟨ha, hdue⟩] at h
  rw [(Linked.of_settled h).entry, State.eth_modEth_same (State.eth_lt_of_up hup)]
  unfold Eth.entry
  rw [List.find?_filter]
  exact List.find?_eq_none.mpr (fun b _ hb => by simp at hb)

/-! ## Echo requests -/

theorem Asked.linked {a b : State} (h : Asked a b) {α : Type} {g : Eth → α} (hg : ∀ x : Eth, g { x.unsettled with arp := [] } = g x) (e : Nat) :
    g (b.eth e) = g (a.eth e) := by
  have heths : b.eths.map (fun x => { x.unsettled with arp := [] }) = a.eths.map (fun x => { x.unsettled with arp := [] }) := by
    have k := (congrArg (fun s : State => s.eths) h.same :)
    simp only [State.unreplied, State.unsettled, List.map_map] at k
    exact k
  have hmap : ∀ s : State, g (s.eth e) = g ((s.eths.map (fun x => { x.unsettled with arp := [] })).getD e { Eth.reset.unsettled with arp := [] }) := by
    intro s
    rw [State.eth_map (fun x => { x.unsettled with arp := [] }), hg]
  rw [hmap, hmap, heths]

theorem State.icmpEcho_settled {u t : State} {p ip : Nat} {payload : Bytes} (h : Settled (u.icmpEcho p ip payload) t)
    (hup : (u.eth p).up = true) (hlen : payload.length ≤ 1472) (hecho : (u.eth p).echoes = []) :
    t.sends p (.icmpReply p ip payload) ∧ (t.eth p).echoes = [u.clk] := by
  have hreply : u.icmpEcho p ip payload =
      (((u.rx p).modEth p (fun y => { y with echoes := [u.clk] })).resolve p ip).1.tx p (.icmpReply p ip payload) := by
    unfold State.icmpEcho
    rw [hup, if_neg (by decide), if_neg (by omega), hecho]
    rfl
  rw [hreply] at h
  have hz : ((u.rx p).modEth p (fun y => { y with echoes := [u.clk] })).eth p = { u.eth p with echoes := [u.clk] } :=
    State.eth_modEth_same (s := u.rx p) (State.eth_lt_of_up (s := u) hup) _
  have hasked := Asked.resolve ((u.rx p).modEth p (fun y => { y with echoes := [u.clk] })) p ip
  have hup' := hasked.linked (g := Eth.up) (fun _ => rfl) p
  have hechoes := hasked.linked (g := Eth.echoes) (fun _ => rfl) p
  rw [hz] at hup' hechoes
  have hlinked := Linked.of_settled h
  refine ⟨hlinked.sends _ _ rfl (State.tx_sent (hup'.trans hup)), ?_⟩
  rw [hlinked.echoes, (Linked.of_settled (Settled.tx _ _ _)).echoes, hechoes]

/-- Settles O53. -/
theorem portsKeepTheirAddresses : Obligations.PortsKeepTheirAddresses := by
  intro dt p ip mac target s
  refine fun hnet => ⟨fun hp hlen he hup => ?_, fun hup => ⟨?_, ?_, fun htarget => ?_, fun hentry => ?_, fun f hf => ?_, fun a ha =>
    ⟨fun hmac => ?_, fun hmac hdue => ?_, fun hmac hasked hdue => ?_, fun hmac hdue => ?_⟩⟩, fun payload hup => ⟨fun hlen => ?_, fun hlen hecho => ?_⟩⟩
  · exact State.run_completes (exec_ethLinkUp s dt p) (by rw [hnet, decide_eq_true hp]; rfl)
      (fun t h _ _ => State.ethUp_settled h hlen he hup)
  · exact State.run_completes (exec_ethLinkDown s dt p) hnet (fun t h _ _ => State.ethDown_settled h hup)
  · exact State.run_settled (exec_arpFrame s dt p .request ip mac _) (by rw [hnet, hup]; rfl)
      ((State.arpFrame_request hup).trans (if_pos rfl))
  · exact State.run_settled (exec_arpFrame s dt p .request ip mac target) (by rw [hnet, hup]; rfl)
      ((State.arpFrame_request hup).trans (if_neg htarget))
  · exact State.run_settled (exec_arpFrame s dt p .reply ip mac target) (by rw [hnet, hup]; rfl) (State.arpFrame_unasked hup hentry)
  · exact State.run_settled (exec_rxDropped s dt ⟨p, f⟩) (by rw [hnet, hup]; rfl)
      (by unfold State.rxDrop; rw [hf]; rfl)
  · exact State.run_completes (exec_arpFrame s dt p .reply ip mac target) (by rw [hnet, hup]; rfl)
      (fun t h _ _ => State.arpFrame_reply h hup ha hmac)
  · exact State.run_completes (exec_arpRetry s dt p ip) hnet (fun t h _ _ => State.arpRetry_settled h hup ha hmac hdue)
  · exact State.run_completes (exec_arpRefresh s dt p ip) hnet (fun t h _ _ => State.arpRefresh_settled h hup ha hmac hasked hdue)
  · exact State.run_completes (exec_arpExpiry s dt p ip) hnet (fun t h _ _ => State.arpExpiry_settled h hup ha hmac hdue)
  · refine State.run_settled (exec_icmpEcho s dt p ip payload) (by rw [hnet, hup]; rfl) ?_
    unfold State.icmpEcho
    rw [hup]
    exact if_pos hlen
  · exact State.run_completes (exec_icmpEcho s dt p ip payload) (by rw [hnet, hup]; rfl)
      (fun t h _ _ => State.icmpEcho_settled h hup hlen hecho)

end Sys2Proof.Machine
end

section
/-! PROOFS. The time of the network (O54). -/

namespace Sys2Proof.Machine

/-! ## Offsets -/

/-- The SLAVE port has measured an offset: the servo is `v`, the time and the objects, but the count of frames and OFFSET, are those
before. -/
structure Measured (p : Nat) (v : Servo) (u y : State) : Prop where
  servo : y.servo = v
  timeOffset : y.timeOffset = u.timeOffset
  clk : y.clk = u.clk
  mode : y.ctl.mode = u.ctl.mode
  num : ∀ key, key ≠ Obj.ethFramesRx p → key ≠ Obj.timeOffset → y.num key = u.num key

/-- The offset of a one-step Sync that arrives now (R464). -/
def State.syncOffsetOf (u : State) (p : Nat) (origin correction : Int) : Int :=
  (u.clk : Int) + u.timeOffset - (u.num (Obj.ethPhyDelayRx p) : Nat) - origin - correction - (u.eth p).pathDelay

/-- The servo that has the offset and has not taken it in. -/
def State.servoWith (u : State) (o : Int) : Servo := { u.servo with offset := o, lastSync := u.clk }

theorem State.syncMeasured_measured (u : State) (p : Nat) (d : Int) :
    ∃ y, Measured p (u.servoWith (d - (u.eth p).pathDelay)) u y ∧
      (u.rx p).syncMeasured p d =
        if u.servo.state = 1 ∧ u.clk < u.servo.qualifying + 8 * logSeconds ((u.rx p).int 16 Obj.ptpLogSync) then y
        else y.testOffset (d - (u.eth p).pathDelay) := by
  refine ⟨(((u.rx p).modEth p (fun x => { x with syncRx := none, fromMaster := some d })).modServo (fun x =>
    { x with offset := d - (u.eth p).pathDelay, lastSync := u.clk })).putNum Obj.timeOffset (ofSigned 32 (sat32s (d - (u.eth p).pathDelay))),
    ⟨rfl, rfl, rfl, rfl, fun key hrx ho => ?_⟩, rfl⟩
  rw [State.num_putNum_other _ _ ho]
  exact State.num_bump_other u hrx

/-- A Sync frame of the module's transport and domain on the SLAVE port. -/
theorem State.syncFrame_slave {u : State} {p seq : Nat} {origin correction : Int} {two : Bool} (hon : u.ptpOn p = true)
    (hs : (u.eth p).ptpState = 9) :
    u.syncFrame p origin ⟨correction, two, u.num Obj.ptpTransport, u.num Obj.ptpDomain, seq⟩ =
      u.syncTaken p origin correction two seq := by
  unfold State.syncFrame State.ptpPort State.ptpDomain
  simp only [hon, hs, decide_true, Bool.and_self, Bool.not_true, Bool.false_eq_true, if_false, and_self, if_true]

theorem ne_framesRx {key p : Nat} (hp : p < 2) (h : 0x9030 * 256 ≤ key) : key ≠ Obj.ethFramesRx p := by
  unfold Obj.ethFramesRx objKey
  omega

/-- The Sync that yields an offset, and the test that follows it outside QUALIFYING (R464, R465). -/
theorem State.syncFrame_measured {u : State} {p seq : Nat} {origin correction : Int} (hp : p < 2) (hon : u.ptpOn p = true)
    (hs : (u.eth p).ptpState = 9) :
    ∃ y, Measured p (u.servoWith (u.syncOffsetOf p origin correction)) u y ∧
      u.syncFrame p origin ⟨correction, false, u.num Obj.ptpTransport, u.num Obj.ptpDomain, seq⟩ =
        if u.servo.state = 1 ∧ u.clk < u.servo.qualifying + 8 * logSeconds (u.int 16 Obj.ptpLogSync) then y
        else y.testOffset (u.syncOffsetOf p origin correction) := by
  obtain ⟨y, hy, htaken⟩ := State.syncMeasured_measured u p (u.rxStamp p - origin - correction)
  have hint : (u.rx p).int 16 Obj.ptpLogSync = u.int 16 Obj.ptpLogSync :=
    congrArg (toSigned 16) (State.num_bump_other u (ne_framesRx hp (by decide)))
  rw [hint] at htaken
  rw [State.syncFrame_slave hon hs]
  exact ⟨y, hy, htaken⟩

theorem Measured.mayStep {p : Nat} {u y : State} {o : Int} (hp : p < 2) (h : Measured p (u.servoWith o) u y) : y.mayStep = u.mayStep := by
  unfold State.mayStep State.flag
  rw [h.servo, h.clk, h.mode, h.num _ (ne_framesRx hp (by decide)) (by decide)]
  rfl

theorem State.testOffset_accepted {y : State} {o : Int} (h : o.natAbs ≤ y.num Obj.timeJumpThreshold) :
    y.testOffset o = (y.modServo (fun x =>
      x.accept (y.num Obj.timeKp) (y.num Obj.timeKi) (y.num Obj.timeLockThreshold) o)).putNum Obj.timeStepNeeded 0 := by
  unfold State.testOffset
  exact if_pos h

theorem Measured.accepted {p : Nat} {u y t : State} {o : Int} (hp : p < 2) (hy : Measured p (u.servoWith o) u y)
    (h : Settled (y.testOffset o) t) (ho : o.natAbs ≤ u.num Obj.timeJumpThreshold) :
    t.servo = (u.servoWith o).accept (u.num Obj.timeKp) (u.num Obj.timeKi) (u.num Obj.timeLockThreshold) o ∧
      t.timeOffset = u.timeOffset ∧ t.num Obj.timeStepNeeded = 0 := by
  have hkey : ∀ key, 0x9030 * 256 ≤ key → key ≠ Obj.timeOffset → y.num key = u.num key := fun key hk hn => hy.num key (ne_framesRx hp hk) hn
  rw [State.testOffset_accepted (by rw [hkey _ (by decide) (by decide)]; exact ho), hkey _ (by decide) (by decide),
    hkey _ (by decide) (by decide), hkey _ (by decide) (by decide)] at h
  refine ⟨?_, (congrArg (fun s : State => s.timeOffset) h.same :).trans hy.timeOffset, ?_⟩
  · refine (congrArg (fun s : State => s.servo) h.same :).trans ?_
    show y.servo.accept _ _ _ o = _
    rw [hy.servo]
  · rw [h.num (by decide), State.num_putNum_same]

theorem State.testOffset_stepped {y : State} {o : Int} (h : y.num Obj.timeJumpThreshold < o.natAbs) (hm : y.mayStep = true) :
    ∃ z : State, y.testOffset o = z.bump Obj.timeStepsApplied ∧ z.timeOffset = y.timeOffset - o ∧ (∀ key, z.num key = y.num key) ∧
      z.servo = { y.servo with state := 2, run := 0, beyond := 0, stepArmed := none, everStepped := true } := by
  unfold State.testOffset
  rw [if_neg (by omega), if_pos hm]
  exact ⟨_, rfl, rfl, fun _ => rfl, rfl⟩

theorem Measured.stepped {p : Nat} {u y t : State} {o : Int} (hp : p < 2) (hy : Measured p (u.servoWith o) u y)
    (h : Settled (y.testOffset o) t) (ho : u.num Obj.timeJumpThreshold < o.natAbs) (hm : u.mayStep = true) :
    t.timeOffset = u.timeOffset - o ∧ t.servo.state = 2 ∧ t.servo.integ = u.servo.integ ∧ t.servo.stepArmed = none ∧
      t.num Obj.timeStepsApplied = satAdd 32 (u.num Obj.timeStepsApplied) 1 := by
  have hkey : ∀ key, 0x9030 * 256 ≤ key → key ≠ Obj.timeOffset → y.num key = u.num key := fun key hk hn => hy.num key (ne_framesRx hp hk) hn
  obtain ⟨z, hz, hoffset, hnum, hservo⟩ := State.testOffset_stepped (y := y) (by rw [hkey _ (by decide) (by decide)]; exact ho)
    ((hy.mayStep hp).trans hm)
  rw [hz] at h
  have ht : t.servo = z.servo := (congrArg (fun s : State => s.servo) h.same :)
  rw [hservo, hy.servo] at ht
  refine ⟨(congrArg (fun s : State => s.timeOffset) h.same :).trans (hoffset.trans (by rw [hy.timeOffset])), by rw [ht], by rw [ht]; rfl,
    by rw [ht], ?_⟩
  rw [h.num (by decide), State.num_bump_same, hnum, hkey _ (by decide) (by decide)]

theorem State.holdover_servo (s : State) : s.holdover.servo.state = 4 ∧ s.holdover.timeOffset = s.timeOffset ∧ s.holdover.ctl = s.ctl ∧
    (∀ key, key ≠ Obj.timeFlags → s.holdover.num key = s.num key) := by
  unfold State.holdover
  split
  next h => exact ⟨h, rfl, rfl, fun _ _ => rfl⟩
  next => exact ⟨rfl, rfl, rfl, fun _ hk => State.num_putNum_other _ _ hk⟩

theorem State.testOffset_refused {y : State} {o : Int} (h : y.num Obj.timeJumpThreshold < o.natAbs) (hm : y.mayStep = false) :
    y.testOffset o = (((((y.holdover.orFlags Obj.timeFlags 1).putNum Obj.timeStepNeeded 1).putNum Obj.timeLastRefused (ofSigned 64 o)).bump
      Obj.timeStepsRefused).alert Alert.time) := by
  unfold State.testOffset
  rw [if_neg (by omega), if_neg (by rw [hm]; exact Bool.false_ne_true)]

theorem Measured.refused {p : Nat} {u y t : State} {o : Int} (hp : p < 2) (hy : Measured p (u.servoWith o) u y)
    (h : Settled (y.testOffset o) t) (ho : u.num Obj.timeJumpThreshold < o.natAbs) (hm : u.mayStep = false)
    (hnet : u.netRuns = true) :
    t.timeOffset = u.timeOffset ∧ t.servo.state = 4 ∧ t.num Obj.timeStepNeeded = 1 ∧ t.num Obj.timeLastRefused = ofSigned 64 o ∧
      t.num Obj.timeStepsRefused = satAdd 32 (u.num Obj.timeStepsRefused) 1 ∧ bitOf (t.num Obj.alAlerts) Alert.time = true := by
  have hkey : ∀ key, 0x9030 * 256 ≤ key → key ≠ Obj.timeOffset → y.num key = u.num key := fun key hk hn => hy.num key (ne_framesRx hp hk) hn
  obtain ⟨hstate, hoffset, hctl, hnum⟩ := y.holdover_servo
  obtain ⟨hhalt, hstandby⟩ := State.netRuns_alerts hnet
  rw [State.testOffset_refused (by rw [hkey _ (by decide) (by decide)]; exact ho) ((hy.mayStep hp).trans hm)] at h
  generalize hz : (((y.holdover.orFlags Obj.timeFlags 1).putNum Obj.timeStepNeeded 1).putNum Obj.timeLastRefused (ofSigned 64 o)).bump
      Obj.timeStepsRefused = z at h
  have halert := Settled.alert z Alert.time (by decide)
  have hall := halert.trans h
  have hmode : z.ctl.mode = u.ctl.mode := by
    rw [← hz]
    exact (congrArg Control.mode hctl).trans hy.mode
  have hzoffset : z.timeOffset = u.timeOffset := by
    rw [← hz]
    exact hoffset.trans hy.timeOffset
  have hzstate : z.servo.state = 4 := by
    rw [← hz]
    exact hstate
  refine ⟨(congrArg (fun s : State => s.timeOffset) hall.same :).trans hzoffset,
    (congrArg (fun s : State => s.servo.state) hall.same :).trans hzstate, ?_, ?_, ?_,
    h.alerts _ (State.alert_bit (by decide) (hmode ▸ hhalt) (hmode ▸ hstandby))⟩
  · rw [hall.num (by decide), ← hz, State.num_bump_other _ (by decide), State.num_putNum_other _ _ (by decide), State.num_putNum_same]
  · rw [hall.num (by decide), ← hz, State.num_bump_other _ (by decide), State.num_putNum_same]
  · rw [hall.num (by decide), ← hz, State.num_bump_same, State.num_putNum_other _ _ (by decide), State.num_putNum_other _ _ (by decide),
      State.orFlags, State.num_putNum_other _ _ (by decide), hnum _ (by decide), hkey _ (by decide) (by decide)]

/-- A Sync that is not in QUALIFYING is tested. -/
theorem State.syncFrame_tested {u : State} {p seq : Nat} {origin correction : Int} (hp : p < 2) (hon : u.ptpOn p = true)
    (hs : (u.eth p).ptpState = 9) (hq : u.servo.state ≠ 1) :
    ∃ y, Measured p (u.servoWith (u.syncOffsetOf p origin correction)) u y ∧
      u.syncFrame p origin ⟨correction, false, u.num Obj.ptpTransport, u.num Obj.ptpDomain, seq⟩ =
        y.testOffset (u.syncOffsetOf p origin correction) := by
  obtain ⟨y, hy, hframe⟩ := State.syncFrame_measured (seq := seq) (origin := origin) (correction := correction) hp hon hs
  exact ⟨y, hy, hframe.trans (if_neg (fun h => hq h.1))⟩

theorem State.syncFrame_accepted {u t : State} {p seq : Nat} {origin correction : Int}
    (h : Settled (u.syncFrame p origin ⟨correction, false, u.num Obj.ptpTransport, u.num Obj.ptpDomain, seq⟩) t) (hp : p < 2)
    (hon : u.ptpOn p = true) (hs : (u.eth p).ptpState = 9) (hq : u.servo.state ≠ 1)
    (ho : (u.syncOffsetOf p origin correction).natAbs ≤ u.num Obj.timeJumpThreshold) :
    t.servo = (u.servoWith (u.syncOffsetOf p origin correction)).accept (u.num Obj.timeKp) (u.num Obj.timeKi)
        (u.num Obj.timeLockThreshold) (u.syncOffsetOf p origin correction) ∧
      t.timeOffset = u.timeOffset ∧ t.num Obj.timeStepNeeded = 0 := by
  obtain ⟨y, hy, hframe⟩ := State.syncFrame_tested (seq := seq) (origin := origin) (correction := correction) hp hon hs hq
  rw [hframe] at h
  exact hy.accepted hp h ho

theorem State.syncFrame_stepped {u t : State} {p seq : Nat} {origin correction : Int}
    (h : Settled (u.syncFrame p origin ⟨correction, false, u.num Obj.ptpTransport, u.num Obj.ptpDomain, seq⟩) t) (hp : p < 2)
    (hon : u.ptpOn p = true) (hs : (u.eth p).ptpState = 9) (hq : u.servo.state ≠ 1)
    (ho : u.num Obj.timeJumpThreshold < (u.syncOffsetOf p origin correction).natAbs) (hm : u.mayStep = true) :
    t.timeOffset = u.timeOffset - u.syncOffsetOf p origin correction ∧ t.servo.state = 2 ∧ t.servo.integ = u.servo.integ ∧
      t.servo.stepArmed = none ∧ t.num Obj.timeStepsApplied = satAdd 32 (u.num Obj.timeStepsApplied) 1 := by
  obtain ⟨y, hy, hframe⟩ := State.syncFrame_tested (seq := seq) (origin := origin) (correction := correction) hp hon hs hq
  rw [hframe] at h
  exact hy.stepped hp h ho hm

theorem State.syncFrame_refused {u t : State} {p seq : Nat} {origin correction : Int}
    (h : Settled (u.syncFrame p origin ⟨correction, false, u.num Obj.ptpTransport, u.num Obj.ptpDomain, seq⟩) t) (hp : p < 2)
    (hon : u.ptpOn p = true) (hs : (u.eth p).ptpState = 9) (hq : u.servo.state ≠ 1)
    (ho : u.num Obj.timeJumpThreshold < (u.syncOffsetOf p origin correction).natAbs) (hm : u.mayStep = false) (hnet : u.netRuns = true) :
    t.timeOffset = u.timeOffset ∧ t.servo.state = 4 ∧ t.num Obj.timeStepNeeded = 1 ∧
      t.num Obj.timeLastRefused = ofSigned 64 (u.syncOffsetOf p origin correction) ∧
      t.num Obj.timeStepsRefused = satAdd 32 (u.num Obj.timeStepsRefused) 1 ∧ bitOf (t.num Obj.alAlerts) Alert.time = true := by
  obtain ⟨y, hy, hframe⟩ := State.syncFrame_tested (seq := seq) (origin := origin) (correction := correction) hp hon hs hq
  rw [hframe] at h
  exact hy.refused hp h ho hm hnet

theorem State.syncFrame_reported {u t : State} {p seq : Nat} {origin correction : Int}
    (h : Settled (u.syncFrame p origin ⟨correction, false, u.num Obj.ptpTransport, u.num Obj.ptpDomain, seq⟩) t) (hp : p < 2)
    (hon : u.ptpOn p = true) (hs : (u.eth p).ptpState = 9) (hq : u.servo.state = 1)
    (hsince : u.clk < u.servo.qualifying + 8 * logSeconds (u.int 16 Obj.ptpLogSync)) :
    t.servo = u.servoWith (u.syncOffsetOf p origin correction) ∧ t.timeOffset = u.timeOffset := by
  obtain ⟨y, hy, hframe⟩ := State.syncFrame_measured (seq := seq) (origin := origin) (correction := correction) hp hon hs
  rw [hframe, if_pos ⟨hq, hsince⟩] at h
  exact ⟨(congrArg (fun s : State => s.servo) h.same :).trans hy.servo,
    (congrArg (fun s : State => s.timeOffset) h.same :).trans hy.timeOffset⟩

/-- A two-step Sync waits for its Follow_Up (R463). -/
theorem State.syncFrame_twoStep {u t : State} {p seq : Nat} {origin correction : Int}
    (h : Settled (u.syncFrame p origin ⟨correction, true, u.num Obj.ptpTransport, u.num Obj.ptpDomain, seq⟩) t)
    (hup : (u.eth p).up = true) (hon : u.ptpOn p = true) (hs : (u.eth p).ptpState = 9) :
    (t.eth p).syncRx = some (u.rxStamp p, correction, seq) ∧ t.servo = u.servo ∧ t.timeOffset = u.timeOffset := by
  rw [State.syncFrame_slave hon hs] at h
  refine ⟨?_, (congrArg (fun s : State => s.servo) h.same :), (congrArg (fun s : State => s.timeOffset) h.same :)⟩
  rw [(Linked.of_settled h).syncRx]
  exact congrArg Eth.syncRx (State.eth_modEth_same (s := u.rx p) (State.eth_lt_of_up (s := u) hup) _)

/-! ## Without offsets -/

theorem State.syncTimeout_due {u : State} (h1 : 1 ≤ u.servo.state) (h3 : u.servo.state ≤ 3)
    (hdue : u.servo.lastSync + 4 * logSeconds (u.int 16 Obj.ptpLogSync) ≤ u.clk) :
    u.syncTimeout.servo = { u.servo with state := 4, freq := -u.servo.integ, run := 0, beyond := 0 } := by
  unfold State.syncTimeout
  rw [if_pos ⟨h1, h3, hdue⟩]
  unfold State.holdover
  rw [if_neg (by omega)]
  rfl

theorem State.stepWithdraw_due {u : State} {at_ : Nat} (h : u.servo.stepArmed = some at_) (hdue : at_ + 60000000000 ≤ u.clk) :
    u.stepWithdraw = u.modServo (fun x => { x with stepArmed := none }) := by
  unfold State.stepWithdraw
  rw [h]
  exact if_pos hdue

theorem Settled.servo {a t : State} (h : Settled a t) : t.servo = a.servo := (congrArg (fun s : State => s.servo) h.same :)

/-! ## Messages -/

theorem State.announceFrame_taken {u t : State} {p identity rank : Nat} {utc : Int}
    (h : Settled (u.announceFrame p ⟨identity, u.num Obj.ptpTransport, u.num Obj.ptpDomain⟩ rank utc) t)
    (hup : (u.eth p).up = true) (hon : u.ptpOn p = true) :
    ⟨identity, rank, u.clk, utc⟩ ∈ (t.eth p).masters ∧ ∀ m ∈ (u.eth p).masters, m.identity ≠ identity → m ∈ (t.eth p).masters := by
  have hframe : u.announceFrame p ⟨identity, u.num Obj.ptpTransport, u.num Obj.ptpDomain⟩ rank utc = u.announce p identity rank utc := by
    unfold State.announceFrame State.ptpPort State.ptpDomain
    simp only [hon, decide_true, Bool.and_self, Bool.not_true, Bool.false_eq_true, if_false, if_true]
  rw [hframe] at h
  have hlinked := (Linked.bmca _).trans (Linked.of_settled h)
  have hmasters : (t.eth p).masters = ⟨identity, rank, u.clk, utc⟩ :: (u.eth p).masters.filter (fun m => m.identity ≠ identity) := by
    rw [hlinked.masters]
    exact congrArg Eth.masters (State.eth_modEth_same (s := u.rx p) (State.eth_lt_of_up (s := u) hup) _)
  rw [hmasters]
  exact ⟨List.mem_cons_self, fun m hm hi => List.mem_cons_of_mem _ (List.mem_filter.mpr ⟨hm, decide_eq_true hi⟩)⟩

theorem State.ptpMessage_other {u : State} {p seq : Nat} {time c : Int} {two : Bool} (hup : (u.eth p).up = true) (hon : u.ptpOn p = true) :
    u.ptpMessage p .other time ⟨c, two, u.num Obj.ptpTransport, u.num Obj.ptpDomain, seq⟩ = (u.rx p).bump (Obj.ethIgnored p) := by
  unfold State.ptpMessage State.ptpPort State.ptpDomain
  simp only [hup, hon, decide_true, Bool.and_self, and_self, if_true, Bool.not_true, Bool.false_eq_true, if_false]

theorem State.ptpMessage_transport {u : State} {p transport domain seq : Nat} {kind : PtpKind} {time c : Int} {two : Bool}
    (ht : transport ≠ u.num Obj.ptpTransport) :
    u.ptpMessage p kind time ⟨c, two, transport, domain, seq⟩ = u.bump (Obj.ethRxDropped p) := by
  unfold State.ptpMessage State.ptpPort
  rw [decide_eq_false ht, Bool.and_false]
  exact if_neg (fun h => Bool.false_ne_true h.2)

theorem State.ptpMessage_delayReq {u : State} {p seq : Nat} {time c : Int} {two : Bool} (hup : (u.eth p).up = true)
    (hon : u.ptpOn p = true) (hm : (u.eth p).ptpState = 6) (hprofile : u.num Obj.ptpProfile = 0) :
    u.ptpMessage p .delayReq time ⟨c, two, u.num Obj.ptpTransport, u.num Obj.ptpDomain, seq⟩ =
      (u.rx p).tx p (.ptp p 9 (some (u.rxStamp p)) c false (u.ptpHead p 9 seq)) := by
  unfold State.ptpMessage State.ptpPort State.ptpDomain
  simp only [hup, hon, hm, hprofile, decide_true, Bool.and_self, and_self, if_true, Bool.not_true, Bool.false_eq_true, if_false]

theorem State.ptpSend_announce {u : State} {p : Nat} (hup : (u.eth p).up = true) (hon : u.ptpOn p = true) (hm : (u.eth p).ptpState = 6)
    (hdue : natAt (u.eth p).sent 0 + logSeconds (u.int 16 Obj.ptpLogAnnounce) ≤ u.clk) :
    u.ptpSend p .announce = (u.modEth p (fun y => { y with
      sent := y.sent.set 0 u.clk, ptpSeqs := y.ptpSeqs.set 0 ((natAt (u.eth p).ptpSeqs 0 + 1) % 65536) })).tx p
        (.ptp p 11 none 0 false (u.ptpHead p 11 (natAt (u.eth p).ptpSeqs 0))) := by
  unfold State.ptpSend
  exact if_pos ⟨hup, hon, by unfold State.ptpSends; exact decide_eq_true hm, hdue⟩

theorem State.delayReq_answered {u t : State} {p : Nat} {m : Emission} (h : Settled ((u.rx p).tx p m) t) (hm : m.isEvent = false)
    (hup : (u.eth p).up = true) : t.sends p m := h.sends hm (State.tx_sent (s := u.rx p) hup)

theorem State.announce_sent {u t : State} {p : Nat} {m : Emission} {f : Eth → Eth}
    (h : Settled ((u.modEth p f).tx p m) t) (hf : ∀ x, (f x).up = x.up) (hm : m.isEvent = false) (hup : (u.eth p).up = true) : t.sends p m := by
  refine h.sends hm (State.tx_sent ?_)
  rw [State.eth_modEth_same (State.eth_lt_of_up hup), hf]
  exact hup

theorem State.announceTimeout_all {u t : State} {p : Nat} (h : Settled (u.announceTimeout p) t) (hm : (u.eth p).masters ≠ [])
    (hlate : ∀ m ∈ (u.eth p).masters, m.at_ + u.num Obj.ptpAnnounceTimeout * logSeconds (u.int 16 Obj.ptpLogAnnounce) ≤ u.clk) :
    (t.eth p).masters = [] ∧ (t.eth p).announced = none := by
  have hlen : p < u.eths.length := by
    refine Classical.byContradiction fun hlt => ?_
    have hreset : u.eth p = Eth.reset := getD_of_length_le _ _ (Nat.not_lt.mp hlt)
    exact hm (by rw [hreset]; rfl)
  have hany : (u.eth p).masters.any (fun m => decide (m.at_ + u.num Obj.ptpAnnounceTimeout * logSeconds (u.int 16 Obj.ptpLogAnnounce) ≤ u.clk))
      = true := by
    obtain ⟨m, hmem⟩ := List.exists_mem_of_ne_nil _ hm
    exact List.any_eq_true.mpr ⟨m, hmem, decide_eq_true (hlate m hmem)⟩
  unfold State.announceTimeout at h
  dsimp only at h
  rw [if_pos hany] at h
  have hmasters : (t.eth p).masters = [] := by
    rw [((Linked.bmca _).trans (Linked.of_settled h)).masters, State.eth_modEth_same hlen]
    exact List.filter_eq_nil_iff.mpr (fun m hmem => by simp [hlate m hmem])
  exact ⟨hmasters, Eth.announced_none hmasters⟩

/-- Settles O54. -/
theorem timeIsSteered : Obligations.TimeIsSteered := by
  refine ⟨fun dt p seq origin correction s => ⟨fun hp hnet hup hon hs => ⟨fun hq ho => ?_, fun hq ho hm => ?_, fun hq ho hm => ?_,
    fun hq hsince => ?_, ?_⟩, fun hruns h1 h3 hdue => ?_, fun at_ hruns harmed hdue => ?_⟩,
    fun dt p s => ⟨fun hnet hup hon => ⟨fun identity rank utc => ?_, fun time c two seq => ?_, fun k time c two seq transport ht => ?_,
      fun hm hprofile time c two seq => ?_, fun hm hdue => ?_⟩, fun hruns hm hlate => ?_⟩⟩
  · exact State.run_completes (exec_sync s dt p origin _) (by rw [hnet, hup]; rfl)
      (fun t h _ _ => State.syncFrame_accepted h hp hon hs hq ho)
  · exact State.run_completes (exec_sync s dt p origin _) (by rw [hnet, hup]; rfl)
      (fun t h _ _ => State.syncFrame_stepped h hp hon hs hq ho hm)
  · exact State.run_completes (exec_sync s dt p origin _) (by rw [hnet, hup]; rfl)
      (fun t h _ _ => State.syncFrame_refused h hp hon hs hq ho hm hnet)
  · exact State.run_completes (exec_sync s dt p origin _) (by rw [hnet, hup]; rfl)
      (fun t h _ _ => State.syncFrame_reported h hp hon hs hq hsince)
  · exact State.run_completes (exec_sync s dt p origin _) (by rw [hnet, hup]; rfl)
      (fun t h _ _ => State.syncFrame_twoStep h hup hon hs)
  · exact State.run_completes (exec_syncTimeout s dt) hruns (fun t h _ _ => h.servo.trans (State.syncTimeout_due h1 h3 hdue))
  · exact (State.run_settled (exec_stepWithdraw s dt) hruns (State.stepWithdraw_due harmed hdue)).imp (fun t h => h.servo)
  · exact State.run_completes (exec_announce s dt p _ rank utc) (by rw [hnet, hup]; rfl)
      (fun t h _ _ => State.announceFrame_taken h hup hon)
  · exact State.run_settled (exec_ptpMessage s dt p _) (by rw [hnet, hup]; rfl) (State.ptpMessage_other hup hon)
  · exact State.run_settled (exec_ptpMessage s dt p _) (by rw [hnet, hup]; rfl) (State.ptpMessage_transport ht)
  · exact (State.run_settled (exec_ptpMessage s dt p ⟨.delayReq, time, ⟨c, two, _, _, seq⟩⟩) (by rw [hnet, hup]; rfl)
      (State.ptpMessage_delayReq hup hon hm hprofile)).imp (fun t h => ⟨h, State.delayReq_answered h rfl hup⟩)
  · exact (State.run_settled (exec_ptpSend s dt p .announce) (by rw [hnet, hup]; rfl)
      (State.ptpSend_announce hup hon hm hdue)).imp (fun t h => ⟨h, State.announce_sent h (fun _ => rfl) rfl hup⟩)
  · exact State.run_completes (exec_announceTimeout s dt p) hruns (fun t h _ _ => State.announceTimeout_all h hm hlate)

end Sys2Proof.Machine
end

section
/-! PROOFS. Keys, lamps and camera power (O55). -/

namespace Sys2Proof.Machine

theorem Settled.mode {a t : State} (h : Settled a t) : t.ctl.mode = a.ctl.mode := (congrArg (fun s : State => s.ctl.mode) h.same :)

/-! ## Bits -/

theorem bitOf_setBit (m k : Nat) : bitOf (setBit m k) k = true := by
  simp [bitOf, setBit, Nat.testBit_or, Nat.testBit_two_pow_self]

/-- The bits of a number less its lowest bit. -/
theorem testBit_pred_of_odd {q : Nat} (h : q.testBit 0 = true) (i : Nat) : (q - 1).testBit i = (q.testBit i && decide (i ≠ 0)) := by
  have hodd : q % 2 = 1 := by simpa using h
  cases i with
  | zero =>
    have heven : (q - 1) % 2 = 0 := by omega
    simp [Nat.testBit_zero, heven]
  | succ i =>
    have hhalf : (q - 1) / 2 = q / 2 := by omega
    simp [Nat.testBit_succ, hhalf]

theorem bitOf_clearBit (m k j : Nat) : bitOf (clearBit m k) j = (bitOf m j && decide (j ≠ k)) := by
  unfold bitOf clearBit
  split
  next h =>
    have hr : m % 2 ^ k < 2 ^ k := Nat.mod_lt _ (Nat.two_pow_pos k)
    have hq : (m / 2 ^ k).testBit 0 = true := by rw [Nat.testBit_div_two_pow, Nat.zero_add]; exact h
    have hsplit : m = 2 ^ k * (m / 2 ^ k) + m % 2 ^ k := (Nat.div_add_mod m (2 ^ k)).symm
    have hpos : 0 < m / 2 ^ k := Nat.pos_of_ne_zero (fun h0 => by rw [h0] at hq; simp at hq)
    have hless : m - 2 ^ k = 2 ^ k * (m / 2 ^ k - 1) + m % 2 ^ k := by
      have hmul : 2 ^ k * (m / 2 ^ k) = 2 ^ k * (m / 2 ^ k - 1) + 2 ^ k := by
        conv => lhs; rw [← Nat.succ_pred_eq_of_pos hpos, Nat.mul_succ]
        rfl
      omega
    conv => rhs; rw [hsplit]
    rw [hless, Nat.testBit_two_pow_mul_add _ hr, Nat.testBit_two_pow_mul_add _ hr]
    split
    next hj => simp [Nat.ne_of_lt hj]
    next hj =>
      rw [testBit_pred_of_odd hq]
      congr 1
      exact decide_eq_decide.mpr (by omega)
  next h =>
    by_cases hj : j = k
    · subst hj
      simp [h]
    · simp [hj]

/-! ## Keys -/

theorem Settled.keys {a t : State} (h : Settled a t) : t.pins.keys = a.pins.keys := (congrArg (fun s : State => s.pins.keys) h.same :)

theorem operating_ne_standby {m : Mode} (h : m.operating = true) : m ≠ .standby := (operating_alerts h).2

theorem State.keySeen_operating {u : State} {k : Nat} (h : u.ctl.mode.operating = true) : u.keySeen k = u.keyPress k :=
  if_neg (operating_ne_standby h)

theorem keyPresses_ne_lastWake (k : Nat) : Obj.keyPresses k ≠ Obj.pwLastWake := by
  unfold Obj.keyPresses Obj.pwLastWake objKey
  omega

theorem State.raise_num (s : State) (east : Bool) (source data key : Nat) : (s.raise east source data).num key = s.num key := by
  unfold State.raise State.raiseAt
  split <;> rfl

theorem State.keyPress_settled {u t : State} {k : Nat} (h : Settled (u.keyPress k) t) (hop : u.ctl.mode.operating = true) (hk : k < 8)
    (hon : bitOf (u.num Obj.keyKeyEnable) k = true) (hup : bitOf u.pins.keys k = false) :
    bitOf t.pins.keys k = true ∧ t.num (Obj.keyPresses k) = satAdd 32 (u.num (Obj.keyPresses k)) 1 := by
  unfold State.keyPress at h
  rw [if_pos ⟨hop, hon, by rw [hup]; rfl⟩] at h
  dsimp only at h
  generalize hz : u.modPins (fun p => { p with
      keys := setBit p.keys k, silentKeys := clearBit p.silentKeys k, longDone := clearBit p.longDone k,
      pressedAt := setAt p.pressedAt k u.clk }) = z at h
  have hwoken := Woken.panelWake ((z.bump (Obj.keyPresses k)).raise false (0x080 + k) 0) .key
  refine ⟨?_, ?_⟩
  · rw [h.keys, hwoken.pins, pins_raise, ← hz]
    exact bitOf_setBit _ _
  · rw [h.num (ownStatus_keyPresses k hk), hwoken.num (keyPresses_ne_lastWake k), State.raise_num, State.num_bump_same, ← hz]
    rfl

theorem State.keyRelease_settled {u t : State} {k : Nat} (h : Settled (u.keyRelease k) t) (hop : u.ctl.mode.operating = true) (j : Nat) :
    bitOf t.pins.keys j = (bitOf u.pins.keys j && decide (j ≠ k)) := by
  unfold State.keyRelease at h
  rw [if_pos hop] at h
  rw [h.keys]
  exact bitOf_clearBit _ _ _

theorem State.longPress_due {u : State} {k : Nat} (hop : u.ctl.mode.operating = true) (hdown : bitOf u.pins.keys k = true)
    (hsilent : bitOf u.pins.silentKeys k = false) (hdone : bitOf u.pins.longDone k = false)
    (hdue : natAt u.pins.pressedAt k + u.num Obj.keyLongPress * 1000000 ≤ u.clk) :
    u.longPress k = (((u.modPins (fun p => { p with longDone := setBit p.longDone k })).orFlags Obj.keyLongFlags (2 ^ k)).bump
      (Obj.keyLongCount k)) :=
  if_pos ⟨hop, hdown, by rw [hsilent]; rfl, by rw [hdone]; rfl, hdue⟩

theorem State.longPress_done {u : State} {k : Nat} (hdone : bitOf u.pins.longDone k = true) : u.longPress k = u :=
  if_neg (fun h => by simp [hdone] at h)

/-! ## The pins through the settling -/

/-- What the settling does before its review of the lamps leaves the pins. -/
structure SamePins (a b : State) : Prop where
  pins : b.pins = a.pins

namespace SamePins

theorem refl (a : State) : SamePins a a := ⟨rfl⟩
theorem trans {a b c : State} (h : SamePins a b) (k : SamePins b c) : SamePins a c := ⟨k.pins.trans h.pins⟩
theorem of_noted {a b : State} (h : Noted a b) : SamePins a b := ⟨h.pins⟩
theorem ite {p : Prop} [Decidable p] {s a b : State} (ha : SamePins s a) (hb : SamePins s b) : SamePins s (if p then a else b) := by
  split <;> assumption
theorem fold {α : Type} {f : State → α → State} (h : ∀ s x, SamePins s (f s x)) (l : List α) (s : State) : SamePins s (l.foldl f s) := by
  induction l generalizing s with
  | nil => exact refl s
  | cons x r ih => exact (h s x).trans (ih (f s x))

theorem modView (s : State) (v : Nat) (f : View → View) : SamePins s (s.modView v f) := ⟨rfl⟩
theorem bump (s : State) (key : Nat) : SamePins s (s.bump key) := ⟨rfl⟩
theorem putNum (s : State) (key n : Nat) : SamePins s (s.putNum key n) := ⟨rfl⟩

theorem giveUnit (s : State) (t b : Nat) : SamePins s (s.giveUnit t b) := by
  unfold State.giveUnit
  split
  · split
    · exact refl s
    · split
      · exact ⟨rfl⟩
      · exact refl s
  · exact refl s

theorem giveUnits (s : State) : SamePins s s.giveUnits :=
  ite (refl s) (fold (fun a t => fold (fun c b => giveUnit c t b) _ a) _ s)

theorem lapse (s : State) (bit : Nat) : SamePins s (s.lapse bit) := of_noted (Noted.lapse s bit)

theorem lapseEvent (s : State) (bit : Nat) : SamePins s (s.lapseEvent bit) := by
  unfold State.lapseEvent
  exact trans (ite (refl s) (lapse s bit)) ⟨rfl⟩

theorem enqueueComet (s : State) (v : Nat) (c : Comet) : SamePins s (s.enqueueComet v c) := by
  have hwaits : ∀ z : State, SamePins z z.markWaits := fun z => fold (fun a v => ite (modView a v _) (refl a)) _ z
  refine ite ?_ ((modView s v _).trans (hwaits _))
  exact (of_noted (((Noted.bump s _).trans (Noted.orFlags _ _ _)).trans (Noted.alert _ _))).trans (lapseEvent _ _)

theorem endBlob (s : State) (v : Nat) (b : Blob) : SamePins s (s.endBlob v b) := by
  have hlink : ∀ (z : State) (l n m i j k : Nat) (d : Bytes), SamePins z (z.sendLink l n m i j k d) :=
    fun z _ _ _ _ _ _ _ => ite ⟨rfl⟩ (refl z)
  refine ite (fold (fun a _ => hlink a _ _ _ _ _ _ _) _ s) (ite (bump s _) ?_)
  exact (of_noted ((Noted.bump s _).trans (Noted.bumpIf _ _ _))).trans (enqueueComet _ _ _)

theorem forceClose (s : State) (v flags : Nat) (which : Blob → Bool) : SamePins s (s.forceClose v flags which) :=
  (modView s v _).trans (fold (fun a _ => (bump a _).trans (endBlob _ v _)) _ _)

theorem seamLost (s : State) (v : Nat) : SamePins s (s.seamLost v) := by
  have hclose : ∀ z : State, SamePins z (z.closeFinished v) := fun z => (modView z v _).trans (fold (fun a _ => endBlob a v _) _ _)
  exact ((forceClose s v _ _).trans (putNum _ _ _)).trans ((modView _ v _).trans (hclose _))

theorem closePortless (s : State) (v : Nat) : SamePins s (s.closePortless v) := by
  unfold State.closePortless State.segEpochOf
  exact ite ((ite ((forceClose s v _ _).trans (modView _ v _)) (refl s)).trans (modView _ v _)) (refl s)

theorem seamsReviewed (s : State) : SamePins s s.seamsReviewed :=
  fold (fun a v => (closePortless a v).trans (ite (seamLost _ v) (refl _))) _ s

theorem reviewViews (s : State) : SamePins s s.reviewViews :=
  fold (fun a v => ite ((modView a v _).trans (of_noted (Noted.alert _ _))) (modView a v _)) _ s

theorem reviewGuarantee (s : State) : SamePins s s.reviewGuarantee := by
  unfold State.reviewGuarantee
  exact (fold (fun a b => ite (lapse a b) (refl a)) _ s).trans ⟨rfl⟩

theorem powerLanes (s : State) : SamePins s s.powerLanes := fold (f := State.powerLane) (fun _ _ => ⟨rfl⟩) _ s

theorem parkFor (s : State) (t : Power) : SamePins s (s.parkFor t) := by
  cases t <;> exact ⟨rfl⟩

theorem enterPower (s : State) (t : Power) : SamePins s (s.enterPower t) := by
  cases t with
  | doze => exact trans (b := (s.modPower _).bump Obj.pwDozeEntries) ⟨rfl⟩ (powerLanes _)
  | active => exact refl s
  | deep => exact ⟨rfl⟩
  | light => exact refl s

theorem retestStep (s : State) : SamePins s s.retestStep := by
  have hdefer : ∀ z : State, SamePins z z.dmaDefer := fun z => ite ⟨rfl⟩ (refl z)
  have hdown : SamePins s s.stepDown := by
    unfold State.stepDown
    split
    · exact ⟨rfl⟩
    · refine ite (refl s) (ite (ite (parkFor s _) ?_) ((parkFor s _).trans (enterPower _ _)))
      exact (((bump s _).trans (hdefer _)).trans (parkFor _ _)).trans ⟨rfl⟩
  exact ite hdown (refl s)

end SamePins

/-- The settling ends in the review of the lamps and what leaves; what comes before leaves the pins. -/
theorem State.settle_lamps (s before : State) : ∃ z : State, Settled s z ∧ SamePins s z ∧
    (s.settle before).pins = (if z.power.powered then z.lampReview else z).pins := by
  have h1 : Settled s (if s.unitsRun then s.giveUnits.seamsReviewed else s) ∧
      SamePins s (if s.unitsRun then s.giveUnits.seamsReviewed else s) :=
    ⟨Settled.ite ((Settled.giveUnits s).trans (Settled.seamsReviewed _)) (Settled.refl s),
      .ite ((SamePins.giveUnits s).trans (.seamsReviewed _)) (.refl s)⟩
  unfold State.settle
  dsimp only
  generalize (if s.unitsRun then s.giveUnits.seamsReviewed else s) = z at h1
  refine ⟨_, h1.1.trans (b := z) ?_, h1.2.trans (b := z) ?_, (Sent.drained _).pins⟩
  · exact Settled.ite (((((Settled.reviewViews _).trans (Settled.reviewCapacity _ _)).trans (Settled.reviewGuarantee _)).trans
      (Settled.retestStep _)).trans (Settled.pruneSets _)) (Settled.refl _)
  · exact .ite (((((SamePins.reviewViews _).trans (.of_noted (Noted.reviewCapacity _ _))).trans (.reviewGuarantee _)).trans
      (.retestStep _)).trans ⟨rfl⟩) (.refl _)


/-! ## Lamps -/

theorem State.lampBlink_due {u : State} {k : Nat} (hop : u.ctl.mode.operating = true) (hk : k < 4)
    (hm : u.num (Obj.lampMode k) = 2 ∨ u.num (Obj.lampMode k) = 3) (hdue : natAt u.pins.lampClk k + u.lampHalf k ≤ u.clk) :
    u.lampBlink k = (u.modPins (fun p => { p with
      lampClk := setAt p.lampClk k (natAt p.lampClk k + u.lampHalf k),
      lampOn := setAt p.lampOn k (!u.pins.lampOn.getD k false) })).emit (.lamp k (!u.pins.lampOn.getD k false)) := by
  unfold State.lampBlink
  dsimp only
  rw [if_pos ⟨hop, hk, hm, hdue⟩]
  unfold State.lampDrive
  rw [if_neg (by
    show ¬ u.pins.lampOn.getD k false = !u.pins.lampOn.getD k false
    cases u.pins.lampOn.getD k false <;> decide)]
  rfl

theorem ownStatus_lampMode : ∀ k < 4, ownStatus (Obj.lampMode k) = false := by decide +kernel

/-- A blinking lamp keeps the level its pattern has (R532). -/
theorem State.lampWants_blinking {z : State} {k : Nat} (hop : z.ctl.mode.operating = true)
    (hm : z.num (Obj.lampMode k) = 2 ∨ z.num (Obj.lampMode k) = 3) : z.lampWants k = z.pins.lampOn.getD k false := by
  obtain ⟨hhalt, hstandby⟩ := operating_alerts hop
  have hboot : z.ctl.mode ≠ .boot := by
    intro hb
    rw [hb] at hop
    exact Bool.false_ne_true hop
  unfold State.lampWants
  dsimp only
  rw [if_neg (by simp [hboot, hstandby]), if_neg hhalt, if_neg (by omega), if_neg (by omega), if_neg (by omega)]

/-- The settling leaves a blinking lamp at its level (R532). -/
theorem State.settle_blinking {a before : State} {k : Nat} (hop : a.ctl.mode.operating = true) (hk : k < 4)
    (hm : a.num (Obj.lampMode k) = 2 ∨ a.num (Obj.lampMode k) = 3) :
    (a.settle before).pins.lampOn.getD k false = a.pins.lampOn.getD k false := by
  obtain ⟨z, hz, hpins, hreview⟩ := a.settle_lamps before
  rw [hreview, ← hpins.pins]
  split
  · have hnum := hz.num (ownStatus_lampMode k hk)
    rw [State.lampOn_lampReview z hk, State.lampWants_blinking (by rw [hz.mode]; exact hop) (by rw [hnum]; exact hm)]
  · rfl

/-- A command that ends in an operating mode leaves a blinking lamp as its effect does. -/
theorem State.run_blinking {i : Instr} {s a : State} {dt k : Nat} {admits : State → Bool} {effect : State → State}
    (hi : exec i s = s.run dt admits effect) (ha : admits (s.advance dt) = true) (he : effect (s.advance dt) = a)
    (hop : a.ctl.mode.operating = true) (hk : k < 4) (hm : a.num (Obj.lampMode k) = 2 ∨ a.num (Obj.lampMode k) = 3) :
    Completes i s (fun t => Settled a t ∧ t.pins.lampOn.getD k false = a.pins.lampOn.getD k false) := by
  refine ⟨_, hi, ?_⟩
  simp only [ha, if_true, he]
  generalize s.advance dt = b
  exact ⟨(Settled.settle _ _).from_retimed,
    State.settle_blinking (a := { a with clk := s.clk + dt, pending := s.pending }) hop hk hm⟩

/-- What LAMP_BLINK leaves, at the level `on` (R532). -/
theorem State.lampBlink_level {u a : State} {k : Nat} {on : Bool} (ha : u.lampBlink k = a) (hop : u.ctl.mode.operating = true) (hk : k < 4)
    (hlen : k < u.pins.lampOn.length) (hm : u.num (Obj.lampMode k) = 2 ∨ u.num (Obj.lampMode k) = 3)
    (hdue : natAt u.pins.lampClk k + u.lampHalf k ≤ u.clk) (hon : (!u.pins.lampOn.getD k false) = on) :
    a.pins.lampOn.getD k false = on ∧ Emission.lamp k on ∈ a.out ∧ a.ctl.mode = u.ctl.mode ∧ a.num (Obj.lampMode k) = u.num (Obj.lampMode k) := by
  rw [State.lampBlink_due hop hk hm hdue, hon] at ha
  subst ha
  refine ⟨?_, List.mem_append_right _ (List.mem_singleton_self _), rfl, rfl⟩
  show (setAt u.pins.lampOn k on).getD k false = on
  rw [setAt, getD_of_lt _ _ (by simpa using hlen), List.getElem_set_self]

/-- LAMP_BLINK completes with the lamp at its other level (R532). -/
theorem lampBlink_completes {s : State} {dt k : Nat} (hop : (s.advance dt).ctl.mode.operating = true) (hk : k < 4)
    (hlen : k < (s.advance dt).pins.lampOn.length)
    (hm : (s.advance dt).num (Obj.lampMode k) = 2 ∨ (s.advance dt).num (Obj.lampMode k) = 3)
    (hdue : natAt (s.advance dt).pins.lampClk k + (s.advance dt).lampHalf k ≤ (s.advance dt).clk) :
    Completes (.lampBlink dt k) s (fun t => t.pins.lampOn.getD k false = !(s.advance dt).pins.lampOn.getD k false ∧
      Emission.lamp k (!(s.advance dt).pins.lampOn.getD k false) ∈ t.out) := by
  obtain ⟨hon, hout, hmode, hnum⟩ := State.lampBlink_level rfl hop hk hlen hm hdue rfl
  refine (State.run_blinking (exec_lampBlink s dt k) rfl rfl (by rw [hmode]; exact hop) hk (by rw [hnum]; exact hm)).imp
    (fun t h => ⟨h.2.trans hon, h.1.mem_out hout⟩)

/-! ## Camera power -/

theorem State.camPower_modCam_same {s : State} {k : Nat} (hk : k < s.pins.camera.length) (f : CamPower → CamPower) :
    (s.modCam k f).camPower k = f (s.camPower k) := by
  unfold State.modCam State.modPins State.camPower
  dsimp only
  rw [getD_of_lt _ _ (by simpa using hk), getD_of_lt _ _ hk, List.getElem_modify, if_pos rfl]

theorem State.camPower_modCam_other {s : State} {k n : Nat} (h : n ≠ k) (f : CamPower → CamPower) :
    (s.modCam k f).camPower n = s.camPower n := by
  unfold State.modCam State.modPins State.camPower
  dsimp only
  simp only [List.getD_eq_getElem?_getD, List.getElem?_modify, if_neg (Ne.symm h)]
  simp

theorem State.camera_lt {s : State} {k : Nat} (h : s.camPower k ≠ CamPower.reset) : k < s.pins.camera.length := by
  refine Classical.byContradiction fun hlt => ?_
  exact h (getD_of_length_le _ _ (Nat.not_lt.mp hlt))

theorem Settled.camPower {a t : State} (h : Settled a t) (k : Nat) : t.camPower k = a.camPower k :=
  (congrArg (fun s : State => s.camPower k) h.same :)

/-- What an unplug leaves: the pins, the mode, and every object that is neither an alert's nor its own. -/
structure Unplugged (p : Nat) (a b : State) : Prop where
  pins : b.pins = a.pins
  mode : b.ctl.mode = a.ctl.mode
  num : ∀ key, ownStatus key = false → key ≠ Obj.portLastUnplug p → key ≠ Obj.portPlugEvents p → b.num key = a.num key

theorem State.dropOwnRegs_rest (s : State) (p : Nat) : (s.dropOwnRegs p).pins = s.pins ∧ (s.dropOwnRegs p).ctl = s.ctl ∧
    (s.dropOwnRegs p).dict = s.dict := by
  unfold State.dropOwnRegs State.sendReg
  split
  · exact ⟨rfl, rfl, rfl⟩
  · split <;> exact ⟨rfl, rfl, rfl⟩

theorem State.unplug_unplugged (s : State) (p : Nat) : Unplugged p s (s.unplug p) := by
  have halert : ∀ y : State, Settled y ((y.alert Alert.camera).raise (decide (6 ≤ p)) (0x030 + p) 0) :=
    fun y => (Settled.alert y Alert.camera (by decide)).trans (Settled.raise _ _ _ _)
  have hpins : ∀ y : State, ((y.alert Alert.camera).raise (decide (6 ≤ p)) (0x030 + p) 0).pins = y.pins :=
    fun y => ((Noted.alert y Alert.camera).trans (Noted.raise _ _ _ _)).pins
  unfold State.unplug
  dsimp only
  generalize hz : (s.modPort p (fun x =>
    { x with state := 1, stage := 0, unplugged := true, rejoin := none, lanesInUse := [], carrying := [],
             badProtocol := false, degraded := false })).dropOwnRegs p = z
  have hrest : z.pins = s.pins ∧ z.ctl = s.ctl ∧ z.dict = s.dict := by
    rw [← hz]
    exact State.dropOwnRegs_rest _ p
  obtain ⟨hzpins, hzctl, hzdict⟩ := hrest
  refine ⟨(hpins _).trans hzpins, (halert _).mode.trans (congrArg Control.mode hzctl), fun key hkey h1 h2 => ?_⟩
  rw [(halert _).num hkey, State.num_bump_other _ h2, State.num_putNum_other _ _ h1]
  unfold State.num State.val State.valIn State.dfltOf
  rw [hzdict, hzctl, hzpins]

theorem ownStatus_camFaults : ∀ k < 12, ownStatus (Obj.camFaults k) = false := by decide +kernel

theorem camFaults_ne_unplug (k p : Nat) : Obj.camFaults k ≠ Obj.portLastUnplug p ∧
    Obj.camFaults k ≠ Obj.portPlugEvents p := by
  unfold Obj.camFaults Obj.portLastUnplug Obj.portPlugEvents objKey
  omega

theorem Unplugged.ite {p : Nat} {c : Prop} [Decidable c] {a b : State} (h : Unplugged p a b) : Unplugged p a (if c then a else b) := by
  split
  · exact ⟨rfl, rfl, fun _ _ _ _ => rfl⟩
  · exact h

/-- The number of a run of faults that a fault now has (R534). -/
def State.faultRun (u : State) (k : Nat) : Nat :=
  if (u.camPower k).retried = true ∧ u.clk ≤ (u.camPower k).enabledAt + 1000000000 then (u.camPower k).failed + 1 else 0

/-- A fault's count and the enable lowered, before what the number of faults asks for (R534). -/
theorem State.camLower_fault {u z : State} {k state : Nat} (hz : Unplugged k u z) (hk : k < 12) (he : (u.camPower k).enable = true)
    (f : CamPower → CamPower) :
    let a := ((z.bump (Obj.camFaults k)).camLower k state).modCam k f
    a.camPower k = f { u.camPower k with enable := false, state := state } ∧ a.ctl.mode = u.ctl.mode ∧
      Emission.camPower k false ∈ a.out ∧ a.num (Obj.camFaults k) = satAdd 32 (u.num (Obj.camFaults k)) 1 := by
  have hcam : z.camPower k = u.camPower k := by
    unfold State.camPower
    rw [hz.pins]
  have hne : z.camPower k ≠ CamPower.reset := by
    intro hreset
    rw [← hcam, hreset] at he
    exact Bool.false_ne_true he
  have hlen := State.camera_lt hne
  have hnum : z.num (Obj.camFaults k) = u.num (Obj.camFaults k) :=
    hz.num _ (ownStatus_camFaults k hk) (camFaults_ne_unplug k k).1 (camFaults_ne_unplug k k).2
  have hlower : (z.bump (Obj.camFaults k)).camLower k state =
      ((z.bump (Obj.camFaults k)).modCam k (fun x => { x with enable := false, state := state })).emit (.camPower k false) := by
    unfold State.camLower
    exact if_pos (by rw [show (z.bump (Obj.camFaults k)).camPower k = z.camPower k from rfl, hcam]; exact he)
  dsimp only
  rw [hlower]
  refine ⟨?_, hz.mode, List.mem_append_right _ (List.mem_singleton_self _), ?_⟩
  · rw [State.camPower_modCam_same (by simpa [State.modCam, State.modPins, State.bump, State.bumpBy] using hlen)]
    refine congrArg f ?_
    rw [← hcam]
    exact State.camPower_modCam_same (s := z.bump (Obj.camFaults k)) hlen _
  · show (z.bump (Obj.camFaults k)).num (Obj.camFaults k) = _
    rw [State.num_bump_same, hnum]

/-- CAMPWR_FLT while the enable is high (R534). -/
theorem State.camFault_settled {u t : State} {k : Nat} (h : Settled (u.camFault k) t) (hop : u.ctl.mode.operating = true) (hk : k < 12)
    (he : (u.camPower k).enable = true) :
    (t.camPower k).enable = false ∧ (t.camPower k).failed = u.faultRun k ∧ Emission.camPower k false ∈ t.out ∧
      t.num (Obj.camFaults k) = satAdd 32 (u.num (Obj.camFaults k)) 1 ∧
      (u.faultRun k < u.num Obj.cpwPwrRetries → (t.camPower k).state = 2 ∧
        (t.camPower k).retryAt = some (u.clk + u.num Obj.cpwPwrRetry * 1000000)) ∧
      (u.num Obj.cpwPwrRetries ≤ u.faultRun k → (t.camPower k).state = 3 ∧ (t.camPower k).retryAt = none ∧
        bitOf (t.num Obj.alAlerts) Alert.camera = true) := by
  have hunplugged : ∀ c : Prop, [Decidable c] → Unplugged k u (if c then u else u.unplug k) := fun c _ => (State.unplug_unplugged u k).ite
  obtain ⟨hhalt, hstandby⟩ := operating_alerts hop
  unfold State.camFault at h
  rw [if_pos ⟨hop, he⟩] at h
  dsimp only at h
  specialize hunplugged ((u.port k).state = 0 ∨ (u.port k).state = 1 ∨ (u.port k).state = 8)
  generalize (if (u.port k).state = 0 ∨ (u.port k).state = 1 ∨ (u.port k).state = 8 then u else u.unplug k) = z at h hunplugged
  have hrun : (if (u.camPower k).retried = true ∧ u.clk ≤ (u.camPower k).enabledAt + 1000000000 then (u.camPower k).failed + 1 else 0) =
    u.faultRun k := rfl
  rw [hrun] at h
  by_cases hlatch : u.num Obj.cpwPwrRetries ≤ u.faultRun k
  · rw [if_pos hlatch] at h
    obtain ⟨hcam, hmode, hout, hnum⟩ := State.camLower_fault (state := 3) hunplugged hk he (fun z => { z with failed := u.faultRun k, retryAt := none })
    have hall := (Settled.alert _ Alert.camera (by decide)).trans h
    rw [hall.camPower k, hcam, hall.num (ownStatus_camFaults k hk), hnum]
    refine ⟨rfl, rfl, hall.mem_out hout, rfl, fun hless => absurd hlatch (Nat.not_le.mpr hless), fun _ => ⟨rfl, rfl, ?_⟩⟩
    exact h.alerts _ (State.alert_bit (by decide) (hmode.symm ▸ hhalt) (hmode.symm ▸ hstandby))
  · rw [if_neg hlatch] at h
    obtain ⟨hcam, -, hout, hnum⟩ := State.camLower_fault (state := 2) hunplugged hk he
      (fun z => { z with failed := u.faultRun k, retryAt := some (u.clk + u.num Obj.cpwPwrRetry * 1000000) })
    rw [h.camPower k, hcam, h.num (ownStatus_camFaults k hk), hnum]
    exact ⟨rfl, rfl, h.mem_out hout, rfl, fun _ => ⟨rfl, rfl⟩, fun hless => absurd hless hlatch⟩

theorem State.camRaise_raised {u : State} {k : Nat} {retried : Bool} (hlen : k < u.pins.camera.length) :
    (u.camRaise k retried).camPower k =
      { u.camPower k with enable := true, state := 1, retryAt := none, enabledAt := u.clk, retried := retried } ∧
    Emission.camPower k true ∈ (u.camRaise k retried).out :=
  ⟨State.camPower_modCam_same hlen _, List.mem_append_right _ (List.mem_singleton_self _)⟩

theorem State.pwrRetry_due {u : State} {k at_ : Nat} (hop : u.ctl.mode.operating = true) (hat : (u.camPower k).retryAt = some at_)
    (hdue : at_ ≤ u.clk) (hs : (u.camPower k).state = 2) : u.pwrRetry k = u.camRaise k true := by
  unfold State.pwrRetry
  rw [hat]
  exact if_pos ⟨hop, hdue, hs⟩

theorem State.pwrRetry_settled {u t : State} {k at_ : Nat} (h : Settled (u.pwrRetry k) t) (hop : u.ctl.mode.operating = true)
    (hat : (u.camPower k).retryAt = some at_) (hdue : at_ ≤ u.clk) (hs : (u.camPower k).state = 2) :
    t.camPower k = { u.camPower k with enable := true, state := 1, retryAt := none, enabledAt := u.clk, retried := true } ∧
      Emission.camPower k true ∈ t.out := by
  rw [State.pwrRetry_due hop hat hdue hs] at h
  have hne : u.camPower k ≠ CamPower.reset := by
    intro hreset
    rw [hreset] at hs
    exact absurd hs (by decide)
  obtain ⟨hcam, hout⟩ := State.camRaise_raised (retried := true) (State.camera_lt hne)
  exact ⟨(h.camPower k).trans hcam, h.mem_out hout⟩

theorem State.pwrStagger_due {u : State} {k at_ q : Nat} (hop : u.ctl.mode.operating = true) (hnext : u.pins.staggerNext = some (k, at_))
    (hdue : at_ ≤ u.clk) (hq : u.nextPowered k = some q) (hs : (u.camPower q).state = 0) :
    u.pwrStagger = (u.camRaise q false).modPins (fun p => { p with staggerNext := some (q + 1, at_ + u.num Obj.cpwPwrStagger * 1000000) }) := by
  unfold State.pwrStagger
  rw [hnext]
  dsimp only
  rw [if_pos ⟨hop, hdue⟩]
  unfold State.camStagger
  rw [hq]
  dsimp only
  rw [if_pos hs]

theorem State.pwrStagger_settled {u t : State} {k at_ q : Nat} (h : Settled u.pwrStagger t) (hop : u.ctl.mode.operating = true)
    (hnext : u.pins.staggerNext = some (k, at_)) (hdue : at_ ≤ u.clk) (hq : u.nextPowered k = some q) (hs : (u.camPower q).state = 0)
    (hlen : q < u.pins.camera.length) :
    (t.camPower q).enable = true ∧ Emission.camPower q true ∈ t.out ∧
      t.pins.staggerNext = some (q + 1, at_ + u.num Obj.cpwPwrStagger * 1000000) ∧ ∀ n, n ≠ q → t.camPower n = u.camPower n := by
  rw [State.pwrStagger_due hop hnext hdue hq hs] at h
  obtain ⟨hcam, hout⟩ := State.camRaise_raised (retried := false) hlen
  refine ⟨?_, h.mem_out hout, (congrArg (fun s : State => s.pins.staggerNext) h.same :), fun n hn => ?_⟩
  · exact (congrArg CamPower.enable ((h.camPower q).trans hcam) :)
  · exact (h.camPower n).trans (State.camPower_modCam_other hn _)

/-! ## Images -/

theorem State.imageProgrammed_settled {u t : State} {k : Nat} {i : Image} (h : Settled (u.imageProgrammed k) t)
    (hi : u.ctl.images[k]? = some i) (hw : i.writing = true) : t.ctl.images[k]? = some { i with valid := true, writing := false } := by
  have himages : t.ctl.images = (u.imageProgrammed k).ctl.images := (congrArg (fun s : State => s.ctl.images) h.same :)
  rw [himages]
  show (u.ctl.images.modify k _)[k]? = _
  rw [List.getElem?_modify, hi]
  simp [hw]

/-- Settles O55. -/
theorem keysLampsAndCameraPower : Obligations.KeysLampsAndCameraPower := by
  refine ⟨fun dt k s hop => ⟨fun hk hon hup => ?_, fun hk => ?_, fun hk hdown hsilent hdone hdue => ?_, fun hk hdone => ?_,
    fun hk hlen hm hdue => ?_⟩, fun dt k s hop => ⟨fun hk he => ?_, fun at_ hk hat hdue hs => ?_,
    fun at_ q hnext hdue hq hs hlen => ?_, fun i hi hw => ?_⟩⟩
  · refine State.run_completes (exec_keyPress s dt k) (decide_eq_true hk) (fun t h _ _ => ?_)
    rw [State.keySeen_operating hop] at h
    exact State.keyPress_settled h hop hk hon hup
  · exact State.run_completes (exec_keyRelease s dt k) (decide_eq_true hk) (fun t h _ _ => State.keyRelease_settled h hop)
  · exact State.run_settled (exec_longPress s dt k) (decide_eq_true hk) (State.longPress_due hop hdown hsilent hdone hdue)
  · exact State.run_settled (exec_longPress s dt k) (decide_eq_true hk) (State.longPress_done hdone)
  · exact lampBlink_completes hop hk hlen hm hdue
  · refine State.run_completes (exec_campwrFlt s dt k) (decide_eq_true hk) (fun t h _ _ => ?_)
    have hfault := State.camFault_settled h hop hk he
    unfold State.faultRun at hfault
    exact hfault
  · exact State.run_completes (exec_pwrRetry s dt k) (decide_eq_true hk) (fun t h _ _ => State.pwrRetry_settled h hop hat hdue hs)
  · exact State.run_completes (exec_pwrStagger s dt) rfl (fun t h _ _ => State.pwrStagger_settled h hop hnext hdue hq hs hlen)
  · exact State.run_completes (exec_fwProgrammed s dt k) hop (fun t h _ _ => State.imageProgrammed_settled h hi hw)

end Sys2Proof.Machine
end

section
/-! PROOFS. Buses and outputs follow their pins (O48). -/

namespace Sys2Proof.Machine

/-! ## One bus, one output -/

theorem State.bus_modBus_same {s : State} {b : Nat} (hb : b < s.buses.length) (f : Bus → Bus) : (s.modBus b f).bus b = f (s.bus b) := by
  unfold State.modBus State.bus
  dsimp only
  rw [getD_of_lt _ _ (by simpa using hb), getD_of_lt _ _ hb, List.getElem_modify, if_pos rfl]

theorem State.bus_lt {s : State} {b : Nat} (h : (s.bus b).state ≠ 0) : b < s.buses.length := by
  refine Classical.byContradiction fun hlt => ?_
  have hreset : s.bus b = Bus.reset := getD_of_length_le _ _ (Nat.not_lt.mp hlt)
  exact h (by rw [hreset]; rfl)

theorem State.bus_modBus {α : Type} {g : Bus → α} {f : Bus → Bus} (h : ∀ x, g (f x) = g x) (s : State) (n b : Nat) :
    g ((s.modBus n f).bus b) = g (s.bus b) := by
  unfold State.modBus State.bus
  simp only [List.getD_eq_getElem?_getD, List.getElem?_modify]
  cases s.buses[b]? with
  | none => rfl
  | some x => by_cases hn : n = b <;> simp [hn, h]

theorem State.tout_modTout_same {s : State} {k : Nat} (hk : k < s.touts.length) (f : Tout → Tout) : (s.modTout k f).tout k = f (s.tout k) := by
  unfold State.modTout State.tout
  dsimp only
  rw [getD_of_lt _ _ (by simpa using hk), getD_of_lt _ _ hk, List.getElem_modify, if_pos rfl]

theorem State.tout_modTout_other {s : State} {k n : Nat} (h : n ≠ k) (f : Tout → Tout) : (s.modTout k f).tout n = s.tout n := by
  unfold State.modTout State.tout
  simp only [List.getD_eq_getElem?_getD, List.getElem?_modify, if_neg (Ne.symm h)]
  simp

theorem Settled.bus {a t : State} (h : Settled a t) (b : Nat) : t.bus b = a.bus b := (congrArg (fun s : State => s.bus b) h.same :)
theorem Settled.tout {a t : State} (h : Settled a t) (k : Nat) : t.tout k = a.tout k := (congrArg (fun s : State => s.tout k) h.same :)

theorem Settled.safeN {a t : State} (h : Settled a t) : t.pins.safeN = a.pins.safeN := (congrArg (fun s : State => s.pins.safeN) h.same :)

/-! ## Presence -/

/-- A board plugged in at an ABSENT bus (R367). -/
theorem State.vbPresent_settled {u t : State} {b : Nat} (h : Settled (u.vbPresent b) t) (hop : u.ctl.mode.operating = true)
    (hp : (u.bus b).present = false) (hs : (u.bus b).state = 1) :
    t.bus b = ({ u.bus b with present := true } : Bus).start u.clk ∧ bitOf (t.num Obj.alAlerts) Alert.valveBoard = true := by
  have hlen : b < u.buses.length := State.bus_lt (by omega)
  obtain ⟨hhalt, hstandby⟩ := operating_alerts hop
  unfold State.vbPresent at h
  dsimp only at h
  rw [if_neg (by simp [hp, hop]), if_pos hs] at h
  generalize hz : (u.modBus b (fun y => { y with present := true })).startBus b = z at h
  have hbus : z.bus b = ({ u.bus b with present := true } : Bus).start u.clk := by
    have hstart : ((u.modBus b (fun y => { y with present := true })).modBus b (fun y => y.start u.clk)).bus b =
        ({ u.bus b with present := true } : Bus).start u.clk := by
      rw [State.bus_modBus_same (by simpa [State.modBus] using hlen), State.bus_modBus_same hlen]
    rw [← hz]
    unfold State.startBus
    split <;> exact hstart
  have hmode : z.ctl.mode = u.ctl.mode := by
    rw [← hz]
    unfold State.startBus
    split <;> rfl
  refine ⟨?_, h.alerts _ (State.alert_bit (by decide) (by rw [hmode]; exact hhalt) (by rw [hmode]; exact hstandby))⟩
  rw [h.bus, (Settled.alert z Alert.valveBoard (by decide)).bus, hbus]

theorem ownStatus_vbPlugEvents : ∀ b < 4, ownStatus (Obj.vbPlugEvents b) = false := by decide +kernel

/-- A board pulled out of an UP bus (R367). -/
theorem State.vbAbsent_settled {u t : State} {b : Nat} (h : Settled (u.vbAbsent b) t) (hop : u.ctl.mode.operating = true) (hb : b < 4)
    (hp : (u.bus b).present = true) (hs : (u.bus b).state = 3) :
    t.bus b = ({ u.bus b with present := false } : Bus).stop 1 ∧
      t.num (Obj.vbPlugEvents b) = satAdd 32 (u.num (Obj.vbPlugEvents b)) 1 ∧ Emission.busSilent b ∈ t.out := by
  have hlen : b < u.buses.length := State.bus_lt (by omega)
  unfold State.vbAbsent at h
  dsimp only at h
  rw [if_neg (by simp [hp, hop]), if_pos (.inr hs)] at h
  generalize hz : (u.modBus b (fun y => { y with present := false })).modBus b (fun y => y.stop 1) = z at h
  have hbus : z.bus b = ({ u.bus b with present := false } : Bus).stop 1 := by
    rw [← hz, State.bus_modBus_same (by simpa [State.modBus] using hlen), State.bus_modBus_same hlen]
  have hnum : z.num (Obj.vbPlugEvents b) = u.num (Obj.vbPlugEvents b) := by rw [← hz]; rfl
  have halert := Settled.alert (z.bump (Obj.vbPlugEvents b)) Alert.valveBoard (by decide)
  refine ⟨?_, ?_, h.mem_out (List.mem_append_right _ (List.mem_singleton_self _))⟩
  · rw [h.bus]
    exact (halert.bus b).trans hbus
  · rw [h.num (ownStatus_vbPlugEvents b hb)]
    exact (halert.num (ownStatus_vbPlugEvents b hb)).trans ((State.num_bump_same _ _).trans (by rw [hnum]))

theorem State.busStartIdle_due {u : State} {b at_ : Nat} (hop : u.ctl.mode.operating = true) (hs : (u.bus b).state = 2)
    (hat : (u.bus b).startAt = some at_) (hdue : at_ + 100000 ≤ u.clk) :
    u.busStartIdle b = u.modBus b (fun y => { y with startAt := none }) := by
  unfold State.busStartIdle
  rw [hat]
  exact if_pos ⟨hs, hdue, hop⟩

/-! ## The review of the outputs -/

/-- What a review of the outputs leaves: all but their pins and last edges, what leaves, and the fabric's events. -/
structure Driven (a b : State) : Prop where
  rest : ({ b with touts := a.touts, out := a.out, fabric := a.fabric } : State) = a
  length : b.touts.length = a.touts.length

namespace Driven

theorem refl (a : State) : Driven a a := ⟨rfl, rfl⟩
theorem trans {a b c : State} (h : Driven a b) (k : Driven b c) : Driven a c := by
  refine ⟨?_, k.length.trans h.length⟩
  have e := congrArg (fun s : State => ({ s with touts := a.touts, out := a.out, fabric := a.fabric } : State)) k.rest
  exact e.trans h.rest

theorem raiseAt (s : State) (delay : Nat) (east : Bool) (source carried data : Nat) : Driven s (s.raiseAt delay east source carried data) := by
  unfold State.raiseAt
  split
  · exact ⟨rfl, rfl⟩
  · exact refl s

theorem drive (s : State) (delay k : Nat) : Driven s (s.toutDriveAt delay k) := by
  unfold State.toutDriveAt
  dsimp only
  split
  · exact refl s
  · refine trans (b := (s.modTout k _).emit _) ⟨rfl, ?_⟩ (raiseAt _ _ _ _ _ _)
    exact List.length_modify ..

variable {a b : State} (h : Driven a b)
include h

theorem ctl : b.ctl = a.ctl := (congrArg State.ctl h.rest :)
theorem pins : b.pins = a.pins := (congrArg State.pins h.rest :)
theorem power : b.power = a.power := (congrArg State.power h.rest :)
theorem buses : b.buses = a.buses := (congrArg State.buses h.rest :)
theorem dict : b.dict = a.dict := (congrArg State.dict h.rest :)
theorem num (key : Nat) : b.num key = a.num key := (congrArg (fun s : State => s.num key) h.rest :)

end Driven

/-- Under SAFE_N an output is to have its SAFE_LEVEL (R374). -/
theorem State.toutWants_safe {s : State} (hop : s.ctl.mode.operating = true) (hd : s.power.state ≠ .deep) (hsafe : s.safe = true) (k : Nat) :
    s.toutWants k = s.flag (Obj.toutSafeLevel k) := by
  unfold State.toutWants
  rw [hop, hsafe]
  exact if_neg hd

theorem State.tout_raiseAt (s : State) (delay : Nat) (east : Bool) (source carried data k : Nat) :
    (s.raiseAt delay east source carried data).tout k = s.tout k := by
  unfold State.raiseAt
  split <;> rfl

theorem State.toutDriveAt_pin {s : State} {delay k : Nat} (hk : k < s.touts.length) : ((s.toutDriveAt delay k).tout k).pin = s.toutWants k := by
  unfold State.toutDriveAt
  dsimp only
  split
  next h => exact h.symm
  next =>
    rw [State.tout_raiseAt]
    exact congrArg Tout.pin (State.tout_modTout_same hk _)

theorem State.toutDriveAt_other {s : State} {delay k n : Nat} (h : n ≠ k) : (s.toutDriveAt delay k).tout n = s.tout n := by
  unfold State.toutDriveAt
  dsimp only
  split
  · rfl
  · rw [State.tout_raiseAt]
    exact State.tout_modTout_other h _

/-- Of an output only the pin and the time of its last edge change as it is driven. -/
theorem State.toutDriveAt_queue (s : State) (delay k n : Nat) : ((s.toutDriveAt delay k).tout n).queue = (s.tout n).queue ∧
    ((s.toutDriveAt delay k).tout n).edgeLevel = (s.tout n).edgeLevel := by
  unfold State.toutDriveAt
  dsimp only
  split
  · exact ⟨rfl, rfl⟩
  · rw [State.tout_raiseAt]
    show ((State.modTout _ _ _).tout n).queue = _ ∧ ((State.modTout _ _ _).tout n).edgeLevel = _
    unfold State.modTout State.tout
    simp only [List.getD_eq_getElem?_getD, List.getElem?_modify]
    cases s.touts[n]? with
    | none => exact ⟨rfl, rfl⟩
    | some x => by_cases hn : k = n <;> simp [hn]

/-- A review under SAFE_N leaves every output it comes to at its SAFE_LEVEL. -/
theorem State.toutReview_safe {s : State} (hop : s.ctl.mode.operating = true) (hd : s.power.state ≠ .deep) (hsafe : s.safe = true)
    (hlen : s.touts.length = 16) :
    Driven s s.toutReview ∧ ∀ k, k < 16 → (s.toutReview.tout k).pin = s.flag (Obj.toutSafeLevel k) := by
  have hfold : ∀ (l : List Nat) (z : State), Driven s z → (∀ k ∈ l, k < 16) →
      (∀ k, k < 16 → k ∉ l → (z.tout k).pin = s.flag (Obj.toutSafeLevel k)) →
      Driven s (l.foldl State.toutDrive z) ∧ ∀ k, k < 16 → ((l.foldl State.toutDrive z).tout k).pin = s.flag (Obj.toutSafeLevel k) := by
    intro l
    induction l with
    | nil => exact fun z hz _ hdone => ⟨hz, fun k hk => hdone k hk (List.not_mem_nil)⟩
    | cons n r ih =>
      intro z hz hl hdone
      refine ih _ (hz.trans (Driven.drive z 0 n)) (fun k hk => hl k (List.mem_cons_of_mem _ hk)) (fun k hk hr => ?_)
      by_cases hn : k = n
      · subst hn
        have hwants : z.toutWants k = z.flag (Obj.toutSafeLevel k) :=
          State.toutWants_safe (by rw [hz.ctl]; exact hop) (by rw [hz.power]; exact hd) (by unfold State.safe; rw [hz.pins]; exact hsafe) k
        have hflag : z.flag (Obj.toutSafeLevel k) = s.flag (Obj.toutSafeLevel k) := by
          unfold State.flag
          rw [hz.num]
        exact (State.toutDriveAt_pin (delay := 0) (by rw [hz.length, hlen]; exact hk)).trans (hwants.trans hflag)
      · rw [show (z.toutDrive n).tout k = z.tout k from State.toutDriveAt_other hn]
        exact hdone k hk (fun hmem => (List.mem_cons.mp hmem).elim hn hr)
  exact hfold (List.range 16) s (Driven.refl s) (fun k hk => List.mem_range.mp hk) (fun k hk hno => absurd (List.mem_range.mpr hk) hno)

/-! ## SAFE_N -/

/-- What SAFE_N leaves on the buses: all but the frames cut, their counts and the SAFE symbols that go out (R370). -/
structure Silenced (a b : State) : Prop where
  ctl : b.ctl = a.ctl
  pins : b.pins = a.pins
  power : b.power = a.power
  touts : b.touts = a.touts
  clk : b.clk = a.clk
  offset : b.timeOffset = a.timeOffset
  states : ∀ n, (b.bus n).state = (a.bus n).state
  num : ∀ key, (∀ k < 4, key ≠ Obj.vbSafeTicks k) → b.num key = a.num key
  out : ∀ e, e ∈ a.out → e ∈ b.out

namespace Silenced

theorem refl (a : State) : Silenced a a := ⟨rfl, rfl, rfl, rfl, rfl, rfl, fun _ => rfl, fun _ _ => rfl, fun _ h => h⟩
theorem trans {a b c : State} (h : Silenced a b) (k : Silenced b c) : Silenced a c :=
  ⟨k.ctl.trans h.ctl, k.pins.trans h.pins, k.power.trans h.power, k.touts.trans h.touts, k.clk.trans h.clk, k.offset.trans h.offset,
    fun n => (k.states n).trans (h.states n), fun key hk => (k.num key hk).trans (h.num key hk), fun e he => k.out e (h.out e he)⟩
theorem ite {p : Prop} [Decidable p] {s a b : State} (ha : Silenced s a) (hb : Silenced s b) : Silenced s (if p then a else b) := by
  split <;> assumption

theorem bumpIf (s : State) (c : Bool) {b : Nat} (hb : b < 4) : Silenced s (s.bumpIf c (Obj.vbSafeTicks b)) := by
  unfold State.bumpIf
  exact ite ⟨rfl, rfl, rfl, rfl, rfl, rfl, fun _ => rfl, fun key hk => State.num_bump_other s (hk b hb), fun _ h => h⟩ (refl s)

theorem modBus (s : State) (b : Nat) {f : Bus → Bus} (hf : ∀ x, (f x).state = x.state) : Silenced s (s.modBus b f) :=
  ⟨rfl, rfl, rfl, rfl, rfl, rfl, fun n => State.bus_modBus hf s b n, fun _ _ => rfl, fun _ h => h⟩

theorem emit (s : State) (e : Emission) : Silenced s (s.emit e) :=
  ⟨rfl, rfl, rfl, rfl, rfl, rfl, fun _ => rfl, fun _ _ => rfl, fun _ h => List.mem_append_left _ h⟩

end Silenced

/-- What SAFE_N does to one bus; `clk` is the moment of the pin's edge. -/
def State.busSafeAt (clk : Nat) (s : State) (b : Nat) : State :=
  if (s.bus b).state = 2 ∨ (s.bus b).state = 3 then
    ((s.bumpIf ((s.bus b).frameSent && decide (clk < (s.bus b).tickClk + 4800)) (Obj.vbSafeTicks b)).modBus b (fun y => { y with
      frameSent := false, judge := false, cur := 0, resync := true })).emit (.safe b)
  else s

theorem State.busesSafe_eq (s : State) : s.busesSafe = (List.range 4).foldl (State.busSafeAt s.clk) s := rfl

theorem Silenced.busSafeAt (clk : Nat) (s : State) {b : Nat} (hb : b < 4) : Silenced s (s.busSafeAt clk b) := by
  refine ite ?_ (refl s)
  refine trans ?_ (emit _ _)
  exact trans (bumpIf s _ hb) (modBus _ b (fun _ => by rfl))

/-- The buses under SAFE_N: one after the other. -/
theorem State.busesSafe_silenced (s : State) : Silenced s s.busesSafe ∧
    ∀ k, k < 4 → (s.bus k).state = 2 ∨ (s.bus k).state = 3 → Emission.safe k ∈ s.busesSafe.out := by
  have hfold : ∀ (l : List Nat) (z : State), Silenced s z → (∀ b ∈ l, b < 4) →
      (∀ k, k < 4 → k ∉ l → (s.bus k).state = 2 ∨ (s.bus k).state = 3 → Emission.safe k ∈ z.out) →
      Silenced s (l.foldl (State.busSafeAt s.clk) z) ∧
        ∀ k, k < 4 → (s.bus k).state = 2 ∨ (s.bus k).state = 3 → Emission.safe k ∈ (l.foldl (State.busSafeAt s.clk) z).out := by
    intro l
    induction l with
    | nil => exact fun z hz _ hdone => ⟨hz, fun k hk => hdone k hk List.not_mem_nil⟩
    | cons b r ih =>
      intro z hz hl hdone
      have hb := Silenced.busSafeAt s.clk z (hl b List.mem_cons_self)
      refine ih _ (hz.trans hb) (fun k hk => hl k (List.mem_cons_of_mem _ hk)) (fun k hk hr hs => ?_)
      by_cases hkb : k = b
      · subst hkb
        unfold State.busSafeAt
        rw [if_pos (by rw [hz.states]; exact hs)]
        exact List.mem_append_right _ (List.mem_singleton_self _)
      · exact hb.out _ (hdone k hk (fun hmem => (List.mem_cons.mp hmem).elim hkb hr) hs)
  rw [State.busesSafe_eq]
  exact hfold (List.range 4) s (Silenced.refl s) (fun b hb => List.mem_range.mp hb)
    (fun k hk hno => absurd (List.mem_range.mpr hk) hno)

theorem safeObjects_other : (∀ k < 4, Obj.pinSafeCount ≠ Obj.vbSafeTicks k) ∧ (∀ k < 4, Obj.pinSafeTime ≠ Obj.vbSafeTicks k) ∧
    (∀ n < 16, ∀ k < 4, Obj.toutSafeLevel n ≠ Obj.vbSafeTicks k) := by decide +kernel

theorem safeObjects_moved : Obj.pinSafeCount ≠ Obj.echEvents 120 ∧ Obj.pinSafeTime ≠ Obj.echEvents 120 ∧ Obj.pinSafeCount ≠ Obj.pinSafeTime ∧
    ∀ n < 16, Obj.toutSafeLevel n ≠ Obj.echEvents 120 ∧ Obj.toutSafeLevel n ≠ Obj.pinSafeTime ∧ Obj.toutSafeLevel n ≠ Obj.pinSafeCount := by
  decide +kernel

theorem ownStatus_pinSafe : ownStatus Obj.pinSafeCount = false ∧ ownStatus Obj.pinSafeTime = false := by decide +kernel

/-- The state in which SAFE_N reviews the buses (R523): the edge counted and stamped. -/
def State.safeStamped (u : State) : State :=
  ((({ u with pins := { u.pins with safeN := false } } : State).bump Obj.pinSafeCount).putNum Obj.pinSafeTime u.shortNow).bump (Obj.echEvents 120)

theorem State.safeStamped_count (u : State) : u.safeStamped.num Obj.pinSafeCount = satAdd 32 (u.num Obj.pinSafeCount) 1 := by
  obtain ⟨hcount, _, hne, _⟩ := safeObjects_moved
  exact ((State.num_bump_other _ hcount).trans (State.num_putNum_other _ _ hne)).trans (State.num_bump_same _ _)

theorem State.safeStamped_time (u : State) : u.safeStamped.num Obj.pinSafeTime = u.shortNow := by
  obtain ⟨_, htime, _, _⟩ := safeObjects_moved
  exact (State.num_bump_other _ htime).trans (State.num_putNum_same _ _ _)

theorem State.safeStamped_level (u : State) {k : Nat} (hk : k < 16) : u.safeStamped.num (Obj.toutSafeLevel k) = u.num (Obj.toutSafeLevel k) := by
  obtain ⟨_, _, _, hlevel⟩ := safeObjects_moved
  obtain ⟨hevents, htime, hcount⟩ := hlevel k hk
  exact ((State.num_bump_other _ hevents).trans (State.num_putNum_other _ _ htime)).trans (State.num_bump_other _ hcount)

/-- SAFE_N pulled low in an operating mode (R370, R374, R523). -/
theorem State.safeAssert_settled {u t : State} (h : Settled u.safeAssert t) (hop : u.ctl.mode.operating = true) (hd : u.power.state ≠ .deep)
    (hs : u.safe = false) (hlen : u.touts.length = 16) :
    t.pins.safeN = false ∧ t.num Obj.pinSafeCount = satAdd 32 (u.num Obj.pinSafeCount) 1 ∧ t.num Obj.pinSafeTime = u.shortNow ∧
      (∀ k, k < 4 → (u.bus k).state = 2 ∨ (u.bus k).state = 3 → Emission.safe k ∈ t.out) ∧
      ∀ k, k < 16 → (t.tout k).pin = u.flag (Obj.toutSafeLevel k) := by
  have hmodel : u.safeAssert =
      (u.safeStamped.busesSafe.toutReview.raise false 0x090 0).raiseAt 0 false 0x178 0x090 0 := by
    unfold State.safeAssert
    rw [if_neg (by simp [hs])]
    exact if_pos hop
  rw [hmodel] at h
  obtain ⟨hsilent, hsafe⟩ := State.busesSafe_silenced u.safeStamped
  obtain ⟨hdriven, hlevels⟩ := State.toutReview_safe (s := u.safeStamped.busesSafe) (by rw [hsilent.ctl]; exact hop)
    (by rw [hsilent.power]; exact hd) (by unfold State.safe; rw [hsilent.pins]; rfl) (by rw [hsilent.touts]; exact hlen)
  obtain ⟨hcount, htime, hlevel⟩ := safeObjects_other
  have hdone : Driven u.safeStamped.busesSafe ((u.safeStamped.busesSafe.toutReview.raise false 0x090 0).raiseAt 0 false 0x178 0x090 0) :=
    hdriven.trans ((Driven.raiseAt _ 0 false 0x090 0 0).trans (Driven.raiseAt _ 0 false 0x178 0x090 0))
  obtain ⟨sent, hsent⟩ := ((Kept.toutReview u.safeStamped.busesSafe).trans
    ((Kept.raiseAt _ 0 false 0x090 0 0).trans (Kept.raiseAt _ 0 false 0x178 0x090 0))).out
  refine ⟨?_, ?_, ?_, fun k hk hstate => h.mem_out ?_, fun k hk => ?_⟩
  · rw [h.safeN]
    exact (congrArg Pins.safeN (hdone.pins.trans hsilent.pins) :)
  · rw [h.num ownStatus_pinSafe.1]
    rw [hdone.num, hsilent.num _ hcount]
    exact u.safeStamped_count
  · rw [h.num ownStatus_pinSafe.2]
    rw [hdone.num, hsilent.num _ htime]
    exact u.safeStamped_time
  · have hmem := List.mem_append_left sent (hsafe k hk hstate)
    rw [← hsent] at hmem
    exact hmem
  · rw [h.tout]
    have hpin := hlevels k hk
    have hflag : u.safeStamped.busesSafe.flag (Obj.toutSafeLevel k) = u.flag (Obj.toutSafeLevel k) := by
      unfold State.flag
      rw [hsilent.num _ (hlevel k hk), u.safeStamped_level hk]
    rw [State.tout_raiseAt]
    exact (congrArg Tout.pin (State.tout_raiseAt _ 0 false 0x090 0 0 k)).trans (hpin.trans hflag)

/-! ## Edges -/

theorem State.lateEdges_empty {s : State} {k : Nat} (h : (s.tout k).queue = []) : ∀ n, s.lateEdges k n = s
  | 0 => rfl
  | n + 1 => by
    unfold State.lateEdges
    rw [h]

/-- The one edge of an output's queue, due (R372). -/
theorem State.timedEdge_last {u : State} {k : Nat} {e : Nat × Bool} (hlen : k < u.touts.length) (hq : (u.tout k).queue = [e])
    (hl : (u.tout k).lamp = []) (hdue : diff32 e.1 u.shortNow ≤ 0) (hdisc : u.edgesDiscarded = false) (hsoon : (u.tout k).tooSoon u.clk = false) :
    u.timedEdge k = (u.modTout k (fun y => { y with queue := [], edgeLevel := e.2 })).toutDrive k := by
  have hstep : u.edgeDue k = ((u.modTout k (fun y => { y with queue := [], edgeLevel := e.2 })).toutDrive k, true) := by
    unfold State.edgeDue
    dsimp only
    rw [hq]
    simp only [hdisc, hsoon, Bool.false_eq_true, and_false, if_false]
  have hempty : (((u.modTout k (fun y => { y with queue := [], edgeLevel := e.2 })).toutDrive k).tout k).queue = [] := by
    rw [show State.toutDrive _ k = State.toutDriveAt _ 0 k from rfl, (State.toutDriveAt_queue _ 0 k k).1, State.tout_modTout_same hlen]
  unfold State.timedEdge
  simp only [hq, hl, List.isEmpty_nil, hdue, decide_true, and_self, if_true, hstep]
  exact State.lateEdges_empty hempty 64

theorem State.tout_lt {s : State} {k : Nat} (h : (s.tout k).queue ≠ []) : k < s.touts.length := by
  refine Classical.byContradiction fun hlt => ?_
  have hreset : s.tout k = Tout.reset := getD_of_length_le _ _ (Nat.not_lt.mp hlt)
  exact h (by rw [hreset]; rfl)

theorem State.timedEdge_settled {u t : State} {k : Nat} {e : Nat × Bool} (h : Settled (u.timedEdge k) t) (hq : (u.tout k).queue = [e])
    (hl : (u.tout k).lamp = []) (hdue : diff32 e.1 u.shortNow ≤ 0) (hdisc : u.edgesDiscarded = false) (hsoon : (u.tout k).tooSoon u.clk = false) :
    (t.tout k).queue = [] ∧ (t.tout k).edgeLevel = e.2 := by
  have hlen : k < u.touts.length := State.tout_lt (by rw [hq]; exact List.cons_ne_nil _ _)
  rw [State.timedEdge_last hlen hq hl hdue hdisc hsoon] at h
  obtain ⟨hqueue, hlevel⟩ := State.toutDriveAt_queue (u.modTout k (fun y => { y with queue := [], edgeLevel := e.2 })) 0 k k
  rw [State.tout_modTout_same hlen] at hqueue hlevel
  rw [h.tout]
  exact ⟨hqueue, hlevel⟩

/-- Settles O48: each pin's edge by what the bus or the output it belongs to does with it. -/
theorem busesAndOutputsFollowTheirPins : Obligations.BusesAndOutputsFollowTheirPins := by
  unfold Obligations.BusesAndOutputsFollowTheirPins
  intro dt b s
  refine fun hruns hb => ?_
  obtain ⟨hop, hd⟩ := operating_of_unitsRun hruns
  refine ⟨fun hp hs => ?_, fun hp hs => ?_, fun at_ hs hat hdue => ?_, fun hs hlen => ?_, ?_, fun e k hk hq hl hdue hdisc hsoon => ?_⟩
  · exact State.run_completes (exec_vbPresAssert s dt b) rfl (fun t h _ _ => State.vbPresent_settled h hop hp hs)
  · exact State.run_completes (exec_vbPresRelease s dt b) rfl (fun t h _ _ => State.vbAbsent_settled h hop hb hp hs)
  · exact State.run_settled (exec_busStartIdle s dt b) hruns (State.busStartIdle_due hop hs hat hdue)
  · exact State.run_completes (exec_safeNAssert s dt) rfl (fun t h _ _ => State.safeAssert_settled h hop hd hs hlen)
  · exact State.run_settled (exec_safeNRelease s dt) rfl rfl
  · exact State.run_completes (exec_timedEdge s dt k) (by rw [hop, decide_eq_true hk]; rfl)
      (fun t h _ _ => State.timedEdge_settled h hq hl hdue hdisc hsoon)

end Sys2Proof.Machine
end

section
/-! PROOFS. The actions of the units (O37) and the writes that units follow at once (O38). -/

namespace Sys2Proof.Machine

/-! ## Which action a key names -/

theorem objKey_index {index sub : Nat} (h : sub < 256) : objKey index sub / 256 = index := by
  unfold objKey
  omega

/-- An action of a lane or a port (R40). -/
theorem State.exWrite_lanesAndPorts {key : Nat} (hlow : 0x2000 ≤ key / 256) (hhigh : key / 256 < 0x3400) (s : State) (src : Src) (n : Nat) :
    s.exWrite src key n =
      if key / 256 < 0x2340 then s.scanStart ((key / 256 - 0x2000) / 0x10) n
      else if key = Obj.portAdopt ((key / 256 - 0x3000) / 0x40) then s.adopt ((key / 256 - 0x3000) / 0x40)
      else if key = Obj.portRegAccess ((key / 256 - 0x3000) / 0x40) then s.regAccess ((key / 256 - 0x3000) / 0x40) n
      else s.captureStart ((key / 256 - 0x3000) / 0x40) n := by
  have hne : ∀ k, k / 256 < 0x2000 → key ≠ k := fun k hk he => by rw [he] at hlow; omega
  unfold State.exWrite
  rw [if_pos hhigh]
  unfold State.exControl
  simp only [hne Obj.accDropLevel (by decide), hne Obj.accRestoreDefaults (by decide), hne Obj.stgStaging (by decide),
    hne Obj.cmCommit (by decide), hne Obj.jrDigestStart (by decide), hne Obj.fltClearRetirements (by decide), if_false, hlow, true_and]

theorem State.exWrite_unit {key : Nat} (h : 0x3400 ≤ key / 256) (s : State) (src : Src) (n : Nat) : s.exWrite src key n = s.exUnit key n :=
  if_neg (Nat.not_lt.mpr h)

section ExWrite
variable (s : State) (src : Src) (v : Nat)

theorem State.exWrite_scan {n : Nat} (hn : n < 52) : s.exWrite src (laneKey n 0x0C) v = s.scanStart n v := by
  have hi : laneKey n 0x0C / 256 = 0x2000 + 0x10 * n := objKey_index (by decide)
  have hl : (laneKey n 0x0C / 256 - 0x2000) / 0x10 = n := by omega
  rw [State.exWrite_lanesAndPorts (by omega) (by omega), if_pos (by omega), hl]

theorem State.exWrite_adopt {n : Nat} (hn : n < 12) : s.exWrite src (Obj.portAdopt n) v = s.adopt n := by
  have hi : Obj.portAdopt n / 256 = 0x3003 + 64 * n := objKey_index (by decide)
  have hp : (Obj.portAdopt n / 256 - 0x3000) / 0x40 = n := by omega
  rw [State.exWrite_lanesAndPorts (by omega) (by omega), if_neg (by omega), hp, if_pos rfl]

theorem State.exWrite_regAccess {n : Nat} (hn : n < 12) : s.exWrite src (Obj.portRegAccess n) v = s.regAccess n v := by
  have hi : Obj.portRegAccess n / 256 = 0x3004 + 64 * n := objKey_index (by decide)
  have hp : (Obj.portRegAccess n / 256 - 0x3000) / 0x40 = n := by omega
  have hne : Obj.portRegAccess n ≠ Obj.portAdopt n := by unfold Obj.portRegAccess Obj.portAdopt objKey; omega
  rw [State.exWrite_lanesAndPorts (by omega) (by omega), if_neg (by omega), hp, if_neg hne, if_pos rfl]

theorem State.exWrite_capture {n : Nat} (hn : n < 12) : s.exWrite src (Obj.portCalCapture n) v = s.captureStart n v := by
  have hi : Obj.portCalCapture n / 256 = 0x300A + 64 * n := objKey_index (by decide)
  have hp : (Obj.portCalCapture n / 256 - 0x3000) / 0x40 = n := by omega
  have hadopt : Obj.portCalCapture n ≠ Obj.portAdopt n := by unfold Obj.portCalCapture Obj.portAdopt objKey; omega
  have hr : Obj.portRegAccess n / 256 = 0x3004 + 64 * n := objKey_index (by decide)
  have haccess : Obj.portCalCapture n ≠ Obj.portRegAccess n := fun he => by rw [he, hr] at hi; omega
  rw [State.exWrite_lanesAndPorts (by omega) (by omega), if_neg (by omega), hp, if_neg hadopt, if_neg haccess]

theorem State.exWrite_position {n : Nat} (hn : n < 4) : s.exWrite src (Obj.encPositionSet n) v = s.encPositionSet n v := by
  have hi : Obj.encPositionSet n / 256 = 0x3481 + 16 * n := objKey_index (by decide)
  have hp : (Obj.encPositionSet n / 256 - 0x3480) / 0x10 = n := by omega
  rw [State.exWrite_unit (by omega)]
  unfold State.exUnit
  rw [if_pos (by omega), hp]

/-- An action of a view (R266, R255). -/
theorem State.exUnit_view {key n : Nat} (hn : n < 4) (hi : key / 256 = 0x4012 + 256 * n) :
    s.exUnit key v = if key = Obj.viewBuild n then s.buildStart n v else (s.clearHist n v).putNum key 2 := by
  have hv : (key / 256 - 0x4000) / 0x100 = n := by omega
  unfold State.exUnit
  rw [if_neg (by omega), if_pos (by omega), hv]

theorem State.exWrite_build {n : Nat} (hn : n < 4) : s.exWrite src (Obj.viewBuild n) v = s.buildStart n v := by
  have hi : Obj.viewBuild n / 256 = 0x4012 + 256 * n := objKey_index (by decide)
  rw [State.exWrite_unit (by omega), State.exUnit_view s v hn hi, if_pos rfl]

theorem State.exWrite_histClear {n : Nat} (hn : n < 4) :
    s.exWrite src (Obj.viewHistClear n) v = (s.clearHist n v).putNum (Obj.viewHistClear n) 2 := by
  have hi : Obj.viewHistClear n / 256 = 0x4012 + 256 * n := objKey_index (by decide)
  have hne : Obj.viewHistClear n ≠ Obj.viewBuild n := by unfold Obj.viewHistClear Obj.viewBuild objKey; omega
  rw [State.exWrite_unit (by omega), State.exUnit_view s v hn hi, if_neg hne]

theorem State.exWrite_clear {n : Nat} (hn : n < 8) : s.exWrite src (Obj.slotClear n) v = (s.slotEmptied n 0).putNum (Obj.slotClear n) 2 := by
  have hi : Obj.slotClear n / 256 = 0x5100 + 16 * n := objKey_index (by decide)
  have hp : (Obj.slotClear n / 256 - 0x5100) / 0x10 = n := by omega
  rw [State.exWrite_unit (by omega)]
  unfold State.exUnit
  rw [if_neg (by omega), if_neg (by omega), if_pos (by omega), hp]

theorem State.exWrite_flush {n : Nat} (hn : n < 16) : s.exWrite src (Obj.toutFlush n) v = (s.flushEdges n).putNum (Obj.toutFlush n) 2 := by
  have hi : Obj.toutFlush n / 256 = 0x6301 + 8 * n := objKey_index (by decide)
  have hp : (Obj.toutFlush n / 256 - 0x6300) / 8 = n := by omega
  rw [State.exWrite_unit (by omega)]
  unfold State.exUnit
  rw [if_neg (by omega), if_neg (by omega), if_neg (by omega), if_pos (by omega), hp]

/-- An action of a DMA channel (R422). -/
theorem State.exUnit_channel {key n : Nat} (hn : n < 32) (hi : key / 256 = 0x7200 + 16 * n) :
    s.exUnit key v = if key = Obj.dchStart n then s.startDma n v else (s.dmaStop n).putNum key 2 := by
  have hc : (key / 256 - 0x7200) / 0x10 = n := by omega
  unfold State.exUnit
  rw [if_neg (by omega), if_neg (by omega), if_neg (by omega), if_neg (by omega), if_pos (by omega), hc]

theorem State.exWrite_start {n : Nat} (hn : n < 32) : s.exWrite src (Obj.dchStart n) v = s.startDma n v := by
  have hi : Obj.dchStart n / 256 = 0x7200 + 16 * n := objKey_index (by decide)
  rw [State.exWrite_unit (by omega), State.exUnit_channel s v hn hi, if_pos rfl]

theorem State.exWrite_stop {n : Nat} (hn : n < 32) : s.exWrite src (Obj.dchStop n) v = (s.dmaStop n).putNum (Obj.dchStop n) 2 := by
  have hi : Obj.dchStop n / 256 = 0x7200 + 16 * n := objKey_index (by decide)
  have hne : Obj.dchStop n ≠ Obj.dchStart n := by unfold Obj.dchStop Obj.dchStart objKey; omega
  rw [State.exWrite_unit (by omega), State.exUnit_channel s v hn hi, if_neg hne]

theorem State.exWrite_step : s.exWrite src Obj.timeStep v = s.stepArm := rfl

theorem State.exWrite_clearRetirements : s.exWrite src Obj.fltClearRetirements v = s.clearRetirements := rfl

theorem State.exWrite_pwrReset {n : Nat} (hn : n < 12) : s.exWrite src (Obj.camPwrReset n) v = (s.pwrReset n).putNum (Obj.camPwrReset n) 2 := by
  have hi : Obj.camPwrReset n / 256 = 0xA030 + n := objKey_index (by decide)
  have hp : Obj.camPwrReset n / 256 - 0xA030 = n := by omega
  have hne : Obj.camPwrReset n ≠ Obj.timeStep := by unfold Obj.camPwrReset Obj.timeStep objKey; omega
  rw [State.exWrite_unit (by omega)]
  unfold State.exUnit
  rw [if_neg (by omega), if_neg (by omega), if_neg (by omega), if_neg (by omega), if_neg (by omega), if_neg hne, hp]

end ExWrite

/-! ## The keys are keys of actions -/

abbrev JournalledAction (key : Nat) : Prop := ActionKey key ∧ journalled key = true

/-- The actions of the units: for each how many units have it, and its key at each (R118 to R534). -/
def unitActions : List (Nat × (Nat → Nat)) := [
  (52, fun n => laneKey n 0x0C), (12, Obj.portAdopt), (12, Obj.portRegAccess), (12, Obj.portCalCapture),
  (12, Obj.camPwrReset), (4, Obj.viewBuild), (4, Obj.viewHistClear), (4, Obj.encPositionSet), (8, Obj.slotClear),
  (16, Obj.toutFlush), (32, Obj.dchStart), (32, Obj.dchStop), (1, fun _ => Obj.timeStep),
  (1, fun _ => Obj.fltClearRetirements)]

theorem unitActions_journalled : ∀ a ∈ unitActions, ∀ n < a.1, JournalledAction (a.2 n) := by decide +kernel

theorem laneAction : ∀ n < 52, JournalledAction (laneKey n 0x0C) := unitActions_journalled _ (List.getElem_mem (n := 0) (by decide))
theorem adoptAction : ∀ n < 12, JournalledAction (Obj.portAdopt n) := unitActions_journalled _ (List.getElem_mem (n := 1) (by decide))
theorem regAccessAction : ∀ n < 12, JournalledAction (Obj.portRegAccess n) := unitActions_journalled _ (List.getElem_mem (n := 2) (by decide))
theorem captureAction : ∀ n < 12, JournalledAction (Obj.portCalCapture n) := unitActions_journalled _ (List.getElem_mem (n := 3) (by decide))
theorem pwrResetAction : ∀ n < 12, JournalledAction (Obj.camPwrReset n) := unitActions_journalled _ (List.getElem_mem (n := 4) (by decide))
theorem buildAction : ∀ n < 4, JournalledAction (Obj.viewBuild n) := unitActions_journalled _ (List.getElem_mem (n := 5) (by decide))
theorem histClearAction : ∀ n < 4, JournalledAction (Obj.viewHistClear n) := unitActions_journalled _ (List.getElem_mem (n := 6) (by decide))
theorem positionAction : ∀ n < 4, JournalledAction (Obj.encPositionSet n) := unitActions_journalled _ (List.getElem_mem (n := 7) (by decide))
theorem clearAction : ∀ n < 8, JournalledAction (Obj.slotClear n) := unitActions_journalled _ (List.getElem_mem (n := 8) (by decide))
theorem flushAction : ∀ n < 16, JournalledAction (Obj.toutFlush n) := unitActions_journalled _ (List.getElem_mem (n := 9) (by decide))
theorem startAction : ∀ n < 32, JournalledAction (Obj.dchStart n) := unitActions_journalled _ (List.getElem_mem (n := 10) (by decide))
theorem stopAction : ∀ n < 32, JournalledAction (Obj.dchStop n) := unitActions_journalled _ (List.getElem_mem (n := 11) (by decide))
theorem stepAction : JournalledAction Obj.timeStep := unitActions_journalled _ (List.getElem_mem (n := 12) (by decide)) 0 Nat.one_pos
theorem clearRetirementsAction : JournalledAction Obj.fltClearRetirements := unitActions_journalled _ (List.getElem_mem (n := 13) (by decide)) 0 Nat.one_pos

/-- A journalled action completes in what its function makes of the state after its entry. -/
theorem takes_done {i : Instr} {s : State} {src : Src} {key size value : Nat} {f : State → State}
    (hkey : JournalledAction key) (hf : ∀ a : State, a.exWrite src key (value % 256 ^ size) = f a)
    (ht : (s.advance i.dt).takes src (Req.ofNumber key size value))
    (hi : i.request = some (src.normal, (Req.ofNumber key size value).normal)) :
    Completes i s (fun t => Answered (f (((s.advance i.dt).heard src).requestSeen.journalReq src 4 (Req.ofNumber key size value).key
      (Req.ofNumber key size value).data)) t src (Req.ofNumber key size value) (Answer.of Code.ok)) := by
  have h := takes_journalled ht hi hkey.1 hkey.2
  obtain ⟨_, _, hsub, _⟩ := hkey.1
  rw [hf] at h
  rw [Req.ofNumber_key hsub]
  exact h

/-! ## What the functions make of a value -/

theorem bitOf_read (v : Nat) : bitOf (v % 128 % 256 ^ 1) 7 = false := by
  have h : v % 128 % 256 ^ 1 < 2 ^ 7 := by omega
  exact Nat.testBit_lt_two_pow h

theorem bitOf_write (v : Nat) : bitOf ((128 + v % 128) % 256 ^ 1) 7 = true := by
  have h : (128 + v % 128) % 256 ^ 1 = 2 ^ 7 + v % 128 := by omega
  rw [h]
  unfold bitOf
  rw [Nat.testBit_two_pow_add_eq, Nat.testBit_lt_two_pow (i := 7) (Nat.mod_lt v (by decide))]
  rfl

theorem State.regAccess_read (s : State) (p v : Nat) : s.regAccess p (v % 128 % 256 ^ 1) =
    ((s.putNum (Obj.portRegAccess p) 1).queueReg p
      { standard := 0, isWrite := false, address := s.num (Obj.portRegAddress p), words := v % 32, data := [],
        tag := 0, retried := false, own := false, frame := none, sentAt := none }).sendReg p := by
  have hwords : v % 128 % 256 ^ 1 % 32 = v % 32 := by omega
  unfold State.regAccess
  simp only [bitOf_read, hwords, Bool.false_eq_true, if_false]

theorem State.regAccess_write (s : State) (p v : Nat) : s.regAccess p ((128 + v % 128) % 256 ^ 1) =
    ((s.putNum (Obj.portRegAccess p) 1).queueReg p
      { standard := 0, isWrite := true, address := s.num (Obj.portRegAddress p), words := v % 32,
        data := (s.octets (Obj.portRegData p) ++ zeros (4 * (v % 32))).take (4 * (v % 32)),
        tag := 0, retried := false, own := false, frame := none, sentAt := none }).sendReg p := by
  have hwords : (128 + v % 128) % 256 ^ 1 % 32 = v % 32 := by omega
  unfold State.regAccess
  simp only [bitOf_write, hwords, if_true]

theorem State.buildStart_some {s : State} {v k : Nat} (mask : Nat) (h : (s.view v).target = some k) :
    s.buildStart v mask = (s.startBuild v mask k).putNum (Obj.viewBuild v) 1 := by
  unfold State.buildStart
  rw [h]

/-- Settles O37: each action by the function its key names. -/
theorem actionsOfTheUnits : Obligations.ActionsOfTheUnits := by
  refine ⟨?_, ?_⟩
  · intro dt n value src s
    refine ⟨fun hn ht => ?_, fun hn ht => ?_, ⟨fun hn ht => ?_, fun hn ht => ?_⟩, fun hn ht => ?_, fun hn ht => ?_, fun hn ht => ?_⟩
    · exact takes_done (i := .eyeScan dt src n value) (laneAction n hn) (fun a => a.exWrite_scan src _ hn) ht (if_pos hn)
    · exact takes_done (i := .adopt dt src n value) (adoptAction n hn) (fun a => a.exWrite_adopt src _ hn) ht (if_pos hn)
    · exact takes_done (i := .regRead dt src n value) (regAccessAction n hn)
        (fun a => (a.exWrite_regAccess src _ hn).trans (a.regAccess_read n value)) ht (if_pos hn)
    · exact takes_done (i := .regWrite dt src n value) (regAccessAction n hn)
        (fun a => (a.exWrite_regAccess src _ hn).trans (a.regAccess_write n value)) ht (if_pos hn)
    · exact takes_done (i := .positionSet dt src n value) (positionAction n hn) (fun a => a.exWrite_position src _ hn) ht (if_pos hn)
    · exact takes_done (i := .calCaptureDark dt src n) (captureAction n hn) (fun a => a.exWrite_capture src _ hn) ht (if_pos hn)
    · exact takes_done (i := .calCaptureFlat dt src n) (captureAction n hn) (fun a => a.exWrite_capture src _ hn) ht (if_pos hn)
  · intro dt n value src s
    refine ⟨fun k hn ht hk => ?_, fun hn ht => ?_, fun hn ht => ?_, fun hn ht => ?_, fun hn ht => ?_, fun hn ht => ?_, fun ht => ?_,
      fun ht => ?_, fun hn ht => ?_⟩
    · have h := takes_done (i := .build dt src n value) (buildAction n hn) (fun a => a.exWrite_build src _ hn) ht (if_pos hn)
      have hbuild := State.buildStart_some (value % 256) hk
      dsimp only at hbuild ⊢
      rw [← hbuild]
      exact h
    · exact takes_done (i := .histClear dt src n value) (histClearAction n hn) (fun a => a.exWrite_histClear src _ hn) ht (if_pos hn)
    · exact takes_done (i := .clear dt src n value) (clearAction n hn) (fun a => a.exWrite_clear src _ hn) ht (if_pos hn)
    · exact takes_done (i := .flush dt src n value) (flushAction n hn) (fun a => a.exWrite_flush src _ hn) ht (if_pos hn)
    · exact takes_done (i := .start dt src n value) (startAction n hn) (fun a => a.exWrite_start src _ hn) ht (if_pos hn)
    · exact takes_done (i := .stop dt src n value) (stopAction n hn) (fun a => a.exWrite_stop src _ hn) ht (if_pos hn)
    · exact takes_done (i := .step dt src value) stepAction (fun a => a.exWrite_step src _) ht rfl
    · exact takes_done (i := .clearRetirements dt src value) clearRetirementsAction (fun a => a.exWrite_clearRetirements src _) ht rfl
    · exact takes_done (i := .pwrReset dt src n value) (pwrResetAction n hn) (fun a => a.exWrite_pwrReset src _ hn) ht (if_pos hn)

end Sys2Proof.Machine
end

section
/-! PROOFS. The writes that units follow at once (O38). -/

namespace Sys2Proof.Machine

/-! ## A number that what follows its write leaves -/

/-- `b` reads the number of an object as `a` does. -/
def SameNum (key : Nat) (a b : State) : Prop := b.num key = a.num key

namespace SameNum

variable {key : Nat}

theorem refl (a : State) : SameNum key a a := rfl
theorem trans {a b c : State} (h : SameNum key a b) (k : SameNum key b c) : SameNum key a c := Eq.trans k h
theorem ite {p : Prop} [Decidable p] {s a b : State} (ha : SameNum key s a) (hb : SameNum key s b) : SameNum key s (if p then a else b) := by
  split <;> assumption
theorem fold {α : Type} {f : State → α → State} (l : List α) (h : ∀ s, ∀ x ∈ l, SameNum key s (f s x)) (s : State) :
    SameNum key s (l.foldl f s) := by
  induction l generalizing s with
  | nil => exact refl s
  | cons x r ih => exact (h s x List.mem_cons_self).trans (ih (fun z y hy => h z y (List.mem_cons_of_mem _ hy)) (f s x))

theorem putNum (s : State) {k : Nat} (n : Nat) (h : key ≠ k) : SameNum key s (s.putNum k n) := State.num_putNum_other s n h
theorem orFlags (s : State) {k : Nat} (n : Nat) (h : key ≠ k) : SameNum key s (s.orFlags k n) := putNum s _ h

theorem sendReg (s : State) (p : Nat) : SameNum key s (s.sendReg p) := by
  unfold State.sendReg
  split
  · exact refl s
  · exact ite (refl s) rfl

theorem completeResult (hown : ownStatus key = false) (s : State) (k : Nat) (epoch : Option Nat) (data : Bytes) :
    SameNum key s (s.completeResult k epoch data) := by
  unfold State.completeResult
  dsimp only
  split
  · exact (Settled.event (s.putResult _) Ibi.resultReady).num hown
  · rfl

/-! ### The frame that a change of FRAME_LINES cuts -/

theorem endStats (hown : ownStatus key = false) (s : State) (p : Nat) : SameNum key s (s.endStats p) := by
  unfold State.endStats
  split
  · exact refl s
  · exact ite (completeResult hown (s.modRegion p _) _ _ _) rfl

theorem endLatency (s : State) {p : Nat} (start : Nat) (hmax : key ≠ Obj.portLatencyMax p) (hlast : key ≠ Obj.portLatencyLast p) :
    SameNum key s (s.endLatency p start) := by
  unfold State.endLatency
  split
  · exact ite ((putNum s _ hmax).trans (putNum (s.putNum _ _) _ hlast)) (refl s)
  · exact refl s

theorem endCapture (hown : ownStatus key = false) (s : State) {p : Nat} (c : Capture) (hcapture : key ≠ Obj.portCalCapture p) :
    SameNum key s (s.endCapture p c) := by
  unfold State.endCapture
  dsimp only
  exact ite ((completeResult hown (s.modRegion p _) _ _ _).trans (putNum _ _ hcapture)) (putNum (s.modRegion p _) _ hcapture)

/-- None of the objects in which a port keeps the ends of its frames. -/
abbrev NoFrameEnd (key p : Nat) : Prop := key ≠ Obj.portLatencyMax p ∧ key ≠ Obj.portLatencyLast p ∧ key ≠ Obj.portCalCapture p

theorem cutTaps (hown : ownStatus key = false) (s : State) {p : Nat} (v start : Nat) (h : NoFrameEnd key p) :
    SameNum key s (s.cutTaps p v start) := by
  obtain ⟨hmax, hlast, hcapture⟩ := h
  have hstats : ∀ z : State, SameNum key z (match (z.region p).stats with
      | some f => if f.start = start ∧ f.view = v then z.endStats p else z
      | none => z) := fun z => by
    split
    · exact ite (endStats hown z p) (refl z)
    · exact refl z
  have hends : ∀ z : State, SameNum key z (match (z.region p).capture with
      | some k => if k.frame = some start then z.endCapture p k else z
      | none => z) := fun z => by
    split
    · exact ite (endCapture hown z _ hcapture) (refl z)
    · exact refl z
  exact ((endLatency s start hmax hlast).trans (hstats _)).trans (hends _)

theorem cutPort (hown : ownStatus key = false) (s : State) (v : Nat) (i : Issue) {p : Nat} (h : NoFrameEnd key p) :
    SameNum key s (s.cutPort v i p) := by
  unfold State.cutPort
  refine ite ?_ (refl s)
  unfold State.endPort
  exact ite rfl (cutTaps hown (s.modPort p _) v i.frameStart h)

theorem cutStages (hown : ownStatus key = false) (s : State) (v : Nat) (i : Issue) : SameNum key s (s.cutStages v i) := by
  have hservo : SameNum key s (s.endServo v) := by
    unfold State.endServo
    split
    · exact refl s
    · exact completeResult hown (s.modView v _) _ _ _
  have hclass : ∀ z : State, SameNum key z (z.endClassStats v) := fun z => by
    unfold State.endClassStats
    split
    · exact refl z
    · exact completeResult hown (z.modView v _) _ _ _
  unfold State.cutStages
  split
  · exact ite (hservo.trans (hclass _)) (refl s)
  · exact refl s

theorem sendExposure (s : State) {v : Nat} (start epoch : Nat) (short : Bool) (h : key ≠ Obj.trgFlags v) :
    SameNum key s (s.sendExposure v start epoch short) := by
  unfold State.sendExposure
  dsimp only
  refine ite ((fold _ (fun z p _ => ?_) s).trans (orFlags _ _ h)) (fold _ (fun z p _ => ?_) s) <;>
    exact ite (sendReg (z.queueReg p _) p) (sendReg (z.queueReg p _) p)

theorem exposureReview (s : State) {v : Nat} (h : key ≠ Obj.trgFlags v) : SameNum key s (s.exposureReview v) := by
  unfold State.exposureReview
  dsimp only
  exact (show SameNum key s (s.modTrigger v _) from rfl).trans (fold _ (fun z q _ => sendExposure z _ _ _ h) _)

theorem frameLinesNew (hown : ownStatus key = false) (s : State) {v : Nat} (framed : Nat) (hflags : key ≠ Obj.trgFlags v)
    (hports : ∀ p < 12, NoFrameEnd key p) : SameNum key s (s.frameLinesNew v framed) := by
  unfold State.frameLinesNew
  dsimp only
  refine ite (refl s) ?_
  split
  · refine ite ?_ (exposureReview (s.modTrigger v _) hflags)
    refine trans ?_ (exposureReview _ hflags)
    refine trans ?_ (cutStages hown _ v _)
    refine trans (orFlags ((s.modTrigger v _).modTrigger v _) 2 hflags) (fold _ (fun z p hp => ?_) _)
    exact cutPort hown z v _ (hports p (List.mem_range.mp ((List.mem_filter.mp hp).1)))
  · exact exposureReview (s.modTrigger v _) hflags

/-! ### The enable of a camera port -/

theorem pwrEnable (s : State) (k : Nat) : SameNum key s (s.pwrEnable k) := by
  unfold State.pwrEnable
  refine ite (ite (refl s) rfl) ?_
  show SameNum key s (s.camLower k 0)
  unfold State.camLower
  dsimp only
  exact ite rfl rfl

end SameNum

/-! ## The writes of numbers -/

/-- A key of a writable number that no hook but its own unit's speaks of. -/
abbrev UnitNumber (key : Nat) : Prop := RwKey key ∧ ownStatus key = false ∧ key ≠ Obj.hbPeriod ∧ isCommitParam key = false ∧
  key ≠ Obj.pwLatencyTolerance ∧ key ≠ Obj.pwIdleTimer ∧ key ≠ Obj.alAlertMask ∧ key ≠ Obj.tchTouchEnable

/-- The numbers whose writes come into force at once: how many units have each, and its key at each (R155, R372, R533, R548). -/
def unitNumbers : List (Nat × (Nat → Nat)) :=
  [(4, Obj.trgFrameLines), (12, Obj.camPwrEnable), (4, Obj.vbTestEnable), (1, fun _ => Obj.fwPreferred)]

theorem unitNumbers_written : ∀ a ∈ unitNumbers, ∀ n < a.1, UnitNumber (a.2 n) := by decide +kernel

theorem frameLinesKey : ∀ n < 4, UnitNumber (Obj.trgFrameLines n) := unitNumbers_written _ (List.getElem_mem (n := 0) (by decide))
theorem pwrEnableKey : ∀ n < 12, UnitNumber (Obj.camPwrEnable n) := unitNumbers_written _ (List.getElem_mem (n := 1) (by decide))
theorem testEnableKey : ∀ n < 4, UnitNumber (Obj.vbTestEnable n) := unitNumbers_written _ (List.getElem_mem (n := 2) (by decide))
theorem preferredKey : UnitNumber Obj.fwPreferred := unitNumbers_written _ (List.getElem_mem (n := 3) (by decide)) 0 Nat.one_pos

theorem frameLines_kept : ∀ n < 4, Obj.trgFrameLines n ≠ Obj.trgFlags n ∧ ∀ p < 12, SameNum.NoFrameEnd (Obj.trgFrameLines n) p := by
  decide +kernel

theorem State.rwHook_frameLines (s old : State) {n : Nat} (hn : n < 4) :
    s.rwHook old (Obj.trgFrameLines n) = s.frameLinesNew n (old.frameLen n) := by
  obtain ⟨_, _, hperiod, hparam, _⟩ := frameLinesKey n hn
  have hi : Obj.trgFrameLines n / 256 = 0x3400 + 16 * n := objKey_index (by decide)
  have hv : (Obj.trgFrameLines n / 256 - 0x3400) / 0x10 = n := by omega
  unfold State.rwHook
  dsimp only
  rw [if_neg hperiod, if_neg (by rw [hparam]; decide), if_pos (by omega), hv, if_pos rfl]

theorem State.rwHook_pwrEnable (s old : State) {n : Nat} (hn : n < 12) : s.rwHook old (Obj.camPwrEnable n) = s.pwrEnable n := by
  obtain ⟨_, _, hperiod, hparam, htolerance, htimer, hmask, htouch⟩ := pwrEnableKey n hn
  have hi : Obj.camPwrEnable n / 256 = 0xA030 + n := objKey_index (by decide)
  have hk : Obj.camPwrEnable n / 256 - 0xA030 = n := by omega
  unfold State.rwHook
  dsimp only
  rw [if_neg hperiod, if_neg (by rw [hparam]; decide), if_neg (by omega), if_neg (by omega), if_neg (by omega),
    if_neg (not_or.mpr ⟨htolerance, htimer⟩), if_neg hmask, if_neg htouch, if_neg (by omega), if_pos (by omega), hk]

theorem State.rwHook_testEnable (s old : State) {n : Nat} (hn : n < 4) : s.rwHook old (Obj.vbTestEnable n) = s := by
  obtain ⟨_, _, hperiod, hparam, htolerance, htimer, hmask, htouch⟩ := testEnableKey n hn
  have hi : Obj.vbTestEnable n / 256 = 0x6202 + 32 * n := objKey_index (by decide)
  unfold State.rwHook
  dsimp only
  rw [if_neg hperiod, if_neg (by rw [hparam]; decide), if_neg (by omega), if_neg (by omega), if_neg (by omega),
    if_neg (not_or.mpr ⟨htolerance, htimer⟩), if_neg hmask, if_neg htouch, if_neg (by omega), if_neg (by omega)]

theorem State.rwHook_preferred (s old : State) : s.rwHook old Obj.fwPreferred = s := rfl

/-- PREFERRED is a number that MRAM keeps. -/
theorem preferred_kept : ∀ r, objectRow (Obj.fwPreferred / 256) (Obj.fwPreferred % 256) = some r → r.persistent = true ∧ r.ty ≠ .blob := by
  decide +kernel

theorem State.mram_rwPut {s : State} {r : ObjRow} (hp : r.persistent = true) (hb : r.ty ≠ .blob) (key : Nat) (v : Val) :
    Kv.get? (s.rwPut r key v).dict.mram key = some v := by
  unfold State.rwPut
  rw [if_pos hp, if_neg hb]
  exact Kv.get?_put_same _ _ _

/-! ## EDGES -/

theorem edgesRow : ∀ n < 16, ∀ r, objectRow (Obj.toutEdges n / 256) (Obj.toutEdges n % 256) = some r →
    r.acc = .wo ∧ r.ty.size = 0 ∧ r.ty ≠ .blob := by decide +kernel

theorem edgesKey : ∀ n < 16, Obj.toutEdges n < 65536 * 256 ∧ Obj.toutEdges n % 256 ≠ 0 ∧ Obj.toutEdges n ≠ Obj.ydpYdpPort ∧
    Obj.toutEdges n ≠ Obj.accResponse ∧ isAck (Obj.toutEdges n) = false ∧ journalled (Obj.toutEdges n) = true ∧
    Obj.toutEdges n ≠ Obj.hbHeartbeat ∧ Obj.toutEdges n ≠ Obj.fwFwImage := by decide +kernel

/-- An accepted write of EDGES (R373). -/
theorem State.applyWrite_edges {w : State} {src : Src} {r : ObjRow} {n : Nat} (hn : n < 16)
    (hr : objectRow (Obj.toutEdges n / 256) (Obj.toutEdges n % 256) = some r) (data : Bytes) :
    w.applyWrite src r (Obj.toutEdges n) data = ((w.journalReq src 1 (Obj.toutEdges n) data).putEdges n data, Code.ok) := by
  obtain ⟨hacc, hsize, hblob⟩ := edgesRow n hn r hr
  obtain ⟨_, _, _, hresponse, hack, hj, hbeat, himage⟩ := edgesKey n hn
  have hi : Obj.toutEdges n / 256 = 0x6301 + 8 * n := objKey_index (by decide)
  have hk : (Obj.toutEdges n / 256 - 0x6300) / 8 = n := by omega
  have hdecode : r.ty.decode data = .bytes data := if_pos hsize
  have hentry : w.journalWrite src r (Obj.toutEdges n) data = w.journalReq src 1 (Obj.toutEdges n) data := by
    unfold State.journalWrite
    rw [if_neg hblob, if_pos hj, writeKind_wo hacc]
  rw [State.applyWrite_ordinary hresponse hack, hentry, hdecode]
  have hput : ∀ a : State, a.writeEffect src r (Obj.toutEdges n) (.bytes data) = a.putEdges n data := fun a => by
    unfold State.writeEffect
    rw [hacc]
    show a.woWrite src r _ _ = _
    unfold State.woWrite
    dsimp only
    rw [if_neg hbeat, if_neg himage, if_pos (by omega), hk]
    rfl
  rw [hput]

theorem takes_edges {dt n : Nat} {src : Src} {data : Bytes} {s : State} (hn : n < 16)
    (ht : (s.advance dt).takes src (Req.ofWrite (Obj.toutEdges n / 256) (Obj.toutEdges n % 256) data)) :
    let q := Req.ofWrite (Obj.toutEdges n / 256) (Obj.toutEdges n % 256) data
    Completes (.edges dt src n data) s (fun t =>
      Answered (((((s.advance dt).heard src).requestSeen.journalReq src 1 q.key q.data)).putEdges n q.data) t src q (Answer.of Code.ok)) := by
  intro q
  obtain ⟨hfits, hsub, hport, _⟩ := edgesKey n hn
  obtain ⟨hh, r, hr⟩ := id ht
  have hat : q.at_ = Obj.toutEdges n % 256 := Req.at_of_sub_ne_zero (q := q) hsub
  have hkey : q.key = Obj.toutEdges n := by
    rw [Req.key, hat]
    exact Nat.div_add_mod' _ 256
  have hfound : objectRow (Obj.toutEdges n / 256) (Obj.toutEdges n % 256) = some r := hat ▸ hr.names.row
  have hobject : objKey q.index q.sub ≠ Obj.ydpYdpPort := by
    rw [show objKey q.index q.sub = Obj.toutEdges n from Nat.div_add_mod' _ 256]
    exact hport
  have hnormal : q.normal = q := by
    have hi : Obj.toutEdges n / 256 % 65536 = Obj.toutEdges n / 256 := Nat.mod_eq_of_lt (by omega)
    simp [q, Req.normal, Req.ofWrite, hi]
  have hi : Instr.request (.edges dt src n data) = some (src.normal, q) := (if_pos hn).trans (by rw [hnormal])
  have he := execute_write hr
  rw [hkey] at he
  rw [hkey]
  have h := heard_completes hi hh (movesPort_of_object hobject _) he
  rw [show q.data = data from rfl, State.applyWrite_edges hn hfound] at h
  exact h

/-- Settles O38: each value in force through what its unit does with it. -/
theorem unitWritesTakeEffect : Obligations.UnitWritesTakeEffect := by
  unfold Obligations.UnitWritesTakeEffect
  intro dt n value src data s
  refine ⟨fun hn ht => ?_, fun hn ht => ?_, fun hn ht => ?_, fun ht => ?_, fun hn ht => takes_edges hn ht⟩
  · obtain ⟨r, -, -, h⟩ := takes_rw (i := .frameLines dt src n value) ht (if_pos hn) (frameLinesKey n hn).1
    have hown := (frameLinesKey n hn).2.1
    obtain ⟨hflags, hports⟩ := frameLines_kept n hn
    refine h.imp (fun t ha => ⟨(ha.num hown).trans ?_, ha.answer⟩)
    rw [State.rwHook_frameLines _ _ hn]
    exact Eq.trans (SameNum.frameLinesNew hown _ _ hflags hports) (State.num_rwPut_same _ _ _ _)
  · obtain ⟨r, -, -, h⟩ := takes_rw (i := .pwrEnable dt src n value) ht (if_pos hn) (pwrEnableKey n hn).1
    refine h.imp (fun t ha => ⟨(ha.num (pwrEnableKey n hn).2.1).trans ?_, ha.answer⟩)
    rw [State.rwHook_pwrEnable _ _ hn]
    exact Eq.trans (SameNum.pwrEnable _ n) (State.num_rwPut_same _ _ _ _)
  · obtain ⟨r, -, -, h⟩ := takes_rw (i := .testEnable dt src n value) ht (if_pos hn) (testEnableKey n hn).1
    refine h.imp (fun t ha => ⟨(ha.num (testEnableKey n hn).2.1).trans ?_, ha.answer⟩)
    rw [State.rwHook_testEnable _ _ hn]
    exact State.num_rwPut_same _ _ _ _
  · obtain ⟨r, -, hfound, h⟩ := takes_rw (i := .preferred dt src value) ht rfl preferredKey.1
    obtain ⟨hp, hb⟩ := preferred_kept r hfound
    refine h.imp (fun t ha => ⟨(ha.num (by decide)).trans ?_, ?_, ha.answer⟩)
    · rw [State.rwHook_preferred]
      exact State.num_rwPut_same _ _ _ _
    · have hmram := (congrArg (fun s : State => s.dict.mram) ha.same :)
      rw [State.rwHook_preferred] at hmram
      show Kv.get? t.dict.mram _ = _
      rw [show t.dict.mram = _ from hmram]
      exact State.mram_rwPut hp hb _ _

end Sys2Proof.Machine
end

section
/-! PROOFS. Packets of the camera links (O35). -/

namespace Sys2Proof.Machine

/-! ## Numbers that the retirement of a lane leaves -/

namespace SameNum

variable {key : Nat}

theorem bump (s : State) {k : Nat} (h : key ≠ k) : SameNum key s (s.bump k) := State.num_bump_other s h
theorem bumpIf (s : State) (c : Bool) {k : Nat} (h : key ≠ k) : SameNum key s (s.bumpIf c k) := ite (bump s h) (refl s)
theorem keepOwn (s : State) {k : Nat} (v : Val) (h : key ≠ k) : SameNum key s (s.keepOwn k v) := by
  unfold SameNum State.num State.val State.valIn
  rw [show Kv.get? (s.keepOwn k v).dict.inForce key = Kv.get? s.dict.inForce key from Kv.get?_put_other _ _ h]
  rfl
theorem alert (hown : ownStatus key = false) (s : State) {bit : Nat} (h : bit < 255) : SameNum key s (s.alert bit) :=
  (Settled.alert s bit h).num hown

/-- None of the objects that an upset or a retirement writes. -/
abbrev NoFault (key : Nat) : Prop :=
  ownStatus key = false ∧ key ≠ Obj.logSuppressed ∧ key ≠ Obj.fltUpsets ∧ key ≠ Obj.fltRetirements

variable (h : NoFault key)
include h

theorem logPut (s : State) (kind unit inst cause count : Nat) (detail : Bytes) :
    SameNum key s (s.logPut kind unit inst cause count detail) := by
  obtain ⟨hown, hlog, _, _⟩ := h
  unfold State.logPut
  dsimp only
  split
  · rfl
  · split
    · exact (bump s hlog).trans (alert hown _ (by decide))
    · split <;> rfl

theorem upset (s : State) (unit inst window : Nat) (detail : Bytes) : SameNum key s (s.upset unit inst window detail) := by
  refine trans ?_ (logPut h _ _ _ _ _ _ _)
  exact bump s h.2.2.1

theorem retire (s : State) (unit inst cause : Nat) (detail : Bytes) : SameNum key s (s.retire unit inst cause detail) := by
  obtain ⟨hown, _, _, hretired⟩ := id h
  unfold State.retire
  refine ite (refl s) (trans ?_ (alert hown _ (by decide)))
  refine trans ?_ (logPut h _ _ _ _ _ _ _)
  exact keepOwn { s with ctl := _ } _ hretired

theorem retireRegion (s : State) (r cause : Nat) (hr : key ≠ Obj.regRetireCause r) : SameNum key s (s.retireRegion r cause) :=
  ite (refl s) ((retire h s _ _ _ _).trans (keepOwn _ _ hr))

omit h in
theorem dropOwnRegs (s : State) (p : Nat) : SameNum key s (s.dropOwnRegs p) := sendReg (s.modPort p _) p

theorem retirePort (s : State) (p cause : Nat) (hr : key ≠ Obj.regRetireCause p) : SameNum key s (s.retirePort p cause) := by
  refine ite (refl s) (trans ?_ (retireRegion h _ p cause hr))
  exact (retire h s _ _ _ _).trans (dropOwnRegs ((s.retire Unit.port p 0 []).modPort p _) p)

omit h in
theorem startDiscovery (s : State) (p : Nat) : SameNum key s (s.startDiscovery p) :=
  ite (sendReg ((State.queueReg (s.modPort p _) p _).queueReg p _) p) (sendReg (State.queueReg (s.modPort p _) p _) p)

omit h in
theorem endTraining (s : State) (p : Nat) : SameNum key s (s.endTraining p) := ite (startDiscovery (s.modPort p _) p) (refl s)

theorem laneGone (s : State) (n : Nat) (hr : key ≠ Obj.regRetireCause (n / 4)) : SameNum key s (s.laneGone n) := by
  have hdegrade : SameNum key s (s.degradePort (n / 4)) := by
    unfold State.degradePort
    split
    · exact retirePort h s _ _ hr
    · exact startDiscovery (s.modPort (n / 4) _) (n / 4)
  exact ite (refl s) (ite (retirePort h s _ _ hr) (ite hdegrade (endTraining s _)))

theorem retireLane (s : State) (n cause : Nat) (hcause : key ≠ laneKey n 13) (hr : n < 48 → key ≠ Obj.regRetireCause (n / 4)) :
    SameNum key s (s.retireLane n cause) := by
  refine ite (refl s) ?_
  have hlane : SameNum key s (((s.modLane n (fun x => { x with
      state := 5, exiting := false, lowEyeSince := none })).keepOwn (laneKey n 13) (.num cause)).retire (laneUnit n) (laneInst n) cause
        (s.laneDetail n)) := (keepOwn (s.modLane n _) _ hcause).trans (retire h _ _ _ _ _)
  split
  next hn => exact hlane.trans (laneGone h _ n (hr hn))
  next => exact hlane

theorem realign (s : State) (n : Nat) (hcount : key ≠ laneKey n 9) (hcause : key ≠ laneKey n 13)
    (hr : n < 48 → key ≠ Obj.regRetireCause (n / 4)) : SameNum key s (s.realign n) := by
  have hlane : SameNum key s ((s.bump (laneKey n 9)).modLane n (fun x => { x with
      pseq := none, state := if x.state = 4 then 3 else x.state })) := bump s hcount
  have hupset := hlane.trans (upset h _ (laneUnit n) (laneInst n) 10000000000 (s.laneDetail n))
  exact ite (ite (hupset.trans (retireLane h _ n 1 hcause hr)) hupset) hlane

end SameNum

/-! ## Packets -/

/-- What a packet's header leaves: the ports and their triggers, the control cluster and the parameter sets. -/
structure Headed (a b : State) : Prop where
  ports : b.ports = a.ports
  triggers : b.triggers = a.triggers
  ctl : b.ctl = a.ctl
  sets : b.dict.sets = a.dict.sets
  committed : b.dict.committed = a.dict.committed
  id : b.pins.id = a.pins.id

theorem State.hlpHeader_headed (u : State) (p n pseq status : Nat) : Headed u (u.hlpHeader p n pseq status) := by
  have hcam : ∀ z : State, Headed z (z.camStatus p status) := fun z => by
    unfold State.camStatus
    dsimp only
    generalize (if bitOf status 1 then 0x20 else 0) + (if bitOf status 0 then 0x10 else 0) = bits
    split <;> exact ⟨rfl, rfl, rfl, rfl, rfl, rfl⟩
  obtain ⟨hports, htriggers, hctl, hsets, hcommitted, hid⟩ := hcam (u.trackPseq n pseq (Obj.portPacketsLost p)).1
  exact ⟨hports, htriggers, hctl, hsets, hcommitted, hid⟩

theorem State.putNum_headed (u : State) (key n : Nat) : Headed u (u.putNum key n) := ⟨rfl, rfl, rfl, rfl, rfl, rfl⟩

namespace Headed
variable {a b : State} (h : Headed a b)
include h

theorem port (p : Nat) : b.port p = a.port p := by
  unfold State.port
  rw [h.ports]
theorem issueOf (v index : Nat) : b.issueOf v index = a.issueOf v index := by
  unfold State.issueOf State.trigger
  rw [h.triggers]
theorem lineCase (p index : Nat) : b.lineCase p index = a.lineCase p index := by
  unfold State.lineCase
  rw [h.port]
  simp only [h.issueOf, State.trigger, h.triggers]
theorem param (epoch key : Nat) : b.param epoch key = a.param epoch key := by
  unfold State.param State.paramVal State.valIn State.paramsOf State.dfltOf
  rw [h.sets, h.committed, h.ctl, h.id]
theorem portLineBytes (p epoch : Nat) : b.portLineBytes p epoch = a.portLineBytes p epoch := by
  unfold State.portLineBytes
  rw [h.param, h.param, h.param]
theorem stopped : b.ctl.staging.pipelinesStopped = a.ctl.staging.pipelinesStopped := by rw [h.ctl]

end Headed

theorem State.lineStopped_running {s : State} (h : s.ctl.staging.pipelinesStopped = false) (epoch : Nat) : s.lineStopped epoch = false := by
  unfold State.lineStopped
  rw [h]
  rfl

/-- A good slice of a line already forwarded (R139). -/
theorem State.lineSlice_late {s : State} {p : Nat} {h : HlpHeader} (payload : Bytes) (hs : s.ctl.staging.pipelinesStopped = false)
    (hc : s.lineCase p h.index = .late) : s.lineSlice p h payload = s.bump (Obj.portPacketsLate p) := by
  unfold State.lineSlice
  simp only [State.lineStopped_running hs, hc]
  split <;> rfl

theorem State.lineSlice_stray {s : State} {p : Nat} {h : HlpHeader} (payload : Bytes) (hs : s.ctl.staging.pipelinesStopped = false)
    (hc : s.lineCase p h.index = .stray) : s.lineSlice p h payload = s.bump (Obj.portPacketsStray p) := by
  unfold State.lineSlice
  simp only [State.lineStopped_running hs, hc]
  split <;> rfl

/-- A slice is taken for an issue of the port's view with its index (R139). -/
theorem State.lineCase_taken {s : State} {p index : Nat} {i : Issue} (h : s.lineCase p index = .taken i) :
    ∃ v, (s.port p).view = some v ∧ s.issueOf v index = some i ∧ i.index = index := by
  unfold State.lineCase at h
  dsimp only at h
  split at h
  next v r hv hr =>
    split at h
    · split at h <;> exact absurd h (by simp)
    · split at h
      · exact absurd h (by simp)
      · split at h
        next i' newest rest hissue hnewest =>
          split at h
          · exact absurd h (by simp)
          · obtain rfl : i' = i := by injection h
            exact ⟨v, hv, hissue, by simpa using List.find?_some hissue⟩
        next => exact absurd h (by simp)
  next => exact absurd h (by simp)

/-- The port whose lines `f` changes without moving one to another index. -/
theorem find?_map_index {l : List LineBuf} {f : LineBuf → LineBuf} (hf : ∀ m ∈ l, (f m).index = m.index) (index : Nat) :
    (l.map f).find? (fun m => m.index = index) = (l.find? (fun m => m.index = index)).map f := by
  rw [List.find?_map]
  congr 1
  refine find?_of_same (fun m hm => ?_)
  simp only [Function.comp, hf m hm]

/-- A slice of a line whose buffer stays incomplete enters it, and nothing is forwarded (R137, R139). -/
theorem State.lineSlice_taken {s : State} {p : Nat} {h : HlpHeader} {i : Issue} {l : LineBuf} {payload : Bytes}
    (hs : s.ctl.staging.pipelinesStopped = false) (hc : s.lineCase p h.index = .taken i) (he : h.frameEnd = false)
    (hnext : (s.port p).nextForward = h.index) (hl : (s.port p).lines.find? (fun m => m.index = h.index) = some l)
    (hfull : (l.add (s.portLineBytes p i.epoch) h.offset payload).full (s.portLineBytes p i.epoch) = false) :
    s.lineSlice p h payload = s.modPort p (fun y => { y with
      lines := y.lines.map (fun m => if m.index = h.index then l.add (s.portLineBytes p i.epoch) h.offset payload else m) }) := by
  obtain ⟨v, hv, hissue, hindex⟩ := State.lineCase_taken hc
  have hli : l.index = h.index := by simpa using List.find?_some hl
  have hlen : p < s.ports.length := by
    refine Classical.byContradiction fun hlt => ?_
    have hreset : s.port p = Port.reset := getD_of_length_le _ _ (Nat.not_lt.mp hlt)
    rw [hreset] at hl
    exact absurd hl (by simp [Port.reset])
  have henter : s.lineSlice p h payload = s.enterSlice p i h payload := by
    unfold State.lineSlice
    simp only [hc, State.lineStopped_running hs, Bool.false_eq_true, if_false]
  rw [henter]
  unfold State.enterSlice
  simp only [hindex, hl, he]
  generalize hbytes : s.portLineBytes p i.epoch = b at *
  generalize hl' : l.add b h.offset payload = l' at *
  have hl'i : l'.index = h.index := by rw [← hl']; exact hli
  generalize hz : s.modPort p (fun y => { y with lines := y.lines.map (fun m => if m.index = h.index then l' else m) }) = z
  have hport : z.port p = { s.port p with lines := (s.port p).lines.map (fun m => if m.index = h.index then l' else m) } := by
    rw [← hz]
    exact State.port_modPort_same hlen _
  have hfind : (z.port p).lines.find? (fun m => m.index = (z.port p).nextForward) = some l' := by
    rw [hport]
    show List.find? (fun m => decide (m.index = (s.port p).nextForward)) (List.map _ (s.port p).lines) = some l'
    rw [hnext, find?_map_index (f := fun m => if m.index = h.index then l' else m), hl]
    · exact congrArg some (if_pos hli)
    · intro m _
      split
      next hm => exact hl'i.trans hm.symm
      next => rfl
  have hbind : (z.port p).view.bind (fun w => z.issueOf w (z.port p).nextForward) = some i := by
    have htriggers : ∀ w x, z.issueOf w x = s.issueOf w x := fun w x => by rw [← hz]; rfl
    rw [hport]
    simp only [hv, Option.bind_some, htriggers, hnext, hissue]
  have hz' : z.portLineBytes p i.epoch = b := by rw [← hbytes, ← hz]; rfl
  show z.forwardReady p 9 = z
  unfold State.forwardReady
  simp only [hfind, hbind, hz', hfull, Bool.false_eq_true, if_false]

/-! ## Lines whose window has passed -/

theorem State.forwardReady_none {s : State} {p : Nat} (h : (s.port p).lines = []) : ∀ n, s.forwardReady p n = s
  | 0 => rfl
  | n + 1 => by
    unfold State.forwardReady
    dsimp only
    rw [h]
    rfl

theorem Port.modFrame_rest (x : Port) (start : Nat) (f : FrameWord → FrameWord) :
    (x.modFrame start f).nextForward = x.nextForward ∧ (x.modFrame start f).forwarded = x.forwarded ∧
      (x.modFrame start f).lines = x.lines := ⟨rfl, rfl, rfl⟩

/-- A line without a packet is a hole throughout (R21). -/
theorem forwardLine_holes (v : Nat) (i : Issue) (width bands bits : Nat) :
    (forwardLine v i width bands bits none).holes = List.replicate width true := by
  show (List.range width).map (fun _ => true) = _
  rw [List.map_const', List.length_range]

theorem ahead32_self {n : Nat} (h : n < wrap32) : ahead32 n n = 0 := by
  unfold ahead32
  rw [Nat.mod_eq_of_lt h, Nat.add_sub_cancel_left, Nat.mod_self]

/-- The next line, without a packet, forwarded as a placeholder (R137, R138). -/
theorem State.forwardNext_empty {u : State} {p v : Nat} {i : Issue} (hv : (u.port p).view = some v) (hl : (u.port p).lines = [])
    (hi : u.issueOf v (u.port p).nextForward = some i) (hs : u.ctl.staging.pipelinesStopped = false)
    (hw : 0 < u.param i.epoch (Obj.portWidth p)) :
    let t := u.forwardNext p
    (t.port p).nextForward = ((u.port p).nextForward + 1) % wrap32 ∧ (t.port p).lines = [] ∧
      t.num (Obj.portLinesHoled p) = satAdd 32 (u.num (Obj.portLinesHoled p)) 1 ∧
      ∃ line, (t.port p).forwarded = (u.port p).forwarded ++ [line] ∧ line.index = i.index ∧ line.epoch = i.epoch ∧
        line.holes = List.replicate (u.param i.epoch (Obj.portWidth p)) true := by
  intro t
  have hlen : p < u.ports.length := by
    refine Classical.byContradiction fun hlt => ?_
    have hreset : u.port p = Port.reset := getD_of_length_le _ _ (Nat.not_lt.mp hlt)
    rw [hreset] at hv
    exact absurd hv (by simp [Port.reset])
  generalize hwidth : u.param i.epoch (Obj.portWidth p) = width at hw
  generalize hline : forwardLine v i width (u.param i.epoch (Obj.portBands p)) (u.param i.epoch (Obj.portBits p)) none = line
  have hholes : line.holes = List.replicate width true := by rw [← hline]; exact forwardLine_holes _ _ _ _ _
  have hany : line.holes.any id = true := by
    rw [hholes, List.any_replicate]
    simp [Nat.ne_of_gt hw]
  have hfind : (u.port p).lines.find? (fun l => l.index = i.index) = none := by rw [hl]; rfl
  obtain ⟨f, hf⟩ : ∃ f : FrameWord → FrameWord, t = (u.modPort p (fun y => ({ y with
      nextForward := (y.nextForward + 1) % wrap32,
      rejoin := y.rejoin.map (fun r => if ahead32 r i.index < half32 then (i.index + 1) % wrap32 else r),
      lines := y.lines.filter (fun l => l.index ≠ i.index),
      forwarded := y.forwarded ++ [line] } : Port).modFrame i.frameStart f)).bump (Obj.portLinesHoled p) := by
    refine ⟨fun w => { w with
      flags := (w.flags ||| (if decide (u.param i.epoch (Obj.portLinkMode p) = 1) then FrameFlag.cameraTimed else 0)) |||
        (if i.cut then FrameFlag.cut else 0) }, ?_⟩
    show u.forwardNext p = _
    unfold State.forwardNext
    simp only [hv, hi, hfind, hwidth, hline, hany, State.lineStopped_running hs, Bool.false_eq_true, if_false, if_true]
  have hport : t.port p = _ := (congrArg (fun s : State => s.port p) hf).trans (State.port_modPort_same hlen _)
  have hnum : t.num (Obj.portLinesHoled p) = _ := (congrArg (fun s : State => s.num (Obj.portLinesHoled p)) hf).trans (State.num_bump_same _ _)
  rw [hport]
  refine ⟨rfl, ?_, hnum, line, rfl, ?_, ?_, hholes⟩
  · show (u.port p).lines.filter _ = []
    rw [hl]
    rfl
  · rw [← hline]; rfl
  · rw [← hline]; rfl

theorem State.windowPassed_empty {u : State} {p v : Nat} {i : Issue} (hv : (u.port p).view = some v) (hl : (u.port p).lines = [])
    (hnext : (u.port p).nextForward < wrap32) (hi : u.issueOf v (u.port p).nextForward = some i)
    (hdue : i.clk + u.param i.epoch (Obj.portReasmWindow p) * 1000 ≤ u.clk) (hs : u.ctl.staging.pipelinesStopped = false)
    (hw : 0 < u.param i.epoch (Obj.portWidth p)) : u.windowPassed p (u.port p).nextForward = u.forwardNext p := by
  have hself := ahead32_self hnext
  have hto : u.forwardTo p (u.port p).nextForward = u.forwardNext p := by
    unfold State.forwardTo
    dsimp only
    rw [hself]
    rfl
  unfold State.windowPassed
  rw [hv]
  dsimp only
  rw [hi]
  dsimp only
  rw [if_pos ⟨hdue, by rw [hself]; decide⟩, hto]
  exact State.forwardReady_none (State.forwardNext_empty hv hl hi hs hw).2.1 9

/-! ## A packet that fails its CRC -/

theorem crcObjects : ∀ p < 12, SameNum.NoFault (Obj.portPacketsCrc p) ∧ Obj.portPacketsCrc p ≠ Obj.regRetireCause p ∧
    ∀ n ∈ quad p, n < 48 ∧ n / 4 = p ∧ SameNum.NoFault (laneKey n 10) ∧ laneKey n 10 ≠ Obj.regRetireCause p ∧
      laneKey n 10 ≠ Obj.portPacketsCrc p ∧ laneKey n 10 ≠ laneKey n 9 ∧ laneKey n 10 ≠ laneKey n 13 ∧
      Obj.portPacketsCrc p ≠ laneKey n 9 ∧ Obj.portPacketsCrc p ≠ laneKey n 13 := by decide +kernel

theorem State.laneCrc_counts {u : State} {p n : Nat} (hp : p < 12) (hn : n ∈ quad p) :
    (u.laneCrc n).num (Obj.portPacketsCrc p) = satAdd 32 (u.num (Obj.portPacketsCrc p)) 1 ∧
      (u.laneCrc n).num (laneKey n 10) = satAdd 32 (u.num (laneKey n 10)) 1 := by
  obtain ⟨hport, hportCause, hlanes⟩ := crcObjects p hp
  obtain ⟨hlow, hquad, hlane, hlaneCause, hne, hlane9, hlane13, hport9, hport13⟩ := hlanes n hn
  unfold State.laneCrc
  dsimp only
  rw [if_pos hlow, hquad]
  constructor
  · refine Eq.trans (SameNum.realign hport _ n hport9 hport13 (fun _ => by rw [hquad]; exact hportCause)) ?_
    rw [State.num_bump_same, State.num_bump_other _ hne.symm]
  · refine Eq.trans (SameNum.realign hlane _ n hlane9 hlane13 (fun _ => by rw [hquad]; exact hlaneCause)) ?_
    rw [State.num_bump_other _ hne, State.num_bump_same]

theorem Part.regions_le (part : Part) : part.regions ≤ 12 := by
  unfold Part.regions
  split <;> omega

theorem State.hlpReceives_lane {u : State} {p n : Nat} (h : u.hlpReceives p n = true) :
    p < 12 ∧ n ∈ quad p ∧ u.laneReceives n = true := by
  unfold State.hlpReceives State.portFitted at h
  simp only [Bool.and_eq_true, decide_eq_true_eq, List.contains_iff_mem] at h
  obtain ⟨⟨⟨hp, hn⟩, hlane⟩, _⟩ := h
  exact ⟨Nat.lt_of_lt_of_le hp u.ctl.part.regions_le, hn, hlane⟩

theorem State.hlpLine_good {u : State} {p n : Nat} (h : HlpHeader) (payload : Bytes) (hr : u.laneReceives n = true) :
    u.hlpLine p n h payload true = (u.hlpHeader p n h.pseq h.camStatus).lineSlice p h payload := by
  unfold State.hlpLine
  rw [hr]
  rfl

theorem State.hlpLine_bad {u : State} {p n : Nat} (h : HlpHeader) (payload : Bytes) (hr : u.laneReceives n = true) :
    u.hlpLine p n h payload false = u.laneCrc n := by
  unfold State.hlpLine
  rw [hr]
  rfl

theorem State.cxpImage_late {u : State} {p width bits bands : Nat} {h : HlpHeader} (payload : Bytes)
    (hs : u.ctl.staging.pipelinesStopped = false) (hc : u.lineCase p h.index = .late) :
    u.cxpImage p .lineSlice width bits bands h payload =
      if width = u.num (Obj.portWidth p) ∧ bits = u.num (Obj.portBits p) ∧ bands = u.num (Obj.portBands p) then
        u.bump (Obj.portPacketsLate p)
      else (u.orFlags (Obj.portFlags p) 0x40).bump (Obj.portPacketsLate p) := by
  have hflags := State.putNum_headed u (Obj.portFlags p) (u.num (Obj.portFlags p) ||| 0x40)
  have hother : (u.orFlags (Obj.portFlags p) 0x40).lineSlice p h payload = (u.orFlags (Obj.portFlags p) 0x40).bump (Obj.portPacketsLate p) :=
    State.lineSlice_late payload (hflags.stopped.trans hs) ((hflags.lineCase p h.index).trans hc)
  unfold State.cxpImage
  simp only [Bool.and_eq_true, decide_eq_true_eq, and_assoc]
  split
  · exact State.lineSlice_late payload hs hc
  · exact hother

theorem Settled.port {a t : State} (h : Settled a t) (p : Nat) : t.port p = a.port p := (congrArg (fun s : State => s.port p) h.same :)

theorem linesHoled_kept : ∀ p < 12, ownStatus (Obj.portLinesHoled p) = false := by decide +kernel
theorem packetsCrc_kept : ∀ p < 12, ownStatus (Obj.portPacketsCrc p) = false ∧ ∀ n ∈ quad p, ownStatus (laneKey n 10) = false := by
  decide +kernel

/-- Settles O35: each packet by what its case makes of the state after its header. -/
theorem cameraPacketsBecomeLines : Obligations.CameraPacketsBecomeLines := by
  unfold Obligations.CameraPacketsBecomeLines
  refine ⟨?_, ?_⟩
  · intro dt p n h payload s
    refine ⟨fun hruns hcomes => ?_, fun width bits bands hruns hcomes => ?_⟩
    · obtain ⟨hp, hn, hlane⟩ := State.hlpReceives_lane hcomes
      have hadmits : ((s.advance dt).unitsRun && (s.advance dt).hlpReceives p n) = true := by rw [hruns, hcomes]; rfl
      have hhead := State.hlpHeader_headed (s.advance dt) p n h.pseq h.camStatus
      refine ⟨fun hs hc => ?_, fun hs hc => ?_, fun i l hs hc he hnext hl hfull => ?_, ?_, fun pseq status => ?_, fun pseq status hmode => ?_⟩
      · exact State.run_settled (exec_linePacket s dt p n h payload true) hadmits
          ((State.hlpLine_good h payload hlane).trans (State.lineSlice_late payload (hhead.stopped.trans hs) ((hhead.lineCase _ _).trans hc)))
      · exact State.run_settled (exec_linePacket s dt p n h payload true) hadmits
          ((State.hlpLine_good h payload hlane).trans (State.lineSlice_stray payload (hhead.stopped.trans hs) ((hhead.lineCase _ _).trans hc)))
      · refine State.run_settled (exec_linePacket s dt p n h payload true) hadmits ((State.hlpLine_good h payload hlane).trans ?_)
        have htaken := State.lineSlice_taken (payload := payload) (hhead.stopped.trans hs) ((hhead.lineCase _ _).trans hc) he
          (by rw [hhead.port]; exact hnext) (by rw [hhead.port]; exact hl) (by rw [hhead.portLineBytes]; exact hfull)
        rw [hhead.portLineBytes] at htaken
        exact htaken
      · refine State.run_completes (exec_linePacket s dt p n h payload false) hadmits (fun t ht _ _ => ?_)
        rw [State.hlpLine_bad h payload hlane] at ht
        obtain ⟨hport, hlanes⟩ := packetsCrc_kept p hp
        obtain ⟨hcrc, hcount⟩ := State.laneCrc_counts (u := s.advance dt) hp hn
        exact ⟨(ht.num hport).trans hcrc, (ht.num (hlanes n hn)).trans hcount⟩
      · exact State.run_settled (exec_statusPacket s dt p n ⟨pseq, status⟩) hadmits rfl
      · refine State.run_settled (exec_cameraEvent s dt ⟨p, n, ⟨pseq, status⟩⟩ payload) (comes_of_receives hruns (.inl hcomes)) ?_
        dsimp only
        rw [State.packetHeader_eq, if_pos hmode]
        rfl
    · have hadmits : ((s.advance dt).unitsRun && (s.advance dt).cxpReceives p) = true := by rw [hruns, hcomes]; rfl
      have hmode : ¬ ((s.advance dt).num (Obj.portLinkMode p) = 2) := by
        unfold State.cxpReceives at hcomes
        simp only [Bool.and_eq_true, decide_eq_true_eq] at hcomes
        omega
      refine ⟨fun pseq status => ?_, fun hs hc => ⟨fun hsame => ?_, fun hother => ?_⟩, ?_, ?_, fun time => ?_⟩
      · refine State.run_settled (exec_cameraEvent s dt ⟨p, n, ⟨pseq, status⟩⟩ payload) (comes_of_receives hruns (.inr hcomes)) ?_
        dsimp only
        rw [State.packetHeader_eq, if_neg hmode]
        rfl
      · exact State.run_settled (exec_cxpImagePacket s dt p .lineSlice ⟨width, bits, bands, h⟩ payload) hadmits
          ((State.cxpImage_late payload hs hc).trans (if_pos hsame))
      · exact State.run_settled (exec_cxpImagePacket s dt p .lineSlice ⟨width, bits, bands, h⟩ payload) hadmits
          ((State.cxpImage_late payload hs hc).trans (if_neg hother))
      · exact State.run_settled (exec_cxpImagePacket s dt p .unsupportedFormat ⟨width, bits, bands, h⟩ payload) hadmits rfl
      · exact State.run_settled (exec_trigAck s dt p) hadmits rfl
      · exact State.run_settled (exec_cxpHeartbeat s dt p time) hadmits rfl
  · intro dt p v s i
    refine fun hruns hfit hv hl hnext hi hdue hs hw => ?_
    have hp : p < 12 := Nat.lt_of_lt_of_le (of_decide_eq_true hfit) (Part.regions_le _)
    refine State.run_completes (exec_reasmWindow s dt p _) (by rw [hruns, hfit]; rfl) (fun t ht _ _ => ?_)
    rw [State.windowPassed_empty hv hl hnext hi hdue hs hw] at ht
    obtain ⟨hforward, -, hholed, hline⟩ := State.forwardNext_empty hv hl hi hs hw
    rw [ht.port, ht.num (linesHoled_kept p hp)]
    exact ⟨hforward, hholed, hline⟩

end Sys2Proof.Machine
end

section
/-! PROOFS. Lanes: signal, alignment, eyes (O33). -/

namespace Sys2Proof.Machine

/-! ## What the fault log and the ports' link-up leave -/

namespace Noted

theorem keepOwn (s : State) (key : Nat) (v : Val) : Noted s (s.keepOwn key v) := ⟨rfl⟩
theorem modFaults (s : State) (f : Faults) : Noted s { s with ctl := { s.ctl with faults := f } } := ⟨rfl⟩

theorem logPut (s : State) (kind unit inst cause count : Nat) (detail : Bytes) : Noted s (s.logPut kind unit inst cause count detail) := by
  unfold State.logPut
  dsimp only
  split
  · exact ⟨rfl⟩
  · split
    · exact (bump s _).trans (alert _ _)
    · split <;> exact ⟨rfl⟩

theorem upset (s : State) (unit inst window : Nat) (detail : Bytes) : Noted s (s.upset unit inst window detail) :=
  ((bump s _).trans (modFaults _ _)).trans (logPut _ _ _ _ _ _ _)

theorem retire (s : State) (unit inst cause : Nat) (detail : Bytes) : Noted s (s.retire unit inst cause detail) :=
  ite (refl s) ((((modFaults s _).trans (keepOwn _ _ _)).trans (logPut _ _ _ _ _ _ _)).trans (alert _ _))

theorem completeResult (s : State) (key : Nat) (epoch : Option Nat) (data : Bytes) : Noted s (s.completeResult key epoch data) := by
  have hput : Noted s (s.putResult ((s.result key).complete epoch data)) := ⟨rfl⟩
  unfold State.completeResult
  dsimp only
  split
  · exact hput.trans (event _ _)
  · exact hput

end Noted

/-- What a port's link-up and its retirement leave: all but the ports, the regions and what notices move. -/
structure Ported (a b : State) : Prop where
  rest : Noted a ({ b with ports := a.ports, regions := a.regions } : State)

namespace Ported

theorem of_noted {a b : State} (h : Noted a b) : Ported a b := by
  refine ⟨⟨?_⟩⟩
  exact (congrArg (fun s : State => ({ s with ports := a.ports, regions := a.regions } : State)) h.rest :)
theorem refl (a : State) : Ported a a := of_noted (Noted.refl a)
theorem trans {a b c : State} (h : Ported a b) (k : Ported b c) : Ported a c := by
  refine ⟨⟨?_⟩⟩
  have e := congrArg (fun s : State => ({ s with
    ports := a.ports, regions := a.regions, out := a.out, ctl := a.ctl, dict := a.dict, eths := a.eths, fabric := a.fabric } : State)) k.rest.rest
  exact e.trans h.rest.rest
theorem ite {p : Prop} [Decidable p] {s a b : State} (ha : Ported s a) (hb : Ported s b) : Ported s (if p then a else b) := by
  split <;> assumption

theorem modPort (s : State) (p : Nat) (f : Port → Port) : Ported s (s.modPort p f) := ⟨⟨rfl⟩⟩
theorem emit (s : State) (e : Emission) : Ported s (s.emit e) := of_noted (.emit s e)
theorem queueReg (s : State) (p : Nat) (a : RegAccess) : Ported s (s.queueReg p a) := modPort s p _

theorem sendReg (s : State) (p : Nat) : Ported s (s.sendReg p) := by
  unfold State.sendReg
  split
  · exact refl s
  · exact ite (refl s) ((modPort s p _).trans (emit _ _))

theorem dropOwnRegs (s : State) (p : Nat) : Ported s (s.dropOwnRegs p) := (modPort s p _).trans (sendReg _ p)

theorem setRegions (s : State) (l : List Region) : Ported s { s with regions := l } := ⟨⟨rfl⟩⟩

theorem retireRegion (s : State) (r cause : Nat) : Ported s (s.retireRegion r cause) :=
  ite (refl s) ((of_noted ((Noted.retire s _ _ _ _).trans (Noted.keepOwn _ _ _))).trans (setRegions _ _))

theorem retirePort (s : State) (p cause : Nat) : Ported s (s.retirePort p cause) :=
  ite (refl s) ((((of_noted (Noted.retire s _ _ _ _)).trans (modPort _ p _)).trans (dropOwnRegs _ p)).trans (retireRegion _ p cause))

theorem startDiscovery (s : State) (p : Nat) : Ported s (s.startDiscovery p) :=
  ite ((((modPort s p _).trans (queueReg _ p _)).trans (queueReg _ p _)).trans (sendReg _ p))
    (((modPort s p _).trans (queueReg _ p _)).trans (sendReg _ p))

theorem endTraining (s : State) (p : Nat) : Ported s (s.endTraining p) := ite ((modPort s p _).trans (startDiscovery _ p)) (refl s)

theorem laneGone (s : State) (n : Nat) : Ported s (s.laneGone n) := by
  have hdegrade : Ported s (s.degradePort (n / 4)) := by
    unfold State.degradePort
    split
    · exact retirePort s _ _
    · exact (modPort s _ _).trans (startDiscovery _ _)
  exact ite (refl s) (ite (retirePort s _ _) (ite hdegrade (endTraining s _)))

theorem unplug (s : State) (p : Nat) : Ported s (s.unplug p) :=
  ((modPort s p _).trans (dropOwnRegs _ p)).trans
    (of_noted ((((Noted.putNum _ _ _).trans (Noted.bump _ _)).trans (Noted.alert _ _)).trans (Noted.raise _ _ _ _)))

theorem lanesReviewed (s : State) (n : Nat) : Ported s (s.lanesReviewed n) := ite (refl s) (ite (unplug s _) (endTraining s _))

variable {a b : State} (h : Ported a b)
include h

theorem lanes : b.lanes = a.lanes := h.rest.lanes
theorem power : b.power = a.power := h.rest.power
theorem clk : b.clk = a.clk := h.rest.clk
theorem lane (n : Nat) : b.lane n = a.lane n := by
  unfold State.lane
  rw [h.lanes]

end Ported

/-! ## One lane -/

theorem State.lane_modLane_same {s : State} {n : Nat} (hn : n < s.lanes.length) (f : Lane → Lane) : (s.modLane n f).lane n = f (s.lane n) := by
  unfold State.lane
  rw [State.modLane_lanes, getD_of_lt _ _ (by simpa using hn), getD_of_lt _ _ hn]
  simp

theorem State.lane_lt {s : State} {n : Nat} (h : s.lane n ≠ Lane.reset) : n < s.lanes.length := by
  refine Classical.byContradiction fun hlt => ?_
  exact h (getD_of_length_le _ _ (Nat.not_lt.mp hlt))

theorem State.lane_lt_of_state {s : State} {n : Nat} (h : (s.lane n).state ≠ 0) : n < s.lanes.length :=
  State.lane_lt (fun he => h (by rw [he]; rfl))

theorem State.laneFitted_lt {u : State} {n : Nat} (h : u.laneFitted n = true) : n < 52 := by
  unfold State.laneFitted Part.lanes Part.syslinks at h
  simp only [Bool.or_eq_true, Bool.and_eq_true, decide_eq_true_eq] at h
  split at h <;> split at h <;> omega

/-- What settles of a lane whose module waits for no power step. -/
theorem Still.lane {a t : State} (h : Still a t) (n : Nat) : (t.lane n).unsettled = (a.lane n).unsettled := by
  have he := congrArg (fun l => l[n]?) h.lanes
  simp only [List.getElem?_map] at he
  unfold State.lane
  rw [List.getD_eq_getElem?_getD, List.getD_eq_getElem?_getD]
  rcases ht : t.lanes[n]? with _ | y <;> rcases ha : a.lanes[n]? with _ | x <;> rw [ht, ha] at he
  · simp at he
  · simp at he
  · exact Option.some.inj he

theorem Lane.unsettled_state {x y : Lane} (h : x.unsettled = y.unsettled) :
    x.state = y.state ∧ x.signal = y.signal ∧ x.lostAt = y.lostAt ∧ x.pseq = y.pseq ∧ x.lastStatus = y.lastStatus :=
  ⟨(congrArg Lane.state h :), (congrArg Lane.signal h :), (congrArg Lane.lostAt h :), (congrArg Lane.pseq h :),
    (congrArg Lane.lastStatus h :)⟩

/-! ## Realignments -/

/-- What the realignment of a lane leaves of the lane: it was not aligned, and is not now. -/
structure Realigned (n : Nat) (a b : State) : Prop where
  state : (b.lane n).state ≠ 4
  signal : (b.lane n).signal = (a.lane n).signal
  lostAt : (b.lane n).lostAt = (a.lane n).lostAt
  power : b.power = a.power

theorem State.retireLane_lane {s : State} {n : Nat} (cause : Nat) (hlen : n < s.lanes.length) :
    Realigned n s (s.retireLane n cause) ∧ ((s.retireLane n cause).lane n).state = 5 := by
  unfold State.retireLane
  split
  next h => exact ⟨⟨by rw [h]; decide, rfl, rfl, rfl⟩, h⟩
  next =>
    have hgone : ∀ z : State, z.power = s.power → z.lane n = { s.lane n with state := 5, exiting := false, lowEyeSince := none } →
        Realigned n s z ∧ (z.lane n).state = 5 := fun z hp hz => by
      have hstate : (z.lane n).state = 5 := by rw [hz]
      exact ⟨⟨by rw [hstate]; decide, by rw [hz], by rw [hz], hp⟩, hstate⟩
    generalize hlane : s.modLane n (fun x => { x with state := 5, exiting := false, lowEyeSince := none }) = y
    have hy : y.lane n = { s.lane n with state := 5, exiting := false, lowEyeSince := none } := by
      rw [← hlane]
      exact State.lane_modLane_same hlen _
    have hpower : y.power = s.power := by rw [← hlane]; rfl
    have hretired := (Ported.of_noted (Noted.keepOwn y (laneKey n 13) (.num cause))).trans
      (Ported.of_noted (Noted.retire _ (laneUnit n) (laneInst n) cause (s.laneDetail n)))
    dsimp only
    split
    · have hall := hretired.trans (Ported.laneGone _ n)
      exact hgone _ (hall.power.trans hpower) ((hall.lane n).trans hy)
    · exact hgone _ (hretired.power.trans hpower) ((hretired.lane n).trans hy)

theorem State.realign_lane {s : State} {n : Nat} (hlen : n < s.lanes.length) : Realigned n s (s.realign n) := by
  unfold State.realign
  dsimp only
  generalize hz : (s.bump (laneKey n 9)).modLane n (fun x => { x with pseq := none, state := if x.state = 4 then 3 else x.state }) = z
  have hlane : z.lane n = { s.lane n with pseq := none, state := if (s.lane n).state = 4 then 3 else (s.lane n).state } := by
    rw [← hz]
    exact State.lane_modLane_same (s := s.bump (laneKey n 9)) hlen _
  have hpower : z.power = s.power := by rw [← hz]; rfl
  have hzlen : n < z.lanes.length := by
    rw [← hz, State.modLane_lanes, List.length_modify]
    exact hlen
  have hstate : (z.lane n).state ≠ 4 := by
    rw [hlane]
    show (if (s.lane n).state = 4 then 3 else (s.lane n).state) ≠ 4
    split <;> omega
  have hstep : Realigned n s z := ⟨hstate, by rw [hlane], by rw [hlane], hpower⟩
  split
  · have hupset := Noted.upset z (laneUnit n) (laneInst n) 10000000000 (s.laneDetail n)
    generalize z.upset (laneUnit n) (laneInst n) 10000000000 (s.laneDetail n) = y at hupset ⊢
    have hy : y.lane n = z.lane n := by
      unfold State.lane
      rw [hupset.lanes]
    split
    · obtain ⟨hgone, -⟩ := State.retireLane_lane (s := y) (n := n) 1 (by rw [hupset.lanes]; exact hzlen)
      exact ⟨hgone.state, by rw [hgone.signal, hy, hstep.signal], by rw [hgone.lostAt, hy, hstep.lostAt], by rw [hgone.power, hupset.power, hpower]⟩
    · exact ⟨by rw [hy]; exact hstate, by rw [hy, hstep.signal], by rw [hy, hstep.lostAt], by rw [hupset.power, hpower]⟩
  · exact hstep

theorem realignObjects : ∀ n < 52, SameNum.NoFault (laneKey n 9) ∧ laneKey n 9 ≠ laneKey n 13 ∧ laneKey n 9 ≠ laneKey n 10 ∧
    laneKey n 9 ≠ laneKey n 6 ∧ laneKey n 9 ≠ Obj.portPacketsCrc (n / 4) ∧ laneKey n 9 ≠ Obj.regRetireCause (n / 4) ∧
    laneKey n 9 ≠ Obj.portLastUnplug (n / 4) ∧ laneKey n 9 ≠ Obj.portPlugEvents (n / 4) := by decide +kernel

theorem State.realign_count {s : State} {n : Nat} (hn : n < 52) : (s.realign n).num (laneKey n 9) = satAdd 32 (s.num (laneKey n 9)) 1 := by
  obtain ⟨hfault, hcause, _, _, _, hregion, _⟩ := realignObjects n hn
  unfold State.realign
  dsimp only
  have hcount : ((s.bump (laneKey n 9)).modLane n (fun x => { x with pseq := none, state := if x.state = 4 then 3 else x.state })).num
      (laneKey n 9) = satAdd 32 (s.num (laneKey n 9)) 1 := State.num_bump_same _ _
  split
  · refine Eq.trans ?_ hcount
    have hupset := SameNum.upset hfault ((s.bump (laneKey n 9)).modLane n (fun x => { x with
      pseq := none, state := if x.state = 4 then 3 else x.state })) (laneUnit n) (laneInst n) 10000000000 (s.laneDetail n)
    split
    · exact SameNum.trans hupset (SameNum.retireLane hfault _ n 1 hcause (fun _ => hregion))
    · exact hupset
  · exact hcount

/-! ## Signal lost -/

theorem State.darkLane_lane {s : State} {n : Nat} (hlen : n < s.lanes.length) : (s.darkLane n).lane n = { s.lane n with
    state := 2, exiting := false, lostAt := s.clk, pseq := none, lowEyeSince := none, alone := false } :=
  State.lane_modLane_same (s := s.putNum (laneKey n 6) 0) hlen _

/-- An error of a lane that has lost its signal alone (R116, R141). -/
theorem State.loneLoss_lane {s : State} {n : Nat} (hlen : n < s.lanes.length) : Realigned n s (s.loneLoss n) := by
  unfold State.loneLoss
  generalize hz : s.modLane n (fun x => { x with
    alone := true, lowEyeSince := if 0 < s.num (laneKey n 8) then some x.lostAt else none }) = z
  have hlane : z.lane n = { s.lane n with
      alone := true, lowEyeSince := if 0 < s.num (laneKey n 8) then some (s.lane n).lostAt else none } := by
    rw [← hz]
    exact State.lane_modLane_same hlen _
  have hpower : z.power = s.power := by rw [← hz]; rfl
  obtain ⟨hstate, hsignal, hlost, hp⟩ := State.realign_lane (s := z) (n := n) (by
    rw [← hz, State.modLane_lanes, List.length_modify]
    exact hlen)
  exact ⟨hstate, by rw [hsignal, hlane], by rw [hlost, hlane], by rw [hp, hpower]⟩

theorem State.loneLoss_count {s : State} {n : Nat} (hn : n < 52) : (s.loneLoss n).num (laneKey n 9) = satAdd 32 (s.num (laneKey n 9)) 1 :=
  State.realign_count (s := s.modLane n _) hn

/-- The loss of the signal of an aligned lane, before its port looks at it (R113, R116, R141). -/
theorem State.loseSignal_lane {u : State} {n : Nat} (hn : n < 52) (hs : (u.lane n).state = 4) :
    ((u.loseSignal n).lane n).state ≠ 4 ∧ (n < 48 → ((u.loseSignal n).lane n).state = 2) ∧ ((u.loseSignal n).lane n).signal = false ∧
      ((u.loseSignal n).lane n).lostAt = u.clk ∧ (u.loseSignal n).power = u.power ∧
      (48 ≤ n → (u.loseSignal n).num (laneKey n 9) = satAdd 32 (u.num (laneKey n 9)) 1) := by
  have hlen : n < u.lanes.length := State.lane_lt_of_state (by omega)
  obtain ⟨_, _, _, hheight, _⟩ := realignObjects n hn
  unfold State.loseSignal
  rw [if_pos (.inr hs)]
  generalize hz : (u.modLane n (fun x => { x with signal := false })).darkLane n = z
  have hlane : z.lane n = { u.lane n with
      signal := false, state := 2, exiting := false, lostAt := u.clk, pseq := none, lowEyeSince := none, alone := false } := by
    rw [← hz, State.darkLane_lane (by rw [State.modLane_lanes, List.length_modify]; exact hlen), State.lane_modLane_same hlen]
    rfl
  have hpower : z.power = u.power := by rw [← hz]; rfl
  have hnum : z.num (laneKey n 9) = u.num (laneKey n 9) := by
    rw [← hz]
    exact State.num_putNum_other (u.modLane n _) 0 hheight
  split
  next hhigh =>
    obtain ⟨hstate, hsignal, hlost, hp⟩ := State.loneLoss_lane (s := z) (n := n) (by
      rw [← hz]
      unfold State.darkLane
      rw [State.modLane_lanes, List.length_modify]
      exact (List.length_modify ..).symm ▸ hlen)
    refine ⟨hstate, fun h => absurd h (by omega), by rw [hsignal, hlane], by rw [hlost, hlane], by rw [hp, hpower], fun _ => ?_⟩
    rw [State.loneLoss_count hn, hnum]
  next hlow =>
    have hstate : (z.lane n).state = 2 := by rw [hlane]
    exact ⟨by rw [hstate]; decide, fun _ => hstate, by rw [hlane], by rw [hlane], hpower, fun h => absurd h hlow⟩

/-- A lane of the system link stands behind no port (R141). -/
theorem State.lanesReviewed_syslink {s : State} {n : Nat} (h : 48 ≤ n) : s.lanesReviewed n = s := if_pos (.inl h)

/-- What becomes of an aligned lane whose signal is gone. -/
theorem State.laneNoSignal_lane {u : State} {n : Nat} (hn : n < 52) (hs : (u.lane n).state = 4) :
    ((u.laneNoSignal n).lane n).state ≠ 4 ∧ (n < 48 → ((u.laneNoSignal n).lane n).state = 2) ∧
      ((u.laneNoSignal n).lane n).signal = false ∧ ((u.laneNoSignal n).lane n).lostAt = u.clk ∧
      (u.laneNoSignal n).power = u.power ∧
      (48 ≤ n → (u.laneNoSignal n).num (laneKey n 9) = satAdd 32 (u.num (laneKey n 9)) 1) := by
  obtain ⟨hstate, hcamera, hsignal, hlost, hpower, hcount⟩ := State.loseSignal_lane (u := u) hn hs
  have hported := Ported.lanesReviewed (u.loseSignal n) n
  have hlane : (u.laneNoSignal n).lane n = (u.loseSignal n).lane n := hported.lane n
  rw [hlane]
  refine ⟨hstate, hcamera, hsignal, hlost, hported.power.trans hpower, fun hhigh => ?_⟩
  unfold State.laneNoSignal
  rw [State.lanesReviewed_syslink hhigh]
  exact hcount hhigh


/-! ## Signal found -/

theorem State.port_modPort {α : Type} {g : Port → α} {f : Port → Port} (h : ∀ x, g (f x) = g x) (s : State) (n p : Nat) :
    g ((s.modPort n f).port p) = g (s.port p) := by
  unfold State.modPort State.port
  simp only [List.getD_eq_getElem?_getD, List.getElem?_modify]
  cases s.ports[p]? with
  | none => rfl
  | some x => by_cases hn : n = p <;> simp [hn, h]

/-- The messages dropped leave what `g` reads of a port, where it reads no queue. -/
theorem State.port_dropOwnRegs {α : Type} {g : Port → α} (h : ∀ (x : Port) (l : List RegAccess), g { x with queue := l } = g x) (s : State) (n p : Nat) :
    g ((s.dropOwnRegs n).port p) = g (s.port p) := by
  unfold State.dropOwnRegs
  refine Eq.trans ?_ (State.port_modPort (f := fun x : Port => { x with queue := x.queue.filter (fun a => !a.own) }) (fun x => h x _) s n p)
  unfold State.sendReg
  split
  · rfl
  · split
    · rfl
    · exact State.port_modPort (fun x => h x _) _ n p

theorem State.startLinkUp_port {s : State} {p : Nat} (hp : p < s.ports.length) :
    ((s.startLinkUp p).port p).state = 2 ∧ ((s.startLinkUp p).port p).stage = 1 := by
  unfold State.startLinkUp
  generalize hz : (quad p).foldl (fun acc n => (acc.powerLane n).modLane n (fun x =>
    if x.state = 2 ∧ x.signal then { x with state := 3, pseq := none }
    else if x.state = 4 then { x with state := 3, pseq := none } else x)) s = z
  have hfold : ∀ (l : List Nat) (y : State), (l.foldl (fun acc n => (acc.powerLane n).modLane n (fun x =>
      if x.state = 2 ∧ x.signal then { x with state := 3, pseq := none }
      else if x.state = 4 then { x with state := 3, pseq := none } else x)) y).ports = y.ports := by
    intro l
    induction l with
    | nil => exact fun _ => rfl
    | cons n r ih => exact fun y => ih _
  have hports : z.ports = s.ports := by rw [← hz, hfold]
  rw [State.port_dropOwnRegs (g := Port.state) (fun _ _ => rfl), State.port_dropOwnRegs (g := Port.stage) (fun _ _ => rfl),
    State.port_modPort_same (by rw [hports]; exact hp)]
  exact ⟨rfl, rfl⟩

theorem State.laneSignal_syslink {u : State} {n : Nat} (hn : 48 ≤ n) (hs : (u.lane n).state = 2) :
    (u.laneSignal n).lane n = { u.lane n with signal := true, state := 3, pseq := none } ∧ (u.laneSignal n).power = u.power := by
  have hlen : n < u.lanes.length := State.lane_lt_of_state (by omega)
  have hmodel : u.laneSignal n = u.modLane n (fun x => { x with
      signal := true, state := if x.state = 2 then 3 else x.state, pseq := none }) := by
    unfold State.laneSignal
    have hno : ¬ n < 48 := by omega
    simp only [hno, false_and, if_false]
  rw [hmodel, State.lane_modLane_same hlen, if_pos hs]
  exact ⟨rfl, rfl⟩

/-- Signal on a lane of a port that is down starts its link-up (R143). -/
theorem State.laneSignal_down {u : State} {n : Nat} (hn : n < 48) (hs : (u.lane n).state = 2) (hmode : u.num (Obj.portLinkMode (n / 4)) ≠ 0)
    (hp : n / 4 < u.ports.length) (hdown : (u.port (n / 4)).state = 0) (halone : u.lostAlone n = false) :
    ((u.laneSignal n).port (n / 4)).state = 2 ∧ ((u.laneSignal n).port (n / 4)).stage = 1 := by
  have hlen : n < u.lanes.length := State.lane_lt_of_state (by omega)
  generalize hz : u.modLane n (fun x => { x with signal := true, state := if x.state = 2 then 3 else x.state, pseq := none }) = z
  have hlane : (z.lane n).state = 3 := by
    rw [← hz, State.lane_modLane_same hlen]
    exact if_pos hs
  have hport : z.port (n / 4) = u.port (n / 4) := by rw [← hz]; rfl
  have hnum : z.num (Obj.portLinkMode (n / 4)) = u.num (Obj.portLinkMode (n / 4)) := by rw [← hz]; rfl
  have hmodel : u.laneSignal n = (z.startLinkUp (n / 4)).raise (decide (6 ≤ n / 4)) (0x030 + n / 4) 1 := by
    unfold State.laneSignal
    simp only [halone, Bool.false_eq_true, and_false, if_false, hz, hn, hlane, and_self, if_true, hnum, hmode, hport, hdown,
      Nat.reduceEqDiff, or_self, true_or]
  have hraise : ∀ y : State, (y.raise (decide (6 ≤ n / 4)) (0x030 + n / 4) 1).port (n / 4) = y.port (n / 4) := fun y => by
    unfold State.raise State.raiseAt
    split <;> rfl
  rw [hmodel, hraise]
  exact State.startLinkUp_port (by rw [← hz]; exact hp)

/-! ## Alignment -/

theorem State.equalise_rest (s : State) (n : Nat) : (s.equalise n).lanes = s.lanes ∧ (s.equalise n).power = s.power ∧ (s.equalise n).clk = s.clk := by
  unfold State.equalise State.adapt
  dsimp only
  split <;> exact ⟨rfl, rfl, rfl⟩

/-- A lane of the system link aligns (R111, R147). -/
theorem State.laneAligned_syslink {u : State} {n : Nat} (hn : 48 ≤ n) (hs : (u.lane n).state = 3) (hsig : (u.lane n).signal = true) :
    (u.laneAligned n).lane n = { u.lane n with state := 4, pseq := none, lastStatus := u.clk } ∧ (u.laneAligned n).power = u.power ∧
      (u.laneAligned n).num (laneKey n 3) = 21250 := by
  have hlen : n < u.lanes.length := State.lane_lt_of_state (by omega)
  generalize hz : (u.modLane n (fun x => { x with state := 4, pseq := none })).equalise n = z
  obtain ⟨hlanes, hpower, hclk⟩ := State.equalise_rest (u.modLane n (fun x => { x with state := 4, pseq := none })) n
  rw [hz] at hlanes hpower hclk
  have hmodel : u.laneAligned n = (z.putNum (laneKey n 3) 21250).modLane n (fun x => { x with lastStatus := z.clk }) := by
    unfold State.laneAligned
    have hno : ¬ n < 48 := by omega
    simp only [hs, hsig, and_self, if_true, hno, if_false, hz]
  have hlane : z.lane n = { u.lane n with state := 4, pseq := none } := by
    have h := State.lane_modLane_same hlen (fun x : Lane => { x with state := 4, pseq := none })
    unfold State.lane at h ⊢
    rw [hlanes]
    exact h
  rw [hmodel]
  refine ⟨?_, hpower, State.num_putNum_same _ _ _⟩
  rw [State.lane_modLane_same (by
    show n < z.lanes.length
    rw [hlanes, State.modLane_lanes, List.length_modify]
    exact hlen)]
  show ({ z.lane n with lastStatus := z.clk } : Lane) = _
  rw [hlane, hclk]
  rfl

/-- The lost alignment of an aligned lane, by symbols or by a packet (R111, R116). -/
theorem State.alignmentLoss_aligned {u : State} {n : Nat} (crc : Bool) (hn : n < 52) (hs : (u.lane n).state = 4) :
    (u.alignmentLoss n crc).num (laneKey n 9) = satAdd 32 (u.num (laneKey n 9)) 1 ∧ Realigned n u (u.alignmentLoss n crc) := by
  have hlen : n < u.lanes.length := State.lane_lt_of_state (by omega)
  obtain ⟨_, _, hpackets, _, hport, _⟩ := realignObjects n hn
  unfold State.alignmentLoss State.laneReceives
  rw [if_pos (decide_eq_true hs)]
  split
  · have hbump : ∀ z : State, Noted u z → z.num (laneKey n 9) = u.num (laneKey n 9) →
        (z.realign n).num (laneKey n 9) = satAdd 32 (u.num (laneKey n 9)) 1 ∧ Realigned n u (z.realign n) := fun z hz hnum => by
      have hlane : z.lane n = u.lane n := by
        unfold State.lane
        rw [hz.lanes]
      obtain ⟨hstate, hsignal, hlost, hp⟩ := State.realign_lane (s := z) (n := n) (by rw [hz.lanes]; exact hlen)
      exact ⟨by rw [State.realign_count hn, hnum], hstate, by rw [hsignal, hlane], by rw [hlost, hlane], by rw [hp, hz.power]⟩
    unfold State.laneCrc
    dsimp only
    split
    · exact hbump _ ((Noted.bump u _).trans (Noted.bump _ _))
        ((State.num_bump_other _ hport).trans (State.num_bump_other _ hpackets))
    · exact hbump _ (Noted.bump u _) (State.num_bump_other _ hpackets)
  · exact ⟨State.realign_count hn, State.realign_lane hlen⟩

/-! ## The end of an exit -/

theorem laneKey_ne {a b : Nat} (n : Nat) (h : a ≠ b) : laneKey n a ≠ laneKey n b := by
  unfold laneKey objKey
  omega

theorem laneObjects : ∀ n < 52, ownStatus (laneKey n 3) = false ∧ ownStatus (laneKey n 6) = false ∧ ownStatus (laneKey n 7) = false ∧
    ownStatus (laneKey n 9) = false ∧ ownStatus (laneKey n 13) = false ∧ laneKey n 6 ≠ Obj.portLastUnplug (n / 4) ∧
    laneKey n 6 ≠ Obj.portPlugEvents (n / 4) ∧ SameNum.NoFault (laneKey n 13) ∧ laneKey n 13 ≠ Obj.regRetireCause (n / 4) := by
  decide +kernel

theorem SameNum.lanesReviewed {key : Nat} (hown : ownStatus key = false) (s : State) (n : Nat) (hlast : key ≠ Obj.portLastUnplug (n / 4))
    (hplug : key ≠ Obj.portPlugEvents (n / 4)) : SameNum key s (s.lanesReviewed n) := by
  have hunplug : SameNum key s (s.unplug (n / 4)) := by
    refine SameNum.trans ?_ ((Settled.raise _ _ _ _).num hown)
    refine SameNum.trans ?_ (alert hown _ (by decide))
    exact SameNum.trans (SameNum.trans (dropOwnRegs (s.modPort (n / 4) _) (n / 4)) (putNum _ _ hlast)) (bump _ hplug)
  exact ite (refl s) (ite hunplug (endTraining s _))

theorem State.laneExit_dark {u : State} {n : Nat} (hn : n < 52) (he : (u.lane n).exiting = true) (hs : (u.lane n).state ≤ 1)
    (hsig : (u.lane n).signal = false) :
    (u.laneExit n).lane n = { u.lane n with
      exiting := false, state := 2, pseq := none, lostAt := u.clk, lowEyeSince := none, alone := false } ∧
    (u.laneExit n).power = u.power ∧ (u.laneExit n).num (laneKey n 6) = 0 := by
  obtain ⟨_, hown, _, _, _, hlast, hplug, _⟩ := laneObjects n hn
  have hlen : n < u.lanes.length := State.lane_lt (fun h => by rw [h] at he; exact absurd he (by decide))
  have hmodel : u.laneExit n = (u.darkLane n).lanesReviewed n := by
    unfold State.laneExit
    dsimp only
    rw [if_pos ⟨he, by omega⟩, hsig]
    rfl
  have hported := Ported.lanesReviewed (u.darkLane n) n
  rw [hmodel]
  refine ⟨(hported.lane n).trans ?_, hported.power, Eq.trans (SameNum.lanesReviewed hown _ n hlast hplug) (State.num_putNum_same u _ _)⟩
  rw [State.darkLane_lane hlen]

/-! ## Eyes -/

/-- A lane is aligned after its lone loss of signal was taken account of as it was before. -/
theorem State.eyeMeasured_values {u : State} {n : Nat} (height width : Nat) (hs : (u.lane n).state = 2 ∨ (u.lane n).state = 4) :
    (u.eyeMeasured n height width).num (laneKey n 6) = (if (u.lane n).state = 2 then 0 else height) ∧
      (u.eyeMeasured n height width).num (laneKey n 7) = width := by
  have hlen : n < u.lanes.length := State.lane_lt_of_state (by omega)
  have hvalues : ∀ (z : State) (h : Nat), ((z.putNum (laneKey n 6) h).putNum (laneKey n 7) width).num (laneKey n 6) = h ∧
      ((z.putNum (laneKey n 6) h).putNum (laneKey n 7) width).num (laneKey n 7) = width := fun z h =>
    ⟨(State.num_putNum_other _ _ (laneKey_ne n (by decide))).trans (State.num_putNum_same _ _ _), State.num_putNum_same _ _ _⟩
  unfold State.eyeMeasured
  generalize hz : (if u.lostAlone n && decide ((u.lane n).lostAt + 10000000 < u.clk) then u.loneLoss n else u) = z
  have hstate : (if (z.lane n).state = 4 then height else 0) = if (u.lane n).state = 2 then 0 else height := by
    rcases hs with hs | hs
    · have hnot : (z.lane n).state ≠ 4 := by
        rw [← hz]
        split
        · exact (State.loneLoss_lane hlen).state
        · omega
      rw [if_neg hnot, if_pos hs]
    · have halone : u.lostAlone n = false := by
        unfold State.lostAlone
        simp [hs]
      rw [halone] at hz
      rw [← hz, if_neg (by omega : ¬ (u.lane n).state = 2)]
      exact if_pos hs
  rw [← hstate]
  exact hvalues z _

theorem State.eyeRound_values {u : State} {n : Nat} (height width : Nat) (hs : (u.lane n).state = 4 ∨ (u.lane n).state = 2) :
    (u.eyeRound n height width).num (laneKey n 6) = (if (u.lane n).state = 2 then 0 else min 1000 height) ∧
      (u.eyeRound n height width).num (laneKey n 7) = min 64 width := by
  obtain ⟨hheight, hwidth⟩ := State.eyeMeasured_values (u := u) (n := n) (min 1000 height) (min 64 width) hs.symm
  have hadapt : ∀ (z : State) (sub : Nat), sub ≠ 5 → (z.adapt n).num (laneKey n sub) = z.num (laneKey n sub) := fun z sub hsub => by
    unfold State.adapt
    split
    · rfl
    · exact State.num_putNum_other _ _ (laneKey_ne n hsub)
  unfold State.eyeRound
  rw [if_pos hs.symm]
  unfold State.eyeTaken
  dsimp only
  split
  · rw [hadapt _ 6 (by decide), hadapt _ 7 (by decide)]
    exact ⟨hheight, hwidth⟩
  · exact ⟨hheight, hwidth⟩

theorem State.eyeFloor_due {u : State} {n since : Nat} (hs : (u.lane n).lowEyeSince = some since) (hdue : since + 1000000000 ≤ u.clk) :
    u.eyeFloor n = u.retireLane n 2 := by
  unfold State.eyeFloor
  rw [hs]
  exact if_pos hdue

/-! ## Retired lanes -/

/-- A unit once retired stays so. -/
def StaysRetired (unit inst : Nat) (a b : State) : Prop := a.retired unit inst = true → b.retired unit inst = true

namespace StaysRetired

variable {unit inst : Nat}

theorem refl (a : State) : StaysRetired unit inst a a := id
theorem trans {a b c : State} (h : StaysRetired unit inst a b) (k : StaysRetired unit inst b c) : StaysRetired unit inst a c := fun r => k (h r)
theorem ite {p : Prop} [Decidable p] {s a b : State} (ha : StaysRetired unit inst s a) (hb : StaysRetired unit inst s b) :
    StaysRetired unit inst s (if p then a else b) := by
  split <;> assumption
theorem of_faults {a b : State} (h : b.ctl.faults.retired = a.ctl.faults.retired) : StaysRetired unit inst a b := fun r => by
  unfold State.retired at r ⊢
  rwa [h]

theorem alert (s : State) {bit : Nat} (h : bit < 255) : StaysRetired unit inst s (s.alert bit) :=
  of_faults (congrArg (fun s : State => s.ctl.faults.retired) (Settled.alert s bit h).same :)

theorem logPut (s : State) (kind u i cause count : Nat) (detail : Bytes) :
    StaysRetired unit inst s (s.logPut kind u i cause count detail) := by
  unfold State.logPut
  dsimp only
  split
  · exact of_faults rfl
  · split
    · exact trans (of_faults (b := s.bump Obj.logSuppressed) rfl) (alert _ (by decide))
    · split <;> exact of_faults rfl

/-- The unit that retires is entered, and stays so through its record and its alert. -/
theorem retire_after (s : State) (u i cause : Nat) (detail : Bytes) (hs : s.retired u i = false)
    (h : (s.ctl.faults.retired ++ [(u, i)]).contains (unit, inst) = true) : (s.retire u i cause detail).retired unit inst = true := by
  unfold State.retire
  rw [if_neg (by simp [hs])]
  refine alert _ (by decide) (logPut _ _ _ _ _ _ _ ?_)
  exact h

theorem retire (s : State) (u i cause : Nat) (detail : Bytes) : StaysRetired unit inst s (s.retire u i cause detail) := by
  intro h
  by_cases hs : s.retired u i = true
  · unfold State.retire
    rwa [if_pos hs]
  · refine retire_after s u i cause detail (by simpa using hs) ?_
    unfold State.retired at h
    rw [List.contains_iff_mem] at h ⊢
    exact List.mem_append_left _ h

theorem retire_self (s : State) (cause : Nat) (detail : Bytes) : (s.retire unit inst cause detail).retired unit inst = true := by
  by_cases hs : s.retired unit inst = true
  · exact retire s unit inst cause detail hs
  · refine retire_after s unit inst cause detail (by simpa using hs) ?_
    rw [List.contains_iff_mem]
    exact List.mem_append_right _ (List.mem_singleton_self _)

theorem sendReg (s : State) (p : Nat) : StaysRetired unit inst s (s.sendReg p) := by
  unfold State.sendReg
  split
  · exact refl s
  · exact ite (refl s) (of_faults rfl)

theorem dropOwnRegs (s : State) (p : Nat) : StaysRetired unit inst s (s.dropOwnRegs p) :=
  trans (of_faults (b := s.modPort p _) rfl) (sendReg _ p)

theorem retirePort (s : State) (p cause : Nat) : StaysRetired unit inst s (s.retirePort p cause) := by
  have hregion : ∀ z : State, StaysRetired unit inst z (z.retireRegion p cause) := fun z =>
    ite (refl z) ((retire z _ _ _ _).trans (of_faults rfl))
  refine ite (refl s) (trans ?_ (hregion _))
  refine trans ?_ (dropOwnRegs _ p)
  exact (retire s _ _ _ _).trans (of_faults rfl)

theorem modPort (s : State) (p : Nat) (f : Port → Port) : StaysRetired unit inst s (s.modPort p f) := of_faults rfl
theorem queueReg (s : State) (p : Nat) (a : RegAccess) : StaysRetired unit inst s (s.queueReg p a) := of_faults rfl

theorem startDiscovery (s : State) (p : Nat) : StaysRetired unit inst s (s.startDiscovery p) :=
  ite ((((modPort s p _).trans (queueReg _ p _)).trans (queueReg _ p _)).trans (sendReg _ p))
    (((modPort s p _).trans (queueReg _ p _)).trans (sendReg _ p))

theorem laneGone (s : State) (n : Nat) : StaysRetired unit inst s (s.laneGone n) := by
  have hdegrade : StaysRetired unit inst s (s.degradePort (n / 4)) := by
    unfold State.degradePort
    split
    · exact retirePort s _ _
    · exact trans (modPort s (n / 4) _) (startDiscovery _ _)
  have htraining : StaysRetired unit inst s (s.endTraining (n / 4)) :=
    ite (trans (modPort s (n / 4) _) (startDiscovery _ _)) (refl s)
  exact ite (refl s) (ite (retirePort s _ _) (ite hdegrade htraining))

end StaysRetired

/-- An aligned lane retires with its cause (R116). -/
theorem State.retireLane_retired {u : State} {n : Nat} (cause : Nat) (hn : n < 52) (hs : (u.lane n).state = 4) :
    (u.retireLane n cause).num (laneKey n 13) = cause ∧ (u.retireLane n cause).retired (laneUnit n) (laneInst n) = true := by
  obtain ⟨_, _, _, _, _, _, _, hfault, hregion⟩ := laneObjects n hn
  unfold State.retireLane
  rw [if_neg (by omega)]
  dsimp only
  generalize hz : (u.modLane n (fun x => { x with state := 5, exiting := false, lowEyeSince := none })).keepOwn (laneKey n 13) (.num cause) = z
  have hnum : z.num (laneKey n 13) = cause := by
    rw [← hz]
    unfold State.num State.val State.valIn
    rw [show Kv.get? (State.keepOwn _ (laneKey n 13) (.num cause)).dict.inForce (laneKey n 13) = some (.num cause) from Kv.get?_put_same _ _ _]
    rfl
  have hcause := Eq.trans (SameNum.retire hfault z (laneUnit n) (laneInst n) cause (u.laneDetail n)) hnum
  have hretired := StaysRetired.retire_self (unit := laneUnit n) (inst := laneInst n) z cause (u.laneDetail n)
  split
  · exact ⟨Eq.trans (SameNum.laneGone hfault _ n hregion) hcause, StaysRetired.laneGone _ n hretired⟩
  · exact ⟨hcause, hretired⟩

theorem Settled.retired {a t : State} (h : Settled a t) (unit inst : Nat) : t.retired unit inst = a.retired unit inst :=
  (congrArg (fun s : State => s.retired unit inst) h.same :)

/-- Settles O33. -/
theorem lanesSignalAndEyes : Obligations.LanesSignalAndEyes := by
  unfold Obligations.LanesSignalAndEyes
  refine ⟨?_, ?_⟩
  · intro dt n s
    refine fun hruns hfit htarget => ?_
    have hn := State.laneFitted_lt hfit
    have hadmits : ((s.advance dt).unitsRun && (s.advance dt).laneFitted n) = true := by rw [hruns, hfit]; rfl
    obtain ⟨hown3, hown6, _, hown9, _⟩ := laneObjects n hn
    refine ⟨fun hs => ?_, fun hs hhigh => ?_, fun hs hlow hmode hp hdown halone => ?_, fun hs hsig hhigh => ?_, fun crc hs => ?_,
      fun he hs hsig => ?_⟩
    · obtain ⟨hstate, hcamera, hsignal, hlost, hpower, hcount⟩ := State.laneNoSignal_lane (u := s.advance dt) hn hs
      refine State.run_still (exec_noSignal s dt n) hadmits ((congrArg PowerSys.target hpower).trans htarget) (fun t ht hstill => ?_)
      obtain ⟨hst, hsg, hlo, _, _⟩ := Lane.unsettled_state (hstill.lane n)
      rw [hst, hsg, hlo]
      exact ⟨hcamera, hstate, hsignal, hlost, fun hhigh => (ht.num hown9).trans (hcount hhigh)⟩
    · obtain ⟨hlane, hpower⟩ := State.laneSignal_syslink (u := s.advance dt) hhigh hs
      refine State.run_still (exec_signalDetect s dt n) hadmits ((congrArg PowerSys.target hpower).trans htarget) (fun t _ hstill => ?_)
      exact (hstill.lane n).trans (congrArg Lane.unsettled hlane)
    · refine State.run_completes (exec_signalDetect s dt n) hadmits (fun t ht _ _ => ?_)
      rw [ht.port]
      exact State.laneSignal_down hlow hs hmode hp hdown halone
    · obtain ⟨hlane, hpower, hrate⟩ := State.laneAligned_syslink (u := s.advance dt) hhigh hs hsig
      refine State.run_still (exec_aligned s dt n) hadmits ((congrArg PowerSys.target hpower).trans htarget) (fun t ht hstill => ?_)
      exact ⟨(hstill.lane n).trans (congrArg Lane.unsettled hlane), (ht.num hown3).trans hrate⟩
    · obtain ⟨hcount, hrealigned⟩ := State.alignmentLoss_aligned (u := s.advance dt) crc hn hs
      refine State.run_still (exec_alignmentLoss s dt n crc) hadmits ((congrArg PowerSys.target hrealigned.power).trans htarget)
        (fun t ht hstill => ⟨(ht.num hown9).trans hcount, ?_⟩)
      obtain ⟨hst, _⟩ := Lane.unsettled_state (hstill.lane n)
      rw [hst]
      exact hrealigned.state
    · obtain ⟨hlane, hpower, hheight⟩ := State.laneExit_dark (u := s.advance dt) hn he hs hsig
      refine State.run_still (exec_laneExit s dt n) hadmits ((congrArg PowerSys.target hpower).trans htarget)
        (fun t ht hstill => ⟨(hstill.lane n).trans (congrArg Lane.unsettled hlane), (ht.num hown6).trans hheight⟩)
  · intro dt n s
    refine fun hruns hfit => ?_
    have hn := State.laneFitted_lt hfit
    have hadmits : ((s.advance dt).unitsRun && (s.advance dt).laneFitted n) = true := by rw [hruns, hfit]; rfl
    obtain ⟨_, hown6, hown7, _, hown13, _⟩ := laneObjects n hn
    refine ⟨fun height width hs => ?_, fun since hsince hdue hs htarget => ?_, fun x counts hscan => ?_⟩
    · obtain ⟨hheight, hwidth⟩ := State.eyeRound_values (u := s.advance dt) height width hs
      exact State.run_completes (exec_eyeMeasure s dt n height width) hadmits
        (fun t ht _ _ => ⟨(ht.num hown6).trans hheight, (ht.num hown7).trans hwidth⟩)
    · have hdark := State.eyeFloor_due (u := s.advance dt) hsince hdue
      obtain ⟨hcause, hretired⟩ := State.retireLane_retired (u := s.advance dt) 2 hn hs
      obtain ⟨hrealigned, hstate⟩ := State.retireLane_lane (s := s.advance dt) (n := n) 2 (State.lane_lt_of_state (by omega))
      refine State.run_still (exec_eyeFloor s dt n) hadmits ?_ (fun t ht hstill => ?_)
      · rw [hdark, hrealigned.power]
        exact htarget
      · rw [hdark] at ht hstill
        obtain ⟨hst, _⟩ := Lane.unsettled_state (hstill.lane n)
        exact ⟨hst.trans hstate, (ht.num hown13).trans hcause, (ht.retired _ _).trans hretired⟩
    · refine ⟨fun hs => ?_, fun hs => ?_⟩
      · refine State.run_settled (exec_eyeScanDone s dt counts) hruns ?_
        unfold State.scanDone
        rw [hscan]
        exact if_pos hs
      · refine State.run_settled (exec_eyeScanDone s dt counts) hruns ?_
        unfold State.scanDone
        rw [hscan]
        exact if_neg hs

end Sys2Proof.Machine
end

section
/-! PROOFS. Packets of the system link (O36). -/

namespace Sys2Proof.Machine

/-! ## Packets that wait on a lane -/

/-- What the settling does to a lane of the system link before packets leave: it may put packets behind those that wait. -/
structure Joined (n : Nat) (a b : State) : Prop where
  lane : ∃ l, b.lane n = { a.lane n with waiting := (a.lane n).waiting ++ l }
  state : b.power.state = a.power.state
  target : b.power.target = a.power.target

namespace Joined

variable {n : Nat}

theorem of_lane {a b : State} (h : b.lane n = a.lane n) (hs : b.power.state = a.power.state) (ht : b.power.target = a.power.target) :
    Joined n a b := ⟨⟨[], by rw [h, List.append_nil]⟩, hs, ht⟩
theorem refl (a : State) : Joined n a a := of_lane rfl rfl rfl
theorem trans {a b c : State} (h : Joined n a b) (k : Joined n b c) : Joined n a c := by
  obtain ⟨l, hl⟩ := h.lane
  obtain ⟨m, hm⟩ := k.lane
  exact ⟨⟨l ++ m, by rw [hm, hl, List.append_assoc]⟩, k.state.trans h.state, k.target.trans h.target⟩
theorem ite {p : Prop} [Decidable p] {s a b : State} (ha : Joined n s a) (hb : Joined n s b) : Joined n s (if p then a else b) := by
  split <;> assumption
theorem fold {α : Type} {f : State → α → State} (h : ∀ s x, Joined n s (f s x)) (l : List α) (s : State) : Joined n s (l.foldl f s) := by
  induction l generalizing s with
  | nil => exact refl s
  | cons x r ih => exact (h s x).trans (ih (f s x))

theorem of_noted {a b : State} (h : Noted a b) : Joined n a b :=
  of_lane (Ported.of_noted h |>.lane n) (congrArg PowerSys.state h.power) (congrArg PowerSys.target h.power)

theorem modView (s : State) (v : Nat) (f : View → View) : Joined n s (s.modView v f) := of_lane rfl rfl rfl
theorem bump (s : State) (key : Nat) : Joined n s (s.bump key) := of_noted (.bump s key)

/-- What a lane takes behind its packets. -/
theorem sendLink (s : State) (m kind flags index offset byte12 : Nat) (payload : Bytes) :
    Joined n s (s.sendLink m kind flags index offset byte12 payload) := by
  refine ite ⟨?_, rfl, rfl⟩ (refl s)
  unfold State.lane State.modLane
  simp only [List.getD_eq_getElem?_getD, List.getElem?_modify]
  cases s.lanes[n]? with
  | none => exact ⟨[], by simp⟩
  | some x =>
    by_cases hm : m = n
    · exact ⟨[⟨kind, flags, index, offset, byte12, payload, s.clk⟩], by simp [hm]⟩
    · exact ⟨[], by simp [hm]⟩

theorem lapseEvent (s : State) (bit : Nat) : Joined n s (s.lapseEvent bit) := by
  unfold State.lapseEvent
  refine trans (ite (refl s) (of_noted (Noted.lapse s bit))) (of_lane rfl rfl rfl)

theorem markWaits (s : State) : Joined n s s.markWaits := fold (fun z v => ite (modView z v _) (refl z)) _ s

theorem enqueueComet (s : State) (v : Nat) (c : Comet) : Joined n s (s.enqueueComet v c) :=
  ite ((of_noted (((Noted.bump s _).trans (Noted.orFlags _ _ _)).trans (Noted.alert _ _))).trans (lapseEvent _ _))
    ((modView s v _).trans (markWaits _))

theorem endBlob (s : State) (v : Nat) (b : Blob) : Joined n s (s.endBlob v b) := by
  have hclose : Joined n s (s.closeBlob v b) :=
    ite (bump s _) ((of_noted ((Noted.bump s _).trans (Noted.bumpIf _ _ _))).trans (enqueueComet _ v _))
  exact ite (fold (fun z _ => sendLink z _ _ _ _ _ _ _) _ s) hclose

theorem forceClose (s : State) (v flags : Nat) (which : Blob → Bool) : Joined n s (s.forceClose v flags which) :=
  (modView s v _).trans (fold (fun z _ => (bump z _).trans (endBlob _ v _)) _ _)

theorem closeFinished (s : State) (v : Nat) : Joined n s (s.closeFinished v) :=
  (modView s v _).trans (fold (fun z b => endBlob z v b) _ _)

theorem seamLost (s : State) (v : Nat) : Joined n s (s.seamLost v) := by
  refine trans ?_ (closeFinished _ v)
  refine trans ?_ (modView _ v _)
  exact (forceClose s v _ _).trans (of_noted (Noted.putNum _ _ _))

theorem closePortless (s : State) (v : Nat) : Joined n s (s.closePortless v) :=
  ite (trans (ite ((forceClose s v _ _).trans (modView _ v _)) (refl s)) (modView _ v _)) (refl s)

theorem seamsReviewed (s : State) : Joined n s s.seamsReviewed :=
  fold (fun z v => (closePortless z v).trans (ite (seamLost _ v) (refl _))) _ s

theorem giveUnits (s : State) : Joined n s s.giveUnits := by
  refine ite (refl s) (fold (fun z t => fold (fun y b => ?_) _ z) _ s)
  unfold State.giveUnit
  split
  · split
    · exact refl y
    · split
      · exact of_lane rfl rfl rfl
      · exact refl y
  · exact refl y

theorem reviewViews (s : State) : Joined n s s.reviewViews :=
  fold (fun z v => ite ((modView z v _).trans (of_noted (Noted.alert _ _))) (modView z v _)) _ s

theorem reviewGuarantee (s : State) : Joined n s s.reviewGuarantee :=
  (fold (fun z b => ite (of_noted (Noted.lapse z b)) (refl z)) _ s).trans (of_lane rfl rfl rfl)

end Joined

/-- The state a command leaves, before the packets that waited leave (R146). -/
def State.reviewed (s before : State) : State :=
  let s1 := if s.unitsRun then s.giveUnits.seamsReviewed else s
  let s2 := if s1.ctl.mode.operating then
      ((((s1.reviewViews).reviewCapacity before).reviewGuarantee).retestStep).pruneSets
    else s1
  if s2.power.powered then s2.lampReview else s2

theorem State.settle_reviewed (s before : State) : s.settle before = (s.reviewed before).drained := rfl

theorem State.reviewed_clk (s before : State) : (s.reviewed before).clk = s.clk := by
  have hdrained : ((s.reviewed before).drained).clk = (s.reviewed before).clk :=
    Quiet.drained (g := State.clk) (by constructor <;> intros <;> rfl) _
  rw [← hdrained, ← State.settle_reviewed]
  exact (Timed.settle s before).clk

/-- A lane before packets leave, where no power step waits. -/
theorem State.reviewed_lane (s before : State) (n : Nat) (h : s.power.target = none) :
    ∃ l, (s.reviewed before).lane n = { s.lane n with waiting := (s.lane n).waiting ++ l } := by
  have hunits : Joined n s (if s.unitsRun then s.giveUnits.seamsReviewed else s) :=
    .ite ((Joined.giveUnits s).trans (.seamsReviewed _)) (.refl s)
  unfold State.reviewed
  dsimp only
  generalize (if s.unitsRun then s.giveUnits.seamsReviewed else s) = z at hunits
  have hreview : Joined n z (((z.reviewViews).reviewCapacity before).reviewGuarantee) :=
    ((Joined.reviewViews z).trans (.of_noted (Noted.reviewCapacity _ before))).trans (.reviewGuarantee _)
  generalize ((z.reviewViews).reviewCapacity before).reviewGuarantee = y at hreview
  have hlane : (y.retestStep).lane n = y.lane n := by
    by_cases hd : y.power.state = .doze
    · unfold State.lane
      rw [(State.retestStep_doze hd).2]
    · rw [State.retestStep_none hd (hreview.target.trans (hunits.target.trans h))]
  obtain ⟨l, hl⟩ := (hunits.trans hreview).lane
  have hlamps : ∀ x : State, (if x.power.powered then x.lampReview else x).lane n = x.lane n := fun x => by
    split <;> rfl
  rw [hlamps]
  split
  · exact ⟨l, hlane.trans hl⟩
  · exact hunits.lane

/-! ## Packets that leave -/

/-- A packet waits first on lane `n`, which is free, or it has left. -/
def State.Leaving (n : Nat) (x : Lane) (q : LinkTx) (s : State) : Prop :=
  Emission.linkPacket n q.kind q.flags q.index q.offset q.byte12 x.sent q.payload ∈ s.out ∨
    ∃ rest, s.lane n = { x with waiting := q :: rest } ∧ x.linkFree ≤ 17 * s.clk

theorem State.linkDrain_other {s : State} {n m : Nat} (h : m ≠ n) : (s.linkDrain m).lane n = s.lane n ∧ (s.linkDrain m).clk = s.clk := by
  have hmod : ∀ (z : State) (f : Lane → Lane), (z.modLane m f).lane n = z.lane n := fun z f => by
    unfold State.lane State.modLane
    simp only [List.getD_eq_getElem?_getD, List.getElem?_modify, if_neg h]
    simp
  have hdrain : ∀ k (z : State), (z.linkDrainN m k).lane n = z.lane n ∧ (z.linkDrainN m k).clk = z.clk := by
    intro k
    induction k with
    | zero => exact fun _ => ⟨rfl, rfl⟩
    | succ k ih =>
      intro z
      unfold State.linkDrainN
      dsimp only
      split
      · exact ⟨rfl, rfl⟩
      · split
        · exact ⟨rfl, rfl⟩
        · obtain ⟨hl, hc⟩ := ih ((z.modLane m _).emit _)
          exact ⟨hl.trans (hmod z _), hc⟩
  unfold State.linkDrain
  dsimp only
  split
  · exact hdrain _ s
  · split
    · exact ⟨rfl, rfl⟩
    · exact ⟨hmod s _, rfl⟩

/-- The first packet of a free lane leaves it (R146). -/
theorem State.linkDrain_first {s : State} {n : Nat} {x : Lane} {q : LinkTx} {rest : List LinkTx} (hl : s.lane n = { x with waiting := q :: rest })
    (hlow : 2 ≤ x.state) (hhigh : x.state ≤ 4) (hfree : x.linkFree ≤ 17 * s.clk) (hkind : q.kind ≠ 0x10) :
    Emission.linkPacket n q.kind q.flags q.index q.offset q.byte12 x.sent q.payload ∈ (s.linkDrain n).out := by
  unfold State.linkDrain
  dsimp only
  rw [hl]
  dsimp only
  rw [if_pos ⟨hlow, hhigh⟩, List.length_cons]
  unfold State.linkDrainN
  dsimp only
  rw [hl]
  dsimp only
  rw [if_neg (by omega)]
  have hnext : linkNext (q :: rest) = some q := by
    unfold linkNext
    rw [List.find?_cons_of_pos (by simpa using hkind)]
  rw [hnext]
  exact (Settled.linkDrainN _ n _).mem_out (State.mem_emit _ _)

theorem State.drained_leaving {s : State} {n : Nat} {x : Lane} {q : LinkTx} (hn : 48 ≤ n) (hn' : n < 52) (hlow : 2 ≤ x.state) (hhigh : x.state ≤ 4)
    (hkind : q.kind ≠ 0x10) (h : s.Leaving n x q) :
    Emission.linkPacket n q.kind q.flags q.index q.offset q.byte12 x.sent q.payload ∈ s.drained.out := by
  have hstep : ∀ (z : State) (m : Nat), z.Leaving n x q → (z.linkDrain m).Leaving n x q := by
    intro z m hz
    rcases hz with hout | ⟨rest, hl, hfree⟩
    · exact .inl ((Settled.linkDrain z m).mem_out hout)
    · by_cases hm : m = n
      · subst hm
        exact .inl (State.linkDrain_first hl hlow hhigh hfree hkind)
      · obtain ⟨hlane, hclk⟩ := State.linkDrain_other (s := z) hm
        exact .inr ⟨rest, hlane.trans hl, by rw [hclk]; exact hfree⟩
  have hfold : ∀ (l : List Nat) (z : State), z.Leaving n x q → n ∈ l →
      Emission.linkPacket n q.kind q.flags q.index q.offset q.byte12 x.sent q.payload ∈ (l.foldl State.linkDrain z).out := by
    intro l
    induction l with
    | nil => exact fun _ _ hmem => absurd hmem List.not_mem_nil
    | cons m r ih =>
      intro z hz hmem
      have hdone : ∀ y : State, Emission.linkPacket n q.kind q.flags q.index q.offset q.byte12 x.sent q.payload ∈ y.out →
          Emission.linkPacket n q.kind q.flags q.index q.offset q.byte12 x.sent q.payload ∈ (r.foldl State.linkDrain y).out := fun y hy =>
        (Settled.fold Settled.linkDrain r y).mem_out hy
      rcases List.mem_cons.mp hmem with he | hr
      · subst he
        rcases hz with hout | ⟨rest, hl, hfree⟩
        · exact hdone _ ((Settled.linkDrain z _).mem_out hout)
        · exact hdone _ (State.linkDrain_first hl hlow hhigh hfree hkind)
      · exact ih _ (hstep z m hz) hr
  have hmem : n ∈ rangeFrom 48 4 := by
    unfold rangeFrom
    rw [List.mem_map]
    exact ⟨n - 48, List.mem_range.mpr (by omega), by omega⟩
  exact ((Settled.ethDrain (s.linksDrain) 0 (by decide)).trans (Settled.ethDrain _ 1 (by decide))).mem_out (hfold _ s h hmem)

/-! ## The time before a command -/

/-- What serving HBM requests leaves: all but the HBM system, the histograms in the views, and what notices move (R382 to R400). -/
structure Stored (a b : State) : Prop where
  rest : Noted a ({ b with hbm := a.hbm, views := a.views } : State)

namespace Stored

theorem of_noted {a b : State} (h : Noted a b) : Stored a b := by
  refine ⟨⟨?_⟩⟩
  exact (congrArg (fun s : State => ({ s with hbm := a.hbm, views := a.views } : State)) h.rest :)
theorem refl (a : State) : Stored a a := of_noted (Noted.refl a)
theorem trans {a b c : State} (h : Stored a b) (k : Stored b c) : Stored a c := by
  refine ⟨⟨?_⟩⟩
  have e := congrArg (fun s : State => ({ s with
    hbm := a.hbm, views := a.views, out := a.out, ctl := a.ctl, dict := a.dict, eths := a.eths, fabric := a.fabric } : State)) k.rest.rest
  exact e.trans h.rest.rest
theorem ite {p : Prop} [Decidable p] {s a b : State} (ha : Stored s a) (hb : Stored s b) : Stored s (if p then a else b) := by
  split <;> assumption
theorem fold {α : Type} {f : State → α → State} (h : ∀ s x, Stored s (f s x)) (l : List α) (s : State) : Stored s (l.foldl f s) := by
  induction l generalizing s with
  | nil => exact refl s
  | cons x r ih => exact (h s x).trans (ih (f s x))

theorem modHbm (s : State) (f : Hbm → Hbm) : Stored s (s.modHbm f) := ⟨⟨rfl⟩⟩
theorem modView (s : State) (v : Nat) (f : View → View) : Stored s (s.modView v f) := ⟨⟨rfl⟩⟩
theorem modPch (s : State) (n : Nat) (f : Pch → Pch) : Stored s (s.modPch n f) := ⟨⟨rfl⟩⟩
theorem modRing (s : State) (r : Nat) (f : Ring → Ring) : Stored s (s.modRing r f) := ⟨⟨rfl⟩⟩
theorem setTransfer (s : State) (x : Option Transfer) : Stored s { s with ctl := { s.ctl with transfer := x } } := ⟨⟨rfl⟩⟩
theorem modFaults (s : State) (f : Faults) : Stored s { s with ctl := { s.ctl with faults := f } } := ⟨⟨rfl⟩⟩
theorem putVal (s : State) (key : Nat) (v : Val) : Stored s (s.putVal key v) := of_noted (.putVal s key v)
theorem modEth (s : State) (p : Nat) (f : Eth → Eth) : Stored s (s.modEth p f) := of_noted (.modEth s p f)
theorem bump (s : State) (key : Nat) : Stored s (s.bump key) := of_noted (.bump s key)
theorem bumpIf (s : State) (c : Bool) (key : Nat) : Stored s (s.bumpIf c key) := of_noted (.bumpIf s c key)

theorem of_touched {a b : State} (h : Touched a b) : Stored a b := by
  refine ⟨⟨?_⟩⟩
  exact (congrArg (fun s : State => ({ s with
    views := a.views, out := a.out, ctl := a.ctl, dict := a.dict, eths := a.eths, fabric := a.fabric } : State)) h.rest :)

theorem relayStatic (s : State) (k position n : Nat) : Stored s (s.relayStatic k position n) := by
  have hcleared : ∀ l : List (Nat × Nat), Stored s (l.foldl (fun acc q =>
      (acc.modView q.1 (fun w => { w with hist := w.hist.set q.2 [] })).bump Obj.hbmHistLost) s) :=
    fun l => fold (fun z _ => (modView z _ _).trans (bump _ _)) l s
  exact ite ((hcleared _).trans (setTransfer _ _)) (hcleared _)

theorem dropRecord (s : State) (pch pa : Nat) : Stored s (s.dropRecord pch pa) := by
  refine fold (fun z p => ?_) _ s
  dsimp only
  split
  · split
    · split
      · exact (modEth z p _).trans (bumpIf _ _ _)
      · exact modEth z p _
    · exact refl z
  · exact refl z

theorem hbmRewrite (s : State) (n pa t : Nat) : Stored s (s.hbmRewrite n pa t) := ite (refl s) (modHbm s _)

theorem dataError (s : State) (port pch pa : Nat) : Stored s (s.dataError port pch pa) := by
  unfold State.dataError
  refine ite (ite (dropRecord s pch pa) (ite (modHbm s _) (hbmRewrite s _ _ _))) ?_
  split
  · exact ite (modHbm s _) (refl s)
  · exact ite (ite (modRing s _ _) (bump s _)) (ite (bump s _) (ite (modHbm s _) (refl s)))

theorem deadAccess (s : State) (port pch pa : Nat) (write : Bool) : Stored s (s.deadAccess port pch pa write) := by
  unfold State.deadAccess
  split
  · exact (dataError s port pch pa).trans (bumpIf _ _ _)
  · exact ite (refl s) (dataError s port pch pa)

theorem endRequests (s : State) (n : Nat) : Stored s (s.endRequests n) :=
  (modHbm s _).trans (fold (fun z _ => deadAccess z _ _ _ _) _ _)

theorem retirePch (s : State) (n cause : Nat) (detail : Bytes) : Stored s (s.retirePch n cause detail) :=
  ite (refl s) ((((of_noted ((Noted.retire s Unit.pch n cause detail).trans (Noted.keepOwn _ _ _))).trans (modPch _ n _)).trans
    (relayStatic _ _ _ _)).trans ((modHbm _ _).trans (endRequests _ _)))

theorem hbmCorrected (s : State) (n port pa syndrome : Nat) : Stored s (s.hbmCorrected n port pa syndrome) := by
  have hcounted : ∀ (f : Faults) (v : Val), Stored s (({ s.bump (Obj.pchCorrected n) with ctl := { (s.bump (Obj.pchCorrected n)).ctl with
      faults := f } } : State).putVal Obj.hbmLastError v) := fun f v => ((bump s _).trans (modFaults _ f)).trans (putVal _ _ v)
  exact ite ((hcounted _ _).trans (retirePch _ _ _ _)) (hcounted _ _)

theorem hbmUpset (s : State) (n kind port pa syndrome word : Nat) : Stored s (s.hbmUpset n kind port pa syndrome word) := by
  have hnoted : ∀ d window, Stored s
      (((if kind = 1 then s.bump (Obj.pchUncorrectable n) else s).putVal Obj.hbmLastError (.bytes d)).upset Unit.pch n window d) :=
    fun d window => ((ite (bump s _) (refl s)).trans (putVal _ _ _)).trans (of_noted (Noted.upset _ _ _ _ _))
  exact ite ((hnoted _ _).trans (retirePch _ _ _ _)) (hnoted _ _)

theorem hbmComplete (s : State) (r : HbmReq) (t : Nat) : Stored s (s.hbmComplete r t) := by
  have hserved : Stored s (s.hbmServed r.port r.pch (t - r.arrived) t r.waitedSr) := of_touched (Touched.hbmServed s r.port r.pch (t - r.arrived) t r.waitedSr)
  unfold State.hbmComplete
  dsimp only
  split
  · exact hserved.trans (modHbm _ _)
  · exact ite (hserved.trans (modHbm _ _)) (((hserved.trans (modHbm _ _)).trans (hbmCorrected _ _ _ _ _)).trans (hbmRewrite _ _ _ _))
  · exact (hserved.trans (modHbm _ _)).trans (bump _ _)
  · exact ite (hserved.trans (modHbm _ _)) ((hserved.trans (hbmUpset _ _ _ _ _ _ _)).trans (dataError _ _ _ _))
  · exact ((hserved.trans (bump _ _)).trans (hbmUpset _ _ _ _ _ _ _)).trans (dataError _ _ _ _)

theorem hbmServe (n limit k : Nat) (s : State) : Stored s (State.hbmServe n limit k s) := by
  induction k generalizing s with
  | zero => exact refl s
  | succ k ih =>
    unfold State.hbmServe
    split
    · exact refl s
    · exact ite (refl s) ((((modHbm s _).trans (modPch _ n _)).trans (hbmComplete _ _ _)).trans (ih _))

theorem hbmSettle (s : State) : Stored s s.hbmSettle := ite (refl s) (fold (fun z _ => hbmServe _ _ _ z) _ s)

theorem clk {a b : State} (h : Stored a b) : b.clk = a.clk := h.rest.clk

end Stored

/-- Where the module operates after it, the time before a command is the command's (R397). -/
theorem State.advance_clk {s : State} {dt : Nat} (h : (s.advance dt).ctl.mode.operating = true) : (s.advance dt).clk = s.clk + dt := by
  have hdrained : (s.elapse dt).drained.clk = s.clk + dt :=
    Quiet.drained (g := State.clk) (by constructor <;> intros <;> rfl) (s.elapse dt)
  have hdie : ∀ z : State, z.dieLoss.ctl.mode.operating = true → z.dieLoss = z := fun z hz => by
    unfold State.dieLoss State.halt at hz ⊢
    split
    · rfl
    next hon =>
      rw [if_neg hon] at hz
      split
      · rfl
      next hup =>
        rw [if_neg hup, State.fallToHalt_mode] at hz
        exact absurd hz (by decide)
  have hreviewed : ∀ z : State, z.stacksReviewed.ctl.mode.operating = true → z.stacksReviewed.clk = z.clk := fun z hz => by
    unfold State.stacksReviewed at hz ⊢
    split
    next hlost =>
      rw [if_pos hlost] at hz
      rw [hdie _ hz]
      rfl
    next => rfl
  have hadvance : s.advance dt = if (s.elapse dt).drained.hbm.queue = [] then (s.elapse dt).drained else
      (s.elapse dt).drained.hbmSettle.stacksReviewed := rfl
  rw [hadvance] at h ⊢
  split
  · exact hdrained
  next hq =>
    rw [if_neg hq] at h
    exact (hreviewed _ h).trans ((Stored.hbmSettle _).clk.trans hdrained)

/-! ## LINK_STATUS -/

/-- A packet put on a lane in ACTIVE waits behind those that wait there (R145, R146). -/
theorem State.sendLink_lane {s : State} {n : Nat} (hlen : n < s.lanes.length) (hlow : 2 ≤ (s.lane n).state) (hhigh : (s.lane n).state ≤ 4)
    (kind flags index offset byte12 : Nat) (payload : Bytes) :
    (s.sendLink n kind flags index offset byte12 payload).lane n = { s.lane n with
      waiting := (s.lane n).waiting ++ [⟨kind, flags, index, offset, byte12, payload, s.clk⟩] } := by
  unfold State.sendLink
  rw [if_pos ⟨hlow, hhigh⟩, State.lane_modLane_same hlen]

theorem State.sendLink_other {s : State} {n m : Nat} (h : m ≠ n) (kind flags index offset byte12 : Nat) (payload : Bytes) :
    (s.sendLink m kind flags index offset byte12 payload).lane n = s.lane n := by
  unfold State.sendLink State.lane State.modLane
  split
  · simp only [List.getD_eq_getElem?_getD, List.getElem?_modify, if_neg h]
    simp
  · rfl

theorem State.sendLink_rest (s : State) (m kind flags index offset byte12 : Nat) (payload : Bytes) :
    (s.sendLink m kind flags index offset byte12 payload).lanes.length = s.lanes.length ∧
      (s.sendLink m kind flags index offset byte12 payload).power = s.power := by
  unfold State.sendLink
  split
  · exact ⟨List.length_modify .., rfl⟩
  · exact ⟨rfl, rfl⟩

/-- A used lane on which nothing waits gets LINK_STATUS as its first packet (R145, R147). -/
theorem State.linkStatusOut_lane {u : State} {n : Nat} (hn : n ∈ rangeFrom 48 u.ctl.part.syslinks) (hused : u.linkUsed n = true)
    (hlow : 2 ≤ (u.lane n).state) (hhigh : (u.lane n).state ≤ 4) (hempty : (u.lane n).waiting = []) :
    (∃ at_ rest, u.linkStatusOut.lane n = { u.lane n with
      waiting := ⟨0x13, 0, 0, 0, 0, u.linkStatusBytes, at_⟩ :: rest }) ∧ u.linkStatusOut.power = u.power := by
  have hlen : n < u.lanes.length := State.lane_lt_of_state (by omega)
  have hmem : n ∈ (rangeFrom 48 u.ctl.part.syslinks).filter u.linkUsed := List.mem_filter.mpr ⟨hn, hused⟩
  have hpower : ∀ (l : List Nat) (z : State), (l.foldl (fun acc m => acc.sendLink m 0x13 0 0 0 0 u.linkStatusBytes) z).power = z.power := by
    intro l
    induction l with
    | nil => exact fun _ => rfl
    | cons m r ih => exact fun z => (ih _).trans (State.sendLink_rest z m _ _ _ _ _ _).2
  have hlane : ∀ (l : List Nat) (z : State), z.lane n = u.lane n → z.lanes.length = u.lanes.length → n ∈ l →
      ∃ at_ rest, (l.foldl (fun acc m => acc.sendLink m 0x13 0 0 0 0 u.linkStatusBytes) z).lane n = { u.lane n with
        waiting := ⟨0x13, 0, 0, 0, 0, u.linkStatusBytes, at_⟩ :: rest } := by
    intro l
    induction l with
    | nil => exact fun _ _ _ hno => absurd hno List.not_mem_nil
    | cons m r ih =>
      intro z hz hzlen hm
      by_cases hmn : m = n
      · subst hmn
        have hsent := State.sendLink_lane (s := z) (n := m) (by rw [hzlen]; exact hlen) (by rw [hz]; exact hlow) (by rw [hz]; exact hhigh)
          0x13 0 0 0 0 u.linkStatusBytes
        rw [hz, hempty] at hsent
        obtain ⟨rest, hrest⟩ := (Joined.fold (n := m) (fun (acc : State) k => Joined.sendLink acc k 0x13 0 0 0 0 u.linkStatusBytes) r
          (z.sendLink m 0x13 0 0 0 0 u.linkStatusBytes)).lane
        rw [hsent] at hrest
        exact ⟨z.clk, rest, hrest⟩
      · have hr : n ∈ r := (List.mem_cons.mp hm).resolve_left (fun h => hmn h.symm)
        exact ih _ ((State.sendLink_other hmn _ _ _ _ _ _).trans hz) ((State.sendLink_rest z m _ _ _ _ _ _).1.trans hzlen) hr
  exact ⟨hlane _ u rfl rfl hmem, hpower _ u⟩

theorem State.run_reviewed {i : Instr} {s : State} {dt : Nat} {admits : State → Bool} {effect : State → State} {P : State → Prop}
    (hi : exec i s = s.run dt admits effect) (ha : admits (s.advance dt) = true)
    (hp : P ((({ effect (s.advance dt) with clk := s.clk + dt, pending := s.pending } : State).reviewed (s.advance dt)).drained)) :
    Completes i s P := by
  refine ⟨_, hi, ?_⟩
  simp only [ha, if_true]
  exact hp

theorem State.linkStatusOut_sent {u a : State} {clk : Nat} {pending : List Instr} {k : Nat} (ha : a = u.linkStatusOut)
    (hclk : u.clk = clk) (htarget : u.power.target = none) (hk : k < u.ctl.part.syslinks) (hused : u.linkUsed (48 + k) = true)
    (hlow : 2 ≤ (u.lane (48 + k)).state) (hhigh : (u.lane (48 + k)).state ≤ 4) (hempty : (u.lane (48 + k)).waiting = [])
    (hfree : (u.lane (48 + k)).linkFree ≤ 17 * u.clk) :
    Emission.linkPacket (48 + k) 0x13 0 0 0 0 (u.lane (48 + k)).sent u.linkStatusBytes ∈
      ((({ a with clk := clk, pending := pending } : State).reviewed u).drained).out := by
  subst ha
  have hmem : 48 + k ∈ rangeFrom 48 u.ctl.part.syslinks := List.mem_map.mpr ⟨k, List.mem_range.mpr hk, rfl⟩
  obtain ⟨⟨at_, rest, hlane⟩, hpower⟩ := State.linkStatusOut_lane hmem hused hlow hhigh hempty
  generalize hz : ({ u.linkStatusOut with clk := clk, pending := pending } : State) = z
  have hzlane : z.lane (48 + k) = u.linkStatusOut.lane (48 + k) := by rw [← hz]; rfl
  have hztarget : z.power.target = none := by
    rw [← hz]
    exact (congrArg PowerSys.target hpower).trans htarget
  have hzclk : z.clk = u.clk := by rw [← hz, hclk]
  obtain ⟨more, hmore⟩ := State.reviewed_lane z u (48 + k) hztarget
  have hwaits : (z.reviewed u).Leaving (48 + k) (u.lane (48 + k)) ⟨0x13, 0, 0, 0, 0, u.linkStatusBytes, at_⟩ := by
    refine .inr ⟨rest ++ more, ?_, ?_⟩
    · rw [hmore, hzlane, hlane]
      rfl
    · rw [State.reviewed_clk, hzclk]
      exact hfree
  have hlt : 48 + k < 52 := by
    have hle : u.ctl.part.syslinks ≤ 4 := by
      unfold Part.syslinks
      split <;> omega
    omega
  exact State.drained_leaving (by omega) hlt hlow hhigh (show (0x13 : Nat) ≠ 0x10 by decide) hwaits

/-! ## A packet's header -/

theorem linkObjects : ∀ n < 52, ownStatus (laneKey n 0x0E) = false ∧ ownStatus (laneKey n 9) = false ∧
    SameNum.NoFault (laneKey n 0x0E) ∧ laneKey n 0x0E ≠ Obj.regRetireCause (n / 4) ∧ laneKey n 0x0E ≠ laneKey n 0x0F := by decide +kernel

/-- What the header of a packet does to its lane (R147). -/
theorem State.linkSeq_lane {u : State} {n : Nat} (pseq : Nat) (hlen : n < u.lanes.length) :
    (u.linkSeq n pseq).lane n = { u.lane n with pseq := some pseq } ∧ (u.linkSeq n pseq).lanes.length = u.lanes.length ∧
      (u.linkSeq n pseq).power = u.power ∧ (u.linkSeq n pseq).clk = u.clk := by
  have htrack : ∀ z : State, Noted (u.modLane n (fun x => { x with pseq := some pseq })) z →
      z.lane n = { u.lane n with pseq := some pseq } ∧ z.lanes.length = u.lanes.length ∧ z.power = u.power ∧ z.clk = u.clk := fun z hz => by
    refine ⟨?_, ?_, hz.power.trans rfl, hz.clk.trans rfl⟩
    · exact ((Ported.of_noted hz).lane n).trans (State.lane_modLane_same hlen _)
    · rw [hz.lanes, State.modLane_lanes, List.length_modify]
  exact htrack _ (Noted.ite (Noted.putNum _ _ _) ((Noted.putNum _ _ _).trans (Noted.alert _ _)))

/-- LINK_STATUS received (R33, R147). -/
theorem State.linkStatusIn_lane {u : State} {n : Nat} (pseq sender : Nat) (hn : n < 52) (hlen : n < u.lanes.length) :
    (u.linkStatusIn n pseq sender).num (laneKey n 0x0E) = sender % 4 ∧
      (u.linkStatusIn n pseq sender).lane n = { u.lane n with pseq := some pseq, lastStatus := u.clk } ∧
      (u.linkStatusIn n pseq sender).power = u.power := by
  obtain ⟨hown, _⟩ := linkObjects n hn
  obtain ⟨hlane, hlanes, hpower, hclk⟩ := State.linkSeq_lane (u := u) pseq hlen
  unfold State.linkStatusIn
  dsimp only
  generalize u.linkSeq n pseq = z at *
  have hput : ((z.modLane n (fun x => { x with lastStatus := z.clk })).putNum (laneKey n 0x0E) (sender % 4)).lane n =
      { u.lane n with pseq := some pseq, lastStatus := u.clk } := by
    refine (State.lane_modLane_same (by rw [hlanes]; exact hlen) _).trans ?_
    rw [hlane, hclk]
  have hnum := State.num_putNum_same (z.modLane n (fun x => { x with lastStatus := z.clk })) (laneKey n 0x0E) (sender % 4)
  split
  · have halert := Noted.alert ((z.modLane n (fun x => { x with lastStatus := z.clk })).putNum (laneKey n 0x0E) (sender % 4)) Alert.syslink
    exact ⟨Eq.trans (SameNum.alert hown _ (by decide)) hnum, ((Ported.of_noted halert).lane n).trans hput, halert.power.trans hpower⟩
  · exact ⟨hnum, hput, hpower⟩

theorem State.linkStatusIn_settled {u t : State} {n pseq sender : Nat} (hn : n < 52) (hlen : n < u.lanes.length)
    (h : Settled (u.linkStatusIn n pseq sender) t) : t.num (laneKey n 0x0E) = sender % 4 :=
  (h.num (linkObjects n hn).1).trans (State.linkStatusIn_lane pseq sender hn hlen).1

theorem State.linkStatusIn_still {u t : State} {n pseq sender : Nat} (hn : n < 52) (hlen : n < u.lanes.length)
    (h : Still (u.linkStatusIn n pseq sender) t) : (t.lane n).pseq = some pseq ∧ (t.lane n).lastStatus = u.clk := by
  have he := (h.lane n).trans (congrArg Lane.unsettled (State.linkStatusIn_lane pseq sender hn hlen).2.1)
  exact ⟨(congrArg Lane.pseq he :), (congrArg Lane.lastStatus he :)⟩

theorem State.linkStatusIn_target {u : State} {n pseq sender : Nat} (hn : n < 52) (hlen : n < u.lanes.length) (h : u.power.target = none) :
    (u.linkStatusIn n pseq sender).power.target = none :=
  (congrArg PowerSys.target (State.linkStatusIn_lane pseq sender hn hlen).2.2).trans h

theorem State.linkStatusLost_counts {u : State} {n : Nat} (hn : n < 52) (hr : u.laneReceives n = true)
    (hdue : (u.lane n).lastStatus + 100000 ≤ u.clk) :
    (u.linkStatusLost n).num (laneKey n 0x0E) = 0xFF ∧ (u.linkStatusLost n).num (laneKey n 9) = satAdd 32 (u.num (laneKey n 9)) 1 := by
  obtain ⟨_, _, hfault, hregion, _⟩ := linkObjects n hn
  unfold State.linkStatusLost
  rw [if_pos ⟨hr, hdue⟩]
  constructor
  · exact Eq.trans (SameNum.realign hfault _ n (laneKey_ne n (by decide)) (laneKey_ne n (by decide)) (fun _ => hregion))
      (State.num_putNum_same _ _ _)
  · rw [State.realign_count hn, State.num_putNum_other _ _ (laneKey_ne n (by decide))]

/-! ## Events, late slices and edges -/

theorem State.linkEvents_one {u : State} {n : Nat} (pseq channel time index : Nat) (h : channel < 4) (hlen : n < u.lanes.length) :
    ({ clk := u.clk, east := false, source := 0x190 + channel, data := index, time := time } : Raised) ∈
      (u.linkEvents n pseq [(channel, time, index)]).fabric.raised := by
  obtain ⟨_, _, _, hclk⟩ := State.linkSeq_lane (u := u) pseq hlen
  have hone : u.linkEvents n pseq [(channel, time, index)] = (u.linkSeq n pseq).linkEvent 0 channel time index := by
    have hlt : channel < 8 := by omega
    unfold State.linkEvents
    simp [hlt]
  rw [hone]
  unfold State.linkEvent
  dsimp only
  rw [if_neg (by omega), hclk]
  exact List.mem_append_right _ (List.mem_singleton_self _)

theorem Settled.raised_mem {a t : State} (h : Settled a t) {e : Raised} (he : e ∈ a.fabric.raised) : e ∈ t.fabric.raised := by
  obtain ⟨l, hl⟩ := h.raised
  rw [hl]
  exact List.mem_append_left l he

theorem Settled.view_unsettled {a t : State} (h : Settled a t) (v : Nat) : (t.view v).unsettled = (a.view v).unsettled := by
  have he := congrArg (fun s : State => s.views[v]?) h.same
  simp only [State.unsettled, List.getElem?_map] at he
  unfold State.view
  rw [List.getD_eq_getElem?_getD, List.getD_eq_getElem?_getD]
  rcases ht : t.views[v]? with _ | y <;> rcases ha : a.views[v]? with _ | x <;> rw [ht, ha] at he
  · simp at he
  · simp at he
  · exact Option.some.inj he

theorem seamObjects : ∀ v < 4, ownStatus (Obj.viewSeamLate v) = false ∧ ownStatus (Obj.viewEdgeLate v) = false ∧
    Obj.viewEdgeLate v ≠ Obj.viewFlags v := by decide

theorem State.view_lt_of_next {u : State} {v j : Nat} (h : (u.view v).nextStitch = some j) : v < u.views.length := by
  refine Classical.byContradiction fun hle => ?_
  unfold State.view at h
  rw [getD_of_length_le _ _ (Nat.le_of_not_lt hle)] at h
  cases h

theorem State.view_modView_same {u : State} {v : Nat} (h : v < u.views.length) (f : View → View) : (u.modView v f).view v = f (u.view v) := by
  unfold State.view State.modView
  rw [getD_of_lt _ _ (by simpa using h), getD_of_lt _ _ h, List.getElem_modify_eq]

/-- A slice that does not come is settled as late, with nothing in it, and counted (R234). -/
theorem State.seamLateNow_counts {u : State} {v index j : Nat} {i : Issue} (hj : (u.view v).nextStitch = some j) (hi : u.issueOf v index = some i)
    (hremote : (u.geometry i.epoch v).remote = true) (hahead : ahead32 j index < half32)
    (hnone : (u.view v).slices.find? (fun q => q.index = index) = none)
    (hdue : i.clk + (((u.geometry i.epoch v).ports.map (fun p => u.param i.epoch (Obj.portReasmWindow p))).foldl Nat.max 0) * 1000 + 10000 ≤ u.clk) :
    (u.seamLateNow v index).num (Obj.viewSeamLate v) = satAdd 32 (u.num (Obj.viewSeamLate v)) 1 ∧
      ∃ q ∈ ((u.seamLateNow v index).view v).slices, q.index = index ∧ q.late = true ∧ q.last = true := by
  have hlate : u.seamLateNow v index = (u.modView v (fun w => { w with slices := w.slices.filter (fun q => q.index ≠ index) ++
      [{ index := index, got := [], received := 0, last := true, late := true }] })).bump (Obj.viewSeamLate v) := by
    have hopen : ∀ k, (u.view v).slices.any (fun q => q.index = index && q.settled k) = false := by
      intro k
      rw [List.any_eq_false]
      intro q hq h
      have := List.find?_eq_none.mp hnone q hq
      simp_all
    unfold State.seamLateNow
    rw [hj, hi]
    dsimp only
    rw [if_pos ⟨hremote, hahead, by rw [hopen]; rfl, hdue⟩]
  rw [hlate]
  refine ⟨State.num_bump_same _ _, { index := index, got := [], received := 0, last := true, late := true }, ?_, rfl, rfl, rfl⟩
  have hview := State.view_modView_same (State.view_lt_of_next hj)
    (fun w => { w with slices := w.slices.filter (fun q => q.index ≠ index) ++ [{ index := index, got := [], received := 0, last := true, late := true }] })
  exact (congrArg View.slices hview).symm ▸ List.mem_append_right _ (List.mem_singleton_self _)

theorem Settled.claimFragments (s : State) (v : Nat) : Settled s (s.claimFragments v) :=
  fold (fun z f => by
    split
    · exact refl z
    · exact modView z v _ (fun _ => rfl)) _ s

theorem Settled.closeFragments (s : State) {v : Nat} (hv : v < 4) (index : Nat) : Settled s (s.closeFragments v index) :=
  fold (fun z _ => trans (modView z v _ (fun _ => by rfl)) (closeBlob _ v hv _)) _ s

theorem Settled.settleSeam (s : State) {v : Nat} (hv : v < 4) (index : Nat) : Settled s (s.settleSeam v index) :=
  trans (trans (trans (modView s v _ (fun _ => by rfl)) (claimFragments _ v)) (closeFinished _ v hv)) (closeFragments _ hv index)

/-- An edge entry that does not come is counted as late (R290). -/
theorem State.edgeLateNow_counts {u : State} {v index : Nat} {i : Issue} (hv : v < 4) (hi : u.issueOf v index = some i)
    (hright : u.param i.epoch (Obj.viewContinuesTo v) ≠ 0xFF) (hnew : ∀ e ∈ (u.view v).edges, e.1 ≠ index) (hdue : u.edgeDeadline v i ≤ u.clk) :
    (u.edgeLateNow v index).num (Obj.viewEdgeLate v) = satAdd 32 (u.num (Obj.viewEdgeLate v)) 1 := by
  obtain ⟨_, hown, hflags⟩ := seamObjects v hv
  have hany : (u.view v).edges.any (fun e => e.1 = index) = false := by
    rw [List.any_eq_false]
    exact fun e he h => hnew e he (of_decide_eq_true h)
  unfold State.edgeLateNow
  rw [hi]
  dsimp only
  rw [if_pos ⟨hright, by rw [hany]; rfl, hdue⟩, (Settled.settleSeam _ hv _).num hown]
  exact (State.num_putNum_other _ _ hflags).trans (State.num_bump_same _ _)

theorem State.seamLateNow_settled {u t : State} {v index j : Nat} {i : Issue} (ht : Settled (u.seamLateNow v index) t) (hv : v < 4)
    (hj : (u.view v).nextStitch = some j) (hi : u.issueOf v index = some i)
    (hremote : (u.geometry i.epoch v).remote = true) (hahead : ahead32 j index < half32)
    (hnone : (u.view v).slices.find? (fun q => q.index = index) = none)
    (hdue : i.clk + (((u.geometry i.epoch v).ports.map (fun p => u.param i.epoch (Obj.portReasmWindow p))).foldl Nat.max 0) * 1000 + 10000 ≤ u.clk) :
    t.num (Obj.viewSeamLate v) = satAdd 32 (u.num (Obj.viewSeamLate v)) 1 ∧
      ∃ q ∈ (t.view v).slices, q.index = index ∧ q.late = true ∧ q.last = true := by
  obtain ⟨hcount, hslice⟩ := State.seamLateNow_counts hj hi hremote hahead hnone hdue
  have hslices : (t.view v).slices = ((u.seamLateNow v index).view v).slices := (congrArg View.slices (ht.view_unsettled v) :)
  exact ⟨(ht.num (seamObjects v hv).1).trans hcount, hslices ▸ hslice⟩

theorem State.edgeLateNow_settled {u t : State} {v index : Nat} {i : Issue} (ht : Settled (u.edgeLateNow v index) t) (hv : v < 4)
    (hi : u.issueOf v index = some i) (hright : u.param i.epoch (Obj.viewContinuesTo v) ≠ 0xFF)
    (hnew : ∀ e ∈ (u.view v).edges, e.1 ≠ index) (hdue : u.edgeDeadline v i ≤ u.clk) :
    t.num (Obj.viewEdgeLate v) = satAdd 32 (u.num (Obj.viewEdgeLate v)) 1 :=
  (ht.num (seamObjects v hv).2.1).trans (State.edgeLateNow_counts hv hi hright hnew hdue)

theorem State.linkUsed_bounds {u : State} {n : Nat} (h : u.linkUsed n = true) : 48 ≤ n ∧ n < 52 := by
  unfold State.linkUsed at h
  simp only [Bool.and_eq_true, decide_eq_true_eq] at h
  exact ⟨h.1.1, State.laneFitted_lt h.1.2⟩

theorem State.linkTakes_used {u : State} {n : Nat} (h : u.linkTakes n = true) : u.linkUsed n = true ∧ u.laneReceives n = true := by
  unfold State.linkTakes at h
  simp only [Bool.and_eq_true] at h
  exact h.1

theorem State.lane_lt_of_receives {u : State} {n : Nat} (h : u.laneReceives n = true) : n < u.lanes.length := by
  refine State.lane_lt_of_state ?_
  unfold State.laneReceives at h
  simp only [decide_eq_true_eq] at h
  omega

/-- Settles O36: each packet by what it does to the lane and to what it carries; LINK_STATUS leaves by `drained_leaving`. -/
theorem systemLinkPackets : Obligations.SystemLinkPackets := by
  intro dt n s
  refine fun hruns => ⟨fun pseq htakes _ _ => ⟨?_, ?_, ?_⟩, ?_, ?_, ?_, ?_, ?_⟩
  · intro v index offset last payload hv
    exact State.run_settled (exec_seam s dt n v index offset pseq last payload) (by simp [hruns, htakes, hv]) rfl
  · intro records
    exact State.run_settled (exec_cometPacket s dt n pseq records) (by simp [hruns, htakes]) rfl
  · intro channel time index hchannel
    refine State.run_completes (exec_eventPacket s dt n pseq _) (by simp [hruns, htakes]) (fun t ht _ _ => ?_)
    exact ht.raised_mem (State.linkEvents_one (u := s.advance dt) pseq channel time index hchannel
      (State.lane_lt_of_receives (State.linkTakes_used htakes).2))
  · intro pseq sender epoch hused hreceives
    have hn := (State.linkUsed_bounds hused).2
    have hlen := State.lane_lt_of_receives hreceives
    have hadmits : ((s.advance dt).unitsRun && (s.advance dt).linkUsed n && (s.advance dt).laneReceives n) = true := by
      rw [hruns, hused, hreceives]
      rfl
    by_cases htarget : (s.advance dt).power.target = none
    · exact State.run_still (exec_linkStatus s dt ⟨n, pseq⟩ sender epoch) hadmits (State.linkStatusIn_target hn hlen htarget)
        (fun t ht hstill => ⟨State.linkStatusIn_settled hn hlen ht, fun _ => State.linkStatusIn_still hn hlen hstill⟩)
    · exact State.run_completes (exec_linkStatus s dt ⟨n, pseq⟩ sender epoch) hadmits
        (fun t ht _ _ => ⟨State.linkStatusIn_settled hn hlen ht, fun h => absurd h htarget⟩)
  · intro hused hreceives hdue
    have hn := (State.linkUsed_bounds hused).2
    obtain ⟨hpartner, herrors, _⟩ := linkObjects n hn
    obtain ⟨hnum, hcount⟩ := State.linkStatusLost_counts (u := s.advance dt) hn hreceives hdue
    exact State.run_completes (exec_linkStatusTimeout s dt n) (by rw [hruns, hused, hreceives]; rfl)
      (fun t ht _ _ => ⟨(ht.num hpartner).trans hnum, (ht.num herrors).trans hcount⟩)
  · intro htarget
    have hclk := State.advance_clk (s := s) (dt := dt) (operating_of_unitsRun hruns).1
    refine State.run_reviewed (exec_linkStatusSend s dt) hruns (fun k hk hused hlow hhigh hempty hfree => ?_)
    exact State.linkStatusOut_sent (u := s.advance dt) rfl hclk htarget hk hused hlow hhigh hempty hfree
  · intro v index j i hv hj hi g hremote hahead hnone hdue
    exact State.run_completes (exec_seamLate s dt v index) (by simp [hruns, hv])
      (fun t ht _ _ => State.seamLateNow_settled ht hv hj hi hremote hahead hnone hdue)
  · intro v index i hv hi hright hnew hdue
    exact State.run_completes (exec_edgeLate s dt v index) (by simp [hruns, hv])
      (fun t ht _ _ => State.edgeLateNow_settled ht hv hi hright hnew hdue)

end Sys2Proof.Machine
end

section
/-! PROOFS. Check units, the codec, parity errors and the delivery of events (O52). -/

namespace Sys2Proof.Machine

/-! ## Upsets -/

theorem assoc_assocPut_same {α β : Type} [DecidableEq α] (l : List (α × β)) (k : α) (v : β) : assoc (assocPut l k v) k = some v := by
  induction l with
  | nil => simp [assocPut, assoc]
  | cons q r ih =>
    obtain ⟨a, b⟩ := q
    by_cases h : a = k <;> simp [assocPut, assoc, h, ih]

theorem Settled.faults {a t : State} (h : Settled a t) : t.ctl.faults = a.ctl.faults := (congrArg (fun s : State => s.ctl.faults) h.same :)

theorem State.logPut_faults (s : State) (kind unit inst cause count : Nat) (detail : Bytes) :
    (s.logPut kind unit inst cause count detail).ctl.faults = s.ctl.faults := by
  unfold State.logPut
  dsimp only
  split
  · rfl
  · split
    · exact (Settled.alert (s.bump Obj.logSuppressed) Alert.log (by decide)).faults
    · split <;> rfl

/-- The window of a unit after its upset (R501). -/
theorem State.upset_times (s : State) (unit inst window : Nat) (detail : Bytes) :
    (s.upset unit inst window detail).ctl.faults.times unit inst = upsetTimes s.clk window (s.ctl.faults.times unit inst) := by
  unfold State.upset Faults.times
  dsimp only
  rw [State.logPut_faults, assoc_assocPut_same]
  rfl

/-- The first upset of a unit is over no threshold (R501). -/
theorem State.overThreshold_first {s : State} {unit inst : Nat} (window : Nat) (detail : Bytes) {k : Nat} (hk : 1 < k)
    (h : s.ctl.faults.times unit inst = []) : (s.upset unit inst window detail).overThreshold unit inst k = false := by
  unfold State.overThreshold
  rw [State.upset_times, h]
  exact decide_eq_false (Nat.not_le_of_lt hk)

theorem State.dmaParity_first {u : State} {n : Nat} (hr : u.retired Unit.dma n = false) (ht : u.ctl.faults.times Unit.dma n = []) :
    u.dmaParity n = u.upset Unit.dma n 10000000000 [] := by
  unfold State.dmaParity
  dsimp only
  rw [State.overThreshold_first _ _ (by decide) ht, hr]
  rfl

theorem State.dmaParity_retired {u : State} {n : Nat} (hr : u.retired Unit.dma n = true) : u.dmaParity n = u := by
  unfold State.dmaParity
  rw [hr]
  rfl

/-- A parity error of a live channel of the fabric (R503). -/
theorem State.channelParity_live {u : State} {n : Nat} (hn : n < 296) (hf : u.ctl.part.channelFitted n = true) (hs : channelSecure n = false)
    (hr : u.retired Unit.channel n = false) (hruns : u.unitsRun = true) :
    u.channelParity n = if (u.upset Unit.channel n 10000000000 []).overThreshold Unit.channel n 3 = true then
      (u.upset Unit.channel n 10000000000 []).retire Unit.channel n 0 [] else u.upset Unit.channel n 10000000000 [] := by
  obtain ⟨hop, hdeep⟩ := operating_of_unitsRun hruns
  unfold State.channelParity
  rw [if_pos ⟨hn, hf, by rw [hs]; rfl, by rw [hr]; rfl, hop, hdeep⟩]

/-! ## Check units and the codec -/

/-- A free unit that a valve bus waits for first (R434). -/
theorem State.grantUnit_bus {u : State} {n : Nat} {rest : List Nat} (hfree : u.dma.holders.getD n 0xFF = 0xFF)
    (hwait : u.dma.waiters.getD n [] = 0x40 :: rest) :
    (u.grantUnit n).dma = { u.dma with waiters := u.dma.waiters.set n rest, holders := u.dma.holders.set n 0x40 } ∧
      (u.grantUnit n).power = u.power := by
  unfold State.grantUnit
  rw [if_pos hfree, hwait]
  exact ⟨rfl, rfl⟩

/-- The codec takes the stream record that waits first (R425). -/
theorem State.codecBlock_stream {u : State} {fails : Bool} {k dest eth : Nat} {record : Bytes} {bits bands width payload : Nat} {rest : List CodecReq}
    (hheld : u.codecHeld = false) (hq : u.dma.streamQueue = .stream k dest eth record bits bands width payload :: rest) :
    u.codecBlock fails = ((u.modEngine (fun e => { e with streamQueue := rest })).codecCount
      (codeBlock record 32 (record.length - 32 - payload) width bands bits 1 fails) record.length).deliverStream k dest eth true
      (codeBlock record 32 (record.length - 32 - payload) width bands bits 1 fails).block := by
  unfold State.codecBlock
  rw [if_neg (by rw [hheld]; decide), hq]

/-! ## The delivery of events -/

/-- What a delivered pulse of a local channel leaves as it was, for the channels it can chain to: SOURCE of every channel, TASKS of its
own (R442). -/
structure SameRoutes (n : Nat) (a b : State) : Prop where
  source : ∀ k, k < 296 → b.num (Obj.echSource k) = a.num (Obj.echSource k)
  tasks : b.octets (Obj.echTasks n) = a.octets (Obj.echTasks n)

namespace SameRoutes

variable {n : Nat}

theorem trans {a b c : State} (h : SameRoutes n a b) (k : SameRoutes n b c) : SameRoutes n a c :=
  ⟨fun i hi => (k.source i hi).trans (h.source i hi), k.tasks.trans h.tasks⟩
theorem modFabric (s : State) (f : Fabric → Fabric) : SameRoutes n s (s.modFabric f) := ⟨fun _ _ => rfl, rfl⟩
theorem bump (s : State) {key : Nat} (hs : ∀ k < 296, Obj.echSource k ≠ key) (ht : Obj.echTasks n ≠ key) : SameRoutes n s (s.bump key) :=
  ⟨fun k hk => State.num_bump_other s (hs k hk), congrArg Val.toBytes (State.val_putVal_other s _ ht)⟩

theorem bump_events (s : State) : SameRoutes n s (s.bump (Obj.echEvents n)) :=
  bump s (fun k hk => by unfold Obj.echSource Obj.echEvents objKey; omega) (by unfold Obj.echTasks Obj.echEvents objKey; omega)

theorem eventRecord (s : State) (source data time : Nat) : SameRoutes n s (s.eventRecord n source data time) := by
  unfold State.eventRecord
  split
  · exact bump s (fun k hk => by unfold Obj.echSource Obj.evtLogLost objKey; omega) (by unfold Obj.echTasks Obj.evtLogLost objKey; omega)
  · exact modFabric s _

theorem channels {a b : State} (h : SameRoutes n a b) (east : Bool) (source : Nat) : b.channelsOf east source = a.channelsOf east source := by
  unfold State.channelsOf
  refine List.filter_congr (fun k hk => ?_)
  rw [h.source k (List.mem_range.mp hk)]

end SameRoutes

theorem State.applyTasks_nil (s : State) : s.applyTasks [] = s := by
  unfold State.applyTasks
  dsimp only
  rw [foldl_of_still (f := fun (acc : State) k => acc.toutTasks [] k) (fun _ => rfl) (List.range 16)]
  rw [foldl_of_still (f := fun (acc : State) c => acc.dmaTask [] c) (fun _ => rfl) (List.range 32)]
  exact foldl_of_still (fun _ => rfl) (List.range 8)

theorem State.runPulses_done (k : Nat) (s : State) (tasks : List (Bool × Nat)) : State.runPulses k s [] tasks = (s, tasks) := by
  cases k <;> rfl

/-- A pulse that no channel takes is gone (R442). -/
theorem State.runPulses_untaken {s : State} {p : Pulse} (k : Nat) (tasks : List (Bool × Nat)) (h : s.channelsOf p.east p.source = []) :
    State.runPulses (k + 1) s [p] tasks = (s, tasks) := by
  unfold State.runPulses
  simp only [List.foldl_cons, List.foldl_nil, h]
  exact State.runPulses_done k s tasks

/-- The events of a cycle in which one event comes (R442). -/
theorem State.eventDelivery_one {u : State} {r : Raised} (hruns : u.unitsRun = true) (hr : u.fabric.raised = [r]) (hmore : r.more = 0)
    (hclk : r.clk < u.clk) (hs : r.source < 0x100) :
    u.eventDelivery = (State.runPulses 129 (u.modFabric (fun b => { b with raised := [] })) [⟨r.east, r.source, r.source, r.data, r.time⟩] []).1.applyTasks
      (State.runPulses 129 (u.modFabric (fun b => { b with raised := [] })) [⟨r.east, r.source, r.source, r.data, r.time⟩] []).2 := by
  obtain ⟨hop, hdeep⟩ := operating_of_unitsRun hruns
  have hfollow : u.follower r = none := by
    unfold State.follower
    rw [if_pos hmore]
  have harrival : u.arrivalTasks r = [] := by
    unfold State.arrivalTasks
    dsimp only
    rw [if_neg (by omega), if_neg (by omega)]
  have hsource : r.source % 65536 = r.source := by omega
  have hgo : ¬ (u.clk ≤ r.clk ∨ (!u.ctl.mode.operating) = true ∨ u.power.state = .deep) := by
    simp [hop, hdeep, hclk]
  unfold State.eventDelivery
  rw [hr]
  refine (if_neg hgo).trans ?_
  simp [State.modFabric, hr, hfollow, harrival, hsource, if_neg (show ¬ 65536 ≤ r.source by omega)]

/-- The events that a channel has had in the window of this moment (R451). -/
def State.stormSeen (s : State) (n : Nat) : Nat :=
  match s.fabric.storms.find? (fun q => q.1 = n) with
  | some (_, w0, k) => if w0 = s.fullNow / 1024 then k else 0
  | none => 0

/-- A storm guard that lets an event pass moves the fabric alone, and reads nothing of the events under way (R451). -/
theorem State.stormGuard_passes {s : State} {n : Nat} (h : (s.stormGuard n).2 = true) : ∃ f, (s.stormGuard n).1 = s.modFabric f := by
  unfold State.stormGuard at h ⊢
  dsimp only at h ⊢
  change (if s.stormSeen n < s.num (Obj.echLimit n) then _ else _ : State × Bool).2 = true at h
  change ∃ f, (if s.stormSeen n < s.num (Obj.echLimit n) then _ else _ : State × Bool).1 = s.modFabric f
  by_cases hpass : s.stormSeen n < s.num (Obj.echLimit n)
  · rw [if_pos hpass]
    dsimp only
    exact ⟨_, rfl⟩
  · rw [if_neg hpass] at h
    simp only [apply_ite Prod.snd, ite_self] at h
    cases h

theorem State.stormGuard_raised (s : State) (n : Nat) : ((s.modFabric (fun b => { b with raised := [] })).stormGuard n).2 = (s.stormGuard n).2 := by
  unfold State.stormGuard
  dsimp only
  simp only [apply_ite Prod.snd]
  rfl

section Takes

variable {s : State} {n : Nat} (hn : n < 128) (hr : s.retired Unit.channel n = false) (ho : channelOwned n = false)

include hn hr ho

theorem State.channelTakes_gated (hg : s.gateOpen n = false) (source data time : Nat) :
    s.channelTakes n source data time = (s.bump (Obj.echGated n), false) := by
  have hfit : s.ctl.part.channelFitted n = true := if_pos hn
  unfold State.channelTakes
  rw [if_neg (by simp [hr, ho, hfit]), hg]
  rfl

theorem State.channelTakes_open (hg : s.gateOpen n = true) (hp : (s.stormGuard n).2 = true) (source data time : Nat) :
    ∃ z, s.channelTakes n source data time = (z, true) ∧ SameRoutes n s z ∧ z.num (Obj.echEvents n) = satAdd 32 (s.num (Obj.echEvents n)) 1 := by
  have hfit : s.ctl.part.channelFitted n = true := if_pos hn
  obtain ⟨f, hf⟩ := State.stormGuard_passes hp
  have hroutes : SameRoutes n s ((s.modFabric f).bump (Obj.echEvents n)) := (SameRoutes.modFabric s f).trans (.bump_events _)
  have hcount : ((s.modFabric f).bump (Obj.echEvents n)).num (Obj.echEvents n) = satAdd 32 (s.num (Obj.echEvents n)) 1 := State.num_bump_same _ _
  unfold State.channelTakes
  rw [if_neg (by simp [hr, ho, hfit]), hg]
  simp only [Bool.not_true, Bool.false_eq_true, if_false, hp, if_true]
  rw [hf]
  refine ⟨_, rfl, ?_⟩
  split
  · refine ⟨hroutes.trans (.eventRecord _ _ _ _), Eq.trans ?_ hcount⟩
    unfold State.eventRecord
    split
    · exact State.num_bump_other _ (by unfold Obj.echEvents Obj.evtLogLost objKey; omega)
    · rfl
  · exact ⟨hroutes, hcount⟩

end Takes

/-- A pulse that one channel does not deliver ends there (R442). -/
theorem State.runPulses_undelivered {s z : State} {p : Pulse} {n : Nat} (k : Nat) (h : s.channelsOf p.east p.source = [n])
    (ht : s.channelTakes n p.origin p.data p.time = (z, false)) : State.runPulses (k + 1) s [p] [] = (z, []) := by
  unfold State.runPulses
  simp only [List.foldl_cons, List.foldl_nil, h, ht]
  exact State.runPulses_done k z []

/-- A pulse that one local channel delivers ends where nothing is chained to it and it has no tasks (R442). -/
theorem State.runPulses_delivered {s z : State} {p : Pulse} {n : Nat} (k : Nat) (hn : n < 128) (h : s.channelsOf p.east p.source = [n])
    (ht : s.channelTakes n p.origin p.data p.time = (z, true)) (hz : z.channelsOf p.east (0x100 + n) = [])
    (htasks : z.octets (Obj.echTasks n) = []) : State.runPulses (k + 2) s [p] [] = (z, []) := by
  have hd : z.channelDelivers n p = (z, [{ p with source := 0x100 + n }], []) := by
    unfold State.channelDelivers
    rw [htasks, Nat.mod_eq_of_lt hn]
    exact if_pos (by omega)
  unfold State.runPulses
  simp only [List.foldl_cons, List.foldl_nil, h, ht, hd, if_true, List.nil_append]
  exact State.runPulses_untaken k [] hz

theorem channelCounters : ∀ n < 128, ownStatus (Obj.echEvents n) = false ∧ ownStatus (Obj.echGated n) = false ∧
    Obj.echEvents n ≠ Obj.echGated n := by decide +kernel

/-- What the delivery of one event that one channel of its source has to take counts (R448, R451). -/
theorem State.eventDelivery_counts {u : State} {r : Raised} {n : Nat} (hruns : u.unitsRun = true) (hraised : u.fabric.raised = [r]) (hmore : r.more = 0)
    (hclk : r.clk < u.clk) (hs : r.source < 0x100) (hto : u.channelsOf r.east r.source = [n]) (hn : n < 128)
    (hr : u.retired Unit.channel n = false) (ho : channelOwned n = false) (hchained : u.channelsOf r.east (0x100 + n) = [])
    (htasks : u.octets (Obj.echTasks n) = []) :
    (u.gateOpen n = false → u.eventDelivery.num (Obj.echGated n) = satAdd 32 (u.num (Obj.echGated n)) 1 ∧
      u.eventDelivery.num (Obj.echEvents n) = u.num (Obj.echEvents n)) ∧
    (u.gateOpen n = true → (u.stormGuard n).2 = true →
      u.eventDelivery.num (Obj.echEvents n) = satAdd 32 (u.num (Obj.echEvents n)) 1) := by
  obtain ⟨_, _, hne⟩ := channelCounters n hn
  rw [State.eventDelivery_one hruns hraised hmore hclk hs]
  generalize hu : u.modFabric (fun b => { b with raised := [] }) = z
  have hroutes : SameRoutes n u z := hu ▸ SameRoutes.modFabric u _
  have hzr : z.retired Unit.channel n = false := by rw [← hu]; exact hr
  have hzto : z.channelsOf r.east r.source = [n] := (hroutes.channels _ _).trans hto
  have hznum : ∀ key, z.num key = u.num key := fun key => by rw [← hu]; rfl
  have hzgate : z.gateOpen n = u.gateOpen n := by rw [← hu]; rfl
  constructor
  · intro hg
    rw [State.runPulses_undelivered (p := ⟨r.east, r.source, r.source, r.data, r.time⟩) 128 hzto (State.channelTakes_gated hn hzr ho (hzgate.trans hg) _ _ _), State.applyTasks_nil]
    exact ⟨(State.num_bump_same _ _).trans (by rw [hznum]), (State.num_bump_other _ hne).trans (hznum _)⟩
  · intro hg hp
    have hzp : (z.stormGuard n).2 = true := by rw [← hu, State.stormGuard_raised]; exact hp
    obtain ⟨y, hy, hyroutes, hycount⟩ := State.channelTakes_open hn hzr ho (hzgate.trans hg) hzp r.source r.data r.time
    have hall := hroutes.trans hyroutes
    have hend : y.channelsOf r.east (0x100 + n) = [] := (hall.channels _ _).trans hchained
    rw [State.runPulses_delivered (p := ⟨r.east, r.source, r.source, r.data, r.time⟩) 127 hn hzto hy hend (hall.tasks.trans htasks), State.applyTasks_nil, hycount, hznum]

theorem State.eventDelivery_untaken {u : State} {r : Raised} (hruns : u.unitsRun = true) (hraised : u.fabric.raised = [r]) (hmore : r.more = 0)
    (hclk : r.clk < u.clk) (hs : r.source < 0x100) (hnone : u.channelsOf r.east r.source = []) :
    u.eventDelivery = u.modFabric (fun b => { b with raised := [] }) := by
  have hto : (u.modFabric (fun b => { b with raised := [] })).channelsOf r.east r.source = [] := hnone
  rw [State.eventDelivery_one hruns hraised hmore hclk hs,
    State.runPulses_untaken (p := ⟨r.east, r.source, r.source, r.data, r.time⟩) 128 [] hto, State.applyTasks_nil]

/-- Settles O52: the grant, the codec and the parity errors each by its one function, the delivery by `eventDelivery_counts`. -/
theorem unitsAndEventsAreShared : Obligations.UnitsAndEventsAreShared := by
  refine ⟨?_, ?_⟩
  · intro dt n s
    refine fun hruns => ⟨?_, ?_, fun hn => ⟨?_, ?_⟩, ?_⟩
    · intro rest hn htarget hdoze hfree hwait
      obtain ⟨hdma, hpower⟩ := State.grantUnit_bus (u := s.advance dt) hfree hwait
      refine State.run_still (exec_checkUnitGrant s dt n) (by simp [hruns, hn]) ((congrArg PowerSys.target hpower).trans htarget)
        (fun t _ hstill => (hstill.dma (fun h => hdoze ((congrArg PowerSys.state hpower).symm.trans h))).trans hdma)
    · intro fails k dest eth record bits bands width payload rest hheld hq
      dsimp only
      rw [← State.codecBlock_stream (fails := fails) hheld hq]
      exact State.run_settled (exec_codecBlock s dt fails) hruns rfl
    · intro hr ht
      exact State.run_settled (exec_dmaParityError s dt n) (by simp [hruns, hn]) (State.dmaParity_first hr ht)
    · intro hr
      exact State.run_settled (exec_dmaParityError s dt n) (by simp [hruns, hn]) (State.dmaParity_retired hr)
    · intro hn hf hs hr
      have hlive := State.channelParity_live (u := s.advance dt) hn hf hs hr hruns
      refine ⟨fun h => ?_, fun h => ?_⟩
      · exact State.run_settled (exec_eventChannelParityError s dt n) hruns (hlive.trans (if_neg (by rw [h]; decide)))
      · refine (State.run_settled (exec_eventChannelParityError s dt n) hruns (hlive.trans (if_pos h))).imp (fun t ht => ⟨ht, ?_⟩)
        exact (ht.retired _ _).trans (StaysRetired.retire_self _ _ _)
  · intro dt r s
    refine fun hruns hraised hmore hclk hs => ⟨fun hnone => ?_, ?_⟩
    · exact State.run_settled (exec_eventDelivery s dt) hruns (State.eventDelivery_untaken hruns hraised hmore hclk hs hnone)
    · intro n hto hn hr ho hchained htasks
      obtain ⟨hevents, hgated, _⟩ := channelCounters n hn
      obtain ⟨hshut, hopen⟩ := State.eventDelivery_counts (u := s.advance dt) hruns hraised hmore hclk hs hto hn hr ho hchained htasks
      refine ⟨fun hg => ?_, fun hg hp => ?_⟩
      · exact State.run_completes (exec_eventDelivery s dt) hruns
          (fun t ht _ _ => ⟨(ht.num hgated).trans (hshut hg).1, (ht.num hevents).trans (hshut hg).2⟩)
      · exact State.run_completes (exec_eventDelivery s dt) hruns (fun t ht _ _ => (ht.num hevents).trans (hopen hg hp))

end Sys2Proof.Machine
end

section
/-! PROOFS. The life of a DMA descriptor (O51). -/

namespace Sys2Proof.Machine

/-! ## What leaves a channel as it is -/

/-- What moves data and counts for channel `c`: its record, the number of channels and the power state stay. -/
structure SameChannel (c : Nat) (a b : State) : Prop where
  channel : b.dch c = a.dch c
  length : b.dma.channels.length = a.dma.channels.length
  power : b.power = a.power

namespace SameChannel

variable {c : Nat}

theorem refl (a : State) : SameChannel c a a := ⟨rfl, rfl, rfl⟩
theorem trans {a b d : State} (h : SameChannel c a b) (k : SameChannel c b d) : SameChannel c a d :=
  ⟨k.channel.trans h.channel, k.length.trans h.length, k.power.trans h.power⟩
theorem ite {p : Prop} [Decidable p] {s a b : State} (ha : SameChannel c s a) (hb : SameChannel c s b) : SameChannel c s (if p then a else b) := by
  split <;> assumption
theorem fold {α : Type} {f : State → α → State} (h : ∀ s x, SameChannel c s (f s x)) (l : List α) (s : State) : SameChannel c s (l.foldl f s) := by
  induction l generalizing s with
  | nil => exact refl s
  | cons x r ih => exact (h s x).trans (ih (f s x))

theorem of_stored {a b : State} (h : Stored a b) : SameChannel c a b := by
  have hdma : b.dma = a.dma := (congrArg State.dma h.rest.rest :)
  exact ⟨by unfold State.dch; rw [hdma], by rw [hdma], (congrArg State.power h.rest.rest :)⟩
theorem of_noted {a b : State} (h : Noted a b) : SameChannel c a b := of_stored (.of_noted h)

theorem dmaAccess (s : State) (port a n : Nat) : SameChannel c s (s.dmaAccess port a n) := by
  have hfailed : ∀ (z : State) (l : List Nat), SameChannel c z (z.hbmFailed port l).1 := fun z l => by
    unfold State.hbmFailed
    dsimp only
    split
    · exact of_stored (Stored.modHbm z (fun h => _))
    · exact refl z
  exact ite (refl s) ((of_stored (.of_touched (Touched.hbmTouch s port _))).trans (hfailed _ _))

theorem dmaWrite (s : State) (a : Nat) (l : List (Nat × Byte)) : SameChannel c s (s.dmaWrite a l) := by
  have hrings : ∀ q : RingPlan, SameChannel c s (l.foldl (fun acc p => acc.ringByte q (addrOffset a + p.1) p.2) s) := fun q =>
    fold (fun z p => ite (refl z) (of_stored (.modHbm z _))) l s
  exact ite ((hrings _).trans (of_noted (Noted.bumpIf _ _ _))) (ite ⟨rfl, rfl, rfl⟩ (refl s))

theorem modEngine (s : State) (f : DmaEngine → DmaEngine) (h : ∀ e, (f e).channels = e.channels) : SameChannel c s (s.modEngine f) :=
  ⟨by unfold State.dch State.modEngine; rw [h], congrArg List.length (h s.dma), rfl⟩

theorem ringControls (s : State) (n : Nat) (d : Bytes) (k : Nat) : SameChannel c s (s.ringControls n d k) := by
  have hring : SameChannel c s (if descAdvance d ∧ addrSpace (descSrc d) = 1 then
      s.modRing (addrRing (descSrc d)) (fun y => { y with readPtr := Nat.max y.readPtr (addrOffset (descSrc d) + descCount d) }) else s) :=
    ite (of_stored (.modRing s _ _)) (refl s)
  unfold State.ringControls
  dsimp only
  refine (hring.trans ?_)
  generalize (if descAdvance d ∧ addrSpace (descSrc d) = 1 then _ else s : State) = z
  exact trans (ite (modEngine z _ (fun _ => by rfl)) (refl z)) (ite (modEngine _ _ (fun _ => by rfl)) (refl _))

theorem dmaSignals (s : State) (k : Nat) : SameChannel c s (s.dmaSignals k) :=
  of_noted (((Noted.orFlags s _ _).trans (Noted.event _ _)).trans (Noted.raise _ _ _ _))

theorem dmaHsp (s : State) (k p : Nat) (coded : Bool) (total : Nat) (out : Bytes) (m sent : Nat) :
    SameChannel c s (s.dmaHsp k p coded total out m sent).1 := by
  have hresolve : ∀ (z : State) (ip : Nat), SameChannel c z (z.resolve p ip).1 := fun z ip => by
    unfold State.resolve
    split
    · exact refl z
    · dsimp only
      split
      · exact refl z
      · unfold State.arpAsk
        dsimp only
        split
        · exact refl z
        · exact of_noted (Noted.trans (Noted.modEth z p _) (Noted.tx _ p _))
  have hpiece : ∀ (z : State) (source : Nat) (dest : HspDest) (counter offset : Nat) (first last : Bool) (data : Bytes),
      SameChannel c z (z.hspPiece p source dest counter offset first last coded data) := fun z source dest counter offset first last data =>
    (of_stored (.of_touched (Touched.hbmTouch z 2 _))).trans (of_noted (((Noted.modEth _ p _).trans (Noted.tx _ _ _)).trans (Noted.bump _ _)))
  induction m generalizing s sent with
  | zero => exact refl s
  | succ m ih =>
    unfold State.dmaHsp
    dsimp only
    split
    · exact refl s
    · split
      · exact refl s
      · split
        · exact ((hresolve s _).trans (of_noted (Noted.bump _ _))).trans (ih _ _)
        · split
          · exact refl s
          · exact ((hresolve s _).trans (hpiece _ _ _ _ _ _ _ _)).trans (ih _ _)

end SameChannel

/-! ## A channel's record -/

theorem State.dch_modDch {s : State} {c : Nat} (h : c < s.dma.channels.length) (f : Dma → Dma) : (s.modDch c f).dch c = f (s.dch c) := by
  unfold State.dch State.modDch State.modEngine
  rw [getD_of_lt _ _ (by simpa using h), getD_of_lt _ _ h, List.getElem_modify_eq]

theorem State.dch_lt {s : State} {c : Nat} (h : (s.dch c).state ≠ 0) : c < s.dma.channels.length := by
  refine Classical.byContradiction fun hle => ?_
  unfold State.dch at h
  rw [getD_of_length_le _ _ (Nat.le_of_not_lt hle)] at h
  exact h rfl

theorem State.dch_lt_of_current {s : State} {c : Nat} {d : Bytes} (h : (s.dch c).current = some d) : c < s.dma.channels.length := by
  refine Classical.byContradiction fun hle => ?_
  unfold State.dch at h
  rw [getD_of_length_le _ _ (Nat.le_of_not_lt hle)] at h
  cases h

theorem State.modDch_length (s : State) (c : Nat) (f : Dma → Dma) : (s.modDch c f).dma.channels.length = s.dma.channels.length :=
  List.length_modify ..

/-- The record of a channel that ends (R413, R420, R421). -/
def Dma.ended (x : Dma) (cause code : Nat) : Dma :=
  { x with state := 5, cause := cause, code := code, current := none, inFlight := false, following := false, waiting := false,
           coded := none, unit := none, stream := [] }

/-- Channel `c` of a state, and the power state, are what is given. -/
structure ChannelIs (c : Nat) (x : Dma) (p : PowerSys) (s : State) : Prop where
  channel : s.dch c = x
  power : s.power = p

theorem ChannelIs.after {c : Nat} {a b : State} {x : Dma} {p : PowerSys} (h : ChannelIs c x p a) (k : SameChannel c a b) : ChannelIs c x p b :=
  ⟨k.channel.trans h.channel, k.power.trans h.power⟩

section Channel

variable {s : State} {c : Nat} (h : c < s.dma.channels.length)

include h

theorem State.modDch_is (f : Dma → Dma) : ChannelIs c (f (s.dch c)) s.power (s.modDch c f) := ⟨State.dch_modDch h f, rfl⟩

theorem State.dmaEnd_is (cause code : Nat) : ChannelIs c ((s.dch c).ended cause code) s.power (s.dmaEnd c cause code) := by
  have hleft : SameChannel c s (s.modEngine (fun e => { e with
      holders := e.holders.map (fun k => if k = c then 0xFF else k), waiters := e.waiters.map (fun w => w.filter (· ≠ c)) })) :=
    .modEngine s _ (fun _ => by rfl)
  unfold State.dmaEnd State.releaseUnit
  dsimp only
  generalize s.modEngine (fun e => { e with
    holders := e.holders.map (fun k => if k = c then 0xFF else k), waiters := e.waiters.map (fun w => w.filter (· ≠ c)) }) = z at hleft
  have hz : c < z.dma.channels.length := hleft.length.symm ▸ h
  have hreleased := State.modDch_is hz (fun x => { x with unit := none, stream := [], waiting := false })
  have hended := State.modDch_is (s := z.modDch c (fun x => { x with unit := none, stream := [], waiting := false }))
    (by rw [State.modDch_length]; exact hz) (fun x => { x with
      state := 5, cause := cause, code := code, current := none, inFlight := false, following := false, waiting := false, coded := none })
  rw [hreleased.channel, hleft.channel, hreleased.power, hleft.power] at hended
  generalize (z.modDch c (fun x => { x with unit := none, stream := [], waiting := false })).modDch c _ = y at hended
  have hcounted : SameChannel c y ((y.modEngine (fun e => { e with dmaQueue := e.dmaQueue.filter (· ≠ .dma c) })).bumpIf (cause = 4) Obj.dmaHalts) :=
    .trans (.modEngine y _ (fun _ => by rfl)) (.of_noted (.bumpIf _ _ _))
  exact hended.after (hcounted.trans (.ite (.dmaSignals _ _) (.refl _)))

theorem State.dmaReady_is : ChannelIs c { s.dch c with state := 1, following := false, waiting := false } s.power (s.dmaReady c) := by
  have hready := State.modDch_is h (fun y => { y with state := 1, following := false, waiting := false })
  unfold State.dmaReady
  dsimp only
  split
  · exact hready.after (.ite (.modEngine _ _ (fun _ => by rfl)) (.refl _))
  · exact hready

/-- A descriptor without a check action asks for no unit (R434). -/
theorem State.dmaUnit_is {d : Bytes} (hd : (s.dch c).current = some d) (ha : descAction d = 0) :
    ChannelIs c { s.dch c with state := 1, following := false, waiting := false } s.power (s.dmaUnit c) := by
  unfold State.dmaUnit
  rw [hd]
  dsimp only
  rw [if_pos (Or.inl ha)]
  exact State.dmaReady_is h

end Channel

/-! ## Descriptors fetched -/

/-- The record of a channel as its descriptor comes (R412, R421). -/
def Dma.fetched (x : Dma) (d : Bytes) : Dma := { x with shown := x.desc, bytesDone := 0, residue := descCount d, outBytes := 0, hspSent := 0 }

/-- The record of a channel whose descriptor has passed its checks (R412). -/
def Dma.taken (x : Dma) (d : Bytes) : Dma :=
  { x with current := some d, tag := descTag d, traversal := if descRing d then 1 else x.traversal + 1 }

section Fetch

variable {u : State} {c : Nat} (hs : (u.dch c).state = 1) (hc : (u.dch c).current = none) (hband : u.power.band ≠ 4)

include hs hc hband

theorem State.dmaFetch_fails {code : Nat} (hcheck : u.fetchCheck c (u.dch c).desc (u.descriptor (u.dch c).desc) = some code) :
    ChannelIs c (((u.dch c).fetched (u.descriptor (u.dch c).desc)).ended 4 code) u.power (u.dmaFetch c) := by
  have hlt : c < u.dma.channels.length := State.dch_lt (by rw [hs]; decide)
  have hfetched := State.modDch_is hlt (fun y => { y with
    shown := (u.dch c).desc, bytesDone := 0, residue := descCount (u.descriptor (u.dch c).desc), outBytes := 0, hspSent := 0 })
  unfold State.dmaFetch
  dsimp only
  rw [if_pos ⟨hs, by rw [hc]; rfl, hband⟩, hcheck]
  dsimp only
  have hended := State.dmaEnd_is (s := u.modDch c (fun y => { y with
    shown := (u.dch c).desc, bytesDone := 0, residue := descCount (u.descriptor (u.dch c).desc), outBytes := 0, hspSent := 0 }))
    (by rw [State.modDch_length]; exact hlt) 4 code
  rw [hfetched.channel, hfetched.power] at hended
  exact hended

/-- A descriptor that passes its checks, in the channel that has fetched it. -/
theorem State.dmaFetch_passes (hcheck : u.fetchCheck c (u.dch c).desc (u.descriptor (u.dch c).desc) = none) :
    ∃ z, ChannelIs c (((u.dch c).fetched (u.descriptor (u.dch c).desc)).taken (u.descriptor (u.dch c).desc)) u.power z ∧
      c < z.dma.channels.length ∧ u.dmaFetch c =
        if descFollow (u.descriptor (u.dch c).desc) = true ∧ (!u.followReached (u.descriptor (u.dch c).desc)) = true then
          z.modDch c (fun y => { y with state := 2, following := true })
        else z.dmaUnit c := by
  have hlt : c < u.dma.channels.length := State.dch_lt (by rw [hs]; decide)
  have hfetched := State.modDch_is hlt (fun y => { y with
    shown := (u.dch c).desc, bytesDone := 0, residue := descCount (u.descriptor (u.dch c).desc), outBytes := 0, hspSent := 0 })
  unfold State.dmaFetch
  dsimp only
  rw [if_pos ⟨hs, by rw [hc]; rfl, hband⟩, hcheck]
  dsimp only
  have htaken := State.modDch_is (s := u.modDch c (fun y => { y with
    shown := (u.dch c).desc, bytesDone := 0, residue := descCount (u.descriptor (u.dch c).desc), outBytes := 0, hspSent := 0 }))
    (c := c) (by rw [State.modDch_length]; exact hlt) (fun y => { y with
      current := some (u.descriptor (u.dch c).desc), tag := descTag (u.descriptor (u.dch c).desc),
      traversal := if descRing (u.descriptor (u.dch c).desc) then 1 else (u.dch c).traversal + 1 })
  rw [hfetched.channel, hfetched.power] at htaken
  exact ⟨_, htaken, by rw [State.modDch_length, State.modDch_length]; exact hlt, rfl⟩

theorem State.dmaFetch_follows (hcheck : u.fetchCheck c (u.dch c).desc (u.descriptor (u.dch c).desc) = none)
    (hf : descFollow (u.descriptor (u.dch c).desc) = true) (hr : u.followReached (u.descriptor (u.dch c).desc) = false) :
    ChannelIs c { ((u.dch c).fetched (u.descriptor (u.dch c).desc)).taken (u.descriptor (u.dch c).desc) with state := 2, following := true }
      u.power (u.dmaFetch c) := by
  obtain ⟨z, hz, hlen, he⟩ := State.dmaFetch_passes hs hc hband hcheck
  rw [he, if_pos ⟨hf, by rw [hr]; rfl⟩]
  have h := State.modDch_is hlen (fun y => { y with state := 2, following := true })
  rw [hz.channel, hz.power] at h
  exact h

theorem State.dmaFetch_readies (hcheck : u.fetchCheck c (u.dch c).desc (u.descriptor (u.dch c).desc) = none)
    (hf : descFollow (u.descriptor (u.dch c).desc) = false) (ha : descAction (u.descriptor (u.dch c).desc) = 0) :
    ChannelIs c { ((u.dch c).fetched (u.descriptor (u.dch c).desc)).taken (u.descriptor (u.dch c).desc) with
      state := 1, following := false, waiting := false } u.power (u.dmaFetch c) := by
  obtain ⟨z, hz, hlen, he⟩ := State.dmaFetch_passes hs hc hband hcheck
  rw [he, if_neg (by rw [hf]; exact fun h => Bool.false_ne_true h.1)]
  have h := State.dmaUnit_is hlen (d := u.descriptor (u.dch c).desc) (by rw [hz.channel]; rfl) ha
  rw [hz.channel, hz.power] at h
  exact h

end Fetch

/-- A FOLLOW descriptor whose source has come far enough, without a check action (R415). -/
theorem State.followReady_is {u : State} {c : Nat} {d : Bytes} (hc : c < u.dma.channels.length) (hd : (u.dch c).current = some d)
    (hf : (u.dch c).following = true) (hr : u.followReached d = true) (ha : descAction d = 0) :
    ChannelIs c { u.dch c with following := false, state := 1, waiting := false } u.power (u.followReady c) := by
  have hmod := State.modDch_is hc (fun y => { y with following := false })
  unfold State.followReady
  dsimp only
  rw [hd]
  dsimp only
  rw [if_pos ⟨hf, hr⟩]
  have h := State.dmaUnit_is (s := u.modDch c (fun y => { y with following := false })) (c := c) (d := d)
    (by rw [State.modDch_length]; exact hc) (by rw [hmod.channel]; exact hd) ha
  rw [hmod.channel, hmod.power] at h
  simpa only [hd] using h

/-! ## Flight -/

theorem le_foldl_max {α : Type} (f : α → Nat) (l : List α) (m : Nat) :
    m ≤ l.foldl (fun m x => Nat.max m (f x)) m ∧ ∀ x ∈ l, f x ≤ l.foldl (fun m x => Nat.max m (f x)) m := by
  induction l generalizing m with
  | nil => exact ⟨Nat.le_refl m, fun _ h => absurd h List.not_mem_nil⟩
  | cons y r ih =>
    obtain ⟨hstart, hrest⟩ := ih (Nat.max m (f y))
    refine ⟨Nat.le_trans (Nat.le_max_left _ _) hstart, fun x hx => ?_⟩
    rcases List.mem_cons.mp hx with rfl | hr
    · exact Nat.le_trans (Nat.le_max_right _ _) hstart
    · exact hrest x hr

/-- The channel that enters flight next wants to, and none that wants to has a higher PRIORITY (R416). -/
theorem State.dmaNext_highest {u : State} {c : Nat} (h : u.dmaNext = some c) :
    u.dmaWants c = true ∧ ∀ k, k < 32 → u.dmaWants k = true → u.num (Obj.dchPriority k) ≤ u.num (Obj.dchPriority c) := by
  unfold State.dmaNext at h
  dsimp only at h
  have htop := List.find?_some h
  simp only [decide_eq_true_eq] at htop
  have hmem := List.mem_filter.mp (List.mem_of_find?_eq_some h)
  refine ⟨hmem.2, fun k hk hw => ?_⟩
  rw [htop]
  exact (le_foldl_max (fun c => u.num (Obj.dchPriority c)) _ 0).2 k (List.mem_filter.mpr ⟨List.mem_range.mpr hk, hw⟩)

theorem State.flightEntry_is {u : State} {c : Nat} (hroom : u.inFlight < 16) (hnext : u.dmaNext = some c) :
    ChannelIs c { u.dch c with state := 3, inFlight := true, issuedAt := u.clk } u.power u.flightEntry := by
  have hwants := (State.dmaNext_highest hnext).1
  unfold State.dmaWants at hwants
  simp only [Bool.and_eq_true, decide_eq_true_eq] at hwants
  unfold State.flightEntry
  rw [if_pos hroom, hnext]
  dsimp only
  exact State.modDch_is (State.dch_lt (by rw [hwants.1.1]; decide)) (fun x => { x with state := 3, inFlight := true, issuedAt := u.clk })

/-! ## Descriptors done -/

theorem doneObjects : ∀ c < 32, ownStatus (Obj.dchDescDone c) = false ∧ Obj.dchDescDone c ≠ Obj.dmaIrqPending ∧ Obj.dchDescDone c ≠ Obj.dmaHalts ∧
    Obj.dchDescDone c ≠ Obj.hbmSrWaits ∧ (∀ p < 7, Obj.dchDescDone c ≠ Obj.hbmMissed p ∧ Obj.dchDescDone c ≠ Obj.hbmLatencyMax p) ∧
    ∀ r < 32, Obj.dchDescDone c ≠ Obj.ringDropped r := by decide +kernel

namespace SameNum

variable {key : Nat}

theorem dmaSignals (hown : ownStatus key = false) (hirq : key ≠ Obj.dmaIrqPending) (s : State) (c : Nat) : SameNum key s (s.dmaSignals c) :=
  Eq.trans (State.raise_num _ _ _ _ key) (Eq.trans ((Settled.event _ _).num hown) (orFlags s _ hirq))

theorem dmaEnd (hown : ownStatus key = false) (hirq : key ≠ Obj.dmaIrqPending) (hhalts : key ≠ Obj.dmaHalts) (s : State) (c cause code : Nat) :
    SameNum key s (s.dmaEnd c cause code) := by
  unfold State.dmaEnd
  dsimp only
  generalize hz : (State.modEngine (State.modDch (s.releaseUnit c) c _) _) = z
  have hleft : SameNum key s z := by rw [← hz]; exact rfl
  exact trans hleft (trans (bumpIf z _ hhalts) (ite (dmaSignals hown hirq _ c) (refl _)))

theorem dmaAccess {port : Nat} (hwaits : key ≠ Obj.hbmSrWaits) (hmissed : key ≠ Obj.hbmMissed port) (hmax : key ≠ Obj.hbmLatencyMax port)
    (s : State) (a n : Nat) : SameNum key s (s.dmaAccess port a n) := by
  have hserved : ∀ (z : State) (n age t : Nat) (w : Bool), SameNum key z (z.hbmServed port n age t w) := fun z n age t w =>
    trans (trans (bumpIf z _ hmissed) (bumpIf _ _ hwaits)) (ite (putNum _ _ hmax) (refl _))
  have htouch : ∀ (l : List Nat) (z : State), SameNum key z (z.hbmTouch port l) := fun l z =>
    fold l (fun y n _ => ite (refl y) (hserved (y.modPch n _) _ _ _ _)) z
  have hfailed : ∀ (z : State) (l : List Nat), SameNum key z (z.hbmFailed port l).1 := fun z l => by
    unfold State.hbmFailed
    dsimp only
    split <;> exact refl z
  exact ite (refl s) (trans (htouch _ s) (hfailed _ _))

theorem dmaWrite (hrings : ∀ r < 32, key ≠ Obj.ringDropped r) (s : State) (a : Nat) (l : List (Nat × Byte)) : SameNum key s (s.dmaWrite a l) := by
  have hbytes : ∀ q : RingPlan, SameNum key s (l.foldl (fun acc p => acc.ringByte q (addrOffset a + p.1) p.2) s) := fun q =>
    fold l (fun z p _ => by unfold State.ringByte; split <;> rfl) s
  exact ite (trans (hbytes _) (bumpIf _ _ (hrings _ (Nat.mod_lt _ (by decide))))) (ite rfl (refl s))

theorem ringControls (s : State) (n : Nat) (d : Bytes) (k : Nat) : SameNum key s (s.ringControls n d k) := by
  unfold State.ringControls
  dsimp only
  split <;> split <;> split <;> rfl

end SameNum

/-- The end of the last descriptor of a chain, without a check action (R413, R419, R421). -/
theorem State.dmaFinish_ends {s : State} {c : Nat} {d src out : Bytes} {n : Nat} (h : c < s.dma.channels.length) (hc : c < 32)
    (ha : descAction d = 0) (hn : descNext d = 0xFFFF) :
    ChannelIs c (({ s.dch c with bytesDone := descCount d, residue := 0, outBytes := n } : Dma).ended 1 0) s.power (s.dmaFinish c d src out n) ∧
      (s.dmaFinish c d src out n).num (Obj.dchDescDone c) = satAdd 32 (s.num (Obj.dchDescDone c)) 1 := by
  obtain ⟨hown, hirq, hhalts, _⟩ := doneObjects c hc
  have hdone := State.modDch_is h (fun y => { y with bytesDone := descCount d, residue := 0, outBytes := n })
  unfold State.dmaFinish
  dsimp only
  rw [if_pos ha]
  have hnum : SameNum (Obj.dchDescDone c) s ((s.modDch c (fun y => { y with bytesDone := descCount d, residue := 0, outBytes := n })).ringControls
      (s.dch c).desc d n) := SameNum.trans rfl (.ringControls _ _ _ _)
  have hring := SameChannel.ringControls (c := c) (s.modDch c (fun y => { y with bytesDone := descCount d, residue := 0, outBytes := n }))
    (s.dch c).desc d n
  have hlen := hring.length.trans (State.modDch_length s c _)
  generalize (s.modDch c (fun y => { y with bytesDone := descCount d, residue := 0, outBytes := n })).ringControls (s.dch c).desc d n = z at hnum hring hlen
  have hsignals : SameChannel c z (if descIrq d then (z.bump (Obj.dchDescDone c)).dmaSignals c else z.bump (Obj.dchDescDone c)) :=
    .ite (.trans (.of_noted (.bump z _)) (.dmaSignals _ c)) (.of_noted (.bump z _))
  have hcount : (if descIrq d then (z.bump (Obj.dchDescDone c)).dmaSignals c else z.bump (Obj.dchDescDone c)).num (Obj.dchDescDone c) =
      satAdd 32 (z.num (Obj.dchDescDone c)) 1 :=
    Eq.trans (SameNum.ite (.dmaSignals hown hirq _ c) (.refl _)) (State.num_bump_same z _)
  unfold State.dmaNextDesc
  dsimp only
  rw [if_pos hn]
  generalize (if descIrq d then (z.bump (Obj.dchDescDone c)).dmaSignals c else z.bump (Obj.dchDescDone c)) = y at hsignals hcount
  have hended := State.dmaEnd_is (s := y) (c := c) (by rw [hsignals.length, hlen]; exact h) 1 0
  rw [hsignals.channel, hring.channel, hdone.channel, hsignals.power, hring.power, hdone.power] at hended
  exact ⟨hended, Eq.trans (SameNum.dmaEnd hown hirq hhalts y c 1 0) (by rw [hcount, hnum])⟩

/-- A channel that ends inside its descriptor (R420, R421). -/
theorem State.dmaStatus_ends {s z : State} {c : Nat} {d : Bytes} (hz : SameChannel c s z) (h : c < s.dma.channels.length) (sent code : Nat) :
    ∃ x, ChannelIs c (Dma.ended x 4 code) s.power ((z.dmaStatus c d sent).dmaEnd c 4 code) := by
  have hlen : c < z.dma.channels.length := by rw [hz.length]; exact h
  have hended := State.dmaEnd_is (s := z.dmaStatus c d sent) (c := c) (by unfold State.dmaStatus; rw [State.modDch_length]; exact hlen) 4 code
  exact ⟨_, hended.channel, hended.power.trans hz.power⟩

section Done

variable {u : State} {c : Nat} {d : Bytes} (hd : (u.dch c).current = some d) (hs : (u.dch c).state = 3)

include hd hs

theorem State.descriptorDone_ends {b : Bytes} (hc : c < 32) (hf : (u.dch c).inFlight = true) (hserves : u.dmaServes c = true)
    (ha : descAction d = 0) (hn : descNext d = 0xFFFF) (hdst : addrSpace (descDst d) ≠ 4) (hread : u.dmaRead (descSrc d) (descCount d) = some b)
    (hw : u.dmaWritable 4 (descDst d) (descCount d) = descCount d) :
    ChannelIs c (({ u.dch c with bytesDone := descCount d, residue := 0, outBytes := descCount d } : Dma).ended 1 0) u.power (u.descriptorDone c) ∧
      (u.descriptorDone c).num (Obj.dchDescDone c) = satAdd 32 (u.num (Obj.dchDescDone c)) 1 := by
  have hlt : c < u.dma.channels.length := State.dch_lt (by rw [hs]; decide)
  obtain ⟨_, _, _, hwaits, hport, hrings⟩ := doneObjects c hc
  have hplain : ¬ (streamLast d = true ∧ descAction d = 1) := fun h => by rw [ha] at h; exact absurd h.2 (by decide)
  have hmoves : u.descriptorDone c = (((u.dmaAccess 5 (descSrc d) (descCount d)).dmaAccess 4 (descDst d) (descCount d)).dmaWrite (descDst d)
      (dmaOutput (u.dch c) d b)).dmaFinish c d b ((dmaOutput (u.dch c) d b).map (·.2)) (descCount d) := by
    unfold State.descriptorDone
    dsimp only
    rw [hd]
    dsimp only
    rw [if_neg (by rw [hs, hf, hserves]; simp), hread]
    dsimp only
    rw [if_neg hplain, if_neg (by rw [hw]; exact Nat.lt_irrefl _), if_neg hdst]
  rw [hmoves]
  have hkeep : SameChannel c u (((u.dmaAccess 5 (descSrc d) (descCount d)).dmaAccess 4 (descDst d) (descCount d)).dmaWrite (descDst d)
      (dmaOutput (u.dch c) d b)) := ((SameChannel.dmaAccess u _ _ _).trans (.dmaAccess _ _ _ _)).trans (.dmaWrite _ _ _)
  have hnum : SameNum (Obj.dchDescDone c) u (((u.dmaAccess 5 (descSrc d) (descCount d)).dmaAccess 4 (descDst d) (descCount d)).dmaWrite (descDst d)
      (dmaOutput (u.dch c) d b)) :=
    SameNum.trans (SameNum.trans (.dmaAccess hwaits (hport 5 (by decide)).1 (hport 5 (by decide)).2 u _ _)
      (.dmaAccess hwaits (hport 4 (by decide)).1 (hport 4 (by decide)).2 _ _ _)) (.dmaWrite hrings _ _ _)
  generalize ((u.dmaAccess 5 (descSrc d) (descCount d)).dmaAccess 4 (descDst d) (descCount d)).dmaWrite (descDst d) (dmaOutput (u.dch c) d b) = z
    at hkeep hnum
  obtain ⟨his, hcount⟩ := State.dmaFinish_ends (s := z) (c := c) (d := d) (src := b) (out := (dmaOutput (u.dch c) d b).map (·.2)) (n := descCount d)
    (by rw [hkeep.length]; exact hlt) hc ha hn
  rw [hkeep.channel, hkeep.power] at his
  exact ⟨his, hcount.trans (by rw [hnum])⟩

theorem State.descriptorDone_fails (hf : (u.dch c).inFlight = true) (hserves : u.dmaServes c = true)
    (hread : u.dmaRead (descSrc d) (descCount d) = none) :
    ∃ x, ChannelIs c (Dma.ended x 4 Code.dataError) u.power (u.descriptorDone c) := by
  have hlt : c < u.dma.channels.length := State.dch_lt (by rw [hs]; decide)
  have haccess := (SameChannel.dmaAccess (c := c) u 5 (descSrc d) (descCount d)).trans (.dmaAccess _ 4 (descDst d) (descCount d))
  unfold State.descriptorDone
  dsimp only
  rw [hd]
  dsimp only
  rw [if_neg (by rw [hs, hf, hserves]; simp), hread]
  unfold State.dmaDataError
  dsimp only
  split
  · exact State.dmaStatus_ends (haccess.trans (.dmaHsp _ _ _ _ _ _ _ _)) hlt _ _
  · exact State.dmaStatus_ends (haccess.trans (.dmaWrite _ _ _)) hlt _ _

theorem State.busError_ends (hdst : addrSpace (descDst d) = 4) (hdue : (u.dch c).issuedAt + 10000 ≤ u.clk) (hup : (u.eth (addrEth (descDst d))).up = false) :
    ∃ x, ChannelIs c (Dma.ended x 4 Code.busError) u.power (u.busError c) := by
  have hlt : c < u.dma.channels.length := State.dch_lt (by rw [hs]; decide)
  have hblocked : u.hspBlocked c = true := by
    unfold State.hspBlocked
    rw [hd]
    simp [hdst, hup]
  unfold State.busError
  dsimp only
  rw [hd]
  dsimp only
  rw [if_pos ⟨hs, hdst, hdue, hblocked⟩]
  exact State.dmaStatus_ends (.refl u) hlt _ _

end Done

/-- A command of a unit whose effect leaves the power state, where no power step waits: the DMA engine is as the effect leaves it. -/
theorem State.run_dma {i : Instr} {s : State} {dt : Nat} {effect : State → State} {c : Nat} {x : Dma} {P : State → Prop}
    (hi : exec i s = s.run dt State.unitsRun effect) (hruns : (s.advance dt).unitsRun = true)
    (htarget : (s.advance dt).power.target = none) (hdoze : (s.advance dt).power.state ≠ .doze)
    (he : ChannelIs c x (s.advance dt).power (effect (s.advance dt)))
    (hp : ∀ t, Settled (effect (s.advance dt)) t → t.dch c = x → P t) : Completes i s P := by
  refine State.run_still hi hruns ((congrArg PowerSys.target he.power).trans htarget) (fun t ht hstill => hp t ht ?_)
  have hdma := hstill.dma (fun h => hdoze ((congrArg PowerSys.state he.power).symm.trans h))
  exact (congrArg (fun e : DmaEngine => e.channels.getD c Dma.reset) hdma).trans he.channel

/-- Settles O51: each part by what its function makes of the channel's record. -/
theorem descriptorsRun : Obligations.DescriptorsRun := by
  intro dt c s
  refine fun hruns htarget hdoze hc => ⟨fun hs hcur _ hband => ⟨?_, ?_, ?_⟩, ?_, ?_, ?_, ?_, ?_⟩
  · intro code hcheck
    exact State.run_dma (exec_descriptorFetch s dt c) hruns htarget hdoze (State.dmaFetch_fails hs hcur hband hcheck)
      (fun t _ ht => by rw [ht]; exact ⟨rfl, rfl, rfl⟩)
  · intro hcheck hf hr
    exact State.run_dma (exec_descriptorFetch s dt c) hruns htarget hdoze (State.dmaFetch_follows hs hcur hband hcheck hf hr)
      (fun t _ ht => by rw [ht]; exact ⟨rfl, rfl, rfl⟩)
  · intro hcheck hf ha
    exact State.run_dma (exec_descriptorFetch s dt c) hruns htarget hdoze (State.dmaFetch_readies hs hcur hband hcheck hf ha)
      (fun t _ ht => by rw [ht]; exact ⟨rfl, rfl, rfl, rfl⟩)
  · intro d hd hf hr ha
    exact State.run_dma (exec_followReady s dt c) hruns htarget hdoze (State.followReady_is (State.dch_lt_of_current hd) hd hf hr ha)
      (fun t _ ht => by rw [ht]; exact ⟨rfl, rfl⟩)
  · intro hroom hnext
    exact State.run_dma (exec_flightEntry s dt) hruns htarget hdoze (State.flightEntry_is hroom hnext)
      (fun t _ ht => ⟨ht, (State.dmaNext_highest hnext).2⟩)
  · intro d b hd hs hf hserves ha hn hdst hread hw
    obtain ⟨his, hcount⟩ := State.descriptorDone_ends hd hs hc hf hserves ha hn hdst hread hw
    exact State.run_dma (exec_descriptorDone s dt c) hruns htarget hdoze his
      (fun t hsettled ht => ⟨by rw [ht]; rfl, by rw [ht]; rfl, by rw [ht]; rfl, by rw [ht]; rfl, (hsettled.num (doneObjects c hc).1).trans hcount⟩)
  · intro d hd hs hf hserves hread
    obtain ⟨x, his⟩ := State.descriptorDone_fails hd hs hf hserves hread
    exact State.run_dma (exec_descriptorDone s dt c) hruns htarget hdoze his (fun t _ ht => by rw [ht]; exact ⟨rfl, rfl, rfl⟩)
  · intro d hd hs hdst hdue hup
    obtain ⟨x, his⟩ := State.busError_ends hd hs hdst hdue hup
    exact State.run_dma (exec_busError s dt c) hruns htarget hdoze his (fun t _ ht => by rw [ht]; exact ⟨rfl, rfl, rfl⟩)

end Sys2Proof.Machine
end

section
/-! PROOFS. Encoders (O39). -/

namespace Sys2Proof.Machine

/-! ## A count that feeds nothing -/

/-- The generators and the divided outputs take no count of channel `c`, and no commit is armed (R149, R169). -/
structure Unfed (c : Nat) (s : State) : Prop where
  armed : s.ctl.staging.armed = []
  triggers : ∀ v, v < 4 → s.num (Obj.trgSource v) ≠ c + 1
  outputs : ∀ k, k < 4 → s.num (Obj.pgoInput k) ≠ c + 1

theorem Unfed.of_same {c : Nat} {a b : State} (h : Unfed c a) (hctl : b.ctl = a.ctl) (hv : ∀ v, v < 4 → b.num (Obj.trgSource v) = a.num (Obj.trgSource v))
    (hk : ∀ k, k < 4 → b.num (Obj.pgoInput k) = a.num (Obj.pgoInput k)) : Unfed c b :=
  ⟨by rw [hctl]; exact h.armed, fun v hv4 => by rw [hv v hv4]; exact h.triggers v hv4, fun k hk4 => by rw [hk k hk4]; exact h.outputs k hk4⟩

theorem State.effSource_unarmed {s : State} (h : s.ctl.staging.armed = []) (v : Nat) : s.effSource v = s.num (Obj.trgSource v) := by
  have hbound : s.boundHere v = [] := by
    unfold State.boundHere
    rw [h]
    rfl
  unfold State.effSource State.boundSource
  rw [hbound]
  exact ite_self _

theorem State.triggerEvent_other {s : State} {source v : Nat} (h : s.ctl.staging.armed = []) (hs : s.num (Obj.trgSource v) ≠ source) :
    s.triggerEvent source v = s := by
  unfold State.triggerEvent
  dsimp only
  rw [h]
  simp only [List.any_nil, Bool.false_eq_true, if_false]
  rw [if_pos]
  rw [State.effSource_unarmed h]
  exact .inr (.inr (.inl hs.symm))

theorem foldl_still {α : Type} {f : State → α → State} {s : State} (l : List α) (h : ∀ x ∈ l, f s x = s) : l.foldl f s = s := by
  induction l with
  | nil => rfl
  | cons x r ih =>
    rw [List.foldl_cons, h x List.mem_cons_self]
    exact ih (fun y hy => h y (List.mem_cons_of_mem _ hy))

theorem State.sourceEvent_unfed {s : State} {c : Nat} (h : Unfed c s) : s.sourceEvent (c + 1) = s :=
  foldl_still (List.range 4) (fun v hv => State.triggerEvent_other h.armed (h.triggers v (List.mem_range.mp hv)))

theorem State.pgoFeed_unfed {s : State} {c : Nat} (h : Unfed c s) (step : Int) : s.pgoFeed c step = s :=
  foldl_still (List.range 4) (fun k hk => if_neg (h.outputs k (List.mem_range.mp hk)))

/-- A count that feeds nothing is an event of the fabric, and no more (R163, R444). -/
theorem State.counted_unfed {s : State} {c : Nat} (h : Unfed c s) (old new : Encoder) (step : Int) :
    s.counted c old new step = s.raise false (0x010 + c) new.position := by
  have hraised : Unfed c (s.raise false (0x010 + c) new.position) :=
    h.of_same (by unfold State.raise State.raiseAt; split <;> rfl) (fun v _ => State.raise_num s false (0x010 + c) new.position _) (fun k _ => State.raise_num s false (0x010 + c) new.position _)
  unfold State.counted
  dsimp only
  rw [State.sourceEvent_unfed hraised, ite_self, State.pgoFeed_unfed hraised]

theorem Unfed.woken {c : Nat} {a b : State} (h : Unfed c a) (k : Woken a b) : Unfed c b := by
  exact h.of_same k.ctl (fun v _ => k.num (by unfold Obj.trgSource Obj.pwLastWake objKey; omega))
    (fun i _ => k.num (by unfold Obj.pgoInput Obj.pwLastWake objKey; omega))

/-! ## Channels -/

theorem State.encoder_modEncoder_same {s : State} {c : Nat} (h : c < s.encoders.length) (f : Encoder → Encoder) :
    (s.modEncoder c f).encoder c = f (s.encoder c) := by
  unfold State.encoder State.modEncoder
  rw [getD_of_lt _ _ (by simpa using h), getD_of_lt _ _ h, List.getElem_modify_eq]

theorem Settled.encoders {a t : State} (h : Settled a t) : t.encoders = a.encoders := (congrArg State.encoders h.same :)
theorem Settled.encoder {a t : State} (h : Settled a t) (c : Nat) : t.encoder c = a.encoder c := (congrArg (fun s : State => s.encoder c) h.same :)

/-! ## Counts -/

theorem State.countEdge_short {u : State} {c n : Nat} (a b : Bool) (hdeep : u.power.state ≠ .deep) (hn : n < u.num (Obj.encFilter c)) :
    u.countEdge c n a b = u := by
  unfold State.countEdge
  exact if_pos (.inr ⟨hn, hdeep⟩)

theorem State.edgeSeen_operating {u : State} (c n : Nat) (a b : Bool) (h : u.ctl.mode.operating = true) : u.edgeSeen c n a b = u.countEdge c n a b := by
  unfold State.edgeSeen
  rw [if_neg]
  intro hs
  rw [hs] at h
  cases h

theorem State.indexEdge_short {u : State} {c n : Nat} (hn : n < u.num (Obj.encFilter c)) : u.indexEdge c n = u := by
  unfold State.indexEdge
  exact if_neg (fun h => absurd h.2.2 (Nat.not_le_of_lt hn))

section Count

variable {u : State} {c n : Nat} {a b : Bool} (hop : u.ctl.mode.operating = true) (hdeep : u.power.state ≠ .deep)
  (hr : u.encRuns c = true) (hn : u.num (Obj.encFilter c) ≤ n)

include hop hdeep hr hn

/-- An edge of a channel that counts, at levels that have held (R162 to R165). -/
theorem State.countEdge_runs (hkind : edgeKind (u.encoder c).a (u.encoder c).b a b (u.num (Obj.encPolarity c)) ≠ .noChange) :
    u.countEdge c n a b =
      match edgeKind (u.encoder c).a (u.encoder c).b a b (u.num (Obj.encPolarity c)) with
      | .noChange => u.modEncoder c (fun y => { y with a := a, b := b })
      | .illegal =>
        let s2 := (u.modEncoder c (fun y => { y with a := a, b := b })).encIllegal c
        if s2.retired Unit.encoder c then s2.beltLost c else s2
      | .count f =>
        let y := ((u.modEncoder c (fun y => { y with a := a, b := b })).encoder c).edge f u.clk
        if y.2 = 0 then (u.modEncoder c (fun y => { y with a := a, b := b })).modEncoder c (fun _ => y.1)
        else (((u.modEncoder c (fun y => { y with a := a, b := b })).leaveDoze .encoder).modEncoder c (fun _ => y.1)).counted c
          ((u.modEncoder c (fun y => { y with a := a, b := b })).encoder c) y.1 y.2 := by
  unfold State.countEdge
  dsimp only
  rw [if_neg (fun h => h.elim hkind (fun h => absurd h.1 (Nat.not_lt_of_le hn))), if_neg hdeep, if_neg (by simp [hr, hop])]
  rfl

/-- A counted edge moves its channel alone (R163, R165). -/
theorem State.countEdge_counts (hc : c < u.encoders.length) {f : Bool}
    (hkind : edgeKind (u.encoder c).a (u.encoder c).b a b (u.num (Obj.encPolarity c)) = .count f) (hquiet : Unfed c u) :
    (u.countEdge c n a b).encoders = u.encoders.set c ((({ u.encoder c with a := a, b := b } : Encoder).edge f u.clk).1) := by
  have hset : ∀ y : Encoder, (u.encoders.modify c (fun y => { y with a := a, b := b })).modify c (fun _ => y) = u.encoders.set c y := fun y => by
    rw [List.modify_modify_eq, set_eq_modify]
    rfl
  rw [State.countEdge_runs hop hdeep hr hn (by rw [hkind]; exact EdgeKind.noConfusion), hkind]
  dsimp only
  rw [State.encoder_modEncoder_same hc]
  split
  · exact hset _
  · have hwoken := Woken.leaveDoze (u.modEncoder c (fun y => { y with a := a, b := b })) .encoder
    have hunfed : Unfed c (u.modEncoder c (fun y => { y with a := a, b := b })) := ⟨hquiet.armed, hquiet.triggers, hquiet.outputs⟩
    have hencoders : ((u.modEncoder c (fun y => { y with a := a, b := b })).leaveDoze .encoder).encoders =
        u.encoders.modify c (fun y => { y with a := a, b := b }) := (congrArg State.encoders hwoken.same :)
    have hdozed := hunfed.woken hwoken
    generalize (u.modEncoder c (fun y => { y with a := a, b := b })).leaveDoze .encoder = z at hencoders hdozed
    generalize (({ u.encoder c with a := a, b := b } : Encoder).edge f u.clk) = y
    rw [State.counted_unfed (s := z.modEncoder c (fun _ => y.1)) ⟨hdozed.armed, hdozed.triggers, hdozed.outputs⟩]
    have hraise : ∀ w : State, (w.raise false (0x010 + c) y.1.position).encoders = w.encoders := fun w => by
      unfold State.raise State.raiseAt
      split <;> rfl
    rw [hraise]
    show z.encoders.modify c (fun _ => y.1) = _
    rw [hencoders]
    exact hset y.1

/-- An illegal transition that is not the ninth within 1 ms (R164). -/
theorem State.countEdge_illegal (hc : c < u.encoders.length)
    (hkind : edgeKind (u.encoder c).a (u.encoder c).b a b (u.num (Obj.encPolarity c)) = .illegal) (hfew : (u.encoder c).illegal.length < 8) :
    (u.countEdge c n a b).num (Obj.encPhaseErrors c) = satAdd 32 (u.num (Obj.encPhaseErrors c)) 1 ∧
      bitOf ((u.countEdge c n a b).num (Obj.encFlags c)) 0 = true ∧ ((u.countEdge c n a b).encoder c).position = (u.encoder c).position := by
  have hlive : u.retired Unit.encoder c = false := by
    unfold State.encRuns at hr
    simp only [Bool.and_eq_true, Bool.not_eq_true'] at hr
    exact hr.1.2
  have hlevels := State.encoder_modEncoder_same hc (fun y => { y with a := a, b := b })
  rw [State.countEdge_runs hop hdeep hr hn (by rw [hkind]; exact EdgeKind.noConfusion), hkind]
  dsimp only
  generalize hz : u.modEncoder c (fun y => { y with a := a, b := b }) = z at hlevels
  have hzlen : c < z.encoders.length := by rw [← hz]; simpa [State.modEncoder] using hc
  have hznum : ∀ key, z.num key = u.num key := fun key => by rw [← hz]; rfl
  have hzlive : z.retired Unit.encoder c = false := by rw [← hz]; exact hlive
  have hrecent : ¬ 8 < (z.clk :: (z.encoder c).illegal.filter (fun t => decide (z.clk ≤ t + 1000000))).length := by
    have hillegal : (z.encoder c).illegal = (u.encoder c).illegal := (congrArg Encoder.illegal hlevels :)
    rw [hillegal, List.length_cons]
    have := List.length_filter_le (fun t => decide (z.clk ≤ t + 1000000)) (u.encoder c).illegal
    omega
  have hnoted : z.encIllegal c = ((z.bump (Obj.encPhaseErrors c)).orFlags (Obj.encFlags c) 1).modEncoder c (fun x => { x with
      illegal := z.clk :: (z.encoder c).illegal.filter (fun t => decide (z.clk ≤ t + 1000000)) }) := by
    unfold State.encIllegal
    exact if_neg hrecent
  have hstays : (z.encIllegal c).retired Unit.encoder c = false := by
    rw [hnoted]
    exact hzlive
  rw [hstays]
  simp only [Bool.false_eq_true, if_false]
  rw [hnoted]
  refine ⟨?_, ?_, ?_⟩
  · rw [← hznum]
    exact Eq.trans (State.num_putNum_other (z.bump (Obj.encPhaseErrors c)) _ (by unfold Obj.encPhaseErrors Obj.encFlags objKey; omega))
      (State.num_bump_same z _)
  · have hflags := State.num_putNum_same (z.bump (Obj.encPhaseErrors c)) (Obj.encFlags c) ((z.bump (Obj.encPhaseErrors c)).num (Obj.encFlags c) ||| 1)
    refine (congrArg (fun m => bitOf m 0) hflags).trans ?_
    show Nat.testBit (_ ||| 1) 0 = true
    rw [Nat.testBit_or]
    simp
  · refine (congrArg Encoder.position (State.encoder_modEncoder_same (s := (z.bump (Obj.encPhaseErrors c)).orFlags (Obj.encFlags c) 1) hzlen _)).trans ?_
    exact (congrArg Encoder.position hlevels :)

omit hdeep in
/-- A Z edge of a channel whose position is not waiting for one after DEEP (R167, R171). -/
theorem State.indexEdge_latches (hc : c < u.encoders.length) (hz : (u.encoder c).rezero = false) :
    (u.indexEdge c n).num (Obj.encIndexPos c) = (u.encoder c).position ∧
      (u.indexEdge c n).num (Obj.encIndexCount c) = satAdd 32 (u.num (Obj.encIndexCount c)) 1 ∧
      ((u.indexEdge c n).encoder c).position = if u.num (Obj.encIndexMode c) = 1 then 0 else (u.encoder c).position := by
  have hlatched : ∃ f : Encoder → Encoder, u.encIndex c =
      ((u.putNum (Obj.encIndexPos c) (u.encoder c).position).bump (Obj.encIndexCount c)).modEncoder c f ∧
      (f (u.encoder c)).position = if u.num (Obj.encIndexMode c) = 1 then 0 else (u.encoder c).position := by
    unfold State.encIndex
    rw [if_pos hr]
    dsimp only
    rw [hz]
    simp only [Bool.false_and, Bool.false_eq_true, if_false]
    refine ⟨_, rfl, ?_⟩
    dsimp only
    split <;> rfl
  obtain ⟨f, hf, hposition⟩ := hlatched
  have hevent : u.indexEdge c n = (u.encIndex c).raise false (0x014 + c) ((u.encIndex c).num (Obj.encIndexPos c)) := by
    unfold State.indexEdge
    exact if_pos ⟨hr, hop, hn⟩
  have hencoder : ∀ (w : State) (d : Nat), (w.raise false (0x014 + c) d).encoder c = w.encoder c := fun w d => by
    unfold State.raise State.raiseAt
    split <;> rfl
  rw [hevent, State.raise_num, State.raise_num, hencoder, hf]
  refine ⟨?_, ?_, ?_⟩
  · exact Eq.trans (State.num_bump_other (u.putNum (Obj.encIndexPos c) _) (by unfold Obj.encIndexPos Obj.encIndexCount objKey; omega))
      (State.num_putNum_same u _ _)
  · refine Eq.trans (State.num_bump_same (u.putNum (Obj.encIndexPos c) _) _) ?_
    rw [State.num_putNum_other u _ (by unfold Obj.encIndexPos Obj.encIndexCount objKey; omega)]
  · exact (congrArg Encoder.position (State.encoder_modEncoder_same
      (s := (u.putNum (Obj.encIndexPos c) (u.encoder c).position).bump (Obj.encIndexCount c)) hc f)).trans hposition

end Count

theorem State.encTimeout_still {u : State} {c : Nat} (hr : u.encRuns c = true)
    (hs : (u.encoder c).state = 2 ∨ (u.encoder c).state = 3 ∨ (u.encoder c).state = 4)
    (hdue : (u.encoder c).lastEdge + u.num (Obj.encSpeedTimeout c) * 1000000 ≤ u.clk) :
    u.encTimeout c = u.modEncoder c (fun e => { e with state := 1, run := 0 }) := by
  unfold State.encTimeout
  exact if_pos ⟨hr, hs, hdue⟩

/-- The next count of a retired channel moves that channel alone (R168). -/
theorem State.syntheticCount_counts {u : State} {c : Nat} (hop : u.ctl.mode.operating = true) (hs : u.encSynthetic c = true) (hquiet : Unfed c u)
    (hdue : (u.encoder c).synBase + ((u.encoder c).synCount + 1) * 1000000000 / u.num (Obj.encNominalRate c) ≤ u.clk) :
    (u.syntheticCount c).encoders = u.encoders.set c
      { ((u.encoder c).atPosition (((u.encoder c).position + 1) % wrap32)) with synCount := (u.encoder c).synCount + 1 } := by
  have hwoken := Woken.leaveDoze u .encoder
  have hencoders : (u.leaveDoze .encoder).encoders = u.encoders := (congrArg State.encoders hwoken.same :)
  have hdozed := hquiet.woken hwoken
  unfold State.syntheticCount
  dsimp only
  rw [if_pos ⟨hs, hop, hdue⟩]
  generalize u.leaveDoze .encoder = z at hencoders hdozed
  generalize ({ ((u.encoder c).atPosition (((u.encoder c).position + 1) % wrap32)) with synCount := (u.encoder c).synCount + 1 } : Encoder) = y
  rw [State.counted_unfed (s := z.modEncoder c (fun _ => y)) ⟨hdozed.armed, hdozed.triggers, hdozed.outputs⟩, set_eq_modify, ← hencoders]
  unfold State.raise State.raiseAt
  split <;> rfl

theorem encoderObjects : ∀ c < 4, ownStatus (Obj.encPhaseErrors c) = false ∧ ownStatus (Obj.encFlags c) = false ∧
    ownStatus (Obj.encIndexPos c) = false ∧ ownStatus (Obj.encIndexCount c) = false := by decide

/-- Settles O39: each edge by what it makes of its channel. -/
theorem encodersCount : Obligations.EncodersCount := by
  intro dt c n a b s
  refine fun hruns hc hlen => ⟨fun hn => ⟨?_, ?_⟩, fun hr hn => ⟨?_, ?_, ?_, ?_⟩, fun hs hquiet hdue => ?_⟩
  · have hop := operating_of_unitsRun hruns
    exact State.run_settled (exec_countEdge s dt c n ⟨a, b⟩) (by simp [hc])
      ((State.edgeSeen_operating c n a b hop.1).trans (State.countEdge_short a b hop.2 hn))
  · exact State.run_settled (exec_indexEdge s dt ⟨c, n⟩) (by simp [hruns, hc]) (State.indexEdge_short hn)
  · intro f hkind hquiet
    have hop := operating_of_unitsRun hruns
    have hcount := State.countEdge_counts hop.1 hop.2 hr hn hlen hkind ⟨hquiet.1, hquiet.2.1, hquiet.2.2⟩
    rw [← State.edgeSeen_operating c n a b hop.1] at hcount
    exact State.run_completes (exec_countEdge s dt c n ⟨a, b⟩) (by simp [hc]) (fun t ht _ _ => ht.encoders.trans hcount)
  · intro hkind hfew
    have hop := operating_of_unitsRun hruns
    have hnoted := State.countEdge_illegal hop.1 hop.2 hr hn hlen hkind hfew
    rw [← State.edgeSeen_operating c n a b hop.1] at hnoted
    obtain ⟨herrors, hflags, _⟩ := encoderObjects c hc
    refine State.run_completes (exec_countEdge s dt c n ⟨a, b⟩) (by simp [hc]) (fun t ht _ _ => ?_)
    exact ⟨(ht.num herrors).trans hnoted.1, (congrArg (fun m => bitOf m 0) (ht.num hflags)).trans hnoted.2.1,
      (congrArg Encoder.position (ht.encoder c)).trans hnoted.2.2⟩
  · intro hz
    obtain ⟨hpos, hcount, hposition⟩ := State.indexEdge_latches (operating_of_unitsRun hruns).1 hr hn hlen hz
    obtain ⟨_, _, hindex, hindexes⟩ := encoderObjects c hc
    exact State.run_completes (exec_indexEdge s dt ⟨c, n⟩) (by simp [hruns, hc]) (fun t ht _ _ =>
      ⟨(ht.num hindex).trans hpos, (ht.num hindexes).trans hcount, (congrArg Encoder.position (ht.encoder c)).trans hposition⟩)
  · intro hs hdue
    exact State.run_settled (exec_speedTimeout s dt c) (by simp [hruns, hc]) (State.encTimeout_still hr hs hdue)
  · have hcount := State.syntheticCount_counts (operating_of_unitsRun hruns).1 hs ⟨hquiet.1, hquiet.2.1, hquiet.2.2⟩ hdue
    exact State.run_completes (exec_syntheticCount s dt c) (by simp [hruns, hc]) (fun t ht _ _ => ht.encoders.trans hcount)

end Sys2Proof.Machine
end

section
/-! PROOFS. The power states (O31). -/

namespace Sys2Proof.Machine

/-! ## What the units' own steps leave -/

theorem Stored.power {a b : State} (h : Stored a b) : b.power = a.power := (congrArg State.power h.rest.rest :)

/-- What lanes, outputs, buses and counters leave on a change of the power state: the power state itself, module time, the heartbeat and the
Ethernet ports. -/
structure Unmoved (a b : State) : Prop where
  power : b.power = a.power
  timeOffset : b.timeOffset = a.timeOffset
  heartbeat : b.ctl.heartbeat = a.ctl.heartbeat
  eths : b.eths = a.eths

namespace Unmoved

theorem refl (a : State) : Unmoved a a := ⟨rfl, rfl, rfl, rfl⟩
theorem trans {a b c : State} (h : Unmoved a b) (k : Unmoved b c) : Unmoved a c :=
  ⟨k.power.trans h.power, k.timeOffset.trans h.timeOffset, k.heartbeat.trans h.heartbeat, k.eths.trans h.eths⟩
theorem ite {p : Prop} [Decidable p] {s a b : State} (ha : Unmoved s a) (hb : Unmoved s b) : Unmoved s (if p then a else b) := by
  split <;> assumption
theorem fold {α : Type} {f : State → α → State} (h : ∀ s x, Unmoved s (f s x)) (l : List α) (s : State) : Unmoved s (l.foldl f s) := by
  induction l generalizing s with
  | nil => exact refl s
  | cons x r ih => exact (h s x).trans (ih (f s x))

theorem raiseAt (s : State) (delay : Nat) (east : Bool) (source carried data : Nat) : Unmoved s (s.raiseAt delay east source carried data) :=
  ite ⟨rfl, rfl, rfl, rfl⟩ (refl s)
theorem powerLanes (s : State) : Unmoved s s.powerLanes := fold (f := State.powerLane) (fun _ _ => ⟨rfl, rfl, rfl, rfl⟩) _ s
theorem leaveSelfRefresh (s : State) : Unmoved s s.leaveSelfRefresh := ⟨rfl, rfl, rfl, rfl⟩
theorem dmaUnpark (s : State) : Unmoved s s.dmaUnpark := ⟨rfl, rfl, rfl, rfl⟩
theorem resetCics (s : State) : Unmoved s s.resetCics := ⟨rfl, rfl, rfl, rfl⟩

theorem toutReview (s : State) : Unmoved s s.toutReview := by
  refine fold (fun z k => ite (refl z) ?_) _ s
  exact trans (b := (z.modTout k _).emit _) ⟨rfl, rfl, rfl, rfl⟩ (raiseAt _ _ _ _ _ _)

theorem counterArmed (s : State) (compare i : Nat) : Unmoved s (s.counterArmed compare i) := ite (refl s) ⟨rfl, rfl, rfl, rfl⟩

theorem countersArmed (s : State) : Unmoved s s.countersArmed := fold (fun z i => counterArmed z _ i) _ s

theorem startBus (s : State) (b : Nat) : Unmoved s (s.startBus b) := ite ⟨rfl, rfl, rfl, rfl⟩ ⟨rfl, rfl, rfl, rfl⟩

theorem modBus (s : State) (b : Nat) (f : Bus → Bus) : Unmoved s (s.modBus b f) := ⟨rfl, rfl, rfl, rfl⟩

theorem busesWake (s : State) : Unmoved s s.busesWake :=
  fold (fun z b => ite (refl z) (ite (startBus z b) (modBus z b _))) _ s

theorem holdover (s : State) : Unmoved s s.holdover := ite ⟨rfl, rfl, rfl, rfl⟩ ⟨rfl, rfl, rfl, rfl⟩

theorem bumpBy (s : State) (key n : Nat) : Unmoved s (s.bumpBy key n) := ⟨rfl, rfl, rfl, rfl⟩
theorem modTout (s : State) (k : Nat) (f : Tout → Tout) : Unmoved s (s.modTout k f) := ⟨rfl, rfl, rfl, rfl⟩

theorem edgesOfDeep (s : State) (since : Int) : Unmoved s (s.edgesOfDeep since) :=
  fold (fun z k => (bumpBy z (Obj.toutLateEdges k) _).trans (modTout _ k _)) _ s

end Unmoved

/-! ## DOZE -/

/-- The idle timer in ACTIVE, where the conditions of DOZE hold and those of DEEP do not (R480, R481). -/
theorem State.stepDown_dozes {u : State} (hdoze : u.dozeOk = true) (hdeep : u.deepOk = false) (hs : u.power.state = .active)
    (he : u.power.entering = false) (hheld : ∀ x ∈ u.dma.channels, dmaHolds x .doze = false) :
    u.stepDown.power.state = .doze ∧ u.stepDown.power.target = none := by
  have hto : u.stepTarget = some .doze := by
    unfold State.stepTarget
    rw [hdeep, hdoze]
    rfl
  have hnone : u.dma.channels.any (fun x => dmaHolds x .doze) = false := by
    rw [List.any_eq_false]
    exact fun x hx h => absurd ((hheld x hx).symm.trans h) (by decide)
  have hsteps : u.stepDown =
      ((u.modPower (fun p => { p with state := .doze, target := none, entering := false })).bump Obj.pwDozeEntries).powerLanes := by
    unfold State.stepDown
    rw [hto]
    dsimp only
    rw [if_neg (by simp [hs, he]), hnone]
    rfl
  have hpower := (Unmoved.powerLanes ((u.modPower (fun p => { p with state := .doze, target := none, entering := false })).bump
    Obj.pwDozeEntries)).power
  rw [hsteps, hpower]
  exact ⟨rfl, rfl⟩

/-- A wake in DOZE (R482). -/
theorem State.leaveDoze_wakes {u : State} (cause : WakeCause) (h : u.power.state = .doze) :
    (u.leaveDoze cause).power.state = .active ∧ (u.leaveDoze cause).power.target = none ∧
      (u.leaveDoze cause).num Obj.pwLastWake = wakeCode cause := by
  unfold State.leaveDoze
  rw [if_pos (Or.inl h)]
  dsimp only
  rw [if_pos h]
  generalize hz : (u.modPower _).putNum Obj.pwLastWake (wakeCode cause) = z
  have hlast : z.num Obj.pwLastWake = wakeCode cause := by
    rw [← hz]
    exact State.num_putNum_same _ _ _
  have hstate : z.power.state = .active := by
    rw [← hz]
    exact if_pos h
  have htarget : z.power.target = none := by
    rw [← hz]
    rfl
  have hmoved := ((Unmoved.leaveSelfRefresh z).trans (.powerLanes _)).trans (.dmaUnpark _)
  have hnum : (z.leaveSelfRefresh.powerLanes).dmaUnpark.num Obj.pwLastWake = z.num Obj.pwLastWake :=
    SameNum.fold (key := Obj.pwLastWake) (f := State.powerLane) _ (fun y _ _ => rfl) z.leaveSelfRefresh
  exact ⟨(congrArg PowerSys.state hmoved.power).trans hstate, (congrArg PowerSys.target hmoved.power).trans htarget, hnum.trans hlast⟩

/-! ## DEEP -/

/-- The entry sequence into DEEP (R90, R484). -/
structure DeepEntered (u t : State) : Prop where
  power : t.power.state = .deep ∧ t.power.target = none ∧ t.power.deepAt = u.clk ∧ t.power.deepFreq = u.servo.freq
  paused : t.ctl.heartbeat.pausedAt = some u.clk
  links : ∀ x ∈ t.eths, x.up = false

theorem State.deepEntry_enters {u : State} (he : u.power.entering = true) (ht : u.power.target = some .deep) (hq : u.dmaQuiet = true) :
    DeepEntered u u.deepEntry := by
  unfold State.deepEntry
  rw [if_pos ⟨he, ht, hq⟩]
  dsimp only
  generalize (List.range 2).foldl State.ethDown u.busesDeep = z
  generalize hy : ((z.modPower _).bump Obj.pwDeepEntries).toutReview = y
  have hpower : y.power.state = .deep ∧ y.power.target = none ∧ y.power.deepAt = u.clk ∧ y.power.deepFreq = u.servo.freq := by
    rw [← hy, (Unmoved.toutReview _).power]
    exact ⟨rfl, rfl, rfl, rfl⟩
  have hrefresh : ∀ (w : State) (n : Nat), (w.enterSelfRefresh n).power = w.power := fun w n => by
    unfold State.enterSelfRefresh
    dsimp only
    split
    · rfl
    · split <;> rfl
  have hdrained : ((List.range u.ctl.part.pchs).foldl (fun acc n => (acc.hbmDrain n).enterSelfRefresh n) y).power = y.power :=
    Quiet.fold (g := State.power) (fun w n => (hrefresh _ n).trans (Stored.power (Stored.hbmServe n _ _ w))) _ y
  generalize (List.range u.ctl.part.pchs).foldl (fun acc n => (acc.hbmDrain n).enterSelfRefresh n) y = x at hdrained
  generalize hw : ({ x with
    ctl := { x.ctl with heartbeat := { x.ctl.heartbeat with pausedAt := some u.clk } },
    fabric := { (x.countersHeld).fabric with raised := [] },
    eths := x.eths.map (fun (x : Eth) => { x with up := false }) } : State) = w
  have hlanes := Unmoved.powerLanes w
  have hwpower : w.power = y.power := by rw [← hw]; exact hdrained
  refine ⟨?_, ?_, ?_⟩
  · rw [hlanes.power, hwpower]
    exact hpower
  · rw [hlanes.heartbeat, ← hw]
  · rw [hlanes.eths, ← hw]
    intro e hmem
    obtain ⟨a, _, ha⟩ := List.mem_map.mp hmem
    rw [← ha]

/-- A wake that DEEP_WAKE lets in begins the exit (R484). -/
theorem State.wake_deep {u : State} (hs : u.power.state = .deep) (hexit : u.power.exitAt = none) (hmask : bitOf (u.num Obj.pwDeepWake) 1 = true) :
    u.wake .key = ({ u with power := { u.power with exitAt := some u.clk } } : State).putNum Obj.pwLastWake 5 := by
  unfold State.wake
  dsimp only
  rw [if_pos hs, hmask, hexit]
  rfl

/-- The end of the exit from DEEP (R90, R484, R485). -/
structure DeepLeft (u : State) (n : Nat) (t : State) : Prop where
  power : t.power.state = .active ∧ t.power.exitAt = none ∧ t.power.target = none
  heartbeat : t.ctl.heartbeat.pausedAt = none ∧ t.ctl.heartbeat.restart = u.clk
  time : t.timeOffset = deepTime u.power.deepModuleTime n u.power.deepFreq - u.clk

theorem State.deepExit_leaves {u : State} (n : Nat) (hs : u.power.state = .deep) (hexit : u.power.exitAt.isSome = true) (ht : u.power.target = none) :
    DeepLeft u n (u.deepExit n) := by
  unfold State.deepExit
  rw [if_pos ⟨hs, hexit⟩]
  dsimp only
  have hedges := Unmoved.edgesOfDeep ({ u with timeOffset := deepTime u.power.deepModuleTime n u.power.deepFreq - u.clk } : State) u.power.deepModuleTime
  generalize State.edgesOfDeep _ _ = z at hedges
  generalize hy : z.modPower _ = y
  have hpower : y.power.state = .active ∧ y.power.exitAt = none ∧ y.power.target = none := by
    rw [← hy]
    exact ⟨rfl, rfl, (congrArg PowerSys.target hedges.power).trans ht⟩
  have htime : y.timeOffset = deepTime u.power.deepModuleTime n u.power.deepFreq - u.clk := by
    rw [← hy]
    exact hedges.timeOffset
  have hunits : Unmoved y (((((y.holdover).leaveSelfRefresh).powerLanes).busesWake).resetCics).dmaUnpark :=
    (((((Unmoved.holdover y).trans (.leaveSelfRefresh _)).trans (.powerLanes _)).trans (.busesWake _)).trans (.resetCics _)).trans (.dmaUnpark _)
  generalize (((((y.holdover).leaveSelfRefresh).powerLanes).busesWake).resetCics).dmaUnpark = x at hunits
  generalize hw : ({ x with ctl := _, encoders := _, pgos := _, fabric := _ } : State) = w
  have hlast := (Unmoved.toutReview w).trans (.countersArmed _)
  have hwpower : w.power = y.power := by rw [← hw]; exact hunits.power
  have hwtime : w.timeOffset = y.timeOffset := by rw [← hw]; exact hunits.timeOffset
  refine ⟨?_, ?_, ?_⟩
  · rw [hlast.power, hwpower]
    exact hpower
  · rw [hlast.heartbeat, ← hw]
    exact ⟨rfl, rfl⟩
  · rw [hlast.timeOffset, hwtime]
    exact htime

/-! ## The obligation -/

theorem DeepEntered.settled {u a t : State} (h : DeepEntered u a) (ht : Settled a t) (hstill : Still a t) : DeepEntered u t := by
  obtain ⟨hstate, htarget, hat, hfreq⟩ := h.power
  have hnodoze : a.power.state ≠ .doze := by rw [hstate]; decide
  refine ⟨⟨hstill.state.trans hstate, (hstill.target hnodoze).trans htarget, ?_, ?_⟩, ?_, fun x hx => ?_⟩
  · exact (congrArg (fun s : State => s.power.deepAt) ht.same :).trans hat
  · exact (congrArg (fun s : State => s.power.deepFreq) ht.same :).trans hfreq
  · exact (congrArg (fun s : State => s.ctl.heartbeat.pausedAt) ht.same :).trans h.paused
  · have heths : t.eths.map Eth.unsettled = a.eths.map Eth.unsettled := congrArg State.eths ht.same
    have hmem : x.unsettled ∈ a.eths.map Eth.unsettled := heths ▸ List.mem_map_of_mem hx
    obtain ⟨y, hy, he⟩ := List.mem_map.mp hmem
    exact (congrArg Eth.up he).symm.trans (h.links y hy)

theorem DeepLeft.settled {u a t : State} {n : Nat} (h : DeepLeft u n a) (ht : Settled a t) (hstill : Still a t) : DeepLeft u n t := by
  obtain ⟨hstate, hexit, htarget⟩ := h.power
  have hnodoze : a.power.state ≠ .doze := by rw [hstate]; decide
  refine ⟨⟨hstill.state.trans hstate, ?_, (hstill.target hnodoze).trans htarget⟩, ⟨?_, ?_⟩, ?_⟩
  · exact (congrArg (fun s : State => s.power.exitAt) ht.same :).trans hexit
  · exact (congrArg (fun s : State => s.ctl.heartbeat.pausedAt) ht.same :).trans h.heartbeat.1
  · exact (congrArg (fun s : State => s.ctl.heartbeat.restart) ht.same :).trans h.heartbeat.2
  · exact (congrArg State.timeOffset ht.same :).trans h.time

/-- Settles O31: each change of the power state by what its sequence leaves; nothing that settles moves it on. -/
theorem powerStatesChange : Obligations.PowerStatesChange := by
  refine ⟨?_, ?_⟩
  · intro dt s
    refine fun hruns => ⟨fun hdoze hdeep hs _ he hheld => ?_, fun he ht hq => ?_⟩
    · obtain ⟨hstate, htarget⟩ := State.stepDown_dozes hdoze hdeep hs he hheld
      exact State.run_still (exec_idleTimer s dt) hruns htarget (fun t _ hstill => hstill.state.trans hstate)
    · have hentered := State.deepEntry_enters he ht hq
      refine State.run_still (exec_deepEntry s dt) hruns hentered.power.2.1 (fun t hsettled hstill => ?_)
      obtain ⟨⟨hstate, htarget, hat, hfreq⟩, hpaused, hlinks⟩ := hentered.settled hsettled hstill
      exact ⟨hstate, htarget, hpaused, hlinks, hat, hfreq⟩
  · intro dt n s
    refine fun hop => ⟨fun hs => ?_, fun hs hexit hmask => ?_, fun hs hexit ht => ?_⟩
    · have hwake : (s.advance dt).wake .trigger = (s.advance dt).leaveDoze .trigger := by
        unfold State.wake
        rw [if_neg (by rw [hs]; decide)]
        exact if_neg (fun h => absurd h.1 (by decide))
      obtain ⟨hstate, htarget, hlast⟩ := State.leaveDoze_wakes (u := s.advance dt) .trigger hs
      rw [← hwake] at hstate htarget hlast
      exact State.run_still (exec_wake s dt .trigger) hop htarget
        (fun t hsettled hstill => ⟨hstill.state.trans hstate, (hsettled.num (by decide)).trans hlast⟩)
    · exact State.run_settled (exec_wake s dt .key) hop (State.wake_deep hs hexit hmask)
    · have hleft := State.deepExit_leaves n hs hexit ht
      refine State.run_still (exec_deepExit s dt n) hop hleft.power.2.2 (fun t hsettled hstill => ?_)
      obtain ⟨⟨hstate, hexit, _⟩, ⟨hpaused, hrestart⟩, htime⟩ := hleft.settled hsettled hstill
      exact ⟨hstate, hexit, hpaused, hrestart, htime⟩

end Sys2Proof.Machine
end

section
/-! PROOFS. What the tracker and the brick array keep: a relation between states that their few moves keep is kept by their
operations, so that each such relation is carried through them once (for O30, O42, O44, O45, O47). -/

namespace Sys2Proof.Machine

/-! ## The moves of the tracker -/

/-- A relation that the moves of the tracker keep: those on its own objects and those of HBM, from 0x6000 on, on its entries, on the
counts of valve requests, on the rings and on the system link. -/
structure TrackerRule (R : State → State → Prop) : Prop where
  refl : ∀ s, R s s
  trans : ∀ {a b c}, R a b → R b c → R a c
  high : ∀ s key v, 0x600000 ≤ key → R s (s.putVal key v)
  alert : ∀ s bit, bit < 255 → R s (s.alert bit)
  watch : ∀ (s : State) x y, R s { s with power := { s.power with lapsed := x, allHeldSince := y } }
  entries : ∀ (s : State) l k, R s { s with entries := l, candidates := k }
  drawn : ∀ s : State, R s s.drawn
  requests : ∀ (s : State) n, R s { s with buses := s.buses.map (fun x => { x with requests := x.requests + n }) }
  modHbm : ∀ s f, R s (s.modHbm f)
  modRing : ∀ s r f, R s (s.modRing r f)
  modLane : ∀ s n f, R s (s.modLane n f)

namespace TrackerRule

theorem ite {R : State → State → Prop} {p : Prop} [Decidable p] {s a b : State} (ha : R s a) (hb : R s b) : R s (if p then a else b) := by
  split <;> assumption

variable {R : State → State → Prop} (k : TrackerRule R)
include k

theorem fold {α : Type} {f : State → α → State} (h : ∀ s x, R s (f s x)) (l : List α) (s : State) : R s (l.foldl f s) := by
  induction l generalizing s with
  | nil => exact k.refl s
  | cons x r ih => exact k.trans (h s x) (ih _)

/-! ### Numbers, the guarantee and HBM -/

theorem putNum (s : State) {key : Nat} (n : Nat) (h : 0x600000 ≤ key) : R s (s.putNum key n) := k.high s key _ h
theorem bump (s : State) {key : Nat} (h : 0x600000 ≤ key) : R s (s.bump key) := k.putNum s _ h
theorem bumpIf (s : State) (c : Bool) {key : Nat} (h : 0x600000 ≤ key) : R s (s.bumpIf c key) := ite (k.bump s h) (k.refl s)
theorem peak (s : State) {key : Nat} (v : Nat) (h : 0x600000 ≤ key) : R s (s.peak key v) := ite (k.putNum s v h) (k.refl s)
theorem setEntries (s : State) (l : List Entry) : R s { s with entries := l } := k.entries s l s.candidates
theorem modPch (s : State) (n : Nat) (f : Pch → Pch) : R s (s.modPch n f) := k.modHbm s _

theorem lapse (s : State) (bit : Nat) : R s (s.lapse bit) :=
  k.trans (k.putNum s 1 (by decide)) (k.trans (k.putNum _ _ (by decide)) (k.trans (k.bump _ (by decide)) (k.alert _ _ (by decide))))

theorem lapseEvent (s : State) (bit : Nat) : R s (s.lapseEvent bit) := by
  unfold State.lapseEvent
  exact k.trans (ite (k.refl s) (k.lapse s bit)) (k.watch _ _ _)

theorem hbmServed (s : State) (port n age t : Nat) (waited : Bool) : R s (s.hbmServed port n age t waited) := by
  have hmissed : 0x600000 ≤ Obj.hbmMissed port := by unfold Obj.hbmMissed objKey; omega
  have hmax : 0x600000 ≤ Obj.hbmLatencyMax port := by unfold Obj.hbmLatencyMax objKey; omega
  exact k.trans (k.bumpIf s _ hmissed) (k.trans (k.bumpIf _ _ (by decide)) (k.trans (k.peak _ _ hmax) (k.modPch _ n _)))

theorem hbmTouch (s : State) (port : Nat) (channels : List Nat) : R s (s.hbmTouch port channels) :=
  k.fold (fun z n => ite (k.refl z) (k.trans (k.modPch z n _) (k.hbmServed _ port n _ _ _))) channels s

/-! ### Records and entries that leave -/

theorem ringRecord (s : State) (r : Nat) (b : Bytes) : R s (s.ringRecord r b).1 := by
  have hdropped : 0x600000 ≤ Obj.ringDropped r := by unfold Obj.ringDropped objKey; omega
  unfold State.ringRecord
  dsimp only
  split
  · exact k.refl s
  · split
    · exact k.bump s hdropped
    · exact k.trans (k.hbmTouch s _ _) (k.trans (k.modHbm _ _) (k.modRing _ _ _))

theorem trackerRecord (s : State) (ring : Nat) (b : Bytes) : R s (s.trackerRecord ring b) :=
  ite (k.trans (k.ringRecord s ring b) (k.bumpIf _ _ (by decide))) (k.refl s)

theorem leaveEntry (s : State) (x : Entry) : R s (s.leaveEntry x) := by
  have hrecords : R s (x.tracks.foldl (fun acc t => if t.written then acc else acc.trackerRecord (12 + t.view) t.comet.record) s) :=
    k.fold (fun z t => ite (k.refl z) (k.trackerRecord z _ _)) _ s
  unfold State.leaveEntry
  dsimp only
  split
  · split
    · have hrecord := fun ring b => k.trans hrecords (k.trackerRecord _ ring b)
      exact ite (hrecord _ _) (k.trans (hrecord _ _) (k.trans (k.drawn _) (k.drawn _)))
    · exact hrecords
  · exact hrecords

theorem reviewEntries (s : State) : R s s.reviewEntries := by
  unfold State.reviewEntries
  exact k.trans (k.entries s _ _) (k.fold (fun z x => k.leaveEntry z x) _ _)

theorem sendToOwners (s : State) (v : Nat) (c : Comet) : R s (s.sendToOwners v c) :=
  k.fold (fun z m => ite (k.bump z (by decide)) (ite (k.modLane z _ _) (k.refl z))) _ s

/-! ### Comets revised and disposed of -/

theorem request (s : State) (n : Nat) : R s (s.request n) := by
  have hpeak := fun v => k.trans (k.requests s n) (k.peak _ (key := Obj.gtrRequestsPeak) v (by decide))
  unfold State.request
  dsimp only
  split
  · exact ite (k.trans (hpeak _) (k.lapseEvent _ _)) (hpeak _)
  · exact k.requests s n

theorem reviseEntry (s : State) (old x : Entry) : R s (s.reviseEntry old x).1 := by
  have hlate : ∀ v, 0x600000 ≤ Obj.trkRevisionsLate v := fun v => by unfold Obj.trkRevisionsLate objKey; omega
  exact k.trans (k.bumpIf s _ (hlate _)) (k.request _ _)

theorem reviseComet (s : State) (p : Track → Bool) (f : Track → Track) : R s (s.reviseComet p f) := by
  unfold State.reviseComet
  split
  · exact k.refl s
  · dsimp only
    split
    · exact k.trans (k.reviseEntry s _ _) (k.trans (k.setEntries _ _) (k.reviewEntries _))
    · exact k.trans (k.setEntries s _) (k.reviewEntries _)

theorem disposeComet (s : State) (v id action disposition flags : Nat) : R s (s.disposeComet v id action disposition flags) := by
  unfold State.disposeComet
  split
  · exact k.refl s
  · have hsent : ∀ (p : Prop) [Decidable p] (c : Comet), R s (if p then s.sendToOwners v c else s) :=
      fun p _ c => ite (k.sendToOwners s v c) (k.refl s)
    refine ite ?_ ?_
    · exact k.trans (hsent _ _) (k.trans (k.setEntries _ _) (k.reviewEntries _))
    · exact k.trans (hsent _ _) (k.reviseComet _ _ _)

end TrackerRule

/-! ## The moves of the brick array -/

/-- A relation that the moves of the brick array keep too. -/
structure BrickRule (R : State → State → Prop) : Prop extends TrackerRule R where
  setJob : ∀ (s : State) t b j, R s (s.setJob t b j)
  builds : ∀ (s : State) v (f : Option Build → Option Build), R s (s.modView v (fun w => { w with build := f w.build }))

namespace BrickRule

variable {R : State → State → Prop} (k : BrickRule R)
include k

theorem giveUnit (s : State) (t b : Nat) : R s (s.giveUnit t b) := by
  unfold State.giveUnit
  split
  · split
    · exact k.refl s
    · split
      · exact k.trans (k.builds s _ _) (k.setJob _ _ _ _)
      · exact k.refl s
  · exact k.refl s

theorem giveUnits (s : State) : R s s.giveUnits :=
  TrackerRule.ite (k.refl s) (k.fold (fun z t => k.fold (fun y b => k.giveUnit y t b) _ z) _ s)

theorem giveWeights (h : ∀ (s : State) l, R s { s with tiles := l }) (s : State) : R s s.giveWeights := by
  have hreads : R s s.weightReads :=
    k.fold (fun z n => TrackerRule.ite (k.fold (fun y q => k.hbmTouch y _ _) _ z) (k.refl z)) _ s
  exact k.trans hreads (h _ _)

theorem tilesOn (h : ∀ (s : State) l, R s { s with tiles := l }) (s : State) : R s s.tilesOn :=
  k.trans (h s _) (k.trans (k.giveWeights h _) (k.giveUnits _))

end BrickRule

/-- A relation that the moves of the dispatcher keep too: its queue, and what it counts. -/
structure QueueRule (R : State → State → Prop) : Prop extends BrickRule R where
  queue : ∀ (s : State) q, R s { s with dispatchQueue := q }
  defaulted : ∀ (s : State) v, R s (s.bump (Obj.viewDefaulted v))
  full : ∀ (s : State) v, R s (s.bump (Obj.viewQueueFull v))
  flags : ∀ s : State, R s (s.orFlags Obj.brkFlags 1)

namespace QueueRule

variable {R : State → State → Prop} (k : QueueRule R)
include k

theorem defaultComet (s : State) (v id : Nat) : R s (s.defaultComet v id) := by
  unfold State.defaultComet
  split
  · exact k.refl s
  · exact TrackerRule.ite (k.trans (k.queue s _) (k.trans (k.defaulted _ _) (k.disposeComet _ _ _ _ _ _))) (k.refl s)

theorem arrive (s : State) (m : Matched) : R s (s.arrive m) :=
  TrackerRule.ite (k.defaultComet s _ _)
    (TrackerRule.ite (k.trans (k.full s _) (k.trans (k.flags _) (k.defaultComet _ _ _))) (k.queue s _))

/-- What a work set aside leaves: a unit goes back to its build, a crop is placed again or takes its default. -/
theorem abandon (s : State) (t b : Nat) (again : Bool) (h : ∀ z : State, R z (z.bump (Obj.tileRunsAbandoned t))) :
    R s (s.abandon t b again) := by
  unfold State.abandon
  split
  · exact k.refl s
  · exact k.trans (k.setJob s t b _) (k.builds _ _ _)
  · have hcount := k.trans (k.setJob s t b .idle) (h _)
    exact TrackerRule.ite (k.trans hcount (k.arrive _ _)) (k.trans hcount (k.defaultComet _ _ _))

theorem abandonTile (s : State) (t : Nat) (again : Bool) (h : ∀ z : State, R z (z.bump (Obj.tileRunsAbandoned t))) :
    R s (s.abandonTile t again) :=
  k.fold (fun z b => k.abandon z t b again h) _ s

theorem tilesOff (ht : ∀ (s : State) l, R s { s with tiles := l }) (h : ∀ (z : State) t, R z (z.bump (Obj.tileRunsAbandoned t)))
    (s : State) : R s s.tilesOff :=
  k.trans (k.fold (fun z t => k.abandonTile z t false (fun y => h y t)) _ s) (ht _ _)

end QueueRule

/-! ## The moves of the DMA engine -/

/-- A relation that the moves of the DMA engine keep too. -/
structure DmaRule (R : State → State → Prop) : Prop extends TrackerRule R where
  dma : ∀ (s : State) e, R s { s with dma := e }
  event : ∀ s bit, R s (s.event bit)
  raise : ∀ (s : State) source data, R s (s.raise false source data)
  blobs : ∀ (s : State) key, R s (s.blobReplaced key)

namespace DmaRule

variable {R : State → State → Prop} (k : DmaRule R)
include k

theorem dmaAccess (s : State) (port a n : Nat) : R s (s.dmaAccess port a n) := by
  have hfailed : ∀ (z : State) (l : List Nat), R z (z.hbmFailed port l).1 := fun z l => by
    unfold State.hbmFailed
    dsimp only
    split
    · exact k.modHbm z (fun h => { h with failed := _ })
    · exact k.refl z
  exact TrackerRule.ite (k.refl s) (k.trans (k.hbmTouch s port _) (hfailed _ _))

theorem dmaWrite (s : State) (a : Nat) (l : List (Nat × Byte)) : R s (s.dmaWrite a l) := by
  have hdropped : ∀ r, 0x600000 ≤ Obj.ringDropped r := fun r => by unfold Obj.ringDropped objKey; omega
  have hbytes : ∀ q : RingPlan, R s (l.foldl (fun acc p => acc.ringByte q (addrOffset a + p.1) p.2) s) := fun q =>
    k.fold (fun z p => TrackerRule.ite (k.refl z) (k.modHbm z _)) l s
  exact TrackerRule.ite (k.trans (hbytes _) (k.bumpIf _ _ (hdropped _)))
    (TrackerRule.ite (k.trans (k.dma s _) (k.blobs _ _)) (k.refl s))

theorem dmaStatus (s : State) (c : Nat) (d : Bytes) (n : Nat) : R s (s.dmaStatus c d n) := k.dma s _

theorem dmaCut (s : State) (c : Nat) : R s (s.dmaCut c) := by
  unfold State.dmaCut
  dsimp only
  split
  · exact k.refl s
  · split
    · exact k.refl s
    · exact TrackerRule.ite (k.dmaStatus s _ _ _) (k.trans (k.dmaAccess s _ _ _) (k.trans (k.dmaAccess _ _ _ _)
        (k.trans (k.dmaWrite _ _ _) (k.trans (k.drawn _) (k.dmaStatus _ _ _ _)))))

theorem dmaSignals (s : State) (c : Nat) : R s (s.dmaSignals c) :=
  k.trans (k.putNum s _ (by decide)) (k.trans (k.event _ _) (k.raise _ _ _))

theorem dmaEnd (s : State) (c cause code : Nat) : R s (s.dmaEnd c cause code) := by
  unfold State.dmaEnd
  dsimp only
  generalize hz : (State.modEngine (State.modDch (s.releaseUnit c) c _) _) = z
  have hleft : R s z := by
    rw [← hz]
    exact k.dma s _
  have hcounted : R s (z.bumpIf (cause = 4) Obj.dmaHalts) := k.trans hleft (k.bumpIf z _ (by decide))
  exact TrackerRule.ite (k.trans hcounted (k.dmaSignals _ c)) hcounted

theorem dmaForced (s : State) : R s s.dmaForced :=
  k.fold (fun z c => TrackerRule.ite (k.trans (k.dmaCut z c) (k.dmaEnd _ _ _ _)) (k.refl z)) _ s

theorem dmaRingLost (s : State) (r : Nat) : R s (s.dmaRingLost r) := by
  refine k.fold (fun z c => ?_) _ s
  split
  · exact TrackerRule.ite (k.trans (TrackerRule.ite (k.dmaStatus z _ _ _) (k.dmaCut z c)) (k.dmaEnd _ _ _ _)) (k.refl z)
  · exact k.refl z

/-! ### Rings at a frame start -/

theorem reshapeRing (s : State) (r : Nat) : R s (s.reshapeRing r) := by
  have hresets : 0x600000 ≤ Obj.ringResets r := by unfold Obj.ringResets objKey; omega
  unfold State.reshapeRing
  dsimp only
  refine TrackerRule.ite ?_ (k.refl s)
  exact TrackerRule.ite (k.trans (k.modRing s r _) (k.trans (k.bump _ hresets) (k.alert _ _ (by decide))))
    (k.trans (k.modRing s r _) (k.bump _ hresets))

theorem ringsStart (s : State) (v : Nat) (reached : Nat → Bool) : R s (s.ringsStart v reached) := by
  have hrings : R s (s.ringsAtFrame v reached) := by
    refine k.fold (fun z r => TrackerRule.ite ?_ (k.refl z)) _ s
    split
    · exact TrackerRule.ite (k.modRing z r _) (k.reshapeRing z r)
    · exact k.reshapeRing z r
  exact k.trans hrings (k.fold (fun z r => TrackerRule.ite (k.dmaRingLost z r) (k.refl z)) _ _)

end DmaRule

end Sys2Proof.Machine
end

section
/-! PROOFS. Housekeeping rounds, temperature bands and the guarantee (O30). -/

namespace Sys2Proof.Machine

/-! ## The bands -/

/-- The band that a reading raises a lower one to, and the one that it lets a higher one fall to (R493). -/
def risenBand (t : Int) : Nat := if t < 20 then 0 else if t ≤ 850 then 1 else if t ≤ 1000 then 2 else if t ≤ 1150 then 3 else 4
def fallenBand (t : Int) : Nat := if t < 0 then 0 else if t ≤ 830 then 1 else if t ≤ 980 then 2 else if t ≤ 1130 then 3 else 4

/-- A step up, and a step down, of the bands. -/
def bandRise (t : Int) (b : Nat) : Nat :=
  if b < 4 ∧ (if b = 0 then decide (bandBound 1 ≤ t) else decide (bandBound (b + 1) < t)) then b + 1 else b
def bandFall (t : Int) (b : Nat) : Nat :=
  if 2 ≤ b ∧ t ≤ bandBound b - 20 then b - 1 else if b = 1 ∧ t < 0 then 0 else b

theorem bandNext_steps (b : Nat) (t : Int) : bandNext b t =
    bandFall t (bandFall t (bandFall t (bandFall t (bandRise t (bandRise t (bandRise t (bandRise t b))))))) := rfl

/-- The five bands that a reading can raise to, and those that it can let fall to. -/
theorem risenBand_cases (t : Int) : (t < 20 ∧ risenBand t = 0) ∨ (20 ≤ t ∧ t ≤ 850 ∧ risenBand t = 1) ∨
    (850 < t ∧ t ≤ 1000 ∧ risenBand t = 2) ∨ (1000 < t ∧ t ≤ 1150 ∧ risenBand t = 3) ∨ (1150 < t ∧ risenBand t = 4) := by
  by_cases h0 : t < 20
  · exact .inl ⟨h0, if_pos h0⟩
  by_cases h1 : t ≤ 850
  · exact .inr (.inl ⟨Int.not_lt.mp h0, h1, by rw [risenBand, if_neg h0, if_pos h1]⟩)
  by_cases h2 : t ≤ 1000
  · exact .inr (.inr (.inl ⟨Int.not_le.mp h1, h2, by rw [risenBand, if_neg h0, if_neg h1, if_pos h2]⟩))
  by_cases h3 : t ≤ 1150
  · exact .inr (.inr (.inr (.inl ⟨Int.not_le.mp h2, h3, by rw [risenBand, if_neg h0, if_neg h1, if_neg h2, if_pos h3]⟩)))
  · exact .inr (.inr (.inr (.inr ⟨Int.not_le.mp h3, by rw [risenBand, if_neg h0, if_neg h1, if_neg h2, if_neg h3]⟩)))
theorem fallenBand_cases (t : Int) : (t < 0 ∧ fallenBand t = 0) ∨ (0 ≤ t ∧ t ≤ 830 ∧ fallenBand t = 1) ∨
    (830 < t ∧ t ≤ 980 ∧ fallenBand t = 2) ∨ (980 < t ∧ t ≤ 1130 ∧ fallenBand t = 3) ∨ (1130 < t ∧ fallenBand t = 4) := by
  by_cases h0 : t < 0
  · exact .inl ⟨h0, if_pos h0⟩
  by_cases h1 : t ≤ 830
  · exact .inr (.inl ⟨Int.not_lt.mp h0, h1, by rw [fallenBand, if_neg h0, if_pos h1]⟩)
  by_cases h2 : t ≤ 980
  · exact .inr (.inr (.inl ⟨Int.not_le.mp h1, h2, by rw [fallenBand, if_neg h0, if_neg h1, if_pos h2]⟩))
  by_cases h3 : t ≤ 1130
  · exact .inr (.inr (.inr (.inl ⟨Int.not_le.mp h2, h3, by rw [fallenBand, if_neg h0, if_neg h1, if_neg h2, if_pos h3]⟩)))
  · exact .inr (.inr (.inr (.inr ⟨Int.not_le.mp h3, by rw [fallenBand, if_neg h0, if_neg h1, if_neg h2, if_neg h3]⟩)))

theorem le_four {b : Nat} (h : b ≤ 4) : b = 0 ∨ b = 1 ∨ b = 2 ∨ b = 3 ∨ b = 4 := by
  omega

theorem lt_risenBand {b : Nat} (t : Int) (h : b ≤ 4) :
    b < risenBand t ↔ b < 4 ∧ (if b = 0 then bandBound 1 ≤ t else bandBound (b + 1) < t) := by
  have hcases := risenBand_cases t
  obtain rfl | rfl | rfl | rfl | rfl := le_four h <;> simp [bandBound] <;> omega

theorem fallenBand_lt {b : Nat} (t : Int) (h : b ≤ 4) :
    fallenBand t < b ↔ (2 ≤ b ∧ t ≤ bandBound b - 20) ∨ (b = 1 ∧ t < 0) := by
  have hcases := fallenBand_cases t
  obtain rfl | rfl | rfl | rfl | rfl := le_four h <;> simp [bandBound] <;> omega

theorem bandRise_eq {b : Nat} (t : Int) (h : b ≤ 4) : bandRise t b = if b < risenBand t then b + 1 else b := by
  have hlt := lt_risenBand t h
  by_cases hb : b = 0
  · rw [if_pos hb] at hlt
    simp only [bandRise, if_pos hb, hlt, decide_eq_true_eq]
  · rw [if_neg hb] at hlt
    simp only [bandRise, if_neg hb, hlt, decide_eq_true_eq]

theorem bandFall_eq {b : Nat} (t : Int) (h : b ≤ 4) : bandFall t b = if fallenBand t < b then b - 1 else b := by
  simp only [bandFall, fallenBand_lt t h]
  by_cases hfar : 2 ≤ b ∧ t ≤ bandBound b - 20
  · rw [if_pos hfar, if_pos (.inl hfar)]
  by_cases hone : b = 1 ∧ t < 0
  · rw [if_neg hfar, if_pos hone, if_pos (.inr hone), hone.1]
  · rw [if_neg hfar, if_neg hone, if_neg (not_or.mpr ⟨hfar, hone⟩)]

theorem risenBand_le (t : Int) : risenBand t ≤ 4 := by
  have hcases := risenBand_cases t
  omega

/-- The next band: raised to what the reading asks for, then down to what it allows. -/
theorem bandNext_eq {b : Nat} (t : Int) (h : b ≤ 4) : bandNext b t = min (max b (risenBand t)) (fallenBand t) := by
  have hrisen := risenBand_le t
  have hrises : ∀ {c n : Nat}, c ≤ 4 → c = min (b + n) (max b (risenBand t)) →
      bandRise t c ≤ 4 ∧ bandRise t c = min (b + (n + 1)) (max b (risenBand t)) := fun hc he => by
    rw [bandRise_eq t hc]
    split <;> omega
  obtain ⟨h1, e1⟩ := hrises h (n := 0) (by omega)
  obtain ⟨h2, e2⟩ := hrises h1 e1
  obtain ⟨h3, e3⟩ := hrises h2 e2
  obtain ⟨h4, e4⟩ := hrises h3 e3
  rw [bandNext_steps]
  generalize bandRise t (bandRise t (bandRise t (bandRise t b))) = up at h4 e4 ⊢
  have hfalls : ∀ {c n : Nat}, c ≤ 4 → c = max (up - n) (min up (fallenBand t)) →
      bandFall t c ≤ 4 ∧ bandFall t c = max (up - (n + 1)) (min up (fallenBand t)) := fun hc he => by
    rw [bandFall_eq t hc]
    split <;> omega
  obtain ⟨h5, e5⟩ := hfalls h4 (n := 0) (by omega)
  obtain ⟨h6, e6⟩ := hfalls h5 e5
  obtain ⟨h7, e7⟩ := hfalls h6 e6
  obtain ⟨-, e8⟩ := hfalls h7 e7
  rw [e8]
  omega

theorem bandNext_stays (t : Int) : (bandNext 2 t = 2 ↔ 830 < t ∧ t ≤ 1000) ∧ (bandNext 3 t = 3 ↔ 980 < t ∧ t ≤ 1150) ∧
    (bandNext 4 t = 4 ↔ 1130 < t) ∧ (bandNext 1 t = 1 ↔ 0 ≤ t ∧ t ≤ 850) ∧ (bandNext 0 t = 0 ↔ t < 20) := by
  simp only [bandNext_eq t, show (0 : Nat) ≤ 4 from by decide, show (1 : Nat) ≤ 4 from by decide, show (2 : Nat) ≤ 4 from by decide,
    show (3 : Nat) ≤ 4 from by decide, show (4 : Nat) ≤ 4 from by decide]
  have hrisen := risenBand_cases t
  have hfallen := fallenBand_cases t
  omega

theorem risenBand_le_fallenBand (t : Int) : risenBand t ≤ fallenBand t := by
  have hrisen := risenBand_cases t
  have hfallen := fallenBand_cases t
  omega

theorem bandNext_bounded {b : Nat} (t : Int) (h : b ≤ 4) : bandNext b t ≤ 4 ∧ bandNext (bandNext b t) t = bandNext b t := by
  have hrisen := risenBand_le t
  have horder := risenBand_le_fallenBand t
  have hle : bandNext b t ≤ 4 := by rw [bandNext_eq t h]; omega
  refine ⟨hle, ?_⟩
  rw [bandNext_eq t hle, bandNext_eq t h]
  omega

/-! ## A round's number and readings -/

/-- `b` has the number of `a`'s housekeeping round and its readings. -/
structure SameRound (a b : State) : Prop where
  round : b.power.round = a.power.round
  readings : Kv.get? b.dict.inForce Obj.thReadings = Kv.get? a.dict.inForce Obj.thReadings

namespace SameRound

theorem refl (a : State) : SameRound a a := ⟨rfl, rfl⟩
theorem trans {a b c : State} (h : SameRound a b) (k : SameRound b c) : SameRound a c :=
  ⟨k.round.trans h.round, k.readings.trans h.readings⟩
theorem ite {p : Prop} [Decidable p] {s a b : State} (ha : SameRound s a) (hb : SameRound s b) : SameRound s (if p then a else b) := by
  split <;> assumption

theorem of_settled {a b : State} (h : Settled a b) : SameRound a b :=
  ⟨(congrArg (fun s : State => s.power.round) h.same :), h.get _ (by decide)⟩

theorem putVal (s : State) {key : Nat} (v : Val) (h : Obj.thReadings ≠ key) : SameRound s (s.putVal key v) :=
  ⟨rfl, Kv.get?_put_other _ _ h⟩
theorem putNum (s : State) {key : Nat} (n : Nat) (h : Obj.thReadings ≠ key) : SameRound s (s.putNum key n) := putVal s _ h
theorem bump (s : State) {key : Nat} (h : Obj.thReadings ≠ key) : SameRound s (s.bump key) := putVal s _ h
theorem bumpIf (s : State) (c : Bool) {key : Nat} (h : Obj.thReadings ≠ key) : SameRound s (s.bumpIf c key) := ite (bump s h) (refl s)
theorem orFlags (s : State) {key : Nat} (n : Nat) (h : Obj.thReadings ≠ key) : SameRound s (s.orFlags key n) := putVal s _ h
theorem keepOwn (s : State) {key : Nat} (v : Val) (h : Obj.thReadings ≠ key) : SameRound s (s.keepOwn key v) :=
  ⟨rfl, Kv.get?_put_other _ _ h⟩
theorem alert (s : State) {bit : Nat} (h : bit < 255) : SameRound s (s.alert bit) := of_settled (Settled.alert s bit h)
theorem modEngine (s : State) (f : DmaEngine → DmaEngine) : SameRound s (s.modEngine f) := ⟨rfl, rfl⟩

theorem queueRule : QueueRule SameRound where
  refl := refl
  trans := trans
  high s key v h := putVal s v (Nat.ne_of_lt (Nat.lt_of_lt_of_le (by decide) h))
  alert _ _ h := alert _ h
  watch _ _ _ := ⟨rfl, rfl⟩
  entries _ _ _ := ⟨rfl, rfl⟩
  drawn _ := ⟨rfl, rfl⟩
  requests _ _ := ⟨rfl, rfl⟩
  modHbm _ _ := ⟨rfl, rfl⟩
  modRing _ _ _ := ⟨rfl, rfl⟩
  modLane _ _ _ := ⟨rfl, rfl⟩
  setJob _ _ _ _ := ⟨rfl, rfl⟩
  builds _ _ _ := ⟨rfl, rfl⟩
  queue _ _ := ⟨rfl, rfl⟩
  defaulted s v := bump s (by unfold Obj.thReadings Obj.viewDefaulted objKey; omega)
  full s v := bump s (by unfold Obj.thReadings Obj.viewQueueFull objKey; omega)
  flags s := orFlags s 1 (by decide)

theorem dmaRule : DmaRule SameRound where
  toTrackerRule := queueRule.toTrackerRule
  dma _ _ := ⟨rfl, rfl⟩
  event s bit := of_settled (Settled.event s bit)
  raise s _ _ := of_settled (Settled.raise s _ _ _)
  blobs _ _ := ⟨rfl, rfl⟩

theorem fold {α : Type} {f : State → α → State} (h : ∀ s x, SameRound s (f s x)) (l : List α) (s : State) : SameRound s (l.foldl f s) :=
  queueRule.fold h l s

/-! ### What a change of the module band does -/

theorem codecDropStreams (s : State) : SameRound s s.codecDropStreams := by
  have hkey : ∀ k, Obj.thReadings ≠ Obj.strLinesDropped k := fun k => by unfold Obj.thReadings Obj.strLinesDropped objKey; omega
  unfold State.codecDropStreams
  dsimp only
  refine trans (fold (fun z r => ?_) _ s) (modEngine _ _)
  split
  · exact (bumpIf z _ (hkey _)).trans (bumpIf _ _ (hkey _))
  · exact refl z

theorem bandEffect (s : State) (old : Nat) : SameRound s (s.bandEffect old) := by
  have hcount : ∀ (z : State) t, SameRound z (z.bump (Obj.tileRunsAbandoned t)) := fun z t =>
    bump z (by unfold Obj.thReadings Obj.tileRunsAbandoned objKey; omega)
  refine ite ?_ (ite (queueRule.tilesOn (fun _ _ => ⟨rfl, rfl⟩) s) (refl s))
  exact ((queueRule.tilesOff (fun _ _ => ⟨rfl, rfl⟩) hcount s).trans (dmaRule.dmaForced _)).trans
    (codecDropStreams _)

theorem bandSettings (s : State) (oldW oldE : Nat) : SameRound s (s.bandSettings oldW oldE) := by
  have hlane : ∀ n sub, Obj.thReadings ≠ laneKey n sub := fun n sub => by unfold Obj.thReadings laneKey objKey; omega
  unfold State.bandSettings
  dsimp only
  refine trans (b := s.modPower _) ⟨rfl, rfl⟩ (fold (f := State.rebound) (fun z n => ?_) _ _)
  unfold State.rebound
  split
  · exact ite (putNum z _ (hlane _ _)) ((putNum z _ (hlane _ _)).trans (putNum _ _ (hlane _ _)))
  · exact refl z

end SameRound

/-! ### The round -/

/-- `t` presents readings under the number of a round. -/
structure Rounded (n : Nat) (readings : Val) (t : State) : Prop where
  round : t.power.round = n
  presented : Kv.get? t.dict.inForce Obj.thReadings = some readings

theorem Rounded.of_same {a b : State} {n : Nat} {v : Val} (h : SameRound a b) (k : Rounded n v a) : Rounded n v b :=
  ⟨h.round.trans k.round, h.readings.trans k.presented⟩

/-- The readings of a round as the module presents them (R490). -/
def State.roundReadings (u : State) (vals : List Nat) : Val :=
  .bytes (((List.range 24).map (fun c => if u.hkRead c then natAt vals c % 65536 else 0x8000)).flatMap (leBytes 2) ++
    leBytes 4 ((u.power.round + 1) % wrap32))

/-- A round counts itself and presents its readings, and nothing that follows in it moves either (R490 to R495). -/
theorem State.housekeeping_rounded {u : State} (vals : List Nat) (hp : u.power.powered = true) :
    Rounded ((u.power.round + 1) % wrap32) (u.roundReadings vals) (u.housekeeping vals) := by
  unfold State.housekeeping
  rw [if_neg (by simp only [hp, Bool.not_true, Bool.false_eq_true, not_false_eq_true])]
  dsimp only
  have hguarantee : ∀ z : State, SameRound z z.reviewGuarantee := fun z => .of_settled (Settled.reviewGuarantee z)
  refine Rounded.of_same (.ite (.trans (.bandEffect _ _) (hguarantee _)) (.refl _)) ?_
  refine Rounded.of_same (.ite (.refl _) (.bandSettings _ _ _)) ?_
  refine Rounded.of_same (.fold (fun z _ => .trans (.bump z (by decide)) (.alert _ (by decide))) _ _) ?_
  refine Rounded.of_same (.ite (.orFlags _ _ (by decide)) (.refl _)) ?_
  refine Rounded.of_same (.ite (.trans (.orFlags _ _ (by decide)) (.alert _ (by decide))) (.refl _)) ?_
  have hpeak : ∀ (z : State) (c : Prop) [Decidable c] (n : Nat),
      SameRound z (if c then (z.putNum Obj.thMaxTemp n).keepOwn Obj.thPeakTemp (.num n) else z.putNum Obj.thMaxTemp n) :=
    fun z c _ n => .ite (.trans (.putNum z n (by decide)) (.keepOwn _ _ (by decide))) (.putNum z n (by decide))
  have hnumbers : ∀ (z : State) (b w e out pin : Nat), SameRound z (((((z.putNum Obj.thBand b).putNum Obj.thBandW w).putNum
      Obj.thBandE e).putNum Obj.thSensorsInvalid out).putNum Obj.supPin pin) := fun z b w e out pin =>
    ((((SameRound.putNum z _ (by decide)).trans (.putNum _ _ (by decide))).trans (.putNum _ _ (by decide))).trans
      (.putNum _ _ (by decide))).trans (.putNum _ _ (by decide))
  have hsensors : ∀ (l : List Nat) (z : State), SameRound z (l.foldl (fun acc _ => acc.alert Alert.sensor) z) := fun l z =>
    .fold (fun y _ => .alert y (by decide)) l z
  split
  · exact .of_same (hpeak _ _ _) (.of_same (hsensors _ _) (.of_same (hnumbers _ _ _ _ _ _) ⟨rfl, Kv.get?_put_same _ _ _⟩))
  · exact .of_same (hsensors _ _) (.of_same (hnumbers _ _ _ _ _ _) ⟨rfl, Kv.get?_put_same _ _ _⟩)

theorem State.guaranteeHeld_ends {u : State} {since : Nat} (hnone : u.lapsedNow = 0) (hsince : u.power.allHeldSince = some since)
    (hlong : since + 10000000 ≤ u.clk) (hlost : u.num Obj.gtrGuarantee = 1) :
    u.guaranteeHeld = { (u.putNum Obj.gtrGuarantee 0) with power := { u.power with lapsed := 0 } } := by
  unfold State.guaranteeHeld
  rw [hsince]
  exact if_pos ⟨hnone, hlong, hlost⟩

/-- Settles O30: the bands in closed form, and the round's number and readings kept by everything that the round does after it. -/
theorem roundsBandsAndTheGuarantee : Obligations.RoundsBandsAndTheGuarantee := by
  refine ⟨⟨bandNext_stays, fun b t h => bandNext_bounded t h⟩, ?_⟩
  intro dt vals s
  refine ⟨fun hp => ?_, fun since hruns hnone hsince hlong hlost => ?_⟩
  · refine State.run_completes (exec_housekeepingRound s dt vals) rfl (fun t h _ _ => ?_)
    have hround := Rounded.of_same (.of_settled h) (State.housekeeping_rounded vals hp)
    exact ⟨hround.round, hround.presented⟩
  · exact State.run_settled (exec_guaranteeHeld s dt) hruns (State.guaranteeHeld_ends hnone hsince hlong hlost)

end Sys2Proof.Machine
end

section
/-! PROOFS. Ticks, frames and status frames of the valve buses (O47). -/

namespace Sys2Proof.Machine

/-! ## What belts and frames leave of the buses -/

namespace TrackerRule

variable {R : State → State → Prop} (k : TrackerRule R)
include k

theorem beltEntry (s : State) (x : Entry) : R s (s.beltEntry x).1 := by
  have hlate : ∀ v, 0x600000 ≤ Obj.trkRevisionsLate v := fun v => by unfold Obj.trkRevisionsLate objKey; omega
  unfold State.beltEntry
  dsimp only
  split
  · exact k.trans (k.bumpIf s _ (hlate _)) (k.request _ _)
  · exact k.refl s

theorem beltReview (s : State) : R s s.beltReview := by
  have hfold : ∀ (l : List Entry) (p : State × List Entry), R s p.1 →
      R s (l.foldl (fun (acc : State × List Entry) x => ((acc.1.beltEntry x).1, (acc.1.beltEntry x).2 :: acc.2)) p).1 := by
    intro l
    induction l with
    | nil => exact fun _ h => h
    | cons x r ih => exact fun p h => ih _ (k.trans h (k.beltEntry p.1 x))
  exact k.trans (hfold s.entries (s, []) (k.refl s)) (k.setEntries _ _)

end TrackerRule

/-- What the ticks of a bus rest on. -/
def Bus.ticks (x : Bus) : Nat × Option Nat × Nat × Nat × Nat × Nat :=
  (x.state, x.startAt, x.tick, x.tickClk, x.period, x.nextPeriod)

/-- `b` has the ticks of `a`'s buses and its SAFE_N, and what `a` had sent. -/
structure SameTicks (a b : State) : Prop where
  ticks : ∀ n, (b.bus n).ticks = (a.bus n).ticks
  safeN : b.pins.safeN = a.pins.safeN
  out : ∃ l, b.out = a.out ++ l

namespace SameTicks

theorem refl (a : State) : SameTicks a a := ⟨fun _ => rfl, rfl, [], (List.append_nil _).symm⟩

theorem trans {a b c : State} (h : SameTicks a b) (k : SameTicks b c) : SameTicks a c := by
  obtain ⟨l, hl⟩ := h.out
  obtain ⟨m, hm⟩ := k.out
  exact ⟨fun n => (k.ticks n).trans (h.ticks n), k.safeN.trans h.safeN, l ++ m, by rw [hm, hl, List.append_assoc]⟩

theorem mem {a b : State} (h : SameTicks a b) {e : Emission} (he : e ∈ a.out) : e ∈ b.out := by
  obtain ⟨l, hl⟩ := h.out
  rw [hl]
  exact List.mem_append_left l he

theorem ite {p : Prop} [Decidable p] {s a b : State} (ha : SameTicks s a) (hb : SameTicks s b) : SameTicks s (if p then a else b) := by
  split <;> assumption

theorem of_settled {a b : State} (h : Settled a b) : SameTicks a b := ⟨fun n => congrArg Bus.ticks (h.bus n), h.safeN, h.out⟩

/-- An operation that sends nothing and leaves the buses and the pins. -/
theorem of_eq {a b : State} (hbuses : b.buses = a.buses) (hpins : b.pins = a.pins) (hout : b.out = a.out) : SameTicks a b :=
  ⟨fun n => by unfold State.bus; rw [hbuses], by rw [hpins], [], by rw [hout, List.append_nil]⟩

theorem modBus (s : State) (n : Nat) {f : Bus → Bus} (h : ∀ x, (f x).ticks = x.ticks) : SameTicks s (s.modBus n f) :=
  ⟨fun b => State.bus_modBus h s n b, rfl, [], (List.append_nil _).symm⟩

theorem emit (s : State) (e : Emission) : SameTicks s (s.emit e) := ⟨fun _ => rfl, rfl, [e], rfl⟩

theorem requests (s : State) (n : Nat) :
    SameTicks s { s with buses := s.buses.map (fun (x : Bus) => { x with requests := x.requests + n }) } := by
  refine ⟨fun b => ?_, rfl, [], (List.append_nil _).symm⟩
  unfold State.bus
  simp only [List.getD_eq_getElem?_getD, List.getElem?_map]
  cases s.buses[b]? <;> rfl

theorem trackerRule : TrackerRule SameTicks where
  refl := refl
  trans := trans
  high _ _ _ _ := of_eq rfl rfl rfl
  alert s bit h := of_settled (Settled.alert s bit h)
  watch _ _ _ := of_eq rfl rfl rfl
  entries _ _ _ := of_eq rfl rfl rfl
  drawn _ := of_eq rfl rfl rfl
  requests := requests
  modHbm _ _ := of_eq rfl rfl rfl
  modRing _ _ _ := of_eq rfl rfl rfl
  modLane _ _ _ := of_eq rfl rfl rfl

theorem putVal (s : State) (key : Nat) (v : Val) : SameTicks s (s.putVal key v) := of_eq rfl rfl rfl
theorem bump (s : State) (key : Nat) : SameTicks s (s.bump key) := putVal s key _
theorem planTick (s : State) (b : Nat) (st en : Int) : SameTicks s (s.planTick b st en) := of_eq rfl rfl rfl

theorem fixFrame (s : State) (b st en : Nat) : SameTicks s (s.fixFrame b st en) := by
  unfold State.fixFrame
  dsimp only
  split
  · generalize testValves _ _ _ _ _ = v
    have htest := modBus s b (f := fun y => { y with mask := v.1, closed := [], testSince := v.2 }) (fun _ => by rfl)
    exact ite htest (htest.trans (putVal _ _ _))
  · generalize fixState _ _ _ _ _ _ = v
    generalize popCount _ _ = n
    refine trans (ite ?_ ?_) (planTick _ _ _ _)
    · exact modBus s b (fun _ => by rfl)
    · exact trans (putVal s _ _) (modBus _ b (fun _ => by rfl))

theorem sendFrame (s : State) (b : Nat) : SameTicks s (s.sendFrame b) := by
  unfold State.sendFrame
  dsimp only
  refine ite (refl s) (ite (trans (bump s _) (modBus _ b (fun _ => by rfl))) (trans (modBus s b (fun _ => by rfl)) (emit _ _)))

theorem raise (s : State) (source data : Nat) : SameTicks s (s.raise false source data) := of_settled (Settled.raise s _ _ _)

end SameTicks

/-! ## A tick starts -/

/-- The frame that a bus sends for the tick after the present one (R359, R360). -/
theorem State.sendFrame_sends {s : State} {b : Nat} (hs : (s.bus b).sends = true) (hsafe : s.safe = false) :
    ∃ flags period valves, Emission.valveFrame b (valveFrame flags (((s.bus b).tick + 1) % wrap32) period valves) ∈ (s.sendFrame b).out := by
  unfold State.sendFrame
  dsimp only
  rw [if_neg (by simp [hs]), if_neg (by simp [hsafe])]
  exact ⟨_, _, _, State.mem_emit _ _⟩

theorem valveFrame_length (flags tick period valves : Nat) : (valveFrame flags tick period valves).length = 74 := by
  simp [valveFrame]

/-- A tick of a bus that runs: where its predecessor ended, with the next frame number and the length planned for it; outside SAFE the
APPLY of the tick and the frame of the next one go out (R358 to R360). -/
theorem State.tickStart_settled {u t : State} {b : Nat} (h : Settled (u.tickStart b) t) (hruns : u.unitsRun = true)
    (hup : (u.bus b).state = 3) (hticking : (u.bus b).ticking = true) (hperiod : (u.bus b).period ≠ 0)
    (hdue : (u.bus b).tickClk + (u.bus b).period ≤ u.clk) :
    (t.bus b).tick = ((u.bus b).tick + 1) % wrap32 ∧ (t.bus b).tickClk = (u.bus b).tickClk + (u.bus b).period ∧
      (t.bus b).period = (u.bus b).nextPeriod ∧
      (u.safe = false → Emission.apply b (((u.bus b).tick + 1) % wrap32) ∈ t.out ∧
        ∃ flags period valves, Emission.valveFrame b (valveFrame flags (((u.bus b).tick + 2) % wrap32) period valves) ∈ t.out) := by
  obtain ⟨hop, hdeep⟩ := operating_of_unitsRun hruns
  have hsends : (u.bus b).sends = true := by simp [Bus.sends, hup]
  unfold State.tickStart at h
  dsimp only at h
  rw [if_pos hticking, if_neg (by simp [hup, hop, hdeep, hdue]), if_neg hperiod, if_pos hticking] at h
  generalize hz : (u.modBus b (fun y => { y with requests := 0 })).beltReview = z at h
  have hbelts : SameTicks u z := by
    rw [← hz]
    exact (SameTicks.modBus u b (fun _ => by rfl)).trans (SameTicks.trackerRule.beltReview _)
  have hstate : (z.bus b).state = 3 := (congrArg Prod.fst (hbelts.ticks b)).trans hup
  generalize hy : z.modBus b _ = y at h
  have hbus : ∃ p, (y.bus b).ticks = (3, (z.bus b).startAt, ((u.bus b).tick + 1) % wrap32, (u.bus b).tickClk + (u.bus b).period,
      (u.bus b).nextPeriod, p) := by
    rw [← hy, State.bus_modBus_same (State.bus_lt (by omega)), ← hstate]
    exact ⟨_, rfl⟩
  have hpins : y.pins.safeN = u.pins.safeN := by rw [← hy, ← hbelts.safeN]; rfl
  obtain ⟨p, hp⟩ := hbus
  generalize hw : (if (u.bus b).sends = true ∧ (!u.safe) = true then y.emit _ else y) = w at h
  have happly : SameTicks y w ∧ (u.safe = false → Emission.apply b (((u.bus b).tick + 1) % wrap32) ∈ w.out) := by
    rw [← hw]
    exact ⟨.ite (.emit y _) (.refl y), fun hsafe => by rw [if_pos ⟨hsends, by simp [hsafe]⟩]; exact State.mem_emit y _⟩
  generalize hv : State.fixFrame w b _ _ = v at h
  have hfixed : SameTicks y v := by rw [← hv]; exact happly.1.trans (.fixFrame w b _ _)
  have hrest : SameTicks (v.sendFrame b) t :=
    ((SameTicks.raise _ _ _).trans (SameTicks.trackerRule.reviewEntries _)).trans (.of_settled h)
  have hticks := (((hfixed.trans (.sendFrame v b)).trans hrest).ticks b).trans hp
  simp only [Bus.ticks, Prod.mk.injEq] at hticks
  obtain ⟨-, -, htick, hclk, hlen, -⟩ := hticks
  refine ⟨htick, hclk, hlen, fun hsafe => ?_⟩
  have hframe : v.pins.safeN = y.pins.safeN := hfixed.safeN
  have hnow := (hfixed.ticks b).trans hp
  simp only [Bus.ticks, Prod.mk.injEq] at hnow
  obtain ⟨hvstate, -, hvtick, -⟩ := hnow
  obtain ⟨flags, period, valves, hmem⟩ := State.sendFrame_sends (s := v) (b := b) (by simp [Bus.sends, hvstate])
    (by unfold State.safe; rw [hframe, hpins]; exact hsafe)
  rw [hvtick, show (((u.bus b).tick + 1) % wrap32 + 1) % wrap32 = ((u.bus b).tick + 2) % wrap32 by rw [Nat.mod_add_mod]] at hmem
  refine ⟨hrest.mem ((SameTicks.sendFrame v b).mem ?_), flags, period, valves, hrest.mem hmem⟩
  rw [← hv]
  exact (SameTicks.fixFrame w b _ _).mem (happly.2 hsafe)

/-! ## The status frame -/

theorem State.statusFrame_takes {u : State} {b : Nat} (frame : Bytes) (hop : u.ctl.mode.operating = true) (hs : (u.bus b).sends = true) :
    u.statusFrame b frame = u.modBus b (fun y => { y with status := some frame }) := if_pos ⟨hs, hop⟩

theorem Bus.lt_of_sends {u : State} {b : Nat} (h : (u.bus b).sends = true) : b < u.buses.length := by
  refine State.bus_lt (fun h0 => ?_)
  simp [Bus.sends, h0] at h

/-- Bus `b` waits for no status frame. -/
def State.judged (b : Nat) (s : State) : Prop := (s.bus b).judge = false

theorem State.judged_modBus {s : State} {b : Nat} (h : s.judged b) {f : Bus → Bus} (hf : ∀ x, x.judge = false → (f x).judge = false) :
    (s.modBus b f).judged b := by
  unfold State.judged State.modBus State.bus at *
  simp only [List.getD_eq_getElem?_getD, List.getElem?_modify] at *
  cases hb : s.buses[b]? with
  | none => rfl
  | some x => 
    rw [hb] at h
    simpa using hf x (by simpa using h)

theorem State.judged_of_buses {a b : State} {n : Nat} (h : a.judged n) (hb : b.buses = a.buses) : b.judged n := by
  unfold State.judged State.bus at *
  rw [hb]
  exact h

/-- None of the numbers of a status frame is another's, nor one that an upset writes. -/
theorem statusObjects : ∀ b < 4,
    (SameNum.NoFault (Obj.vbStatusMissing b) ∧ Obj.vbStatusMissing b ≠ Obj.vbFlags b) ∧
    (∀ key ∈ [Obj.vbBoardStatus b, Obj.vbFaultCount b], SameNum.NoFault key ∧ key ≠ Obj.vbFlags b ∧ key ≠ Obj.vbStateMismatch b) ∧
    Obj.vbBoardStatus b ≠ Obj.vbFaultCount b := by decide +kernel

theorem SameNum.busUpset {key : Nat} (h : SameNum.NoFault key) (s : State) (b : Nat) : SameNum key s (s.busUpset b) :=
  ite rfl (SameNum.upset h (s.modBus b _) _ _ _ _)

theorem State.judged_busUpset {s : State} {b : Nat} (h : s.judged b) : (s.busUpset b).judged b := by
  have hmod : (s.modBus b (fun y => { y with resync := true })).judged b := judged_modBus h (fun _ hx => hx)
  unfold State.busUpset
  dsimp only
  split
  · exact hmod
  · exact judged_of_buses hmod (congrArg State.buses (Noted.upset _ _ _ _ _).rest :)

/-- A tick without its status frame is counted and waits for none any more. -/
theorem State.statusBad_counts {s : State} {b : Nat} (hb : b < 4) (h : s.judged b) :
    (s.statusBad b (Obj.vbStatusMissing b)).num (Obj.vbStatusMissing b) = satAdd 32 (s.num (Obj.vbStatusMissing b)) 1 ∧
    (s.statusBad b (Obj.vbStatusMissing b)).judged b := by
  obtain ⟨⟨hfault, hflags⟩, -⟩ := statusObjects b hb
  have hcount := State.num_bump_same s (Obj.vbStatusMissing b)
  have hmissed : SameNum (Obj.vbStatusMissing b) (s.bump (Obj.vbStatusMissing b))
      (((s.bump (Obj.vbStatusMissing b)).orFlags (Obj.vbFlags b) 1).busUpset b) :=
    (SameNum.orFlags _ 1 hflags).trans (SameNum.busUpset hfault _ b)
  have hjudged : (((s.bump (Obj.vbStatusMissing b)).orFlags (Obj.vbFlags b) 1).busUpset b).judged b :=
    State.judged_busUpset (State.judged_of_buses h rfl)
  unfold State.statusBad
  dsimp only
  generalize State.busUpset _ b = y at hmissed hjudged ⊢
  generalize hz : State.modBus y b _ = z
  have hzj : z.judged b := by rw [← hz]; exact State.judged_modBus hjudged (fun _ hx => hx)
  have hzn : z.num (Obj.vbStatusMissing b) = satAdd 32 (s.num (Obj.vbStatusMissing b)) 1 := by
    rw [← hcount, ← hmissed, ← hz]
    rfl
  split
  · refine ⟨Eq.trans (SameNum.retire hfault z Unit.bus b 0 []) hzn, ?_⟩
    have hretired : (z.retire Unit.bus b 0 []).judged b :=
      State.judged_of_buses hzj (congrArg State.buses (Noted.retire z Unit.bus b 0 []).rest :)
    exact State.judged_modBus hretired (fun _ _ => by rfl)
  · exact ⟨hzn, hzj⟩

/-- A valid status frame presents its bits and its count of faults. -/
theorem State.statusGood_presents {s : State} {b : Nat} (f : Bytes) (hb : b < 4) (h : s.judged b) :
    (s.statusGood b f).num (Obj.vbBoardStatus b) = u16At f 8 ∧ (s.statusGood b f).num (Obj.vbFaultCount b) = u16At f 10 ∧
    (s.statusGood b f).judged b := by
  obtain ⟨-, hkeys, hother⟩ := statusObjects b hb
  unfold State.statusGood
  dsimp only
  generalize hp : ((s.putNum (Obj.vbBoardStatus b) (u16At f 8)).putNum (Obj.vbFaultCount b) (u16At f 10)) = p
  have hbits : p.num (Obj.vbBoardStatus b) = u16At f 8 ∧ p.num (Obj.vbFaultCount b) = u16At f 10 := by
    rw [← hp]
    exact ⟨(State.num_putNum_other _ _ hother).trans (State.num_putNum_same _ _ _), State.num_putNum_same _ _ _⟩
  have hpj : p.judged b := by rw [← hp]; exact State.judged_of_buses h rfl
  generalize ho : s.num (Obj.vbBoardStatus b) = old
  generalize hq : (if andNot (u16At f 8 &&& 15) old ≠ 0 then
      (if u16At f 8 &&& 15 ≠ 0 then p.orFlags (Obj.vbFlags b) 4 else p).alert Alert.valveBoard
    else if u16At f 8 &&& 15 ≠ 0 then p.orFlags (Obj.vbFlags b) 4 else p) = q
  have hqj : q.judged b := by
    rw [← hq]
    refine State.judged_of_buses hpj ?_
    have halert : ∀ z : State, (z.alert Alert.valveBoard).buses = z.buses := fun z =>
      (congrArg State.buses (Settled.alert z Alert.valveBoard (by decide)).same :)
    split
    · rw [halert]
      split <;> rfl
    · split <;> rfl
  have hqn : ∀ key ∈ [Obj.vbBoardStatus b, Obj.vbFaultCount b], SameNum key p q := fun key hk => by
    obtain ⟨hfault, hflags, -⟩ := hkeys key hk
    rw [← hq]
    have hor := SameNum.ite (p := u16At f 8 &&& 15 ≠ 0) (SameNum.orFlags p 4 hflags) (SameNum.refl p)
    exact .ite (hor.trans (.alert hfault.1 _ (by decide))) hor
  generalize hw : ({ q with ctl := { q.ctl with faults := _ } } : State) = w
  have hwj : w.judged b := by rw [← hw]; exact State.judged_of_buses hqj rfl
  have hwn : ∀ key ∈ [Obj.vbBoardStatus b, Obj.vbFaultCount b], SameNum key p w := fun key hk => by rw [← hw]; exact (hqn key hk).trans rfl
  have hmismatch : ((w.bump (Obj.vbStateMismatch b)).orFlags (Obj.vbFlags b) 2).judged b := State.judged_of_buses hwj rfl
  generalize hx : (if u32At f 2 ≠ (w.bus b).tick ∨ u16At f 6 ≠ crc16 (leBytes 64 (w.bus b).cur) then ((w.bump (Obj.vbStateMismatch b)).orFlags (Obj.vbFlags b) 2).busUpset b else w) = x
  have hxj : x.judged b := by
    rw [← hx]
    split
    · exact State.judged_busUpset hmismatch
    · exact hwj
  have hxn : ∀ key ∈ [Obj.vbBoardStatus b, Obj.vbFaultCount b], SameNum key p x := fun key hk => by
    obtain ⟨hfault, hflags, hmis⟩ := hkeys key hk
    rw [← hx]
    exact .ite ((hwn key hk).trans (((SameNum.bump w hmis).trans (.orFlags _ 2 hflags)).trans (.busUpset hfault _ b))) (hwn key hk)
  refine ⟨Eq.trans (hxn _ (List.mem_cons_self)) hbits.1, Eq.trans (hxn _ (List.mem_cons_of_mem _ List.mem_cons_self)) hbits.2, ?_⟩
  refine State.judged_modBus hxj (fun y hy => ?_)
  split
  · split <;> exact hy
  · exact hy

/-- STATUS_JUDGE, 4.5 µs into a tick that has a frame to judge (R366). -/
theorem State.statusJudge_due {u : State} {b : Nat} (hjudge : (u.bus b).judge = true) (hsends : (u.bus b).sends = true)
    (hdue : (u.bus b).tickClk + 4500 ≤ u.clk) : ∃ z, z.judged b ∧ (∀ key, SameNum key u z) ∧
    ((u.bus b).status = none → u.statusJudge b = z.statusBad b (Obj.vbStatusMissing b)) ∧
    ∀ f, (u.bus b).status = some f → f.length = 16 → u16At f 14 = crc16 (f.take 14) → u8At f 0 = 2 →
      u.statusJudge b = z.statusGood b f := by
  refine ⟨u.modBus b (fun y => { y with judge := false, status := none }), ?_, fun _ => rfl, fun hs => ?_, fun f hs hlen hcrc hkind => ?_⟩
  · unfold State.judged
    rw [State.bus_modBus_same (Bus.lt_of_sends hsends)]
  · unfold State.statusJudge
    rw [if_pos ⟨hjudge, hsends, hdue⟩, hs]
  · unfold State.statusJudge
    rw [if_pos ⟨hjudge, hsends, hdue⟩, hs]
    dsimp only
    rw [if_neg (by simp [hlen, hcrc]), if_neg (by simp [hkind])]

theorem Settled.judged {a t : State} (h : Settled a t) {b : Nat} (k : a.judged b) : (t.bus b).judge = false :=
  (congrArg Bus.judge (h.bus b)).trans k

/-- Settles O47: the tick through what belts, frames and entries leave of a bus, the status frame by its two outcomes. -/
theorem valveTicksAndStatus : Obligations.ValveTicksAndStatus := by
  refine ⟨valveFrame_length, ?_⟩
  intro dt b s
  refine fun hruns hb => ⟨fun hup hticking hperiod hdue => ?_, fun frame hsends => ?_, fun hjudge hsends hdue => ⟨fun hnone => ?_, ?_⟩⟩
  · exact State.run_completes (exec_tickStart s dt b) hruns (fun t h _ _ => State.tickStart_settled h hruns hup hticking hperiod hdue)
  · exact State.run_settled (exec_statusFrame s dt b frame) hruns (State.statusFrame_takes frame (operating_of_unitsRun hruns).1 hsends)
  · obtain ⟨z, hz, hnum, hbad, -⟩ := State.statusJudge_due hjudge hsends hdue
    refine State.run_completes (exec_statusJudge s dt b) hruns (fun t h _ _ => ?_)
    rw [hbad hnone] at h
    obtain ⟨hcount, hjudged⟩ := State.statusBad_counts hb hz
    exact ⟨by rw [h.num (statusObjects b hb).1.1.1, hcount, hnum], h.judged hjudged⟩
  · intro f hs hlen hcrc hkind
    obtain ⟨z, hz, -, -, hgood⟩ := State.statusJudge_due hjudge hsends hdue
    refine State.run_completes (exec_statusJudge s dt b) hruns (fun t h _ _ => ?_)
    rw [hgood f hs hlen hcrc hkind] at h
    obtain ⟨hbits, hfaults, hjudged⟩ := State.statusGood_presents f hb hz
    obtain ⟨-, hkeys, -⟩ := statusObjects b hb
    exact ⟨by rw [h.num (hkeys _ (by simp)).1.1, hbits], by rw [h.num (hkeys _ (by simp)).1.1, hfaults], h.judged hjudged⟩

end Sys2Proof.Machine
end

section
/-! PROOFS. Triggers issued, exposures ended and divided outputs pulsed (O41). -/

namespace Sys2Proof.Machine

/-! ## A generator's turn -/

theorem State.trigger_modTrigger_same {s : State} {v : Nat} (h : v < s.triggers.length) (f : Trigger → Trigger) :
    (s.modTrigger v f).trigger v = f (s.trigger v) := by
  unfold State.trigger State.modTrigger
  rw [getD_of_lt _ _ (by simpa using h), getD_of_lt _ _ h, List.getElem_modify_eq]

theorem State.trigger_modTrigger {α : Type} {g : Trigger → α} {f : Trigger → Trigger} (h : ∀ x, g (f x) = g x) (s : State) (n v : Nat) :
    g ((s.modTrigger n f).trigger v) = g (s.trigger v) := by
  unfold State.modTrigger State.trigger
  simp only [List.getD_eq_getElem?_getD, List.getElem?_modify]
  cases s.triggers[v]? with
  | none => rfl
  | some x => by_cases hn : n = v <;> simp [hn, h]

theorem Settled.triggers {a t : State} (h : Settled a t) : t.triggers = a.triggers := (congrArg State.triggers h.same :)

/-- What the issue of an index moves of a generator. -/
def Trigger.turn (x : Trigger) : Option Nat × Nat × Nat × List Issue := (x.held, x.nextIndex, x.lastClk, x.issues)

/-- `b` has the generators' turns of `a`, its clock, its mode and its armed commits. -/
structure SameTurn (a b : State) : Prop where
  turn : ∀ v, (b.trigger v).turn = (a.trigger v).turn
  count : b.triggers.length = a.triggers.length
  clk : b.clk = a.clk
  mode : b.ctl.mode = a.ctl.mode
  armed : b.ctl.staging.armed = a.ctl.staging.armed

namespace SameTurn

theorem refl (a : State) : SameTurn a a := ⟨fun _ => rfl, rfl, rfl, rfl, rfl⟩
theorem trans {a b c : State} (h : SameTurn a b) (k : SameTurn b c) : SameTurn a c :=
  ⟨fun v => (k.turn v).trans (h.turn v), k.count.trans h.count, k.clk.trans h.clk, k.mode.trans h.mode, k.armed.trans h.armed⟩
theorem ite {p : Prop} [Decidable p] {s a b : State} (ha : SameTurn s a) (hb : SameTurn s b) : SameTurn s (if p then a else b) := by
  split <;> assumption

theorem of_eq {a b : State} (ht : b.triggers = a.triggers) (hclk : b.clk = a.clk) (hctl : b.ctl = a.ctl) : SameTurn a b :=
  ⟨fun v => by unfold State.trigger; rw [ht], by rw [ht], hclk, by rw [hctl], by rw [hctl]⟩

theorem of_settled {a b : State} (h : Settled a b) (hclk : b.clk = a.clk) : SameTurn a b :=
  ⟨fun v => by unfold State.trigger; rw [h.triggers], by rw [h.triggers], hclk, (congrArg (fun s : State => s.ctl.mode) h.same :),
    (congrArg (fun s : State => s.ctl.staging.armed) h.same :)⟩

theorem putNum (s : State) (key n : Nat) : SameTurn s (s.putNum key n) := of_eq rfl rfl rfl
theorem bump (s : State) (key : Nat) : SameTurn s (s.bump key) := of_eq rfl rfl rfl
theorem modPort (s : State) (p : Nat) (f : Port → Port) : SameTurn s (s.modPort p f) := of_eq rfl rfl rfl
theorem modRegion (s : State) (p : Nat) (f : Region → Region) : SameTurn s (s.modRegion p f) := of_eq rfl rfl rfl

theorem modTrigger (s : State) (n : Nat) {f : Trigger → Trigger} (h : ∀ x, (f x).turn = x.turn) : SameTurn s (s.modTrigger n f) :=
  ⟨State.trigger_modTrigger h s n, List.length_modify _ _ _, rfl, rfl, rfl⟩

theorem event (s : State) (bit : Nat) : SameTurn s (s.event bit) := of_settled (Settled.event s bit) (Noted.event s bit).clk

theorem raiseAt (s : State) (delay : Nat) (east : Bool) (source carried data : Nat) : SameTurn s (s.raiseAt delay east source carried data) := by
  unfold State.raiseAt
  exact ite (of_eq rfl rfl rfl) (refl s)

theorem dmaRule : DmaRule SameTurn where
  refl := refl
  trans := trans
  high _ _ _ _ := of_eq rfl rfl rfl
  alert s bit h := of_settled (Settled.alert s bit h) (Noted.alert s bit).clk
  watch _ _ _ := of_eq rfl rfl rfl
  entries _ _ _ := of_eq rfl rfl rfl
  drawn _ := of_eq rfl rfl rfl
  requests _ _ := of_eq rfl rfl rfl
  modHbm _ _ := of_eq rfl rfl rfl
  modRing _ _ _ := of_eq rfl rfl rfl
  modLane _ _ _ := of_eq rfl rfl rfl
  dma _ _ := of_eq rfl rfl rfl
  event := event
  raise s source data := raiseAt s 0 false source 0 data
  blobs _ _ := ⟨fun _ => rfl, rfl, rfl, rfl, rfl⟩

theorem fold {α : Type} {f : State → α → State} (h : ∀ s x, SameTurn s (f s x)) (l : List α) (s : State) : SameTurn s (l.foldl f s) :=
  dmaRule.fold h l s

theorem completeResult (s : State) (key : Nat) (epoch : Option Nat) (data : Bytes) : SameTurn s (s.completeResult key epoch data) := by
  have hput : ∀ r, SameTurn s (s.putResult r) := fun r => ⟨fun _ => rfl, rfl, rfl, rfl, rfl⟩
  unfold State.completeResult
  dsimp only
  split
  · exact (hput _).trans (event _ _)
  · exact hput _

/-! ### Lines forwarded -/

theorem forwardTo (s : State) (p index : Nat) : SameTurn s (s.forwardTo p index) := by
  have hnext : ∀ z : State, SameTurn z (z.forwardNext p) := fun z => by
    unfold State.forwardNext
    dsimp only
    split
    · exact refl z
    · split
      · exact refl z
      · exact ite (modPort z p _) (ite ((modPort z p _).trans (bump _ _)) ((modPort z p _).trans (bump _ _)))
  have hmany : ∀ (n : Nat) (z : State), SameTurn z (z.forwardMany p n) := by
    intro n
    induction n with
    | zero => exact refl
    | succ n ih => exact fun z => (hnext z).trans (ih _)
  exact ite (hmany _ s) (refl s)

theorem forwardOldest (s : State) (v : Nat) : SameTurn s (s.forwardOldest v) := by
  unfold State.forwardOldest
  split
  · exact refl s
  · exact fold (fun z p => forwardTo z p _) _ s

/-! ### Ports that leave and join -/

theorem endPort (s : State) (v : Nat) (i : Issue) (p : Nat) : SameTurn s (s.endPort v i p) := by
  have hlatency : SameTurn s (s.endLatency p i.frameStart) := by
    unfold State.endLatency
    split
    · exact ite (((putNum s _ _).trans (putNum _ _ _)).trans (modRegion _ _ _)) (refl s)
    · exact refl s
  have hstats : ∀ z : State, SameTurn z (z.endStats p) := fun z => by
    unfold State.endStats
    split
    · exact refl z
    · exact ite ((modRegion z p _).trans (completeResult _ _ _ _)) (modRegion z p _)
  have hcapture : ∀ (z : State) (c : Capture), SameTurn z (z.endCapture p c) := fun z c => by
    unfold State.endCapture
    dsimp only
    exact ite (((modRegion z p _).trans (completeResult _ _ _ _)).trans (putNum _ _ _)) ((modRegion z p _).trans (putNum _ _ _))
  have hended : ∀ z : State, SameTurn z (match (z.region p).stats with
      | some f => if f.start = i.frameStart ∧ f.view = v then z.endStats p else z
      | none => z) := fun z => by
    split
    · exact ite (hstats z) (refl z)
    · exact refl z
  have hcaught : ∀ z : State, SameTurn z (match (z.region p).capture with
      | some c => if c.frame = some i.frameStart then z.endCapture p c else z
      | none => z) := fun z => by
    split
    · exact ite (hcapture z _) (refl z)
    · exact refl z
  exact ite (modPort s p _) ((hlatency.trans (hended _)).trans (hcaught _))

theorem leaveView (s : State) (p : Nat) : SameTurn s (s.leaveView p) := by
  unfold State.leaveView
  split
  · exact refl s
  · rename_i u _
    dsimp only
    refine trans ?_ (modPort _ p _)
    generalize hz : (if (s.trigger u).anyIssued = true then s.forwardTo p (((s.trigger u).nextIndex + wrap32 - 1) % wrap32) else s) = z
    have hforward : SameTurn s z := by rw [← hz]; exact ite (forwardTo s p _) (refl s)
    split
    · refine ite hforward (trans ?_ (endPort _ _ _ _))
      split
      · exact ite (hforward.trans ((modRegion z p _).trans (putNum _ _ _))) hforward
      · exact hforward
    · exact hforward

theorem joinPorts (s : State) (v n : Nat) : SameTurn s (s.joinPorts v n) := by
  unfold State.joinPorts
  dsimp only
  refine trans (fold leaveView _ s) (fold (fun z p => ?_) _ _)
  exact ((leaveView z p).trans (modPort _ p _)).trans (modRegion _ p _)

/-! ### A frame starts -/

theorem toutReview (s : State) : SameTurn s s.toutReview := by
  refine fold (fun z k => ?_) _ s
  unfold State.toutDrive State.toutDriveAt
  dsimp only
  exact ite (refl z) (trans (b := (State.modTout z k _).emit _) (of_eq rfl rfl rfl) (raiseAt _ _ _ _ _ _))

theorem frameStarts (s : State) (v n stamp : Nat) (h : s.ctl.staging.armed = []) : SameTurn s (s.frameStarts v n stamp) := by
  unfold State.frameStarts
  dsimp only
  generalize hz : State.modTrigger s v _ = z
  have hframe : SameTurn s z := by rw [← hz]; exact modTrigger s v (fun _ => by rfl)
  have hseams : SameTurn z (z.applySeams v n) := of_eq rfl rfl rfl
  rw [show z.ctl.staging.armed = [] from hframe.armed.trans h]
  generalize hy : State.ringsStart _ v _ = y
  have hrings : SameTurn s y := by
    rw [← hy]
    exact (hframe.trans hseams).trans (dmaRule.ringsStart _ _ _)
  generalize hx : List.foldl (fun (acc : State) p => acc.rejoinRegion v n p) _ _ = x
  have hports : SameTurn s x := by
    rw [← hx]
    refine (hrings.trans (fold (fun a p => ite (modPort a p _) (refl a)) _ y)).trans (fold (fun a p => ?_) _ _)
    exact ite (modRegion a p _) (refl a)
  generalize hw : List.foldl _ x _ = w
  have hopened : SameTurn s w := by
    rw [← hw]
    exact hports.trans (fold (fun a p => modRegion a p _) _ x)
  refine ite (hopened.trans (trans ?_ (toutReview _))) (ite (hopened.trans (toutReview w)) hopened)
  exact of_eq rfl rfl rfl

end SameTurn

/-! ## What follows an index issued -/

/-- `b` has the generators' turns of `a` and NEXT_INDEX of view `v`. -/
structure SameIssue (v : Nat) (a b : State) : Prop where
  turn : ∀ n, (b.trigger n).turn = (a.trigger n).turn
  next : b.num (Obj.trgNextIndex v) = a.num (Obj.trgNextIndex v)

namespace SameIssue

variable {v : Nat}

theorem refl (a : State) : SameIssue v a a := ⟨fun _ => rfl, rfl⟩
theorem trans {a b c : State} (h : SameIssue v a b) (k : SameIssue v b c) : SameIssue v a c :=
  ⟨fun n => (k.turn n).trans (h.turn n), k.next.trans h.next⟩
theorem ite {p : Prop} [Decidable p] {s a b : State} (ha : SameIssue v s a) (hb : SameIssue v s b) : SameIssue v s (if p then a else b) := by
  split <;> assumption
theorem fold {α : Type} {f : State → α → State} (h : ∀ s x, SameIssue v s (f s x)) (l : List α) (s : State) : SameIssue v s (l.foldl f s) := by
  induction l generalizing s with
  | nil => exact refl s
  | cons x r ih => exact (h s x).trans (ih _)

/-- An operation that leaves the generators and the values in force. -/
theorem of_num {a b : State} (ht : b.triggers = a.triggers) (h : SameNum (Obj.trgNextIndex v) a b) : SameIssue v a b :=
  ⟨fun n => by unfold State.trigger; rw [ht], h⟩

theorem putNum (s : State) {key : Nat} (n : Nat) (h : Obj.trgNextIndex v ≠ key) : SameIssue v s (s.putNum key n) :=
  of_num rfl (.putNum s n h)
theorem bump (s : State) {key : Nat} (h : Obj.trgNextIndex v ≠ key) : SameIssue v s (s.bump key) := of_num rfl (.bump s h)
theorem bumpIf (s : State) (c : Bool) {key : Nat} (h : Obj.trgNextIndex v ≠ key) : SameIssue v s (s.bumpIf c key) := ite (bump s h) (refl s)
theorem orFlags (s : State) {key : Nat} (n : Nat) (h : Obj.trgNextIndex v ≠ key) : SameIssue v s (s.orFlags key n) := putNum s _ h
theorem emit (s : State) (e : Emission) : SameIssue v s (s.emit e) := of_num rfl rfl
theorem modPort (s : State) (p : Nat) (f : Port → Port) : SameIssue v s (s.modPort p f) := of_num rfl rfl
theorem modTout (s : State) (k : Nat) (f : Tout → Tout) : SameIssue v s (s.modTout k f) := of_num rfl rfl

theorem modTrigger (s : State) (n : Nat) {f : Trigger → Trigger} (h : ∀ x, (f x).turn = x.turn) : SameIssue v s (s.modTrigger n f) :=
  ⟨State.trigger_modTrigger h s n, rfl⟩

theorem raiseAt (s : State) (delay : Nat) (east : Bool) (source carried data : Nat) : SameIssue v s (s.raiseAt delay east source carried data) := by
  unfold State.raiseAt
  exact ite (of_num rfl rfl) (refl s)

theorem sendTrigger (s : State) (i : Issue) (p : Nat) : SameIssue v s (s.sendTrigger i p) := by
  have hlate : Obj.trgNextIndex v ≠ Obj.portTrigLate p := by unfold Obj.trgNextIndex Obj.portTrigLate objKey; omega
  unfold State.sendTrigger State.trigMessage
  dsimp only
  exact ite (((modPort s p _).trans (bumpIf _ _ hlate)).trans (emit _ _)) (ite (emit s _) (refl s))

theorem exposureDue (s : State) (n index : Nat) : SameIssue v s (s.exposureDue n index) := by
  have hflags : Obj.trgNextIndex v ≠ Obj.trgFlags n := by unfold Obj.trgNextIndex Obj.trgFlags objKey; omega
  have hreg : ∀ (z : State) (p : Nat), SameIssue v z (z.sendReg p) := fun z p => by
    unfold State.sendReg
    split
    · exact refl z
    · exact ite (refl z) ((modPort z p _).trans (emit _ _))
  have hport : ∀ (z : State) (p : Nat) (r : RegAccess) (f : Port → Port), SameIssue v z (((z.queueReg p r).sendReg p).modPort p f) :=
    fun z p r f => ((modPort z p _).trans (hreg _ p)).trans (modPort _ p f)
  have hexposure : ∀ (z : State) (start epoch : Nat), SameIssue v z (z.sendExposure n start epoch false) := fun z start epoch => by
    unfold State.sendExposure
    dsimp only
    refine ite ((fold (fun a p => ?_) _ z).trans (orFlags _ _ hflags)) (fold (fun a p => ?_) _ z) <;>
      exact ite ((hport a p _ _).trans (modPort _ p _)) (hport a p _ _)
  unfold State.exposureDue
  dsimp only
  exact (modTrigger s n (fun _ => by rfl)).trans (fold (fun z q => hexposure z _ _) _ _)

theorem lampTrigger (s : State) (n phase exposure : Nat) : SameIssue v s (s.lampTrigger n phase exposure) := by
  have hlate : ∀ k, Obj.trgNextIndex v ≠ Obj.toutLateEdges k := fun k => by unfold Obj.trgNextIndex Obj.toutLateEdges objKey; omega
  have hmerged : ∀ k, Obj.trgNextIndex v ≠ Obj.toutMergedEdges k := fun k => by unfold Obj.trgNextIndex Obj.toutMergedEdges objKey; omega
  have hoverlaps : Obj.trgNextIndex v ≠ Obj.trgLampOverlaps n := by unfold Obj.trgNextIndex Obj.trgLampOverlaps objKey; omega
  have hdrive : ∀ (z : State) (k : Nat), SameIssue v z (z.toutDrive k) := fun z k => by
    unfold State.toutDrive State.toutDriveAt
    dsimp only
    exact ite (refl z) (trans (b := (State.modTout z k _).emit _) (of_num rfl rfl) (raiseAt _ _ _ _ _ _))
  have hdue : ∀ (z : State) (k : Nat), SameIssue v z (z.lampDue k).1 := fun z k => by
    unfold State.lampDue
    dsimp only
    split
    · exact refl z
    · split
      · exact (bump z (hlate k)).trans (modTout _ k _)
      · split
        · exact (bump z (hmerged k)).trans (modTout _ k _)
        · exact (modTout z k _).trans (hdrive _ k)
  have hlamps : ∀ (k m : Nat) (z : State), SameIssue v z (z.lateLamps k m) := by
    intro k m
    induction m with
    | zero => exact refl
    | succ m ih =>
      intro z
      unfold State.lateLamps
      split
      · exact refl z
      · refine ite ?_ (refl z)
        exact ite (((bumpIf z _ (hlate k)).trans (hdue _ k)).trans (ih _)) ((bumpIf z _ (hlate k)).trans (hdue _ k))
  unfold State.lampTrigger
  dsimp only
  refine ite (refl s) (trans ?_ (fold (fun z j => hlamps j _ z) _ _))
  exact trans (b := (s.cutLamps n _).1) (of_num rfl rfl) ((bumpIf _ _ hoverlaps).trans (modTout _ _ _))

theorem woken {a b : State} (h : Woken a b) : SameIssue v a b :=
  of_num (congrArg State.triggers h.same :) (h.num (by unfold Obj.trgNextIndex Obj.pwLastWake objKey; omega))

theorem sendEvent (s : State) (k channel time index : Nat) : SameIssue v s (s.sendEvent k channel time index) :=
  ite (of_num rfl rfl) (refl s)

end SameIssue

/-! ## The issue -/

theorem State.takeBindings_unarmed {s : State} (v : Nat) (h : s.ctl.staging.armed = []) : s.takeBindings v = s := by
  unfold State.takeBindings State.boundHere
  rw [h]
  rfl

theorem Trigger.newFraming_turn (x : Trigger) : x.newFraming.turn = x.turn := by
  unfold Trigger.newFraming
  split
  · split <;> rfl
  · rfl

/-- `t` has issued index `n` of view `v` at a clock, with no event held. -/
structure IssuedAt (v n clk : Nat) (t : State) : Prop where
  held : (t.trigger v).held = none
  nextIndex : (t.trigger v).nextIndex = (n + 1) % wrap32
  lastClk : (t.trigger v).lastClk = clk
  issue : ∃ i rest, (t.trigger v).issues = i :: rest ∧ i.index = n ∧ i.clk = clk
  next : t.num (Obj.trgNextIndex v) = (n + 1) % wrap32

theorem IssuedAt.of_same {v n clk : Nat} {a b : State} (h : IssuedAt v n clk a) (k : SameIssue v a b) : IssuedAt v n clk b := by
  have hturn := k.turn v
  simp only [Trigger.turn, Prod.mk.injEq] at hturn
  obtain ⟨hheld, hnext, hclk, hissues⟩ := hturn
  exact ⟨hheld.trans h.held, hnext.trans h.nextIndex, hclk.trans h.lastClk, by rw [hissues]; exact h.issue, k.next.trans h.next⟩

/-- The next index issued, where no commit is armed (R149, R152). -/
theorem State.issueTrigger_issues {s : State} {v : Nat} (stamp : Nat) (harmed : s.ctl.staging.armed = []) (hop : s.ctl.mode.operating = true)
    (hv : v < s.triggers.length) (hheld : (s.trigger v).held = none) :
    IssuedAt v (s.trigger v).nextIndex s.clk (s.issueTrigger v stamp) := by
  unfold State.issueTrigger State.issueWith
  extract_lets +lift s0 had e0 s1 n start s2 s3 g next ends cut phases exposure i ports hlp pos s4 s5 s6 s7 s8 s9 s10 s11 far s12 s13 s14
  have hforward : SameTurn s s0 := SameTurn.forwardOldest s v
  have hframing : SameTurn s s1 :=
    hforward.trans (by
      have hbound := State.takeBindings_unarmed v (hforward.armed.trans harmed)
      show SameTurn s0 ((s0.takeBindings v).modTrigger v Trigger.newFraming)
      rw [hbound]
      exact .modTrigger s0 v Trigger.newFraming_turn)
  clear_value s0 s1 had e0
  rw [if_neg (show ¬ (!s1.ctl.mode.operating) = true by simp [hframing.mode, hop])]
  have hjoined : SameTurn s s2 := hframing.trans (.joinPorts s1 v _)
  have hframe : SameTurn s s3 := .ite (hjoined.trans (.frameStarts _ v _ _ (hjoined.armed.trans harmed))) hjoined
  have hindex : n = (s.trigger v).nextIndex := congrArg (fun p => p.2.1) (hframing.turn v)
  clear_value s3 n start s2
  have hturn := hframe.turn v
  simp only [Trigger.turn, Prod.mk.injEq] at hturn
  have h4 : (s4.trigger v).held = none ∧ (s4.trigger v).nextIndex = next ∧ (s4.trigger v).lastClk = s.clk ∧
      (s4.trigger v).issues = i :: (s3.trigger v).issues.take 8191 := by
    have hissue : s4.trigger v = _ := State.trigger_modTrigger_same (by rw [hframe.count]; exact hv) _
    rw [hissue]
    exact ⟨hturn.1.trans hheld, rfl, hframe.clk, rfl⟩
  have h6 : s6.triggers = s4.triggers := by
    show (if _ then s5 else _ : State).triggers = _
    split <;> rfl
  have h7 : s7.trigger v = s4.trigger v := by
    show s6.triggers.getD v Trigger.reset = _
    rw [h6]
    rfl
  have hnumber : s7.num (Obj.trgNextIndex v) = next :=
    (State.num_putNum_other _ _ (by unfold Obj.trgNextIndex Obj.trgFrame objKey; omega)).trans (State.num_putNum_same _ _ _)
  have hissued : IssuedAt v n s.clk s7 := by
    obtain ⟨hnone, hnext, hclk, hissues⟩ := h4
    rw [← h7] at hnone hnext hclk hissues
    exact ⟨hnone, hnext, hclk, ⟨i, _, hissues, rfl, hframe.clk⟩, hnumber⟩
  have hfar : ∀ z : State, SameIssue v z (z.bump (Obj.echEvents (292 + v))) := fun z =>
    .bump z (by unfold Obj.trgNextIndex Obj.echEvents objKey; omega)
  have h8 : SameIssue v s7 s8 := .ite (.orFlags _ _ (by unfold Obj.trgNextIndex Obj.trgFlags objKey; omega)) (.refl s7)
  clear_value s7 s8
  have h10 : SameIssue v s8 s10 :=
    (((SameIssue.fold (fun z p => .sendTrigger z i p) ports s8).trans (.exposureDue _ v n)).trans (.lampTrigger _ v _ _)).trans
      (.raiseAt _ _ _ _ _ _)
  have h11 : SameIssue v s8 s11 := .ite (.exposureDue s8 v n) (.ite (h10.trans (.raiseAt _ _ _ _ _ _)) h10)
  clear_value s11 far
  have h12 : SameIssue v s11 s12 := .ite ((SameIssue.sendEvent s11 far (4 + v) stamp n).trans (hfar _)) (.refl s11)
  clear_value s12
  have h13 : SameIssue v s12 s13 := .ite (.refl s12) (.trans (b := s12.modPower (fun p => { p with lastTrigger := s12.clk })) (.of_num rfl rfl) (.woken (Woken.leaveDoze _ _)))
  clear_value s13
  have h14 : SameIssue v s13 s14 := .ite (.of_num rfl rfl) (.refl s13)
  clear_value s14
  rw [← hindex]
  exact hissued.of_same (h8.trans (h11.trans (h12.trans (h13.trans (h14.trans (.of_num rfl rfl))))))

/-! ## The event held -/

section Held

variable {u : State} {v source : Nat} (hruns : u.unitsRun = true) (harmed : u.ctl.staging.armed = [])
  (hheld : (u.trigger v).held = some source) (hfree : u.triggerFree v ≤ u.clk)

include hruns harmed hheld hfree

/-- A held event whose time has come: issued, or gone with its source (R150, R153). -/
theorem State.heldIssue_due : u.heldIssue v =
    if source = (u.modTrigger v (fun t => { t with held := none })).effSource v then
      (u.modTrigger v (fun t => { t with held := none })).fireTrigger v
    else u.modTrigger v (fun t => { t with held := none }) := by
  obtain ⟨hop, hdeep⟩ := operating_of_unitsRun hruns
  unfold State.heldIssue
  dsimp only
  rw [if_neg (by simp [harmed]), hheld]
  dsimp only
  exact if_neg (by simp [hop, hdeep, hfree])

theorem State.heldIssue_gone (hsource : source ≠ u.num (Obj.trgSource v)) :
    u.heldIssue v = u.modTrigger v (fun x => { x with held := none }) := by
  refine (State.heldIssue_due hruns harmed hheld hfree).trans (if_neg ?_)
  rw [State.effSource_unarmed (by exact harmed)]
  exact hsource

theorem State.heldIssue_issues (hsource : source = u.num (Obj.trgSource v)) (hfed : source ≠ 0) :
    IssuedAt v (u.trigger v).nextIndex u.clk (u.heldIssue v) := by
  have hv : v < u.triggers.length := by
    refine Classical.byContradiction fun hlt => ?_
    have hreset : u.trigger v = Trigger.reset := getD_of_length_le _ _ (Nat.not_lt.mp hlt)
    rw [hreset] at hheld
    cases hheld
  rw [State.heldIssue_due hruns harmed hheld hfree]
  generalize hz : u.modTrigger v (fun t => { t with held := none }) = z
  have hg : z.trigger v = { u.trigger v with held := none } := by rw [← hz]; exact State.trigger_modTrigger_same hv _
  have hza : z.ctl.staging.armed = [] := by rw [← hz]; exact harmed
  have hzs : z.num (Obj.trgSource v) = source := by rw [← hz]; exact hsource.symm
  have hzl : v < z.triggers.length := by rw [← hz]; simpa [State.modTrigger] using hv
  have hzc : z.clk = u.clk := by rw [← hz]; rfl
  have hop : z.ctl.mode.operating = true := by rw [← hz]; exact (operating_of_unitsRun hruns).1
  have hbound : z.boundSource v = source := by
    unfold State.boundSource State.boundHere
    rw [hza]
    exact hzs
  rw [if_pos (by rw [State.effSource_unarmed hza, hzs])]
  unfold State.fireTrigger
  rw [hbound, if_neg hfed]
  have hissued := State.issueTrigger_issues z.shortNow hza hop hzl (by rw [hg])
  rwa [hg, hzc] at hissued

end Held

theorem IssuedAt.settled {v n clk : Nat} {a t : State} (h : IssuedAt v n clk a) (hv : v < 4) (k : Settled a t) : IssuedAt v n clk t := by
  have hown : ∀ v < 4, ownStatus (Obj.trgNextIndex v) = false := by decide
  exact h.of_same (.of_num k.triggers (k.num (hown v hv)))

/-! ## The end of an exposure -/

/-- The TRIG_END of a port for an edge at a clock (R131, R156). -/
def State.endSent (at_ index : Nat) (s : State) (p : Nat) : State :=
  (s.trigMessage p at_ 32).1.emit (.trigEnd p (index % 256) (s.trigMessage p at_ 32).2)

theorem State.endSent_out (at_ index : Nat) (s : State) (p : Nat) :
    (s.endSent at_ index p).out = s.out ++ [.trigEnd p (index % 256) (s.trigMessage p at_ 32).2] := by
  unfold State.endSent State.trigMessage State.bumpIf
  dsimp only
  split <;> rfl

theorem State.endSent_all (at_ index : Nat) (l : List Nat) (s : State) : (l.foldl (State.endSent at_ index) s).triggers = s.triggers ∧
    (∀ e ∈ s.out, e ∈ (l.foldl (State.endSent at_ index) s).out) ∧
    ∀ p ∈ l, ∃ fine, Emission.trigEnd p (index % 256) fine ∈ (l.foldl (State.endSent at_ index) s).out := by
  induction l generalizing s with
  | nil => exact ⟨rfl, fun _ h => h, fun _ h => absurd h List.not_mem_nil⟩
  | cons q r ih =>
    obtain ⟨htriggers, hkept, hsent⟩ := ih (s.endSent at_ index q)
    have hsame : (s.endSent at_ index q).triggers = s.triggers := by
      unfold State.endSent State.trigMessage State.bumpIf
      dsimp only
      split <;> rfl
    refine ⟨htriggers.trans hsame, fun e he => hkept e (by rw [State.endSent_out]; exact List.mem_append_left _ he), fun p hp => ?_⟩
    rcases List.mem_cons.mp hp with rfl | hr
    · exact ⟨_, hkept _ (by rw [State.endSent_out]; exact List.mem_append_right _ (List.mem_singleton_self _))⟩
    · exact hsent p hr

/-- TRIG_END goes to every HLP port of the view, and no other is due (R156). -/
theorem State.trigEnd_sends {u : State} {v at_ index : Nat} (hdue : (u.trigger v).endDue = some (at_, index)) (hclk : at_ ≤ u.clk) :
    ((u.trigEnd v).trigger v).endDue = none ∧ ∀ p, p < 12 → (u.port p).view = some v → u.num (Obj.portLinkMode p) = 2 →
      ∃ fine, Emission.trigEnd p (index % 256) fine ∈ (u.trigEnd v).out := by
  have hv : v < u.triggers.length := by
    refine Classical.byContradiction fun hlt => ?_
    have hreset : u.trigger v = Trigger.reset := getD_of_length_le _ _ (Nat.not_lt.mp hlt)
    rw [hreset] at hdue
    cases hdue
  have hends : u.trigEnd v = (((List.range 12).filter (fun p => (u.port p).view = some v ∧ u.num (Obj.portLinkMode p) = 2)).foldl
      (State.endSent at_ index) u).modTrigger v (fun x => { x with endDue := none }) := by
    unfold State.trigEnd
    rw [hdue]
    exact if_neg (Nat.not_lt.mpr hclk)
  obtain ⟨htriggers, -, hsent⟩ := State.endSent_all at_ index
    ((List.range 12).filter (fun p => (u.port p).view = some v ∧ u.num (Obj.portLinkMode p) = 2)) u
  rw [hends]
  refine ⟨?_, fun p hp hview hmode => hsent p (List.mem_filter.mpr ⟨List.mem_range.mpr hp, by simp [hview, hmode]⟩)⟩
  rw [State.trigger_modTrigger_same (by rw [htriggers]; exact hv)]

/-! ## Divided outputs -/

/-- A TIMEBASE output that no generator takes pulses and gives M of its accumulator away (R169). -/
theorem State.pgoPulse_reached {u : State} {k : Nat} (hruns : u.unitsRun = true) (harmed : u.ctl.staging.armed = []) (hk : k < 4)
    (hlen : k < u.pgos.length) (hinput : u.num (Obj.pgoInput k) = 5) (hm : (u.num (Obj.pgoM k) : Int) ≤ u.pgoAcc k)
    (hsource : ∀ w, w < 4 → u.num (Obj.trgSource w) ≠ 5 + k) :
    ((u.pgoPulse k).pgo k).acc = u.pgoAcc k - u.num (Obj.pgoM k) ∧ ((u.pgoPulse k).pgo k).lastClk = u.clk := by
  obtain ⟨hop, hdeep⟩ := operating_of_unitsRun hruns
  unfold State.pgoPulse
  dsimp only
  rw [if_pos ⟨hk, hinput, hop, hdeep, hm⟩]
  unfold State.pgoFire
  generalize hz : u.modPgo k (fun x => { x with acc := u.pgoAcc k - u.num (Obj.pgoM k), lastClk := u.clk }) = z
  have hpgo : (z.pgo k).acc = u.pgoAcc k - u.num (Obj.pgoM k) ∧ (z.pgo k).lastClk = u.clk ∧ k < z.pgos.length := by
    subst hz
    refine ⟨?_, ?_, by simpa [State.modPgo] using hlen⟩ <;>
      (unfold State.pgo State.modPgo
       rw [getD_of_lt _ _ (by simpa using hlen), List.getElem_modify_eq])
  have hpin : (((z.pgoPin k).raise false (0x018 + k) 0).pgo k).acc = (z.pgo k).acc ∧
      (((z.pgoPin k).raise false (0x018 + k) 0).pgo k).lastClk = (z.pgo k).lastClk ∧
      ((z.pgoPin k).raise false (0x018 + k) 0).ctl = z.ctl ∧
      ∀ key, ((z.pgoPin k).raise false (0x018 + k) 0).num key = z.num key := by
    have hraise : ∀ y : State, (y.raise false (0x018 + k) 0).pgos = y.pgos ∧ (y.raise false (0x018 + k) 0).ctl = y.ctl := fun y => by
      unfold State.raise State.raiseAt
      split <;> exact ⟨rfl, rfl⟩
    unfold State.pgo
    rw [(hraise _).1, (hraise _).2]
    simp only [State.raise_num]
    unfold State.pgoPin
    split
    · refine ⟨?_, ?_, rfl, fun _ => rfl⟩ <;>
        (unfold State.emit State.modPgo
         dsimp only
         rw [getD_of_lt _ _ (by simpa using hpgo.2.2), getD_of_lt _ _ hpgo.2.2, List.getElem_modify_eq])
    · exact ⟨rfl, rfl, rfl, fun _ => rfl⟩
  obtain ⟨hacc, hclk, hctl, hnum⟩ := hpin
  generalize (z.pgoPin k).raise false (0x018 + k) 0 = y at hacc hclk hctl hnum ⊢
  have hza : z.ctl.staging.armed = [] := by rw [← hz]; exact harmed
  have hstill : y.sourceEvent (5 + k) = y := foldl_still (List.range 4) (fun w hw =>
    State.triggerEvent_other (by rw [hctl]; exact hza) (by
      rw [hnum, ← hz]
      exact hsource w (List.mem_range.mp hw)))
  rw [hstill]
  exact ⟨hacc.trans hpgo.1, hclk.trans hpgo.2.1⟩

/-! ## The statement -/

theorem State.trigEnd_settled {u t : State} {v at_ index : Nat} (h : Settled (u.trigEnd v) t) (hdue : (u.trigger v).endDue = some (at_, index))
    (hclk : at_ ≤ u.clk) : (t.trigger v).endDue = none ∧ ∀ p, p < 12 → (u.port p).view = some v → u.num (Obj.portLinkMode p) = 2 →
      ∃ fine, Emission.trigEnd p (index % 256) fine ∈ t.out := by
  obtain ⟨hnone, hsent⟩ := State.trigEnd_sends hdue hclk
  refine ⟨?_, fun p hp hview hmode => ?_⟩
  · unfold State.trigger
    rw [h.triggers]
    exact hnone
  · obtain ⟨fine, hmem⟩ := hsent p hp hview hmode
    exact ⟨fine, h.mem_out hmem⟩

theorem State.pgoPulse_settled {u t : State} {k : Nat} (h : Settled (u.pgoPulse k) t) (hruns : u.unitsRun = true)
    (harmed : u.ctl.staging.armed = []) (hk : k < 4) (hlen : k < u.pgos.length) (hinput : u.num (Obj.pgoInput k) = 5)
    (hm : (u.num (Obj.pgoM k) : Int) ≤ u.pgoAcc k) (hsource : ∀ w, w < 4 → u.num (Obj.trgSource w) ≠ 5 + k) :
    (t.pgo k).acc = u.pgoAcc k - u.num (Obj.pgoM k) ∧ (t.pgo k).lastClk = u.clk := by
  have hpgo : t.pgo k = (u.pgoPulse k).pgo k := (congrArg (fun s : State => s.pgo k) h.same :)
  rw [hpgo]
  exact State.pgoPulse_reached hruns harmed hk hlen hinput hm hsource

/-- Settles O41: what follows an index issued leaves the generator's turn, and every pulse is sent where its time has come. -/
theorem triggersAreIssued : Obligations.TriggersAreIssued := by
  intro dt v s
  refine fun hruns hv harmed => ⟨fun source hheld hfree => ⟨fun hsource hfed => ?_, fun hsource => ?_⟩, fun at_ index hdue hclk => ?_,
    fun k hk hlen hinput hm hsource => ?_⟩
  · refine State.run_completes (exec_triggerHeldIssue s dt v) (by simp [hruns, hv]) (fun t h _ _ => ?_)
    obtain ⟨hnone, hnext, hlast, hissue, hnumber⟩ := (State.heldIssue_issues hruns harmed hheld hfree hsource hfed).settled hv h
    exact ⟨hnone, hnext, hlast, hissue, hnumber⟩
  · exact State.run_settled (exec_triggerHeldIssue s dt v) (by simp [hruns, hv]) (State.heldIssue_gone hruns harmed hheld hfree hsource)
  · exact State.run_completes (exec_trigEnd s dt v) (by simp [hruns, hv]) (fun t h _ _ => State.trigEnd_settled h hdue hclk)
  · exact State.run_completes (exec_pgoPulse s dt k) hruns
      (fun t h _ _ => State.pgoPulse_settled h hruns harmed hk hlen hinput hm hsource)

end Sys2Proof.Machine
end

section
/-! PROOFS. Upsets and resets of the array (O45). -/

namespace Sys2Proof.Machine

/-! ## Numbers that the array leaves -/

/-- An object that neither the tracker nor the dispatcher writes. -/
structure OffArray (key : Nat) : Prop where
  low : key < 0x600000
  own : ownStatus key = false
  defaulted : ∀ v, key ≠ Obj.viewDefaulted v
  full : ∀ v, key ≠ Obj.viewQueueFull v

namespace SameNum

variable {key : Nat}

theorem trackerRule (hlow : key < 0x600000) (hown : ownStatus key = false) : TrackerRule (SameNum key) where
  refl := refl
  trans := trans
  high s k v h := by
    unfold SameNum State.num State.val State.valIn
    rw [show Kv.get? (s.putVal k v).dict.inForce key = Kv.get? s.dict.inForce key from Kv.get?_put_other _ _ (by omega)]
    rfl
  alert s bit h := alert hown s h
  watch _ _ _ := rfl
  entries _ _ _ := rfl
  drawn _ := rfl
  requests _ _ := rfl
  modHbm _ _ := rfl
  modRing _ _ _ := rfl
  modLane _ _ _ := rfl

theorem brickRule (hlow : key < 0x600000) (hown : ownStatus key = false) : BrickRule (SameNum key) where
  toTrackerRule := trackerRule hlow hown
  setJob _ _ _ _ := rfl
  builds _ _ _ := rfl

theorem queueRule (h : OffArray key) : QueueRule (SameNum key) where
  toBrickRule := brickRule h.low h.own
  queue _ _ := rfl
  defaulted s v := bump s (h.defaulted v)
  full s v := bump s (h.full v)
  flags s := orFlags s 1 (fun e => by have hown := h.own; rw [e] at hown; exact absurd hown (by decide))

end SameNum

theorem offArray_tileRunsAbandoned {n : Nat} (hn : n < 48) : OffArray (Obj.tileRunsAbandoned n) := by
  have hown : ∀ n < 48, ownStatus (Obj.tileRunsAbandoned n) = false := by decide
  exact ⟨by unfold Obj.tileRunsAbandoned objKey; omega, hown n hn,
    fun v => by unfold Obj.tileRunsAbandoned Obj.viewDefaulted objKey; omega,
    fun v => by unfold Obj.tileRunsAbandoned Obj.viewQueueFull objKey; omega⟩

theorem offArray_tileResets {n : Nat} (hn : n < 48) : OffArray (Obj.tileResets n) := by
  have hown : ∀ n < 48, ownStatus (Obj.tileResets n) = false := by decide
  exact ⟨by unfold Obj.tileResets objKey; omega, hown n hn,
    fun v => by unfold Obj.tileResets Obj.viewDefaulted objKey; omega,
    fun v => by unfold Obj.tileResets Obj.viewQueueFull objKey; omega⟩

theorem offArray_fltUpsets : OffArray Obj.fltUpsets :=
  ⟨by decide, by decide, fun v => by unfold Obj.fltUpsets Obj.viewDefaulted objKey; omega,
    fun v => by unfold Obj.fltUpsets Obj.viewQueueFull objKey; omega⟩

/-! ## An upset of a brick -/

theorem State.tileLive_lt {u : State} {n : Nat} (h : u.tileLive n = true) : n < 48 := by
  unfold State.tileLive at h
  simp only [Bool.and_eq_true, decide_eq_true_eq] at h
  have htiles : u.ctl.part.tiles ≤ 48 := by unfold Part.tiles; split <;> decide
  omega

theorem State.tile_modTile {α : Type} {g : Tile → α} {f : Tile → Tile} (h : ∀ x, g (f x) = g x) (s : State) (n k : Nat) :
    g ((s.modTile n f).tile k) = g (s.tile k) := by
  unfold State.modTile State.tile
  simp only [List.getD_eq_getElem?_getD, List.getElem?_modify]
  cases s.tiles[k]? with
  | none => rfl
  | some x => by_cases hn : n = k <;> simp [hn, h]

/-- What an upset of a tile's unit reads: the clock, the faults, and the resets of the regions and the tiles. -/
structure SameFaults (a b : State) : Prop where
  clk : b.clk = a.clk
  faults : b.ctl.faults = a.ctl.faults
  regions : b.regions = a.regions
  resets : ∀ n, (b.tile n).resetUntil = (a.tile n).resetUntil

namespace SameFaults

theorem refl (a : State) : SameFaults a a := ⟨rfl, rfl, rfl, fun _ => rfl⟩
theorem trans {a b c : State} (h : SameFaults a b) (k : SameFaults b c) : SameFaults a c :=
  ⟨k.clk.trans h.clk, k.faults.trans h.faults, k.regions.trans h.regions, fun n => (k.resets n).trans (h.resets n)⟩

theorem of_noted {a b : State} (h : Noted a b) (hf : b.ctl.faults = a.ctl.faults) : SameFaults a b :=
  ⟨h.clk, hf, (congrArg State.regions h.rest :), fun n => (congrArg (fun s : State => (s.tile n).resetUntil) h.rest :)⟩

theorem setJob (s : State) (t b : Nat) (j : BrickJob) : SameFaults s (s.setJob t b j) := by
  refine ⟨rfl, rfl, rfl, fun n => State.tile_modTile (g := Tile.resetUntil) (fun x => ?_) s t n⟩
  dsimp only
  split <;> rfl

theorem bump (s : State) (key : Nat) : SameFaults s (s.bump key) := ⟨rfl, rfl, rfl, fun _ => rfl⟩

theorem queueRule : QueueRule SameFaults where
  refl := refl
  trans := trans
  high _ _ _ _ := ⟨rfl, rfl, rfl, fun _ => rfl⟩
  alert s bit h := of_noted (Noted.alert s bit) (Settled.alert s bit h).faults
  watch _ _ _ := ⟨rfl, rfl, rfl, fun _ => rfl⟩
  entries _ _ _ := ⟨rfl, rfl, rfl, fun _ => rfl⟩
  drawn _ := ⟨rfl, rfl, rfl, fun _ => rfl⟩
  requests _ _ := ⟨rfl, rfl, rfl, fun _ => rfl⟩
  modHbm _ _ := ⟨rfl, rfl, rfl, fun _ => rfl⟩
  modRing _ _ _ := ⟨rfl, rfl, rfl, fun _ => rfl⟩
  modLane _ _ _ := ⟨rfl, rfl, rfl, fun _ => rfl⟩
  setJob := setJob
  builds _ _ _ := ⟨rfl, rfl, rfl, fun _ => rfl⟩
  queue _ _ := ⟨rfl, rfl, rfl, fun _ => rfl⟩
  defaulted s _ := bump s _
  full s _ := bump s _
  flags _ := ⟨rfl, rfl, rfl, fun _ => rfl⟩

end SameFaults

/-- An upset counts itself (R501). -/
theorem State.upset_counts (s : State) (unit inst window : Nat) (detail : Bytes) :
    (s.upset unit inst window detail).num Obj.fltUpsets = satAdd 32 (s.num Obj.fltUpsets) 1 := by
  have hlog : ∀ (z : State) (kind count : Nat), SameNum Obj.fltUpsets z (z.logPut kind unit inst 0 count detail) := fun z kind count => by
    unfold State.logPut
    dsimp only
    split
    · rfl
    · split
      · exact (SameNum.bump z (by decide)).trans (.alert (by decide) _ (by decide))
      · split <;> rfl
  exact Eq.trans (hlog _ 1 _) (State.num_bump_same s _)

/-- A run abandoned is counted (R318). -/
theorem State.abandon_counts {u : State} {n b : Nat} {m : Matched} {c : Option Run} (again : Bool) (hn : n < 48)
    (hjob : (u.tile n).job b = .crop m c) :
    (u.abandon n b again).num (Obj.tileRunsAbandoned n) = satAdd 32 (u.num (Obj.tileRunsAbandoned n)) 1 := by
  have hrule := SameNum.queueRule (offArray_tileRunsAbandoned hn)
  have hcount : ((u.setJob n b .idle).bump (Obj.tileRunsAbandoned n)).num (Obj.tileRunsAbandoned n) =
      satAdd 32 (u.num (Obj.tileRunsAbandoned n)) 1 := State.num_bump_same _ _
  unfold State.abandon
  rw [hjob]
  dsimp only
  split
  · exact Eq.trans (hrule.arrive _ _) hcount
  · exact Eq.trans (hrule.defaultComet _ _ _) hcount

/-- The first upset of a brick: its run abandoned, the upset counted and kept in its window (R318, R503). -/
theorem State.brickUpset_settled {u t : State} {n b : Nat} {m : Matched} {c : Option Run} (h : Settled (u.brickUpset n b) t)
    (hlive : u.tileLive n = true) (hjob : (u.tile n).job b = .crop m c) (hmap : bitOf (u.tile n).map b = true)
    (htile : (u.tile n).resetUntil ≤ u.clk) (hregion : u.inReset (n / 4) = false)
    (hfirst : u.ctl.faults.times Unit.brick (8 * n + b) = []) :
    t.num (Obj.tileRunsAbandoned n) = satAdd 32 (u.num (Obj.tileRunsAbandoned n)) 1 ∧
      t.num Obj.fltUpsets = satAdd 32 (u.num Obj.fltUpsets) 1 ∧ t.ctl.faults.times Unit.brick (8 * n + b) = [u.clk] := by
  have hn := State.tileLive_lt hlive
  have habandoned := offArray_tileRunsAbandoned hn
  have hbumps : ∀ z : State, SameNum Obj.fltUpsets z (z.bump (Obj.tileRunsAbandoned n)) := fun z =>
    .bump z (by unfold Obj.fltUpsets Obj.tileRunsAbandoned objKey; omega)
  have hcount := State.abandon_counts true hn hjob
  have hupsets : SameNum Obj.fltUpsets u (u.abandon n b true) := (SameNum.queueRule offArray_fltUpsets).abandon u n b true hbumps
  have hsame : SameFaults u (u.abandon n b true) := SameFaults.queueRule.abandon u n b true (fun z => .bump z _)
  unfold State.brickUpset at h
  rw [if_pos ⟨hlive, by rw [hjob]; exact BrickJob.noConfusion, hmap⟩] at h
  generalize u.abandon n b true = a at h hcount hupsets hsame
  have htimes : a.ctl.faults.times Unit.brick (8 * n + b) = [] := by rw [hsame.faults]; exact hfirst
  have hupset : a.tileUpset n Unit.brick (8 * n + b) 10000000000 3 (fun z => z.retireBrick n b) =
      a.upset Unit.brick (8 * n + b) 10000000000 [] := by
    unfold State.tileUpset
    have hin : a.inReset (n / 4) = u.inReset (n / 4) := by
      unfold State.inReset State.region
      rw [hsame.clk, hsame.regions]
    rw [if_neg (by rw [hsame.clk, hsame.resets, hin, hregion]; simp; omega)]
    dsimp only
    rw [State.overThreshold_first _ _ (by decide) htimes]
    rfl
  rw [hupset] at h
  have hunits := fun z : State => Settled.giveUnits z
  have hfault : SameNum.NoFault (Obj.tileRunsAbandoned n) := by
    have hall : ∀ n < 48, SameNum.NoFault (Obj.tileRunsAbandoned n) := by decide
    exact hall n hn
  refine ⟨?_, ?_, ?_⟩
  · rw [h.num habandoned.own, (hunits _).num habandoned.own, SameNum.upset hfault a]
    exact hcount
  · rw [h.num (by decide), (hunits _).num (by decide), ← hupsets]
    exact State.upset_counts a _ _ _ _
  · rw [h.faults, (hunits _).faults, State.upset_times, htimes, hsame.clk]
    rfl

/-! ## Resets of tiles and regions -/

theorem State.sramError_corrected {u : State} {n : Nat} (slot : Nat) (hlive : u.tileLive n = true) :
    u.sramError n true slot = u.bump (Obj.tileSramCorrected n) := by
  unfold State.sramError
  rw [if_pos hlive, if_pos rfl]

/-- None of the objects that retirements of tiles and regions write. -/
theorem tileResetObjects : ∀ n < 48, SameNum.NoFault (Obj.tileResets n) ∧ ∀ r < 12, Obj.tileResets n ≠ Obj.regRetireCause r := by decide

section TileReset

variable {n : Nat} (hn : n < 48)
include hn

theorem SameNum.abandonTile_resets (z : State) : SameNum (Obj.tileResets n) z (z.abandonTile n true) :=
  (SameNum.queueRule (offArray_tileResets hn)).abandonTile z n true
    (fun y => .bump y (by unfold Obj.tileResets Obj.tileRunsAbandoned objKey; omega))

theorem SameNum.retireTile_resets (z : State) : SameNum (Obj.tileResets n) z (z.retireTile n) := by
  obtain ⟨hfault, hregion⟩ := tileResetObjects n hn
  have htile := (SameNum.retire hfault z Unit.tile n 0 []).trans (SameNum.abandonTile_resets hn _)
  have hcause : Obj.tileResets n ≠ Obj.regRetireCause (n / 4) := hregion (n / 4) (by omega)
  unfold State.retireTile
  dsimp only
  split
  · exact htile.trans (.retireRegion hfault _ _ _ hcause)
  · exact htile

theorem SameNum.tileUpset_resets (z : State) :
    SameNum (Obj.tileResets n) z (z.tileUpset n Unit.tile n 60000000000 4 (fun a => a.retireTile n)) := by
  have hcounted := SameNum.upset (tileResetObjects n hn).1 z Unit.tile n 60000000000 []
  exact .ite (.refl z) (.ite (hcounted.trans (SameNum.retireTile_resets hn _)) hcounted)

end TileReset

/-- A tile reset is counted, whatever it abandons and retires (R10, R503). -/
theorem State.tileReset_counts {u : State} {n : Nat} (hlive : u.tileLive n = true) :
    (u.tileReset n).num (Obj.tileResets n) = satAdd 32 (u.num (Obj.tileResets n)) 1 := by
  have hn := State.tileLive_lt hlive
  have hreset := (SameNum.abandonTile_resets hn (u.bump (Obj.tileResets n))).trans (.tileUpset_resets hn _)
  unfold State.tileReset
  rw [if_pos hlive]
  dsimp only
  generalize State.tileUpset _ n _ _ _ _ _ = z at hreset ⊢
  have hgiven := (SameNum.brickRule (offArray_tileResets hn).low (offArray_tileResets hn).own).giveUnits
    (z.modTile n (fun x => { x with resetUntil := u.clk + 2000 }))
  exact Eq.trans (Eq.trans hgiven hreset) (State.num_bump_same u _)

/-- Region `n` is in reset until a clock, and waits for its table copy after it. -/
def State.resetting (n clk : Nat) (s : State) : Prop := (s.region n).resetUntil = clk ∧ (s.region n).awaiting = true

theorem State.resetting_modRegion {n clk : Nat} {s : State} (h : s.resetting n clk) {k : Nat} {f : Region → Region}
    (hf : ∀ g, (f g).resetUntil = g.resetUntil ∧ (f g).awaiting = g.awaiting) : (s.modRegion k f).resetting n clk := by
  unfold State.resetting State.region State.modRegion at *
  simp only [List.getD_eq_getElem?_getD, List.getElem?_modify] at *
  cases hg : s.regions[n]? with
  | none => rw [hg] at h; exact h
  | some g =>
    rw [hg] at h
    by_cases hn : k = n
    · simpa [hn, hf] using h
    · simpa [hn] using h

theorem State.resetting_of_regions {n clk : Nat} {a b : State} (h : a.resetting n clk) (hr : b.regions = a.regions) : b.resetting n clk := by
  unfold State.resetting State.region at *
  rw [hr]
  exact h

theorem viewOfPort_lt {s : State} {p v : Nat} (h : s.viewOfPort p = some v) : v < 4 := by
  unfold State.viewOfPort viewOfPortBy at h
  exact List.mem_range.mp (List.mem_of_find?_eq_some h)

theorem regResetObjects : ∀ n < 12, SameNum.NoFault (Obj.regResets n) ∧ Obj.regResets n ≠ Obj.regRetireCause n := by decide

theorem State.regionLive_lt {u : State} {n : Nat} (h : u.regionLive n = true) : n < 12 := by
  unfold State.regionLive at h
  simp only [Bool.and_eq_true, decide_eq_true_eq] at h
  have hregions := Part.regions_le u.ctl.part
  omega

/-- Region `n` is in reset until a clock, counted. -/
def State.resetTo (n clk count : Nat) (s : State) : Prop := s.resetting n clk ∧ s.num (Obj.regResets n) = count

section Reset

variable {n clk count : Nat} (hn : n < 12)
include hn

theorem State.resetTo_closeSlice {s : State} (h : s.resetTo n clk count) :
    (match s.viewOfPort n with | some v => s.closeSlice v n | none => s).resetTo n clk count := by
  split
  · rename_i v hv
    have hclosed : Settled s (s.closeSlice v n) := Settled.forceClose s v (viewOfPort_lt hv) _ _
    exact ⟨State.resetting_of_regions h.1 (congrArg State.regions hclosed.same :), (hclosed.num (regResetObjects n hn).1.1).trans h.2⟩
  · exact h

theorem State.resetTo_retirePort {s : State} (h : s.resetTo n clk count) (p : Prop) [Decidable p] :
    (if p then s.retirePort n 2 else s).resetTo n clk count := by
  obtain ⟨hfault, hcause⟩ := regResetObjects n hn
  have hnoted : ∀ {a b : State}, Noted a b → a.resetting n clk → b.resetting n clk := fun hab ha =>
    State.resetting_of_regions ha (congrArg State.regions hab.rest :)
  have hregion : ∀ z : State, z.resetting n clk → (z.retireRegion n 2).resetting n clk := fun z hz => by
    unfold State.retireRegion
    split
    · exact hz
    · exact State.resetting_modRegion (hnoted ((Noted.retire z Unit.region n 2 []).trans (Noted.keepOwn _ _ _)) hz)
        (f := fun g => { g with state := 2 }) (fun _ => by exact ⟨rfl, rfl⟩)
  have hregs : ∀ (z : State), z.resetting n clk → (z.sendReg n).resetting n clk := fun z hz => by
    unfold State.sendReg
    split
    · exact hz
    · split
      · exact hz
      · exact hz
  split
  · refine ⟨?_, Eq.trans (SameNum.retirePort hfault s n 2 hcause) h.2⟩
    unfold State.retirePort
    split
    · exact h.1
    · have hretired := hnoted (Noted.retire s Unit.port n 0 []) h.1
      exact hregion _ (hregs _ hretired)
  · exact h

end Reset

/-- A region's reset: counted, for 50 µs from now on, and until the region has its table copy again (R11, R503). -/
theorem State.regionReset_resets {u : State} {n : Nat} (hlive : u.regionLive n = true) (hlen : n < u.regions.length) :
    (u.regionReset n).resetTo n (u.clk + 50000) (satAdd 32 (u.num (Obj.regResets n)) 1) := by
  have hn := State.regionLive_lt hlive
  obtain ⟨hfault, hcause⟩ := regResetObjects n hn
  unfold State.regionReset
  rw [if_pos hlive]
  dsimp only
  generalize hz : (if u.inReset n = true then u else u.upset Unit.region n 60000000000 []) = z
  have hupset : SameNum (Obj.regResets n) u z ∧ z.regions = u.regions := by
    rw [← hz]
    refine ⟨.ite (.refl u) (.upset hfault u _ _ _ _), ?_⟩
    split
    · rfl
    · exact (congrArg State.regions (Noted.upset u _ _ _ _).rest :)
  have hstart : ((z.bump (Obj.regResets n)).modRegion n (fun g => g.cleared u.clk)).resetTo n (u.clk + 50000)
      (satAdd 32 (u.num (Obj.regResets n)) 1) := by
    refine ⟨?_, Eq.trans (State.num_bump_same z _) (by rw [hupset.1])⟩
    have hcleared : ((z.bump (Obj.regResets n)).modRegion n (fun g => g.cleared u.clk)).region n = (z.region n).cleared u.clk := by
      unfold State.region State.modRegion
      dsimp only
      rw [← hupset.2] at hlen
      rw [getD_of_lt _ _ (by simpa [State.bump, State.bumpBy, State.putNum, State.putVal] using hlen), getD_of_lt _ _ hlen]
      exact List.getElem_modify_eq _ _ _ _
    exact ⟨congrArg Region.resetUntil hcleared, congrArg Region.awaiting hcleared⟩
  refine State.resetTo_retirePort hn (State.resetTo_closeSlice hn ?_) _
  split
  · exact ⟨State.resetting_of_regions (State.resetting_modRegion hstart.1 (fun _ => by exact ⟨rfl, rfl⟩)) rfl, hstart.2⟩
  · exact hstart

theorem State.resetTo_settled {a t : State} {n clk count : Nat} (hn : n < 12) (h : a.resetTo n clk count) (k : Settled a t) :
    t.resetTo n clk count :=
  ⟨State.resetting_of_regions h.1 (congrArg State.regions k.same :), (k.num (regResetObjects n hn).1.1).trans h.2⟩

/-- Settles O45: the upset after what the abandoned run leaves, and the resets' numbers through what they close and retire. -/
theorem upsetsAndResets : Obligations.UpsetsAndResets := by
  intro dt n s
  refine fun hruns => ⟨fun b m c _ hlive hjob hmap htile hregion hfirst => ?_, fun slot hlive => ?_, fun hlive => ?_, fun hlive hlen => ?_⟩
  · exact State.run_completes (exec_brickUpset s dt n b) hruns
      (fun t h _ _ => State.brickUpset_settled h hlive hjob hmap htile hregion hfirst)
  · exact State.run_settled (exec_sramError s dt n true slot) hruns (State.sramError_corrected slot hlive)
  · refine State.run_completes (exec_tileReset s dt n) hruns (fun t h _ _ => ?_)
    exact (h.num (offArray_tileResets (State.tileLive_lt hlive)).own).trans (State.tileReset_counts hlive)
  · refine State.run_completes (exec_regionReset s dt n) hruns (fun t h _ _ => ?_)
    obtain ⟨⟨huntil, hawaiting⟩, hcount⟩ :=
      State.resetTo_settled (State.regionLive_lt hlive) (State.regionReset_resets hlive hlen) h
    exact ⟨huntil, hawaiting, hcount⟩

end Sys2Proof.Machine
end

section
/-! PROOFS. Comets dispatched, run and defaulted (O44). -/

namespace Sys2Proof.Machine

/-! ## A brick's work -/

theorem State.job_setJob_same {s : State} {t b : Nat} (ht : t < s.tiles.length) (hb : b < (s.tile t).jobs.length) (j : BrickJob) :
    ((s.setJob t b j).tile t).job b = j := by
  have hjobs : ((s.setJob t b j).tile t).jobs = (s.tile t).jobs.set b j := by
    unfold State.setJob State.modTile State.tile
    dsimp only
    rw [getD_of_lt _ _ (by simpa using ht), getD_of_lt _ _ ht, List.getElem_modify_eq]
    split <;> rfl
  unfold Tile.job
  rw [hjobs, getD_of_lt _ _ (by simpa using hb), List.getElem_set_self]

/-- A brick that works on something is one of a tile that the module has. -/
theorem State.job_lt {s : State} {t b : Nat} {j : BrickJob} (h : (s.tile t).job b = j) (hj : j ≠ .idle) :
    t < s.tiles.length ∧ b < (s.tile t).jobs.length := by
  have hb : b < (s.tile t).jobs.length := by
    refine Classical.byContradiction fun hlt => ?_
    exact hj (h.symm.trans (getD_of_length_le _ _ (Nat.not_lt.mp hlt)))
  refine ⟨?_, hb⟩
  refine Classical.byContradiction fun hlt => ?_
  have hreset : s.tile t = Tile.reset := getD_of_length_le _ _ (Nat.not_lt.mp hlt)
  have hidle : ∀ b, Tile.reset.job b = .idle := fun b => by
    simp only [Tile.job, Tile.reset, List.getD_eq_getElem?_getD, List.getElem?_replicate]
    split <;> rfl
  exact hj (h.symm.trans (by rw [hreset, hidle]))

theorem Settled.dispatchQueue {a t : State} (h : Settled a t) : t.dispatchQueue = a.dispatchQueue :=
  (congrArg State.dispatchQueue h.same :)

/-! ## The dispatcher -/

section Dispatch

variable {u : State} {m : Matched} {rest : List Matched} {tr : Track} (hqueue : u.dispatchQueue = m :: rest)
  (hcomet : u.cometOf m.comet = some tr)

include hqueue hcomet

/-- The head of the queue on its brick (R315). -/
theorem State.dispatch_places {q : Nat × Nat} (hplace : u.placeFor m (u.cometRegion m.view tr.comet) = some q)
    (htime : u.inTime m (decide (6 ≤ q.1 / 4)) = true) :
    u.dispatch = (State.placeOn { u with dispatchQueue := rest } m q.1 q.2).giveUnits := by
  unfold State.dispatch
  rw [hqueue]
  dsimp only
  rw [hcomet]
  dsimp only
  rw [hplace]
  exact if_pos htime

/-- The head of the queue takes its default where its estimate is too late (R316). -/
theorem State.dispatch_defaults (hplace : u.placeFor m (u.cometRegion m.view tr.comet) = none)
    (htime : u.inTime m (decide (6 ≤ u.cometRegion m.view tr.comet)) = false) :
    u.dispatch = State.defaultComet { u with dispatchQueue := rest } m.view m.comet := by
  unfold State.dispatch
  rw [hqueue]
  dsimp only
  rw [hcomet]
  dsimp only
  rw [hplace]
  exact if_neg (by rw [htime]; exact Bool.false_ne_true)

end Dispatch

theorem State.placeOn_placed {s : State} {m : Matched} {t b : Nat} (ht : t < s.tiles.length) (hb : b < (s.tile t).jobs.length) :
    ((s.placeOn m t b).tile t).job b = .crop m none ∧ (s.placeOn m t b).dispatchQueue = s.dispatchQueue := by
  have hset : ∀ z : State, z.tiles = s.tiles → z.dispatchQueue = s.dispatchQueue →
      (((z.bumpIf m.retried (Obj.viewRetried m.view)).setJob t b (.crop m none)).tile t).job b = .crop m none ∧
      ((z.bumpIf m.retried (Obj.viewRetried m.view)).setJob t b (.crop m none)).dispatchQueue = s.dispatchQueue := fun z hz hq => by
    have hcounted : (z.bumpIf m.retried (Obj.viewRetried m.view)).tiles = s.tiles ∧
        (z.bumpIf m.retried (Obj.viewRetried m.view)).dispatchQueue = s.dispatchQueue := by
      unfold State.bumpIf
      split <;> exact ⟨hz, hq⟩
    refine ⟨State.job_setJob_same ?_ ?_ _, hcounted.2⟩
    · rw [hcounted.1]; exact ht
    · unfold State.tile; rw [hcounted.1]; exact hb
  unfold State.placeOn
  dsimp only
  split
  · exact hset _ rfl rfl
  · exact hset _ rfl rfl

/-! ## Crops -/

/-- `b` has the tiles of `a`. -/
def SameTiles (a b : State) : Prop := b.tiles = a.tiles

namespace SameTiles

theorem trackerRule : TrackerRule SameTiles where
  refl _ := rfl
  trans h k := Eq.trans k h
  high _ _ _ _ := rfl
  alert s bit _ := (congrArg State.tiles (Noted.alert s bit).rest :)
  watch _ _ _ := rfl
  entries _ _ _ := rfl
  drawn _ := rfl
  requests _ _ := rfl
  modHbm _ _ := rfl
  modRing _ _ _ := rfl
  modLane _ _ _ := rfl

theorem cropRead (s : State) (v width : Nat) (w : Nat × Nat × Nat × Nat) : SameTiles s (s.cropRead v width w) := by
  have hfailed : ∀ (z : State) (l : List Nat), SameTiles z (z.hbmFailed 1 l).1 := fun z l => by
    unfold State.hbmFailed
    dsimp only
    split <;> rfl
  exact trackerRule.fold (fun z _ => trackerRule.trans (trackerRule.hbmTouch z 1 _) (hfailed _ _)) _ s

theorem keepCrop (s : State) (v id : Nat) (b : Bytes) : SameTiles s (s.keepCrop v id b) := by
  unfold State.keepCrop
  dsimp only
  split
  · exact trackerRule.trans (trackerRule.ringRecord s _ _) rfl
  · exact trackerRule.ringRecord s _ _

end SameTiles

/-- A run that has just started on a brick. -/
def State.starts (t b : Nat) (m : Matched) (clk : Nat) (s : State) : Prop :=
  ∃ run, (s.tile t).job b = .crop m (some run) ∧ run.tenths = 0 ∧ run.since = clk

/-- The window read, the run starts (R311). -/
theorem State.cropFetch_starts {u : State} {k b : Nat} {m : Matched} {tr : Track} (hjob : (u.tile k).job b = .crop m none)
    (hcomet : u.cometOf m.comet = some tr)
    (hlines : ∀ n, n < (cropWindow tr.comet (u.param tr.comet.epoch (Obj.viewCropMargin m.view)) (u.geometry tr.comet.epoch m.view).width).2.2.2 →
      2 ≤ u.lineSlot m.view (((cropWindow tr.comet (u.param tr.comet.epoch (Obj.viewCropMargin m.view))
        (u.geometry tr.comet.epoch m.view).width).2.2.1 + n) % wrap32)) :
    (u.cropFetch k b).starts k b m u.clk := by
  obtain ⟨hk, hb⟩ := State.job_lt hjob BrickJob.noConfusion
  unfold State.cropFetch
  rw [hjob]
  dsimp only
  rw [hcomet]
  dsimp only
  generalize cropWindow tr.comet _ _ = w at hlines ⊢
  have hslots : ∀ r ∈ (List.range w.2.2.2).map (fun k => (w.2.2.1 + k) % wrap32), 2 ≤ u.lineSlot m.view r := fun r hr => by
    obtain ⟨n, hn, rfl⟩ := List.mem_map.mp hr
    exact hlines n (List.mem_range.mp hn)
  generalize (List.range w.2.2.2).map (fun k => (w.2.2.1 + k) % wrap32) = l at hslots ⊢
  have hplaced : ¬ (l.any (fun r => u.lineSlot m.view r = 0 && !u.lineToCome m.view r)) = true := fun h => by
    obtain ⟨r, hr, hslot⟩ := List.any_eq_true.mp h
    have hfull := hslots r hr
    simp only [Bool.and_eq_true, decide_eq_true_eq] at hslot
    omega
  have hfull : ¬ (l.any (fun r => decide (u.lineSlot m.view r ≤ 1))) = true := fun h => by
    obtain ⟨r, hr, hslot⟩ := List.any_eq_true.mp h
    have hfull := hslots r hr
    simp only [decide_eq_true_eq] at hslot
    omega
  rw [if_neg hplaced, if_neg hfull]
  generalize hz : (if u.param tr.comet.epoch (Obj.viewCropKeep m.view) ≠ 0 then State.keepCrop _ m.view m.comet _ else u.cropRead m.view _ w) = z
  have htiles : SameTiles u z := by
    rw [← hz]
    split
    · exact SameTiles.trackerRule.trans (SameTiles.cropRead u _ _ _) (SameTiles.keepCrop _ _ _ _)
    · exact SameTiles.cropRead u _ _ _
  have htile : z.tile k = u.tile k := by unfold State.tile; rw [htiles]
  exact ⟨_, Eq.trans (State.tile_modTile (g := fun x => x.job b) (fun _ => by rfl) _ k k)
    (State.job_setJob_same (by rw [htiles]; exact hk) (by rw [htile]; exact hb) _), rfl, rfl⟩

theorem State.starts_settled {a t : State} {k b clk : Nat} {m : Matched} (h : a.starts k b m clk) (s : Settled a t) : t.starts k b m clk := by
  obtain ⟨run, hjob, hnew⟩ := h
  exact ⟨run, (s.jobs k b (by rw [hjob]; exact BrickJob.noConfusion)).trans hjob, hnew⟩

/-! ## The end of a run -/

theorem State.runEnd_early {u : State} {k b : Nat} {m : Matched} {run : Run} (hjob : (u.tile k).job b = .crop m (some run))
    (hearly : u.runTenths k run < 10 * (u.slot m.slot).cycles) : u.runEnd k b = u := by
  unfold State.runEnd
  rw [hjob]
  exact if_pos hearly

/-- None of the counts of the runs and the dispositions is another's, and the tracker writes neither. -/
theorem runObjects : (∀ k < 48, Obj.tileRuns k < 0x600000 ∧ ownStatus (Obj.tileRuns k) = false ∧ Obj.tileRuns k ≠ Obj.fltBridgeEjectOverflow) ∧
    ∀ v < 4, Obj.viewModelDone v < 0x600000 ∧ ownStatus (Obj.viewModelDone v) = false ∧ Obj.viewModelDone v ≠ Obj.fltBridgeEjectOverflow := by
  decide

theorem tileRuns_ne_viewModelDone (k v : Nat) : Obj.tileRuns k ≠ Obj.viewModelDone v := by
  unfold Obj.tileRuns Obj.viewModelDone objKey
  omega

theorem SameNum.ejectTraffic {key : Nat} (hown : ownStatus key = false) (hkey : key ≠ Obj.fltBridgeEjectOverflow) (s : State) (n : Nat) :
    SameNum key s (s.ejectTraffic n) := by
  unfold State.ejectTraffic
  dsimp only
  generalize (if s.bridge.window = s.clk / 1000000 then s.bridge.bytes else 0) + n = bytes
  generalize hz : ({ s with bridge := _ } : State) = z
  have hsame : SameNum key s z := by rw [← hz]; rfl
  split
  · exact hsame.trans ((SameNum.bump z hkey).trans (.alert hown _ (by decide)))
  · exact hsame

/-- A run that ends in time is counted, and so is its disposition (R301, R317). -/
theorem State.runEnd_counts {u : State} {k b : Nat} {m : Matched} {run : Run} {tr : Track} (hk : k < 48) (hv : m.view < 4)
    (hjob : (u.tile k).job b = .crop m (some run)) (hcomet : u.cometOf m.comet = some tr)
    (hdone : 10 * (u.slot m.slot).cycles ≤ u.runTenths k run) (htime : diff32 u.shortNow m.tDec < 0) :
    (u.runEnd k b).num (Obj.tileRuns k) = satAdd 32 (u.num (Obj.tileRuns k)) 1 ∧
    (u.runEnd k b).num (Obj.viewModelDone m.view) = satAdd 32 (u.num (Obj.viewModelDone m.view)) 1 := by
  obtain ⟨hlow, hown, hbridge⟩ := runObjects.1 k hk
  obtain ⟨hlowv, hownv, hbridgev⟩ := runObjects.2 m.view hv
  have hother := tileRuns_ne_viewModelDone k m.view
  unfold State.runEnd
  rw [hjob]
  dsimp only
  rw [if_neg (Nat.not_lt.mpr hdone)]
  generalize hz : ((u.setJob k b .idle).bump (Obj.tileRuns k)).modTile k _ = z
  have hcounts : z.num (Obj.tileRuns k) = satAdd 32 (u.num (Obj.tileRuns k)) 1 ∧ SameNum (Obj.viewModelDone m.view) u z := by
    rw [← hz]
    exact ⟨State.num_bump_same (u.setJob k b .idle) _, SameNum.bump (u.setJob k b .idle) hother.symm⟩
  have hfound : z.cometOf m.comet = some tr := by rw [← hz]; exact hcomet
  rw [hfound]
  dsimp only
  rw [if_pos htime]
  generalize hy : (if 24 ≤ k then z.ejectTraffic 16 else z) = y
  have hmoved : SameNum (Obj.tileRuns k) z y ∧ SameNum (Obj.viewModelDone m.view) z y := by
    rw [← hy]
    exact ⟨.ite (.ejectTraffic hown hbridge z 16) (.refl z), .ite (.ejectTraffic hownv hbridgev z 16) (.refl z)⟩
  have hdisposed : ∀ key, key < 0x600000 → ownStatus key = false → ∀ (x : State) (v id a d f : Nat), SameNum key x (x.disposeComet v id a d f) :=
    fun key hl ho x => (SameNum.trackerRule hl ho).disposeComet x
  generalize hx : (State.editComet y m.comet _).bump (Obj.viewModelDone m.view) = x
  have hx' : SameNum (Obj.tileRuns k) y x ∧ x.num (Obj.viewModelDone m.view) = satAdd 32 (y.num (Obj.viewModelDone m.view)) 1 := by
    rw [← hx]
    exact ⟨SameNum.bump (y.editComet _ _) hother, State.num_bump_same (y.editComet _ _) _⟩
  have hruns : SameNum (Obj.tileRuns k) z x := hmoved.1.trans hx'.1
  have hmodel : x.num (Obj.viewModelDone m.view) = satAdd 32 (u.num (Obj.viewModelDone m.view)) 1 := by
    rw [hx'.2, hmoved.2, hcounts.2]
  split
  · exact ⟨Eq.trans ((hruns.trans (hdisposed _ hlow hown _ _ _ _ _ _)).trans ((Settled.giveUnits _).num hown)) hcounts.1,
      Eq.trans ((hdisposed _ hlowv hownv x _ _ _ _ _).trans ((Settled.giveUnits _).num hownv)) hmodel⟩
  · exact ⟨Eq.trans ((hruns.trans (hdisposed _ hlow hown _ _ _ _ _ _)).trans ((Settled.giveUnits _).num hown)) hcounts.1,
      Eq.trans ((hdisposed _ hlowv hownv x _ _ _ _ _).trans ((Settled.giveUnits _).num hownv)) hmodel⟩

/-! ## A decision time that passes -/

/-- `b` has the dispatcher's queue of `a`. -/
def SameQueue (a b : State) : Prop := b.dispatchQueue = a.dispatchQueue

theorem SameQueue.trackerRule : TrackerRule SameQueue where
  refl _ := rfl
  trans h k := Eq.trans k h
  high _ _ _ _ := rfl
  alert s bit h := (Settled.alert s bit h).dispatchQueue
  watch _ _ _ := rfl
  entries _ _ _ := rfl
  drawn _ := rfl
  requests _ _ := rfl
  modHbm _ _ := rfl
  modRing _ _ _ := rfl
  modLane _ _ _ := rfl

theorem viewDefaultedObjects : ∀ v < 4, Obj.viewDefaulted v < 0x600000 ∧ ownStatus (Obj.viewDefaulted v) = false := by decide

/-- A comet that awaits its disposition takes its default: counted, and out of the queue (R314). -/
theorem State.defaultComet_awaiting {s : State} {v id : Nat} {tr : Track} (hv : v < 4) (hcomet : s.cometOf id = some tr)
    (hawaiting : tr.awaiting = true) :
    (s.defaultComet v id).num (Obj.viewDefaulted v) = satAdd 32 (s.num (Obj.viewDefaulted v)) 1 ∧
    (s.defaultComet v id).dispatchQueue = s.dispatchQueue.filter (fun m => m.comet ≠ id) := by
  obtain ⟨hlow, hown⟩ := viewDefaultedObjects v hv
  unfold State.defaultComet
  rw [hcomet]
  dsimp only
  rw [if_pos hawaiting]
  generalize hz : State.bump _ (Obj.viewDefaulted v) = z
  have hcount : z.num (Obj.viewDefaulted v) = satAdd 32 (s.num (Obj.viewDefaulted v)) 1 ∧
      z.dispatchQueue = s.dispatchQueue.filter (fun m => m.comet ≠ id) := by
    rw [← hz]
    exact ⟨State.num_bump_same { s with dispatchQueue := s.dispatchQueue.filter (fun m => m.comet ≠ id) } _, rfl⟩
  exact ⟨Eq.trans ((SameNum.trackerRule hlow hown).disposeComet z _ _ _ _ _) hcount.1,
    Eq.trans (SameQueue.trackerRule.disposeComet z _ _ _ _ _) hcount.2⟩

/-- A decision time that has passed (R314). -/
theorem State.tDecExpiry_defaults {u : State} {id : Nat} {tr : Track} (hv : tr.view < 4) (hcomet : u.cometOf id = some tr)
    (hawaiting : tr.awaiting = true) (hdue : 0 ≤ diff32 u.shortNow tr.tDec) :
    (u.tDecExpiry id).num (Obj.viewDefaulted tr.view) = satAdd 32 (u.num (Obj.viewDefaulted tr.view)) 1 ∧
    ∀ m ∈ (u.tDecExpiry id).dispatchQueue, m.comet ≠ id := by
  have hown := (viewDefaultedObjects tr.view hv).2
  have hother : ∀ t, Obj.viewDefaulted tr.view ≠ Obj.tileRunsAbandoned t := fun t => by
    unfold Obj.viewDefaulted Obj.tileRunsAbandoned objKey
    omega
  have hdefault : ∀ z : State, SameNum (Obj.viewDefaulted tr.view) u z → z.cometOf id = some tr →
      ((z.defaultComet tr.view id).giveUnits).num (Obj.viewDefaulted tr.view) = satAdd 32 (u.num (Obj.viewDefaulted tr.view)) 1 ∧
      ∀ m ∈ ((z.defaultComet tr.view id).giveUnits).dispatchQueue, m.comet ≠ id := fun z hz hfound => by
    obtain ⟨hcount, hqueue⟩ := State.defaultComet_awaiting hv hfound hawaiting
    refine ⟨by rw [(Settled.giveUnits _).num hown, hcount, hz], fun m hm => ?_⟩
    rw [(Settled.giveUnits _).dispatchQueue, hqueue] at hm
    exact of_decide_eq_true (List.mem_filter.mp hm).2
  unfold State.tDecExpiry
  rw [hcomet]
  dsimp only
  rw [if_pos ⟨hawaiting, hdue⟩]
  split
  · rename_i q _
    exact hdefault _ (SameNum.bump (u.setJob q.1 q.2 .idle) (hother q.1)) hcomet
  · exact hdefault u rfl hcomet

/-! ## The statement -/

theorem State.dispatch_settled {u t : State} {m : Matched} {rest : List Matched} {tr : Track} {q : Nat × Nat} (h : Settled u.dispatch t)
    (hqueue : u.dispatchQueue = m :: rest) (hcomet : u.cometOf m.comet = some tr)
    (hplace : u.placeFor m (u.cometRegion m.view tr.comet) = some q) (htime : u.inTime m (decide (6 ≤ q.1 / 4)) = true)
    (hq : q.1 < u.tiles.length) (hb : q.2 < 8) (hjobs : (u.tile q.1).jobs.length = 8) :
    t.dispatchQueue = rest ∧ (t.tile q.1).job q.2 = .crop m none := by
  rw [State.dispatch_places hqueue hcomet hplace htime] at h
  obtain ⟨hjob, hrest⟩ := State.placeOn_placed (s := { u with dispatchQueue := rest }) (m := m) hq (hjobs ▸ hb : q.2 < (u.tile q.1).jobs.length)
  have hgiven := (Settled.giveUnits (State.placeOn { u with dispatchQueue := rest } m q.1 q.2)).trans h
  exact ⟨hgiven.dispatchQueue.trans hrest, (hgiven.jobs q.1 q.2 (by rw [hjob]; exact BrickJob.noConfusion)).trans hjob⟩

theorem State.runEnd_settled {u t : State} {k b : Nat} {m : Matched} {run : Run} {tr : Track} (h : Settled (u.runEnd k b) t) (hk : k < 48)
    (hv : m.view < 4) (hjob : (u.tile k).job b = .crop m (some run)) (hcomet : u.cometOf m.comet = some tr)
    (hdone : 10 * (u.slot m.slot).cycles ≤ u.runTenths k run) (htime : diff32 u.shortNow m.tDec < 0) :
    t.num (Obj.tileRuns k) = satAdd 32 (u.num (Obj.tileRuns k)) 1 ∧
      t.num (Obj.viewModelDone m.view) = satAdd 32 (u.num (Obj.viewModelDone m.view)) 1 := by
  obtain ⟨hruns, hmodel⟩ := State.runEnd_counts hk hv hjob hcomet hdone htime
  exact ⟨(h.num (runObjects.1 k hk).2.1).trans hruns, (h.num (runObjects.2 m.view hv).2.1).trans hmodel⟩

theorem State.tDecExpiry_settled {u t : State} {id : Nat} {tr : Track} (h : Settled (u.tDecExpiry id) t) (hv : tr.view < 4)
    (hcomet : u.cometOf id = some tr) (hawaiting : tr.awaiting = true) (hdue : 0 ≤ diff32 u.shortNow tr.tDec) :
    t.num (Obj.viewDefaulted tr.view) = satAdd 32 (u.num (Obj.viewDefaulted tr.view)) 1 ∧ ∀ m ∈ t.dispatchQueue, m.comet ≠ id := by
  obtain ⟨hcount, hqueue⟩ := State.tDecExpiry_defaults hv hcomet hawaiting hdue
  refine ⟨(h.num (viewDefaultedObjects tr.view hv).2).trans hcount, fun m hm => hqueue m ?_⟩
  rw [← h.dispatchQueue]
  exact hm

/-- Settles O44: a comet's way from the queue to its brick, its run and its disposition, one step after the other. -/
theorem cometsAreDispatched : Obligations.CometsAreDispatched := by
  intro dt s
  refine fun hruns => ⟨fun m rest tr hqueue hcomet => ⟨fun q hplace htime hq hb hjobs => ?_, fun hplace htime => ?_⟩,
    fun k b m tr hjob hcomet hlines => ?_, fun k b m run hjob hearly => ?_, fun k b m run tr hk hv hjob hcomet hdone htime => ?_,
    fun id tr hv hcomet hawaiting hdue => ?_⟩
  · exact State.run_completes (exec_dispatch s dt) hruns (fun t h _ _ => State.dispatch_settled h hqueue hcomet hplace htime hq hb hjobs)
  · exact State.run_settled (exec_dispatch s dt) hruns (State.dispatch_defaults hqueue hcomet hplace htime)
  · exact State.run_completes (exec_cropFetch s dt k b) hruns
      (fun t h _ _ => State.starts_settled (State.cropFetch_starts hjob hcomet hlines) h)
  · exact State.run_settled (exec_runEnd s dt k b) hruns (State.runEnd_early hjob hearly)
  · exact State.run_completes (exec_runEnd s dt k b) hruns (fun t h _ _ => State.runEnd_settled h hk hv hjob hcomet hdone htime)
  · exact State.run_completes (exec_tDecExpiry s dt id) hruns (fun t h _ _ => State.tDecExpiry_settled h hv hcomet hawaiting hdue)

end Sys2Proof.Machine
end

section
/-! PROOFS. Tables built, verified and kept (O43). -/

namespace Sys2Proof.Machine

/-! ## Cells of a table -/

theorem read_tablePut_same {t : Mem} (cell cls : Nat) (h : t.wf = true) : (Mem.read (tablePut t cell cls) (cell / 2)).toNat =
    (if cell % 2 = 0 then (Mem.read t (cell / 2)).toNat / 16 * 16 + cls else (Mem.read t (cell / 2)).toNat % 16 + 16 * cls) % 256 := by
  unfold tablePut
  rw [Mem.read_write_same _ h, BitVec.toNat_ofNat]

theorem tableClass_tablePut_same {t : Mem} {cell cls : Nat} (hc : cls < 16) (h : t.wf = true) : tableClass (tablePut t cell cls) cell = cls := by
  have hb : (Mem.read t (cell / 2)).toNat < 256 := (Mem.read t (cell / 2)).isLt
  unfold tableClass
  rw [read_tablePut_same cell cls h]
  generalize (Mem.read t (cell / 2)).toNat = b at hb ⊢
  rcases Nat.mod_two_eq_zero_or_one cell with hp | hp <;> simp [hp] <;> omega

theorem tableClass_tablePut_other {t : Mem} {cell cls c : Nat} (hc : cls < 16) (h : t.wf = true) (hne : c ≠ cell) :
    tableClass (tablePut t cell cls) c = tableClass t c := by
  unfold tableClass
  by_cases hbyte : c / 2 = cell / 2
  · have hb : (Mem.read t (cell / 2)).toNat < 256 := (Mem.read t (cell / 2)).isLt
    rw [hbyte, read_tablePut_same cell cls h]
    generalize (Mem.read t (cell / 2)).toNat = b at hb ⊢
    rcases Nat.mod_two_eq_zero_or_one cell with hp | hp <;> rcases Nat.mod_two_eq_zero_or_one c with hq | hq
    · omega
    · simp [hp, hq]; omega
    · simp [hp, hq]
    · omega
  · unfold tablePut
    rw [Mem.read_write_other _ hbyte]

theorem tablePut_wf {t : Mem} (cell cls : Nat) (h : t.wf = true) : (tablePut t cell cls).wf = true := Mem.write_wf _ _ h

/-! ## Units of a build -/

theorem State.view_lt_of_build {s : State} {v : Nat} {b : Build} (h : (s.view v).build = some b) : v < s.views.length := by
  refine Classical.byContradiction fun hlt => ?_
  have hreset : s.view v = View.reset := getD_of_length_le _ _ (Nat.not_lt.mp hlt)
  rw [hreset] at h
  cases h

/-- The units done of a view's build. -/
def State.unitsDone (s : State) (v : Nat) : Option Nat := (s.view v).build.map (fun c => c.unitsDone)

theorem Settled.unitsDone {a t : State} (h : Settled a t) (v : Nat) : t.unitsDone v = a.unitsDone v := by
  have hbuild := congrArg (fun w : View => w.build.map (fun c => c.unitsDone)) (h.view_unsettled v)
  simpa [View.unsettled, Option.map_map, Function.comp_def, State.unitsDone] using hbuild

theorem State.unitsDone_modBank (s : State) (v k n : Nat) (f : Bank → Bank) : (s.modBank v k f).unitsDone n = s.unitsDone n := by
  unfold State.unitsDone State.modBank State.modView State.view View.modBank
  simp only [List.getD_eq_getElem?_getD, List.getElem?_modify]
  cases s.views[n]? with
  | none => rfl
  | some x => by_cases hn : v = n <;> simp [hn]

/-- A unit computed counts (R266). -/
theorem State.buildUnitDone_counts {s : State} {v : Nat} {b : Build} (unit : Nat) (h : (s.view v).build = some b) :
    (s.buildUnitDone v unit).unitsDone v = some (b.unitsDone + 1) := by
  have hv := State.view_lt_of_build h
  unfold State.buildUnitDone
  rw [h]
  dsimp only
  generalize (rangeFrom (4096 * unit) 4096).foldl _ _ = t
  generalize hz : (s.modBank v b.bank (fun k => { k with table := t })).modView v
    (fun w => { w with build := some { b with unitsDone := b.unitsDone + 1 } }) = z
  have hcount : z.unitsDone v = some (b.unitsDone + 1) := by
    unfold State.unitsDone
    rw [← hz, State.view_modView_same (by simpa [State.modBank, State.modView] using hv)]
    rfl
  split
  · unfold State.bankLoaded
    rw [State.unitsDone_modBank]
    exact hcount
  · exact hcount

theorem buildUnitObjects : ∀ k < 48, ownStatus (Obj.tileBuildUnits k) = false := by decide

/-- A unit that completes on a brick counts for its build and for its tile (R266, R324). -/
theorem State.buildUnit_settled {u t : State} {v k n x : Nat} {b : Build} (h : Settled (u.buildUnit v k n) t) (hk : k < 48)
    (hb : (u.view v).build = some b) (hjob : (u.tile k).job n = .unit v x) :
    t.unitsDone v = some (b.unitsDone + 1) ∧ t.num (Obj.tileBuildUnits k) = satAdd 32 (u.num (Obj.tileBuildUnits k)) 1 := by
  unfold State.buildUnit at h
  rw [hjob] at h
  dsimp only at h
  rw [if_pos rfl] at h
  have hdone := State.buildUnitDone_counts (s := u.setJob k n .idle) x hb
  have hnum : SameNum (Obj.tileBuildUnits k) u ((u.setJob k n .idle).buildUnitDone v x) := by
    unfold State.buildUnitDone
    split
    · rfl
    · dsimp only
      split <;> rfl
  generalize (u.setJob k n .idle).buildUnitDone v x = z at h hdone hnum
  have hgiven := (Settled.giveUnits (z.bump (Obj.tileBuildUnits k))).trans h
  refine ⟨(hgiven.unitsDone v).trans hdone, ?_⟩
  rw [hgiven.num (buildUnitObjects k hk), State.num_bump_same, hnum]

/-! ## A build that takes too long -/

theorem State.bank_modBank_same {s : State} {v k : Nat} (hv : v < s.views.length) (hk : k < (s.view v).banks.length) (f : Bank → Bank) :
    ((s.modBank v k f).view v).bank k = f ((s.view v).bank k) := by
  unfold State.modBank
  rw [State.view_modView_same hv]
  unfold View.modBank View.bank
  dsimp only
  rw [getD_of_lt _ _ (by simpa using hk), getD_of_lt _ _ hk, List.getElem_modify_eq]

theorem View.bank_lt {w : View} {k : Nat} (h : (w.bank k).state ≠ BankState.empty) : k < w.banks.length := by
  refine Classical.byContradiction fun hlt => ?_
  exact h (by rw [show w.bank k = Bank.reset from getD_of_length_le _ _ (Nat.not_lt.mp hlt)]; rfl)

theorem Settled.bank {a t : State} (h : Settled a t) (v k : Nat) : (t.view v).bank k = (a.view v).bank k :=
  (congrArg (fun w : View => w.bank k) (h.view_unsettled v) :)

theorem viewBuildObjects : ∀ v < 4, ownStatus (Obj.viewBuild v) = false := by decide

/-- 10 s without a whole table: the build is over, FAILED, and its bank is EMPTY (R267). -/
theorem State.buildTimeout_settled {u t : State} {v : Nat} {b : Build} (h : Settled (u.buildTimeout v) t) (hv : v < 4)
    (hb : (u.view v).build = some b) (hloading : ((u.view v).bank b.bank).state = BankState.loading)
    (hlong : b.startedAt + 10000000000 ≤ u.clk) :
    (t.view v).build = none ∧ (t.view v).bank b.bank = Bank.reset ∧ t.num (Obj.viewBuild v) = 3 := by
  have hlen := State.view_lt_of_build hb
  have hbank : b.bank < (u.view v).banks.length := View.bank_lt (by rw [hloading]; decide)
  unfold State.buildTimeout at h
  rw [hb] at h
  dsimp only at h
  rw [if_pos ⟨hloading, hlong⟩] at h
  have hended : u.endBuild v 1 = (((u.dropUnits v).modView v (fun w => { w with build := none })).putNum (Obj.viewBuild v) 3).completeResult
      (Obj.viewBuildResult v) (some u.ctl.staging.lastEpoch)
      (buildData 1 b.bank 0 ((u.view v).bank b.bank).crc ((u.clk - b.startedAt) / 1000) b.mask (classCells ((u.view v).bank b.bank).table)) := by
    unfold State.endBuild
    rw [hb]
    rfl
  rw [hended] at h
  generalize buildData _ _ _ _ _ _ _ = data at h
  generalize hz : ((u.dropUnits v).modView v (fun w => { w with build := none })).putNum (Obj.viewBuild v) 3 = z at h
  have hview : z.view v = { u.view v with build := none } := by
    rw [← hz]
    exact State.view_modView_same (u := u.dropUnits v) hlen _
  have hresult : Noted z (z.completeResult (Obj.viewBuildResult v) (some u.ctl.staging.lastEpoch) data) := Noted.completeResult z _ _ _
  have hnum := SameNum.completeResult (viewBuildObjects v hv) z (Obj.viewBuildResult v) (some u.ctl.staging.lastEpoch) data
  generalize z.completeResult _ _ _ = y at h hresult hnum
  have hviews : y.views = z.views := (congrArg State.views hresult.rest :)
  have hy : y.view v = { u.view v with build := none } := by unfold State.view at *; rw [hviews]; exact hview
  have hylen : v < y.views.length := by
    rw [hviews, ← hz]
    simpa [State.modView, State.dropUnits, State.putNum, State.putVal] using hlen
  refine ⟨?_, ?_, ?_⟩
  · have hunits : t.unitsDone v = none := by
      rw [h.unitsDone, State.unitsDone_modBank]
      unfold State.unitsDone
      rw [hy]
      rfl
    exact Option.map_eq_none_iff.mp hunits
  · rw [h.bank, State.bank_modBank_same hylen (by rw [hy]; exact hbank)]
  · rw [h.num (viewBuildObjects v hv)]
    refine Eq.trans (Eq.trans (b := y.num (Obj.viewBuild v)) rfl hnum) ?_
    rw [← hz]
    exact State.num_putNum_same _ _ _

/-! ## Copies verified -/

section Verify

variable {u : State} {v k : Nat} {mismatches : List (Nat × Nat)} (hwaits : u.copyWaits v = false)

include hwaits

/-- A bank loaded and not yet verified: its copies decide (R256). -/
theorem State.tableVerify_loaded (hstate : ((u.view v).bank k).state = BankState.verifying)
    (hnew : ((u.view v).bank k).verified = false) : u.tableVerify v k mismatches =
      u.verifyBank v k ((u.copyHolders v).filter (fun r => !u.retired Unit.region r && decide (2 ≤ (assoc mismatches r).getD 0))) := by
  unfold State.tableVerify
  dsimp only
  have hdown : (u.portsOfView v).filter (fun r => (decide (((u.view v).bank k).state = BankState.active) ||
      decide (((u.view v).bank k).state = BankState.armed) || decide (((u.view v).bank k).state = BankState.eligible)) &&
      (u.region r).awaiting && !((u.view v).bank k).lacks.contains r && decide (0 < (assoc mismatches r).getD 0)) = [] := by
    refine List.filter_eq_nil_iff.mpr (fun r _ => ?_)
    rw [hstate]
    exact Bool.false_ne_true
  rw [hdown]
  dsimp only [List.foldl_nil]
  refine (if_neg (by rw [hwaits]; exact Bool.false_ne_true)).trans ((if_pos hstate).trans ?_)
  rw [hnew]
  rfl

/-- A bank in use: the joining regions get theirs, and none that is down mismatches (R262, R263). -/
theorem State.tableVerify_active (hstate : ((u.view v).bank k).state = BankState.active)
    (hlacks : ((u.view v).bank k).lacks.filter (fun r => decide (2 ≤ (assoc mismatches r).getD 0)) = [])
    (hdown : ∀ r ∈ u.portsOfView v, (u.region r).awaiting = true → (assoc mismatches r).getD 0 = 0) :
    u.tableVerify v k mismatches = u.modBank v k (fun b => { b with lacks := [] }) := by
  unfold State.tableVerify
  dsimp only
  have hnone : (u.portsOfView v).filter (fun r => (decide (((u.view v).bank k).state = BankState.active) ||
      decide (((u.view v).bank k).state = BankState.armed) || decide (((u.view v).bank k).state = BankState.eligible)) &&
      (u.region r).awaiting && !((u.view v).bank k).lacks.contains r && decide (0 < (assoc mismatches r).getD 0)) = [] := by
    refine List.filter_eq_nil_iff.mpr (fun r hr => ?_)
    by_cases ha : (u.region r).awaiting = true
    · simp [hdown r hr ha]
    · simp [ha]
  rw [hnone]
  dsimp only [List.foldl_nil]
  refine (if_neg (by rw [hwaits]; exact Bool.false_ne_true)).trans ((if_neg (by rw [hstate]; decide)).trans ((if_pos (.inl hstate)).trans ?_))
  rw [hlacks]
  exact if_pos rfl

end Verify

/-- Copies without a failure make the bank ELIGIBLE with the next VERSION (R256). -/
theorem State.verifyBank_eligible {u : State} {v k : Nat} (hnew : ((u.view v).bank k).verified = false) (hbuild : (u.view v).build = none) :
    u.verifyBank v k [] = (u.modBank v k (fun b => { b with
      state := BankState.eligible, version := nextVersionOf (u.view v).nextVersion, lacks := [], verified := true })).modView v
      (fun x => { x with nextVersion := nextVersionOf (u.view v).nextVersion }) := by
  unfold State.verifyBank
  dsimp only
  rw [hnew, hbuild, if_pos rfl]
  rfl

/-- A copy that failed twice leaves the bank FAILED, with an alert (R256). -/
theorem State.verifyBank_failed {u : State} {v k : Nat} {bad : List Nat} (hbuild : (u.view v).build = none) (hbad : bad ≠ []) :
    u.verifyBank v k bad = (u.modBank v k (fun b => { b with state := BankState.failed, lacks := [] })).copiesFail bad := by
  unfold State.verifyBank
  dsimp only
  rw [if_neg hbad, hbuild]
  exact if_neg Bool.false_ne_true

/-- `b` has the views of `a`, and TABLE stays among its alerts. -/
structure Alerted (a b : State) : Prop where
  views : b.views = a.views
  alert : bitOf (a.num Obj.alAlerts) Alert.table = true → bitOf (b.num Obj.alAlerts) Alert.table = true

theorem Alerted.trackerRule : TrackerRule Alerted where
  refl _ := ⟨rfl, id⟩
  trans h k := ⟨k.views.trans h.views, fun ha => k.alert (h.alert ha)⟩
  high s key v h := ⟨rfl, fun ha => by
    have hnum : (s.putVal key v).num Obj.alAlerts = s.num Obj.alAlerts := by
      unfold State.num State.val State.valIn
      rw [show Kv.get? (s.putVal key v).dict.inForce Obj.alAlerts = Kv.get? s.dict.inForce Obj.alAlerts from
        Kv.get?_put_other _ _ (Nat.ne_of_lt (Nat.lt_of_lt_of_le (by decide) h))]
      rfl
    rw [hnum]
    exact ha⟩
  alert s bit h := ⟨(congrArg State.views (Noted.alert s bit).rest :), fun ha => (Settled.alert s bit h).alerts _ ha⟩
  watch _ _ _ := ⟨rfl, id⟩
  entries _ _ _ := ⟨rfl, id⟩
  drawn _ := ⟨rfl, id⟩
  requests _ _ := ⟨rfl, id⟩
  modHbm _ _ := ⟨rfl, id⟩
  modRing _ _ _ := ⟨rfl, id⟩
  modLane _ _ _ := ⟨rfl, id⟩

theorem Alerted.tableReads (s : State) (v k : Nat) : Alerted s (s.tableReads v k) :=
  trackerRule.fold (fun z _ => TrackerRule.ite (trackerRule.hbmTouch z 6 _) (trackerRule.refl z)) _ s

theorem State.copiesFail_alerts {u : State} (bad : List Nat) (hop : u.ctl.mode.operating = true) :
    (u.copiesFail bad).views = u.views ∧ bitOf ((u.copiesFail bad).num Obj.alAlerts) Alert.table = true := by
  obtain ⟨hhalt, hstandby⟩ := operating_alerts hop
  have hbumps : ∀ (l : List Nat) (z : State), (l.foldl (fun acc r => acc.bump (Obj.regBankFails r)) z).views = z.views ∧
      (l.foldl (fun acc r => acc.bump (Obj.regBankFails r)) z).ctl = z.ctl := by
    intro l
    induction l with
    | nil => exact fun _ => ⟨rfl, rfl⟩
    | cons r l ih => exact fun z => ih _
  obtain ⟨hviews, hctl⟩ := hbumps bad u
  unfold State.copiesFail
  exact ⟨(congrArg State.views (Noted.alert _ _).rest :).trans hviews,
    State.alert_bit (by decide) (by rw [hctl]; exact hhalt) (by rw [hctl]; exact hstandby)⟩

theorem State.tableVerify_settled {u t : State} {v k : Nat} {bad : List Nat}
    (h : Settled (((u.modBank v k (fun b => { b with state := BankState.failed, lacks := [] })).copiesFail bad).tableReads v k) t)
    (hop : u.ctl.mode.operating = true) (hstate : ((u.view v).bank k).state = BankState.verifying) :
    ((t.view v).bank k).state = BankState.failed ∧ bitOf (t.num Obj.alAlerts) Alert.table = true := by
  have hbank : k < (u.view v).banks.length := View.bank_lt (by rw [hstate]; decide)
  have hv : v < u.views.length := by
    refine Classical.byContradiction fun hlt => ?_
    have hreset : u.view v = View.reset := getD_of_length_le _ _ (Nat.not_lt.mp hlt)
    have hstates : ∀ k, (View.reset.bank k).state = BankState.empty := fun k => by
      rcases k with _ | _ | k <;> rfl
    rw [hreset, hstates] at hstate
    exact absurd hstate (by decide)
  obtain ⟨hviews, halert⟩ := State.copiesFail_alerts bad (u := u.modBank v k (fun b => { b with state := BankState.failed, lacks := [] })) hop
  have hreads := Alerted.tableReads ((u.modBank v k (fun b => { b with state := BankState.failed, lacks := [] })).copiesFail bad) v k
  refine ⟨?_, h.alerts _ (hreads.alert halert)⟩
  rw [h.bank]
  unfold State.view
  rw [hreads.views, hviews]
  exact congrArg Bank.state (State.bank_modBank_same hv hbank _)

/-- Settles O43: the units and the end of a build, the three outcomes of a verification, and the nibbles of a table. -/
theorem tablesAreBuiltAndKept : Obligations.TablesAreBuiltAndKept := by
  refine ⟨?_, fun t cell cls hc h => ⟨tableClass_tablePut_same hc h, fun c hne => tableClass_tablePut_other hc h hne, tablePut_wf cell cls h⟩⟩
  intro dt v s
  refine fun hruns hv => ⟨fun b k n x hk hb hjob => ?_, fun b hb hloading hlong => ?_, fun mismatches k hk hwaits =>
    ⟨fun hstate hnew hbuild => ⟨fun hbad => ?_, fun hbad => ?_⟩, fun hstate hlacks hdown => ?_⟩⟩
  · exact State.run_completes (exec_buildUnit s dt v k n) (by simp [hruns, hv]) (fun t h _ _ => State.buildUnit_settled h hk hb hjob)
  · exact State.run_completes (exec_buildTimeout s dt v) (by simp [hruns, hv]) (fun t h _ _ => State.buildTimeout_settled h hv hb hloading hlong)
  · refine State.run_settled (exec_tableVerify s dt ⟨v, k⟩ mismatches) (by simp [hruns, hv, hk]) (congrArg (fun z : State => z.tableReads v k) ?_)
    rw [State.tableVerify_loaded hwaits hstate hnew, hbad]
    exact State.verifyBank_eligible hnew hbuild
  · refine State.run_completes (exec_tableVerify s dt ⟨v, k⟩ mismatches) (by simp [hruns, hv, hk]) (fun t h _ _ => ?_)
    rw [State.tableVerify_loaded hwaits hstate hnew, State.verifyBank_failed hbuild hbad] at h
    exact State.tableVerify_settled h (operating_of_unitsRun hruns).1 hstate
  · exact State.run_settled (exec_tableVerify s dt ⟨v, k⟩ mismatches) (by simp [hruns, hv, hk])
      (congrArg (fun z : State => z.tableReads v k) (State.tableVerify_active hwaits hstate hlacks hdown))

end Sys2Proof.Machine
end

section
/-! PROOFS. Settles O42. A port's line goes through its region with the region's coloured lines kept; a view's next line and
its count of comets are moved by the stitcher and the close queue alone. -/

namespace Sys2Proof.Machine

/-! ## A line through its region -/

/-- The lines that have gone through the colour stage, with the ports. -/
def State.colours (s : State) : List Port × List (List PixLine) := (s.ports, s.regions.map Region.coloured)

/-- `b` has the ports of `a` and the coloured lines of its regions. -/
def SameColours (a b : State) : Prop := b.colours = a.colours

namespace SameColours

theorem refl (s : State) : SameColours s s := rfl
theorem trans {a b c : State} (h : SameColours a b) (k : SameColours b c) : SameColours a c := Eq.trans k h
theorem ite {p : Prop} [Decidable p] {s a b : State} (ha : SameColours s a) (hb : SameColours s b) : SameColours s (if p then a else b) := by
  split <;> assumption

theorem of_noted {a b : State} (h : Noted a b) : SameColours a b := (congrArg State.colours h.rest :)

theorem modRegion (s : State) (p : Nat) {f : Region → Region} (h : ∀ g, (f g).coloured = g.coloured) : SameColours s (s.modRegion p f) :=
  Prod.ext rfl (map_modify Region.coloured h _ _)

theorem completeResult (s : State) (key : Nat) (epoch : Option Nat) (data : Bytes) : SameColours s (s.completeResult key epoch data) :=
  of_noted (.completeResult s key epoch data)

theorem endStats (s : State) (p : Nat) : SameColours s (s.endStats p) := by
  unfold State.endStats
  split
  · exact refl s
  · exact ite (trans (modRegion s p (fun _ => by rfl)) (completeResult _ _ _ _)) (modRegion s p (fun _ => by rfl))

theorem tapStats (s : State) (p v : Nat) (l : PixLine) (c : Corrected) (live : List Nat) (bits width phases : Nat) :
    SameColours s (s.tapStats p v l c live bits width phases) := by
  have hcut : SameColours s (match (s.region p).stats with
      | some f => if f.start = l.frameStart ∧ f.view = v then s else s.endStats p
      | none => s) := by
    split
    · exact ite (refl s) (endStats s p)
    · exact refl s
  exact ite (trans hcut (trans (modRegion _ p (fun _ => by rfl)) (endStats _ p))) (trans hcut (modRegion _ p (fun _ => by rfl)))

theorem endCapture (s : State) (p : Nat) (c : Capture) : SameColours s (s.endCapture p c) :=
  ite (trans (modRegion s p (fun _ => by rfl)) (trans (completeResult _ _ _ _) rfl)) (trans (modRegion s p (fun _ => by rfl)) rfl)

theorem tapCapture (s : State) (p : Nat) (l : PixLine) (c : Corrected) (live : List Nat) (bits width : Nat) :
    SameColours s (s.tapCapture p l c live bits width) := by
  unfold State.tapCapture
  split
  · exact refl s
  · split
    · exact refl s
    · exact ite (ite (endCapture s p _) (modRegion s p (fun _ => by rfl))) (ite (endCapture s p _) (refl s))

theorem endLatency (s : State) (p start : Nat) : SameColours s (s.endLatency p start) := by
  unfold State.endLatency
  split
  · exact ite (trans (b := (s.putNum _ _).putNum _ _) rfl (modRegion _ p (fun _ => by rfl))) (refl s)
  · exact refl s

theorem lineLatency (s : State) (p : Nat) (l : PixLine) : SameColours s (s.lineLatency p l) :=
  ite (trans (modRegion s p (fun _ => by rfl)) (endLatency _ p _)) (modRegion s p (fun _ => by rfl))

theorem setBank {g : Region} (k : Nat) (b : BankPair) : (g.setBank k b).coloured = g.coloured := by
  unfold Region.setBank
  split
  · rfl
  · split <;> rfl

theorem switchRegion (s : State) (r epoch : Nat) : SameColours s (s.switchRegion r epoch) := by
  refine modRegion s r (fun g => ?_)
  have hbanks : ∀ (l : List Nat) (x : Region), (l.foldl (fun g k =>
      if (g.bank k).state = 2 ∧ s.epochPos (g.bank k).epoch ≤ s.epochPos epoch then g.setBank k BankPair.reset else g) x).coloured = x.coloured := by
    intro l
    induction l with
    | nil => exact fun _ => rfl
    | cons k l ih =>
      intro x
      refine (ih _).trans ?_
      dsimp only
      split
      · exact setBank k _
      · rfl
  exact hbanks [0, 1, 2] { g with epoch := epoch }

theorem clearHolds (s : State) (p : Nat) (l : PixLine) (frame : Nat × Nat) (line : Nat × Nat × Nat × Nat) :
    SameColours s (s.clearHolds p l frame line) := by
  unfold State.clearHolds
  dsimp only
  split
  · exact modRegion s p (fun _ => by rfl)
  · exact trans (modRegion s p (fun _ => by rfl)) (ite rfl (refl _))

theorem correctAndResample (s : State) (p v : Nat) (l : PixLine) : SameColours s (s.correctAndResample p v l).1 := by
  unfold State.correctAndResample
  extract_lets e bits bands width outWidth phases map atOn live s0 s1 c s2 s3 s4 coeffs xmap held s5
  have hswitched : SameColours s s0 := ite (refl s) (switchRegion s p e)
  have hcleared : SameColours s s1 := trans hswitched (clearHolds s0 p l _ _)
  have htapped : SameColours s s4 := trans hcleared (trans (b := s2) rfl (trans (tapStats s2 p v l c live bits width phases)
    (tapCapture s3 p l c live bits width)))
  have hheld : SameColours s s5 := trans htapped (modRegion s4 p (fun _ => by rfl))
  clear_value s5
  split
  · exact trans hheld (modRegion s5 p (fun _ => by rfl))
  · exact hheld

theorem ports {a b : State} (h : SameColours a b) : b.ports = a.ports := congrArg Prod.fst h

theorem coloured {a b : State} (h : SameColours a b) (n : Nat) : (b.region n).coloured = (a.region n).coloured := by
  have hregions := congrArg (fun c => c.2[n]?.getD []) h
  have hget : ∀ s : State, s.colours.2[n]?.getD [] = (s.region n).coloured := fun s => by
    unfold State.region State.colours
    rw [List.getElem?_map, List.getD_eq_getElem?_getD]
    cases s.regions[n]? <;> rfl
  simpa only [hget] using hregions

theorem length {a b : State} (h : SameColours a b) : b.regions.length = a.regions.length := by
  simpa [State.colours] using congrArg (fun c => c.2.length) h

end SameColours

theorem State.region_modRegion_same {s : State} {r : Nat} (h : r < s.regions.length) (f : Region → Region) :
    (s.modRegion r f).region r = f (s.region r) := by
  unfold State.region
  rw [State.modRegion_regions, getD_of_lt _ _ (by simpa using h), getD_of_lt _ _ h, List.getElem_modify_eq]

/-- A region that is idle is one that the module has. -/
theorem State.region_lt_of_idle {s : State} {n index : Nat} (h : s.regionIdle n index = true) : n < s.regions.length := by
  refine Classical.byContradiction fun hlt => ?_
  have hreset : s.region n = Region.reset := getD_of_length_le _ _ (Nat.not_lt.mp hlt)
  unfold State.regionIdle at h
  rw [hreset] at h
  exact Bool.false_ne_true h

theorem State.port_lt_of_forwarded {s : State} {n : Nat} {l : PixLine} {rest : List PixLine} (h : (s.port n).forwarded = l :: rest) :
    n < s.ports.length := by
  refine Classical.byContradiction fun hlt => ?_
  have hreset : s.port n = Port.reset := getD_of_length_le _ _ (Nat.not_lt.mp hlt)
  rw [hreset] at h
  cases h

theorem State.idleLine_colours {s : State} {n : Nat} (l : PixLine) (hlen : n < s.regions.length) :
    (s.idleLine n l).ports = s.ports ∧
      ((s.idleLine n l).region n).coloured = holeLine l (s.param l.epoch (Obj.portOutWidth n)) :: (s.region n).coloured := by
  unfold State.idleLine
  extract_lets e phases live bits width c s1
  have htapped : SameColours s s1 := SameColours.trans (.tapStats s n l.view l c live bits width phases) (.tapCapture _ n l c live bits width)
  clear_value s1
  have hended : SameColours s (if l.frameEnd then s1.endLatency n l.frameStart else s1) :=
    SameColours.ite (htapped.trans (.endLatency s1 n _)) htapped
  generalize (if l.frameEnd then s1.endLatency n l.frameStart else s1) = z at hended ⊢
  refine ⟨hended.ports, ?_⟩
  unfold State.colouredPut
  rw [State.region_modRegion_same (by rw [hended.length]; exact hlen)]
  exact congrArg (holeLine l _ :: ·) (hended.coloured n)

/-- The port's oldest line is taken, and an idle region passes it on as a hole (R174, R11, R13). -/
theorem State.lineThrough_takes {u t : State} {n : Nat} {l : PixLine} {rest : List PixLine} (h : Settled (u.lineThrough n) t)
    (hline : (u.port n).forwarded = l :: rest) : (t.port n).forwarded = rest ∧ (u.regionIdle n l.index = true →
      (t.region n).coloured = holeLine l (u.param l.epoch (Obj.portOutWidth n)) :: (u.region n).coloured) := by
  have hregion : t.region n = (u.lineThrough n).region n := (congrArg (fun s : State => s.region n) h.same :)
  have hport := State.port_modPort_same (State.port_lt_of_forwarded hline) (fun x => { x with forwarded := rest })
  have htaken : ∀ z : State, z.ports = (u.modPort n (fun x => { x with forwarded := rest })).ports → (z.port n).forwarded = rest :=
    fun z hz => by
      unfold State.port at hport ⊢
      rw [hz, hport]
  rw [h.port, hregion]
  unfold State.lineThrough
  rw [hline]
  dsimp only
  by_cases hidle : u.regionIdle n l.index = true
  · rw [if_pos hidle]
    obtain ⟨hports, hcoloured⟩ := State.idleLine_colours (s := u.modPort n (fun x => { x with forwarded := rest })) l (State.region_lt_of_idle hidle)
    exact ⟨htaken _ hports, fun _ => hcoloured⟩
  · rw [if_neg hidle]
    refine ⟨htaken _ ?_, fun hk => absurd hk hidle⟩
    generalize hz : u.modPort n (fun x => { x with forwarded := rest }) = z
    have hline : SameColours z ((z.modRegion n (fun g => { g with rejoin := none })).correctAndResample n l.view l).1 :=
      (SameColours.modRegion z n (fun _ => by rfl)).trans (.correctAndResample _ n l.view l)
    exact (hline.trans (.lineLatency _ n _)).ports

/-- A capture whose frame has not started within 10 s fails (R194). -/
theorem State.captureTimeout_fails {u : State} {n : Nat} {c : Capture} (hc : (u.region n).capture = some c) (hframe : c.frame = none)
    (hlong : c.writtenAt + 10000000000 ≤ u.clk) :
    u.captureTimeout n = (u.modRegion n (fun g => { g with capture := none })).putNum (Obj.portCalCapture n) 3 := by
  unfold State.captureTimeout
  rw [hc]
  exact if_pos ⟨hframe, hlong⟩

/-! ## What the stitcher and the close queue move -/

/-- A view's next line to stitch, the comets it has numbered, and its bucket. -/
def View.purse (w : View) : Option Nat × Nat × Nat × Nat := (w.nextStitch, w.issuedIds, w.tokens, w.tokenClk)

/-- The purses of the views, and the module's bucket. -/
def State.purses (s : State) : List (Option Nat × Nat × Nat × Nat) × Nat := (s.views.map View.purse, s.power.moduleTokens)

/-- `b` has the purses of `a`. -/
def SamePurses (a b : State) : Prop := b.purses = a.purses

namespace SamePurses

theorem refl (s : State) : SamePurses s s := rfl
theorem trans {a b c : State} (h : SamePurses a b) (k : SamePurses b c) : SamePurses a c := Eq.trans k h
theorem ite {p : Prop} [Decidable p] {s a b : State} (ha : SamePurses s a) (hb : SamePurses s b) : SamePurses s (if p then a else b) := by
  split <;> assumption

theorem of_noted {a b : State} (h : Noted a b) : SamePurses a b := (congrArg State.purses h.rest :)

theorem of_settled {a b : State} (h : Settled a b) : SamePurses a b := by
  have hpurses : ∀ s : State, s.unsettled.purses = s.purses := fun s =>
    Prod.ext (List.map_map.trans (List.map_congr_left fun _ _ => rfl)) rfl
  exact (hpurses b).symm.trans (Eq.trans (congrArg State.purses h.same) (hpurses a))

theorem modView (s : State) (v : Nat) {f : View → View} (h : ∀ w, (f w).purse = w.purse) : SamePurses s (s.modView v f) :=
  Prod.ext (map_modify View.purse h _ _) rfl

theorem queueRule : QueueRule SamePurses where
  refl _ := rfl
  trans h k := Eq.trans k h
  high _ _ _ _ := rfl
  alert s bit _ := of_noted (.alert s bit)
  watch _ _ _ := rfl
  entries _ _ _ := rfl
  drawn _ := rfl
  requests _ _ := rfl
  modHbm _ _ := rfl
  modRing _ _ _ := rfl
  modLane _ _ _ := rfl
  setJob _ _ _ _ := rfl
  builds s v _ := modView s v (fun _ => by rfl)
  queue _ _ := rfl
  defaulted _ _ := rfl
  full _ _ := rfl
  flags _ := rfl

theorem fold {α : Type} {f : State → α → State} (h : ∀ s x, SamePurses s (f s x)) (l : List α) (s : State) : SamePurses s (l.foldl f s) :=
  queueRule.fold h l s

theorem completeResult (s : State) (key : Nat) (epoch : Option Nat) (data : Bytes) : SamePurses s (s.completeResult key epoch data) :=
  of_noted (.completeResult s key epoch data)

theorem ejectTraffic (s : State) (n : Nat) : SamePurses s (s.ejectTraffic n) := by
  unfold State.ejectTraffic
  extract_lets w bytes s1
  have hcounted : SamePurses s s1 := rfl
  clear_value s1
  exact ite (trans hcounted (trans (b := s1.bump _) rfl (of_noted (.alert _ _)))) hcounted

end SamePurses

end Sys2Proof.Machine
end

section
/-! PROOFS. A comet that enters the schedule (R329 to R348): what its entry moves is the tracker's (for O42). -/

namespace Sys2Proof.Machine

/-- The counters of a view's tracker. -/
theorem trackCounter_high (v n : Nat) : 0x600000 ≤ objKey (0x6003 + 64 * v) n := by unfold objKey; omega

namespace TrackerRule

variable {R : State → State → Prop} (k : TrackerRule R)
include k

theorem bumpBy (s : State) {key : Nat} (n : Nat) (h : 0x600000 ≤ key) : R s (s.bumpBy key n) := k.putNum s _ h

theorem countEntry (s : State) (v tflags : Nat) (late : Bool) : R s (s.countEntry v tflags late) := by
  exact k.trans (k.bumpIf s _ (trackCounter_high _ _)) (k.trans (k.bumpIf _ _ (trackCounter_high _ _)) (k.bumpIf _ _ (trackCounter_high _ _)))

/-- A comet scheduled, and in TEACH its openings counted (R338, R346). -/
theorem counted (s : State) (v n : Nat) {p : Prop} [Decidable p] :
    R s (if p then (s.bump (Obj.trkScheduled v)).bumpBy (Obj.trkTeachOpenings v) n else s.bump (Obj.trkScheduled v)) := by
  exact ite (k.trans (k.bump s (trackCounter_high _ _)) (k.bumpBy _ _ (trackCounter_high _ _))) (k.bump s (trackCounter_high _ _))

theorem schedule (s : State) (v : Nat) (x : Entry) : R s (s.schedule v x).1 :=
  k.trans (k.countEntry s v _ _) (k.trans (k.counted _ v _) (k.request _ _))

theorem keepComet (s : State) (t : Track) (epoch : Nat) (shared : Bool) : R s (s.keepComet t epoch shared) :=
  ite (k.setEntries s _) (k.leaveEntry s _)

/-- A comet's copies sent, where it is this module's. -/
theorem sent (s : State) (own : Bool) (v : Nat) (c : Comet) : R s (if own then s.sendToOwners v c else s) :=
  ite (k.sendToOwners s v c) (k.refl s)

/-- Whatever the comet fuses with, its entry keeps what the tracker's moves keep. -/
theorem enterComet (s0 : State) (v : Nat) (c : Comet) (action : Nat) (matched : Bool) (tflags : Nat) :
    R s0 (s0.enterComet v c action matched tflags) := by
  have hreviewed : R s0 s0.reviewEntries := k.reviewEntries s0
  unfold State.enterComet
  extract_lets s own p src t await full wait peaked s1 lapsed x r moved entry s2 s3
  have hwaited : R s peaked := k.peak s _ (by decide)
  have hpeaked : R s0 s1 := k.trans hreviewed (k.trans hwaited (k.sent peaked own v c))
  have hfull : R s0 full := k.trans hreviewed (k.trans (k.bump s (by decide)) (k.lapseEvent _ _))
  clear_value s1 full
  split
  · exact k.trans hreviewed (k.keepComet s _ _ _)
  split
  · exact k.trans hfull (k.trans (k.sent full own v c) (k.keepComet _ _ _ _))
  split
  · have hentered : R s1 s2 := k.trans (k.schedule s1 v x) (k.setEntries r.1 _)
    clear_value s2
    refine k.trans hpeaked (k.trans hentered (k.trans ?_ (k.reviewEntries s3)))
    unfold s3
    split
    · exact k.entries s2 _ _
    · exact k.refl s2
  · rename_i i e _
    extract_lets first merged sp s2 ends late s3 s4 s5 mark changed r y
    have hmeasured : R s1 s2 := by
      refine k.trans ?_ (k.fold (fun z w => k.bump z (trackCounter_high w _)) _ _)
      split
      · exact k.bump s1 (trackCounter_high _ _)
      · exact k.refl s1
    have hcounted : R s1 s5 := k.trans hmeasured (k.trans (k.bump s2 (trackCounter_high _ _)) (k.trans (k.bump _ (trackCounter_high _ _))
      (k.trans (k.countEntry _ v _ _) (k.counted s3 v _))))
    have hrevised : R s1 r.1 := k.trans hcounted (k.reviseEntry s5 _ _)
    clear_value r
    exact k.trans hpeaked (k.trans hrevised (k.trans (k.entries r.1 _ _) (k.reviewEntries _)))

end TrackerRule

/-! ## The close queue -/

theorem State.view_purse (s : State) (v : Nat) : (s.view v).purse = s.purses.1[v]?.getD View.reset.purse := by
  unfold State.view State.purses
  rw [List.getElem?_map, List.getD_eq_getElem?_getD]
  cases s.views[v]? <;> rfl

theorem SamePurses.view {a b : State} (h : SamePurses a b) (v : Nat) : (b.view v).purse = (a.view v).purse := by
  rw [State.view_purse, State.view_purse, show b.purses = a.purses from h]

theorem SamePurses.released {u t : State} {n : Nat} {f : View → View} {g : PowerSys → PowerSys}
    (h : SamePurses ((u.modView n f).modPower g) t) (hlen : n < u.views.length) :
    (t.view n).purse = (f (u.view n)).purse ∧ t.power.moduleTokens = (g u.power).moduleTokens :=
  ⟨(h.view n).trans (congrArg View.purse (State.view_modView_same hlen f)), congrArg Prod.snd h⟩

/-- A comet released takes a token of its view and of the module, and the view's next number (R282, R283). -/
theorem State.cometRelease_purses {u : State} {n : Nat} {c : Comet} {rest : List (Comet × Bool)}
    (hqueue : (u.view n).closeQueue = (c, false) :: rest) (hview : 1000000000 ≤ u.viewTokens n) (hmodule : 1000000000 ≤ u.moduleTokens) :
    SamePurses ((u.modView n (fun w => { w with
        closeQueue := rest, tokens := u.viewTokens n - 1000000000, tokenClk := u.clk, issuedIds := w.issuedIds + 1 })).modPower
      (fun p => { p with moduleTokens := u.moduleTokens - 1000000000, moduleTokenClk := u.clk })) (u.cometRelease n) := by
  unfold State.cometRelease
  rw [hqueue]
  dsimp only
  rw [if_neg (not_or.mpr ⟨Nat.not_lt.mpr hview, Nat.not_lt.mpr hmodule⟩)]
  generalize State.modPower _ _ = z
  have hwaits : SamePurses z z.markWaits := SamePurses.of_settled (.markWaits z)
  have hcrossed : SamePurses z (if z.markWaits.cometEast n c then z.markWaits.ejectTraffic 128 else z.markWaits) :=
    SamePurses.ite (hwaits.trans (.ejectTraffic _ _)) hwaits
  generalize (if z.markWaits.cometEast n c then z.markWaits.ejectTraffic 128 else z.markWaits) = y at hcrossed ⊢
  have henters := fun (x : State) (d : Comet) a m t => SamePurses.queueRule.enterComet x n d a m t
  rw [if_neg (show ¬ false = true from Bool.false_ne_true)]
  split
  · have hentered := fun d a => (hcrossed.trans (b := y) (c := y.bump (Obj.viewMatched n)) rfl).trans (henters _ d a true 0)
    split
    · exact (hentered _ _).trans (SamePurses.queueRule.arrive _ _)
    · exact hentered _ _
  · exact hcrossed.trans (henters y _ _ _ _)

theorem State.cometRelease_settled {u t : State} {n : Nat} {c : Comet} {rest : List (Comet × Bool)} (h : Settled (u.cometRelease n) t)
    (hqueue : (u.view n).closeQueue = (c, false) :: rest) (hview : 1000000000 ≤ u.viewTokens n) (hmodule : 1000000000 ≤ u.moduleTokens) :
    (t.view n).issuedIds = (u.view n).issuedIds + 1 ∧ (t.view n).tokens = u.viewTokens n - 1000000000 ∧
      (t.view n).tokenClk = u.clk ∧ t.power.moduleTokens = u.moduleTokens - 1000000000 := by
  have hlen : n < u.views.length := by
    refine Classical.byContradiction fun hlt => ?_
    have hreset : u.view n = View.reset := getD_of_length_le _ _ (Nat.not_lt.mp hlt)
    rw [hreset] at hqueue
    cases hqueue
  have hpurses := (State.cometRelease_purses hqueue hview hmodule).trans (.of_settled h)
  obtain ⟨hpurse, hall⟩ := hpurses.released hlen
  simp only [View.purse, Prod.mk.injEq] at hpurse
  obtain ⟨-, hids, htokens, hclk⟩ := hpurse
  exact ⟨hids, htokens, hclk, hall⟩

end Sys2Proof.Machine
end

section
/-! PROOFS. Settles O42, second part: behind the stitcher a line moves no view on and releases no comet. -/

namespace Sys2Proof.Machine
namespace SamePurses

theorem modPort (s : State) (p : Nat) (f : Port → Port) : SamePurses s (s.modPort p f) := rfl
theorem modRegion (s : State) (p : Nat) (f : Region → Region) : SamePurses s (s.modRegion p f) := rfl
theorem modEth (s : State) (p : Nat) (f : Eth → Eth) : SamePurses s (s.modEth p f) := rfl
theorem bump (s : State) (key : Nat) : SamePurses s (s.bump key) := rfl
theorem bumpBy (s : State) (key n : Nat) : SamePurses s (s.bumpBy key n) := rfl
theorem bumpIf (s : State) (c : Bool) (key : Nat) : SamePurses s (s.bumpIf c key) := ite (bump s key) (refl s)
theorem orFlags (s : State) (key bits : Nat) : SamePurses s (s.orFlags key bits) := rfl
theorem peak (s : State) (key v : Nat) : SamePurses s (s.peak key v) := ite rfl (refl s)
theorem putVal (s : State) (key : Nat) (v : Val) : SamePurses s (s.putVal key v) := rfl
theorem tx (s : State) (p : Nat) (m : Emission) : SamePurses s (s.tx p m) := of_settled (.tx s p m)

/-! ## Upsets of a line's table words -/

theorem retireRegion (s : State) (r cause : Nat) : SamePurses s (s.retireRegion r cause) :=
  ite (refl s) (trans (of_noted (.retire s _ _ _ _)) rfl)

theorem sendReg (s : State) (p : Nat) : SamePurses s (s.sendReg p) := by
  unfold State.sendReg
  split
  · exact refl s
  · exact ite (refl s) rfl

theorem dropOwnRegs (s : State) (p : Nat) : SamePurses s (s.dropOwnRegs p) := trans (modPort s p _) (sendReg _ p)

theorem retirePort (s : State) (p cause : Nat) : SamePurses s (s.retirePort p cause) :=
  ite (refl s) (trans (of_noted (.retire s _ _ _ _)) (trans (modPort _ p _) (trans (dropOwnRegs _ p) (retireRegion _ p cause))))

theorem regionReset (s : State) (r : Nat) : SamePurses s (s.regionReset r) := by
  unfold State.regionReset
  extract_lets s1 cut s2 s2' s3
  have hupset : SamePurses s s1 := ite (refl s) (of_noted (.upset s _ _ _ _))
  have hcleared : SamePurses s s2 := trans hupset rfl
  have hcopies : SamePurses s s2' := trans hcleared (ite rfl (refl s2))
  have hclosed : SamePurses s s3 := by
    unfold s3
    split
    · rename_i v hv
      exact trans hcopies (of_settled (.forceClose s2' v (viewOfPort_lt hv) _ _))
    · exact hcopies
  clear_value s3
  exact ite (ite (trans hclosed (retirePort s3 r 2)) hclosed) (refl s)

theorem eccWord (s : State) (v k : Nat) (e : EccCell) : SamePurses s (s.eccWord v k e) := by
  unfold State.eccWord
  dsimp only
  refine ite rfl (ite rfl (ite (trans ?_ (regionReset _ e.1)) rfl))
  rfl

/-! ## The stages behind the stitcher -/

theorem swapBank (s : State) (v k : Nat) : SamePurses s (s.swapBank v k) :=
  ite (trans (modView s v (fun _ => by rfl)) rfl) (refl s)

theorem countHist (s : State) (v : Nat) (c : Classified) : SamePurses s (s.countHist v c) :=
  ite (fold (fun z _ => ite (trans (modView z v (fun _ => by rfl)) (putVal _ _ _)) (refl z)) _ s) (refl s)

theorem histFlush (s : State) (v : Nat) : SamePurses s (s.histFlush v) := ite (queueRule.hbmTouch s _ _) (refl s)

theorem endClassStats (s : State) (v : Nat) : SamePurses s (s.endClassStats v) := by
  unfold State.endClassStats
  split
  · exact refl s
  · exact trans (modView s v (fun _ => by rfl)) (completeResult _ _ _ _)

theorem classStats (s : State) (v : Nat) (i : Issue) (c : Classified) : SamePurses s (s.classStats v i c) := by
  unfold State.classStats
  extract_lets stale s0 a a1 s1
  have hcounted : SamePurses s s1 := trans (ite (endClassStats s v) (refl s)) (modView s0 v (fun _ => by rfl))
  exact ite (trans hcounted (endClassStats s1 v)) hcounted

theorem segmentLine (s : State) {v : Nat} (hv : v < 4) (i : Issue) (g : Geometry) (line : PixLine) (c : Classified) :
    SamePurses s (s.segmentLine v i g line c) := by
  unfold State.segmentLine
  extract_lets s0 w from_ to_ cols near l start runs q xb labelled seamCol cut closed dark s1 s2 s3 s4 s5
  have hopened : SamePurses s s1 := trans (of_settled (.segEpochOf s v hv _)) (modView s0 v (fun _ => by rfl))
  have hruns : SamePurses s s2 := trans hopened (trans (bumpBy s1 _ _) (trans (bumpBy _ _ _) (bumpBy _ _ _)))
  have hcounted : SamePurses s s3 := trans hruns (trans (ite (orFlags s2 _ _) (refl s2)) (peak _ _ _))
  have hsent : SamePurses s s4 := ite (trans hcounted (of_settled (.sendLink s3 _ _ _ _ _ _ _))) hcounted
  have hclosed : SamePurses s s5 := trans (ite (trans hsent (ejectTraffic s4 16)) hsent) (of_settled (.closeFinished _ v hv))
  exact ite (trans hclosed (of_settled (.settleSeam s5 hv _))) hclosed

theorem imageWrite (s : State) (v : Nat) (g : Geometry) (l : PixLine) (shift : Nat) : SamePurses s (s.imageWrite v g l shift) := by
  unfold State.imageWrite
  extract_lets x q b stride depth k dead touched waits s1
  have htouched : SamePurses s touched := queueRule.hbmTouch s _ _
  have hstored : SamePurses s s1 := ite rfl (trans htouched rfl)
  clear_value s1
  exact ite (refl s) (trans hstored rfl)

theorem arpAsk (s : State) (p ip : Nat) : SamePurses s (s.arpAsk p ip) := by
  unfold State.arpAsk
  dsimp only
  split
  · exact refl s
  · exact trans (modEth s p _) (tx _ p _)

theorem hspPiece (s : State) (p source : Nat) (dest : HspDest) (counter offset : Nat) (first last coded : Bool) (data : Bytes) :
    SamePurses s (s.hspPiece p source dest counter offset first last coded data) :=
  trans (queueRule.hbmTouch s _ _) (trans (modEth _ p _) (trans (tx _ p _) (bump _ counter)))

theorem resolve (s : State) (p ip : Nat) : SamePurses s (s.resolve p ip).1 := by
  unfold State.resolve
  split
  · exact refl s
  · dsimp only
    split
    · exact refl s
    · exact arpAsk s p _

theorem hspRecord (s : State) (p stream : Nat) (coded : Bool) (record : Bytes) : SamePurses s (s.hspRecord p stream coded record).1 := by
  unfold State.hspRecord
  dsimp only
  split
  · exact resolve s p _
  · exact trans (resolve s p _) (fold (fun z q => hspPiece z p stream _ _ _ _ _ _ _) _ _)

theorem deliverStream (s : State) (k dest eth : Nat) (coded : Bool) (b : Bytes) : SamePurses s (s.deliverStream k dest eth coded b) := by
  unfold State.deliverStream
  extract_lets r s1 q
  have hring : SamePurses s s1 := ite (trans (queueRule.ringRecord s _ _) (bumpIf _ _ _)) (refl s)
  exact ite (trans hring (trans (hspRecord s1 eth k coded b) (bumpIf _ _ _))) hring

theorem queueStream (s : State) (k dest eth : Nat) (b : Bytes) (bits bands width payload : Nat) :
    SamePurses s (s.queueStream k dest eth b bits bands width payload) :=
  ite (ite rfl (trans (bumpIf s _ _) (trans (bumpIf _ _ _) (bumpIf _ _ _)))) (refl s)

theorem streamLine (s : State) (v : Nat) (i : Issue) (l : PixLine) (shift k : Nat) : SamePurses s (s.streamLine v i l shift k) := by
  unfold State.streamLine
  extract_lets e p x0 step bands nout nb order ratio q c0 reached left fresh c r s1
  have hdecimated : SamePurses s s1 := rfl
  clear_value s1
  split
  · exact refl s
  · split
    · exact hdecimated
    · refine ite (trans hdecimated rfl) ?_
      exact trans hdecimated (trans (bump s1 _) (ite (queueStream _ _ _ _ _ _ _ _ _) (deliverStream _ _ _ _ _ _)))

theorem lineOn (s : State) {v : Nat} (hv : v < 4) (i : Issue) (g : Geometry) (line : PixLine) (ecc : List EccCell) :
    SamePurses s (s.lineOn v i g line ecc) := by
  unfold State.lineOn
  extract_lets shift k s1 span mine c s2
  have hcounted : SamePurses s s2 := trans (swapBank s v k) (trans (countHist s1 v c) (trans (histFlush _ v)
    (trans (classStats _ v i c) (segmentLine _ hv i g line c))))
  clear_value s2
  exact trans hcounted (trans (imageWrite s2 v g line shift) (trans (fold (fun z n => streamLine z v i line shift n) _ _)
    (fold (fun z e => eccWord z v k e) mine _)))

/-! ## The stitcher -/

theorem endServo (s : State) (v : Nat) : SamePurses s (s.endServo v) := by
  unfold State.endServo
  split
  · exact refl s
  · exact trans (modView s v (fun _ => by rfl)) (completeResult _ _ _ _)

theorem servoLine (s : State) (v : Nat) (i : Issue) (g : Geometry) (placed : List Placed) : SamePurses s (s.servoLine v i g placed) := by
  unfold State.servoLine
  extract_lets cur started s0 s1
  have hsummed : SamePurses s s1 := trans (ite (endServo s v) (refl s)) (modView s0 v (fun _ => by rfl))
  exact ite (trans hsummed (endServo s1 v)) hsummed

theorem clearHistory (s : State) (v index : Nat) : SamePurses s (s.clearHistory v index) :=
  trans (fold (fun z p => modRegion z p _) _ s) (modView _ v (fun _ => by rfl))

theorem switchedBy (s : State) (v epoch : Nat) : SamePurses s (s.switchedBy v epoch) := fold (fun _ _ => by rfl) _ s

theorem stitchEpoch (s : State) (v : Nat) (i : Issue) : SamePurses s (s.stitchEpoch v i) := by
  unfold State.stitchEpoch
  extract_lets w s1
  have hswitched : SamePurses s s1 := trans (modView s v (fun _ => by rfl)) (switchedBy _ v _)
  clear_value s1
  exact ite (refl s) (ite (trans hswitched (trans (clearHistory s1 v _) (bump _ _))) hswitched)

theorem pruneLines (s : State) (g : Geometry) (v j : Nat) : SamePurses s (s.pruneLines g v j) :=
  trans (fold (fun z p => modRegion z p _) _ s) (modView _ v (fun _ => by rfl))

theorem sendSeam (s : State) (k v index flags : Nat) (data : Bytes) : SamePurses s (s.sendSeam k v index flags data) :=
  fold (fun z _ => of_settled (.sendLink z _ _ _ _ _ _ _)) _ s

theorem length {a b : State} (h : SamePurses a b) : b.views.length = a.views.length := by
  simpa [State.purses] using congrArg (fun c => c.1.length) h

end SamePurses

/-- A stitched line makes the next one due (R228). -/
theorem State.stitch_next {s : State} {v : Nat} (i : Issue) (hlen : v < s.views.length) :
    ((s.stitch v i).1.view v).nextStitch = some ((i.index + 1) % wrap32) := by
  unfold State.stitch
  extract_lets s1 g placed line s2 s3 left s4
  have hservo : SamePurses s s3 := (SamePurses.stitchEpoch s v i).trans ((show SamePurses s1 s2 from rfl).trans (.servoLine s2 v i g placed))
  have hsent : SamePurses s s4 := SamePurses.ite (hservo.trans (.sendSeam s3 _ _ _ _ _)) hservo
  have hpruned := hsent.trans (.pruneLines s4 g v i.index)
  exact congrArg View.nextStitch (State.view_modView_same (by rw [hpruned.length]; exact hlen) _)

theorem State.issueOf_index {s : State} {v j : Nat} {i : Issue} (h : s.issueOf v j = some i) : i.index = j := by
  unfold State.issueOf at h
  simpa using List.find?_some h

theorem State.stitchNext_settled {u t : State} {n j : Nat} {i : Issue} {ecc : List EccCell} (h : Settled (u.stitchNext n ecc) t) (hn : n < 4)
    (hj : (u.view n).nextStitch = some j) (hi : u.issueOf n j = some i) (hready : u.stitchReady n i = true) :
    (t.view n).nextStitch = some ((j + 1) % wrap32) := by
  have hlined : u.stitchNext n ecc = (u.stitch n i).1.lineOn n i (u.stitch n i).2.1 (u.stitch n i).2.2 ecc := by
    unfold State.stitchNext
    rw [hj]
    dsimp only
    rw [hi]
    exact if_pos hready
  rw [hlined] at h
  have hkept := (SamePurses.lineOn (u.stitch n i).1 hn i (u.stitch n i).2.1 (u.stitch n i).2.2 ecc).trans (.of_settled h)
  have hnext := State.stitch_next i (State.view_lt_of_next hj)
  rw [State.issueOf_index hi] at hnext
  exact (congrArg Prod.fst (hkept.view n)).trans hnext

/-- Settles O42: the region's line, the capture, the stitched line, the released comet and the held one. -/
theorem linesAndCometsMoveOn : Obligations.LinesAndCometsMoveOn := by
  intro dt n s
  refine fun hruns => ⟨fun l rest hfit hline => ?_, fun c hfit hc hframe hlong => ?_, fun ecc j i hn hj hi hready => ?_,
    fun c rest hn hqueue hview hmodule => ?_, ?_⟩
  · exact State.run_completes (exec_lineCorrection s dt n) (by simp [hruns, hfit]) (fun t h _ _ => State.lineThrough_takes h hline)
  · exact State.run_settled (exec_calCaptureTimeout s dt n) (by simp [hruns, hfit]) (State.captureTimeout_fails hc hframe hlong)
  · exact State.run_completes (exec_stitchLine s dt n ecc) (by simp [hruns, hn])
      (fun t h _ _ => State.stitchNext_settled h hn hj hi hready)
  · exact State.run_completes (exec_cometRelease s dt n) (by simp [hruns, hn])
      (fun t h _ _ => State.cometRelease_settled h hqueue hview hmodule)
  · exact State.run_settled (exec_fuseHold s dt n) hruns rfl

end Sys2Proof.Machine
end

section
/-! PROOFS. Every store of bytes stays canonical (for O59): the frame rules. Most operations leave the stores alone, so that what they
change is one update of another part; a branch or a loop keeps them canonical when its parts do. -/

namespace Sys2Proof.Machine

/-! ## Stores -/

/-- A loop that keeps a property keeps it. -/
theorem foldl_wf {α β : Type} {P : β → Prop} {f : β → α → β} (step : ∀ m x, P m → P (f m x)) (l : List α) {m : β} (h : P m) :
    P (l.foldl f m) := by
  induction l generalizing m with
  | nil => exact h
  | cons x r ih => exact ih (step m x h)

theorem HbmReq.apply_wf (r : HbmReq) {m : Mem} (h : m.wf = true) : (r.apply m).wf = true := by
  unfold HbmReq.apply
  split
  · exact Mem.writeBytes_wf _ _ h
  · exact h

theorem Transfer.enter_wf {t : Transfer} {offset : Nat} {data : Bytes} (h : t.buffer.wf = true) : (t.enter offset data).buffer.wf = true := by
  rw [Transfer.enter_buffer]
  exact enterBlocks_wf _ h

theorem View.mem_modBank {w : View} {k : Nat} {f : Bank → Bank} (h : ∀ b ∈ w.banks, b.table.wf = true)
    (hf : ∀ b : Bank, b.table.wf = true → (f b).table.wf = true) : ∀ b ∈ (w.modBank k f).banks, b.table.wf = true := by
  intro b hb
  obtain ⟨n, hn⟩ := List.mem_iff_getElem?.mp hb
  rw [show (w.modBank k f).banks = w.banks.modify k f from rfl, List.getElem?_modify, Option.map_eq_map, Option.map_eq_some_iff] at hn
  obtain ⟨x, hx, rfl⟩ := hn
  have hxt := h x (List.mem_of_getElem? hx)
  split
  · exact hf x hxt
  · exact hxt

namespace State.storesCanonical

/-! ## Branches and loops -/

theorem ite {p : Prop} [Decidable p] {a b : State} (ha : a.storesCanonical) (hb : b.storesCanonical) :
    (if p then a else b).storesCanonical := by
  split <;> assumption

theorem foldl {α : Type} {l : List α} {f : State → α → State} {s : State} (h : s.storesCanonical)
    (step : ∀ z x, z.storesCanonical → (f z x).storesCanonical) : (l.foldl f s).storesCanonical := by
  induction l generalizing s with
  | nil => exact h
  | cons x r ih => exact ih (step s x h)

/-! ## Updates of the parts that hold stores -/

variable {s : State}

theorem modView {v : Nat} {f : View → View} (h : s.storesCanonical)
    (hf : ∀ w : View, (∀ b ∈ w.banks, b.table.wf = true) → ∀ b ∈ (f w).banks, b.table.wf = true) : (s.modView v f).storesCanonical := by
  obtain ⟨hmem, htable, hxbuf, hbuffer, hbanks⟩ := h
  refine ⟨hmem, htable, hxbuf, hbuffer, fun w hw => ?_⟩
  obtain ⟨k, hk⟩ := List.mem_iff_getElem?.mp hw
  rw [show (s.modView v f).views = s.views.modify v f from rfl, List.getElem?_modify, Option.map_eq_map, Option.map_eq_some_iff] at hk
  obtain ⟨x, hx, rfl⟩ := hk
  have hxb := hbanks x (List.mem_of_getElem? hx)
  split
  · exact hf x hxb
  · exact hxb

theorem modBank {v k : Nat} {f : Bank → Bank} (h : s.storesCanonical) (hf : ∀ b : Bank, b.table.wf = true → (f b).table.wf = true) :
    (s.modBank v k f).storesCanonical :=
  modView h (fun _ hw => View.mem_modBank hw hf)

theorem modHbm {f : Hbm → Hbm} (h : s.storesCanonical) (hf : ∀ x : Hbm, x.mem.wf = true → (f x).mem.wf = true) :
    (s.modHbm f).storesCanonical := by
  obtain ⟨hmem, hrest⟩ := h
  exact ⟨hf _ hmem, hrest⟩

theorem modEngine {f : DmaEngine → DmaEngine} (h : s.storesCanonical)
    (hf : ∀ e : DmaEngine, e.table.wf = true ∧ e.xbuf.wf = true → (f e).table.wf = true ∧ (f e).xbuf.wf = true) :
    (s.modEngine f).storesCanonical := by
  obtain ⟨hmem, htable, hxbuf, hrest⟩ := h
  obtain ⟨htable', hxbuf'⟩ := hf _ ⟨htable, hxbuf⟩
  exact ⟨hmem, htable', hxbuf', hrest⟩

theorem transfer {t : Option Transfer} (h : s.storesCanonical) (ht : ∀ x, t = some x → x.buffer.wf = true) :
    ({ s with ctl := { s.ctl with transfer := t } } : State).storesCanonical := by
  obtain ⟨hmem, htable, hxbuf, -, hbanks⟩ := h
  exact ⟨hmem, htable, hxbuf, ht, hbanks⟩

/-- The transfer that a segment goes to is the open one. -/
theorem openTransfer {id : SessId} {key : Nat} {t : Transfer} (h : s.storesCanonical) (ht : s.openTransfer id key = .ok t) :
    t.buffer.wf = true := by
  obtain ⟨-, -, -, hbuffer, -⟩ := h
  unfold State.openTransfer at ht
  split at ht
  · rename_i x hx
    split at ht
    · cases ht
    · split at ht
      · exact Except.ok.inj ht ▸ hbuffer x hx
      · cases ht
  · cases ht

theorem bank (h : s.storesCanonical) (v k : Nat) : ((s.view v).bank k).table.wf = true := by
  obtain ⟨-, -, -, -, hbanks⟩ := h
  have hget : ∀ {α : Type} {P : α → Prop} {l : List α} {d : α} (n : Nat), (∀ x ∈ l, P x) → P d → P (l.getD n d) := by
    intro α P l d n hl hd
    rw [List.getD_eq_getElem?_getD]
    rcases hx : l[n]? with _ | x
    · exact hd
    · exact hl x (List.mem_of_getElem? hx)
  refine hget (P := fun b : Bank => b.table.wf = true) k (hget (P := fun w : View => ∀ b ∈ w.banks, b.table.wf = true) v hbanks ?_) rfl
  exact List.all_eq_true.mp (show View.reset.banks.all (fun b => b.table.wf) = true from rfl)

/-- What leaves the five stores as they are keeps them canonical. -/
theorem of_eq {a b : State} (h : a.storesCanonical) (hmem : b.hbm.mem = a.hbm.mem) (htable : b.dma.table = a.dma.table)
    (hxbuf : b.dma.xbuf = a.dma.xbuf) (htransfer : b.ctl.transfer = a.ctl.transfer) (hbanks : b.views.map View.banks = a.views.map View.banks) :
    b.storesCanonical := by
  obtain ⟨ha, htab, hx, hbuffer, hviews⟩ := h
  refine ⟨hmem ▸ ha, htable ▸ htab, hxbuf ▸ hx, fun t ht => hbuffer t (htransfer ▸ ht), fun w hw => ?_⟩
  have hw' : w.banks ∈ a.views.map View.banks := hbanks ▸ List.mem_map_of_mem hw
  obtain ⟨x, hx, he⟩ := List.mem_map.mp hw'
  exact he ▸ hviews x hx

/-- The settling writes no store. -/
theorem of_settled {a b : State} (h : a.storesCanonical) (k : Settled a b) : b.storesCanonical := by
  have hbanks : ∀ s : State, s.unsettled.views.map View.banks = s.views.map View.banks := fun s =>
    List.map_map.trans (List.map_congr_left fun _ _ => rfl)
  refine of_eq h (congrArg (fun s : State => s.hbm.mem) k.same :) (congrArg (fun s : State => s.dma.table) k.same :)
    (congrArg (fun s : State => s.dma.xbuf) k.same :) (congrArg (fun s : State => s.ctl.transfer) k.same :) ?_
  exact (hbanks b).symm.trans (Eq.trans (congrArg (fun s : State => s.views.map View.banks) k.same) (hbanks a))

end State.storesCanonical
end Sys2Proof.Machine
end

section
/-! PROOFS. Every store of bytes stays canonical (for O59): the operations on the lines of the cameras, up to the sort tables, in the
model's order. -/

namespace Sys2Proof.Machine
namespace State.storesCanonical

variable {s : State}

/-! ## Objects, alerts and the log -/

theorem elapse {dt : Nat} (h : s.storesCanonical) : (State.elapse dt s).storesCanonical := h
theorem putVal {key : Nat} {v : Val} (h : s.storesCanonical) : (s.putVal key v).storesCanonical := h
theorem putNum {key n : Nat} (h : s.storesCanonical) : (s.putNum key n).storesCanonical := h
theorem putKept {key : Nat} {v : Val} (h : s.storesCanonical) : (s.putKept key v).storesCanonical := h
theorem keepOwn {key : Nat} {v : Val} (h : s.storesCanonical) : (s.keepOwn key v).storesCanonical := h
theorem bumpBy {key n : Nat} (h : s.storesCanonical) : (s.bumpBy key n).storesCanonical := h
theorem bump {key : Nat} (h : s.storesCanonical) : (s.bump key).storesCanonical := h
theorem bumpIf {c : Bool} {key : Nat} (h : s.storesCanonical) : (s.bumpIf c key).storesCanonical := ite h.bump h
theorem bumpKept {key n : Nat} (h : s.storesCanonical) : (s.bumpKept key n).storesCanonical := h
theorem orFlags {key bits : Nat} (h : s.storesCanonical) : (s.orFlags key bits).storesCanonical := h
theorem peak {key v : Nat} (h : s.storesCanonical) : (s.peak key v).storesCanonical := ite h.putNum h
theorem drawn (h : s.storesCanonical) : s.drawn.storesCanonical := h
theorem emit {e : Emission} (h : s.storesCanonical) : (s.emit e).storesCanonical := h
theorem modEth {p : Nat} {f : Eth → Eth} (h : s.storesCanonical) : (s.modEth p f).storesCanonical := h
theorem send {p prio line hsp : Nat} {e : Emission} (h : s.storesCanonical) : (s.send p prio line hsp e).storesCanonical := ite h.modEth h

theorem raiseAt {delay : Nat} {east : Bool} {source carried data : Nat} (h : s.storesCanonical) :
    (s.raiseAt delay east source carried data).storesCanonical := by
  unfold State.raiseAt
  extract_lets _
  exact ite h h

theorem raise {east : Bool} {source data : Nat} (h : s.storesCanonical) : (s.raise east source data).storesCanonical := h.raiseAt
theorem counterHeld {compare i : Nat} (h : s.storesCanonical) : (s.counterHeld compare i).storesCanonical := h

theorem counterArmed {compare i : Nat} (h : s.storesCanonical) : (s.counterArmed compare i).storesCanonical := by
  unfold State.counterArmed
  extract_lets _ _
  exact ite h h

theorem ibi {bit : Nat} (h : s.storesCanonical) : (s.ibi bit).storesCanonical := by
  unfold State.ibi
  extract_lets _ _
  exact ite h h

theorem notify {bit : Nat} (h : s.storesCanonical) : (s.notify bit).storesCanonical := by
  unfold State.notify
  extract_lets _ s1
  have hs1 : s1.storesCanonical := h
  exact hs1.foldl (fun _ _ hz => hz.foldl (fun _ _ hz' => hz'.send))

theorem event {bit : Nat} (h : s.storesCanonical) : (s.event bit).storesCanonical := h.ibi.notify

theorem journalPut {source kind session key outcome form : Nat} {value : Bytes} (h : s.storesCanonical) :
    (s.journalPut source kind session key outcome form value).storesCanonical := h

theorem journalOwn {kind : Nat} {value : Bytes} (h : s.storesCanonical) : (s.journalOwn kind value).storesCanonical := h
theorem journalReq {src : Src} {kind key : Nat} {value : Bytes} (h : s.storesCanonical) : (s.journalReq src kind key value).storesCanonical := h
theorem journalFailed {src : Src} {kind key code : Nat} (h : s.storesCanonical) : (s.journalFailed src kind key code).storesCanonical := h
theorem modSession {id : SessId} {f : Session → Session} (h : s.storesCanonical) : (s.modSession id f).storesCanonical := h
theorem putResult {r : ResultObj} (h : s.storesCanonical) : (s.putResult r).storesCanonical := h
theorem blobReplaced {key : Nat} (h : s.storesCanonical) : (s.blobReplaced key).storesCanonical := h

theorem completeResult {key : Nat} {epoch : Option Nat} {data : Bytes} (h : s.storesCanonical) :
    (s.completeResult key epoch data).storesCanonical := by
  unfold State.completeResult
  extract_lets _ s1
  have hs1 : s1.storesCanonical := h.putResult
  split
  · exact hs1.event
  · exact hs1

theorem alertPinFrom {before : Bool} (h : s.storesCanonical) : (s.alertPinFrom before).storesCanonical := ite h h.emit

theorem alert {bit : Nat} (h : s.storesCanonical) : (s.alert bit).storesCanonical := by
  unfold State.alert
  extract_lets _
  exact ite h h.orFlags.bump.event.alertPinFrom.raise

theorem ejectTraffic {n : Nat} (h : s.storesCanonical) : (s.ejectTraffic n).storesCanonical := by
  unfold State.ejectTraffic
  extract_lets _ _ s1
  have hs1 : s1.storesCanonical := h
  exact ite hs1.bump.alert hs1

theorem logPut {kind unit inst cause count : Nat} {detail : Bytes} (h : s.storesCanonical) :
    (s.logPut kind unit inst cause count detail).storesCanonical := by
  unfold State.logPut
  extract_lets _ _ _
  split
  · exact h
  · split
    · exact h.bump.alert
    · split <;> exact h

theorem upset {unit inst window : Nat} {detail : Bytes} (h : s.storesCanonical) : (s.upset unit inst window detail).storesCanonical := by
  unfold State.upset
  extract_lets _ s1 _ _ s2
  have hs1 : s1.storesCanonical := h.bump
  have hs2 : s2.storesCanonical := hs1
  exact hs2.logPut

theorem retire {unit inst cause : Nat} {detail : Bytes} (h : s.storesCanonical) : (s.retire unit inst cause detail).storesCanonical := by
  unfold State.retire
  extract_lets _ _ _ s1
  have hs1 : s1.storesCanonical := h
  exact ite h hs1.bumpKept.logPut.alert

theorem unretire {unit inst : Nat} (h : s.storesCanonical) : (s.unretire unit inst).storesCanonical := h
theorem modPower {f : PowerSys → PowerSys} (h : s.storesCanonical) : (s.modPower f).storesCanonical := h
theorem lapse {bit : Nat} (h : s.storesCanonical) : (s.lapse bit).storesCanonical := h.putNum.orFlags.bump.alert

theorem lapseEvent {bit : Nat} (h : s.storesCanonical) : (s.lapseEvent bit).storesCanonical := by
  unfold State.lapseEvent
  extract_lets s1
  have hs1 : s1.storesCanonical := ite h h.lapse
  exact hs1.modPower

/-! ## Lanes -/

theorem modLane {n : Nat} {f : Lane → Lane} (h : s.storesCanonical) : (s.modLane n f).storesCanonical := h
theorem modPort {p : Nat} {f : Port → Port} (h : s.storesCanonical) : (s.modPort p f).storesCanonical := h
theorem powerLane {n : Nat} (h : s.storesCanonical) : (s.powerLane n).storesCanonical := h
theorem powerLanes (h : s.storesCanonical) : s.powerLanes.storesCanonical := h.foldl (fun _ _ hz => hz.powerLane)

theorem retireRegion {r cause : Nat} (h : s.storesCanonical) : (s.retireRegion r cause).storesCanonical := by
  unfold State.retireRegion
  extract_lets s1 s2
  have hs1 : s1.storesCanonical := h.retire
  have hs2 : s2.storesCanonical := hs1.keepOwn
  exact ite h hs2

theorem queueReg {p : Nat} {a : RegAccess} (h : s.storesCanonical) : (s.queueReg p a).storesCanonical := h

theorem sendReg {p : Nat} (h : s.storesCanonical) : (s.sendReg p).storesCanonical := by
  unfold State.sendReg
  split
  · exact h
  · exact ite h h.modPort.emit

theorem dropOwnRegs {p : Nat} (h : s.storesCanonical) : (s.dropOwnRegs p).storesCanonical := h.modPort.sendReg

theorem retirePort {p cause : Nat} (h : s.storesCanonical) : (s.retirePort p cause).storesCanonical := by
  unfold State.retirePort
  extract_lets s1 s2
  have hs1 : s1.storesCanonical := h.retire
  have hs2 : s2.storesCanonical := hs1.modPort
  exact ite h hs2.dropOwnRegs.retireRegion

theorem startDiscovery {p : Nat} (h : s.storesCanonical) : (s.startDiscovery p).storesCanonical := by
  unfold State.startDiscovery
  extract_lets s1
  have hs1 : s1.storesCanonical := h.modPort
  exact ite hs1.queueReg.queueReg.sendReg hs1.queueReg.sendReg

theorem configureLink {p : Nat} (h : s.storesCanonical) : (s.configureLink p).storesCanonical := by
  unfold State.configureLink
  extract_lets own
  have hown : own.storesCanonical := h.modPort
  split
  · exact hown.modPort.sendReg
  · extract_lets s1
    have hs1 : s1.storesCanonical := hown.modPort
    exact ite hs1.queueReg.queueReg.sendReg hs1.queueReg.sendReg

theorem retrainLink {p : Nat} (h : s.storesCanonical) : (s.retrainLink p).storesCanonical := by
  unfold State.retrainLink
  extract_lets s1
  have hs1 : s1.storesCanonical := h.foldl (fun _ _ hz => hz.modLane.putNum)
  exact hs1.modPort

theorem endLinkUp {p : Nat} (h : s.storesCanonical) : (s.endLinkUp p).storesCanonical := by
  unfold State.endLinkUp
  split <;> exact h.modPort

theorem enableStream {p : Nat} (h : s.storesCanonical) : (s.enableStream p).storesCanonical := by
  unfold State.enableStream
  extract_lets s1
  have hs1 : s1.storesCanonical := h.modPort
  exact ite hs1.queueReg.sendReg hs1.endLinkUp

theorem startLinkUp {p : Nat} (h : s.storesCanonical) : (s.startLinkUp p).storesCanonical := by
  unfold State.startLinkUp
  extract_lets s1
  have hs1 : s1.storesCanonical := h.foldl (fun _ _ hz => hz.powerLane.modLane)
  exact hs1.modPort.dropOwnRegs

theorem degradePort {p : Nat} (h : s.storesCanonical) : (s.degradePort p).storesCanonical := by
  unfold State.degradePort
  split
  · exact h.retirePort
  · exact h.modPort.startDiscovery

theorem endTraining {p : Nat} (h : s.storesCanonical) : (s.endTraining p).storesCanonical := ite h.modPort.startDiscovery h

theorem laneGone {n : Nat} (h : s.storesCanonical) : (s.laneGone n).storesCanonical := by
  unfold State.laneGone
  extract_lets _
  exact ite h (ite h.retirePort (ite h.degradePort h.endTraining))

theorem retireLane {n cause : Nat} (h : s.storesCanonical) : (s.retireLane n cause).storesCanonical := by
  unfold State.retireLane
  extract_lets s1 s2
  have hs1 : s1.storesCanonical := h.modLane.keepOwn
  have hs2 : s2.storesCanonical := hs1.retire
  exact ite h (ite hs2.laneGone hs2)

theorem realign {n : Nat} (h : s.storesCanonical) : (s.realign n).storesCanonical := by
  unfold State.realign
  extract_lets _ s1 s2
  have hs1 : s1.storesCanonical := h.bump.modLane
  have hs2 : s2.storesCanonical := hs1.upset
  exact ite (ite hs2.retireLane hs2) hs1

theorem laneCrc {n : Nat} (h : s.storesCanonical) : (s.laneCrc n).storesCanonical := by
  unfold State.laneCrc
  extract_lets s1
  have hs1 : s1.storesCanonical := h.bump
  exact realign (ite hs1.bump hs1)

theorem loneLoss {n : Nat} (h : s.storesCanonical) : (s.loneLoss n).storesCanonical := h.modLane.realign

theorem eyeMeasured {s0 : State} {n height width : Nat} (h : s0.storesCanonical) : (s0.eyeMeasured n height width).storesCanonical := by
  unfold State.eyeMeasured
  extract_lets s' _ _ s1 _
  have hs' : s'.storesCanonical := ite h.loneLoss h
  have hs1 : s1.storesCanonical := hs'.putNum.putNum
  exact hs1.modLane

theorem darkLane {n : Nat} (h : s.storesCanonical) : (s.darkLane n).storesCanonical := h

theorem loseSignal {n : Nat} (h : s.storesCanonical) : (s.loseSignal n).storesCanonical := by
  unfold State.loseSignal
  extract_lets s1
  have hs1 : s1.storesCanonical := h.modLane
  exact ite (ite hs1.darkLane.loneLoss hs1.darkLane) hs1

theorem sendLink {n kind flags index offset byte12 : Nat} {payload : Bytes} (h : s.storesCanonical) :
    (s.sendLink n kind flags index offset byte12 payload).storesCanonical :=
  ite h.modLane h

theorem linkDrainN {n k : Nat} (h : s.storesCanonical) : (s.linkDrainN n k).storesCanonical := by
  induction k generalizing s with
  | zero => exact h
  | succ k ih =>
    unfold State.linkDrainN
    extract_lets _
    split
    · exact h
    · split
      · exact h
      · exact ih h.modLane.emit

theorem linkDrain {n : Nat} (h : s.storesCanonical) : (s.linkDrain n).storesCanonical := by
  unfold State.linkDrain
  extract_lets _
  exact ite h.linkDrainN (ite h h.modLane)

theorem linksDrain (h : s.storesCanonical) : s.linksDrain.storesCanonical := h.foldl (fun _ _ hz => hz.linkDrain)
theorem sendComet {k : Nat} {record : Bytes} (h : s.storesCanonical) : (s.sendComet k record).storesCanonical := h.sendLink
theorem sendEvent {k channel time index : Nat} (h : s.storesCanonical) : (s.sendEvent k channel time index).storesCanonical := h.sendLink

theorem sendSeam {k v index flags : Nat} {data : Bytes} (h : s.storesCanonical) : (s.sendSeam k v index flags data).storesCanonical := by
  unfold State.sendSeam
  extract_lets _
  exact h.foldl (fun _ _ hz => hz.sendLink)

theorem adapt {n : Nat} (h : s.storesCanonical) : (s.adapt n).storesCanonical := ite h h.putNum.drawn

theorem equalise {n : Nat} (h : s.storesCanonical) : (s.equalise n).storesCanonical := by
  unfold State.equalise
  extract_lets _
  exact h.putNum.drawn.adapt

theorem rebound {n : Nat} (h : s.storesCanonical) : (s.rebound n).storesCanonical := by
  unfold State.rebound
  extract_lets s1
  have hs1 : s1.storesCanonical := h.putNum
  exact ite (ite hs1 hs1.putNum) h

theorem eyeTaken {n height width : Nat} (h : s.storesCanonical) : (s.eyeTaken n height width).storesCanonical := by
  unfold State.eyeTaken
  extract_lets s1
  have hs1 : s1.storesCanonical := h.eyeMeasured
  exact ite hs1.adapt hs1

/-! ## Camera ports -/

theorem modTrigger {v : Nat} {f : Trigger → Trigger} (h : s.storesCanonical) : (s.modTrigger v f).storesCanonical := h

theorem forwardNext {p : Nat} (h : s.storesCanonical) : (s.forwardNext p).storesCanonical := by
  unfold State.forwardNext
  extract_lets _
  split
  · exact h
  · split
    · exact h
    · extract_lets _ _ _ _ s1
      have hs1 : s1.storesCanonical := h.modPort
      exact ite hs1 (ite hs1.bump hs1.bump)

theorem forwardMany {p n : Nat} (h : s.storesCanonical) : (s.forwardMany p n).storesCanonical := by
  induction n generalizing s with
  | zero => exact h
  | succ n ih => exact ih h.forwardNext

theorem forwardTo {p index : Nat} (h : s.storesCanonical) : (s.forwardTo p index).storesCanonical := by
  unfold State.forwardTo
  extract_lets _
  exact ite h.forwardMany h

theorem forwardReady {p n : Nat} (h : s.storesCanonical) : (s.forwardReady p n).storesCanonical := by
  induction n generalizing s with
  | zero => exact h
  | succ n ih =>
    unfold State.forwardReady
    extract_lets _
    split
    · exact ite (ih h.forwardTo) h
    · exact h

theorem endMarked {p : Nat} {i : Issue} {frameEnd : Bool} (h : s.storesCanonical) : (s.endMarked p i frameEnd).storesCanonical := by
  unfold State.endMarked
  extract_lets _ s1
  have hs1 : s1.storesCanonical := h.modPort
  split
  · split
    · exact hs1.bumpIf
    · exact hs1
  · exact h

theorem enterSlice {p : Nat} {i : Issue} {head : HlpHeader} {payload : Bytes} (h : s.storesCanonical) :
    (s.enterSlice p i head payload).storesCanonical := by
  unfold State.enterSlice
  dsimp only
  split
  · exact h.modPort.endMarked.forwardReady
  · split
    · refine forwardReady ?_
      split
      · exact ite h.modPort.modPort.endMarked.forwardTo h.modPort.modPort.endMarked
      · exact h.modPort.modPort.endMarked
    · split
      · exact h.modPort.bumpIf
      · exact h.modPort

theorem camStatus {p status : Nat} (h : s.storesCanonical) : (s.camStatus p status).storesCanonical := by
  unfold State.camStatus
  extract_lets _
  exact ite h h.orFlags

theorem trackPseq {lane pseq counter : Nat} (h : s.storesCanonical) : (s.trackPseq lane pseq counter).1.storesCanonical := h

theorem lineSlice {p : Nat} {h' : HlpHeader} {payload : Bytes} (h : s.storesCanonical) : (s.lineSlice p h' payload).storesCanonical := by
  unfold State.lineSlice
  extract_lets _
  split
  · exact ite h h.bump
  · exact ite h h.bump
  · exact ite h h.enterSlice

theorem hlpHeader {p n pseq camStatus : Nat} (h : s.storesCanonical) : (s.hlpHeader p n pseq camStatus).storesCanonical := h.trackPseq.camStatus

theorem hlpLine {p n : Nat} {h' : HlpHeader} {payload : Bytes} {crcOk : Bool} (h : s.storesCanonical) :
    (s.hlpLine p n h' payload crcOk).storesCanonical :=
  ite h (ite h.laneCrc h.hlpHeader.lineSlice)

theorem windowPassed {p index : Nat} (h : s.storesCanonical) : (s.windowPassed p index).storesCanonical := by
  unfold State.windowPassed
  split
  · exact h
  · split
    · exact h
    · exact ite h.forwardTo.forwardReady h

theorem unplug {p : Nat} (h : s.storesCanonical) : (s.unplug p).storesCanonical := by
  unfold State.unplug
  extract_lets s1
  have hs1 : s1.storesCanonical := h.modPort
  exact hs1.dropOwnRegs.putNum.bump.alert.raise

theorem lanesReviewed {n : Nat} (h : s.storesCanonical) : (s.lanesReviewed n).storesCanonical := by
  unfold State.lanesReviewed
  extract_lets _
  exact ite h (ite h.unplug h.endTraining)

theorem laneNoSignal {n : Nat} (h : s.storesCanonical) : (s.laneNoSignal n).storesCanonical := h.loseSignal.lanesReviewed

theorem compareIdentity {p : Nat} (h : s.storesCanonical) : (s.compareIdentity p).storesCanonical := by
  unfold State.compareIdentity
  extract_lets _ _ _ _ _ _ _ _ s1 s2
  have hs1 : s1.storesCanonical := ite h h.putKept.putKept.putKept
  have hs2 : s2.storesCanonical := ite hs1.orFlags hs1
  exact ite hs2.configureLink h.modPort.alert

theorem identified {p protocol : Nat} {d : Identity} (h : s.storesCanonical) : (s.identified p protocol d).storesCanonical := by
  unfold State.identified
  extract_lets s1 s2
  have hs1 : s1.storesCanonical := h.putVal.putVal.putVal.putNum.putNum.putNum
  have hs2 : s2.storesCanonical := ite hs1.orFlags hs1
  exact ite hs2.compareIdentity h.modPort.alert

theorem laneSignal {n : Nat} (h : s.storesCanonical) : (s.laneSignal n).storesCanonical := by
  unfold State.laneSignal
  extract_lets _ _ s0 s1 _
  have hs0 : s0.storesCanonical := ite h.loneLoss h
  have hs1 : s1.storesCanonical := hs0.modLane
  exact ite (ite hs1 (ite hs1.startLinkUp.raise (ite (ite hs1.startLinkUp hs1) (ite hs1.startLinkUp hs1)))) hs1

theorem laneAligned {n : Nat} (h : s.storesCanonical) : (s.laneAligned n).storesCanonical := by
  unfold State.laneAligned
  extract_lets _ s1 _ _ s2
  have hs1 : s1.storesCanonical := h.modLane.equalise
  have hs2 : s2.storesCanonical := hs1.putNum
  exact ite (ite (ite hs2.endTraining (ite (ite hs2.enableStream hs2) hs2)) hs1.putNum.modLane) h

theorem regDone {p : Nat} {a : RegAccess} {status : Nat} {data : Bytes} (h : s.storesCanonical) : (s.regDone p a status data).storesCanonical := by
  unfold State.regDone
  extract_lets s1
  have hs1 : s1.storesCanonical := ite h.putVal h
  exact hs1.putNum

theorem ownRegDone {p : Nat} {a : RegAccess} {status : Nat} {data : Bytes} (h : s.storesCanonical) :
    (s.ownRegDone p a status data).storesCanonical := by
  unfold State.ownRegDone
  extract_lets _ _ s1
  have hs1 : s1.storesCanonical := h.modPort
  exact ite (ite h (ite h.modPort.identified h.modPort.alert)) (ite (ite h.retrainLink h) (ite (ite hs1 hs1.identified) (ite (ite h h.retrainLink)
      (ite (ite h h.endLinkUp) h))))

theorem regAnswer {p : Nat} {tag : Option Nat} {status : Nat} {data : Bytes} (h : s.storesCanonical) :
    (s.regAnswer p tag status data).storesCanonical := by
  unfold State.regAnswer
  split
  · exact h
  · extract_lets s1
    have hs1 : s1.storesCanonical := h.modPort
    exact ite (sendReg (ite hs1.ownRegDone hs1.regDone)) h

theorem regTimeout {p : Nat} (h : s.storesCanonical) : (s.regTimeout p).storesCanonical := by
  unfold State.regTimeout
  split
  · exact h
  · extract_lets s1 s2 s3
    have hs1 : s1.storesCanonical := h.modPort.orFlags
    have hs2 : s2.storesCanonical := ite hs1 hs1.putNum
    have hs3 : s3.storesCanonical := by
      unfold s3
      split
      · exact hs2.modPort
      · exact hs2
    split
    · exact h
    · exact ite h (ite h.modPort.emit hs3.sendReg)

theorem cxpControl {p status : Nat} {data : Bytes} (h : s.storesCanonical) : (s.cxpControl p status data).storesCanonical := h.regAnswer

theorem adopt {p : Nat} (h : s.storesCanonical) : (s.adopt p).storesCanonical := by
  unfold State.adopt
  extract_lets _ s1 s2
  have hs1 : s1.storesCanonical := h.putKept.putKept.putKept
  have hs2 : s2.storesCanonical := hs1.putNum
  exact ite h.putNum (ite hs2.configureLink hs2)

theorem regAccess {p v : Nat} (h : s.storesCanonical) : (s.regAccess p v).storesCanonical := by
  unfold State.regAccess
  extract_lets _ _
  exact h.putNum.queueReg.sendReg

theorem relink {p : Nat} {subs : List Nat} (h : s.storesCanonical) : (s.relink p subs).storesCanonical := by
  unfold State.relink
  extract_lets _
  exact ite h (ite (dropOwnRegs (modPort (foldl h (fun _ _ hz => powerLane hz)))) (ite (ite (startLinkUp h) (modPort h)) (ite (ite (configureLink h)
      h) (ite h (ite (configureLink h) (ite h (enableStream (modPort h))))))))

/-! ## Encoders -/

theorem modEncoder {c : Nat} {f : Encoder → Encoder} (h : s.storesCanonical) : (s.modEncoder c f).storesCanonical := h
theorem modPgo {n : Nat} {f : Pgo → Pgo} (h : s.storesCanonical) : (s.modPgo n f).storesCanonical := h
theorem encSpacing {c : Nat} (h : s.storesCanonical) : (s.encSpacing c).storesCanonical := ite h.modEncoder.orFlags h

theorem encIllegal {c : Nat} (h : s.storesCanonical) : (s.encIllegal c).storesCanonical := by
  unfold State.encIllegal
  extract_lets s1 _ s2 s3 s4
  have hs1 : s1.storesCanonical := h.bump.orFlags
  have hs2 : s2.storesCanonical := hs1.modEncoder.bump.orFlags
  have hs3 : s3.storesCanonical := hs2.upset
  have hs4 : s4.storesCanonical := hs3.retire
  exact ite (ite hs4.modEncoder.encSpacing hs3) hs1.modEncoder

theorem encIndex {c : Nat} (h : s.storesCanonical) : (s.encIndex c).storesCanonical := by
  unfold State.encIndex
  extract_lets _ _ _ s1
  have hs1 : s1.storesCanonical := bump (ite h h.putNum)
  exact ite hs1.modEncoder h

theorem encPositionSet {c pos : Nat} (h : s.storesCanonical) : (s.encPositionSet c pos).storesCanonical := h

theorem encTimeout {c : Nat} (h : s.storesCanonical) : (s.encTimeout c).storesCanonical := by
  unfold State.encTimeout
  extract_lets _
  exact ite h.modEncoder h

theorem encEnabled {c : Nat} (h : s.storesCanonical) : (s.encEnabled c).storesCanonical := ite h (ite h.modEncoder h.modEncoder)
theorem pgoChanged {k i0 n0 m0 : Nat} (h : s.storesCanonical) : (s.pgoChanged k i0 n0 m0).storesCanonical := h

theorem pgoPin {k : Nat} (h : s.storesCanonical) : (s.pgoPin k).storesCanonical := by
  unfold State.pgoPin
  extract_lets _
  exact ite h.modPgo.emit h

/-! ## Line correction -/

theorem modRegion {r : Nat} {f : Region → Region} (h : s.storesCanonical) : (s.modRegion r f).storesCanonical := h

theorem endCapture {p : Nat} {c : Capture} (h : s.storesCanonical) : (s.endCapture p c).storesCanonical := by
  unfold State.endCapture
  extract_lets _ s1 _
  have hs1 : s1.storesCanonical := h.modRegion
  exact ite hs1.completeResult.putNum hs1.putNum

theorem stageBank {p k : Nat} (h : s.storesCanonical) : (s.stageBank p k).storesCanonical := h
theorem dropBanks (h : s.storesCanonical) : s.dropBanks.storesCanonical := h
theorem armBanks {epoch : Nat} (h : s.storesCanonical) : (s.armBanks epoch).storesCanonical := h
theorem switchRegion {r epoch : Nat} (h : s.storesCanonical) : (s.switchRegion r epoch).storesCanonical := h

theorem clearHolds {p : Nat} {l : PixLine} {frame : Nat × Nat} {line : Nat × Nat × Nat × Nat} (h : s.storesCanonical) :
    (s.clearHolds p l frame line).storesCanonical := by
  unfold State.clearHolds
  extract_lets _
  split
  · exact h.modRegion
  · extract_lets _ _ s1
    have hs1 : s1.storesCanonical := h.modRegion
    exact hs1.bumpIf

theorem endStats {p : Nat} (h : s.storesCanonical) : (s.endStats p).storesCanonical := by
  unfold State.endStats
  extract_lets s1
  have hs1 : s1.storesCanonical := h.modRegion
  split
  · exact h
  · exact ite hs1.completeResult hs1

theorem tapStats {s0 : State} {p v : Nat} {l : PixLine} {c : Corrected} {live : List Nat} {bits width phases : Nat} (h : s0.storesCanonical) :
    (s0.tapStats p v l c live bits width phases).storesCanonical := by
  unfold State.tapStats
  extract_lets s' _ _ _ s1
  have hs' : s'.storesCanonical := by
    unfold s'
    split
    · exact ite h h.endStats
    · exact h
  have hs1 : s1.storesCanonical := hs'.modRegion
  exact ite hs1.endStats hs1

theorem tapCapture {p : Nat} {l : PixLine} {c : Corrected} {live : List Nat} {bits width : Nat} (h : s.storesCanonical) :
    (s.tapCapture p l c live bits width).storesCanonical := by
  unfold State.tapCapture
  split
  · exact h
  · extract_lets _
    split
    · exact h
    · exact ite (ite h.endCapture h.modRegion) (ite h.endCapture h)

theorem endLatency {p start : Nat} (h : s.storesCanonical) : (s.endLatency p start).storesCanonical := by
  unfold State.endLatency
  split
  · exact ite h.putNum.putNum.modRegion h
  · exact h

theorem cutTaps {p v start : Nat} (h : s.storesCanonical) : (s.cutTaps p v start).storesCanonical := by
  unfold State.cutTaps
  extract_lets s0 s1
  have hs0 : s0.storesCanonical := h.endLatency
  have hs1 : s1.storesCanonical := by
    unfold s1
    split
    · exact ite hs0.endStats hs0
    · exact hs0
  split
  · exact ite hs1.endCapture hs1
  · exact hs1

/-! ## Resampling -/

theorem correctAndResample {p v : Nat} {l : PixLine} (h : s.storesCanonical) : (s.correctAndResample p v l).1.storesCanonical := by
  unfold State.correctAndResample
  extract_lets _ _ _ _ _ _ _ _ _ s0 s1 _ s2 s3 s4 _ _ _ s5 _ _ s6 _ _ _ _
  have hs0 : s0.storesCanonical := ite h h.switchRegion
  have hs1 : s1.storesCanonical := hs0.clearHolds
  have hs2 : s2.storesCanonical := hs1.bumpBy
  have hs3 : s3.storesCanonical := hs2.tapStats
  have hs4 : s4.storesCanonical := hs3.tapCapture
  have hs5 : s5.storesCanonical := hs4.modRegion
  have hs6 : s6.storesCanonical := hs5.modRegion
  split
  · exact hs6
  · exact hs5

/-! ## The colour stage -/

theorem lineLatency {p : Nat} {l : PixLine} (h : s.storesCanonical) : (s.lineLatency p l).storesCanonical := by
  unfold State.lineLatency
  extract_lets _ _ s1
  have hs1 : s1.storesCanonical := h.modRegion
  exact ite hs1.endLatency hs1

theorem colouredPut {p : Nat} {l : PixLine} (h : s.storesCanonical) : (s.colouredPut p l).storesCanonical := h

theorem idleLine {p : Nat} {l : PixLine} (h : s.storesCanonical) : (s.idleLine p l).storesCanonical := by
  unfold State.idleLine
  extract_lets _ _ _ _ _ _ s1
  have hs1 : s1.storesCanonical := h.tapStats.tapCapture
  exact colouredPut (ite hs1.endLatency hs1)

theorem lineThrough {p : Nat} (h : s.storesCanonical) : (s.lineThrough p).storesCanonical := by
  unfold State.lineThrough
  split
  · exact h
  · extract_lets s1 _ r s2
    have hs1 : s1.storesCanonical := h.modPort
    have hr : r.1.storesCanonical := hs1.modRegion.correctAndResample
    have hs2 : s2.storesCanonical := hr.lineLatency
    exact ite hs1.idleLine hs2.colouredPut

/-! ## Stitching -/

theorem seamBytes {v index offset : Nat} {last : Bool} {payload : Bytes} (h : s.storesCanonical) :
    (s.seamBytes v index offset last payload).storesCanonical := by
  refine modView h (fun w hw => ?_)
  split
  · exact hw
  · split
    · exact hw
    · split
      · split <;> exact hw
      · exact hw

theorem seamLateNow {v index : Nat} (h : s.storesCanonical) : (s.seamLateNow v index).storesCanonical := by
  unfold State.seamLateNow
  split
  · extract_lets _ _ _
    exact ite (bump (modView h (fun _ hx => hx))) h
  · exact h

theorem endServo {v : Nat} (h : s.storesCanonical) : (s.endServo v).storesCanonical := by
  unfold State.endServo
  extract_lets _
  split
  · exact h
  · extract_lets _ _ _ _ _ _ _ _ _ s1
    have hs1 : s1.storesCanonical := modView h (fun _ hx => hx)
    exact hs1.completeResult

theorem loadSeamSet {v index : Nat} (h : s.storesCanonical) : (s.loadSeamSet v index).storesCanonical := by
  unfold State.loadSeamSet
  extract_lets _
  exact modView h (fun _ hx => hx)

theorem applySeams {v index : Nat} (h : s.storesCanonical) : (s.applySeams v index).storesCanonical := modView h (fun _ hx => hx)

theorem clearHistory {v index : Nat} (h : s.storesCanonical) : (s.clearHistory v index).storesCanonical := by
  unfold State.clearHistory
  extract_lets _ s1
  have hs1 : s1.storesCanonical := h.foldl (fun _ _ hz => hz.modRegion)
  exact modView hs1 (fun _ hx => hx)

theorem countSwitched {v epoch : Nat} (h : s.storesCanonical) : (s.countSwitched v epoch).storesCanonical := h

theorem switchedBy {v epoch : Nat} (h : s.storesCanonical) : (s.switchedBy v epoch).storesCanonical := by
  unfold State.switchedBy
  extract_lets _ _
  exact h.foldl (fun _ _ hz => hz.countSwitched)

theorem stitchEpoch {v : Nat} {i : Issue} (h : s.storesCanonical) : (s.stitchEpoch v i).storesCanonical := by
  unfold State.stitchEpoch
  extract_lets _ s1
  have hs1 : s1.storesCanonical := switchedBy (modView h (fun _ hx => hx))
  exact ite h (ite hs1.clearHistory.bump hs1)

theorem viewEpoch {v epoch index : Nat} (h : s.storesCanonical) : (s.viewEpoch v epoch index).storesCanonical := by
  unfold State.viewEpoch
  extract_lets _ s0 s1
  have hs0 : s0.storesCanonical := h.modTrigger
  have hs1 : s1.storesCanonical := ite (modView hs0 (fun _ hx => hx)) hs0
  exact ite hs1.loadSeamSet hs1

theorem servoLine {v : Nat} {i : Issue} {g : Geometry} {placed : List Placed} (h : s.storesCanonical) :
    (s.servoLine v i g placed).storesCanonical := by
  unfold State.servoLine
  extract_lets _ _ s0 s1
  have hs0 : s0.storesCanonical := ite h.endServo h
  have hs1 : s1.storesCanonical := modView hs0 (fun _ hx => hx)
  exact ite hs1.endServo hs1

theorem pruneLines {g : Geometry} {v j : Nat} (h : s.storesCanonical) : (s.pruneLines g v j).storesCanonical := by
  unfold State.pruneLines
  extract_lets s1
  have hs1 : s1.storesCanonical := h.foldl (fun _ _ hz => hz.modRegion)
  exact modView hs1 (fun _ hx => hx)

theorem stitch {v : Nat} {i : Issue} (h : s.storesCanonical) : (s.stitch v i).1.storesCanonical := by
  unfold State.stitch
  extract_lets s1 _ _ _ s2 s3 _ s4
  have hs1 : s1.storesCanonical := h.stitchEpoch
  have hs2 : s2.storesCanonical := hs1.putNum
  have hs3 : s3.storesCanonical := hs2.servoLine
  have hs4 : s4.storesCanonical := ite hs3.sendSeam hs3
  exact modView hs4.pruneLines (fun _ hx => hx)

/-! ## Sort tables -/

theorem swapBank {v k : Nat} (h : s.storesCanonical) : (s.swapBank v k).storesCanonical := by
  refine ite (blobReplaced (modView h (fun w hw => ?_))) h
  refine View.mem_modBank (View.mem_modBank hw (fun b hb => ?_)) (fun _ hb => hb)
  split <;> exact hb

theorem countHist {v : Nat} {c : Classified} (h : s.storesCanonical) : (s.countHist v c).storesCanonical := by
  unfold State.countHist
  extract_lets _
  exact ite (h.foldl (fun _ _ hz => ite (putVal (modView hz (fun _ hx => hx))) hz)) h

theorem clearHist {v mask : Nat} (h : s.storesCanonical) : (s.clearHist v mask).storesCanonical :=
  h.foldl (fun _ _ hz => ite (putVal (modView hz (fun _ hx => hx))) hz)

theorem endClassStats {v : Nat} (h : s.storesCanonical) : (s.endClassStats v).storesCanonical := by
  unfold State.endClassStats
  split
  · exact h
  · exact completeResult (modView h (fun _ hx => hx))

theorem classStats {s0 : State} {v : Nat} {i : Issue} {c : Classified} (h : s0.storesCanonical) : (s0.classStats v i c).storesCanonical := by
  unfold State.classStats
  extract_lets _ s' _ _ s1
  have hs' : s'.storesCanonical := ite h.endClassStats h
  have hs1 : s1.storesCanonical := modView hs' (fun _ hx => hx)
  exact ite hs1.endClassStats hs1

theorem bankLoading {v k : Nat} (h : s.storesCanonical) : (s.bankLoading v k).storesCanonical := h.modBank (fun _ _ => rfl)

theorem bankLoaded {v k : Nat} {t : Mem} {crc : Nat} (h : s.storesCanonical) (ht : t.wf = true) :
    (s.bankLoaded v k t crc).storesCanonical :=
  h.modBank (fun _ _ => ht)

theorem loadDropped {v : Nat} (h : s.storesCanonical) : (s.loadDropped v).storesCanonical := by
  unfold State.loadDropped
  split
  · exact h.modBank (fun _ _ => rfl)
  · exact h

theorem dropUnits {v : Nat} (h : s.storesCanonical) : (s.dropUnits v).storesCanonical := h

theorem endBuild {v outcome : Nat} (h : s.storesCanonical) : (s.endBuild v outcome).storesCanonical := by
  unfold State.endBuild
  split
  · exact h
  · extract_lets _
    exact completeResult (putNum (modView (dropUnits h) (fun _ hx => hx)))

theorem startBuild {v mask k : Nat} (h : s.storesCanonical) : (s.startBuild v mask k).storesCanonical :=
  modView h.dropUnits.bankLoading (fun _ hx => hx)

theorem buildTable_wf {b : Build} {hist : List (List (Nat × Nat))} {active t : Mem} (h : t.wf = true) (cells : List Nat) :
    (cells.foldl (fun t cell => tablePut t cell (buildClass b hist active cell)) t).wf = true :=
  foldl_wf (P := fun t : Mem => t.wf = true) (fun _ cell ht => tablePut_wf cell _ ht) cells h

/-- A build unit writes its cells into the table of the bank being built. -/
theorem buildUnitDone {v unit : Nat} (h : s.storesCanonical) : (s.buildUnitDone v unit).storesCanonical := by
  unfold State.buildUnitDone
  split
  · exact h
  · rename_i b hb
    extract_lets w t s1
    have ht : t.wf = true := buildTable_wf (h.bank v b.bank) _
    clear_value t
    have hs1 : s1.storesCanonical := modView (modBank h (fun _ _ => ht)) (fun _ hw => hw)
    exact ite (hs1.bankLoaded ht) hs1

theorem buildTimeout {v : Nat} (h : s.storesCanonical) : (s.buildTimeout v).storesCanonical := by
  unfold State.buildTimeout
  split
  · exact h
  · exact ite (h.endBuild.modBank (fun _ _ => rfl)) h

theorem copyMismatch {k r : Nat} (h : s.storesCanonical) : (s.copyMismatch k r).storesCanonical := h
theorem copiesFail {bad : List Nat} (h : s.storesCanonical) : (s.copiesFail bad).storesCanonical := alert (h.foldl (fun _ _ hz => hz.bump))

theorem verifyBank {v k : Nat} {bad : List Nat} (h : s.storesCanonical) : (s.verifyBank v k bad).storesCanonical := by
  unfold State.verifyBank
  extract_lets _ _ _ _ s1 s1'
  have hs1 : s1.storesCanonical := modView (modBank h (fun _ hx => hx)) (fun _ hx => hx)
  have hs1' : s1'.storesCanonical := copiesFail (modBank h (fun _ hx => hx))
  exact ite (ite hs1.endBuild hs1) (ite hs1'.endBuild hs1')

theorem tableVerify {s0 : State} {v k : Nat} {mismatches : List (Nat × Nat)} (h : s0.storesCanonical) :
    (s0.tableVerify v k mismatches).storesCanonical := by
  unfold State.tableVerify
  extract_lets _ _ _ _ s' _ s1
  have hs' : s'.storesCanonical := h.foldl (fun _ _ hz => hz.copyMismatch)
  have hs1 : s1.storesCanonical := modBank hs' (fun _ hx => hx)
  exact ite hs' (ite hs'.verifyBank (ite (ite hs1 hs1.copiesFail) hs'))

theorem armTable {v k epoch : Nat} (h : s.storesCanonical) : (s.armTable v k epoch).storesCanonical := by
  refine h.modBank (fun b hb => ?_)
  split <;> exact hb

end State.storesCanonical

end Sys2Proof.Machine
end

section
/-! PROOFS. Every store of bytes stays canonical (for O59): the operations on the segmenter, the memory and the engines that use it, in the
model's order. -/

namespace Sys2Proof.Machine
namespace State.storesCanonical

variable {s : State}

/-! ## Segmentation -/

theorem markWaits (h : s.storesCanonical) : s.markWaits.storesCanonical := h.foldl (fun _ _ hz => ite (modView hz (fun _ hx => hx)) hz)

theorem enqueueComet {v : Nat} {c : Comet} (h : s.storesCanonical) : (s.enqueueComet v c).storesCanonical :=
  ite h.bump.orFlags.alert.lapseEvent (markWaits (modView h (fun _ hx => hx)))

theorem closeBlob {v : Nat} {b : Blob} (h : s.storesCanonical) : (s.closeBlob v b).storesCanonical := by
  unfold State.closeBlob
  extract_lets _
  exact ite h.bump h.bump.bumpIf.enqueueComet

theorem sendFragment {v : Nat} {b : Blob} (h : s.storesCanonical) : (s.sendFragment v b).storesCanonical := by
  unfold State.sendFragment
  extract_lets _ _ _
  exact h.foldl (fun _ _ hz => hz.sendComet)

theorem endBlob {v : Nat} {b : Blob} (h : s.storesCanonical) : (s.endBlob v b).storesCanonical := ite h.sendFragment h.closeBlob

theorem forceClose {v flags : Nat} {which : Blob → Bool} (h : s.storesCanonical) : (s.forceClose v flags which).storesCanonical := by
  unfold State.forceClose
  extract_lets _
  exact foldl (modView h (fun _ hx => hx)) (fun _ _ hz => hz.bump.endBlob)

theorem claimFragments {v : Nat} (h : s.storesCanonical) : (s.claimFragments v).storesCanonical := by
  unfold State.claimFragments
  refine foldl h (fun _ _ hz => ?_)
  split
  · exact hz
  · exact modView hz (fun _ hx => hx)

theorem closeFinished {v : Nat} (h : s.storesCanonical) : (s.closeFinished v).storesCanonical := by
  unfold State.closeFinished
  extract_lets _
  exact foldl (modView h (fun _ hx => hx)) (fun _ _ hz => hz.endBlob)

theorem closeFragments {v index : Nat} (h : s.storesCanonical) : (s.closeFragments v index).storesCanonical := by
  unfold State.closeFragments
  extract_lets _
  exact h.foldl (fun _ _ hz => closeBlob (modView hz (fun _ hx => hx)))

theorem settleSeam {v index : Nat} (h : s.storesCanonical) : (s.settleSeam v index).storesCanonical := by
  unfold State.settleSeam
  extract_lets s1
  have hs1 : s1.storesCanonical := modView h (fun _ hx => hx)
  exact hs1.claimFragments.closeFinished.closeFragments

theorem takeEdges {v : Nat} {b : Bytes} (h : s.storesCanonical) : (s.takeEdges v b).storesCanonical := by
  refine settleSeam (foldl h (fun z k hz => modView hz (fun w hw => ?_)))
  split <;> exact hw

theorem takeFragment {v : Nat} {c : Comet} (h : s.storesCanonical) : (s.takeFragment v c).storesCanonical := by
  unfold State.takeFragment
  extract_lets s1
  have hs1 : s1.storesCanonical := modView h (fun _ hx => hx)
  exact hs1.settleSeam

theorem edgeLateNow {v index : Nat} (h : s.storesCanonical) : (s.edgeLateNow v index).storesCanonical := by
  unfold State.edgeLateNow
  extract_lets s1
  have hs1 : s1.storesCanonical := orFlags (bump (modView h (fun _ hx => hx)))
  split
  · exact ite hs1.settleSeam h
  · exact h

theorem segEpochOf {v epoch : Nat} (h : s.storesCanonical) : (s.segEpochOf v epoch).storesCanonical := by
  unfold State.segEpochOf
  extract_lets _ _ s1
  have hs1 : s1.storesCanonical := ite (modView h.forceClose (fun _ hx => hx)) h
  exact modView hs1 (fun _ hx => hx)

theorem segmentLine {s0 : State} {v : Nat} {i : Issue} {g : Geometry} {line : PixLine} {c : Classified} (h : s0.storesCanonical) :
    (s0.segmentLine v i g line c).storesCanonical := by
  unfold State.segmentLine
  extract_lets s' _ _ _ _ _ _ _ _ _ _ _ _ _ _ _ s1 s2 s3 s4 s5
  have hs' : s'.storesCanonical := h.segEpochOf
  have hs1 : s1.storesCanonical := modView hs' (fun _ hx => hx)
  have hs2 : s2.storesCanonical := hs1.bumpBy.bumpBy.bumpBy
  have hs3 : s3.storesCanonical := peak (ite hs2.orFlags hs2)
  have hs4 : s4.storesCanonical := ite hs3.sendComet hs3
  have hs5 : s5.storesCanonical := closeFinished (ite hs4.ejectTraffic hs4)
  exact ite hs5.settleSeam hs5

/-! ## HBM -/

theorem modPch {n : Nat} {f : Pch → Pch} (h : s.storesCanonical) : (s.modPch n f).storesCanonical := h
theorem modStack {k : Nat} {f : Stack → Stack} (h : s.storesCanonical) : (s.modStack k f).storesCanonical := h
theorem modRing {r : Nat} {f : Ring → Ring} (h : s.storesCanonical) : (s.modRing r f).storesCanonical := h

theorem reshapeRing {r : Nat} (h : s.storesCanonical) : (s.reshapeRing r).storesCanonical := by
  unfold State.reshapeRing
  extract_lets _ _ s1 _ _
  have hs1 : s1.storesCanonical := h.modRing.bump
  exact ite (ite hs1.alert hs1) h

theorem hbmServed {port n age t : Nat} {waitedSr : Bool} (h : s.storesCanonical) : (s.hbmServed port n age t waitedSr).storesCanonical := by
  unfold State.hbmServed
  extract_lets _ s1
  have hs1 : s1.storesCanonical := h.bumpIf.bumpIf.peak
  exact hs1.modPch

theorem hbmTouch {port : Nat} {channels : List Nat} (h : s.storesCanonical) : (s.hbmTouch port channels).storesCanonical :=
  h.foldl (fun _ _ hz => ite hz hz.modPch.hbmServed)

theorem hbmFailed {port : Nat} {bursts : List Nat} (h : s.storesCanonical) : (s.hbmFailed port bursts).1.storesCanonical := by
  unfold State.hbmFailed
  extract_lets _
  split
  · exact modHbm h (fun _ hx => hx)
  · exact h

theorem ringStore {q : RingPlan} {a : Nat} {b : Bytes} (h : s.storesCanonical) : (s.ringStore q a b).storesCanonical :=
  h.modHbm (fun _ hm => foldl_wf (P := fun m : Mem => m.wf = true) (fun _ _ hm => Mem.write_wf _ _ hm) _ hm)

theorem ringRecord {r : Nat} {b : Bytes} (h : s.storesCanonical) : (s.ringRecord r b).1.storesCanonical := by
  unfold State.ringRecord
  extract_lets _ _ _
  split
  · exact h
  · split
    · exact h.bump
    · exact h.hbmTouch.ringStore.modRing

theorem imageWrite {v : Nat} {g : Geometry} {l : PixLine} {shift : Nat} (h : s.storesCanonical) : (s.imageWrite v g l shift).storesCanonical := by
  unfold State.imageWrite
  extract_lets _ _ _ _ _ _ _ touched _ s1
  have htouched : touched.storesCanonical := h.hbmTouch
  have hs1 : s1.storesCanonical := ite h.bump htouched.ringStore
  exact ite h hs1.modRing

theorem cropRead {v width : Nat} {w : Nat × Nat × Nat × Nat} (h : s.storesCanonical) : (s.cropRead v width w).storesCanonical := by
  unfold State.cropRead
  extract_lets _
  exact h.foldl (fun _ _ hz => hz.hbmTouch.hbmFailed)

theorem lineWriteDrop {region : Nat} (h : s.storesCanonical) : (s.lineWriteDrop region).storesCanonical := by
  unfold State.lineWriteDrop
  split
  · extract_lets _
    exact ite h h.modRing.bump
  · exact h

theorem tableReads {v k : Nat} (h : s.storesCanonical) : (s.tableReads v k).storesCanonical := h.foldl (fun _ _ hz => ite hz.hbmTouch hz)

theorem relayStatic {k position n : Nat} (h : s.storesCanonical) : (s.relayStatic k position n).storesCanonical := by
  unfold State.relayStatic
  extract_lets held s1
  have hs1 : s1.storesCanonical := foldl h (fun _ _ hz => bump (modView hz (fun _ hw => hw)))
  clear_value s1
  obtain ⟨hmem, htable, hxbuf, hbuffer, hbanks⟩ := id hs1
  refine ite ⟨hmem, htable, hxbuf, fun t ht => ?_, hbanks⟩ hs1
  obtain ⟨x, hx, rfl⟩ := Option.map_eq_some_iff.mp ht
  exact hbuffer x hx

theorem dropRecord {pch pa : Nat} (h : s.storesCanonical) : (s.dropRecord pch pa).storesCanonical := by
  unfold State.dropRecord
  extract_lets _
  refine foldl h (fun _ _ hz => ite ?_ hz)
  split
  · extract_lets s1
    have hs1 : s1.storesCanonical := hz.modEth
    split
    · exact hs1.bumpIf
    · exact hs1
  · exact hz

theorem hbmRewrite {n pa t : Nat} (h : s.storesCanonical) : (s.hbmRewrite n pa t).storesCanonical := ite h (modHbm h (fun _ hx => hx))

theorem dataError {port pch pa : Nat} (h : s.storesCanonical) : (s.dataError port pch pa).storesCanonical := by
  unfold State.dataError
  extract_lets mark
  have hmark : mark.storesCanonical := modHbm h (fun _ hx => hx)
  split
  · exact ite h.dropRecord (ite hmark h.hbmRewrite)
  · split
    · exact ite hmark h
    · extract_lets _ _
      exact ite (ite h.modRing h.bump) (ite h.bump (ite hmark h))

theorem deadAccess {port pch pa : Nat} {write : Bool} (h : s.storesCanonical) : (s.deadAccess port pch pa write).storesCanonical := by
  unfold State.deadAccess
  split
  · exact h.dataError.bumpIf
  · exact ite h h.dataError

theorem endRequests {n : Nat} (h : s.storesCanonical) : (s.endRequests n).storesCanonical := by
  unfold State.endRequests
  extract_lets _
  exact foldl (modHbm h (fun _ hx => hx)) (fun _ _ hz => hz.deadAccess)

theorem retirePch {n cause : Nat} {detail : Bytes} (h : s.storesCanonical) : (s.retirePch n cause detail).storesCanonical := by
  unfold State.retirePch
  extract_lets _ _ s1 s2
  have hs1 : s1.storesCanonical := h.retire.keepOwn.modPch
  have hs2 : s2.storesCanonical := hs1.relayStatic
  exact ite h (endRequests (modHbm hs2 (fun _ hx => hx)))

theorem hbmCorrected {n port pa syndrome : Nat} (h : s.storesCanonical) : (s.hbmCorrected n port pa syndrome).storesCanonical := by
  unfold State.hbmCorrected
  extract_lets _ s1 _ _ s2 _ s3
  have hs1 : s1.storesCanonical := h.bump
  have hs2 : s2.storesCanonical := hs1
  have hs3 : s3.storesCanonical := hs2.putVal
  exact ite hs3.retirePch hs3

theorem hbmUpset {n kind port pa syndrome word : Nat} (h : s.storesCanonical) : (s.hbmUpset n kind port pa syndrome word).storesCanonical := by
  unfold State.hbmUpset
  extract_lets _ s1 s2
  have hs1 : s1.storesCanonical := putVal (ite h.bump h)
  have hs2 : s2.storesCanonical := hs1.upset
  exact ite hs2.retirePch hs2

/-- A write request puts its bytes into HBM. -/
theorem hbmComplete {r : HbmReq} {t : Nat} (h : s.storesCanonical) : (s.hbmComplete r t).storesCanonical := by
  unfold State.hbmComplete
  extract_lets s1 _ good
  have hs1 : s1.storesCanonical := h.hbmServed
  have hgood : good.storesCanonical := hs1.modHbm (fun _ hx => r.apply_wf hx)
  split
  · exact hgood
  · exact ite hgood hgood.hbmCorrected.hbmRewrite
  · exact hgood.bump
  · exact ite hgood hs1.hbmUpset.dataError
  · exact hs1.bump.hbmUpset.dataError

theorem hbmServe {n limit k : Nat} (h : s.storesCanonical) : (State.hbmServe n limit k s).storesCanonical := by
  induction k generalizing s with
  | zero => exact h
  | succ k ih =>
    unfold State.hbmServe
    split
    · exact h
    · exact ite h (ih (hbmComplete (modPch (modHbm h (fun _ hx => hx)))))

theorem hbmSettle (h : s.storesCanonical) : s.hbmSettle.storesCanonical := ite h (h.foldl (fun _ _ hz => hz.hbmServe))
theorem hbmDrain {n : Nat} (h : s.storesCanonical) : (s.hbmDrain n).storesCanonical := h.hbmServe

theorem hbmRequest {port pch pa : Nat} {data : Option Bytes} {outcome : HbmOutcome} (h : s.storesCanonical) :
    (s.hbmRequest port pch pa data outcome).storesCanonical := by
  unfold State.hbmRequest
  extract_lets _ _
  exact ite h.deadAccess (hbmServe (modHbm h.modPch (fun _ hx => hx)))

theorem hbmRefresh {n : Nat} (h : s.storesCanonical) : (s.hbmRefresh n).storesCanonical := by
  unfold State.hbmRefresh
  extract_lets _ _ _ _
  exact ite h (ite h.modPch.bumpIf h)

theorem hbmPowerDown {n : Nat} (h : s.storesCanonical) : (s.hbmPowerDown n).storesCanonical := by
  unfold State.hbmPowerDown
  extract_lets _ _
  exact ite h.modPch h

theorem enterSelfRefresh {n : Nat} (h : s.storesCanonical) : (s.enterSelfRefresh n).storesCanonical := by
  unfold State.enterSelfRefresh
  extract_lets s1 _
  have hs1 : s1.storesCanonical := h.modPch
  exact ite h (ite hs1.modStack hs1)

theorem selfRefresh {n : Nat} (h : s.storesCanonical) : (s.selfRefresh n).storesCanonical := by
  unfold State.selfRefresh
  extract_lets _
  exact ite h.enterSelfRefresh h

theorem leaveSelfRefresh (h : s.storesCanonical) : s.leaveSelfRefresh.storesCanonical := h

theorem stackTemperature {k : Nat} {celsius : Int} (h : s.storesCanonical) : (s.stackTemperature k celsius).storesCanonical := by
  unfold State.stackTemperature
  extract_lets _ _
  exact h.modStack.bumpIf

theorem patrolScrub {n : Nat} {outcome : HbmOutcome} (h : s.storesCanonical) : (s.patrolScrub n outcome).storesCanonical := by
  unfold State.patrolScrub
  extract_lets _ s1
  have hs1 : s1.storesCanonical := h.modPch
  exact ite h hs1.hbmRequest

theorem planRings {num : Nat → Nat} {epoch : Nat} (h : s.storesCanonical) : (s.planRings num epoch).storesCanonical := h

theorem ringsAtFrame {v : Nat} {reached : Nat → Bool} (h : s.storesCanonical) : (s.ringsAtFrame v reached).storesCanonical := by
  unfold State.ringsAtFrame
  refine foldl h (fun _ _ hz => ite ?_ hz)
  split
  · exact ite hz.modRing hz.reshapeRing
  · exact hz.reshapeRing

theorem ringsAtInstant (h : s.storesCanonical) : s.ringsAtInstant.storesCanonical := h

theorem bootRings (h : s.storesCanonical) : s.bootRings.storesCanonical := by
  unfold State.bootRings
  extract_lets _
  exact modHbm h (fun _ hx => hx)

/-! ## Ethernet and time -/

theorem modServo {f : Servo → Servo} (h : s.storesCanonical) : (s.modServo f).storesCanonical := h

theorem tx {p : Nat} {e : Emission} (h : s.storesCanonical) : (s.tx p e).storesCanonical := by
  unfold State.tx
  extract_lets _
  exact h.send

theorem rx {p : Nat} (h : s.storesCanonical) : (s.rx p).storesCanonical := h

theorem arpAsk {p ip : Nat} (h : s.storesCanonical) : (s.arpAsk p ip).storesCanonical := by
  unfold State.arpAsk
  extract_lets _ _ _
  split
  · exact h
  · exact h.modEth.tx

theorem resolve {p ip : Nat} (h : s.storesCanonical) : (s.resolve p ip).1.storesCanonical := by
  unfold State.resolve
  extract_lets _
  split
  · exact h
  · split
    · exact h
    · exact h.arpAsk

theorem arpFrame {p : Nat} {kind : ArpKind} {senderIp senderMac targetIp : Nat} (h : s.storesCanonical) :
    (s.arpFrame p kind senderIp senderMac targetIp).storesCanonical := by
  unfold State.arpFrame
  split
  · exact h
  · split
    · exact ite h.rx.tx h.bump
    · split
      · exact ite h.rx.modEth h.bump
      · exact h.bump

theorem arpRetry {p ip : Nat} (h : s.storesCanonical) : (s.arpRetry p ip).storesCanonical := by
  unfold State.arpRetry
  split
  · exact ite h.modEth.tx h
  · exact h

theorem arpRefresh {p ip : Nat} (h : s.storesCanonical) : (s.arpRefresh p ip).storesCanonical := by
  unfold State.arpRefresh
  split
  · exact ite h.modEth.tx h
  · exact h

theorem arpExpiry {p ip : Nat} (h : s.storesCanonical) : (s.arpExpiry p ip).storesCanonical := by
  unfold State.arpExpiry
  split
  · exact ite h.modEth h
  · exact h

theorem icmpEcho {p ip : Nat} {payload : Bytes} (h : s.storesCanonical) : (s.icmpEcho p ip payload).storesCanonical := by
  unfold State.icmpEcho
  extract_lets _
  exact ite h (ite h.bump (ite h.rx h.rx.modEth.resolve.tx))

theorem rxDrop {p : Nat} {f : RxFrame} (h : s.storesCanonical) : (s.rxDrop p f).storesCanonical := h.bumpIf

theorem ptpLeaves {p kind : Nat} {time : Option Int} {correction stamp : Int} {head : PtpHead} (h : s.storesCanonical) :
    (s.ptpLeaves p kind time correction stamp head).storesCanonical := by
  unfold State.ptpLeaves
  extract_lets _ _
  exact ite (ite h.emit.tx h.emit) (ite (ite h.emit.tx h.emit) (ite h.emit.modEth h.emit.modEth))

theorem ethDrainN {p n : Nat} (h : s.storesCanonical) : (s.ethDrainN p n).storesCanonical := by
  induction n generalizing s with
  | zero => exact h
  | succ n ih =>
    unfold State.ethDrainN
    split
    · exact h
    · refine ih ?_
      split
      · exact ite h.modEth.bump.ptpLeaves h.modEth.bump.emit
      · exact h.modEth.bump.emit

theorem ethDrain {p : Nat} (h : s.storesCanonical) : (s.ethDrain p).storesCanonical := ite h.ethDrainN (ite h h.modEth)

theorem hspPiece {p source : Nat} {dest : HspDest} {counter offset : Nat} {first last coded : Bool} {data : Bytes} (h : s.storesCanonical) :
    (s.hspPiece p source dest counter offset first last coded data).storesCanonical := by
  unfold State.hspPiece
  extract_lets _
  exact h.hbmTouch.modEth.tx.bump

theorem hspRecord {p stream : Nat} {coded : Bool} {record : Bytes} (h : s.storesCanonical) :
    (s.hspRecord p stream coded record).1.storesCanonical := by
  unfold State.hspRecord
  extract_lets r _
  have hr : r.1.storesCanonical := h.resolve
  split
  · exact hr
  · exact hr.foldl (fun _ _ hz => hz.hspPiece)

theorem holdover (h : s.storesCanonical) : s.holdover.storesCanonical := ite h.modServo h.modServo.orFlags

theorem bmca (h : s.storesCanonical) : s.bmca.storesCanonical := by
  unfold State.bmca
  extract_lets _ s1 _ _ _ s2
  have hs1 : s1.storesCanonical := h.foldl (fun _ _ hz => hz.modEth)
  have hs2 : s2.storesCanonical := hs1.modServo
  split
  · extract_lets su s2'
    have hsu : su.storesCanonical := hs1.putNum
    have hs2' : s2'.storesCanonical := hsu.modServo.putNum
    exact ite hsu (ite hs2'.bump.orFlags hs2')
  · exact ite (ite hs2.orFlags hs2) (ite hs1 hs1.holdover)

theorem ethUp {p : Nat} (h : s.storesCanonical) : (s.ethUp p).storesCanonical := ite h.modEth.tx.bmca h
theorem ethDown {p : Nat} (h : s.storesCanonical) : (s.ethDown p).storesCanonical := ite h.ethDrain.modEth.bmca h
theorem announce {p identity rank : Nat} {utc : Int} (h : s.storesCanonical) : (s.announce p identity rank utc).storesCanonical := h.rx.modEth.bmca

theorem announceTimeout {p : Nat} (h : s.storesCanonical) : (s.announceTimeout p).storesCanonical := by
  unfold State.announceTimeout
  extract_lets _ _
  exact ite h.modEth.bmca h

theorem testOffset {o : Int} (h : s.storesCanonical) : (s.testOffset o).storesCanonical :=
  ite (putNum (modServo h)) (ite (bump (modServo h)) (alert (bump (putNum (putNum (orFlags (holdover h)))))))

theorem syncOffset {o : Int} (h : s.storesCanonical) : (s.syncOffset o).storesCanonical := by
  unfold State.syncOffset
  extract_lets s1 s2
  have hs1 : s1.storesCanonical := h.modServo
  have hs2 : s2.storesCanonical := hs1.putNum
  exact ite hs2 hs2.testOffset

theorem syncMeasured {p : Nat} {d : Int} (h : s.storesCanonical) : (s.syncMeasured p d).storesCanonical := h.modEth.syncOffset

theorem syncTaken {p : Nat} {origin correction : Int} {twoStep : Bool} {sequence : Nat} (h : s.storesCanonical) :
    (s.syncTaken p origin correction twoStep sequence).storesCanonical := by
  unfold State.syncTaken
  extract_lets s1
  have hs1 : s1.storesCanonical := h.rx
  exact ite hs1.modEth hs1.syncMeasured

theorem pathMeasured {p : Nat} {both : Int} (h : s.storesCanonical) : (s.pathMeasured p both).storesCanonical := h
theorem syncTimeout (h : s.storesCanonical) : s.syncTimeout.storesCanonical := ite h.holdover h

theorem ptpMessage {p : Nat} {kind : PtpKind} {time : Int} {f : PtpFields} (h : s.storesCanonical) :
    (s.ptpMessage p kind time f).storesCanonical := by
  unfold State.ptpMessage
  extract_lets s1 _ _ _
  have hs1 : s1.storesCanonical := h.rx
  split
  · split
    · exact hs1
    · split
      · exact hs1.bump
      · exact ite hs1.tx hs1
      · exact ite hs1 hs1.tx
      · split
        · exact ite hs1.syncMeasured hs1
        · exact hs1
      · split
        · exact ite hs1.modEth.pathMeasured hs1
        · exact hs1
      · split
        · exact ite hs1 (ite hs1.modEth hs1.modEth.pathMeasured)
        · exact hs1
      · split
        · exact ite hs1 hs1.modEth.pathMeasured
        · exact hs1
  · exact h.bump

theorem ptpSend {p : Nat} {kind : PtpSendKind} (h : s.storesCanonical) : (s.ptpSend p kind).storesCanonical := by
  unfold State.ptpSend
  extract_lets _ _
  exact ite h.modEth.tx h

theorem stepWithdraw (h : s.storesCanonical) : s.stepWithdraw.storesCanonical := by
  unfold State.stepWithdraw
  split
  · exact ite h.modServo h
  · exact h

/-! ## Streams -/

theorem deliverStream {k dest eth : Nat} {coded : Bool} {b : Bytes} (h : s.storesCanonical) :
    (s.deliverStream k dest eth coded b).storesCanonical := by
  unfold State.deliverStream
  extract_lets r s1 r'
  have hr : r.1.storesCanonical := h.ringRecord
  have hs1 : s1.storesCanonical := ite hr.bumpIf h
  have hr' : r'.1.storesCanonical := hs1.hspRecord
  exact ite hr'.bumpIf hs1

theorem queueStream {k dest eth : Nat} {b : Bytes} {bits bands width payload : Nat} (h : s.storesCanonical) :
    (s.queueStream k dest eth b bits bands width payload).storesCanonical := by
  unfold State.queueStream
  extract_lets _
  exact ite (ite h h.bumpIf.bumpIf.bumpIf) h

theorem streamLine {v : Nat} {i : Issue} {l : PixLine} {shift k : Nat} (h : s.storesCanonical) : (s.streamLine v i l shift k).storesCanonical := by
  unfold State.streamLine
  extract_lets _ _ _ _ _ _ _ _ _ _ _ _ _ _ _ _ s1 _ _ _ s2
  have hs1 : s1.storesCanonical := h
  have hs2 : s2.storesCanonical := hs1.bump
  split
  · exact h
  · split
    · exact hs1
    · extract_lets _
      exact ite hs1.bump (ite hs2.queueStream hs2.deliverStream)

theorem streams {v : Nat} {i : Issue} {l : PixLine} {shift : Nat} (h : s.storesCanonical) : (s.streams v i l shift).storesCanonical :=
  h.foldl (fun _ _ hz => hz.streamLine)

theorem resetCics (h : s.storesCanonical) : s.resetCics.storesCanonical := h

/-! ## The DMA engine -/

theorem modDch {c : Nat} {f : Dma → Dma} (h : s.storesCanonical) : (s.modDch c f).storesCanonical := h
theorem releaseUnit {c : Nat} (h : s.storesCanonical) : (s.releaseUnit c).storesCanonical := h
theorem takeUnit {c u action : Nat} (h : s.storesCanonical) : (s.takeUnit c u action).storesCanonical := h

theorem valveUnit {anyEnabled : Bool} (h : s.storesCanonical) : (s.valveUnit anyEnabled).storesCanonical := by
  refine h.modEngine (fun e he => ?_)
  dsimp only
  split
  · split
    · exact he
    · split <;> exact he
  · exact he

theorem dmaSignals {c : Nat} (h : s.storesCanonical) : (s.dmaSignals c).storesCanonical := h.orFlags.event.raise

theorem dmaEnd {c cause code : Nat} (h : s.storesCanonical) : (s.dmaEnd c cause code).storesCanonical := by
  unfold State.dmaEnd
  extract_lets s1 s2 s3
  have hs1 : s1.storesCanonical := h.releaseUnit.modDch
  have hs2 : s2.storesCanonical := modEngine hs1 (fun _ hx => hx)
  have hs3 : s3.storesCanonical := hs2.bumpIf
  exact ite hs3.dmaSignals hs3

theorem dmaReady {c : Nat} (h : s.storesCanonical) : (s.dmaReady c).storesCanonical := by
  unfold State.dmaReady
  extract_lets _ s1
  have hs1 : s1.storesCanonical := h.modDch
  split
  · exact ite (modEngine hs1 (fun _ hx => hx)) hs1
  · exact hs1

theorem dmaUnit {c : Nat} (h : s.storesCanonical) : (s.dmaUnit c).storesCanonical := by
  unfold State.dmaUnit
  split
  · exact h
  · extract_lets _
    exact ite h.dmaReady (ite h.takeUnit.dmaReady (modDch (modEngine h (fun _ hx => hx))))

theorem dmaFetch {c : Nat} (h : s.storesCanonical) : (s.dmaFetch c).storesCanonical := by
  unfold State.dmaFetch
  extract_lets _ _ s1 s2
  have hs1 : s1.storesCanonical := h.modDch
  have hs2 : s2.storesCanonical := hs1.modDch
  split
  · split
    · exact hs1.dmaEnd
    · exact ite hs2.modDch hs2.dmaUnit
  · exact h

theorem followReady {c : Nat} (h : s.storesCanonical) : (s.followReady c).storesCanonical := by
  unfold State.followReady
  extract_lets _
  split
  · exact ite h.modDch.dmaUnit h
  · exact h

theorem grantUnit {u : Nat} (h : s.storesCanonical) : (s.grantUnit u).storesCanonical := by
  unfold State.grantUnit
  split
  · split
    · exact h
    · extract_lets s1
      have hs1 : s1.storesCanonical := modEngine h (fun _ hx => hx)
      exact ite (modEngine hs1 (fun _ hx => hx)) hs1.takeUnit.dmaReady
  · exact h

theorem flightEntry (h : s.storesCanonical) : s.flightEntry.storesCanonical := by
  unfold State.flightEntry
  split
  · split
    · exact h.modDch
    · exact h
  · exact h

theorem dmaStart {c n : Nat} (h : s.storesCanonical) : (s.dmaStart c n).storesCanonical := h

theorem dmaAccess {port a n : Nat} (h : s.storesCanonical) : (s.dmaAccess port a n).storesCanonical := by
  unfold State.dmaAccess
  extract_lets _
  exact ite h h.hbmTouch.hbmFailed

theorem xbufReplaced (h : s.storesCanonical) : s.xbufReplaced.storesCanonical := h

theorem ringByte {q : RingPlan} {a : Nat} {b : Byte} (h : s.storesCanonical) : (s.ringByte q a b).storesCanonical :=
  ite h (h.modHbm (fun _ hx => Mem.write_wf _ _ hx))

theorem dmaWrite {a : Nat} {l : List (Nat × Byte)} (h : s.storesCanonical) : (s.dmaWrite a l).storesCanonical := by
  refine ite (h.foldl (fun _ _ hz => hz.ringByte)).bumpIf (ite (xbufReplaced (modEngine h (fun e he => ?_))) h)
  obtain ⟨htable, hxbuf⟩ := he
  exact ⟨htable, foldl_wf (P := fun m : Mem => m.wf = true) (fun _ _ hm => Mem.write_wf _ _ hm) _ hxbuf⟩

theorem ringControls {n : Nat} {d : Bytes} {outBytes : Nat} (h : s.storesCanonical) : (s.ringControls n d outBytes).storesCanonical := by
  have hput : ∀ (z : State) (o v : Nat), z.storesCanonical →
      (z.modEngine (fun e => { e with table := Mem.writeBytes e.table (32 * n + o) (leBytes 8 v) })).storesCanonical :=
    fun z o v hz => hz.modEngine (fun _ ⟨htable, hxbuf⟩ => ⟨Mem.writeBytes_wf _ _ htable, hxbuf⟩)
  unfold State.ringControls
  extract_lets src s1 now put s2
  have hs1 : s1.storesCanonical := ite h.modRing h
  have hs2 : s2.storesCanonical := ite (hput s1 _ _ hs1) hs1
  exact ite (hput s2 _ _ hs2) hs2

theorem dmaNextDesc {c : Nat} {d : Bytes} (h : s.storesCanonical) : (s.dmaNextDesc c d).storesCanonical := by
  unfold State.dmaNextDesc
  extract_lets s1 s2
  have hs1 : s1.storesCanonical := h.bump
  have hs2 : s2.storesCanonical := ite hs1.dmaSignals hs1
  exact ite hs2.dmaEnd hs2.modDch

theorem dmaFinish {c : Nat} {d src out : Bytes} {outBytes : Nat} (h : s.storesCanonical) : (s.dmaFinish c d src out outBytes).storesCanonical := by
  unfold State.dmaFinish
  extract_lets _ _ _ s1 _ _ _ s2
  have hs1 : s1.storesCanonical := h.modDch
  have hs2 : s2.storesCanonical := hs1.modDch.releaseUnit
  exact ite hs1.ringControls.dmaNextDesc (ite hs1.modDch.ringControls.dmaNextDesc (ite hs2.bump.dmaEnd hs2.ringControls.dmaNextDesc))

theorem dmaHsp {c p : Nat} {coded : Bool} {total : Nat} {out : Bytes} {k sent : Nat} (h : s.storesCanonical) :
    (s.dmaHsp c p coded total out k sent).1.storesCanonical := by
  induction k generalizing s sent with
  | zero => exact h
  | succ k ih =>
    unfold State.dmaHsp
    extract_lets _ r
    have hr : r.1.storesCanonical := h.resolve
    split
    · exact h
    · split
      · exact h
      · split
        · exact ih hr.bump
        · split
          · exact h
          · exact ih hr.hspPiece

theorem dmaStatus {c : Nat} {d : Bytes} {sent : Nat} (h : s.storesCanonical) : (s.dmaStatus c d sent).storesCanonical := h

theorem dmaDataError {c : Nat} {d : Bytes} (h : s.storesCanonical) : (s.dmaDataError c d).storesCanonical := by
  unfold State.dmaDataError
  extract_lets _ _ _ s1 _ r
  have hs1 : s1.storesCanonical := h.dmaAccess.dmaAccess
  have hr : r.1.storesCanonical := hs1.dmaHsp
  exact ite hr.dmaStatus.dmaEnd hs1.dmaWrite.dmaStatus.dmaEnd

theorem descriptorDone {c : Nat} (h : s.storesCanonical) : (s.descriptorDone c).storesCanonical := by
  unfold State.descriptorDone
  extract_lets _
  split
  · exact h
  · extract_lets _ s1
    have hs1 : s1.storesCanonical := h.dmaAccess
    split
    · exact h
    · split
      · exact h.dmaDataError
      · extract_lets _ _ r
        have hr : r.1.storesCanonical := hs1.dmaHsp
        exact ite h.dmaDataError (ite (ite hr.dmaFinish hr.modDch) hs1.dmaAccess.dmaWrite.dmaFinish)

theorem busError {c : Nat} (h : s.storesCanonical) : (s.busError c).storesCanonical := by
  unfold State.busError
  extract_lets _
  split
  · exact h
  · exact ite h.dmaStatus.dmaEnd h

theorem partialWrite {x : Dma} {d : Bytes} {sent : Nat} (h : s.storesCanonical) : (s.partialWrite x d sent).storesCanonical := by
  unfold State.partialWrite
  extract_lets s1
  have hs1 : s1.storesCanonical := h.dmaAccess
  exact hs1.dmaAccess.dmaWrite

theorem dmaCut {c : Nat} (h : s.storesCanonical) : (s.dmaCut c).storesCanonical := by
  unfold State.dmaCut
  extract_lets _
  split
  · exact h
  · extract_lets _
    exact ite h (ite h.dmaStatus h.partialWrite.drawn.dmaStatus)

theorem dmaStop {c : Nat} (h : s.storesCanonical) : (s.dmaStop c).storesCanonical := by
  unfold State.dmaStop
  extract_lets _ _
  exact ite h (ite h.drawn.descriptorDone (ite h.dmaCut.modDch.dmaEnd h.dmaCut.dmaEnd))

theorem dmaRingLost {r : Nat} (h : s.storesCanonical) : (s.dmaRingLost r).storesCanonical := by
  unfold State.dmaRingLost
  refine foldl h (fun _ _ hz => ?_)
  split
  · exact ite (dmaEnd (ite hz.dmaStatus hz.dmaCut)) hz
  · exact hz

theorem ringsLost {s before : State} (h : s.storesCanonical) : (s.ringsLost before).storesCanonical := h.foldl (fun _ _ hz => ite hz.dmaRingLost hz)
theorem ringsStart {v : Nat} {reached : Nat → Bool} (h : s.storesCanonical) : (s.ringsStart v reached).storesCanonical := h.ringsAtFrame.ringsLost
theorem ringsInstant (h : s.storesCanonical) : s.ringsInstant.storesCanonical := h.ringsAtInstant.ringsLost
theorem dmaForced (h : s.storesCanonical) : s.dmaForced.storesCanonical := h.foldl (fun _ _ hz => ite hz.dmaCut.dmaEnd hz)
theorem dmaDefer (h : s.storesCanonical) : s.dmaDefer.storesCanonical := h.bumpIf
theorem dmaUnpark (h : s.storesCanonical) : s.dmaUnpark.storesCanonical := h
theorem dmaPark (h : s.storesCanonical) : s.dmaPark.storesCanonical := h

theorem dmaParity {c : Nat} (h : s.storesCanonical) : (s.dmaParity c).storesCanonical := by
  unfold State.dmaParity
  extract_lets s1 s2
  have hs1 : s1.storesCanonical := h.upset
  have hs2 : s2.storesCanonical := hs1.retire
  exact ite h (ite (ite hs2 hs2.dmaCut.dmaEnd) hs1)

theorem codecBusyFor {raw : Nat} (h : s.storesCanonical) : (s.codecBusyFor raw).storesCanonical := h
theorem codecWorked {raw block : Nat} (h : s.storesCanonical) : (s.codecWorked raw block).storesCanonical := h
theorem codecCount {b : Coded} {raw : Nat} (h : s.storesCanonical) : (s.codecCount b raw).storesCanonical := h.codecWorked.bump.bumpIf
theorem leaveCodec {c : Nat} (h : s.storesCanonical) : (s.leaveCodec c).storesCanonical := h

theorem codecOut {c : Nat} {d out : Bytes} (h : s.storesCanonical) : (s.codecOut c d out).storesCanonical := by
  unfold State.codecOut
  extract_lets _ r
  have hr : r.1.storesCanonical := h.dmaHsp
  exact ite (ite hr.leaveCodec.dmaFinish hr.modDch) h.leaveCodec.dmaAccess.dmaWrite.dmaFinish

theorem codecDma {c : Nat} {fault : Bool} (h : s.storesCanonical) : (s.codecDma c fault).storesCanonical := by
  unfold State.codecDma
  split
  · exact h.leaveCodec
  split
  · exact h.codecOut
  split
  · exact h.dmaAccess.leaveCodec.dmaEnd
  extract_lets s1 put
  have hs1 : s1.storesCanonical := h.dmaAccess
  have hput : ∀ (t : State) (out : Bytes), t.storesCanonical → (put t out).storesCanonical :=
    fun _ _ ht => ite ht.dmaAccess.leaveCodec.dmaEnd ht.codecOut
  split
  · exact ite hs1.leaveCodec.codecBusyFor.bumpIf.bump.dmaEnd (hput _ _ hs1.codecCount)
  · split
    · exact hs1.leaveCodec.codecBusyFor.bump.dmaEnd
    · exact hput _ _ hs1.codecWorked

theorem codecNext {fault : Bool} (h : s.storesCanonical) : (s.codecNext fault).storesCanonical := by
  unfold State.codecNext
  split
  · exact h.codecDma
  · exact modEngine h (fun _ hx => hx)
  · exact h

theorem codecBlock {fault : Bool} (h : s.storesCanonical) : (s.codecBlock fault).storesCanonical := by
  unfold State.codecBlock
  split
  · exact h.codecNext
  · split
    · extract_lets _
      exact deliverStream (codecCount (modEngine h (fun _ hx => hx)))
    · exact modEngine h (fun _ hx => hx)
    · exact h.codecNext

end State.storesCanonical

end Sys2Proof.Machine
end

section
/-! PROOFS. Every store of bytes stays canonical (for O59): the operations on the tracker, the bricks, the outputs and the event fabric, in
the model's order. -/

namespace Sys2Proof.Machine
namespace State.storesCanonical

variable {s : State}

/-! ## The tracker -/

theorem modBus {b : Nat} {f : Bus → Bus} (h : s.storesCanonical) : (s.modBus b f).storesCanonical := h

theorem reviewGuarantee (h : s.storesCanonical) : s.reviewGuarantee.storesCanonical := by
  unfold State.reviewGuarantee
  extract_lets _ _ s1 _
  have hs1 : s1.storesCanonical := h.foldl (fun _ _ hz => ite hz.lapse hz)
  exact hs1.modPower

theorem guaranteeHeld (h : s.storesCanonical) : s.guaranteeHeld.storesCanonical := by
  unfold State.guaranteeHeld
  split
  · exact ite h.putNum.modPower h
  · exact h

theorem request {n : Nat} (h : s.storesCanonical) : (s.request n).storesCanonical := by
  unfold State.request
  extract_lets s1
  have hs1 : s1.storesCanonical := h
  split
  · extract_lets _ s2
    have hs2 : s2.storesCanonical := hs1.peak
    exact ite hs2.lapseEvent hs2
  · exact hs1

theorem trackerRecord {ring : Nat} {b : Bytes} (h : s.storesCanonical) : (s.trackerRecord ring b).storesCanonical := by
  unfold State.trackerRecord
  extract_lets r
  have hr : r.1.storesCanonical := h.ringRecord
  exact ite hr.bumpIf h

theorem leaveEntry {x : Entry} (h : s.storesCanonical) : (s.leaveEntry x).storesCanonical := by
  unfold State.leaveEntry
  extract_lets s1
  have hs1 : s1.storesCanonical := h.foldl (fun _ _ hz => ite hz hz.trackerRecord)
  split
  · extract_lets s2
    have hs2 : s2.storesCanonical := hs1.trackerRecord
    exact ite (ite hs2 hs2.drawn.drawn) hs1
  · exact hs1

theorem reviewEntries (h : s.storesCanonical) : s.reviewEntries.storesCanonical := by
  unfold State.reviewEntries
  extract_lets _
  exact foldl h (fun _ _ hz => hz.leaveEntry)

theorem reviseEntry {old x : Entry} (h : s.storesCanonical) : (s.reviseEntry old x).1.storesCanonical := by
  unfold State.reviseEntry
  extract_lets _ _ _ _ _ _
  exact h.bumpIf.request

theorem reviseComet {p : Track → Bool} {f : Track → Track} (h : s.storesCanonical) : (s.reviseComet p f).storesCanonical := by
  unfold State.reviseComet
  split
  · exact h
  · extract_lets _ r y
    have hr : r.1.storesCanonical := h.reviseEntry
    have hy : y.storesCanonical := hr
    exact ite (reviewEntries hy) (reviewEntries h)

theorem editComet {id : Nat} {f : Comet → Comet} (h : s.storesCanonical) : (s.editComet id f).storesCanonical := h

theorem sendToOwners {v : Nat} {c : Comet} (h : s.storesCanonical) : (s.sendToOwners v c).storesCanonical := by
  unfold State.sendToOwners
  extract_lets _ _
  exact h.foldl (fun _ _ hz => ite hz.bump hz.sendComet)

theorem countEntry {v tflags : Nat} {late : Bool} (h : s.storesCanonical) : (s.countEntry v tflags late).storesCanonical := h.bumpIf.bumpIf.bumpIf

theorem schedule {v : Nat} {x : Entry} (h : s.storesCanonical) : (s.schedule v x).1.storesCanonical := by
  unfold State.schedule
  extract_lets _ _ _ s1 _ s2
  have hs1 : s1.storesCanonical := h.countEntry.bump
  have hs2 : s2.storesCanonical := ite hs1.bumpBy hs1
  exact hs2.request

theorem keepComet {t : Track} {epoch : Nat} {shared : Bool} (h : s.storesCanonical) : (s.keepComet t epoch shared).storesCanonical := by
  unfold State.keepComet
  extract_lets _
  exact ite h h.leaveEntry

theorem enterComet {s0 : State} {v : Nat} {c : Comet} {action : Nat} {matched : Bool} {tflags0 : Nat} (h : s0.storesCanonical) :
    (s0.enterComet v c action matched tflags0).storesCanonical := by
  unfold State.enterComet
  extract_lets s' _ _ _ _ _ full _ peaked s1 _ _ r y _ s2 s3
  have hs' : s'.storesCanonical := h.reviewEntries
  have hfull : full.storesCanonical := hs'.bump.lapseEvent
  have hpeaked : peaked.storesCanonical := hs'.peak
  have hs1 : s1.storesCanonical := ite hpeaked.sendToOwners hpeaked
  have hr : r.1.storesCanonical := hs1.schedule
  have hy : y.storesCanonical := hr
  have hs2 : s2.storesCanonical := hy
  have hs3 : s3.storesCanonical := by
    unfold s3
    split <;> exact hs2
  split
  · exact hs'.keepComet
  · split
    · exact keepComet (ite hfull.sendToOwners hfull)
    · split
      · exact hs3.reviewEntries
      · extract_lets _ _ _ s2' _ _ s3' s4 s5 _ _ r' _ _ y'
        have hs2' : s2'.storesCanonical := by
          unfold s2'
          refine foldl ?_ (fun _ _ hz => bump hz)
          split
          · exact hs1.bump
          · exact hs1
        have hs3' : s3'.storesCanonical := hs2'.bump.bump.countEntry
        have hs4 : s4.storesCanonical := hs3'.bump
        have hs5 : s5.storesCanonical := ite hs4.bumpBy hs4
        have hr' : r'.1.storesCanonical := hs5.reviseEntry
        have hy' : y'.storesCanonical := hr'
        exact reviewEntries hy'

theorem fuseHold {id : Nat} (h : s.storesCanonical) : (s.fuseHold id).storesCanonical := h

theorem returnOpen {c : Comet} (h : s.storesCanonical) : (s.returnOpen c).storesCanonical := by
  unfold State.returnOpen
  split
  · split
    · split
      · exact h.emit
      · exact h
    · exact h
  · exact h

theorem remoteComet {v : Nat} {c : Comet} (h : s.storesCanonical) : (s.remoteComet v c).storesCanonical := by
  unfold State.remoteComet
  extract_lets _ _ _ s1
  have hs1 : s1.storesCanonical := h.bump
  split
  · extract_lets _
    exact ite h (ite h.reviseComet (reviewEntries h))
  · exact ite hs1.enterComet.returnOpen hs1

theorem countCleared {x : Entry} (h : s.storesCanonical) : (s.countCleared x).storesCanonical := ite (h.foldl (fun _ _ hz => hz.bumpBy)) h

theorem holdAll (h : s.storesCanonical) : s.holdAll.storesCanonical := by
  unfold State.holdAll
  extract_lets _ s1
  have hs1 : s1.storesCanonical := request (h.foldl (fun _ _ hz => hz.countCleared))
  exact hs1

theorem armAll (h : s.storesCanonical) : s.armAll.storesCanonical := by
  unfold State.armAll
  extract_lets _ _
  exact request h

theorem clearAll (h : s.storesCanonical) : s.clearAll.storesCanonical := by
  unfold State.clearAll
  extract_lets _ s1 _
  have hs1 : s1.storesCanonical := request (h.foldl (fun _ _ hz => hz.countCleared))
  exact foldl hs1 (fun _ _ hz => hz.leaveEntry)

theorem beltLost {c : Nat} (h : s.storesCanonical) : (s.beltLost c).storesCanonical := by
  unfold State.beltLost
  extract_lets _ _ _ _
  exact reviewEntries (request h)

theorem beltEntry {x : Entry} (h : s.storesCanonical) : (s.beltEntry x).1.storesCanonical := by
  unfold State.beltEntry
  extract_lets _ _ _
  split
  · exact h.bumpIf.request
  · exact h

theorem beltReview (h : s.storesCanonical) : s.beltReview.storesCanonical := by
  have hfold : ∀ (l : List Entry) (q : State × List Entry), q.1.storesCanonical → (l.foldl (fun (acc : State × List Entry) x =>
      let q := acc.1.beltEntry x
      (q.1, q.2 :: acc.2)) q).1.storesCanonical := by
    intro l
    induction l with
    | nil => exact fun _ hq => hq
    | cons x l ih => exact fun q hq => ih _ hq.beltEntry
  exact hfold s.entries (s, []) h

theorem planTick {b : Nat} {st en : Int} (h : s.storesCanonical) : (s.planTick b st en).storesCanonical := h

/-! ## The brick array -/

theorem modTile {t : Nat} {f : Tile → Tile} (h : s.storesCanonical) : (s.modTile t f).storesCanonical := h
theorem modSlot {n : Nat} {f : Slot → Slot} (h : s.storesCanonical) : (s.modSlot n f).storesCanonical := h
theorem setJob {t b : Nat} {j : BrickJob} (h : s.storesCanonical) : (s.setJob t b j).storesCanonical := h

theorem tileLight {t : Nat} (h : s.storesCanonical) : (s.tileLight t).storesCanonical := by
  unfold State.tileLight
  extract_lets _
  exact ite h.modTile h

theorem modelAccess {port k n : Nat} (h : s.storesCanonical) : (s.modelAccess port k n).storesCanonical := h.hbmTouch

theorem weightReads (h : s.storesCanonical) : s.weightReads.storesCanonical :=
  h.foldl (fun _ _ hz => ite (hz.foldl (fun _ _ hz' => hz'.modelAccess)) hz)

theorem giveWeights (h : s.storesCanonical) : s.giveWeights.storesCanonical := by
  unfold State.giveWeights
  extract_lets y
  have hy : y.storesCanonical := h.weightReads
  exact hy

theorem slotEmptied {n state : Nat} (h : s.storesCanonical) : (s.slotEmptied n state).storesCanonical := h
theorem slotLoaded {n : Nat} {model : Bytes} (h : s.storesCanonical) : (s.slotLoaded n model).storesCanonical := h
theorem modelCopies {n : Nat} (h : s.storesCanonical) : (s.modelCopies n).storesCanonical := h.foldl (fun _ _ hz => hz.modelAccess)

theorem modelCheck {n : Nat} (h : s.storesCanonical) : (s.modelCheck n).storesCanonical := by
  unfold State.modelCheck
  extract_lets _ _ s1
  have hs1 : s1.storesCanonical := h.modSlot.giveWeights
  exact ite h hs1.completeResult.modelCopies

theorem norStored {n : Nat} (h : s.storesCanonical) : (s.norStored n).storesCanonical := ite h.modSlot h

theorem bootSlots (h : s.storesCanonical) : s.bootSlots.storesCanonical := by
  unfold State.bootSlots
  extract_lets empty
  have hempty : empty.storesCanonical := h
  refine giveWeights (foldl hempty (fun _ _ hz => ?_))
  split
  · exact hz.modSlot
  · extract_lets s1
    have hs1 : s1.storesCanonical := hz.modSlot
    split <;> exact hs1.modSlot

theorem unitBack {v unit : Nat} (h : s.storesCanonical) : (s.unitBack v unit).storesCanonical := modView h (fun _ hx => hx)

theorem giveUnit {t b : Nat} (h : s.storesCanonical) : (s.giveUnit t b).storesCanonical := by
  unfold State.giveUnit
  split
  · split
    · exact h
    · split
      · exact setJob (modView h (fun _ hx => hx))
      · exact h
  · exact h

theorem giveUnits (h : s.storesCanonical) : s.giveUnits.storesCanonical := ite h (h.foldl (fun _ _ hz => hz.foldl (fun _ _ hz' => hz'.giveUnit)))

theorem buildUnit {v t b : Nat} (h : s.storesCanonical) : (s.buildUnit v t b).storesCanonical := by
  unfold State.buildUnit
  split
  · exact ite h.setJob.buildUnitDone.bump.giveUnits h
  · exact h

theorem disposeComet {v id action disposition flags : Nat} (h : s.storesCanonical) :
    (s.disposeComet v id action disposition flags).storesCanonical := by
  unfold State.disposeComet
  extract_lets _ _
  split
  · exact h
  · extract_lets s1
    have hs1 : s1.storesCanonical := ite h.sendToOwners h
    exact ite (reviewEntries hs1) hs1.reviseComet

theorem defaultComet {v id : Nat} (h : s.storesCanonical) : (s.defaultComet v id).storesCanonical := by
  unfold State.defaultComet
  extract_lets s1
  have hs1 : s1.storesCanonical := h
  split
  · exact h
  · extract_lets _
    exact ite hs1.bump.disposeComet h

theorem tDecExpiry {id : Nat} (h : s.storesCanonical) : (s.tDecExpiry id).storesCanonical := by
  unfold State.tDecExpiry
  extract_lets s1
  have hs1 : s1.storesCanonical := by
    unfold s1
    split
    · exact h.setJob.bump
    · exact h
  split
  · exact h
  · exact ite hs1.defaultComet.giveUnits h

theorem runsNow (h : s.storesCanonical) : s.runsNow.storesCanonical := h

theorem takeOpen {id tOpen : Nat} (h : s.storesCanonical) : (s.takeOpen id tOpen).storesCanonical := by
  unfold State.takeOpen
  extract_lets _
  split
  · exact h
  · extract_lets _ s1
    have hs1 : s1.storesCanonical := h
    exact ite h hs1

theorem arrive {m : Matched} (h : s.storesCanonical) : (s.arrive m).storesCanonical := ite h.defaultComet (ite h.bump.orFlags.defaultComet h)

theorem placeOn {m : Matched} {t b : Nat} (h : s.storesCanonical) : (s.placeOn m t b).storesCanonical := by
  unfold State.placeOn
  extract_lets s1
  have hs1 : s1.storesCanonical := by
    unfold s1
    split
    · exact h.unitBack.bump
    · exact h
  exact hs1.bumpIf.setJob

theorem dispatch (h : s.storesCanonical) : s.dispatch.storesCanonical := by
  unfold State.dispatch
  split
  · exact h.giveUnits
  · extract_lets popped
    have hpopped : popped.storesCanonical := h
    split
    · exact hpopped
    · extract_lets _
      split
      · exact ite hpopped.placeOn.giveUnits hpopped.defaultComet
      · exact ite h hpopped.defaultComet

theorem abandon {t b : Nat} {again : Bool} (h : s.storesCanonical) : (s.abandon t b again).storesCanonical := by
  unfold State.abandon
  extract_lets s1
  have hs1 : s1.storesCanonical := h.setJob.bump
  split
  · exact h
  · exact h.setJob.unitBack
  · exact ite hs1.arrive hs1.defaultComet

theorem keepCrop {v id : Nat} {b : Bytes} (h : s.storesCanonical) : (s.keepCrop v id b).storesCanonical := by
  unfold State.keepCrop
  extract_lets r _
  have hr : r.1.storesCanonical := h.ringRecord
  exact ite (editComet (modView hr (fun _ hx => hx))) hr

theorem cropFetch {t b : Nat} (h : s.storesCanonical) : (s.cropFetch t b).storesCanonical := by
  unfold State.cropFetch
  split
  · extract_lets _
    split
    · exact h.setJob
    · extract_lets _ _ _ _ _ read s1 _ _
      have hread : read.storesCanonical := h.cropRead
      have hs1 : s1.storesCanonical := ite hread.keepCrop hread
      exact ite h.setJob.bump.defaultComet.giveUnits (ite h hs1.setJob.modTile)
  · exact h

theorem runEnd {t b : Nat} (h : s.storesCanonical) : (s.runEnd t b).storesCanonical := by
  unfold State.runEnd
  split
  · extract_lets _ _ s1 s1' _ s3 s2
    have hs1 : s1.storesCanonical := h.setJob.bump.modTile
    have hs1' : s1'.storesCanonical := ite hs1.ejectTraffic hs1
    have hs3 : s3.storesCanonical := hs1'.editComet.bump
    have hs2 : s2.storesCanonical := by
      unfold s2
      split
      · exact hs1
      · extract_lets _ _
        exact ite (ite hs3.disposeComet hs3.disposeComet) hs1.defaultComet
    exact ite h hs2.giveUnits
  · exact h

theorem abandonTile {t : Nat} {again : Bool} (h : s.storesCanonical) : (s.abandonTile t again).storesCanonical := h.foldl (fun _ _ hz => hz.abandon)

theorem retireTile {t : Nat} (h : s.storesCanonical) : (s.retireTile t).storesCanonical := by
  unfold State.retireTile
  extract_lets s1 _
  have hs1 : s1.storesCanonical := h.retire.abandonTile
  exact ite hs1.retireRegion hs1

theorem retireBrick {t b : Nat} (h : s.storesCanonical) : (s.retireBrick t b).storesCanonical := by
  unfold State.retireBrick
  extract_lets _ s1 s2 _ _ s2'
  have hs1 : s1.storesCanonical := h.retire
  have hs2 : s2.storesCanonical := hs1.unretire
  have hs2' : s2'.storesCanonical := hs1.modTile
  exact ite (modTile hs2) (ite hs2'.retireTile hs2')

theorem tileUpset {t unit inst window threshold : Nat} {gone : State → State} (h : s.storesCanonical)
    (hgone : ∀ z : State, z.storesCanonical → (gone z).storesCanonical) :
    (s.tileUpset t unit inst window threshold gone).storesCanonical :=
  ite h (ite (hgone _ h.upset) h.upset)

theorem brickUpset {t b : Nat} (h : s.storesCanonical) : (s.brickUpset t b).storesCanonical :=
  ite (h.abandon.tileUpset (fun _ hz => hz.retireBrick)).giveUnits h

theorem sramError {t : Nat} {corrected : Bool} {slot : Nat} (h : s.storesCanonical) : (s.sramError t corrected slot).storesCanonical := by
  refine ite (ite h.bump ?_) h
  refine giveUnits (tileUpset (foldl h.modelAccess (fun z b hz => ?_)) (fun _ hz => hz.retire.retireTile))
  split
  · exact ite hz.abandon hz
  · exact hz

theorem tileReset {t : Nat} (h : s.storesCanonical) : (s.tileReset t).storesCanonical :=
  ite (h.bump.abandonTile.tileUpset (fun _ hz => hz.retireTile)).modTile.giveUnits h

theorem gateTiles (h : s.storesCanonical) : s.gateTiles.storesCanonical := by
  unfold State.gateTiles
  extract_lets _ s1
  have hs1 : s1.storesCanonical := h.foldl (fun _ _ hz => hz.abandonTile)
  exact hs1

theorem tilesOff (h : s.storesCanonical) : s.tilesOff.storesCanonical := by
  unfold State.tilesOff
  extract_lets s1
  have hs1 : s1.storesCanonical := h.foldl (fun _ _ hz => hz.abandonTile)
  exact hs1

theorem tilesOn (h : s.storesCanonical) : s.tilesOn.storesCanonical := giveUnits (giveWeights h)

theorem bootTiles (h : s.storesCanonical) : s.bootTiles.storesCanonical := by
  unfold State.bootTiles
  extract_lets _ fresh
  have hfresh : fresh.storesCanonical := h
  exact hfresh.foldl (fun _ _ hz => ite hz.modTile hz)

theorem cometRelease {v : Nat} (h : s.storesCanonical) : (s.cometRelease v).storesCanonical := by
  unfold State.cometRelease
  extract_lets _ _ _
  split
  · exact h
  · extract_lets s1 s1' s1'' _ s2 s3 _
    have hs1 : s1.storesCanonical := modPower (modView h (fun _ hx => hx))
    have hs1' : s1'.storesCanonical := hs1.markWaits
    have hs1'' : s1''.storesCanonical := ite hs1'.ejectTraffic hs1'
    have hs2 : s2.storesCanonical := ite hs1''.bump.lapseEvent hs1''
    have hs3 : s3.storesCanonical := hs2.bump.enterComet
    split
    · exact h
    · split
      · split
        · exact hs3.arrive
        · exact hs3
      · exact hs2.enterComet

/-! ## Valve buses -/

theorem fixFrame {b st en : Nat} (h : s.storesCanonical) : (s.fixFrame b st en).storesCanonical := by
  unfold State.fixFrame
  extract_lets _ _ _ _ _ _ s1 _ s1'
  have hs1 : s1.storesCanonical := h.modBus
  have hs1' : s1'.storesCanonical := ite h.modBus h.bumpBy.modBus
  exact ite (ite hs1 hs1.putVal) hs1'.planTick

theorem sendFrame {b : Nat} (h : s.storesCanonical) : (s.sendFrame b).storesCanonical := by
  unfold State.sendFrame
  extract_lets _
  exact ite h (ite h.bump.modBus h.modBus.emit)

theorem tickStart {b : Nat} (h : s.storesCanonical) : (s.tickStart b).storesCanonical := by
  unfold State.tickStart
  extract_lets _ _ _ _ _ _ s1 s2
  have hs1 : s1.storesCanonical := h.modBus.beltReview.modBus
  have hs2 : s2.storesCanonical := ite hs1.emit hs1
  exact ite h hs2.fixFrame.sendFrame.raise.reviewEntries

theorem statusFrame {b : Nat} {frame : Bytes} (h : s.storesCanonical) : (s.statusFrame b frame).storesCanonical := ite h.modBus h

theorem busUpset {b : Nat} (h : s.storesCanonical) : (s.busUpset b).storesCanonical := by
  unfold State.busUpset
  extract_lets s1
  have hs1 : s1.storesCanonical := h.modBus
  exact ite hs1 hs1.upset

theorem statusBad {b counter : Nat} (h : s.storesCanonical) : (s.statusBad b counter).storesCanonical := by
  unfold State.statusBad
  extract_lets s1 s2
  have hs1 : s1.storesCanonical := h.bump.orFlags.busUpset
  have hs2 : s2.storesCanonical := hs1.modBus
  exact ite hs2.retire.modBus.emit hs2

theorem statusGood {b : Nat} {f : Bytes} (h : s.storesCanonical) : (s.statusGood b f).storesCanonical := by
  unfold State.statusGood
  extract_lets _ _ s1 s2 s3 _ _ s4 _ s5
  have hs1 : s1.storesCanonical := h.putNum.putNum
  have hs2 : s2.storesCanonical := ite hs1.orFlags hs1
  have hs3 : s3.storesCanonical := ite hs2.alert hs2
  have hs4 : s4.storesCanonical := hs3
  have hs5 : s5.storesCanonical := ite hs4.bump.orFlags.busUpset hs4
  exact hs5.modBus

theorem statusJudge {b : Nat} (h : s.storesCanonical) : (s.statusJudge b).storesCanonical := by
  unfold State.statusJudge
  extract_lets _ s1
  have hs1 : s1.storesCanonical := h.modBus
  split
  · split
    · exact hs1.statusBad
    · exact ite hs1.statusBad (ite hs1.statusBad hs1.statusGood)
  · exact h

theorem startBus {b : Nat} (h : s.storesCanonical) : (s.startBus b).storesCanonical := by
  unfold State.startBus
  extract_lets s1
  have hs1 : s1.storesCanonical := h.modBus
  exact ite hs1.emit hs1

theorem vbPresent {b : Nat} (h : s.storesCanonical) : (s.vbPresent b).storesCanonical := by
  unfold State.vbPresent
  extract_lets _ s1
  have hs1 : s1.storesCanonical := h.modBus
  exact ite hs1 (ite hs1.startBus.alert (ite hs1.unretire.startBus.alert hs1))

theorem vbAbsent {b : Nat} (h : s.storesCanonical) : (s.vbAbsent b).storesCanonical := by
  unfold State.vbAbsent
  extract_lets _ s1
  have hs1 : s1.storesCanonical := h.modBus
  exact ite hs1 (ite hs1.modBus.bump.alert.emit (ite hs1.modBus hs1))

theorem busStartIdle {b : Nat} (h : s.storesCanonical) : (s.busStartIdle b).storesCanonical := by
  unfold State.busStartIdle
  split
  · exact ite h.modBus h
  · exact h

theorem busesEnabled (h : s.storesCanonical) : s.busesEnabled.storesCanonical := by
  refine valveUnit (foldl h (fun z b hz => ?_))
  exact ite (ite hz.modBus.modBus (ite hz.modBus.startBus hz.modBus.modBus)) (ite (ite hz.modBus.emit hz.modBus) hz)

theorem busesOff (h : s.storesCanonical) : s.busesOff.storesCanonical := h

theorem busesDeep (h : s.storesCanonical) : s.busesDeep.storesCanonical := by
  unfold State.busesDeep
  extract_lets _
  exact foldl h (fun _ _ hz => ite (emit (modBus (ite hz (emit (emit hz))))) (ite (emit (modBus hz)) (modBus hz)))

theorem busesWake (h : s.storesCanonical) : s.busesWake.storesCanonical := h.foldl (fun _ _ hz => ite hz (ite hz.startBus hz.modBus))
theorem busesSafe (h : s.storesCanonical) : s.busesSafe.storesCanonical := h.foldl (fun _ _ hz => ite hz.bumpIf.modBus.emit hz)
theorem testOff (h : s.storesCanonical) : s.testOff.storesCanonical := h

/-! ## Timed outputs -/

theorem modTout {k : Nat} {f : Tout → Tout} (h : s.storesCanonical) : (s.modTout k f).storesCanonical := h

theorem toutDriveAt {delay k : Nat} (h : s.storesCanonical) : (s.toutDriveAt delay k).storesCanonical := by
  unfold State.toutDriveAt
  extract_lets _
  exact ite h h.modTout.emit.raiseAt

theorem toutDrive {k : Nat} (h : s.storesCanonical) : (s.toutDrive k).storesCanonical := h.toutDriveAt
theorem toutReview (h : s.storesCanonical) : s.toutReview.storesCanonical := h.foldl (fun _ _ hz => hz.toutDrive)

theorem edgeDue {k : Nat} (h : s.storesCanonical) : (s.edgeDue k).1.storesCanonical := by
  unfold State.edgeDue
  extract_lets _
  split
  · exact h
  · split
    · exact h.bump.modTout
    · split
      · exact h.bump.modTout
      · exact h.modTout.toutDrive

theorem lateEdges {k n : Nat} (h : s.storesCanonical) : (s.lateEdges k n).storesCanonical := by
  induction n generalizing s with
  | zero => exact h
  | succ n ih =>
    unfold State.lateEdges
    split
    · exact h
    · exact ite (ite (ih h.bumpIf.edgeDue) h.bumpIf.edgeDue) h

theorem lampDue {k : Nat} (h : s.storesCanonical) : (s.lampDue k).1.storesCanonical := by
  unfold State.lampDue
  extract_lets _
  split
  · exact h
  · split
    · exact h.bump.modTout
    · split
      · exact h.bump.modTout
      · exact h.modTout.toutDrive

theorem lateLamps {k n : Nat} (h : s.storesCanonical) : (s.lateLamps k n).storesCanonical := by
  induction n generalizing s with
  | zero => exact h
  | succ n ih =>
    unfold State.lateLamps
    split
    · exact h
    · exact ite (ite (ih h.bumpIf.lampDue) h.bumpIf.lampDue) h

theorem timedEdge {k : Nat} (h : s.storesCanonical) : (s.timedEdge k).storesCanonical := by
  unfold State.timedEdge
  extract_lets _ _ _ r r'
  have hr : r.1.storesCanonical := h.edgeDue
  have hr' : r'.1.storesCanonical := h.lampDue
  exact ite (ite hr.lateEdges hr) (ite (ite hr'.lateLamps hr') h)

theorem edgesOfDeep {since : Int} (h : s.storesCanonical) : (s.edgesOfDeep since).storesCanonical := h.foldl (fun _ _ hz => hz.bumpBy.modTout)
theorem putEdges {k : Nat} {b : Bytes} (h : s.storesCanonical) : (s.putEdges k b).storesCanonical := h.modTout.lateEdges
theorem flushEdges {k : Nat} (h : s.storesCanonical) : (s.flushEdges k).storesCanonical := h
theorem toutFunctionNew {k : Nat} (h : s.storesCanonical) : (s.toutFunctionNew k).storesCanonical := h
theorem cutLamps {v hi : Nat} (h : s.storesCanonical) : (s.cutLamps v hi).1.storesCanonical := h

theorem lampTrigger {v phase exposure : Nat} (h : s.storesCanonical) : (s.lampTrigger v phase exposure).storesCanonical := by
  unfold State.lampTrigger
  extract_lets _ _ _ r s1
  have hr : r.1.storesCanonical := h.cutLamps
  have hs1 : s1.storesCanonical := hr.bumpIf.modTout
  exact ite h (hs1.foldl (fun _ _ hz => hz.lateLamps))

theorem lampsOff {v : Nat} (h : s.storesCanonical) : (s.lampsOff v).storesCanonical := by
  unfold State.lampsOff
  extract_lets _
  exact toutReview h

theorem safeAssert (h : s.storesCanonical) : s.safeAssert.storesCanonical := by
  unfold State.safeAssert
  extract_lets _ s1
  have hs1 : s1.storesCanonical := h
  exact ite h (ite hs1.bump.putNum.bump.busesSafe.toutReview.raise.raiseAt hs1)

theorem safeRelease (h : s.storesCanonical) : s.safeRelease.storesCanonical := by
  unfold State.safeRelease
  extract_lets _
  exact toutReview h

theorem toutsOff (h : s.storesCanonical) : s.toutsOff.storesCanonical := by
  unfold State.toutsOff
  extract_lets _
  exact toutReview h

/-! ## Power -/

theorem codecDropStreams (h : s.storesCanonical) : s.codecDropStreams.storesCanonical := by
  unfold State.codecDropStreams
  extract_lets s1
  have hs1 : s1.storesCanonical := by
    unfold s1
    refine foldl h (fun _ _ hz => ?_)
    split
    · exact hz.bumpIf.bumpIf
    · exact hz
  exact modEngine hs1 (fun _ hx => hx)

theorem bandSettings {oldW oldE : Nat} (h : s.storesCanonical) : (s.bandSettings oldW oldE).storesCanonical := by
  unfold State.bandSettings
  extract_lets _ _ _ s1
  have hs1 : s1.storesCanonical := h.modPower
  exact hs1.foldl (fun _ _ hz => hz.rebound)

theorem bandEffect {old : Nat} (h : s.storesCanonical) : (s.bandEffect old).storesCanonical :=
  ite h.tilesOff.dmaForced.codecDropStreams (ite h.tilesOn h)

theorem housekeeping {s0 : State} {vals0 : List Nat} (h : s0.storesCanonical) : (s0.housekeeping vals0).storesCanonical := by
  unfold State.housekeeping
  extract_lets s' _ _ _ _ _ _ _ _ _ _ _ _ _ _ _ _ s1 s2 _ s3 s4 s5 s6 s7 _ s8 s9
  have hs' : s'.storesCanonical := h.runsNow
  have hs1 : s1.storesCanonical := hs'.modPower
  have hs2 : s2.storesCanonical := hs1.putVal.putNum.putNum.putNum
  have hs3 : s3.storesCanonical := hs2.putNum.putNum
  have hs4 : s4.storesCanonical := hs3.foldl (fun _ _ hz => hz.alert)
  have hs5 : s5.storesCanonical := by
    unfold s5
    split
    · extract_lets a
      have ha : a.storesCanonical := hs4.putNum
      exact ite ha.keepOwn ha
    · exact hs4
  have hs6 : s6.storesCanonical := ite hs5.orFlags.alert hs5
  have hs7 : s7.storesCanonical := ite hs6.orFlags hs6
  have hs8 : s8.storesCanonical := hs7.foldl (fun _ _ hz => hz.bump.alert)
  have hs9 : s9.storesCanonical := ite hs8 hs8.bandSettings
  exact ite h (ite hs9.bandEffect.reviewGuarantee hs9)

theorem pipelineGate {r : Nat} (h : s.storesCanonical) : (s.pipelineGate r).storesCanonical := ite h.modRegion h

theorem leaveDoze {cause : WakeCause} (h : s.storesCanonical) : (s.leaveDoze cause).storesCanonical := by
  unfold State.leaveDoze
  extract_lets s1
  have hs1 : s1.storesCanonical := h.modPower.putNum
  exact ite (dmaUnpark (ite hs1.leaveSelfRefresh.powerLanes hs1)) h

theorem parkFor {t : Power} (h : s.storesCanonical) : (s.parkFor t).storesCanonical := by
  unfold State.parkFor
  split
  · exact h.dmaPark
  · exact h

theorem enterPower {t : Power} (h : s.storesCanonical) : (s.enterPower t).storesCanonical := by
  unfold State.enterPower
  split
  · exact h.modPower.bump.powerLanes
  · exact h.modPower
  · exact h

theorem stepDown (h : s.storesCanonical) : s.stepDown.storesCanonical := by
  unfold State.stepDown
  split
  · exact h.modPower
  · exact ite h (ite (ite h.parkFor h.bump.dmaDefer.parkFor.modPower) h.parkFor.enterPower)

theorem retestStep (h : s.storesCanonical) : s.retestStep.storesCanonical := ite h.stepDown h
theorem countersArmed (h : s.storesCanonical) : s.countersArmed.storesCanonical := h.foldl (fun _ _ hz => hz.counterArmed)

theorem deepEntry (h : s.storesCanonical) : s.deepEntry.storesCanonical := by
  unfold State.deepEntry
  extract_lets s1 s2 s3 s4 _ _ _
  have hs1 : s1.storesCanonical := h.busesDeep.foldl (fun _ _ hz => hz.ethDown)
  have hs2 : s2.storesCanonical := hs1.modPower
  have hs3 : s3.storesCanonical := hs2.bump.toutReview
  have hs4 : s4.storesCanonical := hs3.foldl (fun _ _ hz => hz.hbmDrain.enterSelfRefresh)
  exact ite (powerLanes hs4) h

theorem wake {cause : WakeCause} (h : s.storesCanonical) : (s.wake cause).storesCanonical := by
  unfold State.wake
  extract_lets _ _
  split
  · split
    · exact h
    · split
      · exact h.modPower.putNum
      · exact ite h.putNum h
  · exact ite h h.leaveDoze

theorem deepExit {n : Nat} (h : s.storesCanonical) : (s.deepExit n).storesCanonical := by
  unfold State.deepExit
  extract_lets now s1 s2 s3
  have hs1 : s1.storesCanonical := edgesOfDeep (s := { s with timeOffset := now - s.clk }) h
  have hs2 : s2.storesCanonical := hs1.modPower
  have hs3 : s3.storesCanonical := hs2.holdover.leaveSelfRefresh.powerLanes.busesWake.resetCics.dmaUnpark
  clear_value s3
  refine ite (countersArmed (toutReview ?_)) h
  exact hs3.of_eq rfl rfl rfl rfl rfl

theorem requestSeen (h : s.storesCanonical) : s.requestSeen.storesCanonical := h.leaveDoze.modPower

theorem startDma {c n : Nat} (h : s.storesCanonical) : (s.startDma c n).storesCanonical := by
  unfold State.startDma
  extract_lets s1
  have hs1 : s1.storesCanonical := h.leaveDoze.dmaStart
  exact ite hs1.dmaEnd hs1

/-! ## The event fabric -/

theorem modFabric {f : Fabric → Fabric} (h : s.storesCanonical) : (s.modFabric f).storesCanonical := h
theorem modEctr {k : Nat} {f : Counter → Counter} (h : s.storesCanonical) : (s.modEctr k f).storesCanonical := h

theorem stormGuard {n : Nat} (h : s.storesCanonical) : (s.stormGuard n).1.storesCanonical := by
  unfold State.stormGuard
  extract_lets _ _ s1 s2 _ _ _
  have hs1 : s1.storesCanonical := h.modFabric
  have hs2 : s2.storesCanonical := hs1.bump.orFlags.orFlags
  split
  · exact hs1
  · split
    · exact hs2
    · exact alert hs2

theorem eventRecord {n source data time : Nat} (h : s.storesCanonical) : (s.eventRecord n source data time).storesCanonical := by
  unfold State.eventRecord
  extract_lets _ _
  exact ite h.bump h.modFabric

theorem channelTakes {n source data time : Nat} (h : s.storesCanonical) : (s.channelTakes n source data time).1.storesCanonical := by
  unfold State.channelTakes
  extract_lets g s1
  have hg : g.1.storesCanonical := h.stormGuard
  have hs1 : s1.storesCanonical := hg.bump
  split
  · exact h
  · split
    · exact h.bump
    · split
      · exact ite hs1.eventRecord hs1
      · exact hg

theorem channelDelivers {n : Nat} {p : Pulse} (h : s.storesCanonical) : (s.channelDelivers n p).1.storesCanonical := by
  unfold State.channelDelivers
  extract_lets _ _
  split
  · exact h
  · split
    · exact h.modFabric
    · split
      · exact h.sendEvent
      · exact h

theorem runPulses {k : Nat} {ps : List Pulse} {tasks : List (Bool × Nat)} (h : s.storesCanonical) :
    (State.runPulses k s ps tasks).1.storesCanonical := by
  have hchannels : ∀ (p : Pulse) (l : List Nat) (a : State × List Pulse × List (Bool × Nat)), a.1.storesCanonical →
      (l.foldl (fun (acc : State × List Pulse × List (Bool × Nat)) n =>
        let t := acc.1.channelTakes n p.origin p.data p.time
        if t.2 then
          let d := t.1.channelDelivers n p
          (d.1, acc.2.1 ++ d.2.1, acc.2.2 ++ d.2.2)
        else (t.1, acc.2.1, acc.2.2)) a).1.storesCanonical := by
    intro p l
    induction l with
    | nil => exact fun _ ha => ha
    | cons n l ih =>
      refine fun a ha => ih _ ?_
      dsimp only
      split
      · exact ha.channelTakes.channelDelivers
      · exact ha.channelTakes
  have hpulses : ∀ (z : State) (l : List Pulse) (a : State × List Pulse × List (Bool × Nat)), a.1.storesCanonical →
      (l.foldl (fun (acc : State × List Pulse × List (Bool × Nat)) p =>
        (z.channelsOf p.east p.source).foldl (fun (acc : State × List Pulse × List (Bool × Nat)) n =>
          let t := acc.1.channelTakes n p.origin p.data p.time
          if t.2 then
            let d := t.1.channelDelivers n p
            (d.1, acc.2.1 ++ d.2.1, acc.2.2 ++ d.2.2)
          else (t.1, acc.2.1, acc.2.2)) acc) a).1.storesCanonical := by
    intro z l
    induction l with
    | nil => exact fun _ ha => ha
    | cons p l ih => exact fun a ha => ih _ (hchannels p _ a ha)
  induction k generalizing s ps tasks with
  | zero => exact h
  | succ k ih =>
    cases ps with
    | nil => exact h
    | cons p ps => exact ih (hpulses s (p :: ps) (s, [], tasks) h)

theorem coincidence {east : Bool} {task : Nat} (h : s.storesCanonical) : (s.coincidence east task).storesCanonical := h

theorem toutTasks {l : List (Bool × Nat)} {k : Nat} (h : s.storesCanonical) : (s.toutTasks l k).storesCanonical := by
  unfold State.toutTasks
  extract_lets set clear toggle wins put s1
  have hput : ∀ (z : State) (b : Bool), z.storesCanonical → (put z b).storesCanonical := fun _ _ hz => hz.modTout.toutDriveAt
  have hs1 : s1.storesCanonical := hput s _ h
  exact ite h (ite h.bumpBy (ite (hput s _ h).coincidence (ite (hput s _ h) (ite (hput s _ h) (ite hs1.coincidence hs1)))))

theorem dmaTask {l : List (Bool × Nat)} {c : Nat} (h : s.storesCanonical) : (s.dmaTask l c).storesCanonical := by
  unfold State.dmaTask
  extract_lets _ s1
  have hs1 : s1.storesCanonical := ite h.coincidence h
  split
  · exact h
  · split
    · exact ite hs1.bump hs1.startDma
    · exact hs1.bump

theorem counterTasks {l : List (Bool × Nat)} {east : Bool} {k : Nat} (h : s.storesCanonical) : (s.counterTasks l east k).storesCanonical := by
  unfold State.counterTasks
  extract_lets _ _ _ _ s1 s2 _
  have hs1 : s1.storesCanonical := ite h.coincidence h
  have hs2 : s2.storesCanonical := ite hs1.coincidence hs1
  exact ite h hs2.counterHeld.modEctr.counterArmed

theorem applyTasks {l : List (Bool × Nat)} (h : s.storesCanonical) : (s.applyTasks l).storesCanonical := by
  unfold State.applyTasks
  extract_lets s1 s2
  have hs1 : s1.storesCanonical := h.foldl (fun _ _ hz => hz.toutTasks)
  have hs2 : s2.storesCanonical := hs1.foldl (fun _ _ hz => hz.dmaTask)
  exact hs2.foldl (fun _ _ hz => hz.counterTasks.counterTasks)

theorem eventDelivery (h : s.storesCanonical) : s.eventDelivery.storesCanonical := by
  unfold State.eventDelivery
  extract_lets _
  split
  · exact h
  · extract_lets _ _ s1 _ d
    have hs1 : s1.storesCanonical := h.modFabric
    have hd : d.1.storesCanonical := hs1.runPulses
    exact ite h hd.applyTasks

theorem channelParity {n : Nat} (h : s.storesCanonical) : (s.channelParity n).storesCanonical := by
  unfold State.channelParity
  extract_lets s1
  have hs1 : s1.storesCanonical := h.upset
  exact ite (ite hs1.retire hs1) h

end State.storesCanonical

end Sys2Proof.Machine
end

section
/-! PROOFS. Every store of bytes stays canonical (for O59): the operations on the pins, the modes, the triggers and BOOT, in the model's
order. -/

namespace Sys2Proof.Machine
namespace State.storesCanonical

variable {s : State}

/-! ## Pins -/

theorem modPins {f : Pins → Pins} (h : s.storesCanonical) : (s.modPins f).storesCanonical := h
theorem panelWake {cause : WakeCause} (h : s.storesCanonical) : (s.panelWake cause).storesCanonical := ite h.wake h

theorem keyPress {k : Nat} (h : s.storesCanonical) : (s.keyPress k).storesCanonical := by
  unfold State.keyPress
  extract_lets s1
  have hs1 : s1.storesCanonical := h.modPins
  exact ite hs1.bump.raise.panelWake h

theorem keyRelease {k : Nat} (h : s.storesCanonical) : (s.keyRelease k).storesCanonical := ite h.modPins h

theorem longPress {k : Nat} (h : s.storesCanonical) : (s.longPress k).storesCanonical := by
  unfold State.longPress
  extract_lets _
  exact ite h.modPins.orFlags.bump h

theorem touchScan {raw : List Nat} (h : s.storesCanonical) : (s.touchScan raw).storesCanonical := by
  unfold State.touchScan
  extract_lets _ _ _ s1
  have hs1 : s1.storesCanonical := ite h.orFlags.bump h
  exact ite h (hs1.modPins.foldl (fun _ _ hz => ite hz.modPins.bump.raise.panelWake hz.modPins))

theorem touchStuck {c : Nat} (h : s.storesCanonical) : (s.touchStuck c).storesCanonical := by
  unfold State.touchStuck
  extract_lets _
  exact ite h.modPins.orFlags.bump h

theorem touchEnableNew {old : Nat} (h : s.storesCanonical) : (s.touchEnableNew old).storesCanonical := h
theorem lampDrive {n : Nat} {on : Bool} (h : s.storesCanonical) : (s.lampDrive n on).storesCanonical := ite h h.modPins.emit
theorem lampReview (h : s.storesCanonical) : s.lampReview.storesCanonical := h

theorem lampBlink {n : Nat} (h : s.storesCanonical) : (s.lampBlink n).storesCanonical := by
  unfold State.lampBlink
  extract_lets _
  exact ite h.modPins.lampDrive h

theorem lampModeNew {n old : Nat} (h : s.storesCanonical) : (s.lampModeNew n old).storesCanonical := by
  unfold State.lampModeNew
  extract_lets _
  exact ite h.modPins.lampDrive h

theorem modCam {k : Nat} {f : CamPower → CamPower} (h : s.storesCanonical) : (s.modCam k f).storesCanonical := h
theorem camRaise {k : Nat} {retried : Bool} (h : s.storesCanonical) : (s.camRaise k retried).storesCanonical := h

theorem camLower {k state : Nat} (h : s.storesCanonical) : (s.camLower k state).storesCanonical := by
  unfold State.camLower
  extract_lets s1
  have hs1 : s1.storesCanonical := h.modCam
  exact ite hs1.emit hs1

theorem camStagger {k due : Nat} (h : s.storesCanonical) : (s.camStagger k due).storesCanonical := by
  unfold State.camStagger
  split
  · exact h.modPins
  · extract_lets s1
    have hs1 : s1.storesCanonical := ite h.camRaise h
    exact hs1.modPins

theorem pwrStagger (h : s.storesCanonical) : s.pwrStagger.storesCanonical := by
  unfold State.pwrStagger
  split
  · exact ite h.camStagger h
  · exact h

theorem pwrEnable {k : Nat} (h : s.storesCanonical) : (s.pwrEnable k).storesCanonical := ite (ite h h.camRaise) h.camLower.modCam

theorem camFault {k : Nat} (h : s.storesCanonical) : (s.camFault k).storesCanonical := by
  unfold State.camFault
  extract_lets _ _ s1 _ s2
  have hs1 : s1.storesCanonical := ite h h.unplug
  have hs2 : s2.storesCanonical := hs1.bump
  exact ite (ite hs2.camLower.modCam.alert hs2.camLower.modCam) h

theorem pwrRetry {k : Nat} (h : s.storesCanonical) : (s.pwrRetry k).storesCanonical := by
  unfold State.pwrRetry
  split
  · exact ite h.camRaise h
  · exact h

theorem pwrReset {k : Nat} (h : s.storesCanonical) : (s.pwrReset k).storesCanonical := ite h.modCam.camRaise h
theorem camsOff (h : s.storesCanonical) : s.camsOff.storesCanonical := modPins (h.foldl (fun _ _ hz => hz.camLower))

/-! ## Modes -/

theorem enterMode {m : Mode} {cause : Nat} (h : s.storesCanonical) : (s.enterMode m cause).storesCanonical := by
  unfold State.enterMode
  extract_lets _ _ s1 s2 s3
  have hs1 : s1.storesCanonical := h
  have hs2 : s2.storesCanonical := ite hs1.holdAll (ite hs1.armAll (ite hs1.clearAll hs1))
  have hs3 : s3.storesCanonical := ite hs2.modServo hs2
  exact ite hs3.testOff hs3

theorem modErrLog {f : ErrLog → ErrLog} (h : s.storesCanonical) : (s.modErrLog f).storesCanonical := h
theorem journalMode {m : Mode} {cause : Nat} (h : s.storesCanonical) : (s.journalMode m cause).storesCanonical := h

theorem setMode {m : Mode} {cause : Nat} (h : s.storesCanonical) : (s.setMode m cause).storesCanonical :=
  ite h h.journalMode.enterMode.event.raise.toutReview.reviewGuarantee

theorem bumpStored {key : Nat} (h : s.storesCanonical) : (s.bumpStored key).storesCanonical := h

/-- What a loss of power leaves is as at reset: every store is empty. -/
theorem powerLost (_ : s.storesCanonical) : s.powerLost.storesCanonical := State.storesCanonical_reset

theorem unpower (h : s.storesCanonical) : s.unpower.storesCanonical := by
  unfold State.unpower
  extract_lets _ s1 s2
  have hs1 : s1.storesCanonical := h.foldl (fun _ _ hz => hz.emit)
  have hs2 : s2.storesCanonical := hs1.busesOff.toutsOff.camsOff.lampReview
  exact powerLost (ite hs2.emit hs2)

theorem toutsSafe (h : s.storesCanonical) : s.toutsSafe.storesCanonical := by
  unfold State.toutsSafe
  extract_lets _ t _
  have ht : t.storesCanonical := toutReview h
  exact ht

theorem sendSafe (h : s.storesCanonical) : s.sendSafe.storesCanonical := h.foldl (fun _ _ hz => hz.emit)

theorem logPutNext (h : s.storesCanonical) : s.logPutNext.storesCanonical := by
  unfold State.logPutNext
  extract_lets _
  split
  · exact h
  · extract_lets _ s1
    have hs1 : s1.storesCanonical := h.modErrLog
    exact hs1.putKept

theorem logTake (h : s.storesCanonical) : s.logTake.storesCanonical := by
  unfold State.logTake
  extract_lets _
  exact ite h.modErrLog.logPutNext h

theorem logDrain {n : Nat} (h : s.storesCanonical) : (s.logDrain n).storesCanonical := by
  induction n generalizing s with
  | zero => exact h
  | succ n ih => exact ih h.logTake

theorem noteHalt {cause : Nat} (h : s.storesCanonical) : (s.noteHalt cause).storesCanonical := by
  unfold State.noteHalt
  extract_lets s1
  have hs1 : s1.storesCanonical := h.journalMode.logPut
  exact ite (ite hs1.logDrain.modErrLog hs1) h

theorem fallToHalt {cause : Nat} (h : s.storesCanonical) : (s.fallToHalt cause).storesCanonical := by
  unfold State.fallToHalt
  extract_lets s1
  have hs1 : s1.storesCanonical := h.putKept.enterMode
  exact hs1.unpower.emit.modPower

theorem halt {cause : Nat} (h : s.storesCanonical) : (s.halt cause).storesCanonical := ite h h.noteHalt.fallToHalt

theorem thermalTrip (h : s.storesCanonical) : s.thermalTrip.storesCanonical := by
  unfold State.thermalTrip
  extract_lets s1 s2
  have hs1 : s1.storesCanonical := h.bumpStored
  have hs2 : s2.storesCanonical := hs1.modPower
  exact ite h (ite (ite hs2.putKept hs2) hs1.halt)

theorem supplyFault (h : s.storesCanonical) : s.supplyFault.storesCanonical := ite h.bumpStored.halt h
theorem dieLoss (h : s.storesCanonical) : s.dieLoss.storesCanonical := ite h h.halt
theorem stacksFailed (h : s.storesCanonical) : s.stacksFailed.storesCanonical := h
theorem stacksReviewed (h : s.storesCanonical) : s.stacksReviewed.storesCanonical := ite h.stacksFailed.dieLoss h

/-! ## The journal and the log -/

theorem modJournal {f : Journal → Journal} (h : s.storesCanonical) : (s.modJournal f).storesCanonical := h

theorem mirrorPut {seq : Nat} {e : Bytes} (h : s.storesCanonical) : (s.mirrorPut seq e).storesCanonical := by
  unfold State.mirrorPut
  extract_lets s1
  have hs1 : s1.storesCanonical := h.modJournal
  exact ite hs1.bumpKept hs1

theorem mirrorWrite (h : s.storesCanonical) : s.mirrorWrite.storesCanonical := by
  unfold State.mirrorWrite
  extract_lets _
  split
  · split
    · exact h
    · exact h.mirrorPut
  · exact h

theorem mirrorAll (h : s.storesCanonical) : s.mirrorAll.storesCanonical := by
  unfold State.mirrorAll
  extract_lets _
  exact h.foldl (fun _ _ hz => hz.mirrorPut)

theorem logWrite (h : s.storesCanonical) : s.logWrite.storesCanonical := ite h.logTake h

theorem logPutMany {n : Nat} (h : s.storesCanonical) : (s.logPutMany n).storesCanonical := by
  induction n generalizing s with
  | zero => exact h
  | succ n ih => exact ih h.logPutNext

theorem logAll (h : s.storesCanonical) : s.logAll.storesCanonical := h.logPutMany

theorem scanJournal (h : s.storesCanonical) : s.scanJournal.1.storesCanonical := by
  unfold State.scanJournal
  extract_lets _ _ _ _ s1
  have hs1 : s1.storesCanonical := h.modJournal
  exact ite hs1 hs1.bumpKept

theorem bootEntry {torn : Nat} (h : s.storesCanonical) : (s.bootEntry torn).storesCanonical := h

theorem payOwed (h : s.storesCanonical) : s.payOwed.storesCanonical := by
  unfold State.payOwed
  extract_lets s1 _ _
  have hs1 : s1.storesCanonical := h.foldl (fun _ _ hz => hz.journalOwn)
  exact hs1

theorem scanLog (h : s.storesCanonical) : s.scanLog.1.storesCanonical := by
  unfold State.scanLog
  extract_lets l good torn s1 s2
  have hs1 : s1.storesCanonical := h.modErrLog
  clear_value good
  have hs2 : s2.storesCanonical := by
    unfold s2
    split <;> exact hs1.putKept
  exact ite hs2 hs2.bumpKept

theorem brownOut (h : s.storesCanonical) : s.brownOut.storesCanonical := by
  unfold State.brownOut
  extract_lets s1 s2 _ _ _ s2' s3
  have hs1 : s1.storesCanonical := h.bumpStored.sendSafe.toutsSafe
  have hs2 : s2.storesCanonical := hs1.noteHalt
  have hs2' : s2'.storesCanonical := hs2
  have hs3 : s3.storesCanonical := ite hs2'.logAll.mirrorAll.modErrLog.modJournal hs2'
  exact ite h hs3.fallToHalt

theorem digestResult (h : s.storesCanonical) : s.digestResult.storesCanonical := by
  unfold State.digestResult
  split
  · exact h
  · exact h.modJournal.putNum.completeResult

/-! ## Values coming into force -/

theorem relinked {ch : List Nat} (h : s.storesCanonical) : (s.relinked ch).storesCanonical := h.foldl (fun _ _ hz => hz.relink)

theorem encodersNew {s old : State} {ch : List Nat} (h : s.storesCanonical) : (s.encodersNew old ch).storesCanonical := by
  unfold State.encodersNew
  extract_lets s1
  have hs1 : s1.storesCanonical := h.foldl (fun _ _ hz => ite (encSpacing (ite hz.encEnabled hz)) (ite hz.encEnabled hz))
  exact hs1.foldl (fun _ _ hz => ite hz.pgoChanged hz)

theorem sourcesNew {ch : List Nat} (h : s.storesCanonical) : (s.sourcesNew ch).storesCanonical :=
  h.foldl (fun _ _ hz => ite hz.modTrigger.lampsOff hz)

theorem toutsNew {ch : List Nat} (h : s.storesCanonical) : (s.toutsNew ch).storesCanonical := by
  unfold State.toutsNew
  extract_lets s1
  have hs1 : s1.storesCanonical := h.foldl (fun _ _ hz => ite hz.toutFunctionNew hz)
  exact ite hs1.toutReview hs1

theorem countersNew {old : Nat → Nat} {ch : List Nat} (h : s.storesCanonical) : (s.countersNew old ch).storesCanonical :=
  h.foldl (fun _ _ hz => ite hz.counterHeld.counterArmed hz)

theorem ethsNew {ch : List Nat} (h : s.storesCanonical) : (s.ethsNew ch).storesCanonical := h.foldl (fun _ _ hz => ite hz.ethDown (ite hz.tx hz))

theorem reconfigured {s old : State} {keys : List Nat} (h : s.storesCanonical) : (s.reconfigured old keys).storesCanonical := by
  unfold State.reconfigured
  extract_lets _ _ s1 s2 s3 s4 s5
  have hs1 : s1.storesCanonical := ite h.powerLanes h
  have hs2 : s2.storesCanonical := hs1.relinked.encodersNew.sourcesNew.toutsNew
  have hs3 : s3.storesCanonical := ite hs2.busesEnabled hs2
  have hs4 : s4.storesCanonical := hs3.countersNew.ethsNew
  have hs5 : s5.storesCanonical := ite hs4.bmca hs4
  exact ite h (ite hs5.gateTiles.giveWeights.giveUnits hs5)

theorem forceVal {key : Nat} {v : Val} (h : s.storesCanonical) : (s.forceVal key v).storesCanonical := by
  unfold State.forceVal
  split
  · extract_lets s1
    have hs1 : s1.storesCanonical := ite h.putKept h.putVal
    exact ite hs1.blobReplaced hs1
  · exact h

theorem forceVals {l : Kv} (h : s.storesCanonical) : (s.forceVals l).storesCanonical := ite h (reconfigured (h.foldl (fun _ _ hz => hz.forceVal)))
theorem modStaging {f : Staging → Staging} (h : s.storesCanonical) : (s.modStaging f).storesCanonical := h
theorem modArmed {epoch : Nat} {f : Armed → Armed} (h : s.storesCanonical) : (s.modArmed epoch f).storesCanonical := h
theorem dropDone (h : s.storesCanonical) : s.dropDone.storesCanonical := h

theorem applyMode {a : Armed} (h : s.storesCanonical) : (s.applyMode a).storesCanonical := by
  unfold State.applyMode
  split
  · exact h
  · extract_lets s1 _
    have hs1 : s1.storesCanonical := h.putNum
    exact ite hs1.journalOwn (ite hs1 (ite hs1.journalMode.enterMode.event.modPower.unpower hs1.setMode))

theorem instantOf {a : Armed} (h : s.storesCanonical) : (s.instantOf a).storesCanonical := by
  unfold State.instantOf
  extract_lets s1 s2
  have hs1 : s1.storesCanonical := h.modArmed
  have hs2 : s2.storesCanonical := hs1.forceVals.ringsInstant.reviewGuarantee
  exact ite h hs2.applyMode.dropDone

theorem bindingIssued {a : Armed} {v : Nat} (h : s.storesCanonical) : (s.bindingIssued a v).storesCanonical := by
  unfold State.bindingIssued
  extract_lets s1
  have hs1 : s1.storesCanonical := h.forceVals.modArmed
  exact ite hs1.instantOf hs1

theorem bindingFrame {a : Armed} {v : Nat} (h : s.storesCanonical) : (s.bindingFrame a v).storesCanonical := ite h.forceVals.modArmed h

theorem bindFrame {a : Armed} {v n : Nat} (h : s.storesCanonical) : (s.bindFrame a v n).storesCanonical := by
  unfold State.bindFrame
  extract_lets s1
  have hs1 : s1.storesCanonical := h.bindingFrame
  exact ite hs1.loadSeamSet hs1

theorem countIssued {epoch v : Nat} (h : s.storesCanonical) : (s.countIssued epoch v).storesCanonical := by
  unfold State.countIssued
  extract_lets _
  split
  · exact h
  · extract_lets s1
    have hs1 : s1.storesCanonical := h.bindingIssued.countSwitched.viewEpoch
    split
    · exact hs1
    · exact ite hs1.bindFrame.ringsStart.dropDone hs1.dropDone

theorem startSource {epoch v : Nat} (h : s.storesCanonical) : (s.startSource epoch v).storesCanonical := ite h.forceVals h

theorem bindNow {epoch v : Nat} (h : s.storesCanonical) : (s.bindNow epoch v).storesCanonical := by
  unfold State.bindNow
  extract_lets _
  exact ite h (ite h.countIssued h.modArmed.startSource)

theorem commitInstant (h : s.storesCanonical) : s.commitInstant.storesCanonical := by
  unfold State.commitInstant
  refine foldl h (fun _ _ hz => ?_)
  extract_lets b1
  have hb1 : b1.storesCanonical := hz.foldl (fun _ _ hz' => ite hz' hz'.bindNow)
  split
  · exact hb1.instantOf
  · exact hb1

theorem pruneSets (h : s.storesCanonical) : s.pruneSets.storesCanonical := h

theorem commitResult {code epoch kind views fail command check : Nat} {bound : List Nat} (h : s.storesCanonical) :
    (s.commitResult code epoch kind views fail command check bound).storesCanonical := by
  unfold State.commitResult
  extract_lets s1
  have hs1 : s1.storesCanonical := h.journalOwn
  exact hs1.completeResult

theorem moduleResult {code check fail : Nat} (h : s.storesCanonical) : (s.moduleResult code check fail).storesCanonical := h.modStaging.commitResult

theorem moduleCommit {m : Mode} {cause code check fail : Nat} (h : s.storesCanonical) : (s.moduleCommit m cause code check fail).storesCanonical :=
  h.moduleResult.setMode

/-! ## Triggers -/

theorem endPort {v : Nat} {i : Issue} {p : Nat} (h : s.storesCanonical) : (s.endPort v i p).storesCanonical := ite h.modPort h.cutTaps
theorem cutPort {v : Nat} {i : Issue} {p : Nat} (h : s.storesCanonical) : (s.cutPort v i p).storesCanonical := ite h.modPort.endPort h

theorem cutStages {v : Nat} {i : Issue} (h : s.storesCanonical) : (s.cutStages v i).storesCanonical := by
  unfold State.cutStages
  split
  · exact ite h.endServo.endClassStats h
  · exact h

theorem trigMessage {p t0 len : Nat} (h : s.storesCanonical) : (s.trigMessage p t0 len).1.storesCanonical := by
  unfold State.trigMessage
  extract_lets _ _
  exact h.modPort.bumpIf

theorem sendTrigger {i : Issue} {p : Nat} (h : s.storesCanonical) : (s.sendTrigger i p).storesCanonical := by
  unfold State.sendTrigger
  extract_lets _ r
  have hr : r.1.storesCanonical := h.trigMessage
  exact ite hr.emit (ite h.emit h)

theorem trigEnd {v : Nat} (h : s.storesCanonical) : (s.trigEnd v).storesCanonical := by
  unfold State.trigEnd
  extract_lets _
  split
  · exact h
  · exact ite h (modTrigger (h.foldl (fun _ _ hz => hz.trigMessage.emit)))

theorem sendExposure {v start epoch : Nat} {short : Bool} (h : s.storesCanonical) : (s.sendExposure v start epoch short).storesCanonical := by
  unfold State.sendExposure
  extract_lets _ _ _ _ s1
  have hs1 : s1.storesCanonical := h.foldl (fun _ _ hz => ite hz.queueReg.sendReg.modPort.modPort hz.queueReg.sendReg.modPort)
  exact ite hs1.orFlags hs1

theorem exposureReview {v : Nat} (h : s.storesCanonical) : (s.exposureReview v).storesCanonical := by
  unfold State.exposureReview
  extract_lets _ _
  exact h.modTrigger.foldl (fun _ _ hz => hz.sendExposure)

theorem exposureBound {v epoch bound : Nat} (h : s.storesCanonical) : (s.exposureBound v epoch bound).storesCanonical := h.modTrigger.exposureReview

theorem frameLinesNew {v framed : Nat} (h : s.storesCanonical) : (s.frameLinesNew v framed).storesCanonical := by
  unfold State.frameLinesNew
  extract_lets _ _ _ _ s1 s2
  have hs1 : s1.storesCanonical := h.modTrigger
  have hs2 : s2.storesCanonical := hs1.modTrigger.orFlags
  split
  · exact h
  · split
    · exact ite (exposureReview (cutStages (foldl hs2 (fun _ _ hz => cutPort hz)))) (exposureReview hs1)
    · exact hs1.exposureReview

theorem fullTimeInstant (h : s.storesCanonical) : s.fullTimeInstant.storesCanonical := by
  unfold State.fullTimeInstant
  extract_lets _
  exact h.commitInstant.foldl (fun _ _ hz => hz.foldl (fun _ _ hz' => ite hz'.exposureBound hz'))

theorem exposureDue {v index : Nat} (h : s.storesCanonical) : (s.exposureDue v index).storesCanonical := by
  unfold State.exposureDue
  extract_lets _ _
  exact h.modTrigger.foldl (fun _ _ hz => hz.sendExposure)

theorem takeBindings {v : Nat} (h : s.storesCanonical) : (s.takeBindings v).storesCanonical := by
  unfold State.takeBindings
  refine foldl h (fun _ _ hz => ?_)
  split
  · exact hz.bindingIssued.viewEpoch
  · exact hz

theorem leaveView {p : Nat} (h : s.storesCanonical) : (s.leaveView p).storesCanonical := by
  unfold State.leaveView
  split
  · exact h
  · extract_lets _ s1 s3
    have hs1 : s1.storesCanonical := ite h.forwardTo h
    have hs3 : s3.storesCanonical := by
      unfold s3
      split
      · extract_lets s2
        have hs2 : s2.storesCanonical := by
          unfold s2
          split
          · exact ite hs1.modRegion.putNum hs1
          · exact hs1
        exact ite hs1 hs2.endPort
      · exact hs1
    exact hs3.modPort

theorem joinPorts {v n : Nat} (h : s.storesCanonical) : (s.joinPorts v n).storesCanonical := by
  unfold State.joinPorts
  extract_lets _ _ s1
  have hs1 : s1.storesCanonical := h.foldl (fun _ _ hz => hz.leaveView)
  exact hs1.foldl (fun _ _ hz => hz.leaveView.modPort.modRegion)

theorem rejoinRegion {v n p : Nat} (h : s.storesCanonical) : (s.rejoinRegion v n p).storesCanonical := ite h.modRegion h

theorem frameStarts {v n stamp : Nat} (h : s.storesCanonical) : (s.frameStarts v n stamp).storesCanonical := by
  unfold State.frameStarts
  extract_lets _ s1 s2 s3 _ s4 s5 _ s6
  have hs1 : s1.storesCanonical := h.modTrigger
  have hs2 : s2.storesCanonical := by
    unfold s2
    refine foldl (applySeams hs1) (fun _ _ hz => ?_)
    split
    · exact hz.bindFrame
    · exact hz
  have hs3 : s3.storesCanonical := hs2.ringsStart
  have hs4 : s4.storesCanonical := hs3.foldl (fun _ _ hz => ite hz.modPort hz)
  have hs5 : s5.storesCanonical := hs4.foldl (fun _ _ hz => hz.rejoinRegion)
  have hs6 : s6.storesCanonical := hs5.foldl (fun _ _ hz => hz.modRegion)
  exact ite hs6.lampsOff (ite hs6.toutReview hs6)

theorem forwardOldest {v : Nat} (h : s.storesCanonical) : (s.forwardOldest v).storesCanonical := by
  unfold State.forwardOldest
  split
  · exact h
  · exact h.foldl (fun _ _ hz => hz.forwardTo)

theorem issueWith {v stamp period : Nat} {lost : Bool} (h : s.storesCanonical) : (s.issueWith v stamp period lost).storesCanonical := by
  unfold State.issueWith
  extract_lets s0 _ _ s1 _ _ s2 s3 _ _ _ _ _ _ _ _ _ _ s4 s5 s6 s7 s8 s9 s10 s11 _ s12 s13 s14
  have hs0 : s0.storesCanonical := h.forwardOldest
  have hs1 : s1.storesCanonical := hs0.takeBindings.modTrigger
  have hs2 : s2.storesCanonical := hs1.joinPorts
  have hs3 : s3.storesCanonical := ite hs2.frameStarts hs2
  have hs4 : s4.storesCanonical := hs3.modTrigger
  have hs5 : s5.storesCanonical := modView hs4 (fun _ hx => hx)
  have hs6 : s6.storesCanonical := ite hs5 hs5.putNum.putNum
  have hs7 : s7.storesCanonical := hs6.putNum.putNum.putNum
  have hs8 : s8.storesCanonical := ite hs7.orFlags hs7
  have hs9 : s9.storesCanonical := lampTrigger (exposureDue (foldl hs8 (fun _ _ hz => sendTrigger hz)))
  have hs10 : s10.storesCanonical := hs9.raise
  have hs11 : s11.storesCanonical := ite hs8.exposureDue (ite hs10.raise hs10)
  have hs12 : s12.storesCanonical := ite hs11.sendEvent.bump hs11
  have hs13 : s13.storesCanonical := ite hs12 hs12.modPower.leaveDoze
  have hs14 : s14.storesCanonical := ite hs13.countSwitched hs13
  exact ite hs1 hs14.dropDone

theorem issueTrigger {v stamp : Nat} (h : s.storesCanonical) : (s.issueTrigger v stamp).storesCanonical := h.issueWith
theorem absorbEvent {v : Nat} (h : s.storesCanonical) : (s.absorbEvent v).storesCanonical := h.foldl (fun _ _ hz => hz.countIssued)
theorem fireTrigger {v : Nat} (h : s.storesCanonical) : (s.fireTrigger v).storesCanonical := ite h.absorbEvent h.issueTrigger

theorem triggerEvent {s0 : State} {source v : Nat} (h : s0.storesCanonical) : (s0.triggerEvent source v).storesCanonical := by
  unfold State.triggerEvent
  extract_lets s'
  have hs' : s'.storesCanonical := ite h.fullTimeInstant h
  exact ite hs' (ite hs'.bump.orFlags (ite hs'.bump.modTrigger hs'.fireTrigger))

theorem sourceEvent {source : Nat} (h : s.storesCanonical) : (s.sourceEvent source).storesCanonical := h.foldl (fun _ _ hz => hz.triggerEvent)

theorem heldIssue {s0 : State} {v : Nat} (h : s0.storesCanonical) : (s0.heldIssue v).storesCanonical := by
  unfold State.heldIssue
  extract_lets s' s1
  have hs' : s'.storesCanonical := ite h.fullTimeInstant h
  have hs1 : s1.storesCanonical := hs'.modTrigger
  split
  · exact hs'
  · exact ite hs' (ite hs1.fireTrigger hs1)

theorem bindRemote {v index time : Nat} (h : s.storesCanonical) : (s.bindRemote v index time).storesCanonical := by
  unfold State.bindRemote
  extract_lets _
  exact h.foldl (fun _ _ hz => ite hz.modArmed.exposureBound hz.modArmed)

theorem jumpIndex {v index time : Nat} (h : s.storesCanonical) : (s.jumpIndex v index time).storesCanonical := by
  unfold State.jumpIndex
  extract_lets _ _ _ s1 s2 s3
  have hs1 : s1.storesCanonical := h.modTrigger
  have hs2 : s2.storesCanonical := hs1.modStaging
  have hs3 : s3.storesCanonical := hs2
  exact exposureReview (modView hs3 (fun _ hx => hx))

theorem lostTriggers {v time period n : Nat} (h : s.storesCanonical) : (s.lostTriggers v time period n).storesCanonical := by
  induction n generalizing s with
  | zero => exact h
  | succ n ih => exact ih h.issueWith

theorem remoteTrigger {v index time : Nat} (h : s.storesCanonical) : (s.remoteTrigger v index time).storesCanonical := by
  unfold State.remoteTrigger
  extract_lets s0 _ _ _ s1
  have hs0 : s0.storesCanonical := bindRemote (ite h.fullTimeInstant h)
  have hs1 : s1.storesCanonical := ite hs0 (ite hs0.lostTriggers hs0.jumpIndex)
  exact ite h hs1.issueWith

theorem pgoFire {k : Nat} (h : s.storesCanonical) : (s.pgoFire k).storesCanonical := h.pgoPin.raise.sourceEvent

theorem pgoFeed {c : Nat} {step : Int} (h : s.storesCanonical) : (s.pgoFeed c step).storesCanonical :=
  h.foldl (fun _ _ hz => ite (ite hz.modPgo.pgoFire hz.modPgo) hz)

theorem pgoPulse {k : Nat} (h : s.storesCanonical) : (s.pgoPulse k).storesCanonical := by
  unfold State.pgoPulse
  extract_lets _
  exact ite h.modPgo.pgoFire h

theorem counted {c : Nat} {old new : Encoder} {step : Int} (h : s.storesCanonical) : (s.counted c old new step).storesCanonical := by
  unfold State.counted
  extract_lets s1 s2
  have hs1 : s1.storesCanonical := h.raise
  have hs2 : s2.storesCanonical := ite hs1.sourceEvent hs1
  exact hs2.pgoFeed

theorem countEdge {c samples : Nat} {a b : Bool} (h : s.storesCanonical) : (s.countEdge c samples a b).storesCanonical := by
  unfold State.countEdge
  extract_lets x kind s1
  have hs1 : s1.storesCanonical := h.modEncoder
  clear_value s1 kind
  refine ite h (ite (ite hs1.wake hs1) (ite hs1 ?_))
  split
  · exact hs1
  · exact ite hs1.encIllegal.beltLost hs1.encIllegal
  · exact ite hs1.modEncoder hs1.leaveDoze.modEncoder.counted

theorem indexEdge {c samples : Nat} (h : s.storesCanonical) : (s.indexEdge c samples).storesCanonical := by
  unfold State.indexEdge
  extract_lets s1
  have hs1 : s1.storesCanonical := h.encIndex
  exact ite hs1.raise h

theorem syntheticCount {c : Nat} (h : s.storesCanonical) : (s.syntheticCount c).storesCanonical := by
  unfold State.syntheticCount
  extract_lets _ _ _ _
  exact ite h.leaveDoze.modEncoder.counted h

/-! ## BOOT -/

theorem modBoot {f : Boot → Boot} (h : s.storesCanonical) : (s.modBoot f).storesCanonical := h
theorem bootCode {c : Nat} (h : s.storesCanonical) : (s.bootCode c).storesCanonical := h

theorem bootFlag {on : Bool} {bit : Nat} (h : s.storesCanonical) : (s.bootFlag on bit).storesCanonical := by
  unfold State.bootFlag
  extract_lets _
  exact ite h h

theorem bootBegin (h : s.storesCanonical) : s.bootBegin.storesCanonical := by
  unfold State.bootBegin
  extract_lets s1 s2 _ s3
  have hs1 : s1.storesCanonical := h
  have hs2 : s2.storesCanonical := hs1.modPower
  have hs3 : s3.storesCanonical := hs2
  exact hs3.bootFlag.bootFlag.modBoot.putNum

theorem bootRom (h : s.storesCanonical) : s.bootRom.storesCanonical := ite h.modBoot.event h

theorem bootImage {i : BootInputs} (h : s.storesCanonical) : (s.bootImage i).storesCanonical := by
  unfold State.bootImage
  extract_lets named first s1 run s2
  have hrun : ∀ (z : State) (k : Nat), z.storesCanonical → (run z k).storesCanonical := fun _ _ hz => hz.modBoot.putNum.putNum
  have hs1 : s1.storesCanonical := h.bootFlag
  have hs2 : s2.storesCanonical := hs1.bootFlag.bootFlag
  exact ite (hrun s1 _ hs1) (ite (hrun s2 _ hs2) hs2.bootFlag.bootCode.modBoot)

theorem bootHbm (h : s.storesCanonical) : s.bootHbm.storesCanonical := h

theorem bootMap (h : s.storesCanonical) : s.bootMap.storesCanonical := by
  unfold State.bootMap
  extract_lets _ _ _ s1 _ _ _ _ _
  have hs1 : s1.storesCanonical := bootTiles h
  exact bootFlag hs1

theorem bootObjects (h : s.storesCanonical) : s.bootObjects.storesCanonical := by
  unfold State.bootObjects
  extract_lets _ t
  have ht : t.storesCanonical := h
  exact ht.bootFlag

theorem bootMram (h : s.storesCanonical) : s.bootMram.storesCanonical := by
  unfold State.bootMram
  extract_lets s1 j l
  have hs1 : s1.storesCanonical := h.bootMap.bootObjects
  have hj : j.1.storesCanonical := hs1.scanJournal
  have hl : l.1.storesCanonical := hj.scanLog
  exact hl.bootFlag.bootFlag.bootEntry.payOwed

theorem selfTestRetire {u i : Nat} (h : s.storesCanonical) : (s.selfTestRetire u i).storesCanonical :=
  ite h.retireLane (ite h.retireLane (ite h.retireBrick (ite h.retirePort (ite h.retire h))))

theorem bootSelfTest {i : BootInputs} (h : s.storesCanonical) : (s.bootSelfTest i).storesCanonical := by
  unfold State.bootSelfTest
  extract_lets _ s1
  have hs1 : s1.storesCanonical := h.foldl (fun _ _ hz => hz.selfTestRetire)
  exact hs1.bootFlag.powerLanes

theorem bootModels (h : s.storesCanonical) : s.bootModels.storesCanonical := by
  unfold State.bootModels
  extract_lets s1
  have hs1 : s1.storesCanonical := h.bootSlots
  exact hs1.bootFlag

theorem bootCheck (h : s.storesCanonical) : s.bootCheck.storesCanonical := by
  unfold State.bootCheck
  extract_lets _
  exact h.modBoot.bootFlag

/-- At the end of BOOT the sort tables are empty. -/
theorem bootDone {i : BootInputs} (h : s.storesCanonical) : (s.bootDone i).storesCanonical := by
  have hboot : ∀ b ∈ bootBanks, b.table.wf = true := List.all_eq_true.mp (show bootBanks.all (fun b => b.table.wf) = true from rfl)
  unfold State.bootDone
  extract_lets _ _ _ _ _ _ s1 s2 s3 s4 s5 s6 s7
  have hs1 : s1.storesCanonical := by
    obtain ⟨hmem, htable, hxbuf, hbuffer, -⟩ := h
    refine ⟨hmem, htable, hxbuf, hbuffer, fun w hw => ?_⟩
    obtain ⟨-, -, rfl⟩ := List.mem_map.mp hw
    exact hboot
  clear_value s1
  have hs2 : s2.storesCanonical := hs1.bootRings
  have hs3 : s3.storesCanonical := by
    unfold s3
    split
    · exact hs2.setMode
    · exact hs2.modStaging.moduleCommit
  clear_value s3
  have hs4 : s4.storesCanonical := hs3.foldl (fun _ _ hz => hz.encEnabled)
  have hs6 : s6.storesCanonical := hs4.busesEnabled.camStagger.toutReview.modPower
  clear_value s6
  have hs7 : s7.storesCanonical := ite hs6.alert hs6
  exact (ite hs7.tilesOff hs7).reviewGuarantee.lampReview

theorem bootStep {i : BootInputs} {k : Nat} (h : s.storesCanonical) : (s.bootStep i k).storesCanonical := by
  unfold State.bootStep
  extract_lets s1 s2 s3
  have hs1 : s1.storesCanonical := ite h.bootRom (ite h.bootImage (ite h.bootHbm (ite h.bootMram (ite h.bootSelfTest (ite h.bootModels (ite
      h.bootCheck (ite h.bootDone h)))))))
  have hs2 : s2.storesCanonical := hs1.modBoot
  have hs3 : s3.storesCanonical := ite hs2.bootCode hs2
  exact ite h (ite h.dieLoss (ite hs1 (ite hs3.stacksFailed.dieLoss hs3)))

theorem bootStart {i : BootInputs} (h : s.storesCanonical) : (s.bootStart i).storesCanonical := by
  unfold State.bootStart
  extract_lets _ s1 _
  have hs1 : s1.storesCanonical := ite h h.bootBegin
  exact ite h (hs1.foldl (fun _ _ hz => hz.bootStep))

theorem firmwareTimeout (h : s.storesCanonical) : s.firmwareTimeout.storesCanonical := by
  unfold State.firmwareTimeout
  extract_lets _
  exact ite h.modBoot h

theorem readyBoot {cause : Nat} {wake : Bool} (h : s.storesCanonical) : (s.readyBoot cause wake).storesCanonical := by
  unfold State.readyBoot
  extract_lets _ s1 _ _ s2
  have hs1 : s1.storesCanonical := h.enterMode.unpower.modPower
  have hs2 : s2.storesCanonical := hs1
  exact ite hs2.emit hs2

theorem leaveHalt (h : s.storesCanonical) : s.leaveHalt.storesCanonical := ite h.readyBoot h
theorem supplyReturn (h : s.storesCanonical) : s.supplyReturn.storesCanonical := ite h.modPower.leaveHalt h
theorem thermalRestart (h : s.storesCanonical) : s.thermalRestart.storesCanonical := ite h.modPower.leaveHalt h

theorem powerUp {vinMv id : Nat} {bootsel : Bool} (h : s.storesCanonical) : (s.powerUp vinMv id bootsel).storesCanonical := by
  unfold State.powerUp
  extract_lets s0 s1 _ _
  have hs0 : s0.storesCanonical := h.readyBoot
  have hs1 : s1.storesCanonical := ite hs0 hs0.emit
  exact ite hs1 h

theorem resetAssert (h : s.storesCanonical) : s.resetAssert.storesCanonical := by
  unfold State.resetAssert
  extract_lets _ s1 _ _
  have hs1 : s1.storesCanonical := h.sendSafe.readyBoot
  exact ite h (ite (modPower h) hs1)

theorem resetRise {id : Nat} {bootsel : Bool} (h : s.storesCanonical) : (s.resetRise id bootsel).storesCanonical := by
  unfold State.resetRise
  extract_lets _
  exact ite h (leaveHalt h)

theorem watchdog (h : s.storesCanonical) : s.watchdog.storesCanonical := ite h h.readyBoot

theorem wakeStandby {cause : WakeCause} {wake : Bool} (h : s.storesCanonical) : (s.wakeStandby cause wake).storesCanonical :=
  h.modPower.readyBoot.modPower

theorem standbyWake {cause : WakeCause} (h : s.storesCanonical) : (s.standbyWake cause).storesCanonical := by
  unfold State.standbyWake
  extract_lets _ _
  exact ite h (ite h.wakeStandby (ite h.modPower h))

theorem edgeSeen {c samples : Nat} {a b : Bool} (h : s.storesCanonical) : (s.edgeSeen c samples a b).storesCanonical := by
  unfold State.edgeSeen
  extract_lets _ s1
  have hs1 : s1.storesCanonical := h.modEncoder
  exact ite (ite hs1.standbyWake hs1) h.countEdge

theorem keySeen {k : Nat} (h : s.storesCanonical) : (s.keySeen k).storesCanonical := ite h.standbyWake h.keyPress

theorem wakeTransfer {b : Byte} (h : s.storesCanonical) : (s.wakeTransfer b).storesCanonical := by
  unfold State.wakeTransfer
  extract_lets s1
  have hs1 : s1.storesCanonical := h.bump
  split
  · exact h.emit
  · split
    · exact ite h.wakeStandby h.emit
    · exact h.emit
    · exact ite hs1.emit hs1
    · exact ite h.wake.emit h.wake.bump

end State.storesCanonical

end Sys2Proof.Machine
end

section
/-! PROOFS. Every store of bytes stays canonical (for O59): the operations on commits, requests and every command, in the model's order. -/

namespace Sys2Proof.Machine
namespace State.storesCanonical

variable {s : State}

/-! ## Staging and commits -/

theorem spread {key : Nat} {v : Val} (h : s.storesCanonical) : (s.spread key v).storesCanonical := h
theorem stagingWrite (h : s.storesCanonical) : s.stagingWrite.storesCanonical := h

theorem releaseStaging (h : s.storesCanonical) : s.releaseStaging.storesCanonical := by
  unfold State.releaseStaging
  extract_lets s1 _
  have hs1 : s1.storesCanonical := h.foldl (fun _ _ hz => hz.spread)
  exact modStaging (dropBanks hs1)

theorem moduleRelease {cause : Nat} (h : s.storesCanonical) : (s.moduleRelease cause).storesCanonical := h.journalOwn.releaseStaging

theorem stagingCommand {src : Src} {v : Nat} (h : s.storesCanonical) : (s.stagingCommand src v).storesCanonical := by
  unfold State.stagingCommand
  extract_lets s1 _ free s2
  have hs1 : s1.storesCanonical := h.journalReq
  have hfree : free.storesCanonical := by
    unfold free
    split
    · exact hs1.releaseStaging
    · exact hs1
  have hs2 : s2.storesCanonical := ite hfree (ite hs1 hfree.modStaging.stagingWrite)
  exact hs2.putNum

theorem stagingIdle (h : s.storesCanonical) : s.stagingIdle.storesCanonical := by
  unfold State.stagingIdle
  extract_lets _
  exact ite h.moduleRelease h

theorem stageVal {key : Nat} {v : Val} (h : s.storesCanonical) : (s.stageVal key v).storesCanonical := h

theorem commitRequest {src : Src} {command : Nat} (h : s.storesCanonical) : (s.commitRequest src command).storesCanonical := by
  unfold State.commitRequest
  extract_lets _ _ s1
  have hs1 : s1.storesCanonical := h.journalReq
  exact hs1.modStaging.stagingWrite

theorem allocate {c : Check} {p : Proposal} (h : s.storesCanonical) : (s.allocate c p).storesCanonical := h

theorem armParts {s0 : State} {p : Proposal} {epoch : Nat} (h : s.storesCanonical) : (s.armParts s0 p epoch).storesCanonical := by
  have hjoined : ∀ (b : Bank) (l m : List Nat), (b.joined l m).table = b.table := fun b l m => by
    unfold Bank.joined
    extract_lets lacks
    split
    · rfl
    · split <;> rfl
  unfold State.armParts
  extract_lets s1 changed s2
  have hs1 : s1.storesCanonical := by
    refine foldl h (fun z v hz => modView (ite hz hz.armTable) (fun w hw b hb => ?_))
    obtain ⟨x, hx, rfl⟩ := List.mem_map.mp hb
    rw [hjoined]
    exact hw x hx
  clear_value s1
  have hs2 : s2.storesCanonical := armBanks (s := { s1 with cics := _ }) hs1
  exact ite hs2.planRings hs2

theorem bindViews {s s0 : State} {p : Proposal} {triggers : List Nat} {epoch : Nat} (h : s.storesCanonical) :
    (s.bindViews s0 p triggers epoch).storesCanonical := by
  unfold State.bindViews
  refine foldl h (fun _ _ hz => ?_)
  split
  · exact hz
  · extract_lets a
    have ha : a.storesCanonical := ite hz.exposureBound hz
    exact ite (ite ha ha.countIssued) ha.startSource

theorem passCommit {c : Check} (h : s.storesCanonical) : (s.passCommit c).storesCanonical := by
  unfold State.passCommit
  extract_lets _ _ _ s1 _ s2 s3 s4
  have hs1 : s1.storesCanonical := h.allocate
  have hs2 : s2.storesCanonical := hs1.commitResult.armParts
  have hs3 : s3.storesCanonical := hs2.moduleRelease.bindViews
  have hs4 : s4.storesCanonical := by
    unfold s4
    split
    · exact hs3
    · exact ite hs3.instantOf hs3
  exact hs4.dropDone.pruneSets

theorem failCheck {c : Check} {code n key : Nat} (h : s.storesCanonical) : (s.failCheck c code n key).storesCanonical := by
  unfold State.failCheck
  extract_lets s1 s2
  have hs1 : s1.storesCanonical := h.modStaging.stagingWrite
  have hs2 : s2.storesCanonical := hs1.commitResult.putNum
  exact ite hs2.moduleRelease hs2

theorem overtake (h : s.storesCanonical) : s.overtake.storesCanonical := by
  unfold State.overtake
  split
  · exact h.failCheck
  · exact h

theorem commitCheckEnd (h : s.storesCanonical) : s.commitCheckEnd.storesCanonical := by
  unfold State.commitCheckEnd
  extract_lets s1 s2
  have hs1 : s1.storesCanonical := h.modStaging.stagingWrite
  have hs2 : s2.storesCanonical := hs1.putNum
  split
  · exact h
  · extract_lets s3
    have hs3 : s3.storesCanonical := hs2.commitResult
    split
    · exact h.failCheck
    · exact ite hs2.passCommit (ite hs3.moduleRelease hs3)

/-! ## Flags -/

theorem rcWrite {r : ObjRow} {key n : Nat} (h : s.storesCanonical) : (s.rcWrite r key n).storesCanonical := by
  unfold State.rcWrite
  extract_lets _ _ s1
  have hs1 : s1.storesCanonical := ite h.putKept h.putVal
  exact ite hs1.alertPinFrom hs1

/-! ## Accepted writes -/

theorem dropTransfer (h : s.storesCanonical) : s.dropTransfer.storesCanonical := by
  unfold State.dropTransfer
  split
  · exact h
  · extract_lets _ s1
    have hs1 : s1.storesCanonical := h.transfer (fun _ ht => by cases ht)
    clear_value s1
    split
    · exact hs1.loadDropped
    · split
      · exact hs1.slotEmptied
      · exact hs1

theorem closeSession {id : SessId} (h : s.storesCanonical) : (s.closeSession id).storesCanonical := by
  unfold State.closeSession
  extract_lets s1 s2 _
  have hs1 : s1.storesCanonical := by
    unfold s1
    split
    · exact ite h.dropTransfer h
    · exact h
  have hs2 : s2.storesCanonical := by
    unfold s2
    split
    · split
      · exact hs1.modStaging
      · exact hs1.moduleRelease
    · exact hs1
  exact hs2

theorem closeAll (h : s.storesCanonical) : s.closeAll.storesCanonical := h.foldl (fun _ _ hz => hz.closeSession)

/-- The descriptor table and the exchange buffer as the host writes them. -/
theorem unitWrite {id : SessId} {key : Nat} {v : Val} (h : s.storesCanonical) : (s.unitWrite id key v).storesCanonical := by
  unfold State.unitWrite
  extract_lets n
  refine ite h.modSession (ite h.modSession (ite h.modSession (ite ?_ (ite ?_ (ite (xbufReplaced ?_) ?_)))))
  · exact h.modEngine (fun _ ⟨htable, hxbuf⟩ => ⟨Mem.writeBytes_wf _ _ htable, hxbuf⟩)
  · exact h.modEngine (fun _ ⟨_, hxbuf⟩ => ⟨Mem.ofBytes_wf _, hxbuf⟩)
  · exact h.modEngine (fun _ ⟨htable, _⟩ => ⟨htable, Mem.ofBytes_wf _⟩)
  · split
    · exact h.slotLoaded.blobReplaced
    · exact h.modRing

theorem rwHook {old : State} {key : Nat} (h : s.storesCanonical) : (s.rwHook old key).storesCanonical := by
  unfold State.rwHook
  extract_lets i
  refine ite h (ite h.stagingWrite (ite (ite h.frameLinesNew h) (ite ?_ (ite h.toutReview (ite h.retestStep (ite h.alertPinFrom
    (ite h.touchEnableNew (ite h.lampModeNew.lampReview (ite h.pwrEnable h)))))))))
  split
  · split
    · exact h.bankLoaded (Mem.ofBytes_wf _)
    · exact h
  · exact h

theorem rwPut {r : ObjRow} {key : Nat} {v : Val} (h : s.storesCanonical) : (s.rwPut r key v).storesCanonical := by
  unfold State.rwPut
  extract_lets s1
  have hs1 : s1.storesCanonical := spread (ite h.putKept h)
  exact ite hs1.blobReplaced hs1

theorem rwWrite {id : SessId} {r : ObjRow} {key : Nat} {v : Val} (h : s.storesCanonical) : (s.rwWrite id r key v).storesCanonical :=
  ite h.unitWrite h.rwPut.rwHook

theorem rsWrite {key : Nat} {v : Val} (h : s.storesCanonical) : (s.rsWrite key v).storesCanonical := by
  unfold State.rsWrite
  extract_lets s1
  have hs1 : s1.storesCanonical := h.stageVal
  split
  · exact hs1.stageBank
  · exact hs1

theorem heartbeat {src : Src} (h : s.storesCanonical) : (s.heartbeat src).storesCanonical := by
  unfold State.heartbeat
  extract_lets _ _ s1
  have hs1 : s1.storesCanonical := h
  exact ite (ite hs1.journalOwn hs1) h

theorem answerChallenge {id : SessId} {n : Nat} (h : s.storesCanonical) : (s.answerChallenge id n).1.storesCanonical := by
  unfold State.answerChallenge
  extract_lets _ s1 _
  have hs1 : s1.storesCanonical := h.modSession
  split
  · exact h
  · split
    · exact hs1
    · split <;> exact hs1

theorem acknowledge {key n : Nat} (h : s.storesCanonical) : (s.acknowledge key n).1.storesCanonical := by
  unfold State.acknowledge
  extract_lets _ s1
  have hs1 : s1.storesCanonical := h.putResult
  split
  · split
    · exact ite hs1.event hs1
    · exact h
  · exact h

theorem writeImage {b : Bytes} (h : s.storesCanonical) : (s.writeImage b).storesCanonical := h

theorem woWrite {src : Src} {r : ObjRow} {key : Nat} {v : Val} (h : s.storesCanonical) : (s.woWrite src r key v).storesCanonical := by
  unfold State.woWrite
  extract_lets _
  exact ite h.heartbeat (ite h.writeImage (ite h.putEdges (ite h.putKept h.putVal)))

theorem restoreDefaults (h : s.storesCanonical) : s.restoreDefaults.storesCanonical := by
  unfold State.restoreDefaults
  extract_lets _ _ _ s1 s2 s3
  have hs1 : s1.storesCanonical := h
  have hs2 : s2.storesCanonical := hs1.reconfigured
  have hs3 : s3.storesCanonical := by
    unfold s3
    refine foldl hs2 (fun _ _ hz => ?_)
    split
    · exact ite hz.blobReplaced (ite hz.rwHook hz)
    · exact hz
  exact ite hs3.planRings.ringsInstant hs3

theorem digestStart (h : s.storesCanonical) : s.digestStart.storesCanonical := h

theorem scanStart {n dwell : Nat} (h : s.storesCanonical) : (s.scanStart n dwell).storesCanonical := by
  unfold State.scanStart
  extract_lets _
  exact ite (putNum h) h.putNum

theorem captureStart {p kind : Nat} (h : s.storesCanonical) : (s.captureStart p kind).storesCanonical := h

theorem buildStart {v mask : Nat} (h : s.storesCanonical) : (s.buildStart v mask).storesCanonical := by
  unfold State.buildStart
  split
  · exact h.startBuild.putNum
  · exact h

theorem stepArm (h : s.storesCanonical) : s.stepArm.storesCanonical := h

theorem clearRetirements (h : s.storesCanonical) : s.clearRetirements.storesCanonical := by
  unfold State.clearRetirements
  extract_lets _ _ s1
  have hs1 : s1.storesCanonical := h
  exact hs1.logPut.putNum

theorem exControl {src : Src} {key n : Nat} (h : s.storesCanonical) : (s.exControl src key n).storesCanonical := by
  unfold State.exControl
  extract_lets _ _
  exact ite h.modSession.putNum (ite h.restoreDefaults.putNum (ite h.stagingCommand (ite h.commitRequest (ite h.digestStart (ite h.clearRetirements
      (ite h.scanStart (ite h.adopt (ite h.regAccess h.captureStart))))))))

theorem exUnit {key n : Nat} (h : s.storesCanonical) : (s.exUnit key n).storesCanonical := by
  unfold State.exUnit
  extract_lets _ _ _
  exact ite h.encPositionSet (ite (ite h.buildStart h.clearHist.putNum) (ite h.slotEmptied.putNum (ite h.flushEdges.putNum (ite (ite h.startDma
      h.dmaStop.putNum) (ite h.stepArm h.pwrReset.putNum)))))

theorem exWrite {src : Src} {key n : Nat} (h : s.storesCanonical) : (s.exWrite src key n).storesCanonical := ite h.exControl h.exUnit

theorem journalWrite {src : Src} {r : ObjRow} {key : Nat} {raw : Bytes} (h : s.storesCanonical) : (s.journalWrite src r key raw).storesCanonical :=
  ite h.journalPut (ite h.journalReq h)

theorem writeEffect {src : Src} {r : ObjRow} {key : Nat} {v : Val} (h : s.storesCanonical) : (s.writeEffect src r key v).storesCanonical := by
  unfold State.writeEffect
  split
  · exact h.rwWrite
  · exact h.rsWrite
  · exact h.rcWrite
  · exact h.exWrite
  · exact h.woWrite
  · exact h

theorem applyWrite {src : Src} {r : ObjRow} {key : Nat} {raw : Bytes} (h : s.storesCanonical) : (s.applyWrite src r key raw).1.storesCanonical := by
  unfold State.applyWrite
  extract_lets _ _ s1 a
  have hs1 : s1.storesCanonical := ite h.journalReq h.journalFailed
  have ha : a.1.storesCanonical := h.acknowledge
  split
  · exact hs1.answerChallenge
  · split
    · exact ha
    · exact h.journalWrite.writeEffect

/-! ## Dictionary requests -/

theorem reject {src : Src} {code : Nat} (h : s.storesCanonical) : (s.reject src code).1.storesCanonical := h

theorem markRead {key : Nat} (h : s.storesCanonical) : (s.markRead key).storesCanonical := by
  unfold State.markRead
  extract_lets _
  exact ite h.putResult h

theorem covered {src : Src} {key : Nat} (h : s.storesCanonical) : (s.covered src key).storesCanonical := by
  unfold State.covered
  extract_lets _ _
  split
  · exact ite h.markRead h
  · exact ite h h

theorem freshNonce {id : SessId} (h : s.storesCanonical) : (s.freshNonce id).1.storesCanonical := h

theorem doRead {src : Src} {x : Session} {q : Req} (h : s.storesCanonical) : (s.doRead src x q).1.storesCanonical := by
  unfold State.doRead
  extract_lets _ a
  have ha : a.1.storesCanonical := h.requestSeen.freshNonce
  split
  · exact h.reject
  · split
    · exact h.reject
    · split
      · exact ha
      · split
        · extract_lets _
          split
          · exact h.reject
          · exact h.requestSeen
        · split
          · exact h.requestSeen
          · split
            · exact h.reject
            · exact h.requestSeen.covered

theorem endsSnapshot {src : Src} {id : SessId} {key : Nat} (h : s.storesCanonical) : (s.endsSnapshot src id key).storesCanonical := by
  unfold State.endsSnapshot
  extract_lets _ _
  split
  · exact h.modSession
  · exact h

theorem segment {src : Src} {id : SessId} {key offset : Nat} {b : Bytes} (h : s.storesCanonical) :
    (s.segment src id key offset b).1.storesCanonical := by
  unfold State.segment
  extract_lets _ _ s1
  have hs1 : s1.storesCanonical := h.requestSeen.modSession
  split
  · exact h.reject
  · exact ite hs1.endsSnapshot hs1

theorem doSegRead {src : Src} {x : Session} {q : Req} (h : s.storesCanonical) : (s.doSegRead src x q).1.storesCanonical := by
  unfold State.doSegRead
  extract_lets _
  split
  · exact h.reject
  · split
    · exact h.reject
    · split
      · split
        · exact h.requestSeen
        · exact h.covered.segment
      · split
        · exact h.requestSeen
        · exact h.segment

theorem blobRead {key offset n : Nat} (h : s.storesCanonical) : (s.blobRead key offset n).1.storesCanonical := by
  unfold State.blobRead
  split
  · exact h
  · extract_lets _ r
    have hr : r.1.storesCanonical := h.hbmTouch.hbmFailed
    exact hr

theorem doBlockRead {src : Src} {x : Session} {q : Req} (h : s.storesCanonical) : (s.doBlockRead src x q).1.storesCanonical := by
  unfold State.doBlockRead
  extract_lets _ _
  split
  · exact h.reject
  · split
    · exact h.reject
    · split
      · exact h.requestSeen
      · extract_lets got
        have hgot : got.1.storesCanonical := h.requestSeen.blobRead
        split
        · exact h.reject
        · split
          · exact h.requestSeen
          · split
            · exact hgot
            · split
              · exact hgot.covered.modSession
              · exact hgot

theorem doWrite {src : Src} {x : Session} {q : Req} (h : s.storesCanonical) : (s.doWrite src x q).1.storesCanonical := by
  unfold State.doWrite
  extract_lets _
  split
  · exact h.reject
  · extract_lets a
    have ha : a.1.storesCanonical := h.requestSeen.applyWrite
    split
    · exact h.reject
    · split
      · exact ha
      · exact h.reject

theorem touch_ {r : ObjRow} (h : s.storesCanonical) : (s.touch_ r).storesCanonical := ite h.stagingWrite h

theorem segFinish {src : Src} {r : ObjRow} {key : Nat} {b : Bytes} (h : s.storesCanonical) : (s.segFinish src r key b).1.storesCanonical := by
  unfold State.segFinish
  extract_lets s1 a
  have hs1 : s1.storesCanonical := h.modSession
  have ha : a.1.storesCanonical := hs1.applyWrite
  split
  · exact hs1.journalFailed
  · split
    · exact ha
    · exact hs1.journalFailed

theorem doSegWrite {src : Src} {x : Session} {q : Req} (h : s.storesCanonical) : (s.doSegWrite src x q).1.storesCanonical := by
  unfold State.doSegWrite
  dsimp only
  split
  · exact h.reject
  split
  · exact h.reject
  split
  · exact h.reject
  split
  · exact h.requestSeen.touch_.modSession.journalFailed
  split
  · exact h.requestSeen.touch_.segFinish
  · exact h.requestSeen.touch_.modSession

theorem blobOpens {key : Nat} (h : s.storesCanonical) : (s.blobOpens key).storesCanonical := by
  unfold State.blobOpens
  split
  · split
    · exact h.bankLoading
    · exact h
  · split
    · exact h.slotEmptied
    · exact h

theorem doBlockStart {src : Src} {x : Session} {q : Req} (h : s.storesCanonical) : (s.doBlockStart src x q).1.storesCanonical := by
  have hempty : ∀ {z : State} {t : Transfer}, z.storesCanonical → t.buffer = [] →
      ({ z with ctl := { z.ctl with transfer := some t } } : State).storesCanonical :=
    fun hz ht => hz.transfer (fun _ he => by rw [← Option.some.inj he, ht]; rfl)
  unfold State.doBlockStart
  dsimp only
  split
  · exact h.reject
  split
  · exact h.reject
  split
  · exact h.reject
  have hseen := fun r : ObjRow => (h.requestSeen.touch_ (r := r))
  split
  · split
    · exact hseen _
    · exact hempty (hseen _).dropTransfer.blobOpens rfl
  · exact hempty (hseen _).blobOpens rfl

theorem blobBuffered {offset n : Nat} (h : s.storesCanonical) : (s.blobBuffered offset n).storesCanonical := h.hbmTouch

/-- Blocks enter the buffer of the transfer. -/
theorem doBlockData {src : Src} {x : Session} {q : Req} (h : s.storesCanonical) : (s.doBlockData src x q).1.storesCanonical := by
  unfold State.doBlockData
  split
  · exact h.reject
  split
  · exact h.reject
  split
  · exact h.reject
  split
  · split
    · exact h.requestSeen.touch_
    · exact h.reject
  · rename_i t ht
    split
    · refine h.requestSeen.touch_.blobBuffered.transfer (fun y hy => ?_)
      rw [← Option.some.inj hy]
      exact Transfer.enter_wf (h.openTransfer ht)
    · exact h.reject

theorem blobFinish {src : Src} {r : ObjRow} {key crc : Nat} {b : Bytes} (h : s.storesCanonical) :
    (s.blobFinish src r key crc b).1.storesCanonical := by
  unfold State.blobFinish
  split
  · exact h.dropTransfer.journalFailed
  · exact applyWrite (s := { s with ctl := { s.ctl with transfer := none } }) (h.transfer (fun t ht => nomatch ht))

theorem doBlockEnd {src : Src} {x : Session} {q : Req} (h : s.storesCanonical) : (s.doBlockEnd src x q).1.storesCanonical := by
  unfold State.doBlockEnd
  extract_lets _
  split
  · exact h.reject
  · extract_lets s1
    have hs1 : s1.storesCanonical := h.requestSeen.touch_
    split
    · exact h.reject
    · split
      · split
        · exact h.requestSeen.touch_
        · exact h.reject
      · split
        · exact hs1
        · exact hs1.blobFinish

theorem executeAt {src : Src} {x : Session} {q : Req} (h : s.storesCanonical) : (s.executeAt src x q).1.storesCanonical := by
  unfold State.executeAt
  split
  · exact h.doRead
  · split
    · exact h.doWrite
    · split
      · exact h.doSegRead
      · split
        · exact h.doSegWrite
        · split
          · exact h.doBlockStart
          · split
            · exact h.doBlockData
            · split
              · exact h.doBlockEnd
              · split
                · exact h.doBlockRead
                · exact h.reject

theorem execute {src : Src} {x : Session} {q : Req} (h : s.storesCanonical) : (s.execute src x q).1.storesCanonical := h.executeAt
theorem i3cNack (h : s.storesCanonical) : s.i3cNack.storesCanonical := emit (ite h.wake h)

theorem i3cReady {tag : Nat} {x : Resp} (h : s.storesCanonical) : (s.i3cReady tag x).storesCanonical := by
  unfold State.i3cReady
  extract_lets _ _
  exact event h

theorem i3cFresh (h : s.storesCanonical) : s.i3cFresh.storesCanonical := h

theorem i3cExecute {tag : Nat} {q : Req} (h : s.storesCanonical) : (s.i3cExecute tag q).storesCanonical := by
  unfold State.i3cExecute
  extract_lets s0 a _ s1 _ _ s2 s3 _ _
  have hs0 : s0.storesCanonical := h.i3cFresh
  have ha : a.1.storesCanonical := hs0.execute
  have hs1 : s1.storesCanonical := ha.modSession
  have hs2 : s2.storesCanonical := hs1
  have hs3 : s3.storesCanonical := hs2.i3cReady
  exact ite hs3 hs3

theorem i3cRequest {tag : Nat} {q : Req} (h : s.storesCanonical) : (s.i3cRequest tag q).storesCanonical := by
  unfold State.i3cRequest
  split
  · exact h.i3cNack
  · split
    · exact ite h.bump.i3cReady h.i3cExecute
    · exact h.i3cExecute

theorem frameCheck {tag : Nat} (h : s.storesCanonical) : (s.frameCheck tag).storesCanonical := ite h.i3cNack h.i3cReady

theorem resultSent (h : s.storesCanonical) : s.resultSent.storesCanonical := by
  unfold State.resultSent
  split
  · exact ite h.markRead h
  · exact h

theorem snapshotSent (h : s.storesCanonical) : s.snapshotSent.storesCanonical := by
  unfold State.snapshotSent
  split
  · exact h.modSession
  · exact h

theorem responseSent {x : Resp} (h : s.storesCanonical) : (s.responseSent x).storesCanonical := by
  unfold State.responseSent
  extract_lets s1 y _ _
  have hs1 : s1.storesCanonical := h.resultSent.snapshotSent
  have hy : y.storesCanonical := hs1.closeAll
  exact ite h (ite hy hs1)

theorem responseRead (h : s.storesCanonical) : s.responseRead.storesCanonical := by
  unfold State.responseRead
  split
  · exact h.i3cNack
  · split
    · exact h.responseSent.emit
    · exact h.emit

theorem ibiDelivery (h : s.storesCanonical) : s.ibiDelivery.storesCanonical := by
  unfold State.ibiDelivery
  extract_lets _ _
  exact ite (emit h) h

theorem setAddress {address : Nat} (h : s.storesCanonical) : (s.setAddress address).storesCanonical := ite h.putNum h
theorem ydpAnswer {e ip port sess seq : Nat} {x : Resp} (h : s.storesCanonical) : (s.ydpAnswer e ip port sess seq x).storesCanonical := h.resolve.tx

theorem openSession {e ip port : Nat} {data : Bytes} (h : s.storesCanonical) : (s.openSession e ip port data).1.storesCanonical := by
  unfold State.openSession
  extract_lets _ _ _ _ _
  split
  · exact h.bump
  · split
    · extract_lets _
      exact h.modSession
    · split <;> exact h

theorem ydpOrdered {e ip port sess seq : Nat} {x : Session} {q : Req} (h : s.storesCanonical) :
    (s.ydpOrdered e ip port sess seq x q).storesCanonical := by
  unfold State.ydpOrdered
  extract_lets _ a _ s0 s1
  have ha : a.1.storesCanonical := h.execute
  have hs0 : s0.storesCanonical := ite ha.modSession ha
  have hs1 : s1.storesCanonical := hs0.ydpAnswer
  split
  · exact ydpAnswer (ite ha.modSession ha)
  · split
    · exact h.bump.ydpAnswer
    · exact ite h.ydpAnswer (ite h.closeSession.ydpAnswer (ite hs1.closeAll hs1))

theorem ydpRequest {s0 : State} {e ip port sess seq : Nat} {q : Req} (h : s0.storesCanonical) :
    (s0.ydpRequest e ip port sess seq q).storesCanonical := by
  unfold State.ydpRequest
  extract_lets s' a
  have hs' : s'.storesCanonical := h.rx
  have ha : a.1.storesCanonical := hs'.openSession
  split
  · exact h
  · split
    · exact hs'.bump.ydpAnswer
    · split
      · exact ha.ydpAnswer
      · split
        · exact hs'.ydpAnswer
        · exact ite hs'.ydpAnswer hs'.modSession.ydpOrdered

theorem datagramDrop {e : Nat} (h : s.storesCanonical) : (s.datagramDrop e).storesCanonical := ite h.rx.bump h

theorem sessionIdle {n : Nat} (h : s.storesCanonical) : (s.sessionIdle n).storesCanonical := by
  unfold State.sessionIdle
  split
  · exact ite h.closeSession h
  · exact h

theorem dictionary {src : Src} {q : Req} (h : s.storesCanonical) : (s.dictionary src q).storesCanonical := by
  unfold State.dictionary
  extract_lets _
  split
  · exact h.i3cRequest
  · exact h.ydpRequest

theorem frameBytes {frame : Bytes} (h : s.storesCanonical) : (s.frameBytes frame).storesCanonical := by
  unfold State.frameBytes
  split
  · exact h
  · exact h.wakeTransfer
  · split
    · exact h.dictionary
    · exact h.frameCheck

theorem datagramBytes {e ip port : Nat} {datagram : Bytes} {checksumOk : Bool} (h : s.storesCanonical) :
    (s.datagramBytes e ip port datagram checksumOk).storesCanonical := by
  unfold State.datagramBytes
  split
  · exact h.dictionary
  · exact h.datagramDrop

theorem nonceExpiry {id : SessId} (h : s.storesCanonical) : (s.nonceExpiry id).storesCanonical := h

theorem lockoutEnd (h : s.storesCanonical) : s.lockoutEnd.storesCanonical := by
  unfold State.lockoutEnd
  extract_lets _
  split
  · exact ite h h
  · exact h

/-! ## The start of a command -/

theorem drained (h : s.storesCanonical) : s.drained.storesCanonical := h.linksDrain.ethDrain.ethDrain

theorem advance {dt : Nat} (h : s.storesCanonical) : (State.advance dt s).storesCanonical := by
  unfold State.advance
  extract_lets t
  have ht : t.storesCanonical := h.elapse.drained
  exact ite ht ht.hbmSettle.stacksReviewed

/-! ## A line of a view -/

theorem closeSlice {v r : Nat} (h : s.storesCanonical) : (s.closeSlice v r).storesCanonical := by
  unfold State.closeSlice
  extract_lets _
  exact h.forceClose

theorem regionReset {r : Nat} (h : s.storesCanonical) : (s.regionReset r).storesCanonical := by
  unfold State.regionReset
  extract_lets s1 _ s2 s2' s3
  have hs1 : s1.storesCanonical := ite h h.upset
  have hs2 : s2.storesCanonical := hs1.bump.modRegion
  have hs2' : s2'.storesCanonical := ite hs2.copyMismatch hs2
  have hs3 : s3.storesCanonical := by
    unfold s3
    split
    · exact hs2'.closeSlice
    · exact hs2'
  exact ite (ite hs3.retirePort hs3) h

theorem eccWord {v k : Nat} {e : EccCell} (h : s.storesCanonical) : (s.eccWord v k e).storesCanonical := by
  unfold State.eccWord
  extract_lets s1 s2 ts _ _ put
  have hs2 : s2.storesCanonical := h.bump.bump.modRegion
  have hput : ∀ l, (put l).storesCanonical := fun _ => hs2
  exact ite h.bump (ite h.bump.bump (ite (hput _).regionReset (hput _)))

theorem histFlush {v : Nat} (h : s.storesCanonical) : (s.histFlush v).storesCanonical := by
  unfold State.histFlush
  extract_lets _ _
  exact ite h.hbmTouch h

theorem lineOn {v : Nat} {i : Issue} {g : Geometry} {line : PixLine} {ecc : List EccCell} (h : s.storesCanonical) :
    (s.lineOn v i g line ecc).storesCanonical := by
  unfold State.lineOn
  extract_lets _ _ s1 _ _ _ s2
  have hs1 : s1.storesCanonical := h.swapBank
  have hs2 : s2.storesCanonical := hs1.countHist.histFlush.classStats.segmentLine
  exact hs2.imageWrite.streams.foldl (fun _ _ hz => hz.eccWord)

theorem stitchNext {v : Nat} {ecc : List EccCell} (h : s.storesCanonical) : (s.stitchNext v ecc).storesCanonical := by
  unfold State.stitchNext
  split
  · exact h
  · split
    · exact h
    · extract_lets q
      have hq : q.1.storesCanonical := h.stitch
      exact ite hq.lineOn h

/-! ## The system link -/

theorem laneExit {n : Nat} (h : s.storesCanonical) : (s.laneExit n).storesCanonical := by
  unfold State.laneExit
  extract_lets _
  exact ite (ite h.modLane.laneSignal.laneAligned h.darkLane.lanesReviewed) h

theorem alignmentLoss {n : Nat} {crc : Bool} (h : s.storesCanonical) : (s.alignmentLoss n crc).storesCanonical := ite (ite h.laneCrc h.realign) h
theorem eyeRound {n height width : Nat} (h : s.storesCanonical) : (s.eyeRound n height width).storesCanonical := ite h.eyeTaken h

theorem eyeFloor {n : Nat} (h : s.storesCanonical) : (s.eyeFloor n).storesCanonical := by
  unfold State.eyeFloor
  split
  · exact ite h.retireLane h
  · exact h

theorem scanDone {counts : List Nat} (h : s.storesCanonical) : (s.scanDone counts).storesCanonical := by
  unfold State.scanDone
  extract_lets _ s1
  have hs1 : s1.storesCanonical := h
  split
  · exact h
  · exact ite hs1.putNum.completeResult hs1.putNum

theorem packetHeader {p lane pseq camStatus : Nat} (h : s.storesCanonical) : (s.packetHeader p lane pseq camStatus).storesCanonical :=
  ite h.hlpHeader h

theorem cameraEvent {p : Nat} {payload : Bytes} (h : s.storesCanonical) : (s.cameraEvent p payload).storesCanonical := h.completeResult

theorem cxpImage {p : Nat} {kind : CxpKind} {width bits bands : Nat} {h' : HlpHeader} {payload : Bytes} (h : s.storesCanonical) :
    (s.cxpImage p kind width bits bands h' payload).storesCanonical := by
  unfold State.cxpImage
  extract_lets _
  split
  · exact lineSlice (ite h h.orFlags)
  · exact h.orFlags
  · exact h.bump.orFlags

theorem linkSeq {n pseq : Nat} (h : s.storesCanonical) : (s.linkSeq n pseq).storesCanonical := by
  unfold State.linkSeq
  extract_lets r
  have hr : r.1.storesCanonical := h.trackPseq
  exact ite hr hr.alert

theorem seamPacket {n v index offset pseq : Nat} {last : Bool} {payload : Bytes} (h : s.storesCanonical) :
    (s.seamPacket n v index offset pseq last payload).storesCanonical :=
  h.linkSeq.seamBytes

theorem linkRecord {r : LinkRecord} (h : s.storesCanonical) : (s.linkRecord r).storesCanonical := by
  unfold State.linkRecord
  split
  · extract_lets _ _
    exact ite h.takeEdges (ite h.takeFragment h.remoteComet)
  · exact h.takeOpen

theorem cometRecords {n pseq : Nat} {records : List LinkRecord} (h : s.storesCanonical) : (s.cometRecords n pseq records).storesCanonical :=
  h.linkSeq.foldl (fun _ _ hz => hz.linkRecord)

theorem linkEvent {k channel time index : Nat} (h : s.storesCanonical) : (s.linkEvent k channel time index).storesCanonical := by
  unfold State.linkEvent
  extract_lets _ _ s1
  have hs1 : s1.storesCanonical := h
  exact ite hs1.remoteTrigger hs1

theorem linkEvents {n pseq : Nat} {events : List (Nat × Nat × Nat)} (h : s.storesCanonical) : (s.linkEvents n pseq events).storesCanonical := by
  unfold State.linkEvents
  extract_lets _
  exact h.linkSeq.foldl (fun _ _ hz => hz.linkEvent)

theorem linkStatusIn {s0 : State} {n pseq sender : Nat} (h : s0.storesCanonical) : (s0.linkStatusIn n pseq sender).storesCanonical := by
  unfold State.linkStatusIn
  extract_lets s' s1
  have hs' : s'.storesCanonical := h.linkSeq
  have hs1 : s1.storesCanonical := hs'.modLane.putNum
  exact ite hs1.alert hs1

theorem linkStatusOut (h : s.storesCanonical) : s.linkStatusOut.storesCanonical := h.foldl (fun _ _ hz => hz.sendLink)
theorem linkStatusLost {n : Nat} (h : s.storesCanonical) : (s.linkStatusLost n).storesCanonical := ite h.putNum.realign h

theorem heartbeatLate (h : s.storesCanonical) : s.heartbeatLate.storesCanonical := by
  unfold State.heartbeatLate
  extract_lets _ _
  exact ite (event h) h

theorem hostLost (h : s.storesCanonical) : s.hostLost.storesCanonical := by
  unfold State.hostLost
  extract_lets _ _ s1 s2
  have hs1 : s1.storesCanonical := alert (bump h)
  have hs2 : s2.storesCanonical := hs1.journalOwn.testOff
  exact ite (ite hs2.moduleResult.overtake.setMode hs2) h

/-! ## Other commands -/

theorem captureTimeout {p : Nat} (h : s.storesCanonical) : (s.captureTimeout p).storesCanonical := by
  unfold State.captureTimeout
  split
  · exact h
  · exact ite h.modRegion.putNum h

theorem imageProgrammed {k : Nat} (h : s.storesCanonical) : (s.imageProgrammed k).storesCanonical := h

theorem syncFrame {p : Nat} {origin : Int} {f : PtpFields} (h : s.storesCanonical) : (s.syncFrame p origin f).storesCanonical :=
  ite h.bump (ite h.syncTaken h.rx)

theorem announceFrame {p : Nat} {h' : AnnounceHead} {rank : Nat} {utc : Int} (h : s.storesCanonical) :
    (s.announceFrame p h' rank utc).storesCanonical :=
  ite h.bump (ite h.announce h.rx)

end State.storesCanonical

/-! ## Every command -/

/-- Each command's effect keeps the stores canonical. -/
theorem exec_keeps_stores (s : State) (i : Instr) : ∃ admits effect, exec i s = s.run i.dt admits effect ∧
    ∀ z : State, z.storesCanonical → (effect z).storesCanonical :=
  match i with
  | .read a0 a1 a2 a3 a4 => ⟨_, _, exec_read s a0 a1 a2 a3 a4, fun _ h => h.dictionary⟩
  | .write a0 a1 a2 a3 a4 => ⟨_, _, exec_write s a0 a1 a2 a3 a4, fun _ h => h.dictionary⟩
  | .segRead a0 a1 a2 a3 a4 => ⟨_, _, exec_segRead s a0 a1 a2 a3 a4, fun _ h => h.dictionary⟩
  | .segWrite a0 a1 a2 a3 a4 a5 a6 => ⟨_, _, exec_segWrite s a0 a1 a2 a3 a4 a5 a6, fun _ h => h.dictionary⟩
  | .blockStart a0 a1 a2 a3 a4 => ⟨_, _, exec_blockStart s a0 a1 a2 a3 a4, fun _ h => h.dictionary⟩
  | .blockData a0 a1 a2 a3 a4 a5 => ⟨_, _, exec_blockData s a0 a1 a2 a3 a4 a5, fun _ h => h.dictionary⟩
  | .blockEnd a0 a1 a2 a3 a4 => ⟨_, _, exec_blockEnd s a0 a1 a2 a3 a4, fun _ h => h.dictionary⟩
  | .blockRead a0 a1 a2 a3 a4 => ⟨_, _, exec_blockRead s a0 a1 a2 a3 a4, fun _ h => h.dictionary⟩
  | .sessionOpen a0 a1 a2 a3 a4 a5 => ⟨_, _, exec_sessionOpen s a0 a1 a2 a3 a4 a5, fun _ h => h.dictionary⟩
  | .sessionClose a0 a1 => ⟨_, _, exec_sessionClose s a0 a1, fun _ h => h.dictionary⟩
  | .sessionIdle a0 a1 => ⟨_, _, exec_sessionIdle s a0 a1, fun _ h => h.sessionIdle⟩
  | .frameCheck a0 a1 => ⟨_, _, exec_frameCheck s a0 a1, fun _ h => h.frameBytes⟩
  | .datagramDrop a0 a1 => ⟨_, _, exec_datagramDrop s a0 a1, fun _ h => h.datagramBytes⟩
  | .responseRead a0 => ⟨_, _, exec_responseRead s a0, fun _ h => h.responseRead⟩
  | .ibiDelivery a0 => ⟨_, _, exec_ibiDelivery s a0, fun _ h => h.ibiDelivery⟩
  | .setdasa a0 a1 => ⟨_, _, exec_setdasa s a0 a1, fun _ h => h.setAddress⟩
  | .entdaa a0 a1 => ⟨_, _, exec_entdaa s a0 a1, fun _ h => h.setAddress⟩
  | .wakeTransfer a0 a1 => ⟨_, _, exec_wakeTransfer s a0 a1, fun _ h => h.wakeTransfer⟩
  | .ydpPort a0 a1 a2 => ⟨_, _, exec_ydpPort s a0 a1 a2, fun _ h => h.dictionary⟩
  | .challenge a0 a1 => ⟨_, _, exec_challenge s a0 a1, fun _ h => h.dictionary⟩
  | .response a0 a1 a2 => ⟨_, _, exec_response s a0 a1 a2, fun _ h => h.dictionary⟩
  | .nonceExpiry a0 a1 => ⟨_, _, exec_nonceExpiry s a0 a1, fun _ h => h.nonceExpiry⟩
  | .lockoutEnd a0 => ⟨_, _, exec_lockoutEnd s a0, fun _ h => h.lockoutEnd⟩
  | .dropLevel a0 a1 a2 => ⟨_, _, exec_dropLevel s a0 a1 a2, fun _ h => h.dictionary⟩
  | .restoreDefaults a0 a1 a2 => ⟨_, _, exec_restoreDefaults s a0 a1 a2, fun _ h => h.dictionary⟩
  | .rcClear a0 a1 a2 a3 a4 => ⟨_, _, exec_rcClear s a0 a1 a2 a3 a4, fun _ h => h.dictionary⟩
  | .ack a0 a1 a2 a3 => ⟨_, _, exec_ack s a0 a1 a2 a3, fun _ h => h.dictionary⟩
  | .heartbeat a0 a1 a2 => ⟨_, _, exec_heartbeat s a0 a1 a2, fun _ h => h.dictionary⟩
  | .period a0 a1 a2 => ⟨_, _, exec_period s a0 a1 a2, fun _ h => h.dictionary⟩
  | .heartbeatLate a0 => ⟨_, _, exec_heartbeatLate s a0, fun _ h => h.heartbeatLate⟩
  | .hostLost a0 => ⟨_, _, exec_hostLost s a0, fun _ h => h.hostLost⟩
  | .openStaging a0 a1 => ⟨_, _, exec_openStaging s a0 a1, fun _ h => h.dictionary⟩
  | .releaseStaging a0 a1 => ⟨_, _, exec_releaseStaging s a0 a1, fun _ h => h.dictionary⟩
  | .seize a0 a1 => ⟨_, _, exec_seize s a0 a1, fun _ h => h.dictionary⟩
  | .stagingIdle a0 => ⟨_, _, exec_stagingIdle s a0, fun _ h => h.stagingIdle⟩
  | .commit a0 a1 => ⟨_, _, exec_commit s a0 a1, fun _ h => h.dictionary⟩
  | .checkOnly a0 a1 => ⟨_, _, exec_checkOnly s a0 a1, fun _ h => h.dictionary⟩
  | .commitCheckEnd a0 => ⟨_, _, exec_commitCheckEnd s a0, fun _ h => h.commitCheckEnd⟩
  | .commitInstant a0 => ⟨_, _, exec_commitInstant s a0, fun _ h => h.fullTimeInstant⟩
  | .digestStart a0 a1 a2 => ⟨_, _, exec_digestStart s a0 a1 a2, fun _ h => h.dictionary⟩
  | .digestResult a0 => ⟨_, _, exec_digestResult s a0, fun _ h => h.digestResult⟩
  | .mirrorWrite a0 => ⟨_, _, exec_mirrorWrite s a0, fun _ h => h.mirrorWrite⟩
  | .logWrite a0 => ⟨_, _, exec_logWrite s a0, fun _ h => h.logWrite⟩
  | .powerUp a0 a1 a2 a3 => ⟨_, _, exec_powerUp s a0 a1 a2 a3, fun _ h => h.powerUp⟩
  | .bootStart a0 a1 => ⟨_, _, exec_bootStart s a0 a1, fun _ h => h.bootStart⟩
  | .firmwareTimeout a0 => ⟨_, _, exec_firmwareTimeout s a0, fun _ h => h.firmwareTimeout⟩
  | .resetNAssert a0 => ⟨_, _, exec_resetNAssert s a0, fun _ h => h.resetAssert⟩
  | .resetNRise a0 a1 a2 => ⟨_, _, exec_resetNRise s a0 a1 a2, fun _ h => h.resetRise⟩
  | .brownOut a0 => ⟨_, _, exec_brownOut s a0, fun _ h => h.brownOut⟩
  | .supplyFault a0 => ⟨_, _, exec_supplyFault s a0, fun _ h => h.supplyFault⟩
  | .supplyReturn a0 => ⟨_, _, exec_supplyReturn s a0, fun _ h => h.supplyReturn⟩
  | .thermalTrip a0 a1 => ⟨_, _, exec_thermalTrip s a0 a1, fun _ h => h.thermalTrip⟩
  | .thermalRestart a0 => ⟨_, _, exec_thermalRestart s a0, fun _ h => h.thermalRestart⟩
  | .pllLoss a0 => ⟨_, _, exec_pllLoss s a0, fun _ h => h.dieLoss⟩
  | .housekeepingRound a0 a1 => ⟨_, _, exec_housekeepingRound s a0 a1, fun _ h => h.housekeeping⟩
  | .guaranteeHeld a0 => ⟨_, _, exec_guaranteeHeld s a0, fun _ h => h.guaranteeHeld⟩
  | .idleTimer a0 => ⟨_, _, exec_idleTimer s a0, fun _ h => h.stepDown⟩
  | .selfRefreshEntry a0 a1 => ⟨_, _, exec_selfRefreshEntry s a0 a1, fun _ h => h.selfRefresh⟩
  | .deepEntry a0 => ⟨_, _, exec_deepEntry s a0, fun _ h => h.deepEntry⟩
  | .wake a0 a1 => ⟨_, _, exec_wake s a0 a1, fun _ h => h.wake⟩
  | .deepExit a0 a1 => ⟨_, _, exec_deepExit s a0 a1, fun _ h => h.deepExit⟩
  | .standbyWake a0 a1 => ⟨_, _, exec_standbyWake s a0 a1, fun _ h => h.standbyWake⟩
  | .pipelineGate a0 a1 => ⟨_, _, exec_pipelineGate s a0 a1, fun _ h => h.pipelineGate⟩
  | .tileLight a0 a1 => ⟨_, _, exec_tileLight s a0 a1, fun _ h => h.tileLight⟩
  | .noSignal a0 a1 => ⟨_, _, exec_noSignal s a0 a1, fun _ h => h.laneNoSignal⟩
  | .signalDetect a0 a1 => ⟨_, _, exec_signalDetect s a0 a1, fun _ h => h.laneSignal⟩
  | .aligned a0 a1 => ⟨_, _, exec_aligned s a0 a1, fun _ h => h.laneAligned⟩
  | .alignmentLoss a0 a1 a2 => ⟨_, _, exec_alignmentLoss s a0 a1 a2, fun _ h => h.alignmentLoss⟩
  | .laneExit a0 a1 => ⟨_, _, exec_laneExit s a0 a1, fun _ h => h.laneExit⟩
  | .eyeMeasure a0 a1 a2 a3 => ⟨_, _, exec_eyeMeasure s a0 a1 a2 a3, fun _ h => h.eyeRound⟩
  | .eyeFloor a0 a1 => ⟨_, _, exec_eyeFloor s a0 a1, fun _ h => h.eyeFloor⟩
  | .eyeScan a0 a1 a2 a3 => ⟨_, _, exec_eyeScan s a0 a1 a2 a3, fun _ h => h.dictionary⟩
  | .eyeScanDone a0 a1 => ⟨_, _, exec_eyeScanDone s a0 a1, fun _ h => h.scanDone⟩
  | .adopt a0 a1 a2 a3 => ⟨_, _, exec_adopt s a0 a1 a2 a3, fun _ h => h.dictionary⟩
  | .regRead a0 a1 a2 a3 => ⟨_, _, exec_regRead s a0 a1 a2 a3, fun _ h => h.dictionary⟩
  | .regWrite a0 a1 a2 a3 => ⟨_, _, exec_regWrite s a0 a1 a2 a3, fun _ h => h.dictionary⟩
  | .regTimeout a0 a1 => ⟨_, _, exec_regTimeout s a0 a1, fun _ h => h.regTimeout⟩
  | .regResponse a0 a1 a2 a3 a4 a5 => ⟨_, _, exec_regResponse s a0 a1 a2 a3 a4 a5, fun _ h => h.packetHeader.regAnswer⟩
  | .linePacket a0 a1 a2 a3 a4 a5 => ⟨_, _, exec_linePacket s a0 a1 a2 a3 a4 a5, fun _ h => h.hlpLine⟩
  | .cameraEvent a0 a1 a2 => ⟨_, _, exec_cameraEvent s a0 a1 a2, fun _ h => h.packetHeader.cameraEvent⟩
  | .statusPacket a0 a1 a2 a3 => ⟨_, _, exec_statusPacket s a0 a1 a2 a3, fun _ h => h.hlpHeader⟩
  | .cxpImagePacket a0 a1 a2 a3 a4 => ⟨_, _, exec_cxpImagePacket s a0 a1 a2 a3 a4, fun _ h => h.cxpImage⟩
  | .cxpControlResponse a0 a1 a2 a3 => ⟨_, _, exec_cxpControlResponse s a0 a1 a2 a3, fun _ h => h.cxpControl⟩
  | .trigAck a0 a1 => ⟨_, _, exec_trigAck s a0 a1, fun _ h => h.bump⟩
  | .cxpHeartbeat a0 a1 a2 => ⟨_, _, exec_cxpHeartbeat s a0 a1 a2, fun _ h => h.putNum⟩
  | .reasmWindow a0 a1 a2 => ⟨_, _, exec_reasmWindow s a0 a1 a2, fun _ h => h.windowPassed⟩
  | .trigEnd a0 a1 => ⟨_, _, exec_trigEnd s a0 a1, fun _ h => h.trigEnd⟩
  | .seam a0 a1 a2 a3 a4 a5 a6 a7 => ⟨_, _, exec_seam s a0 a1 a2 a3 a4 a5 a6 a7, fun _ h => h.seamPacket⟩
  | .cometPacket a0 a1 a2 a3 => ⟨_, _, exec_cometPacket s a0 a1 a2 a3, fun _ h => h.cometRecords⟩
  | .eventPacket a0 a1 a2 a3 => ⟨_, _, exec_eventPacket s a0 a1 a2 a3, fun _ h => h.linkEvents⟩
  | .linkStatus a0 a1 a2 a3 => ⟨_, _, exec_linkStatus s a0 a1 a2 a3, fun _ h => h.linkStatusIn⟩
  | .linkStatusSend a0 => ⟨_, _, exec_linkStatusSend s a0, fun _ h => h.linkStatusOut⟩
  | .linkStatusTimeout a0 a1 => ⟨_, _, exec_linkStatusTimeout s a0 a1, fun _ h => h.linkStatusLost⟩
  | .seamLate a0 a1 a2 => ⟨_, _, exec_seamLate s a0 a1 a2, fun _ h => h.seamLateNow⟩
  | .edgeLate a0 a1 a2 => ⟨_, _, exec_edgeLate s a0 a1 a2, fun _ h => h.edgeLateNow⟩
  | .countEdge a0 a1 a2 a3 => ⟨_, _, exec_countEdge s a0 a1 a2 a3, fun _ h => h.edgeSeen⟩
  | .indexEdge a0 a1 => ⟨_, _, exec_indexEdge s a0 a1, fun _ h => h.indexEdge⟩
  | .speedTimeout a0 a1 => ⟨_, _, exec_speedTimeout s a0 a1, fun _ h => h.encTimeout⟩
  | .syntheticCount a0 a1 => ⟨_, _, exec_syntheticCount s a0 a1, fun _ h => h.syntheticCount⟩
  | .positionSet a0 a1 a2 a3 => ⟨_, _, exec_positionSet s a0 a1 a2 a3, fun _ h => h.dictionary⟩
  | .pgoPulse a0 a1 => ⟨_, _, exec_pgoPulse s a0 a1, fun _ h => h.pgoPulse⟩
  | .triggerHeldIssue a0 a1 => ⟨_, _, exec_triggerHeldIssue s a0 a1, fun _ h => h.heldIssue⟩
  | .frameLines a0 a1 a2 a3 => ⟨_, _, exec_frameLines s a0 a1 a2 a3, fun _ h => h.dictionary⟩
  | .lineCorrection a0 a1 => ⟨_, _, exec_lineCorrection s a0 a1, fun _ h => h.lineThrough⟩
  | .calCaptureDark a0 a1 a2 => ⟨_, _, exec_calCaptureDark s a0 a1 a2, fun _ h => h.dictionary⟩
  | .calCaptureFlat a0 a1 a2 => ⟨_, _, exec_calCaptureFlat s a0 a1 a2, fun _ h => h.dictionary⟩
  | .calCaptureTimeout a0 a1 => ⟨_, _, exec_calCaptureTimeout s a0 a1, fun _ h => h.captureTimeout⟩
  | .stitchLine a0 a1 a2 => ⟨_, _, exec_stitchLine s a0 a1 a2, fun _ h => h.stitchNext⟩
  | .cometRelease a0 a1 => ⟨_, _, exec_cometRelease s a0 a1, fun _ h => h.cometRelease⟩
  | .fuseHold a0 a1 => ⟨_, _, exec_fuseHold s a0 a1, fun _ h => h.fuseHold⟩
  | .histClear a0 a1 a2 a3 => ⟨_, _, exec_histClear s a0 a1 a2 a3, fun _ h => h.dictionary⟩
  | .build a0 a1 a2 a3 => ⟨_, _, exec_build s a0 a1 a2 a3, fun _ h => h.dictionary⟩
  | .buildUnit a0 a1 a2 a3 => ⟨_, _, exec_buildUnit s a0 a1 a2 a3, fun _ h => h.buildUnit⟩
  | .buildTimeout a0 a1 => ⟨_, _, exec_buildTimeout s a0 a1, fun _ h => h.buildTimeout⟩
  | .tableVerify a0 a1 a2 => ⟨_, _, exec_tableVerify s a0 a1 a2, fun _ h => h.tableVerify.tableReads⟩
  | .dispatch a0 => ⟨_, _, exec_dispatch s a0, fun _ h => h.dispatch⟩
  | .cropFetch a0 a1 a2 => ⟨_, _, exec_cropFetch s a0 a1 a2, fun _ h => h.cropFetch⟩
  | .runEnd a0 a1 a2 => ⟨_, _, exec_runEnd s a0 a1 a2, fun _ h => h.runEnd⟩
  | .tDecExpiry a0 a1 => ⟨_, _, exec_tDecExpiry s a0 a1, fun _ h => h.tDecExpiry⟩
  | .brickUpset a0 a1 a2 => ⟨_, _, exec_brickUpset s a0 a1 a2, fun _ h => h.brickUpset⟩
  | .sramError a0 a1 a2 a3 => ⟨_, _, exec_sramError s a0 a1 a2 a3, fun _ h => h.sramError⟩
  | .tileReset a0 a1 => ⟨_, _, exec_tileReset s a0 a1, fun _ h => h.tileReset⟩
  | .regionReset a0 a1 => ⟨_, _, exec_regionReset s a0 a1, fun _ h => h.regionReset⟩
  | .modelCheck a0 a1 => ⟨_, _, exec_modelCheck s a0 a1, fun _ h => h.modelCheck⟩
  | .norStored a0 a1 => ⟨_, _, exec_norStored s a0 a1, fun _ h => h.norStored⟩
  | .clear a0 a1 a2 a3 => ⟨_, _, exec_clear s a0 a1 a2 a3, fun _ h => h.dictionary⟩
  | .tickStart a0 a1 => ⟨_, _, exec_tickStart s a0 a1, fun _ h => h.tickStart⟩
  | .statusFrame a0 a1 a2 => ⟨_, _, exec_statusFrame s a0 a1 a2, fun _ h => h.statusFrame⟩
  | .statusJudge a0 a1 => ⟨_, _, exec_statusJudge s a0 a1, fun _ h => h.statusJudge⟩
  | .vbPresAssert a0 a1 => ⟨_, _, exec_vbPresAssert s a0 a1, fun _ h => h.vbPresent⟩
  | .vbPresRelease a0 a1 => ⟨_, _, exec_vbPresRelease s a0 a1, fun _ h => h.vbAbsent⟩
  | .busStartIdle a0 a1 => ⟨_, _, exec_busStartIdle s a0 a1, fun _ h => h.busStartIdle⟩
  | .testEnable a0 a1 a2 a3 => ⟨_, _, exec_testEnable s a0 a1 a2 a3, fun _ h => h.dictionary⟩
  | .safeNAssert a0 => ⟨_, _, exec_safeNAssert s a0, fun _ h => h.safeAssert⟩
  | .safeNRelease a0 => ⟨_, _, exec_safeNRelease s a0, fun _ h => h.safeRelease⟩
  | .timedEdge a0 a1 => ⟨_, _, exec_timedEdge s a0 a1, fun _ h => h.timedEdge⟩
  | .edges a0 a1 a2 a3 => ⟨_, _, exec_edges s a0 a1 a2 a3, fun _ h => h.dictionary⟩
  | .flush a0 a1 a2 a3 => ⟨_, _, exec_flush s a0 a1 a2 a3, fun _ h => h.dictionary⟩
  | .hbmRequest a0 a1 a2 a3 a4 a5 => ⟨_, _, exec_hbmRequest s a0 a1 a2 a3 a4 a5, fun _ h => h.hbmRequest.stacksReviewed⟩
  | .lineWriteDrop a0 a1 => ⟨_, _, exec_lineWriteDrop s a0 a1, fun _ h => h.lineWriteDrop⟩
  | .stackTemperature a0 a1 a2 => ⟨_, _, exec_stackTemperature s a0 a1 a2, fun _ h => h.stackTemperature⟩
  | .refresh a0 a1 => ⟨_, _, exec_refresh s a0 a1, fun _ h => h.hbmRefresh⟩
  | .powerDown a0 a1 => ⟨_, _, exec_powerDown s a0 a1, fun _ h => h.hbmPowerDown⟩
  | .patrolScrub a0 a1 a2 => ⟨_, _, exec_patrolScrub s a0 a1 a2, fun _ h => h.patrolScrub.stacksReviewed⟩
  | .start a0 a1 a2 a3 => ⟨_, _, exec_start s a0 a1 a2 a3, fun _ h => h.dictionary⟩
  | .stop a0 a1 a2 a3 => ⟨_, _, exec_stop s a0 a1 a2 a3, fun _ h => h.dictionary⟩
  | .flightEntry a0 => ⟨_, _, exec_flightEntry s a0, fun _ h => h.flightEntry⟩
  | .descriptorFetch a0 a1 => ⟨_, _, exec_descriptorFetch s a0 a1, fun _ h => h.dmaFetch⟩
  | .followReady a0 a1 => ⟨_, _, exec_followReady s a0 a1, fun _ h => h.followReady⟩
  | .descriptorDone a0 a1 => ⟨_, _, exec_descriptorDone s a0 a1, fun _ h => h.descriptorDone⟩
  | .busError a0 a1 => ⟨_, _, exec_busError s a0 a1, fun _ h => h.busError⟩
  | .codecBlock a0 a1 => ⟨_, _, exec_codecBlock s a0 a1, fun _ h => h.codecBlock⟩
  | .checkUnitGrant a0 a1 => ⟨_, _, exec_checkUnitGrant s a0 a1, fun _ h => h.grantUnit⟩
  | .eventDelivery a0 => ⟨_, _, exec_eventDelivery s a0, fun _ h => h.eventDelivery⟩
  | .ethLinkUp a0 a1 => ⟨_, _, exec_ethLinkUp s a0 a1, fun _ h => h.ethUp⟩
  | .ethLinkDown a0 a1 => ⟨_, _, exec_ethLinkDown s a0 a1, fun _ h => h.ethDown⟩
  | .arpFrame a0 a1 a2 a3 a4 a5 => ⟨_, _, exec_arpFrame s a0 a1 a2 a3 a4 a5, fun _ h => h.arpFrame⟩
  | .icmpEcho a0 a1 a2 a3 => ⟨_, _, exec_icmpEcho s a0 a1 a2 a3, fun _ h => h.icmpEcho⟩
  | .arpRetry a0 a1 a2 => ⟨_, _, exec_arpRetry s a0 a1 a2, fun _ h => h.arpRetry⟩
  | .arpRefresh a0 a1 a2 => ⟨_, _, exec_arpRefresh s a0 a1 a2, fun _ h => h.arpRefresh⟩
  | .arpExpiry a0 a1 a2 => ⟨_, _, exec_arpExpiry s a0 a1 a2, fun _ h => h.arpExpiry⟩
  | .sync a0 a1 a2 a3 => ⟨_, _, exec_sync s a0 a1 a2 a3, fun _ h => h.syncFrame⟩
  | .announce a0 a1 a2 a3 a4 => ⟨_, _, exec_announce s a0 a1 a2 a3 a4, fun _ h => h.announceFrame⟩
  | .ptpMessage a0 a1 a2 => ⟨_, _, exec_ptpMessage s a0 a1 a2, fun _ h => h.ptpMessage⟩
  | .ptpSend a0 a1 a2 => ⟨_, _, exec_ptpSend s a0 a1 a2, fun _ h => h.ptpSend⟩
  | .syncTimeout a0 => ⟨_, _, exec_syncTimeout s a0, fun _ h => h.syncTimeout⟩
  | .announceTimeout a0 a1 => ⟨_, _, exec_announceTimeout s a0 a1, fun _ h => h.announceTimeout⟩
  | .step a0 a1 a2 => ⟨_, _, exec_step s a0 a1 a2, fun _ h => h.dictionary⟩
  | .stepWithdraw a0 => ⟨_, _, exec_stepWithdraw s a0, fun _ h => h.stepWithdraw⟩
  | .keyPress a0 a1 => ⟨_, _, exec_keyPress s a0 a1, fun _ h => h.keySeen⟩
  | .keyRelease a0 a1 => ⟨_, _, exec_keyRelease s a0 a1, fun _ h => h.keyRelease⟩
  | .longPress a0 a1 => ⟨_, _, exec_longPress s a0 a1, fun _ h => h.longPress⟩
  | .touchScan a0 a1 => ⟨_, _, exec_touchScan s a0 a1, fun _ h => h.touchScan⟩
  | .touchStuck a0 a1 => ⟨_, _, exec_touchStuck s a0 a1, fun _ h => h.touchStuck⟩
  | .lampBlink a0 a1 => ⟨_, _, exec_lampBlink s a0 a1, fun _ h => h.lampBlink⟩
  | .campwrFlt a0 a1 => ⟨_, _, exec_campwrFlt s a0 a1, fun _ h => h.camFault⟩
  | .pwrRetry a0 a1 => ⟨_, _, exec_pwrRetry s a0 a1, fun _ h => h.pwrRetry⟩
  | .pwrStagger a0 => ⟨_, _, exec_pwrStagger s a0, fun _ h => h.pwrStagger⟩
  | .pwrEnable a0 a1 a2 a3 => ⟨_, _, exec_pwrEnable s a0 a1 a2 a3, fun _ h => h.dictionary⟩
  | .pwrReset a0 a1 a2 a3 => ⟨_, _, exec_pwrReset s a0 a1 a2 a3, fun _ h => h.dictionary⟩
  | .clearRetirements a0 a1 a2 => ⟨_, _, exec_clearRetirements s a0 a1 a2, fun _ h => h.dictionary⟩
  | .preferred a0 a1 a2 => ⟨_, _, exec_preferred s a0 a1 a2, fun _ h => h.dictionary⟩
  | .fwProgrammed a0 a1 => ⟨_, _, exec_fwProgrammed s a0 a1, fun _ h => h.imageProgrammed⟩
  | .dieBridgeFailure a0 => ⟨_, _, exec_dieBridgeFailure s a0, fun _ h => h.dieLoss⟩
  | .watchdog a0 => ⟨_, _, exec_watchdog s a0, fun _ h => h.watchdog⟩
  | .dmaParityError a0 a1 => ⟨_, _, exec_dmaParityError s a0 a1, fun _ h => h.dmaParity⟩
  | .eventChannelParityError a0 a1 => ⟨_, _, exec_eventChannelParityError s a0 a1, fun _ h => h.channelParity⟩
  | .rxDropped a0 a1 => ⟨_, _, exec_rxDropped s a0 a1, fun _ h => h.rxDrop⟩

/-- A command leaves the stores canonical: as time passes, by its effect, and as the module settles. -/
theorem State.run_keeps_stores {s t : State} {dt : Nat} {admits : State → Bool} {effect : State → State} (h : s.storesCanonical)
    (heffect : ∀ z : State, z.storesCanonical → (effect z).storesCanonical) (ht : s.run dt admits effect = .next t) : t.storesCanonical := by
  rw [State.run_next] at ht
  rw [← next_inj ht]
  refine State.storesCanonical.of_settled ?_ (Settled.settle _ _)
  have hready : (s.advance dt).storesCanonical := h.advance
  exact (State.storesCanonical.ite (heffect _ hready) hready : (if admits (s.advance dt) then _ else _ : State).storesCanonical)

/-- Settles O59, command by command. -/
theorem storesStayCanonical : Obligations.StoresStayCanonical := by
  intro s t hs ht
  cases hp : s.pending with
  | nil =>
    rw [next_inj (ht.symm.trans (step_idle hp))]
    exact hs
  | cons c rest =>
    rw [stepRunsTheFront c rest s hp] at ht
    obtain ⟨admits, effect, hrun, heffect⟩ := exec_keeps_stores { s with pending := rest } c
    exact State.run_keeps_stores (s := { s with pending := rest }) hs heffect (hrun ▸ ht)

end Sys2Proof.Machine
end
